-- ==== Sys2Proof/Word.lean ====
section
/-! DEFINITION. The words of the S4: bytes, 32-bit lane words, 64-bit scalar words (00 R2, R9). -/

namespace Sys2Proof

/-- One byte of memory. -/
abbrev Byte := BitVec 8

/-- A lane word: v, o and q registers and predicate masks (05 R84). -/
abbrev Word := BitVec 32

/-- A scalar word or an address (05 R84). -/
abbrev DWord := BitVec 64

end Sys2Proof
end

