-- ==== Sys2Proof/Machine/Float.lean ====
section
/-! DEFINITION. Floating-point formats, one exact rounding, and the operations of 04 and 07 on single elements
(04 R62-R72, R77, 07 R132-R142). -/

namespace Sys2Proof.Machine

/-- A floating-point format (04 R62): exponent bits, fraction bits, bias, and whether it has infinities. -/
structure Fmt where
  ebits : Nat
  fbits : Nat
  bias : Nat
  inf : Bool
deriving DecidableEq, Repr

def fmt32 : Fmt := ⟨8, 23, 127, true⟩
def fmt16 : Fmt := ⟨5, 10, 15, true⟩
def fmtB16 : Fmt := ⟨8, 7, 127, true⟩
def fmtE5 : Fmt := ⟨5, 2, 15, true⟩
def fmtE4 : Fmt := ⟨4, 3, 7, false⟩

/-- Event bits, in FPFLAGS order (04 R70). -/
abbrev Ev := BitVec 6
def evNV : Ev := 1
def evOF : Ev := 2
def evDZ : Ev := 4
def evNO : Ev := 8
def evUF : Ev := 16
def evNX : Ev := 32

/-- A decoded value: a finite one is m * 2^e with a sign. -/
inductive FVal where
  | nan
  | inf (neg : Bool)
  | fin (neg : Bool) (m : Nat) (e : Int)
deriving DecidableEq, Repr

/-- A result's bits and the events it raised. -/
structure FRes where
  bits : Nat
  ev : Ev
deriving DecidableEq, Repr

/-- The value of an encoding (04 R62, R63). -/
def Fmt.val (f : Fmt) (b : Nat) : FVal :=
  let x := b / 2 ^ f.fbits % 2 ^ f.ebits
  let frac := b % 2 ^ f.fbits
  let neg := decide (b / 2 ^ (f.fbits + f.ebits) % 2 = 1)
  let lo : Int := 1 - (f.bias : Int) - f.fbits
  if x = 2 ^ f.ebits - 1 ∧ f.inf then (if frac = 0 then .inf neg else .nan)
  else if x = 2 ^ f.ebits - 1 ∧ frac = 2 ^ f.fbits - 1 then .nan
  else if x = 0 then .fin neg frac lo
  else .fin neg (2 ^ f.fbits + frac) (lo + (x - 1))

/-- The sign bit of a format. -/
def Fmt.sign (f : Fmt) (neg : Bool) : Nat := if neg then 2 ^ (f.fbits + f.ebits) else 0

/-- The canonical NaN (04 R62-R64). -/
def Fmt.nan (f : Fmt) : Nat :=
  if f.inf then (2 ^ f.ebits - 1) * 2 ^ f.fbits + 2 ^ (f.fbits - 1) else 2 ^ (f.ebits + f.fbits) - 1

/-- The magnitude bits of the largest finite value (04 R62, R63). -/
def Fmt.maxBits (f : Fmt) : Nat :=
  if f.inf then (2 ^ f.ebits - 1) * 2 ^ f.fbits - 1 else 2 ^ (f.ebits + f.fbits) - 2

/-- Infinity; the canonical NaN where the format has none (04 R63). -/
def Fmt.infBits (f : Fmt) (neg : Bool) : Nat := if f.inf then f.sign neg + f.maxBits + 1 else f.nan

/-- Whether a rounding mode rounds the magnitude up, from the quotient's parity and the remainder against the half
(04 R67): 0 RN-even, 1 RZ, 2 RU, 3 RD. -/
def roundUp (mode : Nat) (neg : Bool) (q r half2 : Nat) : Bool :=
  if mode = 0 then decide (half2 < 2 * r) || (decide (2 * r = half2) && decide (q % 2 = 1))
  else if mode = 1 then false
  else if mode = 2 then !neg && decide (r ≠ 0)
  else neg && decide (r ≠ 0)

/-- Round m * 2^e to a whole multiple of 2^qe: the multiple, and whether it is inexact. -/
def roundTo (mode : Nat) (neg : Bool) (m : Nat) (e qe : Int) : Nat × Bool :=
  if qe ≤ e then (m * 2 ^ (e - qe).toNat, false)
  else
    let d := 2 ^ (qe - e).toNat
    let q := m / d
    let r := m % d
    (q + (roundUp mode neg q r d).toNat, decide (r ≠ 0))

/-- An overflow's result in a mode (04 R63, R68). -/
def Fmt.overflow (f : Fmt) (mode : Nat) (neg : Bool) : Nat :=
  if !f.inf then f.sign neg + f.maxBits
  else if mode = 0 ∨ (mode = 2 ∧ !neg) ∨ (mode = 3 ∧ neg) then f.sign neg + f.maxBits + 1
  else f.sign neg + f.maxBits

/-- Round the exact value m * 2^e once to the format (04 R68), with overflow, underflow and inexact (04 R69); tiny is
judged after rounding with an unbounded exponent (log 17). -/
def Fmt.round (f : Fmt) (mode : Nat) (neg : Bool) (m : Nat) (e : Int) : FRes :=
  if m = 0 then ⟨f.sign neg, 0⟩
  else
    let lead : Int := e + Nat.log2 m
    let emin : Int := 1 - (f.bias : Int)
    let qe := max lead emin - f.fbits
    let (q, nx) := roundTo mode neg m e qe
    let mag := ((qe + f.bias + f.fbits - 1).toNat) * 2 ^ f.fbits + q
    if f.maxBits < mag then ⟨f.overflow mode neg, evOF ||| evNX⟩
    else
      let (u, _) := roundTo mode neg m e (lead - f.fbits)
      let tiny := decide (lead + (if 2 ^ (f.fbits + 1) ≤ u then 1 else 0) < emin)
      ⟨f.sign neg + mag, (if nx then evNX else 0) ||| (if nx && tiny then evUF else 0)⟩

/-- The sign of an exact zero sum (04 R65). -/
def zeroSign (mode : Nat) (a b : Bool) : Bool := if a = b then a else decide (mode = 3)

/-- Add exactly: sign, magnitude and exponent of (±ma 2^ea) + (±mb 2^eb). -/
def exactAdd (mode : Nat) (na : Bool) (ma : Nat) (ea : Int) (nb : Bool) (mb : Nat) (eb : Int) : Bool × Nat × Int :=
  let e := min ea eb
  let xa : Int := (if na then -1 else 1) * (ma * 2 ^ (ea - e).toNat : Nat)
  let xb : Int := (if nb then -1 else 1) * (mb * 2 ^ (eb - e).toNat : Nat)
  let t := xa + xb
  if t = 0 then (zeroSign mode na nb, 0, e) else (decide (t < 0), t.natAbs, e)

/-- NaN with events. -/
def Fmt.invalid (f : Fmt) (ev : Ev) : FRes := ⟨f.nan, ev⟩

/-- The NaN-operand event of a list of operands (04 R69). -/
def nanOperand (vs : List FVal) : Ev := if vs.elem .nan then evNO else 0

/-- va × vb + vc with one rounding (07 R132); `addend` none is a plain product, whose zero keeps its own sign. -/
def Fmt.fma (f : Fmt) (mode : Nat) (a b : FVal) (c : Option FVal) : FRes :=
  let no := nanOperand ([a, b] ++ c.toList)
  let zeroTimesInf : Bool :=
    match a, b with
    | .inf _, .fin _ 0 _ => true
    | .fin _ 0 _, .inf _ => true
    | _, _ => false
  if no ≠ 0 then f.invalid (no ||| (if zeroTimesInf then evNV else 0))
  else if zeroTimesInf then f.invalid evNV
  else
    let neg : FVal → Bool := fun v =>
      match v with
      | .nan => false
      | .inf n => n
      | .fin n _ _ => n
    let pn := xor (neg a) (neg b)
    match a, b with
    | .fin _ ma ea, .fin _ mb eb =>
      match c with
      | none => f.round mode pn (ma * mb) (ea + eb)
      | some (.fin nc mc ec) =>
        let r := exactAdd mode pn (ma * mb) (ea + eb) nc mc ec
        f.round mode r.1 r.2.1 r.2.2
      | some v => ⟨f.infBits (neg v), if f.inf then 0 else evNV⟩
    | _, _ =>
      match c with
      | some (.inf n) => if n = pn then ⟨f.infBits pn, 0⟩ else f.invalid evNV
      | _ => ⟨f.infBits pn, 0⟩

/-- Negate a value. -/
def FVal.neg : FVal → FVal
  | .nan => .nan
  | .inf n => .inf !n
  | .fin n m e => .fin (!n) m e

/-- One, exactly. -/
def FVal.one : FVal := .fin false 1 0

def Fmt.mul (f : Fmt) (mode : Nat) (a b : FVal) : FRes := f.fma mode a b none
def Fmt.add (f : Fmt) (mode : Nat) (a b : FVal) : FRes := f.fma mode a .one (some b)
def Fmt.sub (f : Fmt) (mode : Nat) (a b : FVal) : FRes := f.fma mode a .one (some b.neg)

/-- A quotient as a dyadic number with a sticky bit below more bits than any format keeps. -/
def ratio (n d : Nat) : Nat × Int :=
  let k := Nat.log2 d + 40
  (2 * (n * 2 ^ k / d) + (if n * 2 ^ k % d = 0 then 0 else 1), -(k : Int) - 1)

/-- va ÷ vb (07 R135). -/
def Fmt.div (f : Fmt) (mode : Nat) (a b : FVal) : FRes :=
  match a, b with
  | .nan, _ => f.invalid evNO
  | _, .nan => f.invalid evNO
  | .inf _, .inf _ => f.invalid evNV
  | .inf na, .fin nb _ _ => ⟨f.infBits (xor na nb), 0⟩
  | .fin na _ _, .inf nb => ⟨f.sign (xor na nb), 0⟩
  | .fin na ma ea, .fin nb mb eb =>
    if mb = 0 then (if ma = 0 then f.invalid evNV else ⟨f.infBits (xor na nb), evDZ⟩)
    else if ma = 0 then ⟨f.sign (xor na nb), 0⟩
    else
      let r := ratio ma mb
      f.round mode (xor na nb) r.1 (r.2 + ea - eb)

/-- The square root as a dyadic number with a sticky bit. -/
def rootOf (m : Nat) (e : Int) : Nat × Int :=
  let odd := e % 2 ≠ 0
  let m1 := if odd then 2 * m else m
  let e1 := if odd then e - 1 else e
  let x := m1 * 2 ^ 80
  let r := Nat.sqrt x
  (2 * r + (if r * r = x then 0 else 1), (e1 - 80) / 2 - 1)

/-- √va (07 R135). -/
def Fmt.sqrt (f : Fmt) (mode : Nat) (a : FVal) : FRes :=
  match a with
  | .nan => f.invalid evNO
  | .inf n => if n then f.invalid evNV else ⟨f.infBits false, 0⟩
  | .fin n m e =>
    if m = 0 then ⟨f.sign n, 0⟩
    else if n then f.invalid evNV
    else
      let r := rootOf m e
      f.round mode false r.1 r.2

/-- 1 ÷ va (07 R135). -/
def Fmt.rcp (f : Fmt) (mode : Nat) (a : FVal) : FRes := f.div mode .one a

/-- 1 ÷ √va, rounded once (07 R135): the root of the exact ratio 1 / va with a sticky bit. -/
def Fmt.rsq (f : Fmt) (mode : Nat) (a : FVal) : FRes :=
  match a with
  | .nan => f.invalid evNO
  | .inf n => if n then f.invalid evNV else ⟨f.sign false, 0⟩
  | .fin n m e =>
    if m = 0 then ⟨f.infBits n, evDZ⟩
    else if n then f.invalid evNV
    else
      -- 1/√(m 2^e) = √(2^k / m) 2^(-(e + k)/2) with e + k even; the integer root is sticky where either step is inexact
      let k : Nat := 2 * (Nat.log2 m + 60) + (if e % 2 = 0 then 0 else 1)
      let x := 2 ^ k / m
      let r := Nat.sqrt x
      let exact := decide (2 ^ k % m = 0) && decide (r * r = x)
      f.round mode false (2 * r + (if exact then 0 else 1)) ((-(e + k)) / 2 - 1)

/-- va × 2^i (07 R138); beyond 600 either way the result no longer depends on i. -/
def Fmt.scale (f : Fmt) (mode : Nat) (bits : Nat) (i : Int) : FRes :=
  match f.val bits with
  | .nan => f.invalid evNO
  | .inf _ => ⟨bits, 0⟩
  | .fin n m e => if m = 0 then ⟨bits, 0⟩ else f.round mode n m (e + max (-600) (min 600 i))

/-- An ordering value: a < b on values, with −0 below +0 where `zeros`. -/
def FVal.lt (zeros : Bool) (a b : FVal) : Bool :=
  match a, b with
  | .nan, _ => false
  | _, .nan => false
  | .inf na, .inf nb => na && !nb
  | .inf na, .fin _ _ _ => na
  | .fin _ _ _, .inf nb => !nb
  | .fin na ma ea, .fin nb mb eb =>
    let r := exactAdd 0 na ma ea (!nb) mb eb
    if r.2.1 = 0 then zeros && (ma == 0) && (mb == 0) && na && !nb else r.1

/-- Equal values, with +0 = −0 (08 R144). -/
def FVal.eq (a b : FVal) : Bool :=
  match a, b with
  | .nan, _ => false
  | _, .nan => false
  | _, _ => !a.lt false b && !b.lt false a

/-- FMIN and FMAX (07 R133). -/
def Fmt.minmax (f : Fmt) (mx : Bool) (x y : Nat) : FRes :=
  let a := f.val x
  let b := f.val y
  if a = .nan ∧ b = .nan then ⟨f.nan, evNO⟩
  else if a = .nan then ⟨y, evNO⟩
  else if b = .nan then ⟨x, evNO⟩
  else if mx then ⟨if a.lt true b then y else x, 0⟩
  else ⟨if b.lt true a then y else x, 0⟩

/-- FRINT (07 R137). -/
def Fmt.rint (f : Fmt) (mode : Nat) (bits : Nat) : FRes :=
  match f.val bits with
  | .nan => f.invalid evNO
  | .inf _ => ⟨bits, 0⟩
  | .fin n m e =>
    if 0 ≤ e ∨ m = 0 then ⟨bits, 0⟩
    else
      let r := roundTo mode n m e 0
      ⟨(f.round mode n r.1 0).bits, if r.2 then evNX else 0⟩

/-- A conversion between formats (04 R72): exact where it widens. -/
def Fmt.cvt (f : Fmt) (mode : Nat) (v : FVal) : FRes :=
  match v with
  | .nan => f.invalid evNO
  | .inf n => if f.inf then ⟨f.infBits n, 0⟩ else f.invalid evNV
  | .fin n m e => f.round mode n m e

/-- A signed integer to a format (04 R72). -/
def Fmt.ofInt (f : Fmt) (mode : Nat) (x : Int) : FRes := f.round mode (decide (x < 0)) x.natAbs 0

/-- A value to an integer in lo..hi (04 R72): a NaN gives 0 with both events; a value out of range gives the end of the
range with invalid alone. -/
def toInt (mode : Nat) (lo hi : Int) (v : FVal) : Int × Ev :=
  match v with
  | .nan => (0, evNO ||| evNV)
  | .inf n => (if n then lo else hi, evNV)
  | .fin n m e =>
    let r := roundTo mode n m e 0
    let x : Int := if n then -(r.1 : Int) else r.1
    if x < lo then (lo, evNV) else if hi < x then (hi, evNV) else (x, if r.2 then evNX else 0)

/-- The FEXP2C coefficients (04 R77), highest power first. -/
def exp2Coeffs : Nat × Nat × Nat × Nat := (0x3DA2B190, 0x3E65E1D8, 0x3F32315C, 0x3F800000)

/-- FEXP2C (04 R77). -/
def exp2c (bits : Nat) : FRes :=
  match fmt32.val bits with
  | .nan => ⟨fmt32.nan, evNO⟩
  | .inf n => if n then ⟨0, 0⟩ else ⟨fmt32.infBits false, 0⟩
  | .fin n m e =>
    if (FVal.fin false 128 0).lt false (.fin n m e) ∨ (FVal.fin n m e).eq (.fin false 128 0) then
      ⟨fmt32.infBits false, evOF ||| evNX⟩
    else if (FVal.fin n m e).lt false (.fin true 150 0) then ⟨0, evUF ||| evNX⟩
    else
      -- floor and fraction
      let fl : Int :=
        if 0 ≤ e then (if n then -((m * 2 ^ e.toNat : Nat) : Int) else (m * 2 ^ e.toNat : Nat))
        else (if n then -(((m + 2 ^ (-e).toNat - 1) / 2 ^ (-e).toNat : Nat) : Int) else (m / 2 ^ (-e).toNat : Nat))
      let fr := exactAdd 0 n m e (decide (0 < fl)) fl.natAbs 0
      let x : FVal := .fin fr.1 fr.2.1 fr.2.2
      let (c3, c2, c1, c0) := exp2Coeffs
      let r1 := fmt32.fma 0 (fmt32.val c3) x (some (fmt32.val c2))
      let r2 := fmt32.fma 0 (fmt32.val r1.bits) x (some (fmt32.val c1))
      let r3 := fmt32.fma 0 (fmt32.val r2.bits) x (some (fmt32.val c0))
      let r4 := fmt32.scale 0 r3.bits fl
      let nx := (r1.ev ||| r2.ev ||| r3.ev ||| r4.ev) &&& evNX
      let small := decide (r4.bits < 0x00800000)
      ⟨r4.bits, nx ||| (r4.ev &&& evOF) ||| (if small && decide (nx ≠ 0) then evUF else 0)⟩

end Sys2Proof.Machine
end

