-- ==== Sys2Proof/Syntax.lean ====
section
/-! DEFINITION. The syntax of the S4: operand shapes and the one type of instructions and events, a constructor
for each row of the table of operations and events (02 R14-R45, R401; 95_what_each_step_holds). -/

namespace Sys2Proof

/-- The second operand of a scalar instruction: a register, or a sign-extended 9-bit immediate (02 R33). -/
inductive SSrc where
  | reg (r : Nat)
  | imm (i : BitVec 9)
deriving DecidableEq, Repr

/-- Bits [31:22] of a scalar word: I in the lowest bit, then sb or imm9 (02 R33). -/
def SSrc.code : SSrc → Nat
  | .reg r => 2 * r
  | .imm i => 1 + 2 * i.toNat

/-- The register index fits its field. -/
def SSrc.wf : SSrc → Bool
  | .reg r => decide (r < 64)
  | .imm _ => true

/-- The operand selector ob5 (02 R29). -/
inductive Ob where
  /-- o0-o15 of the lane -/
  | o (k : Nat)
  /-- q0-q3 of the lane -/
  | q (k : Nat)
  /-- s8-s15 broadcast -/
  | s (r : Nat)
  /-- one of the four constants 0, 1, -1, 2 in the operation's type -/
  | const (c : Nat)
deriving DecidableEq, Repr

/-- The code of a selector (02 R29). -/
def Ob.code : Ob → Nat
  | .o k => k
  | .q k => 16 + k
  | .s r => 12 + r
  | .const c => 28 + c

/-- The selector of a code (02 R29). -/
def Ob.ofCode (n : Nat) : Ob :=
  if n < 16 then .o n else if n < 20 then .q (n - 16) else if n < 28 then .s (n - 12) else .const (n - 28)

/-- The selector names a register or constant that exists. -/
def Ob.wf : Ob → Bool
  | .o k => decide (k < 16)
  | .q k => decide (k < 4)
  | .s r => decide (8 ≤ r) && decide (r < 16)
  | .const c => decide (c < 4)

/-- How a compare combines its relation into the destination predicate (08 R144). -/
inductive CMode where
  | setTo | andInto | orInto | andnInto
deriving DecidableEq, Repr

/-- The code of a mode. -/
def CMode.code : CMode → Nat
  | .setTo => 0
  | .andInto => 1
  | .orInto => 2
  | .andnInto => 3

/-- The mode of a code. -/
def CMode.ofCode (n : Nat) : CMode :=
  if n = 0 then .setTo else if n = 1 then .andInto else if n = 2 then .orInto else .andnInto

/-- A group slot: compute die, core within the die, slot 0-47 or system slot 48-49 (05 R82, R100). -/
structure SlotRef where
  die : Nat
  core : Nat
  slot : Nat
deriving DecidableEq, Repr

/-- A context of a group slot (05 R89). -/
structure CtxId where
  g : SlotRef
  i : Nat
deriving DecidableEq, Repr

/-- A core. -/
structure CoreRef where
  die : Nat
  core : Nat
deriving DecidableEq, Repr

/-- An outstanding operation of a slot, by its number. -/
structure OpRef where
  g : SlotRef
  op : Nat
deriving DecidableEq, Repr

/-- What a peer answers for one row of a gather or scatter, or one lane of an atomic (27 R390-R395). -/
inductive PeerAnswer where
  /-- the bytes of the row, or the old value -/
  | data (bytes : List Byte)
  /-- the write was made -/
  | done
  /-- the request was refused or the port is down -/
  | refused
deriving DecidableEq, Repr

/-- Who accesses an I/O die register (16 R267, 00 R4). -/
inductive Agent where
  /-- a Lerast application core: privileged -/
  | app
  /-- an instruction of a context -/
  | thread (c : CtxId)
  /-- an agent that executes no instruction here -/
  | other
deriving DecidableEq, Repr

/-- Where an uncorrectable error of a core's own storage lies (10 R201). -/
inductive CoreStore where
  /-- a vector, o or q register of a slot: v, then o from 256, then q from 272 -/
  | regs (slot reg : Nat)
  /-- the scratchpad of a team -/
  | scratchpad (team : Nat)
  /-- the constant store -/
  | constants
deriving DecidableEq, Repr

/-- The path on which an uncorrectable memory error is found (22 R336). -/
inductive ErrorPath where
  /-- an outstanding load or atomic of a slot, at a physical line -/
  | load (g : SlotRef) (op : Nat) (line : Nat)
  /-- an outstanding store -/
  | store (g : SlotRef) (op : Nat) (line : Nat)
  /-- an outstanding engine operation -/
  | engine (g : SlotRef) (op : Nat) (line : Nat)
  /-- the text that a context fetches -/
  | fetch (c : CtxId) (line : Nat)
  /-- a line that the combiner wave of an object holds (20 R327) -/
  | held (obj : Nat) (line : Nat)
deriving DecidableEq, Repr

/-- A firmware or Umber image: its bytes and its signature (25 R382, 27 R399). -/
structure FirmwareImage where
  bytes : List Byte
  signature : List Byte
deriving DecidableEq, Repr

/-- One entry of an Umber image (02 R45, 25 R382). -/
structure UmberEntry where
  opcode : Nat
  operandMask : Nat
  ibud : Nat
  /-- 0 none, 1 SETA, 2 SETB -/
  flag : Nat
  /-- the cause it may raise, 0 for none -/
  fault : Nat
deriving DecidableEq, Repr

/-- A signed Umber image (25 R382). -/
structure UmberImage where
  version : Nat
  entries : List UmberEntry
  bytes : List Byte
  signature : List Byte
deriving DecidableEq, Repr

/-- A peer's request that arrives at a fabric port for an export window (27 R390-R395); an atomic by its M-class code and
its operand words. -/
inductive PeerRequest where
  | read (peer win : Nat) (va : DWord) (n : Nat)
  | write (peer win : Nat) (va : DWord) (bytes : List Byte)
  | atomic (peer win : Nat) (va : DWord) (code : Nat) (words : List Word)
deriving DecidableEq, Repr

/-- A host agent's access to device memory (23 R349). -/
inductive HostAccess where
  | read (pa n : Nat)
  | write (pa : Nat) (bytes : List Byte)
deriving DecidableEq, Repr

/-- A firmware write to the expert routing of a die (16 R282, R284). -/
inductive ExpertWrite where
  | entry (i : Nat) (v : DWord)
  | hotthr (v : Nat)
deriving DecidableEq, Repr

/-- Quarters of a QMV-family operation that one pass of the unit takes (11 R225). -/
structure QmvPart where
  r : OpRef
  quarters : List Nat
deriving DecidableEq, Repr

/-- The instructions and events of the S4, one constructor for each row of the table of operations and events. -/
inductive Instr where
  /-- CLAUSE_HEADER (R22) -/
  | clauseHeader (wait : BitVec 12) (setA : Nat) (setB : Nat) (pidx : Nat) (neg : Bool) (en : Bool)
  /-- VADD_16 (R143) -/
  | vadd16 (d : Nat) (b : Ob)
  /-- VSUB_16 (R143) -/
  | vsub16 (d : Nat) (b : Ob)
  /-- VAND_16 (R143) -/
  | vand16 (d : Nat) (b : Ob)
  /-- VOR_16 (R143) -/
  | vor16 (d : Nat) (b : Ob)
  /-- VXOR_16 (R143) -/
  | vxor16 (d : Nat) (b : Ob)
  /-- VSHL_16 (R143) -/
  | vshl16 (d : Nat) (b : Ob)
  /-- VSHR_16 (R143) -/
  | vshr16 (d : Nat) (b : Ob)
  /-- VMIN_16 (R143) -/
  | vmin16 (d : Nat) (b : Ob)
  /-- FADD_16 (R143) -/
  | fadd16 (d : Nat) (b : Ob)
  /-- FSUB_16 (R143) -/
  | fsub16 (d : Nat) (b : Ob)
  /-- FMUL_16 (R143) -/
  | fmul16 (d : Nat) (b : Ob)
  /-- FFMAQ (R143) -/
  | ffmaq (d : Nat) (b : Ob)
  /-- FMAX_16 (R143) -/
  | fmax16 (d : Nat) (b : Ob)
  /-- FMIN_16 (R143) -/
  | fmin16 (d : Nat) (b : Ob)
  /-- VMOV_16 (R143) -/
  | vmov16 (d : Nat) (b : Ob)
  /-- VMADQ (R143) -/
  | vmadq (d : Nat) (b : Ob)
  /-- SADD (R102) -/
  | sadd (d : Nat) (a : Nat) (x : SSrc)
  /-- SSUB (R102) -/
  | ssub (d : Nat) (a : Nat) (x : SSrc)
  /-- SMUL (R102) -/
  | smul (d : Nat) (a : Nat) (x : SSrc)
  /-- SMULH (R102) -/
  | smulh (d : Nat) (a : Nat) (x : SSrc)
  /-- SMULHN (R102) -/
  | smulhn (d : Nat) (a : Nat) (x : SSrc)
  /-- SDIV (R103) -/
  | sdiv (d : Nat) (a : Nat) (x : SSrc)
  /-- SDIVN (R103) -/
  | sdivn (d : Nat) (a : Nat) (x : SSrc)
  /-- SREM (R103) -/
  | srem (d : Nat) (a : Nat) (x : SSrc)
  /-- SREMN (R103) -/
  | sremn (d : Nat) (a : Nat) (x : SSrc)
  /-- SAND (R102) -/
  | sand (d : Nat) (a : Nat) (x : SSrc)
  /-- SOR (R102) -/
  | sor (d : Nat) (a : Nat) (x : SSrc)
  /-- SXOR (R102) -/
  | sxor (d : Nat) (a : Nat) (x : SSrc)
  /-- SANDN (R102) -/
  | sandn (d : Nat) (a : Nat) (x : SSrc)
  /-- SSHL (R104) -/
  | sshl (d : Nat) (a : Nat) (x : SSrc)
  /-- SSHR (R104) -/
  | sshr (d : Nat) (a : Nat) (x : SSrc)
  /-- SSAR (R104) -/
  | ssar (d : Nat) (a : Nat) (x : SSrc)
  /-- SMIN (R102) -/
  | smin (d : Nat) (a : Nat) (x : SSrc)
  /-- SMAX (R102) -/
  | smax (d : Nat) (a : Nat) (x : SSrc)
  /-- SMINN (R102) -/
  | sminn (d : Nat) (a : Nat) (x : SSrc)
  /-- SMAXN (R102) -/
  | smaxn (d : Nat) (a : Nat) (x : SSrc)
  /-- SSEQ (R106) -/
  | sseq (d : Nat) (a : Nat) (x : SSrc)
  /-- SSNE (R106) -/
  | ssne (d : Nat) (a : Nat) (x : SSrc)
  /-- SSLT (R106) -/
  | sslt (d : Nat) (a : Nat) (x : SSrc)
  /-- SSLE (R106) -/
  | ssle (d : Nat) (a : Nat) (x : SSrc)
  /-- SSLTN (R106) -/
  | ssltn (d : Nat) (a : Nat) (x : SSrc)
  /-- SSLEN (R106) -/
  | sslen (d : Nat) (a : Nat) (x : SSrc)
  /-- SCLZ (R105) -/
  | sclz (d : Nat) (a : Nat)
  /-- SPOPC (R105) -/
  | spopc (d : Nat) (a : Nat)
  /-- SSEXT (R105) -/
  | ssext (d : Nat) (a : Nat) (x : SSrc)
  /-- SZEXT (R105) -/
  | szext (d : Nat) (a : Nat) (x : SSrc)
  /-- SLI (R107) -/
  | sli (d : Nat) (imm : BitVec 16)
  /-- SLK1 (R107) -/
  | slk1 (d : Nat) (imm : BitVec 16)
  /-- SLK2 (R107) -/
  | slk2 (d : Nat) (imm : BitVec 16)
  /-- SLK3 (R107) -/
  | slk3 (d : Nat) (imm : BitVec 16)
  /-- SRSR (R108) -/
  | srsr (d : Nat) (n : Nat)
  /-- SWSR (R108) -/
  | swsr (n : Nat) (a : Nat)
  /-- SADR (R111) -/
  | sadr (d : Nat) (a : Nat) (x : SSrc)
  /-- BRA (R112) -/
  | bra (t : BitVec 16)
  /-- BZ (R114) -/
  | bz (r : Nat) (t : BitVec 16)
  /-- BNZ (R114) -/
  | bnz (r : Nat) (t : BitVec 16)
  /-- BNEG (R114) -/
  | bneg (r : Nat) (t : BitVec 16)
  /-- BNNEG (R114) -/
  | bnneg (r : Nat) (t : BitVec 16)
  /-- BALL (R114) -/
  | ball (p : Nat) (t : BitVec 16)
  /-- BANY (R114) -/
  | bany (p : Nat) (t : BitVec 16)
  /-- BNONE (R114) -/
  | bnone (p : Nat) (t : BitVec 16)
  /-- LOOP (R115) -/
  | loop (r : Nat) (t : BitVec 16)
  /-- CALL (R116) -/
  | call (t : BitVec 16)
  /-- CALLR (R116) -/
  | callr (r : Nat)
  /-- JMPR (R116) -/
  | jmpr (r : Nat)
  /-- SPLIT (R90) -/
  | split (p : Nat) (t : BitVec 16)
  /-- MERGE (R92) -/
  | merge (k : Nat)
  /-- CONT (R119) -/
  | cont (r : Nat) (t : BitVec 16)
  /-- TRAP (R123) -/
  | trap (k : Nat)
  /-- SLEEP (R125) -/
  | sleep (r : Nat)
  /-- VADD (R129) -/
  | vadd (d : Nat) (a : Nat) (b : Ob)
  /-- VSUB (R129) -/
  | vsub (d : Nat) (a : Nat) (b : Ob)
  /-- VMULLO (R129) -/
  | vmullo (d : Nat) (a : Nat) (b : Ob)
  /-- VMULHI (R129) -/
  | vmulhi (d : Nat) (a : Nat) (b : Ob)
  /-- VMULHIN (R129) -/
  | vmulhin (d : Nat) (a : Nat) (b : Ob)
  /-- VMAD (R129) -/
  | vmad (d : Nat) (a : Nat) (b : Ob)
  /-- VAND (R129) -/
  | vand (d : Nat) (a : Nat) (b : Ob)
  /-- VOR (R129) -/
  | vor (d : Nat) (a : Nat) (b : Ob)
  /-- VXOR (R129) -/
  | vxor (d : Nat) (a : Nat) (b : Ob)
  /-- VANDN (R129) -/
  | vandn (d : Nat) (a : Nat) (b : Ob)
  /-- VSHL (R129) -/
  | vshl (d : Nat) (a : Nat) (b : Ob)
  /-- VSHR (R129) -/
  | vshr (d : Nat) (a : Nat) (b : Ob)
  /-- VSAR (R129) -/
  | vsar (d : Nat) (a : Nat) (b : Ob)
  /-- VMIN (R129) -/
  | vmin (d : Nat) (a : Nat) (b : Ob)
  /-- VMAX (R129) -/
  | vmax (d : Nat) (a : Nat) (b : Ob)
  /-- VMINN (R129) -/
  | vminn (d : Nat) (a : Nat) (b : Ob)
  /-- VMAXN (R129) -/
  | vmaxn (d : Nat) (a : Nat) (b : Ob)
  /-- VABS (R129) -/
  | vabs (d : Nat) (a : Nat)
  /-- VCLZ (R129) -/
  | vclz (d : Nat) (a : Nat)
  /-- VPOPC (R129) -/
  | vpopc (d : Nat) (a : Nat)
  /-- VADD64 (R130) -/
  | vadd64 (d : Nat) (a : Nat) (b : Ob)
  /-- VSUB64 (R130) -/
  | vsub64 (d : Nat) (a : Nat) (b : Ob)
  /-- VADDSAT (R129) -/
  | vaddsat (d : Nat) (a : Nat) (b : Ob)
  /-- VDP4 (R131) -/
  | vdp4 (d : Nat) (a : Nat) (b : Ob)
  /-- VDP4N (R131) -/
  | vdp4n (d : Nat) (a : Nat) (b : Ob)
  /-- VCEQ (R144) -/
  | vceq (d : Nat) (m : CMode) (a : Nat) (b : Ob)
  /-- VCNE (R144) -/
  | vcne (d : Nat) (m : CMode) (a : Nat) (b : Ob)
  /-- VCLT (R144) -/
  | vclt (d : Nat) (m : CMode) (a : Nat) (b : Ob)
  /-- VCLE (R144) -/
  | vcle (d : Nat) (m : CMode) (a : Nat) (b : Ob)
  /-- VCLTN (R144) -/
  | vcltn (d : Nat) (m : CMode) (a : Nat) (b : Ob)
  /-- VCLEN (R144) -/
  | vclen (d : Nat) (m : CMode) (a : Nat) (b : Ob)
  /-- FCEQ (R144) -/
  | fceq (d : Nat) (m : CMode) (a : Nat) (b : Ob)
  /-- FCNE (R144) -/
  | fcne (d : Nat) (m : CMode) (a : Nat) (b : Ob)
  /-- FCLT (R144) -/
  | fclt (d : Nat) (m : CMode) (a : Nat) (b : Ob)
  /-- FCLE (R144) -/
  | fcle (d : Nat) (m : CMode) (a : Nat) (b : Ob)
  /-- FCUN (R144) -/
  | fcun (d : Nat) (m : CMode) (a : Nat) (b : Ob)
  /-- FADD (R132) -/
  | fadd (d : Nat) (a : Nat) (b : Ob)
  /-- FSUB (R132) -/
  | fsub (d : Nat) (a : Nat) (b : Ob)
  /-- FMUL (R132) -/
  | fmul (d : Nat) (a : Nat) (b : Ob)
  /-- FFMA (R132) -/
  | ffma (d : Nat) (a : Nat) (b : Ob)
  /-- FFMS (R132) -/
  | ffms (d : Nat) (a : Nat) (b : Ob)
  /-- FNMA (R132) -/
  | fnma (d : Nat) (a : Nat) (b : Ob)
  /-- FMIN (R133) -/
  | fmin (d : Nat) (a : Nat) (b : Ob)
  /-- FMAX (R133) -/
  | fmax (d : Nat) (a : Nat) (b : Ob)
  /-- FABS (R134) -/
  | fabs (d : Nat) (a : Nat)
  /-- FNEG (R134) -/
  | fneg (d : Nat) (a : Nat)
  /-- FDIV (R135) -/
  | fdiv (d : Nat) (a : Nat) (b : Ob)
  /-- FSQRT (R135) -/
  | fsqrt (d : Nat) (a : Nat)
  /-- FRCP (R135) -/
  | frcp (d : Nat) (a : Nat)
  /-- FRSQ (R135) -/
  | frsq (d : Nat) (a : Nat)
  /-- FEXP2C (R136) -/
  | fexp2c (d : Nat) (a : Nat)
  /-- FRINT (R137) -/
  | frint (d : Nat) (a : Nat)
  /-- FSCALE (R138) -/
  | fscale (d : Nat) (a : Nat) (b : Ob)
  /-- HADD2 (R140) -/
  | hadd2 (d : Nat) (a : Nat) (b : Ob)
  /-- HMUL2 (R140) -/
  | hmul2 (d : Nat) (a : Nat) (b : Ob)
  /-- HFMA2 (R140) -/
  | hfma2 (d : Nat) (a : Nat) (b : Ob)
  /-- BADD2 (R140) -/
  | badd2 (d : Nat) (a : Nat) (b : Ob)
  /-- BMUL2 (R140) -/
  | bmul2 (d : Nat) (a : Nat) (b : Ob)
  /-- BFMA2 (R140) -/
  | bfma2 (d : Nat) (a : Nat) (b : Ob)
  /-- VCVT (R141) -/
  | vcvt (d : Nat) (a : Nat) (c : Nat)
  /-- VPKE4 (R142) -/
  | vpke4 (d : Nat) (a : Nat) (b : Ob)
  /-- VPKE5 (R142) -/
  | vpke5 (d : Nat) (a : Nat) (b : Ob)
  /-- VSHFL (R146) -/
  | vshfl (d : Nat) (a : Nat) (b : Ob)
  /-- VSHFLX (R146) -/
  | vshflx (d : Nat) (a : Nat) (b : Ob)
  /-- VSHFLU (R146) -/
  | vshflu (d : Nat) (a : Nat) (b : Ob)
  /-- VSHFLD (R146) -/
  | vshfld (d : Nat) (a : Nat) (b : Ob)
  /-- VPFXADD (R146) -/
  | vpfxadd (d : Nat) (a : Nat)
  /-- VPFXMAX (R146) -/
  | vpfxmax (d : Nat) (a : Nat)
  /-- VREDADD (R146) -/
  | vredadd (d : Nat) (a : Nat)
  /-- VREDFADD (R147) -/
  | vredfadd (d : Nat) (a : Nat)
  /-- VREDMAX (R146) -/
  | vredmax (d : Nat) (a : Nat)
  /-- VBALLOT (R146) -/
  | vballot (d : Nat) (a : Nat)
  /-- VGET (R146) -/
  | vget (d : Nat) (a : Nat) (b : Ob)
  /-- VSETL (R146) -/
  | vsetl (d : Nat) (a : Nat) (b : Ob)
  /-- VLID (R146) -/
  | vlid (d : Nat)
  /-- VSR (R146) -/
  | vsr (d : Nat) (c : Nat)
  /-- VMOV (R146) -/
  | vmov (d : Nat) (a : Nat)
  /-- VMOVO (R146) -/
  | vmovo (k : Nat) (a : Nat)
  /-- PAND (R145) -/
  | pand (d : Nat) (a : Nat) (b : Nat)
  /-- POR (R145) -/
  | por (d : Nat) (a : Nat) (b : Nat)
  /-- PXOR (R145) -/
  | pxor (d : Nat) (a : Nat) (b : Nat)
  /-- PANDN (R145) -/
  | pandn (d : Nat) (a : Nat) (b : Nat)
  /-- PNOT (R145) -/
  | pnot (d : Nat) (a : Nat)
  /-- PSET (R145) -/
  | pset (d : Nat) (b : Ob)
  /-- PPOPC (R145) -/
  | ppopc (d : Nat) (a : Nat)
  /-- PFIRST (R145) -/
  | pfirst (d : Nat) (a : Nat)
  /-- LDV8N (R162) -/
  | ldv8n (t : Nat) (vx : Nat) (k : Nat) (obs : Nat)
  /-- LDV8I (R162) -/
  | ldv8i (t : Nat) (vx : Nat) (k : Nat) (obs : Nat)
  /-- LDV16N (R162) -/
  | ldv16n (t : Nat) (vx : Nat) (k : Nat) (obs : Nat)
  /-- LDV16I (R162) -/
  | ldv16i (t : Nat) (vx : Nat) (k : Nat) (obs : Nat)
  /-- LDV32 (R162) -/
  | ldv32 (t : Nat) (vx : Nat) (k : Nat) (obs : Nat)
  /-- LDV64 (R162) -/
  | ldv64 (t : Nat) (vx : Nat) (k : Nat) (obs : Nat)
  /-- LDV128 (R162) -/
  | ldv128 (t : Nat) (vx : Nat) (k : Nat) (obs : Nat)
  /-- STV8 (R165) -/
  | stv8 (t : Nat) (vx : Nat) (k : Nat) (obs : Nat)
  /-- STV16 (R165) -/
  | stv16 (t : Nat) (vx : Nat) (k : Nat) (obs : Nat)
  /-- STV32 (R165) -/
  | stv32 (t : Nat) (vx : Nat) (k : Nat) (obs : Nat)
  /-- STV64 (R165) -/
  | stv64 (t : Nat) (vx : Nat) (k : Nat) (obs : Nat)
  /-- STV128 (R165) -/
  | stv128 (t : Nat) (vx : Nat) (k : Nat) (obs : Nat)
  /-- LDS32 (R166) -/
  | lds32 (r : Nat) (imm : Nat) (k : Nat) (obs : Nat)
  /-- LDS64 (R166) -/
  | lds64 (r : Nat) (imm : Nat) (k : Nat) (obs : Nat)
  /-- STS32 (R166) -/
  | sts32 (r : Nat) (imm : Nat) (k : Nat) (obs : Nat)
  /-- STS64 (R166) -/
  | sts64 (r : Nat) (imm : Nat) (k : Nat) (obs : Nat)
  /-- LDC (R168) -/
  | ldc (t : Nat) (vx : Nat) (k : Nat)
  /-- ZLINE (R169) -/
  | zline (imm : Nat) (k : Nat)
  /-- FENCE (R171) -/
  | fence (obs : Nat)
  /-- PREF (R170) -/
  | pref (imm : Nat) (k : Nat)
  /-- BARINIT (R191) -/
  | barinit (r : Nat) (imm : Nat) (k : Nat) (obs : Nat)
  /-- BARAR (R191) -/
  | barar (r : Nat) (imm : Nat) (k : Nat) (obs : Nat)
  /-- BARWAIT (R193) -/
  | barwait (r : Nat) (imm : Nat) (k : Nat) (obs : Nat)
  /-- BARSYNC (R193) -/
  | barsync (r : Nat) (imm : Nat) (k : Nat) (obs : Nat)
  /-- BARDROP (R191) -/
  | bardrop (r : Nat) (imm : Nat) (k : Nat) (obs : Nat)
  /-- AADD (R309) -/
  | aadd (t : Nat) (vx : Nat) (k : Nat) (obs : Nat)
  /-- AAND (R309) -/
  | aand (t : Nat) (vx : Nat) (k : Nat) (obs : Nat)
  /-- AOR (R309) -/
  | aor (t : Nat) (vx : Nat) (k : Nat) (obs : Nat)
  /-- AXOR (R309) -/
  | axor (t : Nat) (vx : Nat) (k : Nat) (obs : Nat)
  /-- AMIN (R309) -/
  | amin (t : Nat) (vx : Nat) (k : Nat) (obs : Nat)
  /-- AMAX (R309) -/
  | amax (t : Nat) (vx : Nat) (k : Nat) (obs : Nat)
  /-- AMINN (R309) -/
  | aminn (t : Nat) (vx : Nat) (k : Nat) (obs : Nat)
  /-- AMAXN (R309) -/
  | amaxn (t : Nat) (vx : Nat) (k : Nat) (obs : Nat)
  /-- AXCHG (R309) -/
  | axchg (t : Nat) (vx : Nat) (k : Nat) (obs : Nat)
  /-- ACAS (R309) -/
  | acas (t : Nat) (vx : Nat) (k : Nat) (obs : Nat)
  /-- AFADD (R311) -/
  | afadd (t : Nat) (vx : Nat) (k : Nat) (obs : Nat)
  /-- ABINC (R309) -/
  | abinc (t : Nat) (vx : Nat) (k : Nat) (obs : Nat)
  /-- AWINC (R309) -/
  | awinc (t : Nat) (vx : Nat) (k : Nat) (obs : Nat)
  /-- ADECP (R309) -/
  | adecp (t : Nat) (vx : Nat) (k : Nat) (obs : Nat)
  /-- AADDL (R309) -/
  | aaddl (t : Nat) (vx : Nat) (k : Nat) (obs : Nat)
  /-- AADD64 (R309) -/
  | aadd64 (t : Nat) (vx : Nat) (k : Nat) (obs : Nat)
  /-- AXCHG64 (R309) -/
  | axchg64 (t : Nat) (vx : Nat) (k : Nat) (obs : Nat)
  /-- ACAS64 (R309) -/
  | acas64 (t : Nat) (vx : Nat) (k : Nat) (obs : Nat)
  /-- AMIN64N (R309) -/
  | amin64n (t : Nat) (vx : Nat) (k : Nat) (obs : Nat)
  /-- MMA (R214) -/
  | mma (c : Nat) (a : Nat) (b : Nat) (m : Nat) (d : Nat)
  /-- MMAZ (R214) -/
  | mmaz (c : Nat) (a : Nat) (b : Nat) (m : Nat) (d : Nat)
  /-- MCLAIM (R209) -/
  | mclaim (acc : Bool) (a : Nat) (n : Nat)
  /-- MREL (R209) -/
  | mrel (acc : Bool) (a : Nat) (n : Nat)
  /-- MLDO (R213) -/
  | mldo (a : Nat) (c : Nat) (d : Nat)
  /-- MSTA (R218) -/
  | msta (a : Nat) (c : Nat) (d : Nat) (m : Nat)
  /-- MZACC (R219) -/
  | mzacc (a : Nat) (b : Nat)
  /-- MBATON_QUERY (R221) -/
  | mbatonQuery (d : Nat)
  /-- QMV (R224) -/
  | qmv (c : Nat) (d : Nat) (b : Nat) (ni : Nat) (no : Nat)
  /-- QMVA (R224) -/
  | qmva (c : Nat) (d : Nat) (b : Nat) (ni : Nat) (no : Nat)
  /-- QMVB (R224) -/
  | qmvb (c : Nat) (d : Nat) (b : Nat) (ni : Nat) (no : Nat)
  /-- TDSET (R205) -/
  | tdset (a : Nat) (c : Nat)
  /-- TDGET (R205) -/
  | tdget (a : Nat) (c : Nat)
  /-- ATTN (R230) -/
  | attn (a : Nat) (b : Nat) (c : Nat) (d : Nat)
  /-- ATTNF (R232) -/
  | attnf (a : Nat) (c : Nat) (d : Nat)
  /-- ATTNZ (R233) -/
  | attnz (a : Nat)
  /-- MSTAT (R220) -/
  | mstat (d : Nat)
  /-- CPY (R236) -/
  | cpy (a : Nat) (b : Nat) (c : Nat) (d : Nat)
  /-- CPYWP (R237) -/
  | cpywp (c : Nat) (d : Nat)
  /-- BLKCPY (R239) -/
  | blkcpy (a : Nat) (b : Nat) (c : Nat) (d : Nat)
  /-- GATHERF (R392) -/
  | gatherf (a : Nat) (c : Nat) (d : Nat)
  /-- SCATTERF (R392) -/
  | scatterf (a : Nat) (c : Nat) (d : Nat)
  /-- LAUNCH (R275) -/
  | launch (a : Nat) (b : Nat) (c : Nat) (d : Nat)
  /-- LWAIT (R277) -/
  | lwait (c : Nat)
  /-- SPAWN (R279) -/
  | spawn (a : Nat) (b : Nat) (c : Nat) (d : Nat)
  /-- JOIN (R281) -/
  | join (b : Nat)
  /-- REORDER (R250) -/
  | reorder (align : Bool) (d : Nat) (k : Nat) (p : Nat) (n : Nat)
  /-- MREG (R317) -/
  | mreg (a : Nat) (b : Nat) (c : Nat) (d : Nat)
  /-- MREQ (R320) -/
  | mreq (a : Nat) (c : Nat) (d : Nat)
  /-- MREPLY (R325) -/
  | mreply (c : Nat)
  /-- BGRANT (R307) -/
  | bgrant (a : Nat) (b : Nat) (c : Nat) (d : Nat)
  /-- CHSEND (R396) -/
  | chsend (c : Nat) (d : Nat)
  /-- CHRECV (R396) -/
  | chrecv (c : Nat) (d : Nat)
  /-- EXPROUTE (R283) -/
  | exproute (b : Nat) (c : Nat) (d : Nat)
  /-- CFILL (R186) -/
  | cfill (a : Nat) (b : Nat) (d : Nat)
  /-- HREAD (R154) -/
  | hread (c : Nat) (d : Nat)
  /-- HWRITE (R154) -/
  | hwrite (c : Nat) (d : Nat)
  /-- HPATCH (R151) -/
  | hpatch (d : Nat)
  /-- HKILL (R156) -/
  | hkill (d : Nat)
  /-- GROW (R195) -/
  | grow (a : Nat) (c : Nat)
  /-- SHRINK (R197) -/
  | shrink (a : Nat)
  /-- EVSEL (R200) -/
  | evsel (a : Nat) (b : Nat)
  /-- EVRD (R200) -/
  | evrd (a : Nat) (c : Nat)
  /-- RET (R116) -/
  | ret
  /-- YIELD (R120) -/
  | yield
  /-- EXIT (R122) -/
  | exit
  /-- RETT (R124) -/
  | rett
  /-- VLEXIT (R148) -/
  | vlexit
  /-- STDRAIN (R172) -/
  | stdrain
  /-- MBATON_TAKE (R221) -/
  | mbatonTake
  /-- MBATON_PASS (R221) -/
  | mbatonPass
  /-- MDONE (R326) -/
  | mdone
  /-- NOP (R43) -/
  | nop
  /-- BRKPT (R44) -/
  | brkpt
  /-- HEND (R151) -/
  | hend
  /-- HKILLT (R156) -/
  | hkillt
  /-- ESC (R383) -/
  | esc (e : BitVec 22)
  /-- SLEEP_END (R125) -/
  | sleepEnd (c : CtxId)
  /-- STDRAIN_RESOLVE (R172) -/
  | stdrainResolve (c : CtxId)
  /-- BARRIER_APPLY (R192) -/
  | barrierApply (t : Nat) (k : Nat) (ops : List OpRef)
  /-- LOAD_DATA_RETURN (R162) -/
  | loadDataReturn (g : SlotRef) (op : Nat) (lanes : Word)
  /-- STORE_PERFORM (R165) -/
  | storePerform (g : SlotRef) (op : Nat) (lanes : Word)
  /-- STORE_FAULT_RECORD (R175) -/
  | storeFaultRecord (g : SlotRef) (op : Nat)
  /-- ATOMIC_PERFORM (R313) -/
  | atomicPerform (g : SlotRef) (op : Nat) (lanes : Word)
  /-- PREF_COMPLETE (R170) -/
  | prefComplete (g : SlotRef) (op : Nat)
  /-- MCLAIM_GRANT (R209) -/
  | mclaimGrant (c : CtxId)
  /-- QMV_QUARTER_COMPLETE (R225) -/
  | qmvQuarterComplete (parts : List QmvPart)
  /-- MLDO_COMPLETE (R213) -/
  | mldoComplete (g : SlotRef) (op : Nat)
  /-- MMA_COMPLETE (R217) -/
  | mmaComplete (g : SlotRef) (op : Nat) (rerun : Nat) (bad : List Nat)
  /-- MSTA_COMPLETE (R218) -/
  | mstaComplete (g : SlotRef) (op : Nat)
  /-- MZACC_COMPLETE (R219) -/
  | mzaccComplete (g : SlotRef) (op : Nat)
  /-- ATTN_COMPLETE (R231) -/
  | attnComplete (g : SlotRef) (op : Nat) (rerun : Bool) (bad : Bool)
  /-- ATTNF_COMPLETE (R232) -/
  | attnfComplete (g : SlotRef) (op : Nat)
  /-- ATTNZ_COMPLETE (R233) -/
  | attnzComplete (g : SlotRef) (op : Nat)
  /-- CPYWP_RESULT (R237) -/
  | cpywpResult (g : SlotRef) (op : Nat)
  /-- COPY_COMPLETE (R234) -/
  | copyComplete (g : SlotRef) (op : Nat) (n : Nat) (answers : List PeerAnswer)
  /-- LAUNCH_COMPLETE (R275) -/
  | launchComplete (g : SlotRef) (op : Nat)
  /-- SPAWN_COMPLETE (R279) -/
  | spawnComplete (g : SlotRef) (op : Nat)
  /-- REORDER_ARRIVE (R251) -/
  | reorderArrive (c : CtxId)
  /-- REORDER_COLLECTIVE_START (R254) -/
  | reorderCollectiveStart (t : Nat)
  /-- REORDER_COLLECTIVE_COMPLETE (R255) -/
  | reorderCollectiveComplete (t : Nat)
  /-- MREG_SLICE_RESULT (R318) -/
  | mregSliceResult (g : SlotRef) (op : Nat)
  /-- MREQ_ARRIVE (R321) -/
  | mreqArrive (g : SlotRef) (op : Nat) (lane : Nat)
  /-- MORDANT_BATCH_CLOSE (R321) -/
  | mordantBatchClose (obj : Nat)
  /-- COMBINER_WAVE_START (R323) -/
  | combinerWaveStart (obj : Nat)
  /-- COMBINER_WAVE_LIMIT (R327) -/
  | combinerWaveLimit (g : SlotRef)
  /-- CHSEND_ACCEPT (R396) -/
  | chsendAccept (g : SlotRef) (op : Nat)
  /-- CHRECV_DELIVER (R396) -/
  | chrecvDeliver (g : SlotRef) (op : Nat)
  /-- CHANNEL_MESSAGE_ARRIVE (R396) -/
  | channelMessageArrive (task : Nat) (cap : Nat) (words : List Word) (lanes : Word)
  /-- EXPERT_REPLICA_COMMIT (R284) -/
  | expertReplicaCommit (die : Nat) (entry : Nat)
  /-- CFILL_COMPLETE (R186) -/
  | cfillComplete (g : SlotRef) (op : Nat) (n : Nat)
  /-- GROW_GRANT (R195) -/
  | growGrant (c : CtxId)
  /-- GROW_DEADLOCK_FAIL (R196) -/
  | growDeadlockFail (core : CoreRef)
  /-- SHRINK_APPLY (R197) -/
  | shrinkApply (c : CtxId)
  /-- LANE_COLLECTION_CLOSE (R150) -/
  | laneCollectionClose (t : Nat) (cluster : Nat)
  /-- HANDLER_WAVE_START (R150) -/
  | handlerWaveStart (t : Nat) (cluster : Nat)
  /-- LANE_WAVE_LIMIT (R152) -/
  | laneWaveLimit (g : SlotRef)
  /-- SLOT_PROMOTION (R188) -/
  | slotPromotion (g : SlotRef)
  /-- GRACE_FORCED_SAVE (R302) -/
  | graceForcedSave (g : SlotRef)
  /-- TOPUP_LAND (R295) -/
  | topupLand (t : Nat) (ins : Bool)
  /-- CONTEXT_RESTORE (R121) -/
  | contextRestore (c : CtxId)
  /-- GROUP_EVICT_SAVE (R199) -/
  | groupEvictSave (g : SlotRef)
  /-- EVICTED_GROUP_RETURN (R199) -/
  | evictedGroupReturn (t : Nat) (gi : Nat)
  /-- LAUNCH_COMMAND_START (R268) -/
  | launchCommandStart (q : Nat)
  /-- LEASE_RESIDENCY_WALK (R343) -/
  | leaseResidencyWalk (task : Nat)
  /-- CHILD_GRID_ACCEPT (R275) -/
  | childGridAccept (task : Nat)
  /-- TEAM_PLACE (R273) -/
  | teamPlace (die : Nat)
  /-- STEAL_MESSAGE (R274) -/
  | stealMessage (n : Nat)
  /-- STEAL_TEAMS_ARRIVE (R274) -/
  | stealTeamsArrive (n : Nat)
  /-- TASK_QUEUE_PLACE (R280) -/
  | taskQueuePlace (die : Nat) (cluster : Nat)
  /-- GROUP_RETIRE (R95) -/
  | groupRetire (g : SlotRef)
  /-- SPAWN_TASK_RETIRE (R280) -/
  | spawnTaskRetire (task : Nat)
  /-- GRID_RETIRE (R271) -/
  | gridRetire (task : Nat)
  /-- QTAIL_WRITE (R266) -/
  | qtailWrite (q : Nat) (v : DWord)
  /-- QCTL_WRITE (R266) -/
  | qctlWrite (q : Nat) (v : DWord)
  /-- QUEUE_SWITCH_OUT (R371) -/
  | queueSwitchOut (q : Nat)
  /-- QUEUE_SWITCH_OUT_DONE (R371) -/
  | queueSwitchOutDone (q : Nat)
  /-- QUEUE_SWITCH_IN (R371) -/
  | queueSwitchIn (q : Nat)
  /-- IQTAIL_WRITE (R347) -/
  | iqtailWrite (v : DWord)
  /-- IQCTL_WRITE (R347) -/
  | iqctlWrite (v : DWord)
  /-- INVALIDATE_COMMAND (R348) -/
  | invalidateCommand
  /-- RQHEAD_WRITE (R373) -/
  | rqheadWrite (rq : Nat) (v : DWord)
  /-- GGO (R398) -/
  | ggo (v : DWord)
  /-- REGISTER_WRITE (R4) -/
  | registerWrite (agent : Agent) (off : Nat) (v : DWord)
  /-- PAGE_MIGRATION_START (R345) -/
  | pageMigrationStart (asid : Nat) (va : DWord) (frame : Nat)
  /-- PAGE_MIGRATION_END (R345) -/
  | pageMigrationEnd (n : Nat)
  /-- SOFT_ERROR_CORRECTED (R201) -/
  | softErrorCorrected (core : CoreRef)
  /-- CORE_STORAGE_UNCORRECTABLE (R201) -/
  | coreStorageUncorrectable (core : CoreRef) (where_ : CoreStore)
  /-- ENGINE_STORAGE_UNCORRECTABLE (R227) -/
  | engineStorageUncorrectable (core : CoreRef) (acc : Bool) (slot : Nat)
  /-- MADDER_UNCORRECTABLE (R259) -/
  | madderUncorrectable (t : Nat)
  /-- MEMORY_UNCORRECTABLE (R336) -/
  | memoryUncorrectable (path : ErrorPath)
  /-- PACKAGE_RESET (R6) -/
  | packageReset
  /-- BOOT_VERIFY (R399) -/
  | bootVerify (images : List FirmwareImage)
  /-- UMBER_IMAGE_LOAD (R382) -/
  | umberImageLoad (image : FirmwareImage)
  /-- UMBER_REPLACE_COMPLETE (R383) -/
  | umberReplaceComplete
  /-- ATTESTATION_REPORT (R399) -/
  | attestationReport (nonce : List Byte)
  /-- PORT_DOWN (R389) -/
  | portDown (port : Nat)
  /-- PEER_REQUEST (R390) -/
  | peerRequest (req : PeerRequest)
  /-- POWER_THROTTLE (R400) -/
  | powerThrottle (state : Nat)
  /-- EVENT_COUNT_WRITE (R268) -/
  | eventCountWrite (e : Nat) (v : DWord)
  /-- HOST_MEMORY_ACCESS (R349) -/
  | hostMemoryAccess (acc : HostAccess)
  /-- PORT_RETRAIN (R389) -/
  | portRetrain (port : Nat)
  /-- EXPERT_ROUTING_TABLE_WRITE (R282) -/
  | expertRoutingTableWrite (die : Nat) (w : ExpertWrite)
deriving DecidableEq, Repr

/-- The bytes of an instruction's word; an event has none (02 R14). -/
def Instr.size : Instr → Nat
  | .clauseHeader _ _ _ _ _ _ => 4
  | .vadd16 _ _ => 2
  | .vsub16 _ _ => 2
  | .vand16 _ _ => 2
  | .vor16 _ _ => 2
  | .vxor16 _ _ => 2
  | .vshl16 _ _ => 2
  | .vshr16 _ _ => 2
  | .vmin16 _ _ => 2
  | .fadd16 _ _ => 2
  | .fsub16 _ _ => 2
  | .fmul16 _ _ => 2
  | .ffmaq _ _ => 2
  | .fmax16 _ _ => 2
  | .fmin16 _ _ => 2
  | .vmov16 _ _ => 2
  | .vmadq _ _ => 2
  | .sadd _ _ _ => 4
  | .ssub _ _ _ => 4
  | .smul _ _ _ => 4
  | .smulh _ _ _ => 4
  | .smulhn _ _ _ => 4
  | .sdiv _ _ _ => 4
  | .sdivn _ _ _ => 4
  | .srem _ _ _ => 4
  | .sremn _ _ _ => 4
  | .sand _ _ _ => 4
  | .sor _ _ _ => 4
  | .sxor _ _ _ => 4
  | .sandn _ _ _ => 4
  | .sshl _ _ _ => 4
  | .sshr _ _ _ => 4
  | .ssar _ _ _ => 4
  | .smin _ _ _ => 4
  | .smax _ _ _ => 4
  | .sminn _ _ _ => 4
  | .smaxn _ _ _ => 4
  | .sseq _ _ _ => 4
  | .ssne _ _ _ => 4
  | .sslt _ _ _ => 4
  | .ssle _ _ _ => 4
  | .ssltn _ _ _ => 4
  | .sslen _ _ _ => 4
  | .sclz _ _ => 4
  | .spopc _ _ => 4
  | .ssext _ _ _ => 4
  | .szext _ _ _ => 4
  | .sli _ _ => 4
  | .slk1 _ _ => 4
  | .slk2 _ _ => 4
  | .slk3 _ _ => 4
  | .srsr _ _ => 4
  | .swsr _ _ => 4
  | .sadr _ _ _ => 4
  | .bra _ => 4
  | .bz _ _ => 4
  | .bnz _ _ => 4
  | .bneg _ _ => 4
  | .bnneg _ _ => 4
  | .ball _ _ => 4
  | .bany _ _ => 4
  | .bnone _ _ => 4
  | .loop _ _ => 4
  | .call _ => 4
  | .callr _ => 4
  | .jmpr _ => 4
  | .split _ _ => 4
  | .merge _ => 4
  | .cont _ _ => 4
  | .trap _ => 4
  | .sleep _ => 4
  | .vadd _ _ _ => 4
  | .vsub _ _ _ => 4
  | .vmullo _ _ _ => 4
  | .vmulhi _ _ _ => 4
  | .vmulhin _ _ _ => 4
  | .vmad _ _ _ => 4
  | .vand _ _ _ => 4
  | .vor _ _ _ => 4
  | .vxor _ _ _ => 4
  | .vandn _ _ _ => 4
  | .vshl _ _ _ => 4
  | .vshr _ _ _ => 4
  | .vsar _ _ _ => 4
  | .vmin _ _ _ => 4
  | .vmax _ _ _ => 4
  | .vminn _ _ _ => 4
  | .vmaxn _ _ _ => 4
  | .vabs _ _ => 4
  | .vclz _ _ => 4
  | .vpopc _ _ => 4
  | .vadd64 _ _ _ => 4
  | .vsub64 _ _ _ => 4
  | .vaddsat _ _ _ => 4
  | .vdp4 _ _ _ => 4
  | .vdp4n _ _ _ => 4
  | .vceq _ _ _ _ => 4
  | .vcne _ _ _ _ => 4
  | .vclt _ _ _ _ => 4
  | .vcle _ _ _ _ => 4
  | .vcltn _ _ _ _ => 4
  | .vclen _ _ _ _ => 4
  | .fceq _ _ _ _ => 4
  | .fcne _ _ _ _ => 4
  | .fclt _ _ _ _ => 4
  | .fcle _ _ _ _ => 4
  | .fcun _ _ _ _ => 4
  | .fadd _ _ _ => 4
  | .fsub _ _ _ => 4
  | .fmul _ _ _ => 4
  | .ffma _ _ _ => 4
  | .ffms _ _ _ => 4
  | .fnma _ _ _ => 4
  | .fmin _ _ _ => 4
  | .fmax _ _ _ => 4
  | .fabs _ _ => 4
  | .fneg _ _ => 4
  | .fdiv _ _ _ => 4
  | .fsqrt _ _ => 4
  | .frcp _ _ => 4
  | .frsq _ _ => 4
  | .fexp2c _ _ => 4
  | .frint _ _ => 4
  | .fscale _ _ _ => 4
  | .hadd2 _ _ _ => 4
  | .hmul2 _ _ _ => 4
  | .hfma2 _ _ _ => 4
  | .badd2 _ _ _ => 4
  | .bmul2 _ _ _ => 4
  | .bfma2 _ _ _ => 4
  | .vcvt _ _ _ => 4
  | .vpke4 _ _ _ => 4
  | .vpke5 _ _ _ => 4
  | .vshfl _ _ _ => 4
  | .vshflx _ _ _ => 4
  | .vshflu _ _ _ => 4
  | .vshfld _ _ _ => 4
  | .vpfxadd _ _ => 4
  | .vpfxmax _ _ => 4
  | .vredadd _ _ => 4
  | .vredfadd _ _ => 4
  | .vredmax _ _ => 4
  | .vballot _ _ => 4
  | .vget _ _ _ => 4
  | .vsetl _ _ _ => 4
  | .vlid _ => 4
  | .vsr _ _ => 4
  | .vmov _ _ => 4
  | .vmovo _ _ => 4
  | .pand _ _ _ => 4
  | .por _ _ _ => 4
  | .pxor _ _ _ => 4
  | .pandn _ _ _ => 4
  | .pnot _ _ => 4
  | .pset _ _ => 4
  | .ppopc _ _ => 4
  | .pfirst _ _ => 4
  | .ldv8n _ _ _ _ => 4
  | .ldv8i _ _ _ _ => 4
  | .ldv16n _ _ _ _ => 4
  | .ldv16i _ _ _ _ => 4
  | .ldv32 _ _ _ _ => 4
  | .ldv64 _ _ _ _ => 4
  | .ldv128 _ _ _ _ => 4
  | .stv8 _ _ _ _ => 4
  | .stv16 _ _ _ _ => 4
  | .stv32 _ _ _ _ => 4
  | .stv64 _ _ _ _ => 4
  | .stv128 _ _ _ _ => 4
  | .lds32 _ _ _ _ => 4
  | .lds64 _ _ _ _ => 4
  | .sts32 _ _ _ _ => 4
  | .sts64 _ _ _ _ => 4
  | .ldc _ _ _ => 4
  | .zline _ _ => 4
  | .fence _ => 4
  | .pref _ _ => 4
  | .barinit _ _ _ _ => 4
  | .barar _ _ _ _ => 4
  | .barwait _ _ _ _ => 4
  | .barsync _ _ _ _ => 4
  | .bardrop _ _ _ _ => 4
  | .aadd _ _ _ _ => 4
  | .aand _ _ _ _ => 4
  | .aor _ _ _ _ => 4
  | .axor _ _ _ _ => 4
  | .amin _ _ _ _ => 4
  | .amax _ _ _ _ => 4
  | .aminn _ _ _ _ => 4
  | .amaxn _ _ _ _ => 4
  | .axchg _ _ _ _ => 4
  | .acas _ _ _ _ => 4
  | .afadd _ _ _ _ => 4
  | .abinc _ _ _ _ => 4
  | .awinc _ _ _ _ => 4
  | .adecp _ _ _ _ => 4
  | .aaddl _ _ _ _ => 4
  | .aadd64 _ _ _ _ => 4
  | .axchg64 _ _ _ _ => 4
  | .acas64 _ _ _ _ => 4
  | .amin64n _ _ _ _ => 4
  | .mma _ _ _ _ _ => 4
  | .mmaz _ _ _ _ _ => 4
  | .mclaim _ _ _ => 4
  | .mrel _ _ _ => 4
  | .mldo _ _ _ => 4
  | .msta _ _ _ _ => 4
  | .mzacc _ _ => 4
  | .mbatonQuery _ => 4
  | .qmv _ _ _ _ _ => 4
  | .qmva _ _ _ _ _ => 4
  | .qmvb _ _ _ _ _ => 4
  | .tdset _ _ => 4
  | .tdget _ _ => 4
  | .attn _ _ _ _ => 4
  | .attnf _ _ _ => 4
  | .attnz _ => 4
  | .mstat _ => 4
  | .cpy _ _ _ _ => 4
  | .cpywp _ _ => 4
  | .blkcpy _ _ _ _ => 4
  | .gatherf _ _ _ => 4
  | .scatterf _ _ _ => 4
  | .launch _ _ _ _ => 4
  | .lwait _ => 4
  | .spawn _ _ _ _ => 4
  | .join _ => 4
  | .reorder _ _ _ _ _ => 4
  | .mreg _ _ _ _ => 4
  | .mreq _ _ _ => 4
  | .mreply _ => 4
  | .bgrant _ _ _ _ => 4
  | .chsend _ _ => 4
  | .chrecv _ _ => 4
  | .exproute _ _ _ => 4
  | .cfill _ _ _ => 4
  | .hread _ _ => 4
  | .hwrite _ _ => 4
  | .hpatch _ => 4
  | .hkill _ => 4
  | .grow _ _ => 4
  | .shrink _ => 4
  | .evsel _ _ => 4
  | .evrd _ _ => 4
  | .ret => 4
  | .yield => 4
  | .exit => 4
  | .rett => 4
  | .vlexit => 4
  | .stdrain => 4
  | .mbatonTake => 4
  | .mbatonPass => 4
  | .mdone => 4
  | .nop => 4
  | .brkpt => 4
  | .hend => 4
  | .hkillt => 4
  | .esc _ => 4
  | .sleepEnd _ => 0
  | .stdrainResolve _ => 0
  | .barrierApply _ _ _ => 0
  | .loadDataReturn _ _ _ => 0
  | .storePerform _ _ _ => 0
  | .storeFaultRecord _ _ => 0
  | .atomicPerform _ _ _ => 0
  | .prefComplete _ _ => 0
  | .mclaimGrant _ => 0
  | .qmvQuarterComplete _ => 0
  | .mldoComplete _ _ => 0
  | .mmaComplete _ _ _ _ => 0
  | .mstaComplete _ _ => 0
  | .mzaccComplete _ _ => 0
  | .attnComplete _ _ _ _ => 0
  | .attnfComplete _ _ => 0
  | .attnzComplete _ _ => 0
  | .cpywpResult _ _ => 0
  | .copyComplete _ _ _ _ => 0
  | .launchComplete _ _ => 0
  | .spawnComplete _ _ => 0
  | .reorderArrive _ => 0
  | .reorderCollectiveStart _ => 0
  | .reorderCollectiveComplete _ => 0
  | .mregSliceResult _ _ => 0
  | .mreqArrive _ _ _ => 0
  | .mordantBatchClose _ => 0
  | .combinerWaveStart _ => 0
  | .combinerWaveLimit _ => 0
  | .chsendAccept _ _ => 0
  | .chrecvDeliver _ _ => 0
  | .channelMessageArrive _ _ _ _ => 0
  | .expertReplicaCommit _ _ => 0
  | .cfillComplete _ _ _ => 0
  | .growGrant _ => 0
  | .growDeadlockFail _ => 0
  | .shrinkApply _ => 0
  | .laneCollectionClose _ _ => 0
  | .handlerWaveStart _ _ => 0
  | .laneWaveLimit _ => 0
  | .slotPromotion _ => 0
  | .graceForcedSave _ => 0
  | .topupLand _ _ => 0
  | .contextRestore _ => 0
  | .groupEvictSave _ => 0
  | .evictedGroupReturn _ _ => 0
  | .launchCommandStart _ => 0
  | .leaseResidencyWalk _ => 0
  | .childGridAccept _ => 0
  | .teamPlace _ => 0
  | .stealMessage _ => 0
  | .stealTeamsArrive _ => 0
  | .taskQueuePlace _ _ => 0
  | .groupRetire _ => 0
  | .spawnTaskRetire _ => 0
  | .gridRetire _ => 0
  | .qtailWrite _ _ => 0
  | .qctlWrite _ _ => 0
  | .queueSwitchOut _ => 0
  | .queueSwitchOutDone _ => 0
  | .queueSwitchIn _ => 0
  | .iqtailWrite _ => 0
  | .iqctlWrite _ => 0
  | .invalidateCommand => 0
  | .rqheadWrite _ _ => 0
  | .ggo _ => 0
  | .registerWrite _ _ _ => 0
  | .pageMigrationStart _ _ _ => 0
  | .pageMigrationEnd _ => 0
  | .softErrorCorrected _ => 0
  | .coreStorageUncorrectable _ _ => 0
  | .engineStorageUncorrectable _ _ _ => 0
  | .madderUncorrectable _ => 0
  | .memoryUncorrectable _ => 0
  | .packageReset => 0
  | .bootVerify _ => 0
  | .umberImageLoad _ => 0
  | .umberReplaceComplete => 0
  | .attestationReport _ => 0
  | .portDown _ => 0
  | .peerRequest _ => 0
  | .powerThrottle _ => 0
  | .eventCountWrite _ _ => 0
  | .hostMemoryAccess _ => 0
  | .portRetrain _ => 0
  | .expertRoutingTableWrite _ _ => 0

end Sys2Proof
end

