-- ==== Sys2Proof/WellFormed.lean ====
section
/-! DEFINITION. Well-formed instructions: every operand fits its field, and no literal condition of ILLEGAL holds
(02 R21, R36, R40, R41, R401). -/

namespace Sys2Proof

/-- A SETA or SETB code that names a flag or none (02 R21). -/
def flagCode (n : Nat) : Bool := decide (n < 12) || decide (n = 15)

/-- The assigned system register numbers (05 R99). -/
def sysregAssigned (n : Nat) : Bool :=
  decide (n < 7) || (decide (8 ≤ n) && decide (n < 15)) || (decide (16 ≤ n) && decide (n < 30)) ||
  decide (n = 0x30) || decide (n = 0x31) || decide (n = 0x40)

/-- A selector that supplies a 64-bit operand (02 R31). -/
def pairOb : Ob → Bool
  | .o k => decide (k % 2 = 0)
  | .q k => decide (k % 2 = 0)
  | .s _ => true
  | .const _ => true

/-- A group slot that exists (05 R82, R100). -/
def SlotRef.wf (g : SlotRef) : Bool := decide (g.die < 4) && decide (g.core < 64) && decide (g.slot < 50)

/-- A context that can exist (05 R89). -/
def CtxId.wf (c : CtxId) : Bool := c.g.wf && decide (c.i < 4)

/-- A core that exists. -/
def CoreRef.wf (c : CoreRef) : Bool := decide (c.die < 4) && decide (c.core < 64)

/-- Every operand fits the field that encodes it. -/
def Instr.fits : Instr → Bool
  | .clauseHeader _ setA setB pidx _ _ => decide (setA < 16) && decide (setB < 16) && decide (pidx < 64)
  | .vadd16 d b => decide (d < 64) && b.wf
  | .vsub16 d b => decide (d < 64) && b.wf
  | .vand16 d b => decide (d < 64) && b.wf
  | .vor16 d b => decide (d < 64) && b.wf
  | .vxor16 d b => decide (d < 64) && b.wf
  | .vshl16 d b => decide (d < 64) && b.wf
  | .vshr16 d b => decide (d < 64) && b.wf
  | .vmin16 d b => decide (d < 64) && b.wf
  | .fadd16 d b => decide (d < 64) && b.wf
  | .fsub16 d b => decide (d < 64) && b.wf
  | .fmul16 d b => decide (d < 64) && b.wf
  | .ffmaq d b => decide (d < 64) && b.wf
  | .fmax16 d b => decide (d < 64) && b.wf
  | .fmin16 d b => decide (d < 64) && b.wf
  | .vmov16 d b => decide (d < 64) && b.wf
  | .vmadq d b => decide (d < 64) && b.wf
  | .sadd d a x => decide (d < 64) && decide (a < 64) && x.wf
  | .ssub d a x => decide (d < 64) && decide (a < 64) && x.wf
  | .smul d a x => decide (d < 64) && decide (a < 64) && x.wf
  | .smulh d a x => decide (d < 64) && decide (a < 64) && x.wf
  | .smulhn d a x => decide (d < 64) && decide (a < 64) && x.wf
  | .sdiv d a x => decide (d < 64) && decide (a < 64) && x.wf
  | .sdivn d a x => decide (d < 64) && decide (a < 64) && x.wf
  | .srem d a x => decide (d < 64) && decide (a < 64) && x.wf
  | .sremn d a x => decide (d < 64) && decide (a < 64) && x.wf
  | .sand d a x => decide (d < 64) && decide (a < 64) && x.wf
  | .sor d a x => decide (d < 64) && decide (a < 64) && x.wf
  | .sxor d a x => decide (d < 64) && decide (a < 64) && x.wf
  | .sandn d a x => decide (d < 64) && decide (a < 64) && x.wf
  | .sshl d a x => decide (d < 64) && decide (a < 64) && x.wf
  | .sshr d a x => decide (d < 64) && decide (a < 64) && x.wf
  | .ssar d a x => decide (d < 64) && decide (a < 64) && x.wf
  | .smin d a x => decide (d < 64) && decide (a < 64) && x.wf
  | .smax d a x => decide (d < 64) && decide (a < 64) && x.wf
  | .sminn d a x => decide (d < 64) && decide (a < 64) && x.wf
  | .smaxn d a x => decide (d < 64) && decide (a < 64) && x.wf
  | .sseq d a x => decide (d < 64) && decide (a < 64) && x.wf
  | .ssne d a x => decide (d < 64) && decide (a < 64) && x.wf
  | .sslt d a x => decide (d < 64) && decide (a < 64) && x.wf
  | .ssle d a x => decide (d < 64) && decide (a < 64) && x.wf
  | .ssltn d a x => decide (d < 64) && decide (a < 64) && x.wf
  | .sslen d a x => decide (d < 64) && decide (a < 64) && x.wf
  | .sclz d a => decide (d < 64) && decide (a < 64)
  | .spopc d a => decide (d < 64) && decide (a < 64)
  | .ssext d a x => decide (d < 64) && decide (a < 64) && x.wf
  | .szext d a x => decide (d < 64) && decide (a < 64) && x.wf
  | .sli d _ => decide (d < 64)
  | .slk1 d _ => decide (d < 64)
  | .slk2 d _ => decide (d < 64)
  | .slk3 d _ => decide (d < 64)
  | .srsr d n => decide (d < 64) && decide (n < 512)
  | .swsr n a => decide (n < 512) && decide (a < 64)
  | .sadr d a x => decide (d < 64) && decide (a < 64) && x.wf
  | .bra _ => true
  | .bz r _ => decide (r < 64)
  | .bnz r _ => decide (r < 64)
  | .bneg r _ => decide (r < 64)
  | .bnneg r _ => decide (r < 64)
  | .ball p _ => decide (p < 64)
  | .bany p _ => decide (p < 64)
  | .bnone p _ => decide (p < 64)
  | .loop r _ => decide (r < 64)
  | .call _ => true
  | .callr r => decide (r < 64)
  | .jmpr r => decide (r < 64)
  | .split p _ => decide (p < 64)
  | .merge k => decide (k < 256)
  | .cont r _ => decide (r < 64)
  | .trap k => decide (k < 256)
  | .sleep r => decide (r < 64)
  | .vadd d a b => decide (d < 256) && decide (a < 256) && b.wf
  | .vsub d a b => decide (d < 256) && decide (a < 256) && b.wf
  | .vmullo d a b => decide (d < 256) && decide (a < 256) && b.wf
  | .vmulhi d a b => decide (d < 256) && decide (a < 256) && b.wf
  | .vmulhin d a b => decide (d < 256) && decide (a < 256) && b.wf
  | .vmad d a b => decide (d < 256) && decide (a < 256) && b.wf
  | .vand d a b => decide (d < 256) && decide (a < 256) && b.wf
  | .vor d a b => decide (d < 256) && decide (a < 256) && b.wf
  | .vxor d a b => decide (d < 256) && decide (a < 256) && b.wf
  | .vandn d a b => decide (d < 256) && decide (a < 256) && b.wf
  | .vshl d a b => decide (d < 256) && decide (a < 256) && b.wf
  | .vshr d a b => decide (d < 256) && decide (a < 256) && b.wf
  | .vsar d a b => decide (d < 256) && decide (a < 256) && b.wf
  | .vmin d a b => decide (d < 256) && decide (a < 256) && b.wf
  | .vmax d a b => decide (d < 256) && decide (a < 256) && b.wf
  | .vminn d a b => decide (d < 256) && decide (a < 256) && b.wf
  | .vmaxn d a b => decide (d < 256) && decide (a < 256) && b.wf
  | .vabs d a => decide (d < 256) && decide (a < 256)
  | .vclz d a => decide (d < 256) && decide (a < 256)
  | .vpopc d a => decide (d < 256) && decide (a < 256)
  | .vadd64 d a b => decide (d < 256) && decide (a < 256) && b.wf
  | .vsub64 d a b => decide (d < 256) && decide (a < 256) && b.wf
  | .vaddsat d a b => decide (d < 256) && decide (a < 256) && b.wf
  | .vdp4 d a b => decide (d < 256) && decide (a < 256) && b.wf
  | .vdp4n d a b => decide (d < 256) && decide (a < 256) && b.wf
  | .vceq d _ a b => decide (d < 64) && decide (a < 256) && b.wf
  | .vcne d _ a b => decide (d < 64) && decide (a < 256) && b.wf
  | .vclt d _ a b => decide (d < 64) && decide (a < 256) && b.wf
  | .vcle d _ a b => decide (d < 64) && decide (a < 256) && b.wf
  | .vcltn d _ a b => decide (d < 64) && decide (a < 256) && b.wf
  | .vclen d _ a b => decide (d < 64) && decide (a < 256) && b.wf
  | .fceq d _ a b => decide (d < 64) && decide (a < 256) && b.wf
  | .fcne d _ a b => decide (d < 64) && decide (a < 256) && b.wf
  | .fclt d _ a b => decide (d < 64) && decide (a < 256) && b.wf
  | .fcle d _ a b => decide (d < 64) && decide (a < 256) && b.wf
  | .fcun d _ a b => decide (d < 64) && decide (a < 256) && b.wf
  | .fadd d a b => decide (d < 256) && decide (a < 256) && b.wf
  | .fsub d a b => decide (d < 256) && decide (a < 256) && b.wf
  | .fmul d a b => decide (d < 256) && decide (a < 256) && b.wf
  | .ffma d a b => decide (d < 256) && decide (a < 256) && b.wf
  | .ffms d a b => decide (d < 256) && decide (a < 256) && b.wf
  | .fnma d a b => decide (d < 256) && decide (a < 256) && b.wf
  | .fmin d a b => decide (d < 256) && decide (a < 256) && b.wf
  | .fmax d a b => decide (d < 256) && decide (a < 256) && b.wf
  | .fabs d a => decide (d < 256) && decide (a < 256)
  | .fneg d a => decide (d < 256) && decide (a < 256)
  | .fdiv d a b => decide (d < 256) && decide (a < 256) && b.wf
  | .fsqrt d a => decide (d < 256) && decide (a < 256)
  | .frcp d a => decide (d < 256) && decide (a < 256)
  | .frsq d a => decide (d < 256) && decide (a < 256)
  | .fexp2c d a => decide (d < 256) && decide (a < 256)
  | .frint d a => decide (d < 256) && decide (a < 256)
  | .fscale d a b => decide (d < 256) && decide (a < 256) && b.wf
  | .hadd2 d a b => decide (d < 256) && decide (a < 256) && b.wf
  | .hmul2 d a b => decide (d < 256) && decide (a < 256) && b.wf
  | .hfma2 d a b => decide (d < 256) && decide (a < 256) && b.wf
  | .badd2 d a b => decide (d < 256) && decide (a < 256) && b.wf
  | .bmul2 d a b => decide (d < 256) && decide (a < 256) && b.wf
  | .bfma2 d a b => decide (d < 256) && decide (a < 256) && b.wf
  | .vcvt d a c => decide (d < 256) && decide (a < 256) && decide (c < 32)
  | .vpke4 d a b => decide (d < 256) && decide (a < 256) && b.wf
  | .vpke5 d a b => decide (d < 256) && decide (a < 256) && b.wf
  | .vshfl d a b => decide (d < 256) && decide (a < 256) && b.wf
  | .vshflx d a b => decide (d < 256) && decide (a < 256) && b.wf
  | .vshflu d a b => decide (d < 256) && decide (a < 256) && b.wf
  | .vshfld d a b => decide (d < 256) && decide (a < 256) && b.wf
  | .vpfxadd d a => decide (d < 256) && decide (a < 256)
  | .vpfxmax d a => decide (d < 256) && decide (a < 256)
  | .vredadd d a => decide (d < 256) && decide (a < 256)
  | .vredfadd d a => decide (d < 256) && decide (a < 256)
  | .vredmax d a => decide (d < 256) && decide (a < 256)
  | .vballot d a => decide (d < 256) && decide (a < 64)
  | .vget d a b => decide (d < 256) && decide (a < 256) && b.wf
  | .vsetl d a b => decide (d < 256) && decide (a < 256) && b.wf
  | .vlid d => decide (d < 256)
  | .vsr d c => decide (d < 256) && decide (c < 256)
  | .vmov d a => decide (d < 256) && decide (a < 256)
  | .vmovo k a => decide (k < 16) && decide (a < 256)
  | .pand d a b => decide (d < 64) && decide (a < 64) && decide (b < 32)
  | .por d a b => decide (d < 64) && decide (a < 64) && decide (b < 32)
  | .pxor d a b => decide (d < 64) && decide (a < 64) && decide (b < 32)
  | .pandn d a b => decide (d < 64) && decide (a < 64) && decide (b < 32)
  | .pnot d a => decide (d < 64) && decide (a < 64)
  | .pset d b => decide (d < 64) && b.wf
  | .ppopc d a => decide (d < 256) && decide (a < 64)
  | .pfirst d a => decide (d < 64) && decide (a < 64)
  | .ldv8n t vx k obs => decide (t < 256) && decide (vx < 256) && decide (k < 8) && decide (obs < 8)
  | .ldv8i t vx k obs => decide (t < 256) && decide (vx < 256) && decide (k < 8) && decide (obs < 8)
  | .ldv16n t vx k obs => decide (t < 256) && decide (vx < 256) && decide (k < 8) && decide (obs < 8)
  | .ldv16i t vx k obs => decide (t < 256) && decide (vx < 256) && decide (k < 8) && decide (obs < 8)
  | .ldv32 t vx k obs => decide (t < 256) && decide (vx < 256) && decide (k < 8) && decide (obs < 8)
  | .ldv64 t vx k obs => decide (t < 256) && decide (vx < 256) && decide (k < 8) && decide (obs < 8)
  | .ldv128 t vx k obs => decide (t < 256) && decide (vx < 256) && decide (k < 8) && decide (obs < 8)
  | .stv8 t vx k obs => decide (t < 256) && decide (vx < 256) && decide (k < 8) && decide (obs < 8)
  | .stv16 t vx k obs => decide (t < 256) && decide (vx < 256) && decide (k < 8) && decide (obs < 8)
  | .stv32 t vx k obs => decide (t < 256) && decide (vx < 256) && decide (k < 8) && decide (obs < 8)
  | .stv64 t vx k obs => decide (t < 256) && decide (vx < 256) && decide (k < 8) && decide (obs < 8)
  | .stv128 t vx k obs => decide (t < 256) && decide (vx < 256) && decide (k < 8) && decide (obs < 8)
  | .lds32 r imm k obs => decide (r < 64) && decide (imm < 256) && decide (k < 8) && decide (obs < 8)
  | .lds64 r imm k obs => decide (r < 64) && decide (imm < 256) && decide (k < 8) && decide (obs < 8)
  | .sts32 r imm k obs => decide (r < 64) && decide (imm < 256) && decide (k < 8) && decide (obs < 8)
  | .sts64 r imm k obs => decide (r < 64) && decide (imm < 256) && decide (k < 8) && decide (obs < 8)
  | .ldc t vx k => decide (t < 256) && decide (vx < 256) && decide (k < 8)
  | .zline imm k => decide (imm < 256) && decide (k < 8)
  | .fence obs => decide (obs < 8)
  | .pref imm k => decide (imm < 256) && decide (k < 8)
  | .barinit r imm k obs => decide (r < 64) && decide (imm < 256) && decide (k < 8) && decide (obs < 8)
  | .barar r imm k obs => decide (r < 64) && decide (imm < 256) && decide (k < 8) && decide (obs < 8)
  | .barwait r imm k obs => decide (r < 64) && decide (imm < 256) && decide (k < 8) && decide (obs < 8)
  | .barsync r imm k obs => decide (r < 64) && decide (imm < 256) && decide (k < 8) && decide (obs < 8)
  | .bardrop r imm k obs => decide (r < 64) && decide (imm < 256) && decide (k < 8) && decide (obs < 8)
  | .aadd t vx k obs => decide (t < 256) && decide (vx < 256) && decide (k < 8) && decide (obs < 8)
  | .aand t vx k obs => decide (t < 256) && decide (vx < 256) && decide (k < 8) && decide (obs < 8)
  | .aor t vx k obs => decide (t < 256) && decide (vx < 256) && decide (k < 8) && decide (obs < 8)
  | .axor t vx k obs => decide (t < 256) && decide (vx < 256) && decide (k < 8) && decide (obs < 8)
  | .amin t vx k obs => decide (t < 256) && decide (vx < 256) && decide (k < 8) && decide (obs < 8)
  | .amax t vx k obs => decide (t < 256) && decide (vx < 256) && decide (k < 8) && decide (obs < 8)
  | .aminn t vx k obs => decide (t < 256) && decide (vx < 256) && decide (k < 8) && decide (obs < 8)
  | .amaxn t vx k obs => decide (t < 256) && decide (vx < 256) && decide (k < 8) && decide (obs < 8)
  | .axchg t vx k obs => decide (t < 256) && decide (vx < 256) && decide (k < 8) && decide (obs < 8)
  | .acas t vx k obs => decide (t < 256) && decide (vx < 256) && decide (k < 8) && decide (obs < 8)
  | .afadd t vx k obs => decide (t < 256) && decide (vx < 256) && decide (k < 8) && decide (obs < 8)
  | .abinc t vx k obs => decide (t < 256) && decide (vx < 256) && decide (k < 8) && decide (obs < 8)
  | .awinc t vx k obs => decide (t < 256) && decide (vx < 256) && decide (k < 8) && decide (obs < 8)
  | .adecp t vx k obs => decide (t < 256) && decide (vx < 256) && decide (k < 8) && decide (obs < 8)
  | .aaddl t vx k obs => decide (t < 256) && decide (vx < 256) && decide (k < 8) && decide (obs < 8)
  | .aadd64 t vx k obs => decide (t < 256) && decide (vx < 256) && decide (k < 8) && decide (obs < 8)
  | .axchg64 t vx k obs => decide (t < 256) && decide (vx < 256) && decide (k < 8) && decide (obs < 8)
  | .acas64 t vx k obs => decide (t < 256) && decide (vx < 256) && decide (k < 8) && decide (obs < 8)
  | .amin64n t vx k obs => decide (t < 256) && decide (vx < 256) && decide (k < 8) && decide (obs < 8)
  | .mma c a b m d => decide (c < 16) && decide (a < 32) && decide (b < 32) && decide (m < 4) && decide (d < 64)
  | .mmaz c a b m d => decide (c < 16) && decide (a < 32) && decide (b < 32) && decide (m < 4) && decide (d < 64)
  | .mclaim _ a n => decide (a < 32) && decide (n < 32)
  | .mrel _ a n => decide (a < 32) && decide (n < 32)
  | .mldo a c d => decide (a < 32) && decide (c < 64) && decide (d < 64)
  | .msta a c d m => decide (a < 16) && decide (c < 64) && decide (d < 64) && decide (m < 4)
  | .mzacc a b => decide (a < 16) && decide (b < 32)
  | .mbatonQuery d => decide (d < 64)
  | .qmv c d b ni no => decide (c < 64) && decide (d < 64) && decide (b < 32) && decide (ni < 4) && decide (no < 4)
  | .qmva c d b ni no => decide (c < 64) && decide (d < 64) && decide (b < 32) && decide (ni < 4) && decide (no < 4)
  | .qmvb c d b ni no => decide (c < 64) && decide (d < 64) && decide (b < 32) && decide (ni < 4) && decide (no < 4)
  | .tdset a c => decide (a < 32) && decide (c < 64)
  | .tdget a c => decide (a < 32) && decide (c < 64)
  | .attn a b c d => decide (a < 32) && decide (b < 16) && decide (c < 64) && decide (d < 64)
  | .attnf a c d => decide (a < 16) && decide (c < 64) && decide (d < 64)
  | .attnz a => decide (a < 16)
  | .mstat d => decide (d < 64)
  | .cpy a b c d => decide (a < 32) && decide (b < 32) && decide (c < 64) && decide (d < 64)
  | .cpywp c d => decide (c < 64) && decide (d < 64)
  | .blkcpy a b c d => decide (a < 32) && decide (b < 32) && decide (c < 64) && decide (d < 64)
  | .gatherf a c d => decide (a < 32) && decide (c < 64) && decide (d < 64)
  | .scatterf a c d => decide (a < 32) && decide (c < 64) && decide (d < 64)
  | .launch a b c d => decide (a < 32) && decide (b < 32) && decide (c < 64) && decide (d < 64)
  | .lwait c => decide (c < 64)
  | .spawn a b c d => decide (a < 32) && decide (b < 32) && decide (c < 64) && decide (d < 64)
  | .join b => decide (b < 32)
  | .reorder _ d k p n => decide (d < 32) && decide (k < 64) && decide (p < 64) && decide (n < 8)
  | .mreg a b c d => decide (a < 32) && decide (b < 32) && decide (c < 64) && decide (d < 64)
  | .mreq a c d => decide (a < 32) && decide (c < 64) && decide (d < 64)
  | .mreply c => decide (c < 64)
  | .bgrant a b c d => decide (a < 32) && decide (b < 32) && decide (c < 64) && decide (d < 64)
  | .chsend c d => decide (c < 64) && decide (d < 64)
  | .chrecv c d => decide (c < 64) && decide (d < 64)
  | .exproute b c d => decide (b < 32) && decide (c < 64) && decide (d < 64)
  | .cfill a b d => decide (a < 32) && decide (b < 32) && decide (d < 64)
  | .hread c d => decide (c < 64) && decide (d < 64)
  | .hwrite c d => decide (c < 64) && decide (d < 64)
  | .hpatch d => decide (d < 64)
  | .hkill d => decide (d < 64)
  | .grow a c => decide (a < 32) && decide (c < 64)
  | .shrink a => decide (a < 32)
  | .evsel a b => decide (a < 8) && decide (b < 32)
  | .evrd a c => decide (a < 8) && decide (c < 64)
  | .ret => true
  | .yield => true
  | .exit => true
  | .rett => true
  | .vlexit => true
  | .stdrain => true
  | .mbatonTake => true
  | .mbatonPass => true
  | .mdone => true
  | .nop => true
  | .brkpt => true
  | .hend => true
  | .hkillt => true
  | .esc _ => true
  | .sleepEnd c => c.wf
  | .stdrainResolve c => c.wf
  | .barrierApply _ _ _ => true
  | .loadDataReturn g _ _ => g.wf
  | .storePerform g _ _ => g.wf
  | .storeFaultRecord g _ => g.wf
  | .atomicPerform g _ _ => g.wf
  | .prefComplete g _ => g.wf
  | .mclaimGrant c => c.wf
  | .qmvQuarterComplete _ => true
  | .mldoComplete g _ => g.wf
  | .mmaComplete g _ _ _ => g.wf
  | .mstaComplete g _ => g.wf
  | .mzaccComplete g _ => g.wf
  | .attnComplete g _ _ _ => g.wf
  | .attnfComplete g _ => g.wf
  | .attnzComplete g _ => g.wf
  | .cpywpResult g _ => g.wf
  | .copyComplete g _ _ _ => g.wf
  | .launchComplete g _ => g.wf
  | .spawnComplete g _ => g.wf
  | .reorderArrive c => c.wf
  | .reorderCollectiveStart _ => true
  | .reorderCollectiveComplete _ => true
  | .mregSliceResult g _ => g.wf
  | .mreqArrive g _ _ => g.wf
  | .mordantBatchClose _ => true
  | .combinerWaveStart _ => true
  | .combinerWaveLimit g => g.wf
  | .chsendAccept g _ => g.wf
  | .chrecvDeliver g _ => g.wf
  | .channelMessageArrive _ _ _ _ => true
  | .expertReplicaCommit die _ => decide (die < 4)
  | .cfillComplete g _ _ => g.wf
  | .growGrant c => c.wf
  | .growDeadlockFail core => core.wf
  | .shrinkApply c => c.wf
  | .laneCollectionClose _ cluster => decide (cluster < 8)
  | .handlerWaveStart _ cluster => decide (cluster < 8)
  | .laneWaveLimit g => g.wf
  | .slotPromotion g => g.wf
  | .graceForcedSave g => g.wf
  | .topupLand _ _ => true
  | .contextRestore c => c.wf
  | .groupEvictSave g => g.wf
  | .evictedGroupReturn _ _ => true
  | .launchCommandStart q => decide (q < 64)
  | .leaseResidencyWalk _ => true
  | .childGridAccept _ => true
  | .teamPlace die => decide (die < 4)
  | .stealMessage _ => true
  | .stealTeamsArrive _ => true
  | .taskQueuePlace die cluster => decide (die < 4) && decide (cluster < 8)
  | .groupRetire g => g.wf
  | .spawnTaskRetire _ => true
  | .gridRetire _ => true
  | .qtailWrite q _ => decide (q < 64)
  | .qctlWrite q _ => decide (q < 64)
  | .queueSwitchOut q => decide (q < 64)
  | .queueSwitchOutDone q => decide (q < 64)
  | .queueSwitchIn q => decide (q < 64)
  | .iqtailWrite _ => true
  | .iqctlWrite _ => true
  | .invalidateCommand => true
  | .rqheadWrite _ _ => true
  | .ggo _ => true
  | .registerWrite _ _ _ => true
  | .pageMigrationStart _ _ _ => true
  | .pageMigrationEnd _ => true
  | .softErrorCorrected core => core.wf
  | .coreStorageUncorrectable core _ => core.wf
  | .engineStorageUncorrectable core _ _ => core.wf
  | .madderUncorrectable _ => true
  | .memoryUncorrectable _ => true
  | .packageReset => true
  | .bootVerify _ => true
  | .umberImageLoad _ => true
  | .umberReplaceComplete => true
  | .attestationReport _ => true
  | .portDown port => decide (port < 12)
  | .peerRequest _ => true
  | .powerThrottle _ => true
  | .eventCountWrite e _ => decide (e < 4096)
  | .hostMemoryAccess _ => true
  | .portRetrain port => decide (port < 12)
  | .expertRoutingTableWrite die _ => decide (die < 4)

/-- No literal condition of ILLEGAL holds (02 R21, R31, R36, R40, R401). -/
def Instr.legal : Instr → Bool
  | .clauseHeader _ setA setB pidx neg en => flagCode setA && flagCode setB && (en || (!neg && decide (pidx = 0)))
  | .vadd16 _ _ => true
  | .vsub16 _ _ => true
  | .vand16 _ _ => true
  | .vor16 _ _ => true
  | .vxor16 _ _ => true
  | .vshl16 _ _ => true
  | .vshr16 _ _ => true
  | .vmin16 _ _ => true
  | .fadd16 _ _ => true
  | .fsub16 _ _ => true
  | .fmul16 _ _ => true
  | .ffmaq _ _ => true
  | .fmax16 _ _ => true
  | .fmin16 _ _ => true
  | .vmov16 _ _ => true
  | .vmadq _ _ => true
  | .sadd _ _ _ => true
  | .ssub _ _ _ => true
  | .smul _ _ _ => true
  | .smulh _ _ _ => true
  | .smulhn _ _ _ => true
  | .sdiv _ _ _ => true
  | .sdivn _ _ _ => true
  | .srem _ _ _ => true
  | .sremn _ _ _ => true
  | .sand _ _ _ => true
  | .sor _ _ _ => true
  | .sxor _ _ _ => true
  | .sandn _ _ _ => true
  | .sshl _ _ _ => true
  | .sshr _ _ _ => true
  | .ssar _ _ _ => true
  | .smin _ _ _ => true
  | .smax _ _ _ => true
  | .sminn _ _ _ => true
  | .smaxn _ _ _ => true
  | .sseq _ _ _ => true
  | .ssne _ _ _ => true
  | .sslt _ _ _ => true
  | .ssle _ _ _ => true
  | .ssltn _ _ _ => true
  | .sslen _ _ _ => true
  | .sclz _ _ => true
  | .spopc _ _ => true
  | .ssext _ _ _ => true
  | .szext _ _ _ => true
  | .sli _ _ => true
  | .slk1 _ _ => true
  | .slk2 _ _ => true
  | .slk3 _ _ => true
  | .srsr _ n => sysregAssigned n
  | .swsr n _ => sysregAssigned n
  | .sadr _ _ _ => true
  | .bra _ => true
  | .bz _ _ => true
  | .bnz _ _ => true
  | .bneg _ _ => true
  | .bnneg _ _ => true
  | .ball _ _ => true
  | .bany _ _ => true
  | .bnone _ _ => true
  | .loop _ _ => true
  | .call _ => true
  | .callr _ => true
  | .jmpr _ => true
  | .split _ _ => true
  | .merge _ => true
  | .cont _ _ => true
  | .trap _ => true
  | .sleep _ => true
  | .vadd _ _ _ => true
  | .vsub _ _ _ => true
  | .vmullo _ _ _ => true
  | .vmulhi _ _ _ => true
  | .vmulhin _ _ _ => true
  | .vmad _ _ _ => true
  | .vand _ _ _ => true
  | .vor _ _ _ => true
  | .vxor _ _ _ => true
  | .vandn _ _ _ => true
  | .vshl _ _ _ => true
  | .vshr _ _ _ => true
  | .vsar _ _ _ => true
  | .vmin _ _ _ => true
  | .vmax _ _ _ => true
  | .vminn _ _ _ => true
  | .vmaxn _ _ _ => true
  | .vabs _ _ => true
  | .vclz _ _ => true
  | .vpopc _ _ => true
  | .vadd64 d a b => decide (d % 2 = 0) && decide (a % 2 = 0) && pairOb b
  | .vsub64 d a b => decide (d % 2 = 0) && decide (a % 2 = 0) && pairOb b
  | .vaddsat _ _ _ => true
  | .vdp4 _ _ _ => true
  | .vdp4n _ _ _ => true
  | .vceq d _ _ _ => decide (d ≠ 0)
  | .vcne d _ _ _ => decide (d ≠ 0)
  | .vclt d _ _ _ => decide (d ≠ 0)
  | .vcle d _ _ _ => decide (d ≠ 0)
  | .vcltn d _ _ _ => decide (d ≠ 0)
  | .vclen d _ _ _ => decide (d ≠ 0)
  | .fceq d _ _ _ => decide (d ≠ 0)
  | .fcne d _ _ _ => decide (d ≠ 0)
  | .fclt d _ _ _ => decide (d ≠ 0)
  | .fcle d _ _ _ => decide (d ≠ 0)
  | .fcun d _ _ _ => decide (d ≠ 0)
  | .fadd _ _ _ => true
  | .fsub _ _ _ => true
  | .fmul _ _ _ => true
  | .ffma _ _ _ => true
  | .ffms _ _ _ => true
  | .fnma _ _ _ => true
  | .fmin _ _ _ => true
  | .fmax _ _ _ => true
  | .fabs _ _ => true
  | .fneg _ _ => true
  | .fdiv _ _ _ => true
  | .fsqrt _ _ => true
  | .frcp _ _ => true
  | .frsq _ _ => true
  | .fexp2c _ _ => true
  | .frint _ _ => true
  | .fscale _ _ _ => true
  | .hadd2 _ _ _ => true
  | .hmul2 _ _ _ => true
  | .hfma2 _ _ _ => true
  | .badd2 _ _ _ => true
  | .bmul2 _ _ _ => true
  | .bfma2 _ _ _ => true
  | .vcvt _ _ c => decide (c < 25)
  | .vpke4 _ _ _ => true
  | .vpke5 _ _ _ => true
  | .vshfl _ _ _ => true
  | .vshflx _ _ _ => true
  | .vshflu _ _ _ => true
  | .vshfld _ _ _ => true
  | .vpfxadd _ _ => true
  | .vpfxmax _ _ => true
  | .vredadd _ _ => true
  | .vredfadd _ _ => true
  | .vredmax _ _ => true
  | .vballot _ _ => true
  | .vget _ _ _ => true
  | .vsetl _ _ _ => true
  | .vlid _ => true
  | .vsr _ c => decide (c < 5)
  | .vmov _ _ => true
  | .vmovo _ _ => true
  | .pand d _ _ => decide (d ≠ 0)
  | .por d _ _ => decide (d ≠ 0)
  | .pxor d _ _ => decide (d ≠ 0)
  | .pandn d _ _ => decide (d ≠ 0)
  | .pnot d _ => decide (d ≠ 0)
  | .pset d b => decide (d ≠ 0) && decide (20 ≤ b.code)
  | .ppopc _ _ => true
  | .pfirst d _ => decide (d ≠ 0)
  | .ldv8n _ _ _ _ => true
  | .ldv8i _ _ _ _ => true
  | .ldv16n _ _ _ _ => true
  | .ldv16i _ _ _ _ => true
  | .ldv32 _ _ _ _ => true
  | .ldv64 t _ _ _ => decide (t % 2 = 0)
  | .ldv128 t _ _ _ => decide (t % 4 = 0)
  | .stv8 _ _ _ _ => true
  | .stv16 _ _ _ _ => true
  | .stv32 _ _ _ _ => true
  | .stv64 t _ _ _ => decide (t % 2 = 0)
  | .stv128 t _ _ _ => decide (t % 4 = 0)
  | .lds32 _ _ _ _ => true
  | .lds64 _ _ _ _ => true
  | .sts32 _ _ _ _ => true
  | .sts64 _ _ _ _ => true
  | .ldc _ _ _ => true
  | .zline _ _ => true
  | .fence obs => decide (obs ≠ 0)
  | .pref _ _ => true
  | .barinit _ _ _ _ => true
  | .barar _ _ _ _ => true
  | .barwait _ _ _ _ => true
  | .barsync _ _ _ _ => true
  | .bardrop _ _ _ _ => true
  | .aadd _ _ _ _ => true
  | .aand _ _ _ _ => true
  | .aor _ _ _ _ => true
  | .axor _ _ _ _ => true
  | .amin _ _ _ _ => true
  | .amax _ _ _ _ => true
  | .aminn _ _ _ _ => true
  | .amaxn _ _ _ _ => true
  | .axchg _ _ _ _ => true
  | .acas t _ _ _ => decide (t < 255)
  | .afadd _ _ _ _ => true
  | .abinc _ _ _ _ => true
  | .awinc _ _ _ _ => true
  | .adecp _ _ _ _ => true
  | .aaddl _ _ _ _ => true
  | .aadd64 t _ _ _ => decide (t % 2 = 0)
  | .axchg64 t _ _ _ => decide (t % 2 = 0)
  | .acas64 t _ _ _ => decide (t % 2 = 0) && decide (t < 253)
  | .amin64n t _ _ _ => decide (t % 2 = 0)
  | .mma _ _ _ m _ => decide (m < 3)
  | .mmaz _ _ _ m _ => decide (m < 3)
  | .mclaim _ _ _ => true
  | .mrel _ _ _ => true
  | .mldo _ _ _ => true
  | .msta _ _ _ _ => true
  | .mzacc _ _ => true
  | .mbatonQuery _ => true
  | .qmv _ _ _ _ _ => true
  | .qmva _ _ _ _ _ => true
  | .qmvb _ _ _ _ _ => true
  | .tdset _ _ => true
  | .tdget _ _ => true
  | .attn _ _ _ _ => true
  | .attnf _ _ _ => true
  | .attnz _ => true
  | .mstat _ => true
  | .cpy _ _ _ _ => true
  | .cpywp _ _ => true
  | .blkcpy _ _ _ _ => true
  | .gatherf _ _ _ => true
  | .scatterf _ _ _ => true
  | .launch _ _ _ _ => true
  | .lwait _ => true
  | .spawn _ _ _ _ => true
  | .join _ => true
  | .reorder _ _ _ _ _ => true
  | .mreg _ _ _ _ => true
  | .mreq a _ _ => decide (a ≠ 0)
  | .mreply _ => true
  | .bgrant _ _ _ _ => true
  | .chsend _ _ => true
  | .chrecv _ _ => true
  | .exproute _ _ _ => true
  | .cfill _ _ _ => true
  | .hread _ _ => true
  | .hwrite _ _ => true
  | .hpatch _ => true
  | .hkill _ => true
  | .grow _ _ => true
  | .shrink _ => true
  | .evsel _ _ => true
  | .evrd _ _ => true
  | .ret => true
  | .yield => true
  | .exit => true
  | .rett => true
  | .vlexit => true
  | .stdrain => true
  | .mbatonTake => true
  | .mbatonPass => true
  | .mdone => true
  | .nop => true
  | .brkpt => true
  | .hend => true
  | .hkillt => true
  | .esc _ => true
  | .sleepEnd _ => true
  | .stdrainResolve _ => true
  | .barrierApply _ _ _ => true
  | .loadDataReturn _ _ _ => true
  | .storePerform _ _ _ => true
  | .storeFaultRecord _ _ => true
  | .atomicPerform _ _ _ => true
  | .prefComplete _ _ => true
  | .mclaimGrant _ => true
  | .qmvQuarterComplete _ => true
  | .mldoComplete _ _ => true
  | .mmaComplete _ _ _ _ => true
  | .mstaComplete _ _ => true
  | .mzaccComplete _ _ => true
  | .attnComplete _ _ _ _ => true
  | .attnfComplete _ _ => true
  | .attnzComplete _ _ => true
  | .cpywpResult _ _ => true
  | .copyComplete _ _ _ _ => true
  | .launchComplete _ _ => true
  | .spawnComplete _ _ => true
  | .reorderArrive _ => true
  | .reorderCollectiveStart _ => true
  | .reorderCollectiveComplete _ => true
  | .mregSliceResult _ _ => true
  | .mreqArrive _ _ _ => true
  | .mordantBatchClose _ => true
  | .combinerWaveStart _ => true
  | .combinerWaveLimit _ => true
  | .chsendAccept _ _ => true
  | .chrecvDeliver _ _ => true
  | .channelMessageArrive _ _ _ _ => true
  | .expertReplicaCommit _ _ => true
  | .cfillComplete _ _ _ => true
  | .growGrant _ => true
  | .growDeadlockFail _ => true
  | .shrinkApply _ => true
  | .laneCollectionClose _ _ => true
  | .handlerWaveStart _ _ => true
  | .laneWaveLimit _ => true
  | .slotPromotion _ => true
  | .graceForcedSave _ => true
  | .topupLand _ _ => true
  | .contextRestore _ => true
  | .groupEvictSave _ => true
  | .evictedGroupReturn _ _ => true
  | .launchCommandStart _ => true
  | .leaseResidencyWalk _ => true
  | .childGridAccept _ => true
  | .teamPlace _ => true
  | .stealMessage _ => true
  | .stealTeamsArrive _ => true
  | .taskQueuePlace _ _ => true
  | .groupRetire _ => true
  | .spawnTaskRetire _ => true
  | .gridRetire _ => true
  | .qtailWrite _ _ => true
  | .qctlWrite _ _ => true
  | .queueSwitchOut _ => true
  | .queueSwitchOutDone _ => true
  | .queueSwitchIn _ => true
  | .iqtailWrite _ => true
  | .iqctlWrite _ => true
  | .invalidateCommand => true
  | .rqheadWrite _ _ => true
  | .ggo _ => true
  | .registerWrite _ _ _ => true
  | .pageMigrationStart _ _ _ => true
  | .pageMigrationEnd _ => true
  | .softErrorCorrected _ => true
  | .coreStorageUncorrectable _ _ => true
  | .engineStorageUncorrectable _ _ _ => true
  | .madderUncorrectable _ => true
  | .memoryUncorrectable _ => true
  | .packageReset => true
  | .bootVerify _ => true
  | .umberImageLoad _ => true
  | .umberReplaceComplete => true
  | .attestationReport _ => true
  | .portDown _ => true
  | .peerRequest _ => true
  | .powerThrottle _ => true
  | .eventCountWrite _ _ => true
  | .hostMemoryAccess _ => true
  | .portRetrain _ => true
  | .expertRoutingTableWrite _ _ => true

/-- A well-formed instruction. -/
def Instr.wf (i : Instr) : Bool := i.fits && i.legal

end Sys2Proof
end

