-- ==== Sys2Proof/Decode.lean ====
section
/-! DEFINITION. The decoder of the S4's words and, after it, the encoder (02 R14-R41). The decoder answers an
instruction or an ILLEGAL subcode: 0x01 for an unassigned opcode, 0x02 for a bit that must be 0 (02 R41); the
conditions on literal values, register ranges and flags are tested where the instruction executes (02 R401). -/

namespace Sys2Proof

/-- What the decoder answers. The escape has an answer of its own: its meaning is looked up in the die's Umber store
(02 R45), and `Decoded.instr` is the instruction it stands for. -/
inductive Decoded where
  | ok (i : Instr)
  /-- ESC with this extended opcode -/
  | escape (e : BitVec 22)
  /-- ILLEGAL with this subcode -/
  | illegal (sub : Nat)
deriving DecidableEq, Repr

/-- The instruction of an answer. (Marked so because Lean's run time holds no object of a type's 245th constructor;
the kernel evaluates it, and the step does not call it.) -/
noncomputable def Decoded.instr : Decoded → Option Instr
  | .ok i => some i
  | .escape e => some (.esc e)
  | .illegal _ => none

/-- Bits [hi:lo] of a word, given by lo and the width. -/
def fld (w lo n : Nat) : Nat := w / 2 ^ lo % 2 ^ n

/-- The required-zero fields hold 0 (02 R41); otherwise ILLEGAL 0x02. -/
def zeros (c : Bool) (i : Instr) : Decoded := if c then .ok i else .illegal 2

/-- The second operand of a scalar word (02 R33). -/
def decodeSSrc (w : Nat) : SSrc :=
  if w / 4194304 % 2 = 1 then .imm (BitVec.ofNat 9 (w / 8388608)) else .reg (w / 8388608 % 64)

/-- With I = 0, bits [31:29] must be 0 (02 R33). -/
def ssrcZero (w : Nat) : Bool := decide (w / 4194304 % 2 = 1) || decide (w / 536870912 % 8 = 0)

/-- The 16-bit forms (02 R32). -/
def decode16 (w : Nat) : Decoded :=
  match w / 2 % 16 with
  | 0 => .ok (.vadd16 (w / 32 % 64) (Ob.ofCode (w / 2048 % 32)))
  | 1 => .ok (.vsub16 (w / 32 % 64) (Ob.ofCode (w / 2048 % 32)))
  | 2 => .ok (.vand16 (w / 32 % 64) (Ob.ofCode (w / 2048 % 32)))
  | 3 => .ok (.vor16 (w / 32 % 64) (Ob.ofCode (w / 2048 % 32)))
  | 4 => .ok (.vxor16 (w / 32 % 64) (Ob.ofCode (w / 2048 % 32)))
  | 5 => .ok (.vshl16 (w / 32 % 64) (Ob.ofCode (w / 2048 % 32)))
  | 6 => .ok (.vshr16 (w / 32 % 64) (Ob.ofCode (w / 2048 % 32)))
  | 7 => .ok (.vmin16 (w / 32 % 64) (Ob.ofCode (w / 2048 % 32)))
  | 8 => .ok (.fadd16 (w / 32 % 64) (Ob.ofCode (w / 2048 % 32)))
  | 9 => .ok (.fsub16 (w / 32 % 64) (Ob.ofCode (w / 2048 % 32)))
  | 10 => .ok (.fmul16 (w / 32 % 64) (Ob.ofCode (w / 2048 % 32)))
  | 11 => .ok (.ffmaq (w / 32 % 64) (Ob.ofCode (w / 2048 % 32)))
  | 12 => .ok (.fmax16 (w / 32 % 64) (Ob.ofCode (w / 2048 % 32)))
  | 13 => .ok (.fmin16 (w / 32 % 64) (Ob.ofCode (w / 2048 % 32)))
  | 14 => .ok (.vmov16 (w / 32 % 64) (Ob.ofCode (w / 2048 % 32)))
  | _ => .ok (.vmadq (w / 32 % 64) (Ob.ofCode (w / 2048 % 32)))

/-- Class S words, by their op field. -/
def decodeS (w : Nat) : Decoded :=
  match w / 16 % 64 with
  | 0 => zeros (ssrcZero w) (.sadd (w / 1024 % 64) (w / 65536 % 64) (decodeSSrc w))
  | 1 => zeros (ssrcZero w) (.ssub (w / 1024 % 64) (w / 65536 % 64) (decodeSSrc w))
  | 2 => zeros (ssrcZero w) (.smul (w / 1024 % 64) (w / 65536 % 64) (decodeSSrc w))
  | 3 => zeros (ssrcZero w) (.smulh (w / 1024 % 64) (w / 65536 % 64) (decodeSSrc w))
  | 4 => zeros (ssrcZero w) (.smulhn (w / 1024 % 64) (w / 65536 % 64) (decodeSSrc w))
  | 5 => zeros (ssrcZero w) (.sdiv (w / 1024 % 64) (w / 65536 % 64) (decodeSSrc w))
  | 6 => zeros (ssrcZero w) (.sdivn (w / 1024 % 64) (w / 65536 % 64) (decodeSSrc w))
  | 7 => zeros (ssrcZero w) (.srem (w / 1024 % 64) (w / 65536 % 64) (decodeSSrc w))
  | 8 => zeros (ssrcZero w) (.sremn (w / 1024 % 64) (w / 65536 % 64) (decodeSSrc w))
  | 9 => zeros (ssrcZero w) (.sand (w / 1024 % 64) (w / 65536 % 64) (decodeSSrc w))
  | 10 => zeros (ssrcZero w) (.sor (w / 1024 % 64) (w / 65536 % 64) (decodeSSrc w))
  | 11 => zeros (ssrcZero w) (.sxor (w / 1024 % 64) (w / 65536 % 64) (decodeSSrc w))
  | 12 => zeros (ssrcZero w) (.sandn (w / 1024 % 64) (w / 65536 % 64) (decodeSSrc w))
  | 13 => zeros (ssrcZero w) (.sshl (w / 1024 % 64) (w / 65536 % 64) (decodeSSrc w))
  | 14 => zeros (ssrcZero w) (.sshr (w / 1024 % 64) (w / 65536 % 64) (decodeSSrc w))
  | 15 => zeros (ssrcZero w) (.ssar (w / 1024 % 64) (w / 65536 % 64) (decodeSSrc w))
  | 16 => zeros (ssrcZero w) (.smin (w / 1024 % 64) (w / 65536 % 64) (decodeSSrc w))
  | 17 => zeros (ssrcZero w) (.smax (w / 1024 % 64) (w / 65536 % 64) (decodeSSrc w))
  | 18 => zeros (ssrcZero w) (.sminn (w / 1024 % 64) (w / 65536 % 64) (decodeSSrc w))
  | 19 => zeros (ssrcZero w) (.smaxn (w / 1024 % 64) (w / 65536 % 64) (decodeSSrc w))
  | 20 => zeros (ssrcZero w) (.sseq (w / 1024 % 64) (w / 65536 % 64) (decodeSSrc w))
  | 21 => zeros (ssrcZero w) (.ssne (w / 1024 % 64) (w / 65536 % 64) (decodeSSrc w))
  | 22 => zeros (ssrcZero w) (.sslt (w / 1024 % 64) (w / 65536 % 64) (decodeSSrc w))
  | 23 => zeros (ssrcZero w) (.ssle (w / 1024 % 64) (w / 65536 % 64) (decodeSSrc w))
  | 24 => zeros (ssrcZero w) (.ssltn (w / 1024 % 64) (w / 65536 % 64) (decodeSSrc w))
  | 25 => zeros (ssrcZero w) (.sslen (w / 1024 % 64) (w / 65536 % 64) (decodeSSrc w))
  | 26 => zeros (decide (w / 4194304 % 1024 = 0)) (.sclz (w / 1024 % 64) (w / 65536 % 64))
  | 27 => zeros (decide (w / 4194304 % 1024 = 0)) (.spopc (w / 1024 % 64) (w / 65536 % 64))
  | 28 => zeros (ssrcZero w) (.ssext (w / 1024 % 64) (w / 65536 % 64) (decodeSSrc w))
  | 29 => zeros (ssrcZero w) (.szext (w / 1024 % 64) (w / 65536 % 64) (decodeSSrc w))
  | 30 => .ok (.sli (w / 1024 % 64) (BitVec.ofNat 16 (w / 65536)))
  | 31 => .ok (.slk1 (w / 1024 % 64) (BitVec.ofNat 16 (w / 65536)))
  | 32 => .ok (.slk2 (w / 1024 % 64) (BitVec.ofNat 16 (w / 65536)))
  | 33 => .ok (.slk3 (w / 1024 % 64) (BitVec.ofNat 16 (w / 65536)))
  | 34 => zeros (decide (w / 65536 % 128 = 64)) (.srsr (w / 1024 % 64) (w / 8388608 % 512))
  | 35 => zeros (decide (w / 1024 % 64 = 0) && decide (w / 4194304 % 2 = 1)) (.swsr (w / 8388608 % 512) (w / 65536 % 64))
  | 36 => zeros (ssrcZero w) (.sadr (w / 1024 % 64) (w / 65536 % 64) (decodeSSrc w))
  | _ => .illegal 1

/-- Class B words, by their op field. -/
def decodeB (w : Nat) : Decoded :=
  match w / 16 % 64 with
  | 0 => zeros (decide (w / 1024 % 64 = 0)) (.bra (BitVec.ofNat 16 (w / 65536)))
  | 1 => .ok (.bz (w / 1024 % 64) (BitVec.ofNat 16 (w / 65536)))
  | 2 => .ok (.bnz (w / 1024 % 64) (BitVec.ofNat 16 (w / 65536)))
  | 3 => .ok (.bneg (w / 1024 % 64) (BitVec.ofNat 16 (w / 65536)))
  | 4 => .ok (.bnneg (w / 1024 % 64) (BitVec.ofNat 16 (w / 65536)))
  | 5 => .ok (.ball (w / 1024 % 64) (BitVec.ofNat 16 (w / 65536)))
  | 6 => .ok (.bany (w / 1024 % 64) (BitVec.ofNat 16 (w / 65536)))
  | 7 => .ok (.bnone (w / 1024 % 64) (BitVec.ofNat 16 (w / 65536)))
  | 8 => .ok (.loop (w / 1024 % 64) (BitVec.ofNat 16 (w / 65536)))
  | 9 => zeros (decide (w / 1024 % 64 = 0)) (.call (BitVec.ofNat 16 (w / 65536)))
  | 10 => zeros (decide (w / 65536 % 65536 = 0)) (.callr (w / 1024 % 64))
  | 11 => zeros (decide (w / 65536 % 65536 = 0)) (.jmpr (w / 1024 % 64))
  | 12 => zeros (decide (w / 1024 % 4194304 = 0)) .ret
  | 13 => .ok (.split (w / 1024 % 64) (BitVec.ofNat 16 (w / 65536)))
  | 14 => zeros (decide (w / 1024 % 64 = 0) && decide (w / 16777216 % 256 = 0)) (.merge (w / 65536 % 256))
  | 15 => .ok (.cont (w / 1024 % 64) (BitVec.ofNat 16 (w / 65536)))
  | 16 => zeros (decide (w / 1024 % 4194304 = 0)) .yield
  | 17 => zeros (decide (w / 1024 % 4194304 = 0)) .exit
  | 18 => zeros (decide (w / 1024 % 64 = 0) && decide (w / 16777216 % 256 = 0)) (.trap (w / 65536 % 256))
  | 19 => zeros (decide (w / 1024 % 4194304 = 0)) .rett
  | 20 => zeros (decide (w / 65536 % 65536 = 0)) (.sleep (w / 1024 % 64))
  | _ => .illegal 1

/-- Class V words, by their op field. -/
def decodeV (w : Nat) : Decoded :=
  match w / 16 % 128 with
  | 0 => .ok (.vadd (w / 2048 % 256) (w / 524288 % 256) (Ob.ofCode (w / 134217728 % 32)))
  | 1 => .ok (.vsub (w / 2048 % 256) (w / 524288 % 256) (Ob.ofCode (w / 134217728 % 32)))
  | 2 => .ok (.vmullo (w / 2048 % 256) (w / 524288 % 256) (Ob.ofCode (w / 134217728 % 32)))
  | 3 => .ok (.vmulhi (w / 2048 % 256) (w / 524288 % 256) (Ob.ofCode (w / 134217728 % 32)))
  | 4 => .ok (.vmulhin (w / 2048 % 256) (w / 524288 % 256) (Ob.ofCode (w / 134217728 % 32)))
  | 5 => .ok (.vmad (w / 2048 % 256) (w / 524288 % 256) (Ob.ofCode (w / 134217728 % 32)))
  | 6 => .ok (.vand (w / 2048 % 256) (w / 524288 % 256) (Ob.ofCode (w / 134217728 % 32)))
  | 7 => .ok (.vor (w / 2048 % 256) (w / 524288 % 256) (Ob.ofCode (w / 134217728 % 32)))
  | 8 => .ok (.vxor (w / 2048 % 256) (w / 524288 % 256) (Ob.ofCode (w / 134217728 % 32)))
  | 9 => .ok (.vandn (w / 2048 % 256) (w / 524288 % 256) (Ob.ofCode (w / 134217728 % 32)))
  | 10 => .ok (.vshl (w / 2048 % 256) (w / 524288 % 256) (Ob.ofCode (w / 134217728 % 32)))
  | 11 => .ok (.vshr (w / 2048 % 256) (w / 524288 % 256) (Ob.ofCode (w / 134217728 % 32)))
  | 12 => .ok (.vsar (w / 2048 % 256) (w / 524288 % 256) (Ob.ofCode (w / 134217728 % 32)))
  | 13 => .ok (.vmin (w / 2048 % 256) (w / 524288 % 256) (Ob.ofCode (w / 134217728 % 32)))
  | 14 => .ok (.vmax (w / 2048 % 256) (w / 524288 % 256) (Ob.ofCode (w / 134217728 % 32)))
  | 15 => .ok (.vminn (w / 2048 % 256) (w / 524288 % 256) (Ob.ofCode (w / 134217728 % 32)))
  | 16 => .ok (.vmaxn (w / 2048 % 256) (w / 524288 % 256) (Ob.ofCode (w / 134217728 % 32)))
  | 17 => zeros (decide (w / 134217728 % 32 = 0)) (.vabs (w / 2048 % 256) (w / 524288 % 256))
  | 18 => zeros (decide (w / 134217728 % 32 = 0)) (.vclz (w / 2048 % 256) (w / 524288 % 256))
  | 19 => zeros (decide (w / 134217728 % 32 = 0)) (.vpopc (w / 2048 % 256) (w / 524288 % 256))
  | 20 => .ok (.vadd64 (w / 2048 % 256) (w / 524288 % 256) (Ob.ofCode (w / 134217728 % 32)))
  | 21 => .ok (.vsub64 (w / 2048 % 256) (w / 524288 % 256) (Ob.ofCode (w / 134217728 % 32)))
  | 22 => .ok (.vaddsat (w / 2048 % 256) (w / 524288 % 256) (Ob.ofCode (w / 134217728 % 32)))
  | 23 => .ok (.vdp4 (w / 2048 % 256) (w / 524288 % 256) (Ob.ofCode (w / 134217728 % 32)))
  | 24 => .ok (.vdp4n (w / 2048 % 256) (w / 524288 % 256) (Ob.ofCode (w / 134217728 % 32)))
  | 32 => .ok (.vceq (w / 2048 % 64) (CMode.ofCode (w / 131072 % 4)) (w / 524288 % 256) (Ob.ofCode (w / 134217728 % 32)))
  | 33 => .ok (.vcne (w / 2048 % 64) (CMode.ofCode (w / 131072 % 4)) (w / 524288 % 256) (Ob.ofCode (w / 134217728 % 32)))
  | 34 => .ok (.vclt (w / 2048 % 64) (CMode.ofCode (w / 131072 % 4)) (w / 524288 % 256) (Ob.ofCode (w / 134217728 % 32)))
  | 35 => .ok (.vcle (w / 2048 % 64) (CMode.ofCode (w / 131072 % 4)) (w / 524288 % 256) (Ob.ofCode (w / 134217728 % 32)))
  | 36 => .ok (.vcltn (w / 2048 % 64) (CMode.ofCode (w / 131072 % 4)) (w / 524288 % 256) (Ob.ofCode (w / 134217728 % 32)))
  | 37 => .ok (.vclen (w / 2048 % 64) (CMode.ofCode (w / 131072 % 4)) (w / 524288 % 256) (Ob.ofCode (w / 134217728 % 32)))
  | 38 => .ok (.fceq (w / 2048 % 64) (CMode.ofCode (w / 131072 % 4)) (w / 524288 % 256) (Ob.ofCode (w / 134217728 % 32)))
  | 39 => .ok (.fcne (w / 2048 % 64) (CMode.ofCode (w / 131072 % 4)) (w / 524288 % 256) (Ob.ofCode (w / 134217728 % 32)))
  | 40 => .ok (.fclt (w / 2048 % 64) (CMode.ofCode (w / 131072 % 4)) (w / 524288 % 256) (Ob.ofCode (w / 134217728 % 32)))
  | 41 => .ok (.fcle (w / 2048 % 64) (CMode.ofCode (w / 131072 % 4)) (w / 524288 % 256) (Ob.ofCode (w / 134217728 % 32)))
  | 42 => .ok (.fcun (w / 2048 % 64) (CMode.ofCode (w / 131072 % 4)) (w / 524288 % 256) (Ob.ofCode (w / 134217728 % 32)))
  | 48 => .ok (.fadd (w / 2048 % 256) (w / 524288 % 256) (Ob.ofCode (w / 134217728 % 32)))
  | 49 => .ok (.fsub (w / 2048 % 256) (w / 524288 % 256) (Ob.ofCode (w / 134217728 % 32)))
  | 50 => .ok (.fmul (w / 2048 % 256) (w / 524288 % 256) (Ob.ofCode (w / 134217728 % 32)))
  | 51 => .ok (.ffma (w / 2048 % 256) (w / 524288 % 256) (Ob.ofCode (w / 134217728 % 32)))
  | 52 => .ok (.ffms (w / 2048 % 256) (w / 524288 % 256) (Ob.ofCode (w / 134217728 % 32)))
  | 53 => .ok (.fnma (w / 2048 % 256) (w / 524288 % 256) (Ob.ofCode (w / 134217728 % 32)))
  | 54 => .ok (.fmin (w / 2048 % 256) (w / 524288 % 256) (Ob.ofCode (w / 134217728 % 32)))
  | 55 => .ok (.fmax (w / 2048 % 256) (w / 524288 % 256) (Ob.ofCode (w / 134217728 % 32)))
  | 56 => zeros (decide (w / 134217728 % 32 = 0)) (.fabs (w / 2048 % 256) (w / 524288 % 256))
  | 57 => zeros (decide (w / 134217728 % 32 = 0)) (.fneg (w / 2048 % 256) (w / 524288 % 256))
  | 58 => .ok (.fdiv (w / 2048 % 256) (w / 524288 % 256) (Ob.ofCode (w / 134217728 % 32)))
  | 59 => zeros (decide (w / 134217728 % 32 = 0)) (.fsqrt (w / 2048 % 256) (w / 524288 % 256))
  | 60 => zeros (decide (w / 134217728 % 32 = 0)) (.frcp (w / 2048 % 256) (w / 524288 % 256))
  | 61 => zeros (decide (w / 134217728 % 32 = 0)) (.frsq (w / 2048 % 256) (w / 524288 % 256))
  | 62 => zeros (decide (w / 134217728 % 32 = 0)) (.fexp2c (w / 2048 % 256) (w / 524288 % 256))
  | 63 => zeros (decide (w / 134217728 % 32 = 0)) (.frint (w / 2048 % 256) (w / 524288 % 256))
  | 64 => .ok (.fscale (w / 2048 % 256) (w / 524288 % 256) (Ob.ofCode (w / 134217728 % 32)))
  | 72 => .ok (.hadd2 (w / 2048 % 256) (w / 524288 % 256) (Ob.ofCode (w / 134217728 % 32)))
  | 73 => .ok (.hmul2 (w / 2048 % 256) (w / 524288 % 256) (Ob.ofCode (w / 134217728 % 32)))
  | 74 => .ok (.hfma2 (w / 2048 % 256) (w / 524288 % 256) (Ob.ofCode (w / 134217728 % 32)))
  | 75 => .ok (.badd2 (w / 2048 % 256) (w / 524288 % 256) (Ob.ofCode (w / 134217728 % 32)))
  | 76 => .ok (.bmul2 (w / 2048 % 256) (w / 524288 % 256) (Ob.ofCode (w / 134217728 % 32)))
  | 77 => .ok (.bfma2 (w / 2048 % 256) (w / 524288 % 256) (Ob.ofCode (w / 134217728 % 32)))
  | 80 => .ok (.vcvt (w / 2048 % 256) (w / 524288 % 256) (w / 134217728 % 32))
  | 81 => .ok (.vpke4 (w / 2048 % 256) (w / 524288 % 256) (Ob.ofCode (w / 134217728 % 32)))
  | 82 => .ok (.vpke5 (w / 2048 % 256) (w / 524288 % 256) (Ob.ofCode (w / 134217728 % 32)))
  | 96 => .ok (.vshfl (w / 2048 % 256) (w / 524288 % 256) (Ob.ofCode (w / 134217728 % 32)))
  | 97 => .ok (.vshflx (w / 2048 % 256) (w / 524288 % 256) (Ob.ofCode (w / 134217728 % 32)))
  | 98 => .ok (.vshflu (w / 2048 % 256) (w / 524288 % 256) (Ob.ofCode (w / 134217728 % 32)))
  | 99 => .ok (.vshfld (w / 2048 % 256) (w / 524288 % 256) (Ob.ofCode (w / 134217728 % 32)))
  | 100 => zeros (decide (w / 134217728 % 32 = 0)) (.vpfxadd (w / 2048 % 256) (w / 524288 % 256))
  | 101 => zeros (decide (w / 134217728 % 32 = 0)) (.vpfxmax (w / 2048 % 256) (w / 524288 % 256))
  | 102 => zeros (decide (w / 134217728 % 32 = 0)) (.vredadd (w / 2048 % 256) (w / 524288 % 256))
  | 103 => zeros (decide (w / 134217728 % 32 = 0)) (.vredfadd (w / 2048 % 256) (w / 524288 % 256))
  | 104 => zeros (decide (w / 134217728 % 32 = 0)) (.vredmax (w / 2048 % 256) (w / 524288 % 256))
  | 105 => zeros (decide (w / 33554432 % 128 = 0)) (.vballot (w / 2048 % 256) (w / 524288 % 64))
  | 106 => .ok (.vget (w / 2048 % 256) (w / 524288 % 256) (Ob.ofCode (w / 134217728 % 32)))
  | 107 => .ok (.vsetl (w / 2048 % 256) (w / 524288 % 256) (Ob.ofCode (w / 134217728 % 32)))
  | 108 => zeros (decide (w / 524288 % 8192 = 0)) (.vlid (w / 2048 % 256))
  | 109 => zeros (decide (w / 134217728 % 32 = 0)) (.vsr (w / 2048 % 256) (w / 524288 % 256))
  | 110 => zeros (decide (w / 134217728 % 32 = 0)) (.vmov (w / 2048 % 256) (w / 524288 % 256))
  | 111 => zeros (decide (w / 32768 % 16 = 0) && decide (w / 134217728 % 32 = 0)) (.vmovo (w / 2048 % 16) (w / 524288 % 256))
  | 112 => zeros (decide (w / 2048 % 2097152 = 0)) .vlexit
  | 120 => zeros (decide (w / 131072 % 4 = 0) && decide (w / 33554432 % 4 = 0)) (.pand (w / 2048 % 64) (w / 524288 % 64) (w / 134217728 % 32))
  | 121 => zeros (decide (w / 131072 % 4 = 0) && decide (w / 33554432 % 4 = 0)) (.por (w / 2048 % 64) (w / 524288 % 64) (w / 134217728 % 32))
  | 122 => zeros (decide (w / 131072 % 4 = 0) && decide (w / 33554432 % 4 = 0)) (.pxor (w / 2048 % 64) (w / 524288 % 64) (w / 134217728 % 32))
  | 123 => zeros (decide (w / 131072 % 4 = 0) && decide (w / 33554432 % 4 = 0)) (.pandn (w / 2048 % 64) (w / 524288 % 64) (w / 134217728 % 32))
  | 124 => zeros (decide (w / 131072 % 4 = 0) && decide (w / 33554432 % 128 = 0)) (.pnot (w / 2048 % 64) (w / 524288 % 64))
  | 125 => zeros (decide (w / 131072 % 1024 = 0)) (.pset (w / 2048 % 64) (Ob.ofCode (w / 134217728 % 32)))
  | 126 => zeros (decide (w / 33554432 % 128 = 0)) (.ppopc (w / 2048 % 256) (w / 524288 % 64))
  | 127 => zeros (decide (w / 131072 % 4 = 0) && decide (w / 33554432 % 128 = 0)) (.pfirst (w / 2048 % 64) (w / 524288 % 64))
  | _ => .illegal 1

/-- Class M words, by their op field. -/
def decodeM (w : Nat) : Decoded :=
  match w / 16 % 64 with
  | 0 => .ok (.ldv8n (w / 1024 % 256) (w / 262144 % 256) (w / 67108864 % 8) (w / 536870912 % 8))
  | 1 => .ok (.ldv8i (w / 1024 % 256) (w / 262144 % 256) (w / 67108864 % 8) (w / 536870912 % 8))
  | 2 => .ok (.ldv16n (w / 1024 % 256) (w / 262144 % 256) (w / 67108864 % 8) (w / 536870912 % 8))
  | 3 => .ok (.ldv16i (w / 1024 % 256) (w / 262144 % 256) (w / 67108864 % 8) (w / 536870912 % 8))
  | 4 => .ok (.ldv32 (w / 1024 % 256) (w / 262144 % 256) (w / 67108864 % 8) (w / 536870912 % 8))
  | 5 => .ok (.ldv64 (w / 1024 % 256) (w / 262144 % 256) (w / 67108864 % 8) (w / 536870912 % 8))
  | 6 => .ok (.ldv128 (w / 1024 % 256) (w / 262144 % 256) (w / 67108864 % 8) (w / 536870912 % 8))
  | 7 => .ok (.stv8 (w / 1024 % 256) (w / 262144 % 256) (w / 67108864 % 8) (w / 536870912 % 8))
  | 8 => .ok (.stv16 (w / 1024 % 256) (w / 262144 % 256) (w / 67108864 % 8) (w / 536870912 % 8))
  | 9 => .ok (.stv32 (w / 1024 % 256) (w / 262144 % 256) (w / 67108864 % 8) (w / 536870912 % 8))
  | 10 => .ok (.stv64 (w / 1024 % 256) (w / 262144 % 256) (w / 67108864 % 8) (w / 536870912 % 8))
  | 11 => .ok (.stv128 (w / 1024 % 256) (w / 262144 % 256) (w / 67108864 % 8) (w / 536870912 % 8))
  | 12 => zeros (decide (w / 65536 % 4 = 0)) (.lds32 (w / 1024 % 64) (w / 262144 % 256) (w / 67108864 % 8) (w / 536870912 % 8))
  | 13 => zeros (decide (w / 65536 % 4 = 0)) (.lds64 (w / 1024 % 64) (w / 262144 % 256) (w / 67108864 % 8) (w / 536870912 % 8))
  | 14 => zeros (decide (w / 65536 % 4 = 0)) (.sts32 (w / 1024 % 64) (w / 262144 % 256) (w / 67108864 % 8) (w / 536870912 % 8))
  | 15 => zeros (decide (w / 65536 % 4 = 0)) (.sts64 (w / 1024 % 64) (w / 262144 % 256) (w / 67108864 % 8) (w / 536870912 % 8))
  | 16 => zeros (decide (w / 536870912 % 8 = 0)) (.ldc (w / 1024 % 256) (w / 262144 % 256) (w / 67108864 % 8))
  | 17 => zeros (decide (w / 1024 % 256 = 0) && decide (w / 536870912 % 8 = 0)) (.zline (w / 262144 % 256) (w / 67108864 % 8))
  | 18 => zeros (decide (w / 1024 % 4194304 = 0)) .stdrain
  | 19 => zeros (decide (w / 1024 % 524288 = 0)) (.fence (w / 536870912 % 8))
  | 20 => zeros (decide (w / 1024 % 256 = 0) && decide (w / 536870912 % 8 = 0)) (.pref (w / 262144 % 256) (w / 67108864 % 8))
  | 22 => zeros (decide (w / 65536 % 4 = 0)) (.barinit (w / 1024 % 64) (w / 262144 % 256) (w / 67108864 % 8) (w / 536870912 % 8))
  | 23 => zeros (decide (w / 65536 % 4 = 0)) (.barar (w / 1024 % 64) (w / 262144 % 256) (w / 67108864 % 8) (w / 536870912 % 8))
  | 24 => zeros (decide (w / 65536 % 4 = 0)) (.barwait (w / 1024 % 64) (w / 262144 % 256) (w / 67108864 % 8) (w / 536870912 % 8))
  | 25 => zeros (decide (w / 65536 % 4 = 0)) (.barsync (w / 1024 % 64) (w / 262144 % 256) (w / 67108864 % 8) (w / 536870912 % 8))
  | 26 => zeros (decide (w / 65536 % 4 = 0)) (.bardrop (w / 1024 % 64) (w / 262144 % 256) (w / 67108864 % 8) (w / 536870912 % 8))
  | 32 => .ok (.aadd (w / 1024 % 256) (w / 262144 % 256) (w / 67108864 % 8) (w / 536870912 % 8))
  | 33 => .ok (.aand (w / 1024 % 256) (w / 262144 % 256) (w / 67108864 % 8) (w / 536870912 % 8))
  | 34 => .ok (.aor (w / 1024 % 256) (w / 262144 % 256) (w / 67108864 % 8) (w / 536870912 % 8))
  | 35 => .ok (.axor (w / 1024 % 256) (w / 262144 % 256) (w / 67108864 % 8) (w / 536870912 % 8))
  | 36 => .ok (.amin (w / 1024 % 256) (w / 262144 % 256) (w / 67108864 % 8) (w / 536870912 % 8))
  | 37 => .ok (.amax (w / 1024 % 256) (w / 262144 % 256) (w / 67108864 % 8) (w / 536870912 % 8))
  | 38 => .ok (.aminn (w / 1024 % 256) (w / 262144 % 256) (w / 67108864 % 8) (w / 536870912 % 8))
  | 39 => .ok (.amaxn (w / 1024 % 256) (w / 262144 % 256) (w / 67108864 % 8) (w / 536870912 % 8))
  | 40 => .ok (.axchg (w / 1024 % 256) (w / 262144 % 256) (w / 67108864 % 8) (w / 536870912 % 8))
  | 41 => .ok (.acas (w / 1024 % 256) (w / 262144 % 256) (w / 67108864 % 8) (w / 536870912 % 8))
  | 42 => .ok (.afadd (w / 1024 % 256) (w / 262144 % 256) (w / 67108864 % 8) (w / 536870912 % 8))
  | 43 => .ok (.abinc (w / 1024 % 256) (w / 262144 % 256) (w / 67108864 % 8) (w / 536870912 % 8))
  | 44 => .ok (.awinc (w / 1024 % 256) (w / 262144 % 256) (w / 67108864 % 8) (w / 536870912 % 8))
  | 45 => .ok (.adecp (w / 1024 % 256) (w / 262144 % 256) (w / 67108864 % 8) (w / 536870912 % 8))
  | 46 => .ok (.aaddl (w / 1024 % 256) (w / 262144 % 256) (w / 67108864 % 8) (w / 536870912 % 8))
  | 48 => .ok (.aadd64 (w / 1024 % 256) (w / 262144 % 256) (w / 67108864 % 8) (w / 536870912 % 8))
  | 49 => .ok (.axchg64 (w / 1024 % 256) (w / 262144 % 256) (w / 67108864 % 8) (w / 536870912 % 8))
  | 50 => .ok (.acas64 (w / 1024 % 256) (w / 262144 % 256) (w / 67108864 % 8) (w / 536870912 % 8))
  | 51 => .ok (.amin64n (w / 1024 % 256) (w / 262144 % 256) (w / 67108864 % 8) (w / 536870912 % 8))
  | _ => .illegal 1

/-- MBATON by its a field: take, pass, query; 3 to 31 are ILLEGAL 0x08 after the zero fields (02 R38, R401). -/
def decodeMbaton (w : Nat) : Decoded :=
  match w / 1024 % 32 with
  | 0 => zeros (decide (w / 32768 % 131072 = 0)) .mbatonTake
  | 1 => zeros (decide (w / 32768 % 131072 = 0)) .mbatonPass
  | 2 => zeros (decide (w / 32768 % 2048 = 0)) (.mbatonQuery (w / 67108864 % 64))
  | _ => if decide (w / 32768 % 131072 = 0) then .illegal 8 else .illegal 2

/-- Class X words, by their op field. -/
def decodeX (w : Nat) : Decoded :=
  match w / 16 % 64 with
  | 0 => .ok (.mma (w / 1048576 % 16) (w / 1024 % 32) (w / 32768 % 32) (w / 16777216 % 4) (w / 67108864 % 64))
  | 1 => .ok (.mmaz (w / 1048576 % 16) (w / 1024 % 32) (w / 32768 % 32) (w / 16777216 % 4) (w / 67108864 % 64))
  | 2 => zeros (decide (w / 1048576 % 32 = 0) && decide (w / 67108864 % 64 = 0)) (.mclaim (decide (w / 33554432 % 2 = 1)) (w / 1024 % 32) (w / 32768 % 32))
  | 3 => zeros (decide (w / 1048576 % 32 = 0) && decide (w / 67108864 % 64 = 0)) (.mrel (decide (w / 33554432 % 2 = 1)) (w / 1024 % 32) (w / 32768 % 32))
  | 4 => zeros (decide (w / 32768 % 32 = 0)) (.mldo (w / 1024 % 32) (w / 1048576 % 64) (w / 67108864 % 64))
  | 5 => zeros (decide (w / 16384 % 2 = 0) && decide (w / 131072 % 8 = 0)) (.msta (w / 1024 % 16) (w / 1048576 % 64) (w / 67108864 % 64) (w / 32768 % 4))
  | 6 => zeros (decide (w / 16384 % 2 = 0) && decide (w / 1048576 % 4096 = 0)) (.mzacc (w / 1024 % 16) (w / 32768 % 32))
  | 7 => decodeMbaton w
  | 8 => zeros (decide (w / 16384 % 2 = 0)) (.qmv (w / 1048576 % 64) (w / 67108864 % 64) (w / 32768 % 32) (w / 1024 % 4) (w / 4096 % 4))
  | 9 => zeros (decide (w / 16384 % 2 = 0)) (.qmva (w / 1048576 % 64) (w / 67108864 % 64) (w / 32768 % 32) (w / 1024 % 4) (w / 4096 % 4))
  | 10 => zeros (decide (w / 16384 % 2 = 0)) (.qmvb (w / 1048576 % 64) (w / 67108864 % 64) (w / 32768 % 32) (w / 1024 % 4) (w / 4096 % 4))
  | 11 => zeros (decide (w / 32768 % 32 = 0) && decide (w / 67108864 % 64 = 0)) (.tdset (w / 1024 % 32) (w / 1048576 % 64))
  | 12 => zeros (decide (w / 32768 % 32 = 0) && decide (w / 67108864 % 64 = 0)) (.tdget (w / 1024 % 32) (w / 1048576 % 64))
  | 13 => zeros (decide (w / 524288 % 2 = 0)) (.attn (w / 1024 % 32) (w / 32768 % 16) (w / 1048576 % 64) (w / 67108864 % 64))
  | 14 => zeros (decide (w / 16384 % 64 = 0)) (.attnf (w / 1024 % 16) (w / 1048576 % 64) (w / 67108864 % 64))
  | 15 => zeros (decide (w / 16384 % 262144 = 0)) (.attnz (w / 1024 % 16))
  | 16 => zeros (decide (w / 1024 % 65536 = 0)) (.mstat (w / 67108864 % 64))
  | _ => .illegal 1

/-- Class A words, by their op field. -/
def decodeA (w : Nat) : Decoded :=
  match w / 16 % 64 with
  | 0 => .ok (.cpy (w / 1024 % 32) (w / 32768 % 32) (w / 1048576 % 64) (w / 67108864 % 64))
  | 1 => zeros (decide (w / 1024 % 1024 = 0)) (.cpywp (w / 1048576 % 64) (w / 67108864 % 64))
  | 2 => .ok (.blkcpy (w / 1024 % 32) (w / 32768 % 32) (w / 1048576 % 64) (w / 67108864 % 64))
  | 3 => zeros (decide (w / 32768 % 32 = 0)) (.gatherf (w / 1024 % 32) (w / 1048576 % 64) (w / 67108864 % 64))
  | 4 => zeros (decide (w / 32768 % 32 = 0)) (.scatterf (w / 1024 % 32) (w / 1048576 % 64) (w / 67108864 % 64))
  | 5 => .ok (.launch (w / 1024 % 32) (w / 32768 % 32) (w / 1048576 % 64) (w / 67108864 % 64))
  | 6 => zeros (decide (w / 1024 % 1024 = 0) && decide (w / 67108864 % 64 = 0)) (.lwait (w / 1048576 % 64))
  | 7 => .ok (.spawn (w / 1024 % 32) (w / 32768 % 32) (w / 1048576 % 64) (w / 67108864 % 64))
  | 8 => zeros (decide (w / 1024 % 32 = 0) && decide (w / 1048576 % 4096 = 0)) (.join (w / 32768 % 32))
  | 9 => zeros (decide (w / 16384 % 2 = 0)) (.reorder (decide (w / 8192 % 2 = 1)) (w / 32768 % 32) (w / 67108864 % 64) (w / 1048576 % 64) (w / 1024 % 8))
  | 10 => .ok (.mreg (w / 1024 % 32) (w / 32768 % 32) (w / 1048576 % 64) (w / 67108864 % 64))
  | 11 => zeros (decide (w / 32768 % 32 = 0)) (.mreq (w / 1024 % 32) (w / 1048576 % 64) (w / 67108864 % 64))
  | 12 => zeros (decide (w / 1024 % 1024 = 0) && decide (w / 67108864 % 64 = 0)) (.mreply (w / 1048576 % 64))
  | 13 => zeros (decide (w / 1024 % 4194304 = 0)) .mdone
  | 14 => .ok (.bgrant (w / 1024 % 32) (w / 32768 % 32) (w / 1048576 % 64) (w / 67108864 % 64))
  | 15 => zeros (decide (w / 1024 % 1024 = 0)) (.chsend (w / 1048576 % 64) (w / 67108864 % 64))
  | 16 => zeros (decide (w / 1024 % 1024 = 0)) (.chrecv (w / 1048576 % 64) (w / 67108864 % 64))
  | 17 => zeros (decide (w / 1024 % 32 = 0)) (.exproute (w / 32768 % 32) (w / 1048576 % 64) (w / 67108864 % 64))
  | 18 => zeros (decide (w / 1048576 % 64 = 0)) (.cfill (w / 1024 % 32) (w / 32768 % 32) (w / 67108864 % 64))
  | _ => .illegal 1

/-- Class Z words, by their op field. -/
def decodeZ (w : Nat) : Decoded :=
  match w / 16 % 64 with
  | 0 => .escape (BitVec.ofNat 22 (w / 1024))
  | 1 => zeros (decide (w / 1024 % 4194304 = 0)) .nop
  | 2 => zeros (decide (w / 1024 % 4194304 = 0)) .brkpt
  | 3 => zeros (decide (w / 1024 % 1024 = 0)) (.hread (w / 1048576 % 64) (w / 67108864 % 64))
  | 4 => zeros (decide (w / 1024 % 1024 = 0)) (.hwrite (w / 1048576 % 64) (w / 67108864 % 64))
  | 5 => zeros (decide (w / 1024 % 65536 = 0)) (.hpatch (w / 67108864 % 64))
  | 6 => zeros (decide (w / 1024 % 4194304 = 0)) .hend
  | 7 => zeros (decide (w / 1024 % 65536 = 0)) (.hkill (w / 67108864 % 64))
  | 8 => zeros (decide (w / 1024 % 4194304 = 0)) .hkillt
  | 9 => zeros (decide (w / 32768 % 32 = 0) && decide (w / 67108864 % 64 = 0)) (.grow (w / 1024 % 32) (w / 1048576 % 64))
  | 10 => zeros (decide (w / 32768 % 131072 = 0)) (.shrink (w / 1024 % 32))
  | 11 => zeros (decide (w / 8192 % 4 = 0) && decide (w / 1048576 % 4096 = 0)) (.evsel (w / 1024 % 8) (w / 32768 % 32))
  | 12 => zeros (decide (w / 8192 % 128 = 0) && decide (w / 67108864 % 64 = 0)) (.evrd (w / 1024 % 8) (w / 1048576 % 64))
  | _ => .illegal 1

/-- The clause header (02 R20). -/
def decodeHeader (w : Nat) : Decoded :=
  .ok (.clauseHeader (BitVec.ofNat 12 (w / 16)) (w / 65536 % 16) (w / 1048576 % 16) (w / 16777216 % 64) (decide (w / 1073741824 % 2 = 1)) (decide (w / 2147483648 % 2 = 1)))

/-- The 32-bit words, by class (02 R14). -/
def decode32 (w : Nat) : Decoded :=
  match w / 2 % 8 with
  | 0 => decodeHeader w
  | 1 => decodeS w
  | 2 => decodeB w
  | 3 => decodeV w
  | 4 => decodeM w
  | 5 => decodeX w
  | 6 => decodeA w
  | _ => decodeZ w

/-- A halfword that begins a 32-bit instruction (02 R14). -/
def isLong (h : Nat) : Bool := decide (h % 2 = 1)

/-- A halfword that begins a header word (02 R20). -/
def isHeader (h : Nat) : Bool := decide (h % 16 = 1)

/-- Decode at the first of two halfwords (02 R14). -/
def decodeWords (h0 h1 : Nat) : Decoded :=
  if isLong h0 then decode32 (h0 + 65536 * h1) else decode16 h0

/-- Decode the bytes at an address, little-endian, and answer the rest (00 R2, 02 R14); none where the bytes do not
hold a whole instruction. -/
def decode : List Byte → Option (Decoded × List Byte)
  | b0 :: b1 :: r =>
    let h0 := b0.toNat + 256 * b1.toNat
    if isLong h0 then
      match r with
      | b2 :: b3 :: r' => some (decodeWords h0 (b2.toNat + 256 * b3.toNat), r')
      | _ => none
    else some (decodeWords h0 0, r)
  | _ => none

/-! The encoder, from the same encoding tables of the manual. -/

/-- The word of an instruction, 0 for an event (02 R20-R38). -/
def Instr.word : Instr → Nat
  | .clauseHeader wait setA setB pidx neg en => 1 + wait.toNat * 16 + setA * 65536 + setB * 1048576 + pidx * 16777216 + neg.toNat * 1073741824 + en.toNat * 2147483648
  | .vadd16 d b => 0 + d * 32 + b.code * 2048
  | .vsub16 d b => 2 + d * 32 + b.code * 2048
  | .vand16 d b => 4 + d * 32 + b.code * 2048
  | .vor16 d b => 6 + d * 32 + b.code * 2048
  | .vxor16 d b => 8 + d * 32 + b.code * 2048
  | .vshl16 d b => 10 + d * 32 + b.code * 2048
  | .vshr16 d b => 12 + d * 32 + b.code * 2048
  | .vmin16 d b => 14 + d * 32 + b.code * 2048
  | .fadd16 d b => 16 + d * 32 + b.code * 2048
  | .fsub16 d b => 18 + d * 32 + b.code * 2048
  | .fmul16 d b => 20 + d * 32 + b.code * 2048
  | .ffmaq d b => 22 + d * 32 + b.code * 2048
  | .fmax16 d b => 24 + d * 32 + b.code * 2048
  | .fmin16 d b => 26 + d * 32 + b.code * 2048
  | .vmov16 d b => 28 + d * 32 + b.code * 2048
  | .vmadq d b => 30 + d * 32 + b.code * 2048
  | .sadd d a x => 3 + d * 1024 + a * 65536 + x.code * 4194304
  | .ssub d a x => 19 + d * 1024 + a * 65536 + x.code * 4194304
  | .smul d a x => 35 + d * 1024 + a * 65536 + x.code * 4194304
  | .smulh d a x => 51 + d * 1024 + a * 65536 + x.code * 4194304
  | .smulhn d a x => 67 + d * 1024 + a * 65536 + x.code * 4194304
  | .sdiv d a x => 83 + d * 1024 + a * 65536 + x.code * 4194304
  | .sdivn d a x => 99 + d * 1024 + a * 65536 + x.code * 4194304
  | .srem d a x => 115 + d * 1024 + a * 65536 + x.code * 4194304
  | .sremn d a x => 131 + d * 1024 + a * 65536 + x.code * 4194304
  | .sand d a x => 147 + d * 1024 + a * 65536 + x.code * 4194304
  | .sor d a x => 163 + d * 1024 + a * 65536 + x.code * 4194304
  | .sxor d a x => 179 + d * 1024 + a * 65536 + x.code * 4194304
  | .sandn d a x => 195 + d * 1024 + a * 65536 + x.code * 4194304
  | .sshl d a x => 211 + d * 1024 + a * 65536 + x.code * 4194304
  | .sshr d a x => 227 + d * 1024 + a * 65536 + x.code * 4194304
  | .ssar d a x => 243 + d * 1024 + a * 65536 + x.code * 4194304
  | .smin d a x => 259 + d * 1024 + a * 65536 + x.code * 4194304
  | .smax d a x => 275 + d * 1024 + a * 65536 + x.code * 4194304
  | .sminn d a x => 291 + d * 1024 + a * 65536 + x.code * 4194304
  | .smaxn d a x => 307 + d * 1024 + a * 65536 + x.code * 4194304
  | .sseq d a x => 323 + d * 1024 + a * 65536 + x.code * 4194304
  | .ssne d a x => 339 + d * 1024 + a * 65536 + x.code * 4194304
  | .sslt d a x => 355 + d * 1024 + a * 65536 + x.code * 4194304
  | .ssle d a x => 371 + d * 1024 + a * 65536 + x.code * 4194304
  | .ssltn d a x => 387 + d * 1024 + a * 65536 + x.code * 4194304
  | .sslen d a x => 403 + d * 1024 + a * 65536 + x.code * 4194304
  | .sclz d a => 419 + d * 1024 + a * 65536
  | .spopc d a => 435 + d * 1024 + a * 65536
  | .ssext d a x => 451 + d * 1024 + a * 65536 + x.code * 4194304
  | .szext d a x => 467 + d * 1024 + a * 65536 + x.code * 4194304
  | .sli d imm => 483 + d * 1024 + imm.toNat * 65536
  | .slk1 d imm => 499 + d * 1024 + imm.toNat * 65536
  | .slk2 d imm => 515 + d * 1024 + imm.toNat * 65536
  | .slk3 d imm => 531 + d * 1024 + imm.toNat * 65536
  | .srsr d n => 4194851 + d * 1024 + n * 8388608
  | .swsr n a => 4194867 + n * 8388608 + a * 65536
  | .sadr d a x => 579 + d * 1024 + a * 65536 + x.code * 4194304
  | .bra t => 5 + t.toNat * 65536
  | .bz r t => 21 + r * 1024 + t.toNat * 65536
  | .bnz r t => 37 + r * 1024 + t.toNat * 65536
  | .bneg r t => 53 + r * 1024 + t.toNat * 65536
  | .bnneg r t => 69 + r * 1024 + t.toNat * 65536
  | .ball p t => 85 + p * 1024 + t.toNat * 65536
  | .bany p t => 101 + p * 1024 + t.toNat * 65536
  | .bnone p t => 117 + p * 1024 + t.toNat * 65536
  | .loop r t => 133 + r * 1024 + t.toNat * 65536
  | .call t => 149 + t.toNat * 65536
  | .callr r => 165 + r * 1024
  | .jmpr r => 181 + r * 1024
  | .split p t => 213 + p * 1024 + t.toNat * 65536
  | .merge k => 229 + k * 65536
  | .cont r t => 245 + r * 1024 + t.toNat * 65536
  | .trap k => 293 + k * 65536
  | .sleep r => 325 + r * 1024
  | .vadd d a b => 7 + d * 2048 + a * 524288 + b.code * 134217728
  | .vsub d a b => 23 + d * 2048 + a * 524288 + b.code * 134217728
  | .vmullo d a b => 39 + d * 2048 + a * 524288 + b.code * 134217728
  | .vmulhi d a b => 55 + d * 2048 + a * 524288 + b.code * 134217728
  | .vmulhin d a b => 71 + d * 2048 + a * 524288 + b.code * 134217728
  | .vmad d a b => 87 + d * 2048 + a * 524288 + b.code * 134217728
  | .vand d a b => 103 + d * 2048 + a * 524288 + b.code * 134217728
  | .vor d a b => 119 + d * 2048 + a * 524288 + b.code * 134217728
  | .vxor d a b => 135 + d * 2048 + a * 524288 + b.code * 134217728
  | .vandn d a b => 151 + d * 2048 + a * 524288 + b.code * 134217728
  | .vshl d a b => 167 + d * 2048 + a * 524288 + b.code * 134217728
  | .vshr d a b => 183 + d * 2048 + a * 524288 + b.code * 134217728
  | .vsar d a b => 199 + d * 2048 + a * 524288 + b.code * 134217728
  | .vmin d a b => 215 + d * 2048 + a * 524288 + b.code * 134217728
  | .vmax d a b => 231 + d * 2048 + a * 524288 + b.code * 134217728
  | .vminn d a b => 247 + d * 2048 + a * 524288 + b.code * 134217728
  | .vmaxn d a b => 263 + d * 2048 + a * 524288 + b.code * 134217728
  | .vabs d a => 279 + d * 2048 + a * 524288
  | .vclz d a => 295 + d * 2048 + a * 524288
  | .vpopc d a => 311 + d * 2048 + a * 524288
  | .vadd64 d a b => 327 + d * 2048 + a * 524288 + b.code * 134217728
  | .vsub64 d a b => 343 + d * 2048 + a * 524288 + b.code * 134217728
  | .vaddsat d a b => 359 + d * 2048 + a * 524288 + b.code * 134217728
  | .vdp4 d a b => 375 + d * 2048 + a * 524288 + b.code * 134217728
  | .vdp4n d a b => 391 + d * 2048 + a * 524288 + b.code * 134217728
  | .vceq d m a b => 519 + d * 2048 + m.code * 131072 + a * 524288 + b.code * 134217728
  | .vcne d m a b => 535 + d * 2048 + m.code * 131072 + a * 524288 + b.code * 134217728
  | .vclt d m a b => 551 + d * 2048 + m.code * 131072 + a * 524288 + b.code * 134217728
  | .vcle d m a b => 567 + d * 2048 + m.code * 131072 + a * 524288 + b.code * 134217728
  | .vcltn d m a b => 583 + d * 2048 + m.code * 131072 + a * 524288 + b.code * 134217728
  | .vclen d m a b => 599 + d * 2048 + m.code * 131072 + a * 524288 + b.code * 134217728
  | .fceq d m a b => 615 + d * 2048 + m.code * 131072 + a * 524288 + b.code * 134217728
  | .fcne d m a b => 631 + d * 2048 + m.code * 131072 + a * 524288 + b.code * 134217728
  | .fclt d m a b => 647 + d * 2048 + m.code * 131072 + a * 524288 + b.code * 134217728
  | .fcle d m a b => 663 + d * 2048 + m.code * 131072 + a * 524288 + b.code * 134217728
  | .fcun d m a b => 679 + d * 2048 + m.code * 131072 + a * 524288 + b.code * 134217728
  | .fadd d a b => 775 + d * 2048 + a * 524288 + b.code * 134217728
  | .fsub d a b => 791 + d * 2048 + a * 524288 + b.code * 134217728
  | .fmul d a b => 807 + d * 2048 + a * 524288 + b.code * 134217728
  | .ffma d a b => 823 + d * 2048 + a * 524288 + b.code * 134217728
  | .ffms d a b => 839 + d * 2048 + a * 524288 + b.code * 134217728
  | .fnma d a b => 855 + d * 2048 + a * 524288 + b.code * 134217728
  | .fmin d a b => 871 + d * 2048 + a * 524288 + b.code * 134217728
  | .fmax d a b => 887 + d * 2048 + a * 524288 + b.code * 134217728
  | .fabs d a => 903 + d * 2048 + a * 524288
  | .fneg d a => 919 + d * 2048 + a * 524288
  | .fdiv d a b => 935 + d * 2048 + a * 524288 + b.code * 134217728
  | .fsqrt d a => 951 + d * 2048 + a * 524288
  | .frcp d a => 967 + d * 2048 + a * 524288
  | .frsq d a => 983 + d * 2048 + a * 524288
  | .fexp2c d a => 999 + d * 2048 + a * 524288
  | .frint d a => 1015 + d * 2048 + a * 524288
  | .fscale d a b => 1031 + d * 2048 + a * 524288 + b.code * 134217728
  | .hadd2 d a b => 1159 + d * 2048 + a * 524288 + b.code * 134217728
  | .hmul2 d a b => 1175 + d * 2048 + a * 524288 + b.code * 134217728
  | .hfma2 d a b => 1191 + d * 2048 + a * 524288 + b.code * 134217728
  | .badd2 d a b => 1207 + d * 2048 + a * 524288 + b.code * 134217728
  | .bmul2 d a b => 1223 + d * 2048 + a * 524288 + b.code * 134217728
  | .bfma2 d a b => 1239 + d * 2048 + a * 524288 + b.code * 134217728
  | .vcvt d a c => 1287 + d * 2048 + a * 524288 + c * 134217728
  | .vpke4 d a b => 1303 + d * 2048 + a * 524288 + b.code * 134217728
  | .vpke5 d a b => 1319 + d * 2048 + a * 524288 + b.code * 134217728
  | .vshfl d a b => 1543 + d * 2048 + a * 524288 + b.code * 134217728
  | .vshflx d a b => 1559 + d * 2048 + a * 524288 + b.code * 134217728
  | .vshflu d a b => 1575 + d * 2048 + a * 524288 + b.code * 134217728
  | .vshfld d a b => 1591 + d * 2048 + a * 524288 + b.code * 134217728
  | .vpfxadd d a => 1607 + d * 2048 + a * 524288
  | .vpfxmax d a => 1623 + d * 2048 + a * 524288
  | .vredadd d a => 1639 + d * 2048 + a * 524288
  | .vredfadd d a => 1655 + d * 2048 + a * 524288
  | .vredmax d a => 1671 + d * 2048 + a * 524288
  | .vballot d a => 1687 + d * 2048 + a * 524288
  | .vget d a b => 1703 + d * 2048 + a * 524288 + b.code * 134217728
  | .vsetl d a b => 1719 + d * 2048 + a * 524288 + b.code * 134217728
  | .vlid d => 1735 + d * 2048
  | .vsr d c => 1751 + d * 2048 + c * 524288
  | .vmov d a => 1767 + d * 2048 + a * 524288
  | .vmovo k a => 1783 + k * 2048 + a * 524288
  | .pand d a b => 1927 + d * 2048 + a * 524288 + b * 134217728
  | .por d a b => 1943 + d * 2048 + a * 524288 + b * 134217728
  | .pxor d a b => 1959 + d * 2048 + a * 524288 + b * 134217728
  | .pandn d a b => 1975 + d * 2048 + a * 524288 + b * 134217728
  | .pnot d a => 1991 + d * 2048 + a * 524288
  | .pset d b => 2007 + d * 2048 + b.code * 134217728
  | .ppopc d a => 2023 + d * 2048 + a * 524288
  | .pfirst d a => 2039 + d * 2048 + a * 524288
  | .ldv8n t vx k obs => 9 + t * 1024 + vx * 262144 + k * 67108864 + obs * 536870912
  | .ldv8i t vx k obs => 25 + t * 1024 + vx * 262144 + k * 67108864 + obs * 536870912
  | .ldv16n t vx k obs => 41 + t * 1024 + vx * 262144 + k * 67108864 + obs * 536870912
  | .ldv16i t vx k obs => 57 + t * 1024 + vx * 262144 + k * 67108864 + obs * 536870912
  | .ldv32 t vx k obs => 73 + t * 1024 + vx * 262144 + k * 67108864 + obs * 536870912
  | .ldv64 t vx k obs => 89 + t * 1024 + vx * 262144 + k * 67108864 + obs * 536870912
  | .ldv128 t vx k obs => 105 + t * 1024 + vx * 262144 + k * 67108864 + obs * 536870912
  | .stv8 t vx k obs => 121 + t * 1024 + vx * 262144 + k * 67108864 + obs * 536870912
  | .stv16 t vx k obs => 137 + t * 1024 + vx * 262144 + k * 67108864 + obs * 536870912
  | .stv32 t vx k obs => 153 + t * 1024 + vx * 262144 + k * 67108864 + obs * 536870912
  | .stv64 t vx k obs => 169 + t * 1024 + vx * 262144 + k * 67108864 + obs * 536870912
  | .stv128 t vx k obs => 185 + t * 1024 + vx * 262144 + k * 67108864 + obs * 536870912
  | .lds32 r imm k obs => 201 + r * 1024 + imm * 262144 + k * 67108864 + obs * 536870912
  | .lds64 r imm k obs => 217 + r * 1024 + imm * 262144 + k * 67108864 + obs * 536870912
  | .sts32 r imm k obs => 233 + r * 1024 + imm * 262144 + k * 67108864 + obs * 536870912
  | .sts64 r imm k obs => 249 + r * 1024 + imm * 262144 + k * 67108864 + obs * 536870912
  | .ldc t vx k => 265 + t * 1024 + vx * 262144 + k * 67108864
  | .zline imm k => 281 + imm * 262144 + k * 67108864
  | .fence obs => 313 + obs * 536870912
  | .pref imm k => 329 + imm * 262144 + k * 67108864
  | .barinit r imm k obs => 361 + r * 1024 + imm * 262144 + k * 67108864 + obs * 536870912
  | .barar r imm k obs => 377 + r * 1024 + imm * 262144 + k * 67108864 + obs * 536870912
  | .barwait r imm k obs => 393 + r * 1024 + imm * 262144 + k * 67108864 + obs * 536870912
  | .barsync r imm k obs => 409 + r * 1024 + imm * 262144 + k * 67108864 + obs * 536870912
  | .bardrop r imm k obs => 425 + r * 1024 + imm * 262144 + k * 67108864 + obs * 536870912
  | .aadd t vx k obs => 521 + t * 1024 + vx * 262144 + k * 67108864 + obs * 536870912
  | .aand t vx k obs => 537 + t * 1024 + vx * 262144 + k * 67108864 + obs * 536870912
  | .aor t vx k obs => 553 + t * 1024 + vx * 262144 + k * 67108864 + obs * 536870912
  | .axor t vx k obs => 569 + t * 1024 + vx * 262144 + k * 67108864 + obs * 536870912
  | .amin t vx k obs => 585 + t * 1024 + vx * 262144 + k * 67108864 + obs * 536870912
  | .amax t vx k obs => 601 + t * 1024 + vx * 262144 + k * 67108864 + obs * 536870912
  | .aminn t vx k obs => 617 + t * 1024 + vx * 262144 + k * 67108864 + obs * 536870912
  | .amaxn t vx k obs => 633 + t * 1024 + vx * 262144 + k * 67108864 + obs * 536870912
  | .axchg t vx k obs => 649 + t * 1024 + vx * 262144 + k * 67108864 + obs * 536870912
  | .acas t vx k obs => 665 + t * 1024 + vx * 262144 + k * 67108864 + obs * 536870912
  | .afadd t vx k obs => 681 + t * 1024 + vx * 262144 + k * 67108864 + obs * 536870912
  | .abinc t vx k obs => 697 + t * 1024 + vx * 262144 + k * 67108864 + obs * 536870912
  | .awinc t vx k obs => 713 + t * 1024 + vx * 262144 + k * 67108864 + obs * 536870912
  | .adecp t vx k obs => 729 + t * 1024 + vx * 262144 + k * 67108864 + obs * 536870912
  | .aaddl t vx k obs => 745 + t * 1024 + vx * 262144 + k * 67108864 + obs * 536870912
  | .aadd64 t vx k obs => 777 + t * 1024 + vx * 262144 + k * 67108864 + obs * 536870912
  | .axchg64 t vx k obs => 793 + t * 1024 + vx * 262144 + k * 67108864 + obs * 536870912
  | .acas64 t vx k obs => 809 + t * 1024 + vx * 262144 + k * 67108864 + obs * 536870912
  | .amin64n t vx k obs => 825 + t * 1024 + vx * 262144 + k * 67108864 + obs * 536870912
  | .mma c a b m d => 11 + c * 1048576 + a * 1024 + b * 32768 + m * 16777216 + d * 67108864
  | .mmaz c a b m d => 27 + c * 1048576 + a * 1024 + b * 32768 + m * 16777216 + d * 67108864
  | .mclaim acc a n => 43 + acc.toNat * 33554432 + a * 1024 + n * 32768
  | .mrel acc a n => 59 + acc.toNat * 33554432 + a * 1024 + n * 32768
  | .mldo a c d => 75 + a * 1024 + c * 1048576 + d * 67108864
  | .msta a c d m => 91 + a * 1024 + c * 1048576 + d * 67108864 + m * 32768
  | .mzacc a b => 107 + a * 1024 + b * 32768
  | .mbatonQuery d => 2171 + d * 67108864
  | .qmv c d b ni no => 139 + c * 1048576 + d * 67108864 + b * 32768 + ni * 1024 + no * 4096
  | .qmva c d b ni no => 155 + c * 1048576 + d * 67108864 + b * 32768 + ni * 1024 + no * 4096
  | .qmvb c d b ni no => 171 + c * 1048576 + d * 67108864 + b * 32768 + ni * 1024 + no * 4096
  | .tdset a c => 187 + a * 1024 + c * 1048576
  | .tdget a c => 203 + a * 1024 + c * 1048576
  | .attn a b c d => 219 + a * 1024 + b * 32768 + c * 1048576 + d * 67108864
  | .attnf a c d => 235 + a * 1024 + c * 1048576 + d * 67108864
  | .attnz a => 251 + a * 1024
  | .mstat d => 267 + d * 67108864
  | .cpy a b c d => 13 + a * 1024 + b * 32768 + c * 1048576 + d * 67108864
  | .cpywp c d => 29 + c * 1048576 + d * 67108864
  | .blkcpy a b c d => 45 + a * 1024 + b * 32768 + c * 1048576 + d * 67108864
  | .gatherf a c d => 61 + a * 1024 + c * 1048576 + d * 67108864
  | .scatterf a c d => 77 + a * 1024 + c * 1048576 + d * 67108864
  | .launch a b c d => 93 + a * 1024 + b * 32768 + c * 1048576 + d * 67108864
  | .lwait c => 109 + c * 1048576
  | .spawn a b c d => 125 + a * 1024 + b * 32768 + c * 1048576 + d * 67108864
  | .join b => 141 + b * 32768
  | .reorder align d k p n => 157 + align.toNat * 8192 + d * 32768 + k * 67108864 + p * 1048576 + n * 1024
  | .mreg a b c d => 173 + a * 1024 + b * 32768 + c * 1048576 + d * 67108864
  | .mreq a c d => 189 + a * 1024 + c * 1048576 + d * 67108864
  | .mreply c => 205 + c * 1048576
  | .bgrant a b c d => 237 + a * 1024 + b * 32768 + c * 1048576 + d * 67108864
  | .chsend c d => 253 + c * 1048576 + d * 67108864
  | .chrecv c d => 269 + c * 1048576 + d * 67108864
  | .exproute b c d => 285 + b * 32768 + c * 1048576 + d * 67108864
  | .cfill a b d => 301 + a * 1024 + b * 32768 + d * 67108864
  | .hread c d => 63 + c * 1048576 + d * 67108864
  | .hwrite c d => 79 + c * 1048576 + d * 67108864
  | .hpatch d => 95 + d * 67108864
  | .hkill d => 127 + d * 67108864
  | .grow a c => 159 + a * 1024 + c * 1048576
  | .shrink a => 175 + a * 1024
  | .evsel a b => 191 + a * 1024 + b * 32768
  | .evrd a c => 207 + a * 1024 + c * 1048576
  | .ret => 197
  | .yield => 261
  | .exit => 277
  | .rett => 309
  | .vlexit => 1799
  | .stdrain => 297
  | .mbatonTake => 123
  | .mbatonPass => 1147
  | .mdone => 221
  | .nop => 31
  | .brkpt => 47
  | .hend => 111
  | .hkillt => 143
  | .esc e => 15 + e.toNat * 1024
  | .sleepEnd _ => 0
  | .stdrainResolve _ => 0
  | .barrierApply _ _ _ => 0
  | .loadDataReturn _ _ _ => 0
  | .storePerform _ _ _ => 0
  | .storeFaultRecord _ _ => 0
  | .atomicPerform _ _ _ => 0
  | .prefComplete _ _ => 0
  | .mclaimGrant _ => 0
  | .qmvQuarterComplete _ => 0
  | .mldoComplete _ _ => 0
  | .mmaComplete _ _ _ _ => 0
  | .mstaComplete _ _ => 0
  | .mzaccComplete _ _ => 0
  | .attnComplete _ _ _ _ => 0
  | .attnfComplete _ _ => 0
  | .attnzComplete _ _ => 0
  | .cpywpResult _ _ => 0
  | .copyComplete _ _ _ _ => 0
  | .launchComplete _ _ => 0
  | .spawnComplete _ _ => 0
  | .reorderArrive _ => 0
  | .reorderCollectiveStart _ => 0
  | .reorderCollectiveComplete _ => 0
  | .mregSliceResult _ _ => 0
  | .mreqArrive _ _ _ => 0
  | .mordantBatchClose _ => 0
  | .combinerWaveStart _ => 0
  | .combinerWaveLimit _ => 0
  | .chsendAccept _ _ => 0
  | .chrecvDeliver _ _ => 0
  | .channelMessageArrive _ _ _ _ => 0
  | .expertReplicaCommit _ _ => 0
  | .cfillComplete _ _ _ => 0
  | .growGrant _ => 0
  | .growDeadlockFail _ => 0
  | .shrinkApply _ => 0
  | .laneCollectionClose _ _ => 0
  | .handlerWaveStart _ _ => 0
  | .laneWaveLimit _ => 0
  | .slotPromotion _ => 0
  | .graceForcedSave _ => 0
  | .topupLand _ _ => 0
  | .contextRestore _ => 0
  | .groupEvictSave _ => 0
  | .evictedGroupReturn _ _ => 0
  | .launchCommandStart _ => 0
  | .leaseResidencyWalk _ => 0
  | .childGridAccept _ => 0
  | .teamPlace _ => 0
  | .stealMessage _ => 0
  | .stealTeamsArrive _ => 0
  | .taskQueuePlace _ _ => 0
  | .groupRetire _ => 0
  | .spawnTaskRetire _ => 0
  | .gridRetire _ => 0
  | .qtailWrite _ _ => 0
  | .qctlWrite _ _ => 0
  | .queueSwitchOut _ => 0
  | .queueSwitchOutDone _ => 0
  | .queueSwitchIn _ => 0
  | .iqtailWrite _ => 0
  | .iqctlWrite _ => 0
  | .invalidateCommand => 0
  | .rqheadWrite _ _ => 0
  | .ggo _ => 0
  | .registerWrite _ _ _ => 0
  | .pageMigrationStart _ _ _ => 0
  | .pageMigrationEnd _ => 0
  | .softErrorCorrected _ => 0
  | .coreStorageUncorrectable _ _ => 0
  | .engineStorageUncorrectable _ _ _ => 0
  | .madderUncorrectable _ => 0
  | .memoryUncorrectable _ => 0
  | .packageReset => 0
  | .bootVerify _ => 0
  | .umberImageLoad _ => 0
  | .umberReplaceComplete => 0
  | .attestationReport _ => 0
  | .portDown _ => 0
  | .peerRequest _ => 0
  | .powerThrottle _ => 0
  | .eventCountWrite _ _ => 0
  | .hostMemoryAccess _ => 0
  | .portRetrain _ => 0
  | .expertRoutingTableWrite _ _ => 0

/-- The bytes of an instruction, little-endian (00 R2, 02 R14). -/
def encode (i : Instr) : List Byte :=
  (List.range i.size).map (fun k => BitVec.ofNat 8 (i.word / 2 ^ (8 * k)))

/-- The instruction the decoder reads from an instruction whose bits are w, the first word lowest. -/
noncomputable def decodeTableWord (nbits w : Nat) : Option Instr :=
  match decode ((List.range (max 4 (nbits / 8))).map (fun k => BitVec.ofNat 8 (w / 2 ^ (8 * k)))) with
  | some (x, _) => x.instr
  | none => none

end Sys2Proof
end

