-- ==== Sys2Proof/Config.lean ====
section
/-! DEFINITION. What the manual leaves open, and the constants of the part. A free value is an opaque constant
without a body: nothing can be proved of its value (notes/assumptions 6, 7, 8, 10, 12, 18). -/

namespace Sys2Proof.Config

/-- A free bit of a draw (R173: whether a line that the L1 may hold is filled again). -/
opaque freeBit : Nat → Bool

/-- A free 32-bit value of a draw. -/
opaque freeWord : Nat → Word

/-- How many of the latest writes an access may not have observed yet, for a draw and a place (23 R350, R353, R356). -/
opaque staleness : Nat → Nat → Nat

/-- A free number of a draw (which of several equal choices the part makes). -/
opaque freeNat : Nat → Nat

/-- Which cached translation a full TLB of n entries gives up (22 R339; log 7). -/
opaque tlbVictim : Nat → Nat → Nat

/-- What firmware allows a task of a grant capability at the task's start, by task, queue and field (19 R306; log 110). -/
opaque grantPolicy : Nat → Option Nat → Nat → Nat

/-- The 64-bit identifier that the part assigns to a grid (05 R99; log 22). -/
opaque gridId : Nat → DWord

/-- Whether a signature is valid under the part's keys (25 R382, 27 R399; log 12). -/
opaque signatureValid : List Byte → List Byte → Bool

/-- The signature the part makes of a report (27 R399; log 12). -/
opaque sign : List Byte → List Byte

/-- The part's serial number (27 R399; log 12). -/
opaque serialNumber : DWord

/-- What the body of an Umber sequence writes: pairs of a destination and a value, for the image version, the
extended opcode and a draw (25 R382; log 10). A destination below 64 is an s register. -/
opaque umberWrites : Nat → Nat → Nat → List (Nat × DWord)

/-- Whether an Umber sequence raises its fault class, for the image version, the extended opcode and a draw (25 R382;
log 10). -/
opaque umberFaults : Nat → Nat → Nat → Bool

/-- The events that an Umber sequence of class NONFINITE raises in a lane, for the image version, the extended opcode, a draw
and the lane (25 R382; log 10). -/
opaque umberEvents : Nat → Nat → Nat → Nat → Nat

/-- Bytes of a page that the walk of an inconsistent C group uses (22 R338: any one of the 16). -/
opaque cGroupEntry : Nat → Nat

/-- Whether CXL memory stands behind a frame of the slow tier (22 R334; log 9). -/
opaque slowTierPresent : Nat → Bool

/-- Where firmware recorded an expert's weights and their spare location, by die and entry: physical source, destination and
length; none where it recorded none (16 R284; log 105). -/
opaque expertWeights : Nat → Nat → Option (Nat × Nat × Nat)

/-- The peer id that firmware gives the part, modulo 4,095 (27 R390; log 12). -/
opaque peerId : Nat

/-- The fabric port to which firmware routes a remote peer id (27 R390; log 12). -/
opaque peerPort : Nat → Nat

/-- An export window: address space, base, length, and whether it is rw (27 R390). -/
structure ExportWindow where
  asid : Nat
  base : Nat
  len : Nat
  rw : Bool
deriving DecidableEq, Repr, Inhabited

/-- The export windows that firmware declares, by number (27 R390; log 12). -/
opaque exportWindow : Nat → Option ExportWindow

/-- Base of the scratchpad window SPW (05 R85, 09 R161). -/
def spwBase : Nat := 0x007FFFFFFFC00000

/-- Size of the scratchpad window (09 R160). -/
def spwSize : Nat := 0x400000

/-- Bytes of the constant store (10 R185). -/
def constBytes : Nat := 131072

/-- Size of device memory, 768 GiB (22 R334). -/
def deviceBytes : Nat := 824633720832

/-- Base of the slow tier (22 R334). -/
def slowBase : Nat := 17592186044416

/-- Size of the slow tier range, 4 TiB (22 R334). -/
def slowBytes : Nat := 4398046511104

end Sys2Proof.Config
end

