-- ==== Sys2Proof/Machine/Store.lean ====
section
/-! DEFINITION. Finite maps from numbers, as lists of key and value in one canonical form: keys strictly
rising, and for a map with a default no entry equal to it. Registers, memory bytes, slots and tables of the
S4 are kept so. -/

namespace Sys2Proof.Machine

/-- A finite map from numbers. -/
abbrev SMap (α : Type) := List (Nat × α)

/-- The entry of a key, if there is one. -/
def SMap.look {α : Type} : SMap α → Nat → Option α
  | [], _ => none
  | (k, v) :: r, i => if k = i then some v else SMap.look r i

/-- Insert or replace the entry of a key. -/
def SMap.ins {α : Type} : SMap α → Nat → α → SMap α
  | [], i, v => [(i, v)]
  | (k, w) :: r, i, v =>
    if i < k then (i, v) :: (k, w) :: r
    else if i = k then (i, v) :: r
    else (k, w) :: SMap.ins r i v

/-- Remove every entry of a key. -/
def SMap.del {α : Type} : SMap α → Nat → SMap α
  | [], _ => []
  | (k, w) :: r, i => if k = i then SMap.del r i else (k, w) :: SMap.del r i

/-- Change the entry of a key; nothing happens where there is none. -/
def SMap.upd {α : Type} : SMap α → Nat → (α → α) → SMap α
  | [], _, _ => []
  | (k, w) :: r, i, f => if k = i then (k, f w) :: SMap.upd r i f else (k, w) :: SMap.upd r i f

/-- The value of a key in a map whose unlisted keys read `d`. -/
def SMap.get {α : Type} (m : SMap α) (d : α) (i : Nat) : α := (m.look i).getD d

/-- Write a key of a map whose unlisted keys read `d`: the default is not listed. -/
def SMap.put {α : Type} [DecidableEq α] (m : SMap α) (d : α) (i : Nat) (v : α) : SMap α :=
  if v = d then m.del i else m.ins i v

/-- The entries whose key satisfies f. -/
def SMap.keep {α : Type} (m : SMap α) (f : Nat → Bool) : SMap α := m.filter (fun e => f e.1)

/-- The keys listed. -/
def SMap.keys {α : Type} (m : SMap α) : List Nat := m.map (·.1)

/-- The values listed. -/
def SMap.vals {α : Type} (m : SMap α) : List α := m.map (·.2)

/-- Keys strictly rise. -/
def SMap.rising {α : Type} : SMap α → Bool
  | [] => true
  | [_] => true
  | (k, _) :: (k', w') :: r => decide (k < k') && SMap.rising ((k', w') :: r)

/-- The canonical form of a map whose unlisted keys read `d`. -/
def SMap.wf {α : Type} [DecidableEq α] (m : SMap α) (d : α) : Bool :=
  m.rising && m.all (fun e => decide (e.2 ≠ d))

/-- The map that holds `f i` at `base + i` for `i < n`, unlisted where that is `d`. -/
def SMap.table {α : Type} [DecidableEq α] (n : Nat) (d : α) (base : Nat) (f : Nat → α) : SMap α :=
  (List.range n).filterMap (fun i => if f i = d then none else some (base + i, f i))

/-- Write `f i` at `base + i` for every `i < n`. -/
def SMap.putRange {α : Type} [DecidableEq α] (m : SMap α) (d : α) (base : Nat) (f : Nat → α) : Nat → SMap α
  | 0 => m
  | n + 1 => (SMap.putRange m d base f n).put d (base + n) (f n)

end Sys2Proof.Machine
end

