-- ==== Sys2Proof/Machine/State.lean ====
section
/-! DEFINITION. The state of the S4 as plain data: contexts and groups (05), teams and tasks (16, 19), cores (10, 11,
12), the dies' tables (16, 20, 25), the I/O die (16, 22, 24, 27) and memory (22); and the state after reset. Two
fields are the model's own order of events: `agenda` and `cur` (log 2). -/

namespace Sys2Proof.Machine

/-- Why the machine stops with a fault. The S4's own faults are next states (24 R362), so a run meets one of these
only where the manual gives no effect at all. -/
inductive Fault where
  /-- Raised by no meaning: every fault the manual describes is a next state. Safe. -/
  | unreachable
deriving DecidableEq, Repr

/-- Why an instruction has no meaning here. -/
inductive Refusal where
  /-- Raised by an arm whose meaning is not written yet. Safe. -/
  | notModelled (mnemonic : String)
deriving DecidableEq, Repr

/-- A trap, with the values it gives the trap registers (24 R362, R363) and what RETT does after it. -/
structure Trap where
  cause : Nat
  info : DWord
  addr : DWord
  pc : DWord
  clause : DWord
  idx : Nat
  /-- RETT ends the context: an ILLEGAL at a header (24 R362) -/
  ends : Bool
  /-- RETT completes the held instruction of the context (08 R155) -/
  lanes : Bool
deriving DecidableEq, Repr

/-- The operands of a REORDER (14 R250): key register, first payload register, payload count, result base, `.align`. -/
structure ReorderArgs where
  k : Nat
  p : Nat
  n : Nat
  d : Nat
  align : Bool
deriving DecidableEq, Repr

/-- Why a context does not issue (05 R92, R98, 06 R119-R125, 08 R149, 10 R187-R199, 11 R209, R222, 14 R250, 16 R281). -/
inductive Stop where
  /-- it issues -/
  | running
  /-- waits at MERGE k; the pc is behind the MERGE -/
  | merge (k : Nat)
  /-- SLEEP until a core cycle -/
  | sleep (wake : Nat)
  /-- BARWAIT or BARSYNC, until its operation is applied and the phase differs; the phase compared is known once
  the operation is applied -/
  | barrier (op : Nat) (k : Nat) (phase : Option Nat)
  /-- blocked in GROW n granules, the result in s[d]; its place in the partition's order -/
  | grow (d n order : Nat)
  /-- SHRINK n granules, until the slot has drained -/
  | shrink (n : Nat)
  /-- MCLAIM of n+1 slots from a -/
  | mclaim (acc : Bool) (a n order : Nat)
  /-- JOIN, until its operation completes -/
  | join (op : Nat)
  /-- STDRAIN, until the slot's earlier stores have cleared -/
  | stdrain
  /-- an MMA or ATTN held by an implicit baton take -/
  | baton
  /-- REORDER: in its drain, or arrived at the collective -/
  | reorder (a : ReorderArgs) (arrived : Bool)
  /-- a held lane trap -/
  | laneTrap
  /-- trapped, waiting for the handler or stopped under it -/
  | handlerWait
  /-- parked as replayable on a page in migration -/
  | replay (page : Nat)
  /-- saved by CONT or YIELD under a pending yield; the map, or none for a save of every register -/
  | saved (map : Option DWord)
  /-- saved whole by GRACE; why it did not issue before -/
  | graceSaved (was : Stop)
  /-- counted as saved at its entry clause: its team was placed yield-pending (19 R301) -/
  | entry
deriving DecidableEq, Repr

/-- A context of a group slot (05 R89). -/
structure Context where
  /-- s0-s63, unlisted 0 -/
  s : SMap DWord
  p0 : Word
  /-- address of the next word -/
  pc : DWord
  contpc : DWord
  map : DWord
  /-- the clause address and the index of the next instruction (02 R15) -/
  clause : DWord
  idx : Nat
  /-- the next word must be a header (02 R17) -/
  due : Bool
  /-- the latched clause predicate (02 R22) -/
  pred : Word
  /-- flags of the clause's M/X and A instructions; 15 is none (02 R20) -/
  setA : Nat
  setB : Nat
  stop : Stop
  /-- the observer set of the barrier operation that it last stopped at (10 R193) -/
  stall : BitVec 7
  /-- when it last issued, for the choice of 10 R187; 0 is never -/
  lastIssue : Nat
deriving DecidableEq, Repr

/-- A dormant or parked record (05 R91). -/
structure Record where
  s : SMap DWord
  pc : DWord
  contpc : DWord
  map : DWord
  mask : Word
  /-- the MERGE token of a parked record, none for a dormant one -/
  token : Option Nat
  /-- the context that pushed it -/
  owner : Nat
deriving DecidableEq, Repr

/-- A completion flag: outstanding operations, and the oldest undelivered error (02 R23, R26). -/
structure Flag where
  count : Nat
  err : Option Trap
deriving DecidableEq, Repr

/-- One lane's part of a memory access; lane 32 stands for a scalar access. -/
structure LaneAcc where
  lane : Nat
  va : DWord
  /-- the byte's place once translated: a physical address, or scratchpad or constant-store bytes above them -/
  loc : Option Nat
  /-- store data or atomic operands, low word first -/
  data : List Word
  /-- the page whose translation it used: first address and size -/
  page : Option (Nat × Nat)
deriving DecidableEq, Repr

/-- What a lane of a store failed with: the subcode of 09 R175. -/
structure LaneFail where
  lane : Nat
  va : DWord
  sub : Nat
  /-- the page whose translation it used, where the translation refused it -/
  page : Option (Nat × Nat)
deriving DecidableEq, Repr

/-- The kind of an element of a load: its bytes, whether sign-extended, and its registers. -/
structure LoadKind where
  size : Nat
  signed : Bool
deriving DecidableEq, Repr

/-- The barrier operations (10 R190). -/
inductive BarKind where
  | init | arrive | wait | sync | drop
deriving DecidableEq, Repr

/-- The atomic operations (20 R309-R312). -/
inductive AtomKind where
  | add | and_ | or_ | xor_ | min | max | minn | maxn | xchg | cas | fadd | binc | winc | addl | decp
  | add64 | xchg64 | cas64 | min64n
deriving DecidableEq, Repr

/-- A QMV, QMVA or QMVB (11 R223-R225): inputs and outputs per vector, first destination and source registers, the
weights' offset, form (0 QMV, 1 QMVA, 2 QMVB), the lanes, and the quarters still to compute. -/
structure QmvOp where
  nin : Nat
  nout : Nat
  d : Nat
  a : Nat
  off : Nat
  form : Nat
  lanes : Word
  quarters : List Nat
  /-- source words read at issue, by 32 * register + lane -/
  src : SMap Word
  /-- TRAPNF at issue and the instruction's code: where TRAPNF is not 0, the words computed and the events of each, by
  32 * output + lane, wait for the last quarter (11 R226) -/
  trapnf : BitVec 4
  code : Nat
  out : SMap Word
  ev : SMap Nat
deriving DecidableEq, Repr

/-- A tensor descriptor word (11 R202): 256 bits. -/
abbrev Td := BitVec 256

/-- A format tag of an operand slot: FMT and SCALE (11 R208). -/
structure Tag where
  fmt : Nat
  scale : Nat
deriving DecidableEq, Repr

/-- A row that a block copy, gather or scatter moves: its lane, the lane's index, and its position (12 R239, 27 R392). -/
structure RowLane where
  lane : Nat
  idx : Nat
  pos : Nat
deriving DecidableEq, Repr

/-- Progress of a copy (12 R237): operation, CPY or not, bytes written or positions settled, lanes masked, TRUNC,
BADBLK, and whether it has completed. -/
structure CopyProg where
  op : Nat
  blk : Bool
  progress : Nat
  lmask : Word
  trunc : Bool
  bad : Bool
  done : Bool
  /-- flags of its CPYWPs that have returned and are not waited for yet, and whether one has been waited for (12 R238) -/
  flags : List Nat
  watched : Bool
deriving DecidableEq, Repr

/-- A block copy (12 R239): table, entries, rows per block, bytes per row, destination, first row, its lanes; positions
settled, the address of the block at hand, and the lines already charged (2 * line, 1 more for a write). -/
structure BlkOp where
  table : DWord
  len : Nat
  bs : Nat
  rowBytes : Nat
  td : Td
  f : Nat
  rows : List RowLane
  done : Nat
  src : Option DWord
  seen : List Nat
deriving DecidableEq, Repr

/-- A gather or scatter (27 R391, R392): table, rows in it, bytes per row, shard, owners, export window, descriptor, the
rows still to settle and how many there were, and the lines already charged. -/
structure FabOp where
  scatter : Bool
  base : DWord
  len : Nat
  rowBytes : Nat
  shard : Nat
  own : List Nat
  win : Nat
  td : Td
  rows : List RowLane
  total : Nat
  seen : List Nat
  /-- bytes of settled rows whose line other rows still write, by place: the line is written whole (23 R357) -/
  buffer : SMap Byte
deriving DecidableEq, Repr

/-- A lane of an EXPROUTE: the table entry that it names, none outside its window, and its thread (16 R283). -/
structure RouteLane where
  lane : Nat
  entry : Option Nat
  tid : Nat
deriving DecidableEq, Repr

/-- An Umber sequence at work (25 R382, R383): the image version and extended opcode whose body it is, the draw that names
the body's writes, the lanes active at issue, the v registers that a handler's HPATCH or HWRITE has written in its place (lane,
first register, count; 08 R155), and the trap to take once it has completed. -/
structure UmberOp where
  version : Nat
  code : Nat
  draw : Nat
  lanes : Word
  skip : List (Nat × Nat × Nat)
  trap : Option Trap
deriving DecidableEq, Repr

/-- What an outstanding operation is. Its operands were read at issue (02 R28). -/
inductive OpKind where
  /-- vector load into vt; the lanes still to return -/
  | load (k : LoadKind) (t : Nat) (acc : List LaneAcc)
  /-- scalar load into st of a context -/
  | loadS (size t : Nat) (acc : LaneAcc)
  | ldc (t : Nat) (acc : List LaneAcc)
  | store (size : Nat) (acc : List LaneAcc) (failed : List LaneFail) (lines : List Nat)
  | zline (acc : LaneAcc) (failed : List LaneFail)
  /-- the line to fetch, and the page whose translation it used -/
  | pref (line : Option Nat) (page : Option (Nat × Nat))
  /-- the physical lines already paid for -/
  | atomic (k : AtomKind) (t : Nat) (acc : List LaneAcc) (lines : List Nat)
  | barrier (k : BarKind) (bar : Nat) (lanes : Word) (t : Nat) (arg : DWord)
  | qmv (q : QmvOp)
  /-- waits for a child grid to retire (16 R277) -/
  | lwait (k : Nat)
  /-- LAUNCH: result register, descriptor, IBUD and TBUD shares (16 R275) -/
  | launch (c : Nat) (desc ins bytes : DWord)
  /-- SPAWN: result register, descriptor, join counter, share (16 R279) -/
  | spawn (c : Nat) (desc ctr share : DWord)
  /-- JOIN on the counter at a scratchpad offset of the team (16 R281) -/
  | join (off : Nat)
  /-- capability, words by lane, whether accepted by the receiver (27 R396) -/
  | chsend (cap : Nat) (words : List Word) (lanes : Word)
  | chrecv (cap d : Nat) (lanes : Word)
  /-- constant-store fill: source, store offset, length, bytes written (10 R186) -/
  | cfill (src : DWord) (off n done : Nat)
  /-- MREG: object address, method, flags, capability, the place of the object's first line (20 R317) -/
  | mreg (obj method flags : DWord) (cap key : Nat)
  /-- MREQ: status predicate, first register, object address, arguments by lane, lanes without an outcome, lanes sent
  (20 R320) -/
  | mreq (p c : Nat) (obj : DWord) (args : SMap DWord) (todo sent : Word)
  /-- MLDO into an operand slot: descriptor, first row and column (11 R213) -/
  | mldo (a : Nat) (td : Td) (row0 col0 : Nat)
  /-- MMA, or MMAZ: slots A, B, C, sizes M, N, and the tags at issue, A's first (11 R214) -/
  | mma (zero : Bool) (a b c m n : Nat) (tags : List Tag)
  /-- MSTA: slot, descriptor, first row and column, mode, and whether a target slot is cleared first (11 R218) -/
  | msta (a : Nat) (td : Td) (row0 col0 mode : Nat) (clear : Bool)
  | mzacc (a n : Nat)
  /-- ATTN: O slot, Q slot with its tag at issue, K and V descriptors (12 R229) -/
  | attn (b a : Nat) (q : Tag) (k v : Td)
  /-- ATTNF: slot, descriptor, first row and column, H (12 R232) -/
  | attnf (a : Nat) (td : Td) (row0 col0 h : Nat)
  /-- ATTNZ: slot and H (12 R233) -/
  | attnz (a h : Nat)
  /-- CPY on a channel: source, destination, length (12 R236) -/
  | cpy (ch : Nat) (src dst : DWord) (len : Nat)
  | blkcpy (ch : Nat) (b : BlkOp)
  | fabric (ch : Nat) (f : FabOp)
  /-- CPYWP: result register, the word sampled at issue and the copy that it speaks of (12 R237, R238) -/
  | cpywp (d : Nat) (w : DWord) (copy : Option Nat)
  /-- BGRANT: the target task, instruction units and bytes (19 R307) -/
  | grant (task : Nat) (ni nt : Int)
  /-- EXPROUTE: result register, its lanes, and the named entries as they stood at issue (16 R283) -/
  | exproute (c : Nat) (rows : List RouteLane) (old : SMap DWord)
  /-- ESC: the body of an Umber sequence (02 R45, 25 R382) -/
  | umber (u : UmberOp)
deriving DecidableEq, Repr

/-- An outstanding operation of a slot (02 R24, R27). -/
structure Op where
  id : Nat
  ctx : Nat
  /-- the flag it counts on, none when untracked -/
  flag : Option Nat
  /-- the observer set of its suffix, read at issue; 0 is relaxed (09 R167) -/
  obs : BitVec 7
  pc : DWord
  clause : DWord
  idx : Nat
  kind : OpKind
  /-- physical lines that an engine owns until it has written them (23 R357) -/
  own : List Nat
  /-- its instruction is held for a lane trap: it is issued and performs nothing yet (07 R128, 09 R160) -/
  gate : Bool
deriving DecidableEq, Repr

/-- A trapping lane of a held instruction (08 R149, R150). -/
structure LaneTrap where
  lane : Nat
  cause : Nat
  nfclass : Nat
  /-- handler v1, v2: the operands, or the address -/
  a : Word
  b : Word
  /-- resolved, and by which replacement words -/
  resolved : Bool
  patch : Option (List Word)
  /-- collected into a handler wave -/
  sent : Bool
deriving DecidableEq, Repr

/-- A held instruction of a context (07 R128, 08 R149). -/
structure Held where
  traps : List LaneTrap
  active : Word
  /-- its result registers: first, count, and the words by 32 * i + lane -/
  dest : Nat
  width : Nat
  results : SMap Word
  /-- events of each lane, by lane -/
  events : SMap Nat
  /-- how often q rotates (0, 1, 2) -/
  rotate : Nat
  /-- one lane stands for all (VREDFADD, 08 R147) -/
  whole : Bool
  /-- the operation that issues for the passing lanes, and its flag's field -/
  op : Option Op
  short : Bool
  cls : Nat
  code : Nat
  pc : DWord
  clause : DWord
  idx : Nat
deriving DecidableEq, Repr

/-- A running group handler and the point RETT resumes (24 R364). -/
structure Handler where
  ctx : Nat
  pc : DWord
  clause : DWord
  idx : Nat
  due : Bool
  pred : Word
  setA : Nat
  setB : Nat
  trap : Trap
  stop : Stop
  /-- its first header has not been fetched yet (24 R366) -/
  fresh : Bool
deriving DecidableEq, Repr

/-- A cached translation (22 R339, 09 R174). -/
structure Xlat where
  asid : Nat
  base : Nat
  size : Nat
  frame : Nat
  w : Bool
  x : Bool
deriving DecidableEq, Repr

/-- A last-page register: the translation, and the index of the lease range that its access lay in (09 R174). -/
structure LastPage where
  x : Xlat
  lease : Nat
deriving DecidableEq, Repr

/-- A store-fault record (09 R175). -/
structure StoreFault where
  g : SlotRef
  clause : DWord
  idx : Nat
  pc : DWord
  mask : Word
  addr : DWord
  sub : Nat
deriving DecidableEq, Repr

/-- A collected lane: where it came from (slot, placement generation, context and lane), the destination registers of its
instruction, the core cycle in which it trapped, and the words of v0-v6 of its wave lane (08 R150, R151). -/
structure Origin where
  g : SlotRef
  gen : BitVec 16
  ctx : Nat
  lane : Nat
  width : Nat
  tick : Nat
  regs : List Word
deriving DecidableEq, Repr

/-- Lanes being collected, in the order in which they trapped, and closed collections that wait for a slot, oldest
first (08 R150). -/
structure Collect where
  lanes : List Origin
  ready : List (List Origin)
deriving DecidableEq, Repr

/-- Who made a write of memory (23 R349): an access of a slot or an engine operation of one, by its number. -/
inductive Author where
  | slot (g : SlotRef) (op : Nat)
  | engine (g : SlotRef) (op : Nat)
deriving DecidableEq, Repr

/-- Whom a write has reached (23 R349, R350), and whom a read that returned it binds (R353). An engine operation is bound
where its number is from_ or above: it was issued later. -/
inductive Reach where
  /-- it is performed with respect to an observer set, taken relative to a slot and its team -/
  | set (obs : BitVec 7) (g : SlotRef) (team : Option Nat) (from_ : Nat)
  /-- it happens before what a slot of a task does next, and before the engine operations of these agents that the slot
  then issues -/
  | known (g : SlotRef) (task : Nat) (eng : BitVec 7) (from_ : Nat)
  /-- a read that returned it happens before a release to an observer set -/
  | read (obs : BitVec 7) (g : SlotRef) (team : Option Nat)
  /-- a read that returned it happens before what a slot does next, as for known -/
  | seen (g : SlotRef) (task : Nat) (eng : BitVec 7) (from_ : Nat)
  /-- a slot has read it: its later reads of the byte do not go behind it -/
  | self (g : SlotRef) (task : Nat)
  /-- it, or where write is false a read that returned it, happens before a header of the slot whose WAIT names the flag
  (R355, R359) -/
  | signal (g : SlotRef) (task flag : Nat) (eng : BitVec 7) (write : Bool)
  /-- it was signalled complete: every matrix load issued later, from_ or above, sees it (11 R213) -/
  | done (from_ : Nat)
  /-- a write of the scratchpad is at its point of coherence at once (23 R358) -/
  | all
deriving DecidableEq, Repr

/-- A write of memory that some agent may not have observed yet (23 R350). -/
structure Write where
  author : Author
  task : Nat
  reach : List Reach
deriving DecidableEq, Repr

/-- What occupies a slot. -/
inductive GroupKind where
  | group
  /-- a lane-trap handler wave: where each lane came from (slot, context, lane) -/
  | laneWave (origins : List Origin) (patches : SMap (List Word))
  /-- a Mordant combiner wave of an object -/
  | combiner (obj : Nat)
deriving DecidableEq, Repr

/-- A group slot's occupant (05 R84, R99). -/
structure Group where
  kind : GroupKind
  team : Nat
  task : Nat
  gi : Nat
  gen : BitVec 16
  ctxs : SMap Context
  records : List Record
  /-- v, o and q registers by 32 * register + lane, unlisted 0 -/
  v : SMap Word
  o : SMap Word
  q : SMap Word
  /-- p1-p63 as lane masks, unlisted 0 -/
  p : SMap Word
  /-- the threads' identity by lane (05 R83) -/
  teamThread : SMap Word
  keys : SMap Word
  origin : SMap Word
  flags : SMap Flag
  frm : BitVec 2
  trapnf : BitVec 4
  fpflags : BitVec 6
  /-- events that have reached FPFLAGS in this core cycle (04 R70) -/
  fpnow : BitVec 6
  /-- obs1-obs7 by number -/
  obs : SMap (BitVec 7)
  trapCause : DWord
  trapAddr : DWord
  trapInfo : DWord
  trapPc : DWord
  /-- the handler bank, s56-s63 by number -/
  bank : SMap DWord
  handler : Option Handler
  /-- contexts waiting for the handler, oldest first (24 R365) -/
  waiting : List (Nat × Trap)
  /-- the cycle in which each context last trapped, by context (24 R365) -/
  trapped : SMap Nat
  regalloc : Nat
  ops : List Op
  /-- errors of untracked engine operations and Mordant abort reports, oldest first (02 R402) -/
  engineErrs : List Trap
  mordErrs : List Trap
  /-- operations that a FENCE or STDRAIN waits for (09 R171, R172) -/
  hold : List Nat
  /-- the set of the FENCE that holds the slot: what it waits for is performed with respect to it (09 R171) -/
  fence : BitVec 7
  held : SMap Held
  /-- engine status (11 R220) -/
  estatus : DWord
  /-- latest copy per channel (12 R237); latest gather or scatter on channel k at 4 + k (27 R394); and at 16 + its number an
  earlier one, still at work, of which a CPYWP spoke (12 R238) -/
  copies : SMap CopyProg
  /-- a combiner wave's own descriptors (20 R323; log 26) -/
  td : SMap Td
  /-- last-page registers: lanes 0-31 and the SCT at 32 (09 R174) -/
  pages : SMap LastPage
  /-- instructions since the core learnt of the pending yield (19 R302) -/
  graceCount : Nat
  graceDue : Bool
  /-- instructions executed by a wave (08 R152, 20 R327) -/
  executed : Nat
  /-- stopping to be evicted (10 R199) -/
  evicting : Bool
  /-- order of placement (10 R188) -/
  placed : Nat
  /-- ready cycles not picked, and promotion (10 R188) -/
  waited : Nat
  promoted : Bool
  /-- the last lanes have gone; it waits for its drain (05 R95) -/
  ended : Bool
deriving DecidableEq, Repr

/-- Where a group of a team is. -/
inductive Place where
  | at (g : SlotRef)
  /-- evicted: its image, and the partition and core it returns to -/
  | image (g : Group) (from_ : SlotRef)
  | retired
deriving DecidableEq, Repr

/-- An operand slot (11 R208): 64 rows of 256 bytes, by 256 * row + byte, packed as 04 R73 and R76 pack memory; the side
row of each, by 16 * row + block; its tag. The chunk summaries are functions of these. -/
structure OmSlot where
  team : Nat
  bytes : SMap Byte
  side : SMap Byte
  tag : Option Tag
deriving DecidableEq, Repr

/-- An accumulator slot (11 R208, 12 R228): words by 64 * row + column, unlisted 0; m by row, unlisted −∞; l by row,
unlisted +0; H. -/
structure AcSlot where
  team : Nat
  words : SMap Word
  m : SMap Word
  l : SMap Word
  h : Nat
deriving DecidableEq, Repr

/-- What stands in a core's engine queue (11 R210): an operation, or slots that an MREL releases (11 R209). -/
inductive EngineEntry where
  | op (r : OpRef)
  | rel (team : Nat) (acc : Bool) (slots : List Nat)
deriving DecidableEq, Repr

/-- The implicit drop of a retiring thread on one barrier, which follows the slot's earlier barrier operations (10 R191,
R192). -/
structure PendDrop where
  bar : Nat
  gi : Nat
  lane : Nat
  g : SlotRef
  ops : List Nat
deriving DecidableEq, Repr

/-- A team (05 R99, 14 R244, 19 R293). -/
structure Team where
  task : Nat
  teamId : Nat
  groups : Nat
  /-- member cores and the scratchpad base on each (14 R246) -/
  cores : List CoreRef
  spadBase : SMap Nat
  spadSize : Nat
  barriers : Nat
  slots : SMap Place
  ci : Int
  ct : Int
  /-- transfers in flight to C_I and C_T (19 R295) -/
  topI : Option Int
  topT : Option Int
  yieldPending : Bool
  grace : Nat
  td : SMap Td
  /-- arrival records: barrier to (group index, lane) (10 R189) -/
  arrivals : SMap (List (Nat × Nat))
  /-- implicit drops that have not reached their word, and the cycle in which each word was last tested (10 R192) -/
  drops : List PendDrop
  tested : SMap Nat
  /-- a REORDER collective is in progress, and the Madder bytes its entries take (14 R252, R258) -/
  reordering : Bool
  madder : Nat
  /-- the cycle since which its next REORDER collective has been ready to start (14 R258) -/
  ready : Option Nat
  /-- its REORDER collectives so far (24 R369) -/
  collectives : Nat
  /-- trapping lanes being collected, by die * 8 + cluster (08 R150) -/
  collect : SMap Collect
  /-- evicted whole: the images of its operand and accumulator slots, by 32 * member + slot (11 R211) -/
  evicted : Bool
  omImage : SMap OmSlot
  acImage : SMap AcSlot
  /-- slots of its groups that have retired, with their granules: a new team takes them once this one has retired (17 R287) -/
  freed : List (SlotRef × Nat)
  /-- join-counter decrements that wait for the scratchpad to return: offsets (16 R280) -/
  decs : List Nat
  retired : Bool
deriving DecidableEq, Repr

/-- A capability entry: the 64 bytes of R379 as a number, with its kind and channel and what the task has used. -/
structure Cap where
  kind : Nat
  ch : Nat
  rel : BitVec 7
  /-- the entry's bytes 8-63, by byte number -/
  bytes : SMap Byte
  /-- remaining grant allowances (19 R306) -/
  ins : Int
  bytesLeft : Int
deriving DecidableEq, Repr

/-- A lease range (22 R341). -/
structure Lease where
  base : Nat
  len : Nat
  rw : Bool
  migr : Bool
  text : Bool
deriving DecidableEq, Repr

/-- The contents of a launch record (25 R378). -/
structure Launch where
  cls : Nat
  entry : DWord
  tvec : DWord
  lanehnd : DWord
  groups : Nat
  regs : Nat
  barriers : Nat
  wide : Nat
  spad : Nat
  carve : Nat
  quota : Nat
  grace : Nat
  ins : Int
  bytes : Int
  cores : BitVec 64
  image : Nat
  imageLen : Nat
deriving DecidableEq, Repr

/-- The fields of a launch descriptor or SPAWN descriptor that a task keeps (16 R269, R278). -/
structure Launching where
  sen : Option Nat
  notify : Bool
  ser : Bool
  wait : Option (Nat × DWord)
  quota : Nat
  dies : List Nat
  pri : Nat
  teams : Nat
  arg : DWord
deriving DecidableEq, Repr

/-- How far a task has come. -/
inductive TaskPhase where
  /-- created, its leases not yet resident -/
  | created
  | resident
  | accepted
  | retired
deriving DecidableEq, Repr

/-- A task: a grid or a SPAWN task (16, 19). -/
structure Task where
  gridId : DWord
  depth : Nat
  pri : Nat
  asid : Nat
  /-- the queue its root grid came from (24 R371) -/
  queue : Option Nat
  parent : Option Nat
  /-- issuing team of a LAUNCH or SPAWN -/
  issuer : Option Nat
  spawn : Bool
  l : Launch
  d : Launching
  leases : List Lease
  caps : SMap Cap
  /-- tensor descriptors of the launch record (25 R378) -/
  td : SMap Td
  pi : Int
  pt : Int
  phase : TaskPhase
  /-- teams not yet placed: by die, ascending (16 R272) -/
  shares : SMap (List Nat)
  refill : SMap (List Nat)
  pointer : SMap Nat
  /-- dies that sent a steal message and wait, or may not steal again (16 R274) -/
  stole : List Nat
  /-- teams not yet placed, and teams not yet retired -/
  unplaced : Nat
  unretired : Nat
  /-- order of acceptance (16 R273) -/
  order : Nat
  /-- pool entry: die, entry (16 R275) -/
  pool : Option (Nat × Nat)
  /-- cause it ended with (22 R344) -/
  cause : Option Nat
  /-- a SPAWN task's cluster, and its register count -/
  cluster : Nat
  /-- the fault records that are written once its ended groups have drained (22 R344) -/
  report : List (List DWord)
  /-- a bad page the lease engine met and recorded (22 R343) -/
  blocked : Bool
  /-- the join counter of a SPAWN task: issuing team and scratchpad offset (16 R280) -/
  join : Option (Nat × Nat)
  /-- the cores whose groups are being evicted for this grid's next team, by die (16 R273) -/
  evictOn : SMap (List CoreRef)
  /-- the core on which its last team retired (22 R346) -/
  lastCore : Option CoreRef
deriving DecidableEq, Repr

/-- A core (10, 11, 12). -/
structure Core where
  pointer : Nat
  carve : Nat
  gens : SMap (BitVec 16)
  /-- owner task of the constant store (10 R185) -/
  owner : Option Nat
  om : SMap OmSlot
  ac : SMap AcSlot
  /-- what slots that nobody holds keep from their last holder (11 R209) -/
  omLeft : SMap OmSlot
  acLeft : SMap AcSlot
  /-- the copy progress that retired groups left, by 8 * slot + key (12 R237) -/
  progress : SMap CopyProg
  engine : List EngineEntry
  baton : Option SlotRef
  batonReq : List SlotRef
  channels : SMap (List OpRef)
  counters : SMap (BitVec 64)
  sources : SMap Nat
  totals : SMap Nat
  /-- what the counters counted in the last 16 cycles: cycle, counter, amount (10 R200) -/
  recent : List (Nat × Nat × Nat)
  faults : List StoreFault
  tlb : List Xlat
  /-- lines the L1 may hold (09 R173) -/
  l1 : List Nat
  /-- the slot that each partition last issued from, and when (05 R89, R97, 10 R188) -/
  issued : SMap (Nat × Nat)
deriving DecidableEq, Repr

/-- A request at a home slice: the requester's slot, operation and lane, its argument, and when it arrived (20 R320,
R322). -/
structure MReq where
  g : SlotRef
  op : Nat
  lane : Nat
  arg : DWord
  tick : Nat
deriving DecidableEq, Repr

/-- A batch that has closed, with the method, extent and widths in force when it closed (20 R319, R321). -/
structure Batch where
  reqs : List MReq
  method : DWord
  lines : Nat
  aw64 : Bool
  rw64 : Bool
deriving DecidableEq, Repr

/-- A registered Mordant object, kept under the physical address of its first line (20 R317-R328). -/
structure Mordant where
  va : DWord
  task : Nat
  cap : Nat
  method : DWord
  lines : Nat
  aw64 : Bool
  rw64 : Bool
  /-- the registering group: team and group index -/
  reg : Nat × Nat
  poisoned : Bool
  /-- released while a wave runs -/
  releasing : Bool
  /-- requests of the open batch, in linear order, and when it opened -/
  opened : List MReq
  since : Nat
  /-- closed batches, oldest first -/
  closed : List Batch
  /-- the running wave: its slot, its batch, the physical lines held, held writes, replies by wave lane -/
  wave : Option SlotRef
  batch : Batch
  heldLines : List Nat
  held : List (Nat × Byte)
  /-- held lines that a ZLINE of the wave wrote last (22 R335) -/
  zeros : List Nat
  replies : SMap DWord
deriving DecidableEq, Repr

/-- A compute die (16, 20, 22, 25). -/
structure Die where
  pool : SMap Nat
  poolGen : SMap (BitVec 16)
  expert : SMap (BitVec 64)
  counts : SMap Nat
  hotthr : Nat
  replicas : List Nat
  /-- when the last steal message was taken here, and its thief (16 R274) -/
  stolen : Option (Nat × Nat)
  /-- the cycle of the L2 in which its distributor last placed a team, or made groups leave for one (16 R273) -/
  placedAt : Option Nat
  tlb : List Xlat
  umber : Option UmberImage
deriving DecidableEq, Repr

/-- A launch queue (16 R266, 24 R371). -/
structure Queue where
  qbase : DWord
  qctl : DWord
  qtail : BitVec 32
  qprog : BitVec 32
  qsw : DWord
  qsave : DWord
  /-- the previous command's grid (SER), and the task made of the head command -/
  last : Option Nat
  head : Option Nat
  /-- the I/O-die cycle in which its last command started (16 R268) -/
  started : Option Nat
deriving DecidableEq, Repr

/-- A record queue (24 R373). -/
structure RecQueue where
  base : DWord
  ctl : DWord
  tail : DWord
  head : DWord
  /-- records held for want of room, as 8 quadwords each -/
  held : List (List DWord)
deriving DecidableEq, Repr

/-- A page in migration (22 R345): its address space, first address and size, the frames it leaves and takes, its leaf
entries with their physical addresses, and the task whose lease it was asked for. -/
structure Migration where
  id : Nat
  asid : Nat
  base : Nat
  size : Nat
  old : Nat
  new_ : Nat
  entries : List Nat
  task : Nat
deriving DecidableEq, Repr

/-- A message of a word channel: a word for each lane, and the sender's active lanes (27 R396). -/
structure ChanMsg where
  words : List Word
  lanes : Word
deriving DecidableEq, Repr

/-- Boot (27 R399): whether every image needed has been verified, which of the first two failed, the digests measured,
and the latest attestation report: nonce, serial number, log, signature. -/
structure Boot where
  booted : Bool
  failed : Option Nat
  log : List (List Byte)
  report : Option (List Byte × DWord × List (List Byte) × List Byte)
deriving DecidableEq, Repr

/-- The I/O die (16 R267, 22 R347, 24 R368, R373, 27 R398). -/
structure IoDie where
  queues : SMap Queue
  events : SMap DWord
  sapbase : DWord
  sapsize : DWord
  /-- granules of the save pool in use: first granule and count by owner key (24 R368) -/
  blocks : SMap (Nat × Nat)
  fault : RecQueue
  event : RecQueue
  iqbase : DWord
  iqctl : DWord
  iqtail : DWord
  iqhead : DWord
  astbase : DWord
  gtask : DWord
  gins : DWord
  gbytes : DWord
  gctl : DWord
  /-- queue served last, acceptance counter -/
  served : Nat
  accepted : Nat
  /-- fabric ports that are down (27 R389) -/
  down : List Nat
  migrations : List Migration
  /-- the invalidate command whose sweep has been made: its 256 bits, the operations that used what the sweep removed, and the
  objects whose waves did (22 R348) -/
  swept : Option (Nat × List OpRef × List Nat)
  boot : Boot
deriving DecidableEq, Repr

/-- A turn of the machine: the model's own order of events (log 2). -/
inductive Turn where
  /-- this context issues its next word -/
  | issue (c : CtxId)
  /-- this event happens -/
  | event (i : Instr)
  /-- core cycles pass -/
  | tick (n : Nat)
deriving DecidableEq, Repr

/-- An absent context: what an accessor reads where no context stands. -/
def Context.empty : Context :=
  ⟨[], 0, 0, 0, 0, 0, 0, true, 0, 15, 15, .running, 0, 0⟩

/-- The observer sets at placement (05 R99): TEAM; CLUSTER; DEVICE; DEVICE, COPY, MATRIX; DEVICE, PEER; DEVICE, HOST;
all. Bits from HOST at 6 down to TEAM at 0. -/
def obsDefaults : SMap (BitVec 7) :=
  [(1, 0x01), (2, 0x02), (3, 0x04), (4, 0x1C), (5, 0x24), (6, 0x44), (7, 0x7F)]

/-- A slot's state as no group has left it, with every register at its placement value (05 R84, R99). -/
def Group.empty : Group where
  kind := .group
  team := 0
  task := 0
  gi := 0
  gen := 0
  ctxs := []
  records := []
  v := []
  o := []
  q := []
  p := []
  teamThread := []
  keys := []
  origin := []
  flags := []
  frm := 0
  trapnf := 0
  fpflags := 0
  fpnow := 0
  obs := obsDefaults
  trapCause := 0
  trapAddr := 0
  trapInfo := 0
  trapPc := 0
  bank := []
  handler := none
  waiting := []
  trapped := []
  regalloc := 8
  ops := []
  engineErrs := []
  mordErrs := []
  hold := []
  fence := 0
  held := []
  estatus := 0
  copies := []
  td := []
  pages := []
  graceCount := 0
  graceDue := false
  executed := 0
  evicting := false
  placed := 0
  waited := 0
  promoted := false
  ended := false

/-- What an accessor reads where no team stands. -/
def Team.empty : Team where
  task := 0
  teamId := 0
  groups := 0
  cores := []
  spadBase := []
  spadSize := 0
  barriers := 0
  slots := []
  ci := 0
  ct := 0
  topI := none
  topT := none
  yieldPending := false
  grace := 0
  td := []
  arrivals := []
  drops := []
  tested := []
  reordering := false
  madder := 0
  ready := none
  collectives := 0
  collect := []
  evicted := false
  omImage := []
  acImage := []
  freed := []
  decs := []
  retired := true

/-- A launch record of zeros. -/
def Launch.empty : Launch := ⟨0, 0, 0, 0, 0, 0, 0, 0, 0, 0, 0, 0, 0, 0, 0, 0, 0⟩

/-- A launch descriptor of zeros. -/
def Launching.empty : Launching := ⟨none, false, false, none, 0, [], 0, 0, 0⟩

/-- What an accessor reads where no task stands. -/
def Task.empty : Task where
  gridId := 0
  depth := 0
  pri := 0
  asid := 0
  queue := none
  parent := none
  issuer := none
  spawn := false
  l := Launch.empty
  d := Launching.empty
  leases := []
  caps := []
  td := []
  pi := 0
  pt := 0
  phase := .retired
  shares := []
  refill := []
  pointer := []
  stole := []
  unplaced := 0
  unretired := 0
  order := 0
  pool := none
  cause := none
  report := []
  cluster := 0
  blocked := false
  join := none
  evictOn := []
  lastCore := none

/-- A core at package reset (10 R182, R185, R200). -/
def Core.empty : Core where
  pointer := 0
  carve := 0
  gens := []
  owner := none
  om := []
  ac := []
  omLeft := []
  acLeft := []
  progress := []
  engine := []
  baton := none
  batonReq := []
  channels := []
  counters := []
  sources := []
  totals := []
  recent := []
  faults := []
  tlb := []
  l1 := []
  issued := []

/-- A die at package reset. -/
def Die.empty : Die where
  pool := []
  poolGen := []
  expert := []
  counts := []
  hotthr := 0
  replicas := []
  stolen := none
  placedAt := none
  tlb := []
  umber := none

/-- A launch queue at reset: QCTL 0x400, the others 0 (16 R266, 24 R371). -/
def Queue.empty : Queue := ⟨0, 0x400, 0, 0, 0, 0, none, none, none⟩

/-- A record queue at reset: RQCTL 0x400, the others 0 (24 R373). -/
def RecQueue.empty : RecQueue := ⟨0, 0x400, 0, 0, []⟩

/-- The I/O die at reset (16 R266, 22 R347, 24 R368, R373, 27 R398). -/
def IoDie.empty : IoDie where
  queues := []
  events := []
  sapbase := 0
  sapsize := 0
  blocks := []
  fault := RecQueue.empty
  event := RecQueue.empty
  iqbase := 0
  iqctl := 0x400
  iqtail := 0
  iqhead := 0
  astbase := 0
  gtask := 0
  gins := 0
  gbytes := 0
  gctl := 0
  served := 63
  accepted := 0
  down := []
  migrations := []
  swept := none
  boot := ⟨false, none, [], none⟩

/-- A steal message or its answer, in flight (16 R274). -/
structure Steal where
  id : Nat
  task : Nat
  thief : Nat
  victim : Nat
  /-- the teams handed over, once the victim has answered -/
  teams : Option (List Nat)
deriving DecidableEq, Repr

/-- The state of the S4. -/
structure State where
  agenda : List Turn
  cur : CtxId
  cursor : Nat
  tick : Nat
  serial : Nat
  free : Nat
  mem : List Host.Cell
  /-- by physical byte, the latest writes that some agent may not have observed, newest first, each with the byte that stood
  before it; and those writes, by their number (23 R350, R351) -/
  hist : SMap (List (Nat × Byte))
  writes : SMap Write
  zeroLines : List Nat
  groups : SMap Group
  teams : SMap Team
  tasks : SMap Task
  cores : SMap Core
  dies : SMap Die
  taskQueues : SMap (List Nat)
  atomicLines : SMap (List Nat)
  mordant : SMap Mordant
  steals : List Steal
  /-- messages that a channel's receiving buffer holds, oldest first, by 256 * peer + channel (27 R396) -/
  channels : SMap (List ChanMsg)
  io : IoDie
  /-- the Umber image being brought to every die (25 R383) -/
  umberNext : Option UmberImage
deriving DecidableEq, Repr

/-- The machine right after reset (00 R6): every register at its reset value, no work placed, memory with nothing
listed. -/
def State.reset : State where
  agenda := []
  cur := ⟨⟨0, 0, 0⟩, 0⟩
  cursor := 0
  tick := 0
  serial := 1
  free := 0
  mem := []
  hist := []
  writes := []
  zeroLines := []
  groups := []
  teams := []
  tasks := []
  cores := []
  dies := []
  taskQueues := []
  atomicLines := []
  mordant := []
  steals := []
  channels := []
  io := IoDie.empty
  umberNext := none

end Sys2Proof.Machine
end

