-- ==== Sys2Proof/Machine/Ops.lean ====
section
/-! DEFINITION. The named operations over the state: registers, flags, outstanding operations, budgets and memory
bytes. Every meaning reads and writes the state through them. -/

namespace Sys2Proof

/-! ## Keys -/

/-- The key of a core: die and core. -/
def CoreRef.key (c : CoreRef) : Nat := c.die * 64 + c.core

/-- The core of a key. -/
def coreOfKey (k : Nat) : CoreRef := ⟨k / 64, k % 64⟩

/-- The core of a slot. -/
def SlotRef.coreRef (g : SlotRef) : CoreRef := ⟨g.die, g.core⟩

/-- The key of a slot: die, core and slot. -/
def SlotRef.key (g : SlotRef) : Nat := (g.die * 64 + g.core) * 64 + g.slot

/-- The slot of a key. -/
def slotOfKey (k : Nat) : SlotRef := ⟨k / 4096, k / 64 % 64, k % 64⟩

/-- The cluster of a core within its die: 8 cores each (05 R99). -/
def CoreRef.cluster (c : CoreRef) : Nat := c.core / 8

/-- A slot's partition (10 R179): system slot 49 belongs to partition 2. -/
def SlotRef.partition (g : SlotRef) : Nat := if g.slot = 49 then 2 else g.slot % 4

end Sys2Proof

namespace Sys2Proof.Machine

/-! ## Finding things -/

/-- The occupant of a slot; an empty one where none stands. -/
def State.grp (s : State) (g : SlotRef) : Group := s.groups.get Group.empty g.key

/-- A group stands in the slot. -/
def State.hasGrp (s : State) (g : SlotRef) : Bool := (s.groups.look g.key).isSome

/-- Change the occupant of a slot. -/
def State.modGrp (g : SlotRef) (f : Group → Group) (s : State) : State :=
  { s with groups := s.groups.upd g.key f }

/-- The group that issues. -/
def State.me (s : State) : Group := s.grp s.cur.g

/-- A context of a group; an empty one where none stands. -/
def Group.ctx (g : Group) (i : Nat) : Context := g.ctxs.get Context.empty i

/-- Change a context of a group. -/
def Group.modCtx (i : Nat) (f : Context → Context) (g : Group) : Group :=
  { g with ctxs := g.ctxs.upd i f }

/-- The context that issues. -/
def State.ctx (s : State) : Context := s.me.ctx s.cur.i

/-- Change the group that issues. -/
def State.modMe (f : Group → Group) (s : State) : State := s.modGrp s.cur.g f

/-- Change the context that issues. -/
def State.modCtx (f : Context → Context) (s : State) : State := s.modMe (Group.modCtx s.cur.i f)

/-- Change a context. -/
def State.modCtxAt (c : CtxId) (f : Context → Context) (s : State) : State := s.modGrp c.g (Group.modCtx c.i f)

/-- The context named exists. -/
def State.hasCtx (s : State) (c : CtxId) : Bool := ((s.grp c.g).ctxs.look c.i).isSome

/-- The context that issues exists. -/
def State.here (s : State) : Bool := s.hasCtx s.cur

def State.team (s : State) (t : Nat) : Team := s.teams.get Team.empty t
def State.modTeam (t : Nat) (f : Team → Team) (s : State) : State := { s with teams := s.teams.upd t f }
def State.task (s : State) (k : Nat) : Task := s.tasks.get Task.empty k
def State.modTask (k : Nat) (f : Task → Task) (s : State) : State := { s with tasks := s.tasks.upd k f }

/-- The team and task of the group that issues. -/
def State.myTeam (s : State) : Team := s.team s.me.team
def State.myTask (s : State) : Task := s.task s.me.task

def State.core (s : State) (c : CoreRef) : Core := s.cores.get Core.empty c.key

/-- Change a core. -/
def State.modCore (c : CoreRef) (f : Core → Core) (s : State) : State :=
  { s with cores := s.cores.ins c.key (f (s.core c)) }

def State.die (s : State) (d : Nat) : Die := s.dies.get Die.empty d

/-- Change a die. -/
def State.modDie (d : Nat) (f : Die → Die) (s : State) : State := { s with dies := s.dies.ins d (f (s.die d)) }

/-- A fresh number. -/
def State.fresh (s : State) : State := { s with serial := s.serial + 1 }

/-- Advance the counter of free values. -/
def State.draw (s : State) : State := { s with free := s.free + 1 }

/-! ## Registers -/

/-- Read a scalar register: s0 is 0 (05 R85). -/
def Context.sreg (c : Context) (r : Nat) : DWord := if r = 0 then 0 else c.s.get 0 r

/-- Write a scalar register: a write to s0 is discarded (02 R33). -/
def Context.setS (r : Nat) (v : DWord) (c : Context) : Context :=
  if r = 0 then c else { c with s := c.s.put 0 r v }

/-- Read a scalar register of the context that issues. -/
def State.sreg (s : State) (r : Nat) : DWord := s.ctx.sreg r

/-- Write a scalar register of the context that issues. -/
def State.setS (r : Nat) (v : DWord) (s : State) : State := s.modCtx (Context.setS r v)

/-- Where register r of lane l stands in a lane register file. -/
def laneKey (r l : Nat) : Nat := 32 * r + l

def Group.vreg (g : Group) (r l : Nat) : Word := g.v.get 0 (laneKey r l)
def Group.oreg (g : Group) (r l : Nat) : Word := g.o.get 0 (laneKey r l)
def Group.qreg (g : Group) (r l : Nat) : Word := g.q.get 0 (laneKey r l)

/-- Write register r of lane l. -/
def Group.setV (r l : Nat) (x : Word) (g : Group) : Group := { g with v := g.v.put 0 (laneKey r l) x }
def Group.setO (r l : Nat) (x : Word) (g : Group) : Group := { g with o := g.o.put 0 (laneKey r l) x }
def Group.setQ (r l : Nat) (x : Word) (g : Group) : Group := { g with q := g.q.put 0 (laneKey r l) x }

/-- A lane is in a mask. -/
def inMask (m : Word) (l : Nat) : Bool := m.getLsbD l

/-- The lanes of a mask, ascending. -/
def lanesOf (m : Word) : List Nat := (List.range 32).filter (inMask m)

/-- The mask of the lanes for which f holds. -/
def maskOf (f : Nat → Bool) : Word :=
  BitVec.ofNat 32 ((List.range 32).foldl (fun a l => if f l then a + 2 ^ l else a) 0)

/-- The number of lanes of a mask. -/
def countMask (m : Word) : Nat := (lanesOf m).length

/-- The lowest lane of a mask; 32 where it is empty. -/
def lowest (m : Word) : Nat := (lanesOf m).headD 32

/-- Write x l to register r of every lane l of a mask. -/
def Group.setLanes (r : Nat) (m : Word) (x : Nat → Word) (g : Group) : Group :=
  (lanesOf m).foldl (fun g l => g.setV r l (x l)) g

/-- Predicate k as a lane mask; p0 is the context's lane set (05 R88). -/
def Group.pred (g : Group) (c : Context) (k : Nat) : Word := if k = 0 then c.p0 else g.p.get 0 k

/-- Write predicate k in the lanes of a mask; other lanes keep it. -/
def Group.setP (k : Nat) (m : Word) (x : Word) (g : Group) : Group :=
  { g with p := g.p.put 0 k ((g.p.get 0 k &&& ~~~m) ||| (x &&& m)) }

/-- The lane set of the context that issues (05 R86). -/
def State.laneSet (s : State) : Word := s.ctx.p0

/-- The active lanes: live and selected by the latched clause predicate (00 R8, 02 R22). -/
def State.active (s : State) : Word := s.ctx.p0 &&& s.ctx.pred

/-- The value pushed into q by lane l for destination d: one rotation (05 R86). -/
def Group.rotateLane (d l : Nat) (g : Group) : Group :=
  let q0 := g.qreg 0 l
  let q1 := g.qreg 1 l
  let q2 := g.qreg 2 l
  (((g.setQ 3 l q2).setQ 2 l q1).setQ 1 l q0).setQ 0 l (g.vreg d l)

/-- Rotate q in every lane of a lane set, pushing vd (05 R86). -/
def Group.rotate (d : Nat) (m : Word) (g : Group) : Group :=
  (lanesOf m).foldl (fun g l => g.rotateLane d l) g

/-! ## Flags and outstanding operations -/

def Group.flag (g : Group) (f : Nat) : Flag := g.flags.get ⟨0, none⟩ f

/-- Change a flag. -/
def Group.modFlag (f : Nat) (h : Flag → Flag) (g : Group) : Group :=
  { g with flags := g.flags.put ⟨0, none⟩ f (h (g.flag f)) }

/-- The flag a clause field names; 15 names none (02 R20, R24). -/
def flagOf (n : Nat) : Option Nat := if n < 12 then some n else none

/-- One more operation counts on a flag (02 R24). -/
def Group.raiseFlag (f : Option Nat) (g : Group) : Group :=
  match f with
  | none => g
  | some n => g.modFlag n (fun x => { x with count := x.count + 1 })

/-- An operation of a flag completes (02 R25). -/
def Group.clearFlag (f : Option Nat) (g : Group) : Group :=
  match f with
  | none => g
  | some n => g.modFlag n (fun x => { x with count := x.count - 1 })

/-- A flag is clear when it counts nothing (02 R25). -/
def Group.flagClear (g : Group) (f : Nat) : Bool := decide ((g.flag f).count = 0)

/-- One more operation on this flag would reach 64 (02 R25). -/
def Group.flagFull (g : Group) (f : Option Nat) : Bool :=
  match f with
  | none => false
  | some n => decide (63 ≤ (g.flag n).count)

/-- The outstanding operation of a number. -/
def Group.findOp (g : Group) (n : Nat) : Option Op := g.ops.find? (fun o => o.id == n)

/-- Operations issued before this one and still outstanding. -/
def Group.earlier (g : Group) (n : Nat) : List Op := g.ops.takeWhile (fun o => o.id != n)

/-- Replace an outstanding operation's kind. -/
def Group.setOpKind (n : Nat) (k : OpKind) (g : Group) : Group :=
  { g with ops := g.ops.map (fun o => if o.id = n then { o with kind := k } else o) }

/-- An operation is no longer outstanding, and its flag counts one less (02 R25). -/
def Group.finishOp (o : Op) (g : Group) : Group :=
  { g.clearFlag o.flag with ops := g.ops.filter (fun x => x.id != o.id) }

/-- An operation completes with an error: its flag holds the oldest undelivered trap (02 R26). An untracked engine
error waits for the slot's next header (02 R402). -/
def Group.failOp (o : Op) (t : Trap) (g : Group) : Group :=
  match o.flag with
  | none => { (g.finishOp o) with engineErrs := g.engineErrs ++ [t] }
  | some n =>
    (g.finishOp o).modFlag n (fun x => { x with err := some (x.err.getD t) })

/-! ## Budgets (19) -/

/-- The cycle of the L2, the die network and the I/O die at a core cycle: 1.8 GHz against 2.7 GHz (01 R12). -/
def l2Cycle (tick : Nat) : Nat := tick * 2 / 3

/-- Counters and pools saturate at the ends of a signed 64-bit number (19 R295). -/
def sat64 (x : Int) : Int := max (-(2 ^ 63)) (min (2 ^ 63 - 1) x)

/-- The counters of a core that count a source. -/
def Core.counting (k : Core) (src : Nat) : List Nat :=
  if src = 0 then [] else (List.range 8).filter (fun i => k.sources.get 0 i = src)

/-- Count n events of a source (10 R200). -/
def Core.countEv (src n tick : Nat) (k : Core) : Core :=
  let cs := k.counting src
  { k with
    totals := k.totals.put 0 src (k.totals.get 0 src + n)
    counters := cs.foldl (fun m i => m.put 0 i (m.get 0 i + BitVec.ofNat 64 n)) k.counters
    recent := k.recent.filter (fun e => decide (tick < e.1 + 16)) ++ cs.map (fun i => (tick, i, n)) }

/-- Count events of a core's source (10 R200). -/
def State.count (c : CoreRef) (src n : Nat) (s : State) : State := s.modCore c (Core.countEv src n s.tick)

/-- The resident teams of a task. -/
def State.teamsOf (s : State) (k : Nat) : List Nat :=
  s.teams.filterMap (fun e => if e.2.task = k ∧ e.2.retired = false then some e.1 else none)

/-- The groups of a team that stand in slots. -/
def State.groupsOf (s : State) (t : Nat) : List SlotRef :=
  s.groups.filterMap (fun e => if e.2.team = t ∧ e.2.kind = .group then some (slotOfKey e.1) else none)

/-- N of R295 for one counter: teams unplaced, or resident with that counter at or below 0. -/
def State.needy (s : State) (k : Nat) (c : Team → Int) : Nat :=
  (s.task k).unplaced +
    ((s.teamsOf k).filter (fun t => !(s.team t).evicted && decide (c (s.team t) ≤ 0))).length

/-- The size of a top-up (19 R295). -/
def topupSize (p : Int) (n : Nat) : Int := min p (max 1 (p / n))

/-- Start a top-up of C_I and of C_T where the counter is at or below 0 and its pool above (19 R295). -/
def State.startTopups (t : Nat) (s : State) : State :=
  let k := (s.team t).task
  let s1 :=
    if (s.team t).ci ≤ 0 ∧ (s.team t).topI = none ∧ 0 < (s.task k).pi then
      let x := topupSize (s.task k).pi (s.needy k Team.ci)
      (s.modTask k (fun j => { j with pi := j.pi - x })).modTeam t (fun m => { m with topI := some x })
    else s
  if (s1.team t).ct ≤ 0 ∧ (s1.team t).topT = none ∧ 0 < (s1.task k).pt then
    let x := topupSize (s1.task k).pt (s1.needy k Team.ct)
    (s1.modTask k (fun j => { j with pt := j.pt - x })).modTeam t (fun m => { m with topT := some x })
  else s1

/-- A sleeping context wakes (06 R125). -/
def Context.wake (c : Context) : Context :=
  match c.stop with
  | .sleep _ => { c with stop := .running }
  | _ => c

/-- Wake every sleeping context of a group (06 R125). -/
def Group.wakeAll (g : Group) : Group := { g with ctxs := g.ctxs.map (fun e => (e.1, e.2.wake)) }

/-- A context that counts as saved where it stands goes on: from its entry clause or a hold that has ended meanwhile, or
to issue its GROW or MCLAIM again (19 R301, 10 R195, 11 R209). -/
def Context.enter (c : Context) : Context :=
  match c.stop with
  | .entry => { c with stop := .running }
  | .grow _ _ _ => { c with stop := .running }
  | .mclaim _ _ _ _ => { c with stop := .running }
  | _ => c

/-- Where a context goes as its hold ends: on, or, while its team is yield-pending, it counts as saved (19 R300, R301;
log 39). -/
def State.onward (s : State) (g : SlotRef) : Stop :=
  if (s.grp g).kind = .group ∧ (s.team (s.grp g).team).yieldPending then .entry else .running

/-- A context is saved, or counts as saved where it stands (19 R300). -/
def Stop.asSaved : Stop → Bool
  | .merge _ => true
  | .barrier _ _ p => p.isSome
  | .grow _ _ _ => true
  | .mclaim _ _ _ _ => true
  | .join _ => true
  | .baton => true
  | .reorder _ arrived => arrived
  | .saved _ => true
  | .graceSaved _ => true
  | .entry => true
  | _ => false

/-- A group is saved under a budget: each of its contexts is saved or counts as saved, and no collective of its team is in
progress (19 R300, R303, 14 R260). -/
def State.absentSaved (s : State) (g : SlotRef) : Bool :=
  let h := s.grp g
  !h.ctxs.isEmpty && !(s.team h.team).reordering &&
    h.ctxs.all (fun e =>
      match e.2.stop with
      | .saved _ => true
      | .graceSaved _ => true
      | x => decide (s.onward g = .entry) && x.asSaved)

/-- A group's team stops being yield-pending (19 R301, R302). -/
def Group.yieldEnds (g : Group) : Group :=
  { g with graceCount := 0, graceDue := false, ctxs := g.ctxs.map (fun e => (e.1, e.2.enter)) }

/-- The place of a group that is kept as an image, once its team's yield has ended (19 R301, R302). -/
def Place.yieldEnds : Place → Place
  | .image g r => .image g.yieldEnds r
  | p => p

/-- The yield test after charges, grants and top-ups (19 R300, R301): a team becomes yield-pending when a counter and
its pool are at or below 0 with nothing in flight, and stops when both counters are above 0. -/
def State.yieldTest (t : Nat) (s : State) : State :=
  let m := s.team t
  let j := s.task m.task
  if m.yieldPending then
    if 0 < m.ci ∧ 0 < m.ct then
      { s.modTeam t (fun m =>
          { m with yieldPending := false, slots := m.slots.map (fun e => (e.1, e.2.yieldEnds)) }) with
        groups := s.groups.map (fun e =>
          if e.2.team = t ∧ e.2.kind = .group then (e.1, e.2.yieldEnds) else e) }
    else s
  else if (m.ci ≤ 0 ∧ j.pi ≤ 0 ∧ m.topI = none) ∨ (m.ct ≤ 0 ∧ j.pt ≤ 0 ∧ m.topT = none) then
    { s.modTeam t (fun m => { m with yieldPending := true }) with
      groups := s.groups.map (fun e => if e.2.team = t then (e.1, e.2.wakeAll) else e) }
  else s

/-- What ends a core cycle (19 R295): its charges, additions and transfers have been made; every resident team's top-ups
start, and it is tested for a yield, one team after the other in ascending order (log 142). -/
def State.settle (s : State) : State :=
  s.teams.keys.foldl (fun s t =>
    if (s.team t).retired ∨ (s.team t).evicted then s else (s.startTopups t).yieldTest t) s

/-- Add to a task's pools (19 R295). -/
def State.addPool (k : Nat) (ni nt : Int) (s : State) : State :=
  s.modTask k (fun j => { j with pi := sat64 (j.pi + ni), pt := sat64 (j.pt + nt) })

/-- Add to a team's counters (19 R295). -/
def State.addTeam (t : Nat) (ni nt : Int) (s : State) : State :=
  s.modTeam t (fun m => { m with ci := sat64 (m.ci + ni), ct := sat64 (m.ct + nt) })

/-- Subtract from a team's counters; R295 and R300 are applied at the end of the core cycle. -/
def State.chargeTeam (t : Nat) (ni nt : Int) (s : State) : State :=
  s.modTeam t (fun m => { m with ci := sat64 (m.ci - ni), ct := sat64 (m.ct - nt) })

/-- Subtract from a task's pools; R295 and R300 are applied at the end of the core cycle. -/
def State.chargePool (k : Nat) (ni nt : Int) (s : State) : State :=
  s.modTask k (fun j => { j with pi := sat64 (j.pi - ni), pt := sat64 (j.pt - nt) })

/-- The registering team of a Mordant object while it is resident (20 R329). -/
def State.registrar (s : State) (obj : Nat) : Option Nat :=
  (s.mordant.look obj).bind (fun m =>
    if (s.team m.reg.1).retired || (s.team m.reg.1).evicted then none else some m.reg.1)

/-- Charge a slot's instruction units and bytes: a group and a lane-handler wave charge the origin team, a combiner wave
the registering team of its object while that is resident, and otherwise its owner's pools (19 R296-R298, 20 R329). -/
def State.chargeAt (g : SlotRef) (ni nt : Int) (s : State) : State :=
  let s1 :=
    match (s.grp g).kind with
    | .combiner obj =>
      match s.registrar obj with
      | some t => s.chargeTeam t ni nt
      | none => s.chargePool (s.grp g).task ni nt
    | _ => s.chargeTeam (s.grp g).team ni nt
  (s1.count g.coreRef 3 ni.toNat).count g.coreRef 4 (nt / 64).toNat

/-- An instruction of the context that issues is counted: the core's count, a wave's own count, and GRACE while the
team is yield-pending, but for the group handler's own (19 R302, 08 R152). -/
def State.countIssue (s : State) : State :=
  let y := s.myTeam.yieldPending && decide (s.me.kind = .group) && !s.me.handler.any (fun h => h.ctx = s.cur.i)
  (s.modMe (fun g =>
    { g with
      executed := g.executed + 1
      graceCount := if y then g.graceCount + 1 else g.graceCount
      graceDue := g.graceDue || (y && decide (s.myTeam.grace ≤ g.graceCount + 1)) })).count s.cur.g.coreRef 2 1

/-- Charge an instruction that issues its units (19 R296). -/
def State.charge (n : Nat) (s : State) : State := s.countIssue.chargeAt s.cur.g n 0

/-- Go on behind an instruction of n bytes (02 R16): the twelfth instruction of a clause, and a class-010 word, must be
followed by a header. -/
def Context.advance (n : Nat) (b : Bool) (c : Context) : Context :=
  { c with pc := c.pc + BitVec.ofNat 64 n, idx := c.idx + 1, due := b || decide (12 ≤ c.idx + 1) }

/-- Go on behind an instruction of n bytes. -/
def State.advance (n : Nat) (s : State) : State :=
  s.modCtx (fun c => { c.advance n false with lastIssue := s.tick + 1 })

/-- Go on behind a class-010 word that does not transfer control (02 R17). -/
def State.advanceB (s : State) : State := s.modCtx (fun c => { c.advance 4 true with lastIssue := s.tick + 1 })

/-! ## Memory bytes

One map holds every byte of the machine: physical memory below 2^60 (22 R334), scratchpad byte x of core c at
2^60 + 2^20 * c + x (10 R183), constant-store byte x of core c at 2^61 + 2^20 * c + x (10 R185). An unlisted byte reads
0 (log 3). -/

/-- Place of scratchpad byte x of a core. -/
def spadLoc (c : CoreRef) (x : Nat) : Nat := 2 ^ 60 + 2 ^ 20 * c.key + x

/-- Place of constant-store byte x of a core. -/
def constLoc (c : CoreRef) (x : Nat) : Nat := 2 ^ 61 + 2 ^ 20 * c.key + x

/-- The canonical form of memory. -/
def Memory.wf (m : List Host.Cell) : Bool := SMap.wf m 0

/-- One byte. -/
def State.byte (s : State) (a : Nat) : Byte := SMap.get s.mem 0 a

/-- Write one byte. -/
def State.setByte (a : Nat) (b : Byte) (s : State) : State := { s with mem := SMap.put s.mem 0 a b }

/-- n bytes from a, little-endian, as a number (00 R2). -/
def State.readN (s : State) (a : Nat) : Nat → Nat
  | 0 => 0
  | n + 1 => (s.byte a).toNat + 256 * s.readN (a + 1) n

/-- Byte i of a number, little-endian. -/
def byteOf (x i : Nat) : Byte := BitVec.ofNat 8 (x / 256 ^ i)

/-- Write n bytes of a number from a, little-endian (00 R2). -/
def State.writeN (a n x : Nat) (s : State) : State :=
  (List.range n).foldl (fun s i => s.setByte (a + i) (byteOf x i)) s

/-- A physical line. -/
def lineOf (a : Nat) : Nat := a / 64

/-- A byte's place lies in physical memory. -/
def isPhys (a : Nat) : Bool := decide (a < 2 ^ 60)

/-- A line becomes a zero line (22 R335). -/
def State.zeroLine (line : Nat) (s : State) : State :=
  { s with zeroLines := if s.zeroLines.elem line then s.zeroLines else s.zeroLines ++ [line] }

/-- Every byte of a physical line is 0. -/
def State.allZero (s : State) (line : Nat) : Bool := (List.range 64).all (fun i => decide (s.byte (64 * line + i) = 0))

/-- A line that is written back into L2 with 64 zero bytes becomes a zero line (22 R335). -/
def State.zeroBack (line : Nat) (s : State) : State := if s.allZero line then s.zeroLine line else s

/-- The cluster atomic units but one give up a line, which is written back (14 R249, 22 R335). -/
def State.recallLine (keep : Option Nat) (line : Nat) (s : State) : State :=
  let given := s.atomicLines.any (fun e => decide (keep ≠ some e.1) && e.2.elem line)
  let s1 : State :=
    { s with atomicLines := s.atomicLines.map (fun e =>
        if keep = some e.1 then e else (e.1, e.2.filter (fun x => x != line))) }
  if given then s1.zeroBack line else s1

/-- A physical line is written by a core (or by none): it leaves every other core's L1 and every other cluster's atomic
unit, and loses its zero flag (09 R173, 14 R249, 22 R335). -/
def State.touchLine (by_ : Option CoreRef) (line : Nat) (s : State) : State :=
  let s1 := s.recallLine (by_.map (fun c => c.die * 8 + c.cluster)) line
  { s1 with
    zeroLines := s.zeroLines.filter (fun x => x != line)
    cores := s.cores.map (fun e =>
      if by_.map CoreRef.key = some e.1 then e else (e.1, { e.2 with l1 := e.2.l1.filter (fun x => x != line) })) }

/-- An engine takes a physical line from every L1 and cluster atomic unit (23 R357). -/
def State.takeLine (line : Nat) (s : State) : State :=
  let s1 := s.recallLine none line
  { s1 with cores := s1.cores.map (fun e => (e.1, { e.2 with l1 := e.2.l1.filter (fun x => x != line) })) }

/-- Zero a range of the byte map. -/
def State.zeroBytes (a n : Nat) (s : State) : State :=
  { s with mem := s.mem.filter (fun c => decide (c.1 < a) || decide (a + n ≤ c.1)) }

/-- Physical lines of a range leave every cache and unit, and lose their zero flags (22 R335). -/
def State.touchRange (a n : Nat) (s : State) : State :=
  let inside := fun (x : Nat) => decide (a ≤ 64 * x) && decide (64 * x < a + n)
  { s with
    zeroLines := s.zeroLines.filter (fun x => !inside x)
    atomicLines := s.atomicLines.map (fun e => (e.1, e.2.filter (fun x => !inside x)))
    cores := s.cores.map (fun e => (e.1, { e.2 with l1 := e.2.l1.filter (fun x => !inside x) })) }

/-- Copy engines copy a physical range (16 R284, 22 R345); a destination line of zeros becomes a zero line (22 R335). -/
def State.copyRange (src dst n : Nat) (s : State) : State :=
  let cells := s.mem.filter (fun c => decide (src ≤ c.1) && decide (c.1 < src + n))
  let s1 := s.zeroBytes dst n
  let s2 : State :=
    { s1 with
      mem := cells.foldl (fun r c => SMap.ins r (dst + (c.1 - src)) c.2) s1.mem
      hist := s1.hist.keep (fun p => decide (p < dst) || decide (dst + n ≤ p)) }
  (List.range (n / 64)).foldl (fun s i => s.zeroBack (lineOf dst + i)) (s2.touchRange dst n)

/-- A running combiner wave of another slot holds a line of n bytes at a place (20 R324). -/
def State.waveHolds (s : State) (g : SlotRef) (a n : Nat) : Bool :=
  isPhys a && s.mordant.any (fun e =>
    (match e.2.wave with
     | some w => w != g
     | none => false) &&
    e.2.heldLines.any (fun x => decide (64 * x < a + n) && decide (a < 64 * x + 64)))

/-- Write n bytes at a place at its point of coherence (09 R165), performed with respect to every agent. -/
def State.store (by_ : Option CoreRef) (a n x : Nat) (s : State) : State :=
  let s1 : State := { s.writeN a n x with hist := s.hist.keep (fun p => decide (p < a) || decide (a + n ≤ p)) }
  if isPhys a then
    (List.range (lineOf (a + n - 1) - lineOf a + 1)).foldl (fun s i => s.touchLine by_ (lineOf a + i)) s1
  else s1

end Sys2Proof.Machine
end

