-- ==== Sys2Proof/Machine/Views.lean ====
section
/-! DEFINITION. What an agent observes of memory (23 R349-R361). `State.mem` holds the newest write of each byte in its
coherence order; the latest writes that some agent may not have observed stand in `State.hist`, with the byte before each, and
`State.writes` says whom each has reached. A read may return what stood before a write that has not reached its agent
(log 42). A write of the scratchpad reaches every agent at once (R358), but an engine operation that runs meanwhile may read
what stood before it (12 R231). -/

namespace Sys2Proof.Machine

/-! ## Whom a write has reached (23 R349, R350) -/

/-- The cluster of a slot, by die * 8 + cluster. -/
def clusterKey (g : SlotRef) : Nat := g.die * 8 + g.coreRef.cluster

/-- The occupant of a slot serves a team: its groups and lane-handler waves (23 R349). -/
def State.serves (s : State) (h : SlotRef) (t : Nat) : Bool :=
  decide ((s.grp h).team = t) &&
    (match (s.grp h).kind with
     | .combiner _ => false
     | _ => true)

/-- An agent that reads memory: a slot, or an engine operation of one. -/
inductive Reader where
  | slot (g : SlotRef)
  | engine (g : SlotRef) (copy : Bool) (op : Nat)
deriving DecidableEq, Repr

/-- A slot lies in an observer set, taken relative to slot g of a team (23 R349). -/
def State.inReach (s : State) (obs : BitVec 7) (g : SlotRef) (team : Option Nat) (h : SlotRef) : Bool :=
  (obs.getLsbD 0 && (match team with
    | some t => s.serves h t
    | none => decide (h = g))) || (obs.getLsbD 1 && decide (clusterKey h = clusterKey g)) || obs.getLsbD 2

/-- The engine of an operation lies in an observer set. -/
def engineIn (obs : BitVec 7) (copy : Bool) : Bool := obs.getLsbD (if copy then 3 else 4)

/-- What is marked of a write binds a read of an agent to return write n or a later one (23 R350, R353, R356, R359). -/
def State.binds (s : State) (x : Reader) (n : Nat) (r : Reach) : Bool :=
  let mine := fun (h g : SlotRef) (k : Nat) => decide (h = g) && decide ((s.grp h).task = k)
  match r, x with
  | .set o g team _, .slot h => s.inReach o g team h
  | .set o _ _ m, .engine _ copy op => engineIn o copy && decide (m ≤ op)
  | .known g k _ _, .slot h => mine h g k
  | .known g k o m, .engine h copy op => mine h g k && engineIn o copy && decide (m ≤ op)
  | .seen g k _ _, .slot h => mine h g k
  | .seen g k o m, .engine h copy op => mine h g k && engineIn o copy && decide (m ≤ op)
  | .self g k, .slot h => mine h g k
  | .self _ _, .engine _ _ _ => false
  | .read _ _ _, _ => false
  | .signal _ _ _ _ _, _ => false
  | .done _, .slot _ => false
  | .done m, .engine _ copy op => !copy && decide (m ≤ op)
  | .all, .slot _ => true
  | .all, .engine _ _ op => decide (n < op)

/-- An agent made a write itself. -/
def Author.isReader (w : Author) : Reader → Bool
  | .slot g =>
    match w with
    | .slot h _ => decide (h = g)
    | .engine _ _ => false
  | .engine g _ op => decide (w = .engine g op)

/-- An engine made the write. -/
def Author.isEngine : Author → Bool
  | .slot _ _ => false
  | .engine _ _ => true

/-- A read of an agent must return write n or a later one of its byte: its own, or one that binds it. -/
def State.mustSee (s : State) (x : Reader) (n : Nat) : Bool :=
  match s.writes.look n with
  | none => true
  | some w => w.author.isReader x || w.reach.any (s.binds x n)

/-! ## What a read returns (23 R353, R356, R357) -/

/-- The writes of a byte that some agent may not have observed, newest first. -/
def State.histAt (s : State) (p : Nat) : List (Nat × Byte) := s.hist.get [] p

/-- The byte that is left of one where the newest writes, as long as f holds, are not observed. -/
def pastByte (f : Nat → Bool) (b : Byte) : List (Nat × Byte) → Byte
  | [] => b
  | (n, old) :: r => if f n then pastByte f old r else b

/-- The number of the latest write at places that an access of an agent observes: what it must see, and what it happens to. -/
def State.sight (s : State) (x : Reader) (key : Nat) (ps : List Nat) : Nat :=
  max (s.serial - Config.staleness s.free key)
    (((ps.flatMap (fun p => (s.histAt p).map Prod.fst)).filter (s.mustSee x)).foldl max 0)

/-- A matrix operation reads what an access of its own slot wrote: of each line all or nothing (11 R213). -/
def Author.ownStore (w : Author) : Reader → Option Nat
  | .engine g false _ =>
    match w with
    | .slot h op => if h = g then some op else none
    | .engine _ _ => none
  | _ => none

/-- The object whose combiner wave stands in a slot. -/
def State.waveObj (s : State) (g : SlotRef) : Option Nat :=
  match (s.grp g).kind with
  | .combiner obj => some obj
  | _ => none

/-- The combiner wave in a slot holds the line of a place: the home slice serves it, with its newest bytes (20 R324). -/
def State.waveOwns (s : State) (g : SlotRef) (a : Nat) : Bool :=
  ((s.waveObj g).bind s.mordant.look).any (fun m => m.heldLines.elem (lineOf a))

/-- The slot of an agent. -/
def Reader.slotOf : Reader → SlotRef
  | .slot g => g
  | .engine g _ _ => g

/-- The places of the unit of n bytes around a place. -/
def unitOf (n p : Nat) : List Nat := (List.range n).map (fun i => n * (p / n) + i)

/-- The first write at places that the same access made as write n. -/
def State.firstOf (s : State) (w : Write) (n : Nat) (ps : List Nat) : Nat :=
  (((ps.flatMap (fun p => (s.histAt p).map Prod.fst))).filter (fun m =>
    (s.writes.look m).any (fun v => decide (v.author = w.author)))).foldl min n

/-- The latest write to the line of a place that a read of an agent observes, where the line is seen whole (23 R357). -/
def State.lineSight (s : State) (x : Reader) (p : Nat) : Nat := s.sight x (2 * (p / 64) + 1) (unitOf 64 p)

/-- A write that an agent sees with its line whole: what another engine wrote to memory (23 R357), and for a matrix operation
what its own slot's access wrote there (11 R213). -/
def Write.whole (w : Write) (x : Reader) (p : Nat) : Bool := isPhys p && (w.author.isEngine || (w.author.ownStore x).isSome)

/-- An engine's write of the line that an agent does not observe was there before write n: what took effect behind it is not
observed either (23 R357). -/
def State.lineHides (s : State) (x : Reader) (p n : Nat) : Bool :=
  isPhys p && ((unitOf 64 p).flatMap (fun q => (s.histAt q).map Prod.fst)).any (fun m =>
    match s.writes.look m with
    | none => false
    | some w =>
      let f := s.firstOf w m (unitOf 64 p)
      w.author.isEngine && decide (f ≤ n) && decide (s.lineSight x p < f))

/-- An access of an agent to the unit of places ps, which the key names, does not observe write n at a place: a line that is
seen whole is all new or all old; of other writes the unit is single-copy atomic (23 R351, R356-R358). -/
def State.unseenOf (s : State) (x : Reader) (key : Nat) (ps : List Nat) (p n : Nat) : Bool :=
  match s.writes.look n with
  | none => false
  | some w =>
    if s.waveOwns x.slotOf p then false
    else if w.whole x p then decide (s.lineSight x p < s.firstOf w n (unitOf 64 p))
    else decide (s.sight x (2 * key) ps < n) || s.lineHides x p n

/-- An engine operation reads aligned 4-byte words (23 R356, R358). -/
def State.unseen (s : State) (x : Reader) (p n : Nat) : Bool := s.unseenOf x (p / 4) (unitOf 4 p) p n

/-- The machine as an engine operation reads it. -/
def State.seenBy (x : Reader) (s : State) : State :=
  { s with
    mem := (s.hist.filter (fun e => (e.2.head?).any (fun h => s.unseen x e.1 h.1))).foldl
      (fun m e => SMap.put m 0 e.1 (pastByte (s.unseen x e.1) (s.byte e.1) e.2)) s.mem }

/-- An access of n bytes at a by a slot does not observe write k at place p. -/
def State.slotUnseen (s : State) (g : SlotRef) (a n p k : Nat) : Bool :=
  s.unseenOf (.slot g) a ((List.range n).map (fun i => a + i)) p k

/-- The bytes at places as one single-copy atomic access of an agent reads them (23 R351). -/
def State.atomicBytes (s : State) (x : Reader) (ps : List Nat) : List Byte :=
  ps.map (fun p => pastByte (s.unseenOf x (ps.headD 0 / 4) ps p) (s.byte p) (s.histAt p))

/-- The free values of a read have been used. -/
def State.drawRead (s : State) : State := if s.hist = [] then s else s.draw

/-- Whom a slot's access with an observer set reaches; nobody for the empty set. -/
def State.reachOf (s : State) (g : SlotRef) (obs : BitVec 7) : List Reach :=
  if obs = 0 then []
  else
    [.set obs g (match (s.grp g).kind with
      | .combiner _ => none
      | _ => some (s.grp g).team) s.serial]

/-- The same, of a read that happens before a release. -/
def Reach.asRead : Reach → Reach
  | .set o g team _ => .read o g team
  | r => r

/-- A write happens before what a slot does next: its own, or one that a synchronising operation ordered before. -/
def Write.before (g : SlotRef) (k : Nat) (w : Write) : Bool :=
  w.author.isReader (.slot g) ||
    w.reach.any (fun r =>
      match r with
      | .known h j _ _ => decide (h = g) && decide (j = k)
      | _ => false)

/-- A slot has returned the write to a read. -/
def Write.readBy (g : SlotRef) (k : Nat) (w : Write) : Bool :=
  w.reach.any (fun r =>
    match r with
    | .self h j => decide (h = g) && decide (j = k)
    | .seen h j _ _ => decide (h = g) && decide (j = k)
    | _ => false)

/-- A mark says all that another says. -/
def Reach.covers (a b : Reach) : Bool :=
  match a, b with
  | .set o g t m, .set o' g' t' m' => decide (o = o' ∧ g = g' ∧ t = t' ∧ m ≤ m')
  | .known g k o m, .known g' k' o' m' => decide (g = g' ∧ k = k' ∧ o = o' ∧ m ≤ m')
  | .done m, .done m' => decide (m ≤ m')
  | .seen g k o m, .seen g' k' o' m' => decide (g = g' ∧ k = k' ∧ o = o' ∧ m ≤ m')
  | x, y => decide (x = y)

/-- Mark a write with whom it reaches besides. -/
def Write.mark (w : Write) (rs : List Reach) : Write :=
  { w with reach := rs.filter (fun r => !w.reach.any (fun x => x.covers r)) ++ w.reach }

/-- Mark every write. -/
def State.markWrites (f : Write → List Reach) (s : State) : State :=
  { s with writes := s.writes.map (fun e => (e.1, e.2.mark (f e.2))) }

/-- A read of a slot that is an acquire, or stands before the FENCE that holds the slot, happens before the slot's later
accesses, its engine operations among them (23 R352 edge 1). -/
def State.readMarks (s : State) (g : SlotRef) (o : Op) : List Reach :=
  let h := s.grp g
  (if o.obs = 0 then [.self g h.task] else [.seen g h.task 0x7F (o.id + 1)]) ++
    (if h.hold.elem o.id ∧ h.fence ≠ 0 then [.seen g h.task h.fence s.serial] else [])

/-- An operation of a slot has read n bytes at a place as they stood in s0: what happens after the read never returns behind
the writes that it observed (23 R353). -/
def State.noteRead (g : SlotRef) (o : Op) (a n : Nat) (s0 s : State) : State :=
  let ids := (List.range n).flatMap (fun i =>
    ((s0.histAt (a + i)).map Prod.fst).dropWhile (s0.slotUnseen g a n (a + i)))
  let rs := s.readMarks g o
  { s with writes := s.writes.map (fun e =>
      if ids.elem e.1 ∧ !e.2.before g (s.grp g).task then (e.1, e.2.mark rs) else e) }

/-! ## Writes -/

/-- A byte's place lies in memory or in a scratchpad. -/
def isData (a : Nat) : Bool := decide (a < 2 ^ 61)

/-- Bytes have been written since s0: agents that the write has not reached may still read what stood before, but never what
stood before a write that had reached every agent (23 R350). -/
def State.publish (s : State) (w : Write) (s0 : State) (ps : List Nat) : State :=
  let here := ps.filter isData
  if here = [] then s
  else
    { s with
      hist := here.foldl (fun h p =>
        h.ins p ((s.serial, s0.byte p) :: (s0.histAt p).takeWhile (fun e => (s0.writes.look e.1).isSome))) s.hist
      writes := s.writes.ins s.serial (if here.all isPhys then w else { w with reach := .all :: w.reach })
      serial := s.serial + 1 }

/-- The distinct lines of places. -/
def placeLines (ps : List Nat) : List Nat := (ps.map lineOf).eraseDups

/-- An engine has written places since s0: each line is a write of its own (23 R351). -/
def State.publishLines (s : State) (w : Write) (s0 : State) (ps : List Nat) : State :=
  (placeLines ps).foldl (fun s l => s.publish w s0 (ps.filter (fun p => decide (lineOf p = l)))) s

/-- A FENCE that waits for an access of the slot makes it reach its set (09 R171). -/
def State.fenceReach (s : State) (g : SlotRef) (o : Op) : List Reach :=
  if (s.grp g).hold.elem o.id then s.reachOf g (s.grp g).fence else []

/-- A store or atomic of a slot. -/
def State.slotWrite (s : State) (g : SlotRef) (o : Op) : Write :=
  ⟨.slot g o.id, (s.grp g).task, s.reachOf g o.obs ++ s.fenceReach g o⟩

/-- A store or atomic of a slot has completed: the matrix operations that the slot then issues see it, and where a flag
signals it, those that any slot then issues (11 R213; log 132). -/
def State.storeDone (g : SlotRef) (o : Op) (s : State) : State :=
  s.markWrites (fun w =>
    if w.author = .slot g o.id then
      [if o.flag.isSome then .done s.serial else .known g (s.grp g).task 0x10 s.serial]
    else [])

/-! ## Releases and acquires (23 R352, R355, R359) -/

/-- Every write that happens before what a slot does next is performed with respect to a set (09 R171, 23 R352). -/
def State.performAt (g : SlotRef) (obs : BitVec 7) (s : State) : State :=
  s.markWrites (fun w => if w.before g (s.grp g).task then s.reachOf g obs else [])

/-- A release of a slot: what happens before it is performed with respect to its set, and reads that happen before it bind
whoever acquires (23 R352). -/
def State.releaseAt (g : SlotRef) (obs : BitVec 7) (s : State) : State :=
  let k := (s.grp g).task
  s.markWrites (fun w =>
    if w.before g k then s.reachOf g obs
    else if w.readBy g k then (s.reachOf g obs).map Reach.asRead
    else [])

/-- A FENCE of a slot: what it wrote before is performed with respect to the set, and what it read before is ordered before
its later accesses whose agent lies in the set (09 R171, 23 R352). -/
def State.fenceAt (g : SlotRef) (obs : BitVec 7) (s : State) : State :=
  let k := (s.grp g).task
  (s.performAt g obs).markWrites (fun w => if w.readBy g k then [.seen g k obs s.serial] else [])

/-- What an acquire of a slot takes from a write: the write, where it has reached the slot, or a read that returned it. -/
def State.taken (s : State) (g : SlotRef) (w : Write) : Option Bool :=
  if w.author.isReader (.slot g) then none
  else if w.reach.any (fun r =>
      match r with
      | .set o h team _ => s.inReach o h team g
      | _ => false) then some true
  else if w.reach.any (fun r =>
      match r with
      | .read o h team => s.inReach o h team g
      | _ => false) then some false
  else none

/-- An acquire of a slot: what has been released to it happens before what it does next, engine operations numbered from n
on among them. -/
def State.acquireFrom (g : SlotRef) (n : Nat) (s : State) : State :=
  let k := (s.grp g).task
  s.markWrites (fun w =>
    match s.taken g w with
    | some true => [.known g k 0x7F n]
    | some false => [.seen g k 0x7F n]
    | none => [])

/-- An acquire that the slot meets now. -/
def State.acquireAt (g : SlotRef) (s : State) : State := s.acquireFrom g s.serial

/-- An access with an observer set has been performed: a load or atomic acquires. -/
def State.acquired (g : SlotRef) (o : Op) (s : State) : State := if o.obs = 0 then s else s.acquireFrom g (o.id + 1)

/-- An operation whose flag is an acquire completes: what an acquire would take now happens before a header whose WAIT names
the flag (23 R355). -/
def State.signalAt (g : SlotRef) (flag : Option Nat) (s : State) : State :=
  match flag with
  | none => s
  | some f =>
    let k := (s.grp g).task
    s.markWrites (fun w =>
      match s.taken g w with
      | some x => [.signal g k f 0x7F x]
      | none => [])

/-- What a WAIT that names flags makes of a mark. -/
def Reach.waited (g : SlotRef) (k : Nat) (flags : List Nat) (n : Nat) : Reach → Option Reach
  | .signal h j f o x =>
    if h = g ∧ j = k ∧ flags.elem f then some (if x then .known g k o n else .seen g k o n) else none
  | _ => none

/-- A header of a slot whose WAIT names flags acquires from the operations that counted on them (23 R355, R359), and a copy
whose CPYWP it waits for is watched from then on (12 R238). -/
def State.waitAcquire (g : SlotRef) (flags : List Nat) (s : State) : State :=
  if flags = [] then s
  else
    let k := (s.grp g).task
    (s.markWrites (fun w => w.reach.filterMap (Reach.waited g k flags s.serial))).modGrp g (fun h =>
      { h with copies := h.copies.map (fun e =>
          if e.2.flags.any flags.elem then
            (e.1, { e.2 with watched := true, flags := e.2.flags.filter (fun f => !flags.elem f) })
          else e) })

/-- An engine operation completes: its writes are performed with respect to its release set, and happen before a header whose
WAIT names its flag (23 R359). -/
def State.engineRelease (g : SlotRef) (o : Op) (s : State) : State :=
  s.markWrites (fun w =>
    if w.author = .engine g o.id then
      s.reachOf g o.obs ++
        (match o.flag with
         | some f => if o.obs &&& 7 = 0 then [] else [.signal g (s.grp g).task f o.obs true]
         | none => [])
    else [])

/-- The writes of a copy numbered below n happen before a header whose WAIT names one of these flags (12 R238). -/
def State.signalCopy (g : SlotRef) (op n : Nat) (flags : List Nat) (s : State) : State :=
  let k := (s.grp g).task
  { s with writes := s.writes.map (fun e =>
      if e.1 < n ∧ e.2.author = .engine g op then (e.1, e.2.mark (flags.map (fun f => .signal g k f 0x7F true))) else e) }

/-- The writes of a copy whose progress its slot has waited for happen before what the slot does once the copy has completed
(12 R238). -/
def State.knowCopy (g : SlotRef) (op : Nat) (s : State) : State :=
  s.markWrites (fun w => if w.author = .engine g op then [.known g (s.grp g).task 0x7F s.serial] else [])

/-- A release to all: what a task wrote, and what happened before it, has reached every agent, and what it has read binds
whoever acquires (16 R271, R280). -/
def State.releaseAll (k : Nat) (s : State) : State :=
  let gone := fun (w : Write) => decide (w.task = k) || w.reach.any (fun r =>
    match r with
    | .known _ j _ _ => decide (j = k)
    | _ => false)
  ({ s with writes := s.writes.filter (fun e => !gone e.2) } : State).markWrites (fun w =>
    w.reach.filterMap (fun r =>
      match r with
      | .self g j => if j = k then some (.read 0x7F g none) else none
      | .seen g j _ _ => if j = k then some (.read 0x7F g none) else none
      | _ => none))

/-- Threads move between slots: what happened before in one happens before what each does next (23 R352 edge 4). -/
def State.joinSlots (gs : List SlotRef) (s : State) : State :=
  s.markWrites (fun w =>
    if gs.any (fun g => w.before g (s.grp g).task) then gs.map (fun g => Reach.known g (s.grp g).task 0x7F s.serial)
    else if gs.any (fun g => w.readBy g (s.grp g).task) then gs.map (fun g => Reach.seen g (s.grp g).task 0x7F s.serial)
    else [])

/-- A group has come from slot h to slot g: what happened before there happens before what it does here. -/
def State.moveViews (h g : SlotRef) (s : State) : State :=
  let k := (s.grp g).task
  s.markWrites (fun w =>
    (if w.before h k then [.known g k 0x7F s.serial] else if w.readBy h k then [.seen g k 0x7F s.serial] else []) ++
      w.reach.filterMap (fun r =>
        match r with
        | .signal i j f o x => if i = h ∧ j = k then some (.signal g k f o x) else none
        | _ => none))

end Sys2Proof.Machine
end

