-- ==== Sys2Proof/Machine/Translate.lean ====
section
/-! DEFINITION. Addresses, leases and translation (09 R159-R161, R174, 14 R246, 22 R334-R343). -/

namespace Sys2Proof.Machine

/-! ## Addresses -/

/-- Bits [63:55] all equal (09 R160). -/
def canonical (a : DWord) : Bool := decide (a.toNat / 2 ^ 55 = 0) || decide (a.toNat / 2 ^ 55 = 511)

/-- The 56 bits that the walk uses (22 R338). -/
def va56 (a : DWord) : Nat := a.toNat % 2 ^ 56

/-- An address of the scratchpad window (09 R161). -/
def inSpw (a : DWord) : Bool :=
  decide (Config.spwBase ≤ a.toNat) && decide (a.toNat < Config.spwBase + Config.spwSize)

/-- The offset of an address in the window. -/
def spwOffset (a : DWord) : Nat := a.toNat - Config.spwBase

/-- The place of byte x of a team's scratchpad: 1 KiB granules over the member cores (09 R161, 14 R246). -/
def Team.spad (m : Team) (x : Nat) : Nat :=
  let n := max 1 m.cores.length
  let j := x / 1024
  let i := j % n
  spadLoc (m.cores.getD i ⟨0, 0⟩) (m.spadBase.get 0 i + 1024 * (j / n) + x % 1024)

/-! ## Leases (22 R341, R342) -/

/-- How far ranges that contain position p reach; p itself where none does. -/
def reach (ls : List Lease) (p : Nat) : Nat :=
  ls.foldl (fun e l => if l.base ≤ p ∧ p < l.base + l.len then max e (l.base + l.len) else e) p

/-- Every byte of [p, e) lies in one of the ranges, with at most `fuel` ranges to cross. -/
def coversFrom (ls : List Lease) (e : Nat) : Nat → Nat → Bool
  | 0, p => decide (e ≤ p)
  | fuel + 1, p => decide (e ≤ p) || (decide (p < reach ls p) && coversFrom ls e fuel (reach ls p))

/-- Every byte of n bytes at a lies in at least one range (22 R341). -/
def covers (ls : List Lease) (a n : Nat) : Bool := coversFrom ls (a + n) ls.length a

/-- The access lies inside the task's lease. -/
def Task.leased (k : Task) (a n : Nat) : Bool := covers k.leases a n

/-- Every byte is writable under the lease (22 R342). -/
def Task.writable (k : Task) (a n : Nat) : Bool := covers (k.leases.filter (fun l => l.rw)) a n

/-- Every byte is code text, from which fetch is permitted (22 R342). -/
def Task.fetchable (k : Task) (a n : Nat) : Bool := covers (k.leases.filter (fun l => l.text)) a n

/-! ## The walk (22 R337, R338) -/

/-- Physical memory exists behind n bytes at a frame: behind every 4 KiB of them (22 R334). -/
def frameExists (a n : Nat) : Bool :=
  decide (a + n ≤ Config.deviceBytes) ||
    (decide (Config.slowBase ≤ a) && decide (a + n ≤ Config.slowBase + Config.slowBytes) &&
      (List.range ((a % 4096 + n + 4095) / 4096)).all (fun i => Config.slowTierPresent (a / 4096 + i)))

/-- The frame address of an entry: bits [51:12] (22 R338). -/
def pteFrame (e : Nat) : Nat := e / 4096 % 2 ^ 40 * 4096

/-- Bit n of an entry. -/
def pteBit (e n : Nat) : Bool := decide (e / 2 ^ n % 2 = 1)

/-- V is set and the reserved fields hold 0 (22 R338). -/
def pteValid (e : Nat) : Bool := pteBit e 0 && decide (e / 128 % 32 = 0) && decide (e / 2 ^ 52 % 4096 = 0)

/-- ST matches the frame, and the frame exists, for n bytes (22 R338). -/
def pteFrameOk (e f n : Nat) : Bool :=
  (pteBit e 5 == decide (Config.slowBase ≤ f)) && frameExists f n

/-- A leaf that translates: a page, its frame, its permissions, and whether it is in migration. -/
structure Leaf where
  base : Nat
  size : Nat
  frame : Nat
  w : Bool
  x : Bool
  mig : Bool
deriving DecidableEq, Repr

/-- The entry of a C group used for every address of the group: the first where all agree, else any one (22 R338). -/
def State.cEntry (s : State) (table idx : Nat) : Nat :=
  let g := idx / 16 * 16
  let e := fun i => s.readN (table + 8 * (g + i)) 8
  let agree := (List.range 16).all (fun i => decide (e i = e 0 + 4096 * i)) && decide (pteFrame (e 0) / 4096 % 16 = 0)
  if agree then e 0
  else
    let j := Config.cGroupEntry (table + g + s.free) % 16
    e j - (pteFrame (e j) / 4096 % 16) * 4096

/-- The leaf of an entry at a level of 0, 1 or 2, for the address va. -/
def State.leafOf (s : State) (level table idx va : Nat) : Option Leaf :=
  let e0 := s.readN (table + 8 * idx) 8
  let c := pteBit e0 4 && decide (level < 2)
  let e := if c then s.cEntry table idx else e0
  let unit := 2 ^ (12 + 9 * level)
  let size := if c then 16 * unit else unit
  let f := pteFrame e
  if pteValid e && decide (f % size = 0) && pteFrameOk e f size then
    some ⟨va / size * size, size, f, pteBit e 1, pteBit e 2, pteBit e 6⟩
  else none

/-- The walk from a table of a level (22 R338). -/
def State.walkFrom (s : State) (va : Nat) : Nat → Nat → Option Leaf
  | 0, table => s.leafOf 0 table (va / 2 ^ 12 % 512) va
  | l + 1, table =>
    let level := l + 1
    let idx := va / 2 ^ (12 + 9 * level) % (if level = 4 then 256 else 512)
    let e := s.readN (table + 8 * idx) 8
    if pteBit e 3 then
      if level ≤ 2 then s.leafOf level table idx va else none
    else if pteValid e && pteFrameOk e (pteFrame e) 4096 then s.walkFrom va l (pteFrame e)
    else none

/-- The root table of an address space (22 R337); none where the entry is invalid. -/
def State.rootOf (s : State) (asid : Nat) : Option Nat :=
  let e := s.readN (s.io.astbase.toNat + 8 * asid) 8
  if pteBit e 0 && decide (e / 2 % 2048 = 0) && decide (e / 2 ^ 52 = 0) then some (pteFrame e) else none

/-- The walk of a canonical address (22 R338). -/
def State.walk (s : State) (asid va : Nat) : Option Leaf :=
  match s.rootOf asid with
  | none => none
  | some root => s.walkFrom va 4 root

/-! ## Translation through the caches (09 R174, 22 R339) -/

/-- A cached translation serves an address. -/
def Xlat.covers (x : Xlat) (asid va : Nat) : Bool :=
  decide (x.asid = asid) && decide (x.base ≤ va) && decide (va < x.base + x.size)

/-- What a translation answers. -/
inductive XRes where
  | hit (x : Xlat)
  | missing
  /-- the page is in migration (22 R345) -/
  | migrating (page : Nat)
deriving DecidableEq, Repr

/-- The translation found by the walk. -/
def State.xwalk (s : State) (asid va : Nat) : XRes :=
  match s.walk asid va with
  | none => .missing
  | some l => if l.mig then .migrating l.base else .hit ⟨asid, l.base, l.size, l.frame, l.w, l.x⟩

/-- Translate for a lane of a slot (32 is the SCT): last-page register, core TLB, die TLB, walk (09 R174). -/
def State.xlate (s : State) (g : SlotRef) (lane : Nat) (va : Nat) : XRes :=
  let asid := (s.task (s.grp g).task).asid
  match ((s.grp g).pages.look lane).filter (fun p => p.x.covers asid va) with
  | some p => .hit p.x
  | none =>
    match (s.core g.coreRef).tlb.find? (fun x => x.covers asid va) with
    | some x => .hit x
    | none =>
      match (s.die g.die).tlb.find? (fun x => x.covers asid va) with
      | some x => .hit x
      | none => s.xwalk asid va

/-- Translate without the caches of a slot: an engine, the lease engine or fetch. -/
def State.xplain (s : State) (g : SlotRef) (va : Nat) : XRes := s.xlate g 33 va

/-- Keep a translation in a TLB of n entries (22 R339). -/
def tlbInsert (n : Nat) (x : Xlat) (free : Nat) (t : List Xlat) : List Xlat :=
  if t.elem x then t
  else if t.length < n then t ++ [x]
  else t.eraseIdx (Config.tlbVictim free n % n) ++ [x]

/-- The index of the first lease range that holds an address (09 R174). -/
def Task.leaseOf (k : Task) (a : Nat) : Nat := k.leases.findIdx (fun l => decide (l.base ≤ a) && decide (a < l.base + l.len))

/-- The result replaces the lane's last-page register and enters the TLBs (09 R174); the core's counters count a
last-page hit or a TLB miss (10 R200). -/
def State.remember (g : SlotRef) (lane : Nat) (a : DWord) (x : Xlat) (s : State) : State :=
  let p : LastPage := ⟨x, (s.task (s.grp g).task).leaseOf a.toNat⟩
  let hit := ((s.grp g).pages.look lane).any (fun y => decide (y.x = x))
  let miss := !((s.core g.coreRef).tlb.elem x)
  let s1 := s.modGrp g (fun h => { h with pages := h.pages.ins lane p })
  if hit then s1.count g.coreRef 7 1
  else
    let s2 := s1.modCore g.coreRef (fun c => { c with tlb := tlbInsert 2048 x s.free c.tlb })
    let s3 := s2.modDie g.die (fun d => { d with tlb := tlbInsert 32768 x s.free d.tlb })
    if miss then s3.count g.coreRef 8 1 else s3

/-- A lane's lookup: what it finds is kept, whatever a check of its permissions says then (09 R174). -/
def State.lookup (g : SlotRef) (lane : Nat) (a : DWord) (s : State) : State :=
  match s.xlate g lane (va56 a) with
  | .hit x => s.remember g lane a x
  | _ => s

/-- The page whose translation a lane's lookup finds: first address and size. -/
def State.pageAt (s : State) (g : SlotRef) (lane : Nat) (a : DWord) : Option (Nat × Nat) :=
  match s.xlate g lane (va56 a) with
  | .hit x => some (x.base, x.size)
  | _ => none

/-- The physical address of a virtual one under a translation. -/
def Xlat.phys (x : Xlat) (va : Nat) : Nat := x.frame + (va - x.base)

/-! ## Fetch (06 R113, 22 R340) -/

/-- What a fetch of a halfword answers. -/
inductive FetchRes where
  | half (h : Nat)
  /-- outside every lease of the task -/
  | lease
  /-- not canonical, not translated, or fetch not permitted -/
  | bad
  /-- the page is in migration: the fetch waits (22 R345) -/
  | moving (page : Nat)
deriving DecidableEq, Repr

/-- Fetch the halfword at an address for a slot (06 R113). -/
def State.fetchHalf (s : State) (g : SlotRef) (a : DWord) : FetchRes :=
  let k := s.task (s.grp g).task
  if !canonical a then .bad
  else if !k.leased a.toNat 2 then .lease
  else if !k.fetchable a.toNat 2 then .bad
  else
    match s.xplain g (va56 a) with
    | .hit x => if x.x then .half (s.readN (x.phys (va56 a)) 2) else .bad
    | .missing => .bad
    | .migrating p => .moving p

/-- Fetch the first halfword of a word: a long word needs its second halfword too. -/
def State.fetchFirst (s : State) (g : SlotRef) (a : DWord) : FetchRes :=
  match s.fetchHalf g a with
  | .half h =>
    if isLong h then
      match s.fetchHalf g (a + 2) with
      | .half _ => .half h
      | r => r
    else .half h
  | r => r

/-! ## The checks of 09 R160 -/

/-- What the checks of one access answer. -/
inductive AccRes where
  /-- the place of its first byte; the translation it used -/
  | ok (loc : Nat) (x : Option Xlat)
  | addr
  | misalign
  | lease
  /-- check 5: a subcode of 09 R175 -/
  | trans (sub : Nat)
  | migrating (page : Nat)
deriving DecidableEq, Repr

/-- The size of the window that a slot's occupant sees: a wave has no scratchpad (08 R150, 20 R325). -/
def State.window (s : State) (g : SlotRef) : Nat :=
  match (s.grp g).kind with
  | .group => (s.team (s.grp g).team).spadSize
  | _ => 0

/-- Checks 1 to 3 of R160 for an access of n bytes aligned to al: none where they pass. -/
def check123 (window : Nat) (a : DWord) (n al : Nat) : Option AccRes :=
  if 2 ^ 64 ≤ a.toNat + n - 1 ∨ !canonical a ∨ !canonical (a + BitVec.ofNat 64 (n - 1)) then some .addr
  else if a.toNat % al ≠ 0 then some .misalign
  else if inSpw a ∧ window ≤ spwOffset a then some .addr
  else none

/-- Checks 4 and 5 of R160, or the place in the scratchpad; `wr` for a store, ZLINE or atomic. -/
def State.check45 (s : State) (g : SlotRef) (lane : Nat) (a : DWord) (n : Nat) (wr : Bool) : AccRes :=
  let h := s.grp g
  let k := s.task h.task
  if inSpw a then .ok ((s.team h.team).spad (spwOffset a)) none
  else if !k.leased a.toNat n then .lease
  else
    match s.xlate g lane (va56 a) with
    | .migrating p => .migrating p
    | .missing => .trans 2
    | .hit x =>
      if wr && !(x.w && k.writable a.toNat n) then .trans 1
      else .ok (x.phys (va56 a)) (some x)

/-- All five checks, in order (09 R160). -/
def State.checkAcc (s : State) (g : SlotRef) (lane : Nat) (a : DWord) (n al : Nat) (wr : Bool) : AccRes :=
  match check123 (s.window g) a n al with
  | some r => r
  | none => s.check45 g lane a n wr

end Sys2Proof.Machine
end

