-- ==== Sys2Proof/Machine/Records.lean ====
section
/-! DEFINITION. Group handles, and the device's record queues (05 R100, 24 R373). -/

namespace Sys2Proof.Machine

/-! ## Handles and records -/

/-- A group handle (05 R100). -/
def handleOf (g : SlotRef) (gen : BitVec 16) : DWord :=
  BitVec.ofNat 64 (gen.toNat * 65536 + g.die * 16384 + g.core * 256 + g.slot)

/-- The handle of the group in a slot. -/
def State.handle (s : State) (g : SlotRef) : DWord := handleOf g (s.grp g).gen

/-- The size of a ring: 2 to the LOG2SIZE field (24 R373, 16 R266). -/
def ringSize (ctl : DWord) : Nat := 2 ^ (ctl.toNat / 256 % 32)

/-- A ring has no room: its tail would meet its head (24 R373; log 16). -/
def RecQueue.full (q : RecQueue) : Bool :=
  decide ((q.tail.toNat + 1) % ringSize q.ctl = q.head.toNat % ringSize q.ctl)

/-- The ring may be written. -/
def RecQueue.open_ (q : RecQueue) : Bool := decide (q.ctl.toNat % 2 = 1) && !q.full

/-- A record is dropped: OVF and LOST, saturating (24 R373). -/
def RecQueue.lose (q : RecQueue) : RecQueue :=
  let lost := q.ctl.toNat / 65536 % 65536
  let lost' := min 65535 (lost + 1)
  { q with ctl := BitVec.ofNat 64 (q.ctl.toNat - lost * 65536 + lost' * 65536) ||| 2 }

/-- The quadwords of a record (24 R373). -/
def recordWords (kind sub idx asid : Nat) (grid handle addr clause d1 d2 : DWord) : List DWord :=
  [BitVec.ofNat 64 (kind % 256 + sub % 256 * 256 + idx % 16 * 65536 + asid % 65536 * 4294967296),
    grid, handle, addr, clause, d1, d2, 0]

/-- Write quadwords to memory from an address. -/
def State.writeQuads (a : Nat) : List DWord → State → State
  | [], s => s
  | w :: r, s => State.writeQuads (a + 8) r (s.store none a 8 w.toNat)

/-- The fault queue or the event queue. -/
def IoDie.recq (io : IoDie) (fault : Bool) : RecQueue := if fault then io.fault else io.event

/-- Change a record queue. -/
def State.modRecq (fault : Bool) (f : RecQueue → RecQueue) (s : State) : State :=
  if fault then { s with io := { s.io with fault := f s.io.fault } }
  else { s with io := { s.io with event := f s.io.event } }

/-- A line of a physical range is held by a combiner wave or owned by an engine (20 R324, 23 R357). -/
def State.rangeBusy (s : State) (a n : Nat) : Bool :=
  s.mordant.any (fun e => e.2.wave.isSome && e.2.heldLines.any (fun x => decide (64 * x < a + n) && decide (a < 64 * x + 64))) ||
    s.groups.any (fun e => e.2.ops.any (fun o => o.own.any (fun x => decide (64 * x < a + n) && decide (a < 64 * x + 64))))

/-- A physical range is part of a page in migration (22 R345). -/
def State.moving (s : State) (a n : Nat) : Bool :=
  s.io.migrations.any (fun m =>
    (decide (m.old < a + n) && decide (a < m.old + m.size)) || (decide (m.new_ < a + n) && decide (a < m.new_ + m.size)))

/-- Where a queue's next record goes. -/
def RecQueue.next (q : RecQueue) : Nat := q.base.toNat + 64 * (q.tail.toNat % ringSize q.ctl)

/-- A queue takes a record now: the ring may be written, and nobody holds the record's line (20 R324, 24 R373). -/
def State.ringOpen (s : State) (q : RecQueue) : Bool := q.open_ && !s.rangeBusy q.next 64 && !s.moving q.next 64

/-- Put a record into the ring: it is written, then the tail advances (24 R373). -/
def State.ringPut (fault : Bool) (ws : List DWord) (s : State) : State :=
  let q := s.io.recq fault
  (s.writeQuads q.next ws).modRecq fault
    (fun q => { q with tail := q.tail + 1 })

/-- A record is written, held while the ring cannot take it, or dropped beyond 256 (24 R373). -/
def State.record (fault : Bool) (ws : List DWord) (s : State) : State :=
  let q := s.io.recq fault
  if s.ringOpen q ∧ q.held = [] then s.ringPut fault ws
  else if q.held.length < 256 then s.modRecq fault (fun q => { q with held := q.held ++ [ws] })
  else s.modRecq fault RecQueue.lose

/-- Held records are written while the ring takes them (24 R373). -/
def State.flushRecords (fault : Bool) : Nat → State → State
  | 0, s => s
  | n + 1, s =>
    match (s.io.recq fault).held with
    | [] => s
    | ws :: r =>
      if s.ringOpen (s.io.recq fault) then
        State.flushRecords fault n ((s.ringPut fault ws).modRecq fault (fun q => { q with held := r }))
      else s

end Sys2Proof.Machine
end

