-- ==== Sys2Proof/Machine/Combine.lean ====
section
/-! DEFINITION. Mordant objects at their home slice: answers, commit, abort and release (20 R319-R328, 22 R334). -/

namespace Sys2Proof.Machine

/-- The home die of a physical address (22 R334). -/
def homeDie (pa : Nat) : Nat := if Config.slowBase ≤ pa then pa / 4096 % 4 else pa / 4096 % 12 / 3

/-- The home slice of a physical address on its die (22 R334). -/
def homeSlice (pa : Nat) : Nat := (pa / 64 % 32) ^^^ (pa / 2048 % 32) ^^^ (pa / 65536 % 32)

/-- One home slice of the package. -/
def sliceOf (pa : Nat) : Nat := 32 * homeDie pa + homeSlice pa

/-- Write a lane's status and reply registers; none where the address names no object (20 R320). -/
def Group.reply (p c lane : Nat) (ok : Bool) (w : Option (Bool × Bool)) (x : DWord) (g : Group) : Group :=
  let g1 := g.setP p (maskOf (fun l => decide (l = lane))) (if ok then BitVec.ofNat 32 (2 ^ 32 - 1) else 0)
  match w with
  | none => g1
  | some (aw, rw) =>
    let r := c + (if aw then 2 else 1)
    let g2 := g1.setV r lane (if ok then x.setWidth 32 else 0)
    if rw then g2.setV (r + 1) lane (if ok then (x >>> 32).setWidth 32 else 0) else g2

/-- The outcome of one request (20 R320): the flag clears with the last lane's, which is an acquire for a header that waits
for it. -/
def State.answer (r : MReq) (ok : Bool) (w : Option (Bool × Bool)) (x : DWord) (s : State) : State :=
  match (s.grp r.g).findOp r.op with
  | none => s
  | some o =>
    match o.kind with
    | .mreq p c obj args todo sent =>
      let left := todo &&& ~~~(maskOf (fun l => decide (l = r.lane)))
      let s1 := ((if left = 0 then s.signalAt r.g o.flag else s).modGrp r.g (Group.reply p c r.lane ok w x)).modGrp r.g
        (if left = 0 then Group.finishOp o else Group.setOpKind o.id (.mreq p c obj args left sent))
      if ok then s1 else s1.count r.g.coreRef 22 1
    | _ => s

/-- Answer requests with status 0. -/
def State.refuse (rs : List MReq) (w : Bool × Bool) (s : State) : State :=
  rs.foldl (fun s r => s.answer r false (some w) 0) s

/-- Change an object's entry. -/
def State.modMordant (k : Nat) (f : Mordant → Mordant) (s : State) : State := { s with mordant := s.mordant.upd k f }

/-- Every request that has not started is answered with status 0 (20 R319, R328). -/
def State.flushObject (k : Nat) (s : State) : State :=
  match s.mordant.look k with
  | none => s
  | some m =>
    let s1 := m.closed.foldl (fun s b => s.refuse b.reqs (b.aw64, b.rw64)) s
    (s1.refuse m.opened (m.aw64, m.rw64)).modMordant k (fun m => { m with opened := [], closed := [] })

/-! ## Slots and the baton, let go -/

/-- The first requester of the baton in ascending slot order behind a slot, wrapping
(11 R221); the system slots stand behind slot 47 (log 25). -/
def nextBaton (g : SlotRef) (rs : List SlotRef) : Option SlotRef :=
  (((List.range 50).map (fun i => (g.slot + 1 + i) % 50)).filterMap (fun n => rs.find? (fun r => r.slot = n))).head?

/-- A slot owns the baton: an MMA or ATTN that its contexts hold in an implicit take issues again (11 R222). -/
def State.giveBaton (g : SlotRef) (s : State) : State :=
  let w := s.onward g
  (s.modCore g.coreRef (fun c => { c with baton := some g, batonReq := c.batonReq.filter (fun r => r != g) })).modGrp g
    (fun h => { h with ctxs := h.ctxs.map (fun e =>
      (e.1, if e.2.stop = .baton then { e.2 with stop := w } else e.2)) })

/-- A slot takes the baton, or queues for it (11 R221). -/
def State.askBaton (g : SlotRef) (s : State) : State :=
  let c := s.core g.coreRef
  match c.baton with
  | none => s.giveBaton g
  | some h =>
    if h = g ∨ c.batonReq.elem g then s
    else s.modCore g.coreRef (fun c => { c with batonReq := c.batonReq ++ [g] })

/-- A slot owns the baton or has asked for it. -/
def State.wantsBaton (s : State) (g : SlotRef) : Bool :=
  decide ((s.core g.coreRef).baton = some g) || (s.core g.coreRef).batonReq.elem g

/-- A slot passes the baton, or withdraws its request (11 R221). -/
def State.passBaton (g : SlotRef) (s : State) : State :=
  let c := s.core g.coreRef
  let s1 := s.modCore g.coreRef (fun c =>
    { c with
      baton := if c.baton = some g then none else c.baton
      batonReq := c.batonReq.filter (fun r => r != g) })
  if c.baton = some g then
    match nextBaton g (c.batonReq.filter (fun r => r != g)) with
    | some h => s1.giveBaton h
    | none => s1
  else s1

/-- A core releases the slots of a holder that f and h name; they keep what stands in them (11 R209). -/
def Core.letGo (t : Nat) (f h : Nat → Bool) (c : Core) : Core :=
  let om := fun (e : Nat × OmSlot) => f e.1 && decide (e.2.team = t)
  let ac := fun (e : Nat × AcSlot) => h e.1 && decide (e.2.team = t)
  { c with
    om := c.om.filter (fun e => !om e)
    ac := c.ac.filter (fun e => !ac e)
    omLeft := (c.om.filter om).foldl (fun m e => SMap.ins m e.1 e.2) c.omLeft
    acLeft := (c.ac.filter ac).foldl (fun m e => SMap.ins m e.1 e.2) c.acLeft }

/-- A core releases every slot of a holder. -/
def Core.dropSlots (t : Nat) (c : Core) : Core := c.letGo t (fun _ => true) (fun _ => true)

/-- Whom the engine slots of a slot's occupant belong to (11 R209): its team; a combiner wave has none, and holds them
itself (log 26). -/
def State.holder (s : State) (g : SlotRef) : Nat :=
  match (s.grp g).kind with
  | .combiner _ => 2 ^ 64 + g.key
  | _ => (s.grp g).team

/-- What a wave that retires or aborts leaves on its core: its slots, its queue entries and its place at the baton. -/
def State.leaveEngine (g : SlotRef) (s : State) : State :=
  (s.modCore g.coreRef (fun c =>
    { c.dropSlots (s.holder g) with
      engine := c.engine.filter (fun e =>
        match e with
        | .op r => r.g != g
        | .rel t _ _ => t != s.holder g)
      channels := c.channels.map (fun e => (e.1, e.2.filter (fun r => r.g != g))) })).passBaton g

/-- The wave retires: its slot is freed and its lines are given up (20 R326, R327). A released object's entry goes with
it (20 R319). -/
def State.endWave (k : Nat) (g : SlotRef) (s : State) : State :=
  let s1 := (s.leaveEngine g).modCore g.coreRef (fun c => { c with faults := c.faults.filter (fun f => f.g != g) })
  let s2 : State := { s1 with groups := s1.groups.del g.key }
  let s3 := s2.modMordant k (fun m => { m with wave := none, heldLines := [], held := [], zeros := [], replies := [] })
  match s3.mordant.look k with
  | some m => if m.releasing then { s3 with mordant := s3.mordant.del k } else s3
  | none => s3

/-- The slot of the group that registered an object, where it is resident (20 R328). -/
def State.registeringGroup (s : State) (m : Mordant) : Option SlotRef :=
  match (s.team m.reg.1).slots.look m.reg.2 with
  | some (.at g) => some g
  | _ => none

/-- The report of an abort (20 R328): its pc is the header at which it is delivered. -/
def mordTrap (sub : Nat) (va : DWord) : Trap := ⟨0x10, BitVec.ofNat 64 sub, va, 0, 0, 0, false, false⟩

/-- The running batch of an object aborts (20 R327, R328): held writes are discarded, its requests and all pending ones
are answered with status 0, the entry is poisoned, the wave retires, and the owner is told. -/
def State.abortWave (k sub : Nat) (s : State) : State :=
  match s.mordant.look k with
  | none => s
  | some m =>
    match m.wave with
    | none => s
    | some g =>
      let s1 := s.refuse m.batch.reqs (m.batch.aw64, m.batch.rw64)
      let s2 := (s1.modMordant k (fun m => { m with poisoned := true })).flushObject k
      let s3 :=
        match s.registeringGroup m with
        | some h => s2.modGrp h (fun x => { x with mordErrs := x.mordErrs ++ [mordTrap sub m.va] })
        | none => s2
      let j := s.task m.task
      (s3.record true (recordWords 0x10 sub 0 j.asid j.gridId 0 m.va 0 0 0)).endWave k g

/-- Every running wave of a task aborts: the task ends (20 R327). -/
def State.abortWaves (k : Nat) (s : State) : State :=
  (s.mordant.filter (fun e => decide (e.2.task = k))).foldl (fun s e => s.abortWave e.1 0x11) s

/-- The commit (20 R326): every held write is performed in one step, a release of the wave to DEVICE, COPY and MATRIX (23
R355); lines that a ZLINE wrote last are zero lines (22 R335); every request is answered, and the wave retires. -/
def State.commitWave (k : Nat) (s : State) : State :=
  match s.mordant.look k with
  | none => s
  | some m =>
    match m.wave with
    | none => s
    | some g =>
      let s1 := m.zeros.foldl (fun s l => s.zeroLine l)
        ((m.held.foldl (fun s e => s.store none e.1 1 e.2.toNat) s).releaseAt g 0x1C)
      let rs := m.batch.reqs
      let s2 := (List.range rs.length).foldl (fun s i =>
        match rs[i]? with
        | some r => s.answer r true (some (m.batch.aw64, m.batch.rw64)) (m.replies.get 0 i)
        | none => s) s1
      s2.endWave k g

/-- Release an object (20 R319): pending requests return status 0, and the entry is freed once a running wave has
ended. -/
def State.releaseObject (k : Nat) (s : State) : State :=
  let s1 := s.flushObject k
  match s1.mordant.look k with
  | none => s1
  | some m =>
    if m.wave.isSome then s1.modMordant k (fun m => { m with releasing := true })
    else { s1 with mordant := s1.mordant.del k }

/-- A retired owner's entries are freed as if released (20 R319). -/
def State.releaseObjects (k : Nat) (s : State) : State :=
  (s.mordant.filter (fun e => decide (e.2.task = k))).foldl (fun s e => s.releaseObject e.1) s

end Sys2Proof.Machine
end

