-- ==== Sys2Proof/Machine/Tasks.lean ====
section
/-! DEFINITION. Barrier words and the end of lanes, groups and tasks (05 R95, 10 R189-R191, 22 R344). -/

namespace Sys2Proof.Machine

/-! ## Barriers (10 R189-R191) -/

/-- A barrier word's fields. -/
structure BarWord where
  expected : Nat
  arrived : Nat
  phase : Nat
deriving DecidableEq, Repr

/-- The place of barrier k of a team (10 R189). -/
def Team.barLoc (m : Team) (k : Nat) : Nat := m.spad (8 * k)

/-- Read a barrier word. -/
def State.barWord (s : State) (t k : Nat) : BarWord :=
  let w := s.readN ((s.team t).barLoc k) 8
  ⟨w % 2 ^ 32, w / 2 ^ 32 % 2 ^ 24, w / 2 ^ 56⟩

/-- The word of a barrier's fields. -/
def BarWord.word (b : BarWord) : Nat :=
  b.expected % 2 ^ 32 + b.arrived % 2 ^ 24 * 2 ^ 32 + b.phase % 256 * 2 ^ 56

/-- A barrier's word and arrival record together. -/
structure Bar where
  w : BarWord
  seen : List (Nat × Nat)
deriving DecidableEq, Repr

def State.bar (s : State) (t k : Nat) : Bar := ⟨s.barWord t k, (s.team t).arrivals.get [] k⟩

/-- Write a barrier's word and record. -/
def State.setBar (t k : Nat) (b : Bar) (s : State) : State :=
  (s.writeN ((s.team t).barLoc k) 8 b.w.word).modTeam t
    (fun m => { m with arrivals := m.arrivals.put [] k b.seen })

/-- init (10 R191). -/
def Bar.init (e : Nat) (b : Bar) : Bar := ⟨⟨e, 0, b.w.phase⟩, []⟩

/-- One thread arrives (10 R191). -/
def Bar.arrive1 (b : Bar) (t : Nat × Nat) : Bar :=
  if b.seen.elem t then b else ⟨{ b.w with arrived := b.w.arrived + 1 }, b.seen ++ [t]⟩

/-- One thread drops (10 R191). -/
def Bar.drop1 (b : Bar) (t : Nat × Nat) : Bar :=
  let e := b.w.expected - 1
  if b.seen.elem t then ⟨{ b.w with expected := e, arrived := b.w.arrived - 1 }, b.seen.filter (fun x => x != t)⟩
  else ⟨{ b.w with expected := e }, b.seen⟩

def Bar.arrive (ts : List (Nat × Nat)) (b : Bar) : Bar := ts.foldl Bar.arrive1 b
def Bar.drop (ts : List (Nat × Nat)) (b : Bar) : Bar := ts.foldl Bar.drop1 b

/-- The test (10 R191): arrived reaching expected advances the phase. -/
def Bar.test (b : Bar) : Bar :=
  if b.w.expected ≤ b.w.arrived then ⟨{ b.w with phase := (b.w.phase + 1) % 256, arrived := 0 }, []⟩ else b

/-- A context stalled on barrier k of a team goes on, to w, once the phase differs (10 R193). -/
def Context.unstall (w : Stop) (k phase : Nat) (c : Context) : Context :=
  match c.stop with
  | .barrier _ k' (some f) => if k' = k ∧ f ≠ phase then { c with stop := w } else c
  | _ => c

/-- Every context of a team that the phase of barrier k no longer stalls continues; under a pending yield it counts as
saved there; the end of a stall is an acquire for the set of its operation (10 R193, 19 R301; log 39). -/
def State.unstall (t k : Nat) (s : State) : State :=
  let w : Stop := if (s.team t).yieldPending then .entry else .running
  let ph := (s.barWord t k).phase
  let gs := s.groups.filter (fun e => decide (e.2.team = t) && decide (e.2.kind = .group) &&
    e.2.ctxs.any (fun c => decide (c.2.stall ≠ 0) && decide ((c.2.unstall w k ph).stop ≠ c.2.stop)))
  gs.foldl (fun s e => s.acquireAt (slotOfKey e.1))
    { s with
      groups := s.groups.map (fun e =>
        if e.2.team = t ∧ e.2.kind = .group then
          (e.1, { e.2 with ctxs := e.2.ctxs.map (fun c => (c.1, c.2.unstall w k ph)) })
        else e) }

/-- The slot's outstanding barrier operations. -/
def Group.barOps (g : Group) : List Nat :=
  g.ops.filterMap (fun o =>
    match o.kind with
    | .barrier _ _ _ _ _ => some o.id
    | _ => none)

/-- Retiring threads of a slot are to be dropped from every barrier of their team, behind the slot's earlier barrier operations
(06 R122, 08 R148, 10 R191, R192). -/
def State.dropThreads (g : SlotRef) (t : Nat) (ts : List (Nat × Nat)) (s : State) : State :=
  s.modTeam t (fun m =>
    { m with drops := m.drops ++ (List.range m.barriers).flatMap (fun k =>
        ts.map (fun x => (⟨k, x.1, x.2, g, (s.grp g).barOps⟩ : PendDrop))) })

/-- Retired threads of a slot's group are on their way to a barrier word: the group stays until they have dropped (05 R95,
10 R191). -/
def State.dropping (s : State) (g : SlotRef) : Bool := (s.team (s.grp g).team).drops.any (fun d => decide (d.g = g))

/-! ## The end of groups and tasks -/

/-- The live lanes of a group: of its contexts and records (05 R91, R93). -/
def Group.live (g : Group) : Word :=
  g.records.foldl (fun m r => m ||| r.mask) (g.ctxs.foldl (fun m e => m ||| e.2.p0) 0)

/-- The hold of a JOIN: gone with its context. -/
def Op.isJoin (o : Op) : Bool :=
  match o.kind with
  | .join _ => true
  | _ => false

/-- End a group as if every context executed EXIT: its threads drop, nothing of it issues again, and its outstanding
operations drain (08 R156). -/
def State.endGroup (g : SlotRef) (s : State) : State :=
  let h := s.grp g
  let s1 := s.modGrp g (fun h =>
    { h with
      ctxs := [], records := [], handler := none, waiting := [], held := [], hold := [], ended := true
      ops := h.ops.filter (fun o => !o.isJoin && !o.gate) })
  if h.kind = .group then s1.dropThreads g h.team ((lanesOf h.live).map (fun l => (h.gi, l))) else s1

/-- A task and its descendants, with as many generations as `fuel` (05 R99: depth at most 10, and SPAWN tasks). -/
def State.isUnder (s : State) (k : Nat) : Nat → Nat → Bool
  | 0, j => decide (j = k)
  | fuel + 1, j =>
    decide (j = k) ||
      (match (s.task j).parent with
       | some p => s.isUnder k fuel p
       | none => false)

/-- The tasks that are k or descend from it. -/
def State.family (s : State) (k : Nat) : List Nat := s.tasks.keys.filter (s.isUnder k s.tasks.length)

/-- The groups in slots of a task. -/
def State.groupsOfTask (s : State) (k : Nat) : List SlotRef :=
  s.groups.filterMap (fun e => if e.2.task = k then some (slotOfKey e.1) else none)

/-- A team's images are gone when its task ends. -/
def Team.endImages (m : Team) : Team :=
  { m with
    reordering := false
    madder := 0
    ready := none
    slots := m.slots.map (fun e =>
      match e.2 with
      | .image _ _ => (e.1, .retired)
      | p => (e.1, p)) }

/-! ## Slots, cores and teams let go -/

/-- The grid whose constant image a task uses: its own, or for a SPAWN task the grid it descends from (16 R278). -/
def State.gridOfTask (s : State) : Nat → Nat → Nat
  | 0, k => k
  | fuel + 1, k =>
    if (s.task k).spawn then
      match (s.task k).parent with
      | some p => s.gridOfTask fuel p
      | none => k
    else k

def State.gridOf (s : State) (k : Nat) : Nat := s.gridOfTask s.tasks.length k

/-- The teams that a core holds: placed, neither retired nor evicted whole. -/
def State.teamsOn (s : State) (c : CoreRef) : List Nat :=
  s.teams.filterMap (fun e => if !e.2.retired && !e.2.evicted && e.2.cores.elem c then some e.1 else none)

/-- The constant store loses its owner when the owner's last team has left the core (10 R185). -/
def State.dropOwner (c : CoreRef) (s : State) : State :=
  match (s.core c).owner with
  | none => s
  | some k =>
    if (s.teamsOn c).any (fun t => decide (s.gridOf (s.team t).task = k)) then s
    else s.modCore c (fun x => { x with owner := none })

/-- A team leaves its cores: its operand and accumulator slots are released, and stores lose their owner (11 R209,
10 R185). -/
def State.leaveCores (t : Nat) (cs : List CoreRef) (s : State) : State :=
  cs.foldl (fun s c => (s.modCore c (Core.dropSlots t)).dropOwner c) s

/-- The key under which the save pool holds a task's or a team's block (24 R368). -/
def taskBlock (k : Nat) : Nat := 2 * k
def teamBlock (t : Nat) : Nat := 2 * t + 1

/-- Free a block of the save pool (24 R368). -/
def State.freeBlock (b : Nat) (s : State) : State := { s with io := { s.io with blocks := s.io.blocks.del b } }

/-- Every group of a team has retired. -/
def Team.done (m : Team) : Bool := !m.retired && !m.slots.isEmpty && m.slots.all (fun e => decide (e.2 = .retired))

/-- A team retires once all its groups have (19 R294, 16 R273, R274): its counters return to the pool, its core joins
the refill list, its slots and its save block are freed. -/
def State.teamRetire (t : Nat) (s : State) : State :=
  let m := s.team t
  let k := m.task
  if m.done then
    let s1 := s.modTeam t (fun m => { m with retired := true, ci := 0, ct := 0, omImage := [], acImage := [], freed := [], decs := [], drops := [] })
    let s2 := (if m.evicted then s1 else s1.leaveCores t m.cores).freeBlock (teamBlock t)
    let c := m.cores.headD ⟨0, 0⟩
    (s2.modTask k (fun j =>
      { j with
        unretired := j.unretired - 1
        lastCore := some c
        stole := j.stole.filter (fun d => d != c.die || s.steals.any (fun m => decide (m.task = k ∧ m.thief = d)))
        refill := if j.spawn || decide (j.l.wide ≠ 0) then j.refill
          else j.refill.ins c.die (j.refill.get [] c.die ++ [c.core]) })).addPool k m.ci m.ct
  else s

/-- A slot is freed: its baton passes, its store-fault records are gone, its group is no more (05 R95, 11 R222). -/
def State.freeSlot (g : SlotRef) (s : State) : State :=
  let s1 := s.passBaton g
  let s2 := s1.modCore g.coreRef (fun c =>
    { c with
      faults := c.faults.filter (fun f => f.g != g)
      progress := ((s.grp g).copies.keep (fun k => decide (k < 8))).foldl (fun m e => SMap.ins m (8 * g.slot + e.1) e.2) c.progress })
  { s2 with groups := s2.groups.del g.key }

/-- End one task's work: its combiner waves abort, its groups end, its images are gone, its unplaced teams are placed no more (22 R344). -/
def State.endWork (k : Nat) (s : State) : State :=
  let s0 := s.abortWaves k
  let s1 := (s0.groupsOfTask k).foldl (fun s g => s.endGroup g) s0
  let ts := s1.teamsOf k
  let s2 := ts.foldl (fun s t => (s.modTeam t Team.endImages).teamRetire t) s1
  { s2.modTask k (fun j => { j with shares := [], unretired := j.unretired - j.unplaced, unplaced := 0 }) with
    taskQueues := s2.taskQueues.map (fun e => (e.1, e.2.filter (fun x => x != k))) }

/-- The fault records of ended tasks are written once no group of the task or of a descendant is left to drain (22 R344). -/
def State.sendReports (s : State) : State :=
  s.tasks.keys.foldl (fun s k =>
    if (s.task k).report ≠ [] ∧ (s.family k).all (fun j => (s.groupsOfTask j).isEmpty) then
      ((s.task k).report.foldl (fun s ws => s.record true ws) s).modTask k (fun j => { j with report := [] })
    else s) s

/-- The whole task ends at once with its descendants, and a record goes to the device fault queue behind their drain, with a
detail (22 R344, 10 R201). -/
def State.endTaskWith (k cause sub : Nat) (addr handle clause : DWord) (idx : Nat) (detail : DWord) (s : State) : State :=
  let s1 := (s.family k).foldl (fun s j => s.endWork j) s
  (s1.modTask k (fun j =>
    { j with
      cause := some (j.cause.getD cause)
      report := j.report ++ [recordWords cause sub idx (s.task k).asid (s.task k).gridId handle addr clause detail 0] })).sendReports

/-- The whole task ends at once with its descendants (22 R344). -/
def State.endTask (k cause sub : Nat) (addr handle clause : DWord) (idx : Nat) (s : State) : State :=
  s.endTaskWith k cause sub addr handle clause idx 0

/-- End the task of a slot for what its context met at an address (22 R344). -/
def State.endTaskAt (c : CtxId) (cause sub : Nat) (addr : DWord) (s : State) : State :=
  let x := (s.grp c.g).ctx c.i
  s.endTask (s.grp c.g).task cause sub addr (s.handle c.g) x.clause x.idx

end Sys2Proof.Machine
end

