-- ==== Sys2Proof/Machine/Traps.lean ====
section
/-! DEFINITION. Taking a trap and returning from one: one shared operation each (24 R362-R366, 08 R152, 20 R327). -/

namespace Sys2Proof.Machine

/-! Cause codes (24 R362). -/
def causeIllegal : Nat := 0x01
def causeBadTarget : Nat := 0x02
def causeAddr : Nat := 0x03
def causeMisalign : Nat := 0x04
def causeNonfinite : Nat := 0x05
def causeStfault : Nat := 0x07
def causeCap : Nat := 0x08
def causeRbar : Nat := 0x09
def causeRmis : Nat := 0x0A
def causeRfrag : Nat := 0x0B
def causeMchk : Nat := 0x0C
def causeLease : Nat := 0x0D
def causeDfault : Nat := 0x0E
def causeGrace : Nat := 0x0F
def causeMord : Nat := 0x10
def causePriv : Nat := 0x11
def causeTrapi : Nat := 0x12

/-- Exchange s56-s63 of a context with the handler bank (24 R364). -/
def swapBank (bank : SMap DWord) (c : Context) : Context :=
  (List.range 8).foldl (fun c i => c.setS (56 + i) (bank.get 0 (56 + i))) c

/-- s56-s63 of a context, as a bank. -/
def bankOf (c : Context) : SMap DWord :=
  (List.range 8).foldl (fun m i => m.put 0 (56 + i) (c.sreg (56 + i))) []

/-- The trap registers take a trap's values (24 R363). -/
def Group.setTrapRegs (t : Trap) (g : Group) : Group :=
  { g with trapCause := BitVec.ofNat 64 t.cause, trapAddr := t.addr, trapInfo := t.info, trapPc := t.pc }

/-- The group handler begins in a context's place: trap registers, bank, TVEC (24 R364). Sleeping contexts of the
slot wake (06 R125). -/
def Group.enterHandler (i : Nat) (t : Trap) (tvec : DWord) (g : Group) : Group :=
  let c := g.ctx i
  let h : Handler := ⟨i, c.pc, c.clause, c.idx, c.due, c.pred, c.setA, c.setB, t, c.stop, true⟩
  let g1 := ((g.setTrapRegs t).modCtx i (fun c =>
    { swapBank g.bank c with pc := tvec, due := true, stop := .running })).wakeAll
  { g1 with bank := bankOf c, handler := some h }

/-- RETT: the bank is exchanged back and the context resumes at the trap's resume point (24 R364, R362). -/
def Group.leaveHandler (h : Handler) (g : Group) : Group :=
  let g1 := g.modCtx h.ctx (fun c =>
    { swapBank g.bank c with
      pc := h.pc, clause := h.clause, idx := h.idx, due := h.due, pred := h.pred,
      setA := h.setA, setB := h.setB, stop := h.stop })
  { g1 with bank := [], handler := none }

/-- The lowest live lane of a context (24 R365). -/
def Group.firstLane (g : Group) (i : Nat) : Nat := lowest (g.ctx i).p0

/-- Context i trapped in this cycle, and its lowest live lane lies above that of context j (24 R365). -/
def Group.after (g : Group) (tick i j : Nat) : Bool :=
  decide (g.trapped.get 0 i = tick + 1) && decide (g.firstLane j < g.firstLane i)

/-- The cycle in which a context trapped. -/
def Group.noteTrap (i tick : Nat) (g : Group) : Group := { g with trapped := g.trapped.ins i (tick + 1) }

/-- A context stops and waits for the handler: behind the traps of earlier cycles, and in order of lowest live lane among those of
this one (24 R365). -/
def Group.queueTrap (i : Nat) (t : Trap) (tick : Nat) (g : Group) : Group :=
  let front := g.waiting.takeWhile (fun w => !g.after tick w.1 i)
  { g.modCtx i (fun x => { x with stop := .handlerWait }) with
    waiting := front ++ (i, t) :: g.waiting.drop front.length
    trapped := g.trapped.ins i (tick + 1) }

/-- Deliver a trap bound for the group handler to a context (24 R364-R366): a trap in a lane-handler wave ends the
task (08 R152), in a combiner wave aborts the batch (20 R327), in the handler itself is a double fault, while a
handler runs waits (one of the same cycle gives way to a lower lane, R365), and with TVEC = 0 ends the task. -/
def State.deliver (c : CtxId) (t : Trap) (s : State) : State :=
  let g := s.grp c.g
  let hd := s.handle c.g
  match g.kind with
  | .laneWave _ _ => s.endTask g.task causeDfault 0x04 t.addr hd t.clause t.idx
  | .combiner obj => s.abortWave obj 0x11
  | .group =>
    match g.handler with
    | some h =>
      if h.ctx = c.i then s.endTask g.task causeDfault 0x03 t.addr hd t.clause t.idx
      else if h.fresh ∧ g.after s.tick h.ctx c.i then
        s.modGrp c.g (fun g =>
          Group.queueTrap h.ctx h.trap s.tick (Group.enterHandler c.i t (s.task g.task).l.tvec (g.leaveHandler h)) |>.noteTrap c.i
            s.tick)
      else s.modGrp c.g (Group.queueTrap c.i t s.tick)
    | none =>
      let tvec := (s.task g.task).l.tvec
      if tvec = 0 then s.endTask g.task t.cause (t.info.toNat % 256) t.addr hd t.clause t.idx
      else s.modGrp c.g (fun g => (g.enterHandler c.i t tvec).noteTrap c.i s.tick)

/-- The trap of the instruction that issues (02 R42, 24 R363). -/
def State.trapOf (s : State) (cause : Nat) (info addr : DWord) : Trap :=
  ⟨cause, info, addr, s.ctx.pc, s.ctx.clause, s.ctx.idx, false, false⟩

/-- The instruction of n bytes that issues traps precisely: it has no effect and is not charged, and RETT resumes at
the word behind it (02 R42, 24 R362). -/
def State.raise (n : Nat) (cause : Nat) (info addr : DWord) (s : State) : State :=
  (s.advance n).deliver s.cur (s.trapOf cause info addr)

/-- A class-010 word traps precisely; the word behind it must be a header (02 R17). -/
def State.raiseB (cause : Nat) (info addr : DWord) (s : State) : State :=
  s.advanceB.deliver s.cur (s.trapOf cause info addr)

/-- ILLEGAL with a subcode (02 R42). -/
def State.illegal (n sub : Nat) (s : State) : State := s.raise n causeIllegal (BitVec.ofNat 64 sub) 0

/-- ILLEGAL at a header, or at a word where a header is required: RETT ends the context (24 R362). -/
def State.illegalHeader (pc : DWord) (sub : Nat) (s : State) : State :=
  s.deliver s.cur
    { s.trapOf causeIllegal (BitVec.ofNat 64 sub) 0 with pc := pc, ends := true }

/-- A trap taken in place of what the context would do: it stays there (02 R402, 24 R362). -/
def State.raiseHere (t : Trap) (s : State) : State := s.deliver s.cur t

/-- A trap of a completed operation, delivered to a context where it stands: at the header or drain point in whose place
it is taken (02 R26, R27, 11 R217; log 27). -/
def State.deliverAt (c : CtxId) (t : Trap) (s : State) : State :=
  let x := (s.grp c.g).ctx c.i
  s.deliver c { t with pc := x.pc, clause := x.clause, idx := x.idx }

/-! ## Checks in an order, and the effect behind them -/

/-- What a failed check does. -/
abbrev Act := State → State

/-- The first check that fails decides; otherwise the effect (02 R401). -/
def guarded (checks : List (Bool × Act)) (eff : Act) (s : State) : State :=
  match checks with
  | [] => eff s
  | (b, a) :: r => if b then a s else guarded r eff s

end Sys2Proof.Machine
end

