-- ==== Sys2Proof/Machine/Operands.lean ====
section
/-! DEFINITION. Every operand form: scalar sources, the ob5 selector in each type, register ranges, base and index
addresses (02 R29-R33, R37, R40, 06 R101, 07 R127, 09 R159). -/

namespace Sys2Proof.Machine

/-- The second operand of a scalar instruction: a register, or the immediate sign-extended (06 R101). -/
def State.src (s : State) : SSrc → DWord
  | .reg r => s.sreg r
  | .imm i => i.signExtend 64

/-- The type an ob5 operand is read in (02 R30, 07 R127). -/
inductive ObTy where
  | int | f32 | h16 | b16
deriving DecidableEq, Repr

/-- The constants of ob5 codes 28-31 in each type (02 R30). -/
def obConst (ty : ObTy) (c : Nat) : Word :=
  match ty, c with
  | _, 0 => 0
  | .int, 1 => 1
  | .int, 2 => 0xFFFFFFFF
  | .int, _ => 2
  | .f32, 1 => 0x3F800000
  | .f32, 2 => 0xBF800000
  | .f32, _ => 0x40000000
  | .h16, 1 => 0x3C003C00
  | .h16, 2 => 0xBC00BC00
  | .h16, _ => 0x40004000
  | .b16, 1 => 0x3F803F80
  | .b16, 2 => 0xBF80BF80
  | .b16, _ => 0x40004000

/-- The value of an ob5 operand in a lane (02 R29). -/
def State.ob (s : State) (ty : ObTy) (b : Ob) (l : Nat) : Word :=
  match b with
  | .o k => s.me.oreg k l
  | .q k => s.me.qreg k l
  | .s r => (s.sreg r).setWidth 32
  | .const c => obConst ty c

/-- The 64-bit constants (02 R30). -/
def obConst64 (c : Nat) : DWord :=
  match c with
  | 0 => 0
  | 1 => 1
  | 2 => 0xFFFFFFFFFFFFFFFF
  | _ => 2

/-- Two words as one 64-bit value, low word first. -/
def pair64 (lo hi : Word) : DWord := hi ++ lo

/-- A 64-bit ob5 operand (02 R31): an o pair in order, a q pair in the order in which a pair result leaves it. -/
def State.ob64 (s : State) (b : Ob) (l : Nat) : DWord :=
  match b with
  | .o k => pair64 (s.me.oreg k l) (s.me.oreg (k + 1) l)
  | .q k => pair64 (s.me.qreg (k + 1) l) (s.me.qreg k l)
  | .s r => s.sreg r
  | .const c => obConst64 c

/-- A v register of a lane of the group that issues. -/
def State.v (s : State) (r l : Nat) : Word := s.me.vreg r l

/-- n v registers from r are aligned to al and below the allocation (02 R40). -/
def State.vOk (s : State) (r n al : Nat) : Bool :=
  decide (r % al = 0) && decide (r + n ≤ s.me.regalloc) && decide (r + n ≤ 256)

/-- A base register b0-b7 (02 R37). -/
def State.base (s : State) (k : Nat) : DWord := s.sreg (48 + k)

/-- The address of a lane in a vector form (09 R159). -/
def State.vaddr (s : State) (k vx l : Nat) : DWord := s.base k + (s.v vx l).signExtend 64

/-- The address of a scalar form (09 R159). -/
def State.saddr (s : State) (k imm size : Nat) : DWord := s.base k + BitVec.ofNat 64 (imm * size)

/-- A signed reading. -/
abbrev si (x : DWord) : Int := x.toInt

/-- The observer set that an obs field selects, read at issue (09 R167): 0 is relaxed. -/
def State.obsSet (s : State) (k : Nat) : BitVec 7 := if k = 0 then 0 else s.me.obs.get 0 k

end Sys2Proof.Machine
end

