-- ==== Sys2Proof/Machine/Flags.lean ====
section
/-! DEFINITION. Floating-point events, FPFLAGS and the choice of a NONFINITE trap (04 R69-R71), compare relations
(08 R144), and the combination modes. -/

namespace Sys2Proof.Machine

/-- The class a lane reports: the first enabled event in the order NaN operand, invalid, divide by zero, overflow
(04 R71); none where no enabled event was raised. -/
def nfClass (trapnf : BitVec 4) (ev : Ev) : Option Nat :=
  if trapnf.getLsbD 3 ∧ ev.getLsbD 3 then some 3
  else if trapnf.getLsbD 0 ∧ ev.getLsbD 0 then some 0
  else if trapnf.getLsbD 2 ∧ ev.getLsbD 2 then some 2
  else if trapnf.getLsbD 1 ∧ ev.getLsbD 1 then some 1
  else none

/-- Events are ORed into FPFLAGS, and are remembered for the cycle in which they reach it (04 R70). -/
def Group.raiseEv (ev : Ev) (g : Group) : Group := { g with fpflags := g.fpflags ||| ev, fpnow := g.fpnow ||| ev }

/-- How a compare's relation combines into the destination predicate (08 R144). -/
def CMode.combine (m : CMode) (old r : Word) : Word :=
  match m with
  | .setTo => r
  | .andInto => old &&& r
  | .orInto => old ||| r
  | .andnInto => old &&& ~~~r

/-- A 64-bit truth value. -/
def flag64 (b : Bool) : DWord := if b then 1 else 0

/-- The count of leading zero bits of the low n bits of x (06 R105, 07 R129). -/
def clzN (n x : Nat) : Nat := if x = 0 then n else n - 1 - Nat.log2 x

/-- The count of set bits among the low n bits. -/
def popN (n x : Nat) : Nat := ((List.range n).filter (fun i => x.testBit i)).length

end Sys2Proof.Machine
end

