-- ==== Sys2Proof/Machine/Lanes.lean ====
section
/-! DEFINITION. The shared operations of lane instructions: results in the active lanes, rotation of q, events, and an
instruction held by a lane trap (05 R86, 07 R126-R128, 08 R149-R155). -/

namespace Sys2Proof.Machine

/-- What one lane computes: the words of its destination and the events it raises. -/
structure LaneRes where
  words : List Word
  ev : Ev
deriving DecidableEq, Repr

/-- Write a lane's words to registers from d. -/
def Group.setWords (d l : Nat) (ws : List Word) (g : Group) : Group :=
  (List.range ws.length).foldl (fun g i => g.setV (d + i) l (ws.getD i 0)) g

/-- Rotate q n times, pushing d, then d + 1 (05 R86). -/
def Group.rotateN (d n : Nat) (m : Word) (g : Group) : Group :=
  (List.range n).foldl (fun g i => g.rotate (d + i) m) g

/-- The operand words a lane handler sees (08 R150). -/
structure LaneSrc where
  a : Word
  b : Word
deriving DecidableEq, Repr

/-- Identity of the instruction that holds, for the handler's descriptor (08 R150). -/
structure OpWord where
  short : Bool
  cls : Nat
  code : Nat
deriving DecidableEq, Repr

/-- The code of a width in the trap descriptor (08 R150). -/
def widthCode (w : Nat) : Nat :=
  match w with
  | 0 => 0
  | 1 => 1
  | 2 => 2
  | _ => 3

/-- v3 of a wave's lane (08 R150). -/
def trapDescriptor (h : Held) (t : LaneTrap) : Word :=
  BitVec.ofNat 32 (widthCode h.width * 2 ^ 21 + (if h.short then 2 ^ 20 else 0) + h.cls % 8 * 2 ^ 17 +
    h.code % 128 * 2 ^ 10 + t.nfclass % 4 * 256 + t.cause % 256)

/-- A collected lane stands before another: the earlier trap, then core, slot, lane (08 R150). -/
def Origin.before (a b : Origin) : Bool :=
  decide (a.tick < b.tick) ||
    (decide (a.tick = b.tick) &&
      (decide (a.g.key < b.g.key) || (decide (a.g.key = b.g.key) && decide (a.lane < b.lane))))

/-- Insert a lane in the order of 08 R150. -/
def insOrigin (x : Origin) : List Origin → List Origin
  | [] => [x]
  | y :: r => if x.before y then x :: y :: r else y :: insOrigin x r

/-- A collection has been open for 256 core cycles (08 R150). -/
def Collect.due (k : Collect) (tick : Nat) : Bool := k.lanes.head?.any (fun o => decide (o.tick + 256 ≤ tick))

/-- A collection that is due closes (08 R150). -/
def Collect.settle (k : Collect) (tick : Nat) : Collect := if k.due tick then ⟨[], k.ready ++ [k.lanes]⟩ else k

/-- Add lanes to a collection, or to the next where it is due: 32 lanes close it, and lanes beyond them open the next (08
R150). -/
def Collect.add (k : Collect) (tick : Nat) (xs : List Origin) : Collect :=
  let k1 := k.settle tick
  let all := xs.foldl (fun l x => insOrigin x l) k1.lanes
  if 32 ≤ all.length then ⟨all.drop 32, k1.ready ++ [all.take 32]⟩ else ⟨all, k1.ready⟩

/-- The entry registers v0-v6 of a wave's lane (08 R150). -/
def laneRegs (g : SlotRef) (gen : BitVec 16) (h : Held) (t : LaneTrap) : List Word :=
  [(handleOf g gen).setWidth 32, t.a, t.b, trapDescriptor h t, BitVec.ofNat 32 (h.idx % 16 * 256 + t.lane),
    h.clause.setWidth 32, (h.clause >>> 32).setWidth 32]

/-- Trapping lanes of a held instruction join the collection of their team in their cluster (08 R150). -/
def State.collectLanes (c : CtxId) (h : Held) (s : State) : State :=
  let g := s.grp c.g
  let xs := h.traps.map (fun t => (⟨c.g, g.gen, c.i, t.lane, min 4 h.width, s.tick, laneRegs c.g g.gen h t⟩ : Origin))
  s.modTeam g.team (fun m =>
    { m with collect := m.collect.ins (clusterKey c.g) ((m.collect.get ⟨[], []⟩ (clusterKey c.g)).add s.tick xs) })

/-- The group trap that a lane trap becomes without a lane handler (08 R153). -/
def Held.groupTrap (h : Held) : Trap :=
  let f := h.traps.foldl (fun (b : LaneTrap) t => if t.lane < b.lane then t else b) (h.traps.headD ⟨0, 0, 0, 0, 0, false, none, false⟩)
  let mask := maskOf (fun l => h.traps.any (fun t => t.lane = l))
  { cause := f.cause
    info := BitVec.ofNat 64 (mask.toNat * 2 ^ 32 + f.nfclass % 4 * 256)
    addr := if f.cause = causeNonfinite then 0 else pair64 f.a f.b
    pc := h.pc
    clause := h.clause
    idx := h.idx
    ends := false
    lanes := true }

/-- The context that issues holds an instruction whose lanes trap (08 R149): its lanes go to the lane handler where
the team has one, else the group handler takes it (08 R153). The pc already stands behind the instruction. In a wave
or in a group handler it is a trap there (08 R152, 24 R366). -/
def State.holdLanes (h : Held) (s : State) : State :=
  let g := s.me
  let plain := decide (g.kind = .group) && !(g.handler.any (fun x => x.ctx = s.cur.i))
  if !plain then s.deliver s.cur h.groupTrap
  else
    let s1 := s.modMe (fun g => { g with held := g.held.ins s.cur.i h })
    if (s.task g.task).l.lanehnd ≠ 0 then
      (s1.modCtx (fun c => { c with stop := .laneTrap })).collectLanes s.cur h
    else s1.deliver s.cur h.groupTrap

/-- A QMV-family instruction (11 R226). -/
def Op.isQmv (o : Op) : Bool :=
  match o.kind with
  | .qmv _ => true
  | _ => false

/-- A QMV-family instruction that issued while TRAPNF was not 0 stops its context's fetch until all its quarters have computed
(11 R226), and an Umber sequence that raises no flag until it has ended (02 R24). -/
def Op.stopsFetch (o : Op) : Bool :=
  match o.kind with
  | .qmv q => decide (q.trapnf ≠ 0)
  | .umber _ => o.flag.isNone
  | _ => false

/-- The held instruction accesses memory: its operation issues for the lanes that passed. -/
def Held.memory (h : Held) : Bool := h.op.any (fun o => !o.isQmv)

/-- A lane's words with its patch: four words of y from 4⌊j*/4⌋ for a QMV-family instruction (11 R226), the whole result
for another. -/
def Held.patched (h : Held) (t : LaneTrap) (own ws : List Word) : List Word :=
  if h.op.any Op.isQmv then
    let j := t.b.toNat / 4 * 4
    own.take j ++ ws.take 4 ++ own.drop (j + 4)
  else ws.take h.width

/-- The v registers of trapping lanes that a sequence's body leaves to the handler (lane, first register, count): those that
HPATCH replaced, and all of a lane that the group handler resolved (08 R151, R155). -/
def Held.skips (h : Held) (viaGroup : Bool) : List (Nat × Nat × Nat) :=
  h.traps.filterMap (fun t =>
    if viaGroup then some (t.lane, 0, 256) else t.patch.map (fun _ => (t.lane, h.dest, h.width)))

/-- An Umber sequence leaves registers to a handler. -/
def OpKind.skipping (ns : List (Nat × Nat × Nat)) : OpKind → OpKind
  | .umber u => .umber { u with skip := ns }
  | k => k

/-- What a lane of a held instruction writes when it completes: none where it writes nothing (07 R128, 08 R151, R155). -/
def Held.laneWords (h : Held) (viaGroup : Bool) (l : Nat) : Option (List Word) :=
  let own := (List.range h.width).map (fun i => h.results.get 0 (32 * i + l))
  match h.traps.find? (fun t => t.lane = l) with
  | none => if h.memory then none else some own
  | some t =>
    if viaGroup then none
    else
      match t.patch with
      | some ws => some (h.patched t own ws)
      | none => if t.cause = causeNonfinite ∧ !h.memory then some own else none

/-- For VREDFADD the trapping lane's value goes to every active lane (08 R147). -/
def Held.spread (h : Held) (viaGroup : Bool) (g : Group) : Option (List Word) :=
  match h.traps.head? with
  | none => none
  | some t =>
    if viaGroup then some [g.vreg h.dest t.lane]
    else (h.laneWords false t.lane)

/-- Write the lanes of a completing held instruction. -/
def Group.completeLanes (h : Held) (viaGroup : Bool) (g : Group) : Group :=
  (lanesOf h.active).foldl (fun g' l =>
    let ws := if h.whole then h.spread viaGroup g else h.laneWords viaGroup l
    match ws with
    | some ws => g'.setWords h.dest l ws
    | none => g') g

/-- The events of the lanes that did not trap (07 R128). -/
def Held.freeEvents (h : Held) : Ev :=
  (lanesOf h.active).foldl (fun e l =>
    if h.traps.any (fun t => t.lane = l) then e else e ||| BitVec.ofNat 6 (h.events.get 0 l)) 0

/-- The lanes of an operation that still access memory. -/
def OpKind.pendingLanes : OpKind → Nat
  | .load _ _ acc => acc.length
  | .store _ acc _ _ => acc.length
  | .ldc _ acc => acc.length
  | .atomic _ _ acc _ => acc.length
  | .qmv q => q.quarters.length
  | _ => 1

/-- An operation whose flag is raised becomes outstanding; one with nothing to do completes at once (09 R162). -/
def Group.startOp (o : Op) (g : Group) : Group :=
  if o.kind.pendingLanes = 0 then g.clearFlag o.flag else { g with ops := g.ops ++ [o] }

/-- A held instruction's operation may now perform for the lanes that passed; with none left it completes (07 R128). -/
def Group.openGate (o : Op) (ns : List (Nat × Nat × Nat)) (g : Group) : Group :=
  if o.kind.pendingLanes = 0 then g.finishOp o
  else { g with ops := g.ops.map (fun x => if x.id = o.id then { x with gate := false, kind := x.kind.skipping ns } else x) }

/-- The context is gone: nothing of the instruction that it holds takes effect (07 R128). -/
def Group.dropHeld (i : Nat) (g : Group) : Group :=
  match g.held.look i with
  | none => g
  | some h =>
    let g1 : Group := { g with held := g.held.del i }
    match h.op with
    | some o => g1.finishOp o
    | none => g1

/-- An instruction with trapping lanes holds its operation: it counts on its flag, stands among the slot's operations in
issue order, and waits (07 R128, 09 R160, R163). -/
def State.gateOp (o : Op) (s : State) : State :=
  (s.modMe (fun g => { g.raiseFlag o.flag with ops := g.ops ++ [{ o with gate := true }] })).fresh

/-- The held instruction of a context completes (07 R128): results, events, one rotation of q over the lane set, and
the operation goes on for the lanes that passed. -/
def State.completeHeld (c : CtxId) (viaGroup : Bool) (s : State) : State :=
  match (s.grp c.g).held.look c.i with
  | none => s
  | some h =>
    s.modGrp c.g (fun g =>
      let p0 := (g.ctx c.i).p0
      let g1 := ((g.completeLanes h viaGroup).raiseEv h.freeEvents).rotateN h.dest h.rotate p0
      let g2 : Group := { g1 with held := g1.held.del c.i }
      match h.op with
      | some o => g2.openGate o (h.skips viaGroup)
      | none => g2)

/-- A register range an instruction names: first, count, alignment (02 R40). -/
structure VRange where
  r : Nat
  n : Nat
  al : Nat
deriving DecidableEq, Repr

def State.vAll (s : State) (rs : List VRange) : Bool := rs.all (fun x => s.vOk x.r x.n x.al)

/-- How an instruction of the V class or a 16-bit form is charged and laid out. -/
structure LaneForm where
  /-- bytes of its word -/
  size : Nat
  /-- IBUD units -/
  cost : Nat
  /-- destination registers: first and count (0, 1 or 2) -/
  dest : Nat
  width : Nat
  /-- registers that 02 R40 checks -/
  ranges : List VRange
  word : OpWord
  whole : Bool
deriving DecidableEq, Repr

/-- Write the results of the active lanes, OR their events, rotate q over the lane set (07 R126). -/
def Group.laneWrite (f : LaneForm) (act p0 : Word) (res : Nat → LaneRes) (g : Group) : Group :=
  let g1 := (lanesOf act).foldl (fun g l => g.setWords f.dest l (res l).words) g
  (g1.raiseEv ((lanesOf act).foldl (fun e l => e ||| (res l).ev) 0)).rotateN f.dest f.width p0

/-- The trapping lanes of an instruction (04 R71). -/
def nfTraps (trapnf : BitVec 4) (act : Word) (res : Nat → LaneRes) (src : Nat → LaneSrc) : List LaneTrap :=
  (lanesOf act).filterMap (fun l =>
    (nfClass trapnf (res l).ev).map (fun k => ⟨l, causeNonfinite, k, (src l).a, (src l).b, false, none, false⟩))

/-- The held form of a lane instruction. -/
def heldOf (s : State) (f : LaneForm) (traps : List LaneTrap) (res : Nat → LaneRes) : Held where
  traps := traps
  active := s.active
  dest := f.dest
  width := f.width
  results := (lanesOf s.active).foldl (fun m l =>
    (List.range f.width).foldl (fun m i => m.put 0 (32 * i + l) ((res l).words.getD i 0)) m) []
  events := (lanesOf s.active).foldl (fun m l => m.put 0 l (res l).ev.toNat) []
  rotate := f.width
  whole := f.whole
  op := none
  short := f.word.short
  cls := f.word.cls
  code := f.word.code
  pc := s.ctx.pc
  clause := s.ctx.clause
  idx := s.ctx.idx

/-- A lane instruction with a v destination (07 R126-R128): the register ranges are checked, the instruction is charged,
and its results are written, or it is held where lanes trap NONFINITE. -/
def laneOp (f : LaneForm) (res : State → Nat → LaneRes) (src : State → Nat → LaneSrc) (s : State) : State :=
  guarded [(!s.vAll f.ranges, State.illegal f.size 3)]
    (fun s =>
      let traps := nfTraps s.me.trapnf s.active (res s) (src s)
      if traps = [] then
        ((s.charge f.cost).modMe (Group.laneWrite f s.active s.laneSet (res s))).advance f.size
      else ((s.charge f.cost).advance f.size).holdLanes (heldOf s f traps (res s))) s

/-- The form of a V-class word of this op with destination d and sources. -/
def vForm (op cost d : Nat) (ranges : List VRange) : LaneForm := ⟨4, cost, d, 1, ranges, ⟨false, 3, op⟩, false⟩

/-- The form of a 16-bit word. -/
def hForm (op d : Nat) : LaneForm := ⟨2, 1, d, 1, [⟨d, 1, 1⟩], ⟨true, 0, op⟩, false⟩

/-- One result word without events. -/
def word1 (w : Word) : LaneRes := ⟨[w], 0⟩

/-- A floating result of 32 bits. -/
def fres (r : FRes) : LaneRes := ⟨[BitVec.ofNat 32 r.bits], r.ev⟩

end Sys2Proof.Machine
end

