-- ==== Sys2Proof/Machine/Scalar.lean ====
section
/-! DEFINITION. The S class: scalar arithmetic, constants and system registers (02 R33, 06 R101-R111, 05 R99). -/

namespace Sys2Proof.Machine

/-- A scalar instruction: charged, s[d] written with f of s[a] and the second operand (06 R101). -/
def scalarOp (cost : Nat) (f : DWord → DWord → DWord) (d a : Nat) (x : SSrc) (s : State) : State :=
  ((s.charge cost).setS d (f (s.sreg a) (s.src x))).advance 4

/-- The high half of an exact product (06 R102). -/
def mulHigh (x y : Int) : DWord := BitVec.ofInt 64 (x * y / 2 ^ 64)

/-- The signed quotient (06 R103). -/
def sdiv64 (x y : DWord) : DWord :=
  if y = 0 then 0 else BitVec.ofInt 64 (x.toInt.tdiv y.toInt)

/-- The signed remainder (06 R103). -/
def srem64 (x y : DWord) : DWord :=
  if y = 0 then x else BitVec.ofInt 64 (x.toInt - x.toInt.tdiv y.toInt * y.toInt)

/-- The unsigned quotient (06 R103). -/
def udiv64 (x y : DWord) : DWord := if y = 0 then 0 else BitVec.ofNat 64 (x.toNat / y.toNat)

/-- The unsigned remainder (06 R103). -/
def urem64 (x y : DWord) : DWord := if y = 0 then x else BitVec.ofNat 64 (x.toNat % y.toNat)

/-- The shift count: the low six bits (06 R104). -/
def shiftCount (y : DWord) : Nat := y.toNat % 64

/-- The low w bits of x, sign-extended; w = 0 gives 0, w of 64 or more gives x (06 R105). -/
def sext64 (x y : DWord) : DWord :=
  let w := y.toNat
  if w = 0 then 0
  else if 64 ≤ w then x
  else
    let t := x.toNat % 2 ^ w
    BitVec.ofInt 64 (if t < 2 ^ (w - 1) then (t : Int) else (t : Int) - 2 ^ w)

/-- The low w bits of x, zero-extended (06 R105). -/
def zext64 (x y : DWord) : DWord :=
  if 64 ≤ y.toNat then x else BitVec.ofNat 64 (x.toNat % 2 ^ y.toNat)

/-- Replace bits [16n+15:16n] (06 R107). -/
def putHalf (n : Nat) (i : BitVec 16) (x : DWord) : DWord :=
  (x &&& ~~~((0xFFFF : DWord) <<< (16 * n))) ||| (i.setWidth 64 <<< (16 * n))

def execSadd (d a : Nat) (x : SSrc) (s : State) : Host.Outcome State Fault Refusal := .next (scalarOp 1 (· + ·) d a x s)
def execSsub (d a : Nat) (x : SSrc) (s : State) : Host.Outcome State Fault Refusal := .next (scalarOp 1 (· - ·) d a x s)
def execSmul (d a : Nat) (x : SSrc) (s : State) : Host.Outcome State Fault Refusal := .next (scalarOp 1 (· * ·) d a x s)
def execSmulh (d a : Nat) (x : SSrc) (s : State) : Host.Outcome State Fault Refusal :=
  .next (scalarOp 1 (fun p q => mulHigh p.toInt q.toInt) d a x s)
def execSmulhn (d a : Nat) (x : SSrc) (s : State) : Host.Outcome State Fault Refusal :=
  .next (scalarOp 1 (fun p q => mulHigh p.toNat q.toNat) d a x s)
def execSdiv (d a : Nat) (x : SSrc) (s : State) : Host.Outcome State Fault Refusal := .next (scalarOp 4 sdiv64 d a x s)
def execSdivn (d a : Nat) (x : SSrc) (s : State) : Host.Outcome State Fault Refusal := .next (scalarOp 4 udiv64 d a x s)
def execSrem (d a : Nat) (x : SSrc) (s : State) : Host.Outcome State Fault Refusal := .next (scalarOp 4 srem64 d a x s)
def execSremn (d a : Nat) (x : SSrc) (s : State) : Host.Outcome State Fault Refusal := .next (scalarOp 4 urem64 d a x s)
def execSand (d a : Nat) (x : SSrc) (s : State) : Host.Outcome State Fault Refusal := .next (scalarOp 1 (· &&& ·) d a x s)
def execSor (d a : Nat) (x : SSrc) (s : State) : Host.Outcome State Fault Refusal := .next (scalarOp 1 (· ||| ·) d a x s)
def execSxor (d a : Nat) (x : SSrc) (s : State) : Host.Outcome State Fault Refusal := .next (scalarOp 1 (· ^^^ ·) d a x s)
def execSandn (d a : Nat) (x : SSrc) (s : State) : Host.Outcome State Fault Refusal :=
  .next (scalarOp 1 (fun p q => p &&& ~~~q) d a x s)
def execSshl (d a : Nat) (x : SSrc) (s : State) : Host.Outcome State Fault Refusal :=
  .next (scalarOp 1 (fun p q => p <<< shiftCount q) d a x s)
def execSshr (d a : Nat) (x : SSrc) (s : State) : Host.Outcome State Fault Refusal :=
  .next (scalarOp 1 (fun p q => p >>> shiftCount q) d a x s)
def execSsar (d a : Nat) (x : SSrc) (s : State) : Host.Outcome State Fault Refusal :=
  .next (scalarOp 1 (fun p q => p.sshiftRight (shiftCount q)) d a x s)
def execSmin (d a : Nat) (x : SSrc) (s : State) : Host.Outcome State Fault Refusal :=
  .next (scalarOp 1 (fun p q => if p.toInt < q.toInt then p else q) d a x s)
def execSmax (d a : Nat) (x : SSrc) (s : State) : Host.Outcome State Fault Refusal :=
  .next (scalarOp 1 (fun p q => if q.toInt < p.toInt then p else q) d a x s)
def execSminn (d a : Nat) (x : SSrc) (s : State) : Host.Outcome State Fault Refusal :=
  .next (scalarOp 1 (fun p q => if p.toNat < q.toNat then p else q) d a x s)
def execSmaxn (d a : Nat) (x : SSrc) (s : State) : Host.Outcome State Fault Refusal :=
  .next (scalarOp 1 (fun p q => if q.toNat < p.toNat then p else q) d a x s)
def execSseq (d a : Nat) (x : SSrc) (s : State) : Host.Outcome State Fault Refusal :=
  .next (scalarOp 1 (fun p q => flag64 (decide (p = q))) d a x s)
def execSsne (d a : Nat) (x : SSrc) (s : State) : Host.Outcome State Fault Refusal :=
  .next (scalarOp 1 (fun p q => flag64 (decide (p ≠ q))) d a x s)
def execSslt (d a : Nat) (x : SSrc) (s : State) : Host.Outcome State Fault Refusal :=
  .next (scalarOp 1 (fun p q => flag64 (decide (p.toInt < q.toInt))) d a x s)
def execSsle (d a : Nat) (x : SSrc) (s : State) : Host.Outcome State Fault Refusal :=
  .next (scalarOp 1 (fun p q => flag64 (decide (p.toInt ≤ q.toInt))) d a x s)
def execSsltn (d a : Nat) (x : SSrc) (s : State) : Host.Outcome State Fault Refusal :=
  .next (scalarOp 1 (fun p q => flag64 (decide (p.toNat < q.toNat))) d a x s)
def execSslen (d a : Nat) (x : SSrc) (s : State) : Host.Outcome State Fault Refusal :=
  .next (scalarOp 1 (fun p q => flag64 (decide (p.toNat ≤ q.toNat))) d a x s)
def execSclz (d a : Nat) (s : State) : Host.Outcome State Fault Refusal :=
  .next (scalarOp 1 (fun p _ => BitVec.ofNat 64 (clzN 64 p.toNat)) d a (.reg 0) s)
def execSpopc (d a : Nat) (s : State) : Host.Outcome State Fault Refusal :=
  .next (scalarOp 1 (fun p _ => BitVec.ofNat 64 (popN 64 p.toNat)) d a (.reg 0) s)
def execSsext (d a : Nat) (x : SSrc) (s : State) : Host.Outcome State Fault Refusal := .next (scalarOp 1 sext64 d a x s)
def execSzext (d a : Nat) (x : SSrc) (s : State) : Host.Outcome State Fault Refusal := .next (scalarOp 1 zext64 d a x s)

/-- SLI: s[d] ← sext64(imm16) (06 R107). -/
def execSli (d : Nat) (i : BitVec 16) (s : State) : Host.Outcome State Fault Refusal :=
  .next (((s.charge 1).setS d (i.signExtend 64)).advance 4)

/-- SLK1 to SLK3: one halfword of s[d] (06 R107). -/
def scalarPut (n d : Nat) (i : BitVec 16) (s : State) : State :=
  ((s.charge 1).setS d (putHalf n i (s.sreg d))).advance 4

def execSlk1 (d : Nat) (i : BitVec 16) (s : State) : Host.Outcome State Fault Refusal := .next (scalarPut 1 d i s)
def execSlk2 (d : Nat) (i : BitVec 16) (s : State) : Host.Outcome State Fault Refusal := .next (scalarPut 2 d i s)
def execSlk3 (d : Nat) (i : BitVec 16) (s : State) : Host.Outcome State Fault Refusal := .next (scalarPut 3 d i s)

/-! ## System registers -/

/-- The index of a core among a team's members. -/
def Team.member (m : Team) (c : CoreRef) : Nat := m.cores.findIdx (fun x => x = c)

/-- The value of a system register for the context that issues (05 R99, 06 R109). What a wave would read of a team and of a
task, which the tables of its entry state do not name, reads 0 (08 R150, 20 R323; log 100). -/
def State.sysreg (s : State) (n : Nat) : DWord :=
  let g := s.me
  let m := if g.kind = .group then s.team g.team else Team.empty
  let k := if g.kind = .group then s.task g.task else Task.empty
  if n = 0x000 then BitVec.ofInt 64 m.ci
  else if n = 0x001 then BitVec.ofInt 64 m.ct
  else if n = 0x002 then BitVec.ofNat 64 m.grace
  else if n = 0x003 then s.ctx.contpc
  else if n = 0x004 then g.frm.setWidth 64
  else if n = 0x005 then g.trapnf.setWidth 64
  else if n = 0x006 then g.fpflags.setWidth 64
  else if 0x008 ≤ n ∧ n ≤ 0x00E then (g.obs.get 0 (n - 7)).setWidth 64
  else if n = 0x010 then BitVec.ofNat 64 m.teamId
  else if n = 0x011 then BitVec.ofNat 64 g.gi
  else if n = 0x012 then BitVec.ofNat 64 m.groups
  else if n = 0x013 then k.gridId
  else if n = 0x014 then BitVec.ofNat 64 k.depth
  else if n = 0x015 then BitVec.ofNat 64 s.cur.g.core
  else if n = 0x016 then BitVec.ofNat 64 s.cur.g.coreRef.cluster
  else if n = 0x017 then BitVec.ofNat 64 s.cur.g.die
  else if n = 0x018 then g.trapCause
  else if n = 0x019 then g.trapAddr
  else if n = 0x01A then g.trapInfo
  else if n = 0x01B then g.trapPc
  else if n = 0x01C then k.l.lanehnd
  else if n = 0x01D then s.handle s.cur.g
  else if n = 0x030 then BitVec.ofNat 64 g.regalloc
  else if n = 0x031 then BitVec.ofNat 64 (m.spadBase.get 0 (m.member s.cur.g.coreRef))
  else if n = 0x040 then BitVec.ofNat 64 s.tick
  else 0

/-- Write a system register: a write to an RO register has no effect, reserved bits are ignored (06 R108). A write to
FPFLAGS comes before the events of its cycle (04 R70). -/
def Group.setSysreg (n : Nat) (x : DWord) (g : Group) : Group :=
  if n = 0x004 then { g with frm := x.setWidth 2 }
  else if n = 0x005 then { g with trapnf := x.setWidth 4 }
  else if n = 0x006 then { g with fpflags := (g.fpflags &&& ~~~(x.setWidth 6)) ||| g.fpnow }
  else if 0x008 ≤ n ∧ n ≤ 0x00E then { g with obs := g.obs.ins (n - 7) (x.setWidth 7) }
  else g

/-- SRSR (06 R108, R109): a read of FPFLAGS waits for every earlier QMV of the slot; the value includes the SRSR's own
charge. -/
def execSrsr (d n : Nat) (s : State) : Host.Outcome State Fault Refusal :=
  .next (guarded
    [(!sysregAssigned n, State.illegal 4 8),
     (decide (n = 6) && s.me.ops.any Op.isQmv, fun s => s)]
    (fun s => ((s.charge 1).setS d ((s.charge 1).sysreg n)).advance 4) s)

/-- SWSR (06 R108, R110). -/
def execSwsr (n a : Nat) (s : State) : Host.Outcome State Fault Refusal :=
  .next (guarded [(!sysregAssigned n, State.illegal 4 8)]
    (fun s => ((s.charge 1).modMe (Group.setSysreg n (s.sreg a))).advance 4) s)

/-- SADR (06 R111): the address of the instruction plus s[a] plus twice the immediate, or plus s[b]. -/
def execSadr (d a : Nat) (x : SSrc) (s : State) : Host.Outcome State Fault Refusal :=
  .next (((s.charge 1).setS d (s.ctx.pc + s.sreg a +
    (match x with
     | .reg _ => s.src x
     | .imm _ => s.src x + s.src x))).advance 4)

end Sys2Proof.Machine
end

