-- ==== Sys2Proof/Machine/MemOps.lean ====
section
/-! DEFINITION. Issuing operations, and when an outstanding operation of a slot may be performed (02 R24, R25, 09 R163,
R167, R171, 23 R355). -/

namespace Sys2Proof.Machine

/-! ## Issuing -/

/-- The operation that the instruction at hand issues on a flag. -/
def State.mkOp (s : State) (flag : Option Nat) (obs : BitVec 7) (k : OpKind) : Op :=
  ⟨s.serial, s.cur.i, flag, obs, s.ctx.pc, s.ctx.clause, s.ctx.idx, k, [], false⟩

/-- The flags a clause names (02 R20). -/
def State.flagA (s : State) : Option Nat := flagOf s.ctx.setA
def State.flagB (s : State) : Option Nat := flagOf s.ctx.setB

/-- Counting one more on the flag would reach 64 (02 R25). -/
def State.full (s : State) (f : Option Nat) : Bool := s.me.flagFull f

/-- The instruction's operation counts on its flag and becomes outstanding (02 R24). -/
def State.issueOp (o : Op) (s : State) : State := (s.modMe (fun g => (g.raiseFlag o.flag).startOp o)).fresh

/-! ## What an operation touches -/

/-- A range of bytes at a place. -/
structure Span where
  loc : Nat
  n : Nat
deriving DecidableEq, Repr

/-- Two ranges share a byte. -/
def Span.meets (a b : Span) : Bool := decide (a.loc < b.loc + b.n) && decide (b.loc < a.loc + a.n)

/-- The place of one access: as translated at issue, or by checks 4 and 5 now. -/
def State.accLoc (s : State) (g : SlotRef) (wr : Bool) (n : Nat) (a : LaneAcc) : Option Nat :=
  match a.loc with
  | some l => some l
  | none =>
    match s.check45 g a.lane a.va n wr with
    | .ok l _ => some l
    | _ => none

/-- The bytes an access list touches. -/
def State.accSpans (s : State) (g : SlotRef) (wr : Bool) (n : Nat) (acc : List LaneAcc) : List Span :=
  acc.filterMap (fun a => (s.accLoc g wr n a).map (fun l => ⟨l, n⟩))

/-- Bytes of an atomic's operand: 8 for the 64-bit forms (20 R309). -/
def AtomKind.size : AtomKind → Nat
  | .add64 | .xchg64 | .cas64 | .min64n => 8
  | _ => 4

/-- Bytes that an atomic touches: AADDL reads its limit behind its word (20 R309). -/
def AtomKind.extent : AtomKind → Nat
  | .addl => 8
  | k => k.size

/-- The bytes an outstanding operation still touches. -/
def State.opSpans (s : State) (g : SlotRef) (o : Op) : List Span :=
  match o.kind with
  | .load k _ acc => s.accSpans g false k.size acc
  | .loadS n _ acc => s.accSpans g false n [acc]
  | .store n acc _ _ => s.accSpans g true n acc
  | .zline acc _ => s.accSpans g true 64 [acc]
  | .atomic k _ acc _ => s.accSpans g true k.extent acc
  | .barrier _ b _ _ _ => [⟨(s.team (s.grp g).team).barLoc b, 8⟩]
  | _ => []

/-- An M-class access: what FENCE, acquire and release order (09 R167, R171). -/
def Op.isM (o : Op) : Bool :=
  match o.kind with
  | .load _ _ _ => true
  | .loadS _ _ _ => true
  | .ldc _ _ => true
  | .store _ _ _ _ => true
  | .zline _ _ => true
  | .atomic _ _ _ _ => true
  | .barrier _ _ _ _ _ => true
  | _ => false

/-- A store or ZLINE: what STDRAIN waits for (09 R172). -/
def Op.isStore (o : Op) : Bool :=
  match o.kind with
  | .store _ _ _ _ => true
  | .zline _ _ => true
  | _ => false

/-- A load of registers. -/
def Op.isLoad (o : Op) : Bool :=
  match o.kind with
  | .load _ _ _ => true
  | .loadS _ _ _ => true
  | _ => false

/-- A load or atomic with a non-empty observer set is an acquire (09 R167, 20 R314). -/
def Op.isAcquire (o : Op) : Bool :=
  decide (o.obs ≠ 0) &&
    (match o.kind with
     | .load _ _ _ => true
     | .loadS _ _ _ => true
     | .atomic _ _ _ _ => true
     | _ => false)

/-- A store, atomic or barrier operation with a non-empty observer set is a release (09 R167, 10 R193). -/
def Op.isRelease (o : Op) : Bool :=
  decide (o.obs ≠ 0) &&
    (match o.kind with
     | .store _ _ _ _ => true
     | .atomic _ _ _ _ => true
     | .barrier _ _ _ _ _ => true
     | _ => false)

/-- Two operations share a byte. -/
def State.opsMeet (s : State) (g : SlotRef) (a b : Op) : Bool :=
  (s.opSpans g a).any (fun x => (s.opSpans g b).any (fun y => x.meets y))

/-- The occupant is no combiner wave. -/
def Group.isPlain (g : Group) : Bool :=
  match g.kind with
  | .combiner _ => false
  | _ => true

/-- An engine operation owns a physical line: it has not written it yet (23 R357). -/
def State.lineOwned (s : State) (line : Nat) : Bool := s.groups.any (fun e => e.2.ops.any (fun o => o.own.elem line))

/-- An engine owns a line of a range. -/
def State.spanOwned (s : State) (x : Span) : Bool :=
  isPhys x.loc &&
    (List.range (lineOf (x.loc + x.n - 1) - lineOf x.loc + 1)).any (fun i => s.lineOwned (lineOf x.loc + i))

/-- The sets of two accesses of one slot both reach the slot itself: as strong accesses they cover each other (23 R350). -/
def Op.covers (a b : Op) : Bool := decide (a.obs &&& 7 ≠ 0) && decide (b.obs &&& 7 ≠ 0)

/-- An outstanding operation may be performed (09 R163, R167): no earlier acquire of the slot is incomplete; a release
waits for every earlier access, and an acquire for every earlier release that covers it (23 R354); accesses to the same byte
keep issue order, but a load may return an earlier posted store's bytes; no combiner wave holds its lines (20 R324); and a
store or atomic waits for an engine that owns its line (23 R357). Of the earlier accesses are those that a lane trap
holds. -/
def State.mayPerform (s : State) (g : SlotRef) (o : Op) : Bool :=
  let before := (s.grp g).earlier o.id
  !o.gate &&
  !(before.any (fun p => p.isM && p.isAcquire)) &&
  !(o.isRelease && before.any Op.isM) &&
  !(o.isAcquire && before.any (fun p => p.isRelease && p.covers o)) &&
  !(before.any (fun p => p.isM && !(o.isLoad && p.isStore) && s.opsMeet g p o)) &&
  !((s.opSpans g o).any (fun x => s.waveHolds g x.loc x.n)) &&
  (o.isLoad || !(s.grp g).isPlain || !(s.opSpans g o).any s.spanOwned)

/-- Bytes that a posted store will write, with the higher lane's last (09 R165). -/
def State.postedBytes (s : State) (g : SlotRef) (o : Op) : List (Span × Nat) :=
  match o.kind with
  | .store n acc _ _ =>
    acc.filterMap (fun a =>
      (s.accLoc g true n a).map (fun l =>
        (⟨l, n⟩, (List.range a.data.length).foldl (fun x i => x + (a.data.getD i 0).toNat * 2 ^ (32 * i)) 0)))
  | .zline acc _ => (s.accSpans g true 64 [acc]).map (fun x => (x, 0))
  | _ => []

/-- A byte that the combiner wave in a slot has written and holds (20 R324). -/
def State.heldByte (s : State) (g : SlotRef) (a : Nat) : Option Byte :=
  ((s.waveObj g).bind s.mordant.look).bind (fun m => SMap.look m.held a)

/-- A byte of memory as a slot's occupant sees it: a combiner wave sees its own held writes (20 R324). -/
def State.baseByte (s : State) (g : SlotRef) (a : Nat) : Byte := (s.heldByte g a).getD (s.byte a)

/-- Byte p of memory as an access of a slot to the n bytes at a reads it (23 R353): the access is single-copy atomic (23
R351). A combiner wave meets the newest bytes of its extent at the home slice (20 R324). -/
def State.viewByte (s : State) (g : SlotRef) (a n p : Nat) : Byte :=
  (s.heldByte g p).getD (pastByte (s.slotUnseen g a n p) (s.byte p) (s.histAt p))

/-- A byte as the slot reads it: the latest posted store of the slot before the operation, else memory (09 R163). -/
def State.slotByte (s : State) (g : SlotRef) (before : List Op) (a n p : Nat) : Byte :=
  ((before.filter Op.isStore).flatMap (s.postedBytes g)).foldl
    (fun b e => if e.1.loc ≤ p ∧ p < e.1.loc + e.1.n then byteOf e.2 (p - e.1.loc) else b) (s.viewByte g a n p)

/-- Change an outstanding operation's kind, or complete it. -/
def State.opStep (g : SlotRef) (o : Op) (k : Option OpKind) (s : State) : State :=
  match k with
  | some k => s.modGrp g (Group.setOpKind o.id k)
  | none => s.modGrp g (Group.finishOp o)

/-! ## Charges of lines (09 R173) -/

/-- Charge a load's line: 64 bytes where the L1 does not hold it; where it may, the part decides (log 8). A combiner wave
is charged every line (20 R324). -/
def State.loadLine (line : Nat) (s : State) : State :=
  let c := s.cur.g.coreRef
  let held := (s.core c).l1.elem line
  let fill := !held || Config.freeBit s.free
  match s.me.kind with
  | .combiner _ => (s.recallLine (some (c.die * 8 + c.cluster)) line).chargeAt s.cur.g 0 64
  | _ =>
    let s1 := (if held then s.draw else s).count c (if fill then 6 else 5) 1
    if fill then
      ((s1.modCore c (fun k => { k with l1 := if k.l1.elem line then k.l1 else line :: k.l1 })).recallLine
        (some (c.die * 8 + c.cluster)) line).chargeAt s.cur.g 0 64
    else s1

/-- The 16-byte scratchpad chunks that accesses name, as places over 16 (10 R184). -/
def bankChunks (xs : List Span) : List Nat :=
  (xs.flatMap (fun x =>
    if isData x.loc && !isPhys x.loc then (List.range ((x.loc + x.n - 1) / 16 - x.loc / 16 + 1)).map (fun i => x.loc / 16 + i)
    else [])).eraseDups

/-- The bank cycles that a vector access takes on a core: the largest number of its chunks that lie in one bank (10 R184). -/
def bankCycles (chunks : List Nat) : Nat :=
  ((List.range 32).map (fun b => (chunks.filter (fun c => decide (c % 32 = b))).length)).foldl max 0

/-- The bank cycles of a vector access beyond its first are counted as conflict cycles on each core whose scratchpad it
reaches (10 R184, R200; log 109). -/
def State.countBanks (xs : List Span) (s : State) : State :=
  let cs := bankChunks xs
  (cs.map (fun c => (16 * c - 2 ^ 60) / 2 ^ 20)).eraseDups.foldl (fun s k =>
    let n := bankCycles (cs.filter (fun c => decide ((16 * c - 2 ^ 60) / 2 ^ 20 = k)))
    if n ≤ 1 then s else s.count (coreOfKey k) 9 (n - 1)) s

/-- The distinct physical lines of spans, in order. -/
def spanLines (xs : List Span) : List Nat :=
  (xs.flatMap (fun x =>
    if isPhys x.loc then (List.range (lineOf (x.loc + x.n - 1) - lineOf x.loc + 1)).map (fun i => lineOf x.loc + i)
    else [])).eraseDups

end Sys2Proof.Machine
end

