-- ==== Sys2Proof/Machine/Barriers.lean ====
section
/-! DEFINITION. Barrier instructions and their application (10 R189-R193). -/

namespace Sys2Proof.Machine

/-- Order of application within one cycle: init, drops, arrivals (10 R192). -/
def BarKind.rank : BarKind → Nat
  | .init => 0
  | .drop => 1
  | .arrive => 2
  | .sync => 2
  | .wait => 3

/-- The threads of an operation's active lanes. -/
def barThreads (gi : Nat) (lanes : Word) : List (Nat × Nat) := (lanesOf lanes).map (fun l => (gi, l))

/-- The effect of one operation on the word, before the test (10 R191). -/
def Bar.apply (k : BarKind) (gi : Nat) (lanes : Word) (arg : DWord) (b : Bar) : Bar :=
  match k with
  | .init => b.init (arg.toNat % 2 ^ 32)
  | .arrive => b.arrive (barThreads gi lanes)
  | .sync => b.arrive (barThreads gi lanes)
  | .drop => b.drop (barThreads gi lanes)
  | .wait => b

/-- The operation is applied: its result is written, its flag counts one less, and BARWAIT and BARSYNC learn the phase
they compare (10 R190, R193). -/
def State.barDone (r : OpRef) (o : Op) (phase : Nat) (s : State) : State :=
  match o.kind with
  | .barrier k _ _ t arg =>
    let s1 := s.modGrp r.g (Group.finishOp o)
    let s2 :=
      match k with
      | .arrive | .sync | .drop => s1.modCtxAt ⟨r.g, o.ctx⟩ (Context.setS t (BitVec.ofNat 64 phase))
      | _ => s1
    let cmp := if k = .wait then arg.toNat % 256 else phase
    match k with
    | .wait | .sync =>
      s2.modCtxAt ⟨r.g, o.ctx⟩ (fun c =>
        match c.stop with
        | .barrier n b _ => if n = o.id then { c with stop := .barrier n b (some cmp) } else c
        | _ => c)
    | _ => s2
  | _ => s

/-- A group is absent: it is in a group handler or waits for one, holds a lane trap, is parked as replayable, or is saved
under a budget. It neither arrives at nor drops from a barrier (24 R367). -/
def State.absent (s : State) (g : SlotRef) : Bool :=
  let h := s.grp g
  h.handler.isSome || !h.waiting.isEmpty || !h.held.isEmpty || s.absentSaved g ||
    h.ctxs.any (fun c =>
      match c.2.stop with
      | .replay _ => true
      | _ => false)

/-- An implicit drop may reach its word: the slot's earlier barrier operations have been applied, and its group is not absent
(10 R192, 24 R367; log 19). -/
def State.dropDue (s : State) (d : PendDrop) : Bool :=
  d.ops.all (fun n => ((s.grp d.g).findOp n).isNone) && !s.absent d.g

/-- The implicit drops on barrier k of a team that may reach it. -/
def State.dropsOn (s : State) (t k : Nat) : List PendDrop := (s.team t).drops.filter (fun d => decide (d.bar = k) && s.dropDue d)

def Op.barKind (o : Op) : BarKind :=
  match o.kind with
  | .barrier k _ _ _ _ => k
  | _ => .wait

/-- The set that a barrier operation releases to: a BARWAIT releases nothing (10 R193). -/
def Op.barSet (o : Op) : BitVec 7 := if o.barKind = .wait then 0 else o.obs

/-- One operation stands before another: by rank, then by core and slot (10 R192). -/
def barBefore (a b : OpRef × Op) : Bool :=
  decide (a.2.barKind.rank < b.2.barKind.rank) ||
    (decide (a.2.barKind.rank = b.2.barKind.rank) && decide (a.1.g.key < b.1.g.key))

/-- Insert an operation where it stands. -/
def insBar (x : OpRef × Op) : List (OpRef × Op) → List (OpRef × Op)
  | [] => [x]
  | y :: r => if barBefore x y then x :: y :: r else y :: insBar x r

/-- Apply what reaches barrier k of a team in one cycle (10 R192): inits, then drops, explicit and implicit, then
arrivals; the test is made once, unless only waits have come (log 102); then stalls end. -/
def State.barApply (t k : Nat) (ops : List (OpRef × Op)) (s : State) : State :=
  let sorted := ops.foldl (fun l x => insBar x l) []
  let run : Bar → List (OpRef × Op) → Bar := fun b xs =>
    xs.foldl (fun b e =>
      match e.2.kind with
      | .barrier kd _ lanes _ arg => b.apply kd (s.grp e.1.g).gi lanes arg
      | _ => b) b
  let ds := s.dropsOn t k
  let b1 := run (s.bar t k) (sorted.filter (fun e => decide (e.2.barKind = .init)))
  let b2 := (run b1 (sorted.filter (fun e => decide (e.2.barKind ≠ .init) && decide (e.2.barKind.rank ≤ 1)))).drop
    (ds.map (fun d => (d.gi, d.lane)))
  let b3 := run b2 (sorted.filter (fun e => decide (2 ≤ e.2.barKind.rank)))
  let waits := sorted.all (fun e => decide (e.2.barKind = .wait)) && ds.isEmpty
  let s1 := (s.setBar t k (if waits then b3 else b3.test)).modTeam t (fun m =>
    { m with drops := m.drops.filter (fun d => !ds.elem d), tested := m.tested.ins k (s.tick + 1) })
  (sorted.foldl (fun s e => (s.releaseAt e.1.g e.2.barSet).barDone e.1 e.2 b3.w.phase) s1).unstall t k

/-- What reached barrier k of a team in this cycle has been applied. -/
def State.testedNow (s : State) (t k : Nat) : Bool := decide ((s.team t).tested.get 0 k = s.tick + 1)

/-- An operation that an absent group does not make: an arrival or a drop (24 R367). -/
def BarKind.withheld : BarKind → Bool
  | .arrive => true
  | .sync => true
  | .drop => true
  | .init => false
  | .wait => false

/-- The outstanding operation on barrier k that a reference names, in a resident group of the team; an absent group does not
arrive or drop (24 R367). -/
def State.barOp (s : State) (t k : Nat) (r : OpRef) : Option (OpRef × Op) :=
  let g := s.grp r.g
  match g.findOp r.op with
  | none => none
  | some o =>
    match o.kind with
    | .barrier kd b _ _ _ =>
      if b = k ∧ g.team = t ∧ s.mayPerform r.g o ∧ !(kd.withheld && s.absent r.g) then some (r, o) else none
    | _ => none

/-- Implicit drops that no operation of the cycle took along are applied at its end (10 R191, R192). -/
def State.endDrops (s : State) : State :=
  s.teams.foldl (fun s e =>
    (e.2.drops.map PendDrop.bar).eraseDups.foldl (fun s k =>
      if s.testedNow e.1 k ∨ s.dropsOn e.1 k = [] then s else s.barApply e.1 k []) s) s

/-- The barrier an address names, or none: it lies in SPW at 8k with k below the team's count (10 R190). -/
def Team.barAt (m : Team) (a : DWord) : Option Nat :=
  if inSpw a ∧ spwOffset a % 8 = 0 ∧ spwOffset a / 8 < m.barriers then some (spwOffset a / 8) else none

/-- A group ADDR trap with a subcode. -/
def State.addrTrap (sub : Nat) (a : DWord) (s : State) : State := s.raise 4 causeAddr (BitVec.ofNat 64 sub) a

/-- A group MISALIGN trap with a subcode. -/
def State.misTrap (sub : Nat) (a : DWord) (s : State) : State := s.raise 4 causeMisalign (BitVec.ofNat 64 sub) a

/-- A barrier instruction (10 R190): its address is checked, it is charged, and its operation is issued; BARWAIT and
BARSYNC stop their context until it is applied and the phase differs. -/
def barOp (k : BarKind) (st imm b obs : Nat) (s : State) : State :=
  let a := s.saddr b imm 8
  guarded
    [(s.full s.flagA, State.illegal 4 5),
     (decide (2 ^ 64 ≤ a.toNat + 7) || !canonical a || !canonical (a + 7), State.addrTrap 1 a),
     (decide (a.toNat % 8 ≠ 0), State.misTrap 1 a),
     ((s.myTeam.barAt a).isNone || decide (s.me.kind ≠ .group), State.addrTrap 2 a)]
    (fun s =>
      let n := (s.myTeam.barAt a).getD 0
      let o := s.mkOp s.flagA (s.obsSet obs) (.barrier k n s.active st (s.sreg st))
      let s1 := ((s.charge 1).issueOp o).advance 4
      match k with
      | .wait | .sync => s1.modCtx (fun c => { c with stop := .barrier o.id n none, stall := s.obsSet obs })
      | _ => s1) s

def execBarinit (st imm b obs : Nat) (s : State) : Host.Outcome State Fault Refusal := .next (barOp .init st imm b obs s)
def execBarar (st imm b obs : Nat) (s : State) : Host.Outcome State Fault Refusal := .next (barOp .arrive st imm b obs s)
def execBarwait (st imm b obs : Nat) (s : State) : Host.Outcome State Fault Refusal := .next (barOp .wait st imm b obs s)
def execBarsync (st imm b obs : Nat) (s : State) : Host.Outcome State Fault Refusal := .next (barOp .sync st imm b obs s)
def execBardrop (st imm b obs : Nat) (s : State) : Host.Outcome State Fault Refusal := .next (barOp .drop st imm b obs s)

end Sys2Proof.Machine
end

