-- ==== Sys2Proof/Machine/Image.lean ====
section
/-! DEFINITION. The context save area (05 R91, 24 R368-R370): where a group's block lies, how its state stands in it, and what
a restore reads and checks. Where R369 lists a part's fields and gives no offsets within it, they stand in the order of
the list (log 107). -/

namespace Sys2Proof.Machine

/-! ## Where blocks lie -/

/-- The physical address of a block of the save pool. -/
def State.blockAddr (s : State) (b : Nat) : Option Nat :=
  (s.io.blocks.look b).map (fun e => s.io.sapbase.toNat + 4096 * e.1)

/-- The address of a group's block. -/
def State.groupBlock (s : State) (t gi : Nat) : Option Nat :=
  (s.blockAddr (teamBlock t)).map (fun a => a + 0xB100 + 55040 * gi)

/-- The block of the group in a slot; a wave has none. -/
def State.ownBlock (s : State) (g : SlotRef) : Option Nat :=
  match (s.grp g).kind with
  | .group => s.groupBlock (s.grp g).team (s.grp g).gi
  | _ => none

/-! ## What stands in them -/

/-- A field of an image: its address, its bytes, its value. -/
structure ImageCell where
  a : Nat
  n : Nat
  x : Nat
deriving DecidableEq, Repr

/-- Write an image's cells. -/
def State.writeCells (cs : List ImageCell) (s : State) : State := cs.foldl (fun s c => s.store none c.a c.n c.x) s

/-- 64 scalar registers from an address. -/
def sregCells (a : Nat) (f : Nat → DWord) : List ImageCell := (List.range 64).map (fun r => ⟨a + 8 * r, 8, (f r).toNat⟩)

/-- n lane registers from an address, of some lanes: register r, lane L at a + 128 r + 4 L. -/
def laneCells (a : Nat) (rs : List Nat) (lanes : Word) (f : Nat → Nat → Word) : List ImageCell :=
  rs.flatMap (fun r => (lanesOf lanes).map (fun l => ⟨a + 128 * r + 4 * l, 4, (f r l).toNat⟩))

/-- A dormant or parked record (05 R91). -/
def Record.cells (a : Nat) (r : Record) : List ImageCell :=
  sregCells a (fun k => r.s.get 0 k) ++
    [⟨a + 512, 8, r.pc.toNat⟩, ⟨a + 520, 8, r.contpc.toNat⟩, ⟨a + 528, 8, r.map.toNat⟩, ⟨a + 536, 4, r.mask.toNat⟩,
     ⟨a + 540, 1, r.token.getD 0⟩, ⟨a + 541, 1, if r.token.isSome then 1 else 0⟩, ⟨a + 542, 2, 0⟩]

/-- The address of record j of a group's block. -/
def recordAt (a j : Nat) : Nat := a + 0x1500 + 544 * j

/-- The records of a group, oldest first. -/
def Group.recordCells (a : Nat) (g : Group) : List ImageCell :=
  g.records.zipIdx.flatMap (fun x => x.1.cells (recordAt a x.2))

/-- The code of a stop in a context frame (log 107). -/
def Stop.code : Stop → Nat
  | .running => 0
  | .merge _ => 1
  | .sleep _ => 2
  | .barrier _ _ _ => 3
  | .grow _ _ _ => 4
  | .shrink _ => 5
  | .mclaim _ _ _ _ => 6
  | .join _ => 7
  | .stdrain => 8
  | .baton => 9
  | .reorder _ _ => 10
  | .laneTrap => 11
  | .handlerWait => 12
  | .replay _ => 13
  | .saved _ => 14
  | .graceSaved _ => 15
  | .entry => 16

/-- What a stop is about, as a number in a context frame (log 107). -/
def Stop.arg : Stop → Nat
  | .barrier _ k p => k + 256 * p.getD 0
  | .grow d n _ => d + 256 * n
  | .mclaim acc a n _ => (if acc then 1 else 0) + 256 * a + 65536 * n
  | .reorder a _ => a.k + 256 * a.p + 256 ^ 2 * a.n + 256 ^ 3 * a.d + (if a.align then 256 ^ 4 else 0)
  | .saved map => if map.isSome then 1 else 0
  | .graceSaved was => was.arg
  | _ => 0

/-- Why a context that GRACE saved did not issue before. -/
def Stop.inner : Stop → Stop
  | .graceSaved was => was
  | x => x

/-- The model's own number in a stop: of its operation, or of its place in an order. -/
def Stop.number : Stop → Nat
  | .barrier n _ _ => n
  | .grow _ _ n => n
  | .mclaim _ _ _ n => n
  | .join n => n
  | _ => 0

/-- The stop of a code at which a context may be saved, with what it is about, a MERGE token and a continuation map; the model's
own number is as it was, and so is a stop of another code (log 107). -/
def Stop.ofCode (old : Stop) (token : Nat) (map : DWord) (arg : Nat) : Nat → Stop
  | 0 => .running
  | 1 => .merge token
  | 3 => .barrier old.number (arg % 256) (some (arg / 256 % 256))
  | 4 => .grow (arg % 256) (arg / 256) old.number
  | 6 => .mclaim (decide (arg % 2 = 1)) (arg / 256 % 256) (arg / 65536) old.number
  | 7 => .join old.number
  | 9 => .baton
  | 10 => .reorder ⟨arg % 256, arg / 256 % 256, arg / 256 ^ 2 % 256, arg / 256 ^ 3 % 256, decide (arg / 256 ^ 4 % 2 = 1)⟩ true
  | 14 => .saved (if arg = 1 then some map else none)
  | 16 => .entry
  | _ => old

/-- The MERGE token that a context waits at. -/
def Context.token (c : Context) : Option Nat :=
  match c.stop with
  | .merge k => some k
  | _ => none

/-- The address of the frame of context i. -/
def frameAt (a i : Nat) : Nat := a + 0x100 + 576 * i

/-- The header that a context stands at, or the header of the clause that it stands in. -/
def Context.home (c : Context) : DWord := if c.due then c.pc else c.clause

/-- The stop kind in a context's frame: its code, the code of the stop before GRACE, and what it is about (log 107). -/
def Context.stopCells (a : Nat) (c : Context) : List ImageCell :=
  [⟨a + 544, 1, c.token.getD 0⟩, ⟨a + 545, 1, c.stop.code⟩, ⟨a + 547, 1, c.stop.inner.code⟩, ⟨a + 560, 8, c.stop.arg⟩]

/-- A context's frame: its scalar registers and 64 bytes of control state. Its PC is a header (24 R370): that of its clause where it
stands behind one, with the distance beside it (log 107). -/
def Context.cells (a : Nat) (c : Context) : List ImageCell :=
  sregCells a c.sreg ++
    [⟨a + 512, 8, c.home.toNat⟩, ⟨a + 520, 8, c.p0.toNat⟩, ⟨a + 528, 8, c.contpc.toNat⟩, ⟨a + 536, 8, c.map.toNat⟩,
     ⟨a + 546, 1, c.idx⟩, ⟨a + 548, 2, (c.pc - c.home).toNat⟩, ⟨a + 552, 8, c.clause.toNat⟩] ++ c.stopCells a

/-- An operation that a save carries: LWAIT, CHSEND or CHRECV (02 R27), and the hold of a JOIN, which counts as a
barrier stall (16 R281; log 24). -/
def Op.carried (o : Op) : Bool :=
  match o.kind with
  | .lwait _ => true
  | .join _ => true
  | .chsend _ _ _ => true
  | .chrecv _ _ _ => true
  | _ => false

/-- Carried operations of a kind (02 R27). -/
def Group.countOps (f : OpKind → Bool) (g : Group) : Nat := (g.ops.filter (fun o => f o.kind)).length

/-- The slot state of a group block. -/
def Group.stateCells (a : Nat) (baton : Bool) (g : Group) : List ImageCell :=
  [⟨a, 1, g.frm.toNat⟩, ⟨a + 1, 1, g.trapnf.toNat⟩, ⟨a + 2, 1, g.fpflags.toNat⟩] ++
    (List.range 7).map (fun i => ⟨a + 3 + i, 1, (g.obs.get 0 (i + 1)).toNat⟩) ++
    [⟨a + 10, 2, g.regalloc⟩, ⟨a + 16, 8, g.estatus.toNat⟩, ⟨a + 24, 8, g.trapCause.toNat⟩, ⟨a + 32, 8, g.trapAddr.toNat⟩,
     ⟨a + 40, 8, g.trapInfo.toNat⟩, ⟨a + 48, 8, g.trapPc.toNat⟩] ++
    (List.range 8).map (fun i => ⟨a + 56 + 8 * i, 8, (g.bank.get 0 (56 + i)).toNat⟩) ++
    [⟨a + 120, 1, if baton then 1 else 0⟩, ⟨a + 121, 1, g.ctxs.foldl (fun x e => x + 2 ^ e.1) 0⟩, ⟨a + 122, 1, g.records.length⟩]

/-- The number of a carried operation's kind in an image; 0 for another (log 107). -/
def OpKind.carryCode : OpKind → Nat
  | .lwait _ => 1
  | .chsend _ _ _ => 2
  | .chrecv _ _ _ => 3
  | _ => 0

/-- A carried operation in an image: its kind, its flag, 255 for none, and what it waits for: the pool entry of the grid, or
the capability with the register that receives (24 R369; log 107). -/
def State.carryWord (s : State) (o : Op) : Nat :=
  o.kind.carryCode + 256 * o.flag.getD 255 + 65536 *
    (match o.kind with
     | .lwait k => ((s.task k).pool.map (fun e => 4096 * e.1 + e.2)).getD 0
     | .chsend c _ _ => c
     | .chrecv c d _ => c + 64 * d
     | _ => 0)

/-- The flag counts of a group block, and the operations that its save carries: how many of each kind, and the oldest 27 of
them (24 R369; log 107). -/
def State.carryCells (s : State) (a : Nat) (g : Group) : List ImageCell :=
  (List.range 12).map (fun f => ⟨a + 124 + f, 1, (g.flag f).count⟩) ++
    (List.range 3).map (fun i => ⟨a + 136 + 4 * i, 4, g.countOps (fun k => decide (k.carryCode = i + 1))⟩) ++
    ((g.ops.filter (fun o => decide (o.kind.carryCode ≠ 0))).take 27).zipIdx.map (fun x => ⟨a + 148 + 4 * x.2, 4, s.carryWord x.1⟩)

/-- The live lanes of p0 and the predicates, of some lanes; the other lanes keep what stands there. -/
def State.predCells (s : State) (a : Nat) (lanes : Word) (g : Group) : List ImageCell :=
  (List.range 64).map (fun k =>
    let old := BitVec.ofNat 32 (s.readN (a + 0xA00 + 4 * k) 4)
    let x := if k = 0 then g.live else g.p.get 0 k
    ⟨a + 0xA00 + 4 * k, 4, ((old &&& ~~~lanes) ||| (x &&& lanes)).toNat⟩)

/-- A whole group (24 R369). -/
def State.groupCells (s : State) (a : Nat) (baton : Bool) (g : Group) : List ImageCell :=
  let all : Word := 0xFFFFFFFF
  g.stateCells a baton ++ s.carryCells a g ++ g.ctxs.flatMap (fun e => e.2.cells (frameAt a e.1)) ++ s.predCells a all g ++
    laneCells (a + 0xB00) (List.range 4) all g.qreg ++ laneCells (a + 0xD00) (List.range 16) all g.oreg ++
    g.recordCells a ++ laneCells (a + 0x5700) (List.range g.regalloc) all g.vreg

/-- A context that CONT or YIELD saves, with the registers that its map keeps (06 R121, 19 R299). -/
def State.contextCells (s : State) (a i : Nat) (kept : Nat → Bool) (g : Group) : List ImageCell :=
  let lanes := (g.ctx i).p0
  (g.ctx i).cells (frameAt a i) ++ s.predCells a lanes g ++ laneCells (a + 0xD00) (List.range 16) lanes g.oreg ++
    laneCells (a + 0x5700) ((List.range g.regalloc).filter kept) lanes g.vreg

/-- The registers that a continuation map keeps; every one without a map (06 R119, R120). -/
def mapKeeps (map : Option DWord) (r : Nat) : Bool :=
  match map with
  | some m => m.getLsbD (r / 4)
  | none => true

/-! ## Reading back (24 R370) -/

/-- 64 scalar registers read back from an address. -/
def State.readSregs (s : State) (a : Nat) : SMap DWord :=
  (SMap.table 64 0 0 (fun r => BitVec.ofNat 64 (s.readN (a + 8 * r) 8))).del 0

/-- n bytes at an address as a bit vector. -/
def State.readBits (s : State) (w a n : Nat) : BitVec w := BitVec.ofNat w (s.readN a n)

/-- A record as it stands in the save area; who pushed it is not in the layout. -/
def State.readRecord (s : State) (a : Nat) (owner : Nat) : Record where
  s := s.readSregs a
  pc := s.readBits 64 (a + 512) 8
  contpc := s.readBits 64 (a + 520) 8
  map := s.readBits 64 (a + 528) 8
  mask := s.readBits 32 (a + 536) 4
  token := if s.readN (a + 541) 1 = 1 then some (s.readN (a + 540) 1) else none
  owner := owner

/-- The stop in a context's frame. -/
def State.readStop (s : State) (a : Nat) (map : DWord) (old : Stop) : Stop :=
  let of := Stop.ofCode old.inner (s.readN (a + 544) 1) map (s.readN (a + 560) 8)
  if s.readN (a + 545) 1 = 15 then .graceSaved (of (s.readN (a + 547) 1)) else of (s.readN (a + 545) 1)

/-- A context as its frame holds it; what the frame does not hold is as it was. -/
def State.readContext (s : State) (a : Nat) (c : Context) : Context :=
  let home := s.readBits 64 (a + 512) 8
  let past := s.readN (a + 548) 2
  let map := s.readBits 64 (a + 536) 8
  { c with
    s := s.readSregs a
    pc := home + BitVec.ofNat 64 past
    due := decide (past = 0)
    p0 := s.readBits 32 (a + 520) 4
    contpc := s.readBits 64 (a + 528) 8
    map := map
    idx := s.readN (a + 546) 1
    clause := if past = 0 then s.readBits 64 (a + 552) 8 else home
    stop := s.readStop a map c.stop }

/-- The task that a pool entry of an image names. -/
def State.entryTask (s : State) (n : Nat) : Option Nat := (s.die (n / 4096)).pool.look (n % 4096)

/-- A carried operation as its 4 bytes hold it; its data is as it was (24 R369; log 107). -/
def State.readCarry (s : State) (w : Nat) (o : Op) : Op :=
  if s.carryWord o = w then o
  else
    { o with
      flag := flagOf (w / 256 % 256)
      kind :=
        match w % 256, o.kind with
        | 1, k => ((s.entryTask (w / 65536)).map OpKind.lwait).getD k
        | 2, .chsend _ ws lanes => .chsend (w / 65536 % 64) ws lanes
        | 3, .chrecv _ _ lanes => .chrecv (w / 65536 % 64) (w / 65536 / 64) lanes
        | _, k => k }

/-- The place of a carried operation among those of an image; none for one that it does not hold. -/
def Group.carryPlace (g : Group) (o : Op) : Option Nat :=
  let cs := g.ops.filter (fun x => decide (x.kind.carryCode ≠ 0))
  if (cs.take 27).any (fun x => decide (x.id = o.id)) then some (cs.findIdx (fun x => decide (x.id = o.id))) else none

/-- The operations of a group as its block holds them. -/
def State.readCarries (s : State) (a : Nat) (g : Group) : List Op :=
  g.ops.map (fun o =>
    match g.carryPlace o with
    | some j => s.readCarry (s.readN (a + 148 + 4 * j) 4) o
    | none => o)

/-- The counts of carried operations in a block are those of its operations (24 R370; log 107). -/
def State.carryOk (s : State) (a : Nat) (g : Group) : Bool :=
  (List.range 3).all (fun i => decide (s.readN (a + 136 + 4 * i) 4 = g.countOps (fun k => decide (k.carryCode = i + 1))))

/-- A register file with some registers of some lanes read back from an address. -/
def State.readLanes (s : State) (a : Nat) (rs : List Nat) (lanes : Word) (m : SMap Word) : SMap Word :=
  rs.foldl (fun m r => (lanesOf lanes).foldl (fun m l => m.put 0 (laneKey r l) (s.readBits 32 (a + 128 * r + 4 * l) 4)) m) m

/-- The predicates of some lanes, read back. -/
def State.readPreds (s : State) (a : Nat) (lanes : Word) (g : Group) : Group :=
  (List.range 64).foldl (fun g k => if k = 0 then g else g.setP k lanes (s.readBits 32 (a + 0xA00 + 4 * k) 4)) g

/-- A group as its block holds it; what the block does not hold is as it was. -/
def State.readGroup (s : State) (a : Nat) (g : Group) : Group :=
  let all : Word := 0xFFFFFFFF
  let held := s.readN (a + 121) 1
  let regs := s.readN (a + 10) 2
  let h : Group :=
    { g with
      frm := s.readBits 2 a 1
      trapnf := s.readBits 4 (a + 1) 1
      fpflags := s.readBits 6 (a + 2) 1
      obs := (List.range 7).foldl (fun m i => m.put 0 (i + 1) (s.readBits 7 (a + 3 + i) 1)) []
      regalloc := regs
      estatus := s.readBits 64 (a + 16) 8
      trapCause := s.readBits 64 (a + 24) 8
      trapAddr := s.readBits 64 (a + 32) 8
      trapInfo := s.readBits 64 (a + 40) 8
      trapPc := s.readBits 64 (a + 48) 8
      bank := (List.range 8).foldl (fun m i => m.put 0 (56 + i) (s.readBits 64 (a + 56 + 8 * i) 8)) []
      ops := s.readCarries a g
      ctxs := (List.range 4).filterMap (fun i =>
        if held.testBit i then some (i, s.readContext (frameAt a i) (g.ctx i)) else none)
      records := (List.range (s.readN (a + 122) 1)).map (fun j =>
        s.readRecord (recordAt a j) ((g.records[j]?).map Record.owner |>.getD 0))
      flags := (List.range 12).foldl (fun m f => m.put ⟨0, none⟩ f { g.flag f with count := s.readN (a + 124 + f) 1 }) []
      q := s.readLanes (a + 0xB00) (List.range 4) all []
      o := s.readLanes (a + 0xD00) (List.range 16) all []
      v := s.readLanes (a + 0x5700) (List.range (min 256 regs)) all [] }
  s.readPreds a all h

/-- A context that CONT or YIELD saved, read back with its lanes; the registers that its map did not keep, and q, read 0 (06
R121). -/
def State.readSaved (s : State) (a i : Nat) (map : Option DWord) (g : Group) : Group :=
  let lanes := (g.ctx i).p0
  let kept := (List.range g.regalloc).filter (mapKeeps map)
  let h : Group :=
    { g.modCtx i (s.readContext (frameAt a i)) with
      o := s.readLanes (a + 0xD00) (List.range 16) lanes g.o
      v := s.readLanes (a + 0x5700) kept lanes g.v }
  s.readPreds a lanes h

/-- Lanes of contexts and records are disjoint and none is empty (24 R370). -/
def Group.masksOk (g : Group) : Bool :=
  let ms := g.ctxs.map (fun e => e.2.p0) ++ g.records.map Record.mask
  ms.all (fun m => decide (m ≠ 0)) &&
    decide ((ms.map countMask).foldl (· + ·) 0 = countMask (ms.foldl (· ||| ·) 0))

/-- The counts of a group lie within their limits (24 R370): one to four contexts, at most 31 records, a legal allocation,
and flags below 64. -/
def Group.countsOk (g : Group) : Bool :=
  decide (1 ≤ g.ctxs.length) && decide (g.ctxs.length ≤ 4) && decide (g.records.length ≤ 31) &&
    decide (8 ≤ g.regalloc) && decide (g.regalloc ≤ 256) && decide (g.regalloc % 8 = 0) && g.flags.all (fun f => decide (f.2.count < 64))

/-- The word at an address is a header that a slot may fetch, as far as its page can be read now. -/
def State.headerAt (s : State) (g : SlotRef) (a : DWord) : Bool :=
  match s.fetchFirst g a with
  | .half h => isHeader h
  | .moving _ => true
  | _ => false

/-- A restore's check of a group that stands in a slot (24 R370): its masks, its counts, and the pcs of the contexts that it has
read; of a whole group its records' pcs and the counts of its carried operations too. -/
def State.restorable (s : State) (g : SlotRef) (is : List Nat) (whole : Bool) : Bool :=
  let h := s.grp g
  h.masksOk && h.countsOk && is.all (fun i => s.headerAt g (h.ctx i).home) &&
    (!whole || (h.records.all (fun r => s.headerAt g r.pc) && (s.ownBlock g).all (fun a => s.carryOk a h)))

/-! ## Records (05 R91) -/

/-- The records of a group as its save area holds them. -/
def State.fetchRecords (g : SlotRef) (s : State) : State :=
  match s.ownBlock g with
  | none => s
  | some a =>
    s.modGrp g (fun h => { h with records := h.records.zipIdx.map (fun x => s.readRecord (recordAt a x.2) x.1.owner) })

/-- Write a group's records to its save area. -/
def State.storeRecords (g : SlotRef) (s : State) : State :=
  match s.ownBlock g with
  | none => s
  | some a => s.writeCells ((s.grp g).recordCells a)

/-- What reads, makes or takes records does so in the save area: they are read back, and written where they have changed (05
R91). -/
def withRecords (g : SlotRef) (eff : State → State) (s : State) : State :=
  let s1 := s.fetchRecords g
  let s2 := eff s1
  if (s2.grp g).records = (s1.grp g).records then s2 else s2.storeRecords g

/-! ## What changes in the save area while a group is away (02 R27) -/

/-- A context that GRACE saved. -/
def Context.isGrace (c : Context) : Bool :=
  match c.stop with
  | .graceSaved _ => true
  | _ => false

/-- GRACE has saved the group, and it has not been restored (19 R302). -/
def Group.isGrace (g : Group) : Bool := g.ctxs.any (fun e => e.2.isGrace)

/-- The groups whose state stands in the save area, with their team and index: kept as images, or saved by GRACE. -/
def State.awayGroups (s : State) : List (Nat × Nat × Group) :=
  s.teams.flatMap (fun e => e.2.slots.filterMap (fun x =>
    match x.2 with
    | .image h _ => some (e.1, x.1, h)
    | .at g => if (s.grp g).isGrace then some (e.1, x.1, s.grp g) else none
    | .retired => none))

/-- Groups that are away have changed since s0: operations that their save carries have completed, or holds of their contexts have
ended (02 R27, 19 R301). Their counts and stops in the save area follow. -/
def State.syncAway (s0 s : State) : State :=
  (s.awayGroups.filter (fun x => !(s0.awayGroups.elem x))).foldl (fun s x =>
    match s.groupBlock x.1 x.2.1 with
    | some a => s.writeCells (s.carryCells a x.2.2 ++ x.2.2.ctxs.flatMap (fun e => e.2.stopCells (frameAt a e.1)))
    | none => s) s

end Sys2Proof.Machine
end

