-- ==== Sys2Proof/Machine/Branch.lean ====
section
/-! DEFINITION. The B class: branches, calls, SPLIT and MERGE, continuations, EXIT, traps and SLEEP (02 R16-R19, 05
R90-R95, 06 R112-R125). -/

namespace Sys2Proof.Machine

/-! ## Targets (02 R18, R19, 06 R113) -/

/-- The target of an off16 branch: the branch's own address plus twice the offset (02 R19). -/
def State.target (s : State) (t : BitVec 16) : DWord := s.ctx.pc + (t.signExtend 64 + t.signExtend 64)

/-- What the check of a target answers. -/
inductive Target where
  | ok
  | bad
  | lease
  /-- its page is in migration: the check waits (22 R345) -/
  | moving (page : Nat)
deriving DecidableEq, Repr

/-- Check a target: an even address whose word may be fetched and is a header (02 R18, 06 R113). An odd one is bad wherever
it lies (log 101). -/
def State.checkTarget (s : State) (t : DWord) : Target :=
  if t.toNat % 2 = 1 then .bad
  else
    match s.fetchFirst s.cur.g t with
    | .lease => .lease
    | .bad => .bad
    | .moving p => .moving p
    | .half h => if isHeader h then .ok else .bad

/-- The context parks as replayable until the move of a page ends: its instruction issues again (09 R164, 24 R367). -/
def State.park (page : Nat) (s : State) : State := s.modCtx (fun c => { c with stop := .replay page })

/-- Go to a checked target, or trap BADTARGET, or end the task with LEASE; a failed check has no effect (06 R113), and a
target on a page in migration is checked again after the move (22 R345). -/
def toTarget (t : DWord) (eff : Act) (s : State) : State :=
  match s.checkTarget t with
  | .ok => eff s
  | .bad => s.raiseB causeBadTarget 0 t
  | .lease => s.endTaskAt s.cur causeLease 0 t
  | .moving p => s.park p

/-- The context continues at a header. -/
def Context.goto (t : DWord) (tick : Nat) (c : Context) : Context :=
  { c with pc := t, due := true, lastIssue := tick + 1 }

def State.goto (t : DWord) (s : State) : State := s.modCtx (Context.goto t s.tick)

/-- A conditional branch: its target is checked only when it is taken (06 R113, R114). -/
def condBranch (taken : Bool) (t : BitVec 16) (s : State) : State :=
  let a := s.target t
  if taken then toTarget a (fun s => (s.charge 1).goto a) s else (s.charge 1).advanceB

/-- The lanes of the lane set that have a predicate (06 R114). -/
def State.predIn (s : State) (k : Nat) : Word := s.me.pred s.ctx k &&& s.laneSet

def execBra (t : BitVec 16) (s : State) : Host.Outcome State Fault Refusal := .next (condBranch true t s)
def execBz (a : Nat) (t : BitVec 16) (s : State) : Host.Outcome State Fault Refusal :=
  .next (condBranch (decide (s.sreg a = 0)) t s)
def execBnz (a : Nat) (t : BitVec 16) (s : State) : Host.Outcome State Fault Refusal :=
  .next (condBranch (decide (s.sreg a ≠ 0)) t s)
def execBneg (a : Nat) (t : BitVec 16) (s : State) : Host.Outcome State Fault Refusal :=
  .next (condBranch (decide ((s.sreg a).toInt < 0)) t s)
def execBnneg (a : Nat) (t : BitVec 16) (s : State) : Host.Outcome State Fault Refusal :=
  .next (condBranch (decide (0 ≤ (s.sreg a).toInt)) t s)
def execBall (p : Nat) (t : BitVec 16) (s : State) : Host.Outcome State Fault Refusal :=
  .next (condBranch (decide (s.predIn p = s.laneSet)) t s)
def execBany (p : Nat) (t : BitVec 16) (s : State) : Host.Outcome State Fault Refusal :=
  .next (condBranch (decide (s.predIn p ≠ 0)) t s)
def execBnone (p : Nat) (t : BitVec 16) (s : State) : Host.Outcome State Fault Refusal :=
  .next (condBranch (decide (s.predIn p = 0)) t s)

/-- LOOP: the counter falls by 1 and the branch is taken while the new value is not 0 (06 R115). With s0 the write is
discarded and the branch is always taken. -/
def execLoop (a : Nat) (t : BitVec 16) (s : State) : Host.Outcome State Fault Refusal :=
  let n := s.sreg a - 1
  let dst := s.target t
  .next (if n ≠ 0 then toTarget dst (fun s => ((s.charge 1).setS a n).goto dst) s
    else ((s.charge 1).setS a n).advanceB)

/-- The address of the halfword behind a call (02 R19). -/
def State.link (s : State) : DWord := s.ctx.pc + 4

def execCall (t : BitVec 16) (s : State) : Host.Outcome State Fault Refusal :=
  let a := s.target t
  .next (toTarget a (fun s => ((s.charge 1).setS 63 s.link).goto a) s)
def execCallr (r : Nat) (s : State) : Host.Outcome State Fault Refusal :=
  let a := s.sreg r
  .next (toTarget a (fun s => ((s.charge 1).setS 63 s.link).goto a) s)
def execJmpr (r : Nat) (s : State) : Host.Outcome State Fault Refusal :=
  let a := s.sreg r
  .next (toTarget a (fun s => (s.charge 1).goto a) s)
def execRet (s : State) : Host.Outcome State Fault Refusal :=
  let a := s.sreg 63
  .next (toTarget a (fun s => (s.charge 1).goto a) s)

/-! ## SPLIT (05 R90) -/

/-- The lowest context number that is free. -/
def Group.freeCtx (g : Group) : Nat := ((List.range 4).find? (fun i => (g.ctxs.look i).isNone)).getD 4

/-- The charge of one record written or read back: 9 units of 64 bytes (05 R91). -/
def recordBytes : Int := 576

/-- The record a context leaves (05 R91, R92). -/
def Context.toRecord (c : Context) (mask : Word) (pc : DWord) (token : Option Nat) (owner : Nat) : Record :=
  ⟨c.s, pc, c.contpc, c.map, mask, token, owner⟩

/-- A context runs from a record (05 R92). -/
def Record.toContext (r : Record) : Context :=
  { Context.empty with s := r.s, p0 := r.mask, pc := r.pc, contpc := r.contpc, map := r.map, due := true }

/-- SPLIT (05 R90): T continues at the target, F behind the SPLIT. -/
def splitAt (p : Nat) (t : DWord) (s : State) : State :=
  let c := s.ctx
  let tt := s.predIn p
  let ff := c.p0 &&& ~~~tt
  let fall := c.pc + 4
  let s1 := s.charge 1
  if ff = 0 then s1.goto t
  else if s.me.freeCtx < 4 then
    let keepT := decide (countMask ff < countMask tt)
    let frag : Context :=
      { c with p0 := if keepT then ff else tt, pc := if keepT then fall else t, due := true, lastIssue := 0 }
    let i := s.me.freeCtx
    (s1.modCtx (fun c => { c with p0 := if keepT then tt else ff })).goto (if keepT then t else fall)
      |>.modMe (fun g => { g with ctxs := g.ctxs.ins i frag })
  else
    withRecords s.cur.g (fun s1 =>
      ((s1.modMe (fun g => { g with records := g.records ++ [c.toRecord ff fall none s.cur.i] })).modCtx
        (fun c => { c with p0 := tt })).goto t |>.chargeAt s.cur.g 0 recordBytes) s1

/-- SPLIT p, label (06 R117): with T empty it falls through unchecked. -/
def execSplit (p : Nat) (t : BitVec 16) (s : State) : Host.Outcome State Fault Refusal :=
  let a := s.target t
  .next (if s.predIn p = 0 then (s.charge 1).advanceB else toTarget a (splitAt p a) s)

/-! ## MERGE and retirement (05 R92-R95) -/

/-- The most recently pushed dormant record of a context (05 R92). -/
def Group.dormantOf (g : Group) (i : Nat) : Option Record :=
  (g.records.filter (fun r => decide (r.token = none) && decide (r.owner = i))).getLast?

/-- A context's dormant record takes it over (05 R92); its read-back is charged. -/
def State.takeOver (c : CtxId) (r : Record) (s : State) : State :=
  (s.modGrp c.g (fun g =>
    { g with
      records := g.records.filter (fun x => x != r)
      ctxs := g.ctxs.ins c.i { r.toContext with lastIssue := (g.ctx c.i).lastIssue } })).chargeAt c.g 0 recordBytes

/-- Holders of live lanes: contexts and records, as (mask, token). -/
def Group.holders (g : Group) : List (Word × Option Nat) :=
  (g.ctxs.filterMap (fun e => if e.2.p0 = 0 then none else some (e.2.p0, e.2.token))) ++
    g.records.map (fun r => (r.mask, r.token))

/-- A holder at a merge, as the context it becomes: a waiting context, or a parked record. -/
def Group.waiters (g : Group) (k : Nat) : List (Option Nat × Context) :=
  (g.ctxs.filterMap (fun e => if e.2.token = some k ∧ e.2.p0 ≠ 0 then some (some e.1, e.2) else none)) ++
    (g.records.filter (fun r => r.token = some k)).map (fun r => (none, r.toContext))

/-- Reunite the holders of token k (05 R94): the union of their lanes, with the scalar state and the address of the
holder of the lowest lane. It takes the place of one of the contexts involved, or of the context `at_` that made the
resolving arrival, which is parked if it still waits elsewhere (log 20). Waiters of a yield-pending team still count as
saved; a lone arrival passes (log 39). -/
def State.reunite (g : SlotRef) (at_ : Nat) (k : Nat) (s : State) : State :=
  let h := s.grp g
  let ws := h.waiters k
  let lead := ws.foldl (fun (b : Option (Option Nat × Context)) w =>
    match b with
    | none => some w
    | some x => if lowest w.2.p0 < lowest x.2.p0 then some w else some x) none
  let mask := ws.foldl (fun m w => m ||| w.2.p0) (0 : Word)
  let parked := (h.records.filter (fun r => r.token = some k)).length
  let own := ws.filterMap (fun w => w.1)
  match lead with
  | none => s
  | some l =>
    let place := own.headD at_
    let displaced : List Record :=
      if own = [] then
        match h.ctxs.look at_ with
        | some c => if c.p0 = 0 then [] else [c.toRecord c.p0 c.pc c.token at_]
        | none => []
      else []
    (s.modGrp g (fun h =>
      { h with
        ctxs := (h.ctxs.keep (fun i => !(own.elem i))).ins place
          { l.2 with
            p0 := mask, due := true
            lastIssue := ((if own = [] then [at_] else own).map (fun i => (h.ctx i).lastIssue)).foldl max l.2.lastIssue
            stop := if parked = 0 ∧ own = [at_] then .running else s.onward g }
        records := h.records.filter (fun r => r.token ≠ some k) ++ displaced })).chargeAt g 0
      (recordBytes * (parked + displaced.length))

/-- Resolve merges after an arrival or a retirement, made by context `at_` (05 R93). -/
def State.resolve (g : SlotRef) (at_ : Nat) (s : State) : State :=
  let h := s.grp g
  let hs := h.holders
  match hs with
  | [] => s
  | [(_, none)] => s
  | [(_, some k)] => s.reunite g at_ k
  | _ =>
    if hs.all (fun e => e.2.isSome) then
      let ks := (hs.filterMap (fun e => e.2)).eraseDups
      (ks.filter (fun k => decide (2 ≤ (hs.filter (fun e => e.2 = some k)).length))).foldl
        (fun s k => s.reunite g at_ k) s
    else s

/-- The context that issues has arrived at MERGE k, its pc behind it: it parks where it has an unrun dormant record,
which takes it over, and otherwise waits (05 R92); then merges are resolved (05 R93). -/
def State.arriveMerge (k : Nat) (s : State) : State :=
  withRecords s.cur.g (fun s =>
    let s1 :=
      match s.me.dormantOf s.cur.i with
      | some r =>
        let c := s.ctx
        ((s.modMe (fun g => { g with records := g.records ++ [c.toRecord c.p0 c.pc (some k) s.cur.i] })).takeOver s.cur r
          ).chargeAt s.cur.g 0 recordBytes
      | none => s.modCtx (fun c => { c with stop := .merge k })
    s1.resolve s.cur.g s.cur.i) s

def execMerge (k : Nat) (s : State) : Host.Outcome State Fault Refusal :=
  .next (((s.charge 1).advanceB).arriveMerge k)

/-- A context that is gone from a running handler ends it (log 21). -/
def Group.dropHandler (i : Nat) (g : Group) : Group :=
  match g.handler with
  | some h => if h.ctx = i then { g with handler := none, bank := [] } else g
  | none => g

/-- The next context that waits for the handler is delivered (24 R365). -/
def State.nextWaiting (g : SlotRef) (s : State) : State :=
  match (s.grp g).waiting with
  | [] => s
  | (i, t) :: r =>
    (((s.modGrp g (fun h => { h with waiting := r })).modCtxAt ⟨g, i⟩ (fun c => { c with stop := .running })).deliver ⟨g, i⟩
      t).modGrp g (fun h => { h with trapped := h.trapped.del i })

/-- Retire lanes of a context (05 R95, 06 R122, 08 R148): they leave p0 and their threads drop from the team's
barriers; a context whose last lane retired is taken over by its dormant record or ends; merges are resolved; a group
without live lanes has ended. -/
def State.retire (c : CtxId) (lanes : Word) (s : State) : State :=
  let g := s.grp c.g
  let gone := (g.ctx c.i).p0 &&& lanes
  let left := (g.ctx c.i).p0 &&& ~~~lanes
  let s1 := s.modCtxAt c (fun x => { x with p0 := left })
  let s2 := if g.kind = .group then s1.dropThreads c.g g.team ((lanesOf gone).map (fun l => (g.gi, l))) else s1
  if left ≠ 0 then withRecords c.g (State.resolve c.g c.i) s2
  else
    let s3 := s2.modGrp c.g (fun g => (g.dropHandler c.i).dropHeld c.i)
    let s4 := withRecords c.g (fun s3 =>
      match (s3.grp c.g).dormantOf c.i with
      | some r => (s3.takeOver c r).resolve c.g c.i
      | none =>
        let s4 := (s3.resolve c.g c.i).modGrp c.g (fun g => if (g.ctx c.i).p0 = 0 then { g with ctxs := g.ctxs.del c.i } else g)
        if (s4.grp c.g).live = 0 then s4.modGrp c.g (fun g => { g with ended := true }) else s4) s3
    if g.handler.any (fun h => h.ctx = c.i) then s4.nextWaiting c.g else s4

/-! ## Drain points (02 R27, 09 R177) -/

/-- Every outstanding operation has completed, but for carried ones at a save, and for an instruction of context i that its
own group handler is to complete (02 R27; log 99). -/
def Group.drained (g : Group) (i : Nat) (save : Bool) : Bool :=
  g.ops.all (fun o => (save && o.carried) || (o.gate && decide (o.ctx = i)))

/-- The same where RETT ends a context, but for barrier operations, which reach their words once the handler has ended, and for
instructions of contexts that wait for the handler (24 R362, R365, R367). -/
def Group.drainedEnd (g : Group) (i : Nat) : Bool :=
  g.ops.all (fun o =>
    match o.kind with
    | .barrier _ _ _ _ _ => true
    | _ => o.gate && (decide (o.ctx = i) || g.waiting.any (fun w => decide (w.1 = o.ctx))))

/-- The oldest store-fault record of a slot (09 R177). -/
def State.storeFault (s : State) (g : SlotRef) : Option StoreFault :=
  (s.core g.coreRef).faults.find? (fun f => f.g = g)

/-- The trap of a store-fault record (09 R178). -/
def StoreFault.trap (f : StoreFault) : Trap :=
  ⟨causeStfault, BitVec.ofNat 64 (f.mask.toNat * 2 ^ 32 + f.idx * 256 + f.sub), f.addr, f.pc, f.clause, f.idx, false, false⟩

/-- Take a slot's oldest store-fault record out of the core's queue. -/
def State.dropFault (g : SlotRef) (s : State) : State :=
  s.modCore g.coreRef (fun c =>
    { c with faults := c.faults.eraseP (fun f => f.g = g) })

/-- The lowest flag that holds an error, with its trap (02 R26). -/
def Group.flagErr (g : Group) (fs : List Nat) : Option (Nat × Trap) :=
  (fs.filterMap (fun f => (g.flag f).err.map (fun t => (f, t)))).head?

/-- The context that issues runs the group handler of its slot. -/
def State.inHandler (s : State) : Bool := s.me.handler.any (fun h => h.ctx = s.cur.i)

/-- What is delivered at a drain point before it takes effect: the oldest store-fault record, then an error of an
untracked engine operation, then an error status; no record while the handler runs, and no engine error in the handler
itself (02 R27, 09 R177, 11 R217). -/
def State.atDrain (eff : Act) (s : State) : State :=
  match if s.me.handler.isSome then none else s.storeFault s.cur.g with
  | some f => (s.dropFault s.cur.g).raiseHere f.trap
  | none =>
    match if s.inHandler then none else s.me.engineErrs.head? with
    | some t => (s.modMe (fun g => { g with engineErrs := g.engineErrs.drop 1 })).deliverAt s.cur t
    | none =>
      match s.me.flagErr (List.range 12) with
      | some (f, t) => (s.modMe (Group.modFlag f (fun x => { x with err := none }))).deliverAt s.cur t
      | none => eff s

/-- Wait for the drain, then deliver what is pending, then take effect; while operations are outstanding the
instruction does not issue (02 R27). -/
def drainPoint (save : Bool) (eff : Act) (s : State) : State :=
  if s.me.drained s.cur.i save then s.atDrain eff else s

/-- EXIT (06 R122): PRIV in a wave; after the drain the whole lane set retires. -/
def execExit (s : State) : Host.Outcome State Fault Refusal :=
  .next (guarded [(decide (s.me.kind ≠ .group), fun s => s.raiseB causePriv 0 0)]
    (drainPoint false (fun s => (s.charge 1).advanceB.retire s.cur s.laneSet)) s)

/-! ## CONT, YIELD, TRAP, RETT, SLEEP -/

/-- Bytes of a context's save (19 R299): 2,880, and 512 for each group of four kept registers, or 128 for each
register. -/
def saveBytes (map : Option DWord) (regalloc : Nat) : Int :=
  match map with
  | some m => 2880 + 512 * (((List.range 64).filter (fun i => m.getLsbD i && decide (4 * i < regalloc))).length : Int)
  | none => 2880 + 128 * (regalloc : Int)

/-- A slot whose contexts are all saved, or count as saved, passes the baton and withdraws its request; an MMA or ATTN that
it holds issues again once the yield ends (11 R222, 19 R300, R301). -/
def State.parkBaton (g : SlotRef) (s : State) : State :=
  if (s.grp g).ctxs.all (fun e => e.2.stop.asSaved) ∧ !(s.team (s.grp g).team).reordering then
    (s.modGrp g (fun x => { x with
      ctxs := x.ctxs.map (fun e => (e.1, if e.2.stop = .baton then { e.2 with stop := .entry } else e.2)) })).passBaton g
  else s

/-- A context's state goes to its save area (06 R121, 24 R369). -/
def State.writeSaved (c : CtxId) (map : Option DWord) (s : State) : State :=
  match s.ownBlock c.g with
  | some a => s.writeCells (s.contextCells a c.i (mapKeeps map) (s.grp c.g))
  | none => s

/-- Save the context under a pending yield, to resume at an address (06 R121). -/
def State.saveCtx (map : Option DWord) (resume : DWord) (s : State) : State :=
  (((s.modCtx (fun c => { c with pc := resume, due := true, stop := .saved map })).writeSaved s.cur map).chargeAt s.cur.g 0
    (saveBytes map s.me.regalloc)).parkBaton s.cur.g

/-- The team of the group that issues is yield-pending; a wave does not yield (19 R300, 20 R323). -/
def State.yielding (s : State) : Bool := decide (s.me.kind = .group) && s.myTeam.yieldPending

/-- CONT (06 R119). -/
def execCont (a : Nat) (t : BitVec 16) (s : State) : Host.Outcome State Fault Refusal :=
  let dst := s.target t
  let m := s.sreg a
  let declare_ : Act := fun s => ((s.charge 1).modCtx (fun c => { c with contpc := dst, map := m })).advanceB
  .next (toTarget dst (fun s =>
    if s.yielding then drainPoint true (fun s => (declare_ s).saveCtx (some m) dst) s else declare_ s) s)

/-- YIELD (06 R120). -/
def execYield (s : State) : Host.Outcome State Fault Refusal :=
  .next (if s.yielding then
      drainPoint true (fun s =>
        let s1 := (s.charge 1).advanceB
        if s.ctx.contpc ≠ 0 then s1.saveCtx (some s.ctx.map) s.ctx.contpc else s1.saveCtx none s1.ctx.pc) s
    else (s.charge 1).advanceB)

/-- TRAP k (06 R123): a group trap after it has taken effect. -/
def execTrap (k : Nat) (s : State) : Host.Outcome State Fault Refusal :=
  .next (((s.charge 1).advanceB).deliver s.cur (s.trapOf causeTrapi (BitVec.ofNat 64 k) 0))

/-- A trap of a context of a slot whose handler has ended: behind the traps that have waited longer (24 R365). -/
def State.deliverBehind (c : CtxId) (t : Trap) (s : State) : State :=
  if (s.grp c.g).waiting = [] then s.deliver c t else (s.modGrp c.g (Group.queueTrap c.i t s.tick)).nextWaiting c.g

/-- A context that stopped for an ILLEGAL at a header ends as at an EXIT (24 R362): what is pending at its drain point is
delivered first, and the RETT of that delivery ends it too (02 R27, 09 R178). -/
def State.endStopped (s : State) : State :=
  let here := fun (t : Trap) => { t with pc := s.ctx.pc, clause := s.ctx.clause, idx := s.ctx.idx, ends := true }
  match s.storeFault s.cur.g with
  | some f => (s.dropFault s.cur.g).deliverBehind s.cur { f.trap with ends := true }
  | none =>
    match s.me.engineErrs.head? with
    | some t => (s.modMe (fun g => { g with engineErrs := g.engineErrs.drop 1 })).deliverBehind s.cur (here t)
    | none =>
      match s.me.flagErr (List.range 12) with
      | some (f, t) => (s.modMe (Group.modFlag f (fun x => { x with err := none }))).deliverBehind s.cur (here t)
      | none => (s.retire s.cur s.laneSet).nextWaiting s.cur.g

/-- RETT (06 R124, 24 R364, 08 R155): the handler ends; a held instruction completes; a context stopped by an ILLEGAL at
a header ends once drained (24 R362). -/
def execRett (s : State) : Host.Outcome State Fault Refusal :=
  .next (guarded [(!s.inHandler, fun s => s.raiseB causePriv 0 0)]
    (fun s =>
      match s.me.handler with
      | none => s
      | some h =>
        if h.trap.ends ∧ !s.me.drainedEnd s.cur.i then s
        else
          let s1 := ((s.charge 1).modMe (Group.leaveHandler h)).modCtx (fun c => { c with lastIssue := s.tick + 1 })
          let s2 := if h.trap.lanes then s1.completeHeld s.cur true else s1
          if h.trap.ends then s2.endStopped else s2.nextWaiting s.cur.g) s)

/-- SLEEP (06 R125): c core cycles, at most 2^32 − 1; it ends at once while the team is yield-pending or the group is to be
evicted (log 33). -/
def execSleep (a : Nat) (s : State) : Host.Outcome State Fault Refusal :=
  let c := min (s.sreg a).toNat (2 ^ 32 - 1)
  let s1 := (s.charge 1).advanceB
  .next (if c = 0 || s1.myTeam.yieldPending || s1.me.evicting then s1
    else s1.modCtx (fun x => { x with stop := .sleep (s.tick + c) }))

/-- SLEEP_END (06 R125): the count expires and the context continues. -/
def execSleepEnd (c : CtxId) (s : State) : Host.Outcome State Fault Refusal :=
  .next (match ((s.grp c.g).ctx c.i).stop with
    | .sleep w => if w ≤ s.tick then s.modCtxAt c Context.wake else s
    | _ => s)

end Sys2Proof.Machine
end

