-- ==== Sys2Proof/Machine/Vector.lean ====
section
/-! DEFINITION. Vector arithmetic: integer, FP32, packed and conversion instructions and the sixteen 16-bit forms (07
R126-R143, 02 R32, R35). -/

namespace Sys2Proof.Machine

/-- A two-source instruction: f of the rounding mode, va, ob and vd in each active lane (07 R126). -/
def vArith (op cost : Nat) (ty : ObTy) (f : Nat → Word → Word → Word → LaneRes) (d a : Nat) (b : Ob) (s : State) :
    State :=
  laneOp (vForm op cost d [⟨d, 1, 1⟩, ⟨a, 1, 1⟩])
    (fun s l => f s.me.frm.toNat (s.v a l) (s.ob ty b l) (s.v d l)) (fun s l => ⟨s.v a l, s.ob ty b l⟩) s

/-- A unary instruction. -/
def vUnary (op cost : Nat) (f : Nat → Word → LaneRes) (d a : Nat) (s : State) : State :=
  laneOp (vForm op cost d [⟨d, 1, 1⟩, ⟨a, 1, 1⟩])
    (fun s l => f s.me.frm.toNat (s.v a l)) (fun s l => ⟨s.v a l, 0⟩) s

/-- A 16-bit form: the V-class instruction with va = vd (07 R143). -/
def hArith (op : Nat) (ty : ObTy) (f : Nat → Word → Word → Word → LaneRes) (d : Nat) (b : Ob) (s : State) : State :=
  laneOp (hForm op d)
    (fun s l => f s.me.frm.toNat (s.v d l) (s.ob ty b l) (s.v d l)) (fun s l => ⟨s.v d l, s.ob ty b l⟩) s

/-- A 16-bit form whose first factor is q0, read before the rotation (02 R32, 07 R143). -/
def qArith (op : Nat) (ty : ObTy) (f : Nat → Word → Word → Word → LaneRes) (d : Nat) (b : Ob) (s : State) : State :=
  laneOp (hForm op d)
    (fun s l => f s.me.frm.toNat (s.me.qreg 0 l) (s.ob ty b l) (s.v d l))
    (fun s l => ⟨s.me.qreg 0 l, s.ob ty b l⟩) s

/-- A pair instruction: D ← f of va:va+1 and ob64 (07 R130). An odd register or o or q code traps ILLEGAL 0x03. -/
def vPair (op : Nat) (f : DWord → DWord → DWord) (d a : Nat) (b : Ob) (s : State) : State :=
  guarded [(!pairOb b, State.illegal 4 3)]
    (laneOp { vForm op 1 d [⟨d, 2, 2⟩, ⟨a, 2, 2⟩] with width := 2 }
      (fun s l =>
        let r := f (pair64 (s.v a l) (s.v (a + 1) l)) (s.ob64 b l)
        ⟨[r.setWidth 32, (r >>> 32).setWidth 32], 0⟩)
      (fun s l => ⟨s.v a l, s.v (a + 1) l⟩)) s

/-! ## Integer functions (07 R129, R131) -/

/-- A result that reads va and ob only. -/
def int2 (f : Word → Word → Word) : Nat → Word → Word → Word → LaneRes := fun _ a b _ => word1 (f a b)

/-- The signed minimum and its kin. -/
def pick (c : Bool) (a b : Word) : Word := if c then a else b

/-- i(va) + i(ob), saturated (07 R129). -/
def addSat (a b : Word) : Word := BitVec.ofInt 32 (max (-(2 ^ 31)) (min (2 ^ 31 - 1) (a.toInt + b.toInt)))

/-- Byte k of a word. -/
def byteAt (x : Word) (k : Nat) : BitVec 8 := (x >>> (8 * k)).setWidth 8

/-- The four-term dot product (07 R131). -/
def dot4 (sgn : Bool) (a b : Word) : Int :=
  (List.range 4).foldl (fun t k =>
    t + (if sgn then (byteAt a k).toInt * (byteAt b k).toInt else ((byteAt a k).toNat * (byteAt b k).toNat : Nat))) 0

/-- |i(va)| mod 2^32 (07 R129). -/
def absWord (a : Word) : Word := if a.toInt < 0 then -a else a

/-! ## Floating functions -/

/-- A value of FP32 bits. -/
def v32 (x : Word) : FVal := fmt32.val x.toNat

/-- An FP32 operation on va and ob. -/
def f2 (f : Nat → FVal → FVal → FRes) : Nat → Word → Word → Word → LaneRes := fun m a b _ => fres (f m (v32 a) (v32 b))

/-- A fused operation: (±va × ob) ± vd (07 R132). -/
def f3 (np nc : Bool) : Nat → Word → Word → Word → LaneRes := fun m a b c =>
  fres (fmt32.fma m (if np then (v32 a).neg else v32 a) (v32 b) (some (if nc then (v32 c).neg else v32 c)))

/-- One half of a word. -/
def half (h : Nat) (x : Word) : Nat := x.toNat / 2 ^ (16 * h) % 65536

/-- Both halves of a packed instruction (07 R140): the events are the union. -/
def packed (f : Fmt) (k : Nat → FVal → FVal → FVal → FRes) : Nat → Word → Word → Word → LaneRes := fun m a b c =>
  let r := fun h => k m (f.val (half h a)) (f.val (half h b)) (f.val (half h c))
  ⟨[BitVec.ofNat 32 ((r 0).bits + 65536 * (r 1).bits)], (r 0).ev ||| (r 1).ev⟩

/-- VPKE4 and VPKE5 (07 R142). -/
def pack8 (f : Fmt) : Nat → Word → Word → Word → LaneRes := fun m a b c =>
  let x := f.cvt m (v32 a)
  let y := f.cvt m (v32 b)
  ⟨[BitVec.ofNat 32 (y.bits * 2 ^ 24 + x.bits * 2 ^ 16 + half 1 c)], x.ev ||| y.ev⟩

/-- An integer result with events. -/
def intRes (r : Int × Ev) : LaneRes := ⟨[BitVec.ofInt 32 r.1], r.2⟩

/-- A 16-bit result put into half h of vd (07 R141). -/
def insertHalf (h : Nat) (r : FRes) (d : Word) : LaneRes :=
  ⟨[BitVec.ofNat 32 (if h = 0 then half 1 d * 65536 + r.bits else r.bits * 65536 + half 0 d)], r.ev⟩

/-- The conversions of VCVT by their literal code (07 R141, 04 R72). -/
def vcvt (code m : Nat) (a d : Word) : LaneRes :=
  if code = 0 then fres (fmt32.ofInt m a.toInt)
  else if code = 1 then fres (fmt32.ofInt m a.toNat)
  else if code = 2 then intRes (toInt 1 (-(2 ^ 31)) (2 ^ 31 - 1) (v32 a))
  else if code = 3 then intRes (toInt 1 0 (2 ^ 32 - 1) (v32 a))
  else if code = 4 then intRes (toInt m (-(2 ^ 31)) (2 ^ 31 - 1) (v32 a))
  else if code < 7 then fres (fmt32.cvt 0 (fmt16.val (half (code - 5) a)))
  else if code < 9 then fres (fmt32.cvt 0 (fmtB16.val (half (code - 7) a)))
  else if code < 11 then insertHalf (code - 9) (fmt16.cvt m (v32 a)) d
  else if code < 13 then insertHalf (code - 11) (fmtB16.cvt m (v32 a)) d
  else if code < 17 then fres (fmt32.cvt 0 (fmtE4.val (byteAt a (code - 13)).toNat))
  else if code < 21 then fres (fmt32.cvt 0 (fmtE5.val (byteAt a (code - 17)).toNat))
  else if code = 21 then word1 ((byteAt a 0).signExtend 32)
  else if code = 22 then word1 ((a.setWidth 16).signExtend 32)
  else if code = 23 then word1 ((byteAt a 0).setWidth 32)
  else word1 ((a.setWidth 16).setWidth 32)

/-! ## Integer instructions -/

def execVadd (d a : Nat) (b : Ob) (s : State) : Host.Outcome State Fault Refusal :=
  .next (vArith 0 1 .int (int2 (fun a b => a + b)) d a b s)
def execVsub (d a : Nat) (b : Ob) (s : State) : Host.Outcome State Fault Refusal :=
  .next (vArith 1 1 .int (int2 (fun a b => a - b)) d a b s)
def execVmullo (d a : Nat) (b : Ob) (s : State) : Host.Outcome State Fault Refusal :=
  .next (vArith 2 1 .int (int2 (fun a b => a * b)) d a b s)
def execVmulhi (d a : Nat) (b : Ob) (s : State) : Host.Outcome State Fault Refusal :=
  .next (vArith 3 1 .int (int2 (fun a b => BitVec.ofInt 32 (a.toInt * b.toInt / 2 ^ 32))) d a b s)
def execVmulhin (d a : Nat) (b : Ob) (s : State) : Host.Outcome State Fault Refusal :=
  .next (vArith 4 1 .int (int2 (fun a b => BitVec.ofNat 32 (a.toNat * b.toNat / 2 ^ 32))) d a b s)
def execVand (d a : Nat) (b : Ob) (s : State) : Host.Outcome State Fault Refusal :=
  .next (vArith 6 1 .int (int2 (fun a b => a &&& b)) d a b s)
def execVor (d a : Nat) (b : Ob) (s : State) : Host.Outcome State Fault Refusal :=
  .next (vArith 7 1 .int (int2 (fun a b => a ||| b)) d a b s)
def execVxor (d a : Nat) (b : Ob) (s : State) : Host.Outcome State Fault Refusal :=
  .next (vArith 8 1 .int (int2 (fun a b => a ^^^ b)) d a b s)
def execVandn (d a : Nat) (b : Ob) (s : State) : Host.Outcome State Fault Refusal :=
  .next (vArith 9 1 .int (int2 (fun a b => a &&& ~~~b)) d a b s)
def execVshl (d a : Nat) (b : Ob) (s : State) : Host.Outcome State Fault Refusal :=
  .next (vArith 10 1 .int (int2 (fun a b => a <<< (b.toNat % 32))) d a b s)
def execVshr (d a : Nat) (b : Ob) (s : State) : Host.Outcome State Fault Refusal :=
  .next (vArith 11 1 .int (int2 (fun a b => a >>> (b.toNat % 32))) d a b s)
def execVsar (d a : Nat) (b : Ob) (s : State) : Host.Outcome State Fault Refusal :=
  .next (vArith 12 1 .int (int2 (fun a b => a.sshiftRight (b.toNat % 32))) d a b s)
def execVmin (d a : Nat) (b : Ob) (s : State) : Host.Outcome State Fault Refusal :=
  .next (vArith 13 1 .int (int2 (fun a b => pick (decide (a.toInt < b.toInt)) a b)) d a b s)
def execVmax (d a : Nat) (b : Ob) (s : State) : Host.Outcome State Fault Refusal :=
  .next (vArith 14 1 .int (int2 (fun a b => pick (decide (b.toInt < a.toInt)) a b)) d a b s)
def execVminn (d a : Nat) (b : Ob) (s : State) : Host.Outcome State Fault Refusal :=
  .next (vArith 15 1 .int (int2 (fun a b => pick (decide (a.toNat < b.toNat)) a b)) d a b s)
def execVmaxn (d a : Nat) (b : Ob) (s : State) : Host.Outcome State Fault Refusal :=
  .next (vArith 16 1 .int (int2 (fun a b => pick (decide (b.toNat < a.toNat)) a b)) d a b s)
def execVaddsat (d a : Nat) (b : Ob) (s : State) : Host.Outcome State Fault Refusal :=
  .next (vArith 22 1 .int (int2 (addSat)) d a b s)
def execVmad (d a : Nat) (b : Ob) (s : State) : Host.Outcome State Fault Refusal :=
  .next (vArith 5 1 .int (fun _ a b d => word1 (a * b + d)) d a b s)
def execVdp4 (d a : Nat) (b : Ob) (s : State) : Host.Outcome State Fault Refusal :=
  .next (vArith 0x17 1 .int (fun _ a b d => word1 (d + BitVec.ofInt 32 (dot4 true a b))) d a b s)
def execVdp4n (d a : Nat) (b : Ob) (s : State) : Host.Outcome State Fault Refusal :=
  .next (vArith 0x18 1 .int (fun _ a b d => word1 (d + BitVec.ofInt 32 (dot4 false a b))) d a b s)
def execVabs (d a : Nat) (s : State) : Host.Outcome State Fault Refusal :=
  .next (vUnary 0x11 1 (fun _ a => word1 (absWord a)) d a s)
def execVclz (d a : Nat) (s : State) : Host.Outcome State Fault Refusal :=
  .next (vUnary 0x12 1 (fun _ a => word1 (BitVec.ofNat 32 (clzN 32 a.toNat))) d a s)
def execVpopc (d a : Nat) (s : State) : Host.Outcome State Fault Refusal :=
  .next (vUnary 0x13 1 (fun _ a => word1 (BitVec.ofNat 32 (popN 32 a.toNat))) d a s)
def execVadd64 (d a : Nat) (b : Ob) (s : State) : Host.Outcome State Fault Refusal :=
  .next (vPair 0x14 (· + ·) d a b s)
def execVsub64 (d a : Nat) (b : Ob) (s : State) : Host.Outcome State Fault Refusal :=
  .next (vPair 0x15 (· - ·) d a b s)

/-! ## FP32 instructions (07 R132-R138) -/

def execFadd (d a : Nat) (b : Ob) (s : State) : Host.Outcome State Fault Refusal :=
  .next (vArith 48 1 .f32 (f2 fmt32.add) d a b s)
def execFsub (d a : Nat) (b : Ob) (s : State) : Host.Outcome State Fault Refusal :=
  .next (vArith 49 1 .f32 (f2 fmt32.sub) d a b s)
def execFmul (d a : Nat) (b : Ob) (s : State) : Host.Outcome State Fault Refusal :=
  .next (vArith 50 1 .f32 (f2 fmt32.mul) d a b s)
def execFfma (d a : Nat) (b : Ob) (s : State) : Host.Outcome State Fault Refusal :=
  .next (vArith 51 1 .f32 (f3 false false) d a b s)
def execFfms (d a : Nat) (b : Ob) (s : State) : Host.Outcome State Fault Refusal :=
  .next (vArith 52 1 .f32 (f3 false true) d a b s)
def execFnma (d a : Nat) (b : Ob) (s : State) : Host.Outcome State Fault Refusal :=
  .next (vArith 53 1 .f32 (f3 true false) d a b s)
def execFmin (d a : Nat) (b : Ob) (s : State) : Host.Outcome State Fault Refusal :=
  .next (vArith 54 1 .f32 (fun _ a b _ => fres (fmt32.minmax false a.toNat b.toNat)) d a b s)
def execFmax (d a : Nat) (b : Ob) (s : State) : Host.Outcome State Fault Refusal :=
  .next (vArith 55 1 .f32 (fun _ a b _ => fres (fmt32.minmax true a.toNat b.toNat)) d a b s)
def execFdiv (d a : Nat) (b : Ob) (s : State) : Host.Outcome State Fault Refusal :=
  .next (vArith 0x3A 4 .f32 (f2 fmt32.div) d a b s)
def execFscale (d a : Nat) (b : Ob) (s : State) : Host.Outcome State Fault Refusal :=
  .next (vArith 0x40 1 .int (fun m a b _ => fres (fmt32.scale m a.toNat b.toInt)) d a b s)
def execFabs (d a : Nat) (s : State) : Host.Outcome State Fault Refusal :=
  .next (vUnary 56 1 (fun _ a => word1 (a &&& 0x7FFFFFFF)) d a s)
def execFneg (d a : Nat) (s : State) : Host.Outcome State Fault Refusal :=
  .next (vUnary 57 1 (fun _ a => word1 (a ^^^ 0x80000000)) d a s)
def execFsqrt (d a : Nat) (s : State) : Host.Outcome State Fault Refusal :=
  .next (vUnary 59 4 (fun m a => fres (fmt32.sqrt m (v32 a))) d a s)
def execFrcp (d a : Nat) (s : State) : Host.Outcome State Fault Refusal :=
  .next (vUnary 60 4 (fun m a => fres (fmt32.rcp m (v32 a))) d a s)
def execFrsq (d a : Nat) (s : State) : Host.Outcome State Fault Refusal :=
  .next (vUnary 61 4 (fun m a => fres (fmt32.rsq m (v32 a))) d a s)
def execFexp2c (d a : Nat) (s : State) : Host.Outcome State Fault Refusal :=
  .next (vUnary 62 1 (fun _ a => fres (exp2c a.toNat)) d a s)
def execFrint (d a : Nat) (s : State) : Host.Outcome State Fault Refusal :=
  .next (vUnary 63 1 (fun m a => fres (fmt32.rint m a.toNat)) d a s)

/-! ## Packed instructions and conversions (07 R140-R142) -/

def execHadd2 (d a : Nat) (b : Ob) (s : State) : Host.Outcome State Fault Refusal :=
  .next (vArith 72 1 .h16 (packed fmt16 (fun m a b _ => fmt16.add m a b)) d a b s)
def execHmul2 (d a : Nat) (b : Ob) (s : State) : Host.Outcome State Fault Refusal :=
  .next (vArith 73 1 .h16 (packed fmt16 (fun m a b _ => fmt16.mul m a b)) d a b s)
def execHfma2 (d a : Nat) (b : Ob) (s : State) : Host.Outcome State Fault Refusal :=
  .next (vArith 74 1 .h16 (packed fmt16 (fun m a b c => fmt16.fma m a b (some c))) d a b s)
def execBadd2 (d a : Nat) (b : Ob) (s : State) : Host.Outcome State Fault Refusal :=
  .next (vArith 75 1 .b16 (packed fmtB16 (fun m a b _ => fmtB16.add m a b)) d a b s)
def execBmul2 (d a : Nat) (b : Ob) (s : State) : Host.Outcome State Fault Refusal :=
  .next (vArith 76 1 .b16 (packed fmtB16 (fun m a b _ => fmtB16.mul m a b)) d a b s)
def execBfma2 (d a : Nat) (b : Ob) (s : State) : Host.Outcome State Fault Refusal :=
  .next (vArith 77 1 .b16 (packed fmtB16 (fun m a b c => fmtB16.fma m a b (some c))) d a b s)

/-- VCVT: a code of 25 or more traps ILLEGAL 0x08 (02 R36). -/
def execVcvt (d a c : Nat) (s : State) : Host.Outcome State Fault Refusal :=
  .next (guarded [(decide (25 ≤ c), State.illegal 4 8)]
    (laneOp (vForm 0x50 1 d [⟨d, 1, 1⟩, ⟨a, 1, 1⟩])
      (fun s l => vcvt c s.me.frm.toNat (s.v a l) (s.v d l)) (fun s l => ⟨s.v a l, 0⟩)) s)
def execVpke4 (d a : Nat) (b : Ob) (s : State) : Host.Outcome State Fault Refusal :=
  .next (vArith 0x51 1 .f32 (pack8 fmtE4) d a b s)
def execVpke5 (d a : Nat) (b : Ob) (s : State) : Host.Outcome State Fault Refusal :=
  .next (vArith 0x52 1 .f32 (pack8 fmtE5) d a b s)

/-! ## The 16-bit forms (07 R143) -/

def execVadd16 (d : Nat) (b : Ob) (s : State) : Host.Outcome State Fault Refusal :=
  .next (hArith 0 .int (int2 (fun a b => a + b)) d b s)
def execVsub16 (d : Nat) (b : Ob) (s : State) : Host.Outcome State Fault Refusal :=
  .next (hArith 1 .int (int2 (fun a b => a - b)) d b s)
def execVand16 (d : Nat) (b : Ob) (s : State) : Host.Outcome State Fault Refusal :=
  .next (hArith 2 .int (int2 (fun a b => a &&& b)) d b s)
def execVor16 (d : Nat) (b : Ob) (s : State) : Host.Outcome State Fault Refusal :=
  .next (hArith 3 .int (int2 (fun a b => a ||| b)) d b s)
def execVxor16 (d : Nat) (b : Ob) (s : State) : Host.Outcome State Fault Refusal :=
  .next (hArith 4 .int (int2 (fun a b => a ^^^ b)) d b s)
def execVshl16 (d : Nat) (b : Ob) (s : State) : Host.Outcome State Fault Refusal :=
  .next (hArith 5 .int (int2 (fun a b => a <<< (b.toNat % 32))) d b s)
def execVshr16 (d : Nat) (b : Ob) (s : State) : Host.Outcome State Fault Refusal :=
  .next (hArith 6 .int (int2 (fun a b => a >>> (b.toNat % 32))) d b s)
def execVmin16 (d : Nat) (b : Ob) (s : State) : Host.Outcome State Fault Refusal :=
  .next (hArith 7 .int (int2 (fun a b => pick (decide (a.toInt < b.toInt)) a b)) d b s)
def execFadd16 (d : Nat) (b : Ob) (s : State) : Host.Outcome State Fault Refusal :=
  .next (hArith 8 .f32 (f2 fmt32.add) d b s)
def execFsub16 (d : Nat) (b : Ob) (s : State) : Host.Outcome State Fault Refusal :=
  .next (hArith 9 .f32 (f2 fmt32.sub) d b s)
def execFmul16 (d : Nat) (b : Ob) (s : State) : Host.Outcome State Fault Refusal :=
  .next (hArith 10 .f32 (f2 fmt32.mul) d b s)
def execFfmaq (d : Nat) (b : Ob) (s : State) : Host.Outcome State Fault Refusal :=
  .next (qArith 11 .f32 (f3 false false) d b s)
def execFmax16 (d : Nat) (b : Ob) (s : State) : Host.Outcome State Fault Refusal :=
  .next (hArith 12 .f32 (fun _ a b _ => fres (fmt32.minmax true a.toNat b.toNat)) d b s)
def execFmin16 (d : Nat) (b : Ob) (s : State) : Host.Outcome State Fault Refusal :=
  .next (hArith 13 .f32 (fun _ a b _ => fres (fmt32.minmax false a.toNat b.toNat)) d b s)
def execVmov16 (d : Nat) (b : Ob) (s : State) : Host.Outcome State Fault Refusal :=
  .next (hArith 14 .int (fun _ _ b _ => word1 b) d b s)
def execVmadq (d : Nat) (b : Ob) (s : State) : Host.Outcome State Fault Refusal :=
  .next (qArith 15 .int (fun _ q b d => word1 (q * b + d)) d b s)

end Sys2Proof.Machine
end

