-- ==== Sys2Proof/Machine/LanesX.lean ====
section
/-! DEFINITION. Compares, predicates, cross-lane moves and VLEXIT (08 R144-R148). -/

namespace Sys2Proof.Machine

/-! ## Compares (08 R144) -/

/-- A compare: its relation in each active lane, combined into p[d] by the mode. It does not rotate q. -/
def compareOp (ty : ObTy) (rel : Word → Word → Bool) (d : Nat) (m : CMode) (a : Nat) (b : Ob) (s : State) : State :=
  guarded [(decide (d = 0), State.illegal 4 9), (!s.vOk a 1 1, State.illegal 4 3)]
    (fun s =>
      let r := maskOf (fun l => rel (s.v a l) (s.ob ty b l))
      ((s.charge 1).modMe (fun g => g.setP d s.active (CMode.combine m (g.p.get 0 d) r))).advance 4) s

def execVceq (d : Nat) (m : CMode) (a : Nat) (b : Ob) (s : State) : Host.Outcome State Fault Refusal :=
  .next (compareOp .int (fun x y => decide (x = y)) d m a b s)
def execVcne (d : Nat) (m : CMode) (a : Nat) (b : Ob) (s : State) : Host.Outcome State Fault Refusal :=
  .next (compareOp .int (fun x y => decide (x ≠ y)) d m a b s)
def execVclt (d : Nat) (m : CMode) (a : Nat) (b : Ob) (s : State) : Host.Outcome State Fault Refusal :=
  .next (compareOp .int (fun x y => decide (x.toInt < y.toInt)) d m a b s)
def execVcle (d : Nat) (m : CMode) (a : Nat) (b : Ob) (s : State) : Host.Outcome State Fault Refusal :=
  .next (compareOp .int (fun x y => decide (x.toInt ≤ y.toInt)) d m a b s)
def execVcltn (d : Nat) (m : CMode) (a : Nat) (b : Ob) (s : State) : Host.Outcome State Fault Refusal :=
  .next (compareOp .int (fun x y => decide (x.toNat < y.toNat)) d m a b s)
def execVclen (d : Nat) (m : CMode) (a : Nat) (b : Ob) (s : State) : Host.Outcome State Fault Refusal :=
  .next (compareOp .int (fun x y => decide (x.toNat ≤ y.toNat)) d m a b s)
def execFceq (d : Nat) (m : CMode) (a : Nat) (b : Ob) (s : State) : Host.Outcome State Fault Refusal :=
  .next (compareOp .f32 (fun x y => (v32 x).eq (v32 y)) d m a b s)
def execFcne (d : Nat) (m : CMode) (a : Nat) (b : Ob) (s : State) : Host.Outcome State Fault Refusal :=
  .next (compareOp .f32 (fun x y => !(v32 x).eq (v32 y)) d m a b s)
def execFclt (d : Nat) (m : CMode) (a : Nat) (b : Ob) (s : State) : Host.Outcome State Fault Refusal :=
  .next (compareOp .f32 (fun x y => (v32 x).lt false (v32 y)) d m a b s)
def execFcle (d : Nat) (m : CMode) (a : Nat) (b : Ob) (s : State) : Host.Outcome State Fault Refusal :=
  .next (compareOp .f32 (fun x y => (v32 x).lt false (v32 y) || (v32 x).eq (v32 y)) d m a b s)
def execFcun (d : Nat) (m : CMode) (a : Nat) (b : Ob) (s : State) : Host.Outcome State Fault Refusal :=
  .next (compareOp .f32 (fun x y => decide (v32 x = .nan) || decide (v32 y = .nan)) d m a b s)

/-! ## Predicate instructions (08 R145) -/

/-- A predicate instruction: a mask written to p[d] in the active lanes. -/
def predOp (f : State → Word) (d : Nat) (s : State) : State :=
  guarded [(decide (d = 0), State.illegal 4 9)]
    (fun s => ((s.charge 1).modMe (Group.setP d s.active (f s))).advance 4) s

/-- Predicate k as the context reads it. -/
def State.pr (s : State) (k : Nat) : Word := s.me.pred s.ctx k

def execPand (d a b : Nat) (s : State) : Host.Outcome State Fault Refusal := .next (predOp (fun s => s.pr a &&& s.pr b) d s)
def execPor (d a b : Nat) (s : State) : Host.Outcome State Fault Refusal := .next (predOp (fun s => s.pr a ||| s.pr b) d s)
def execPxor (d a b : Nat) (s : State) : Host.Outcome State Fault Refusal := .next (predOp (fun s => s.pr a ^^^ s.pr b) d s)
def execPandn (d a b : Nat) (s : State) : Host.Outcome State Fault Refusal :=
  .next (predOp (fun s => s.pr a &&& ~~~(s.pr b)) d s)
def execPnot (d a : Nat) (s : State) : Host.Outcome State Fault Refusal := .next (predOp (fun s => ~~~(s.pr a)) d s)

/-- PSET: an ob below 20 traps ILLEGAL 0x08 (02 R36); the mask is the operand's low word. -/
def execPset (d : Nat) (b : Ob) (s : State) : Host.Outcome State Fault Refusal :=
  .next (guarded [(decide (b.code < 20), State.illegal 4 8)] (predOp (fun s => s.ob .int b 0) d) s)

/-- PFIRST: the lowest-numbered active lane with p[a] set. -/
def execPfirst (d a : Nat) (s : State) : Host.Outcome State Fault Refusal :=
  .next (predOp (fun s => maskOf (fun l => decide (l = lowest (s.pr a &&& s.active)))) d s)

/-- An instruction without va whose result is one word in each active lane. -/
def vWord (op : Nat) (f : State → Nat → Word) (d : Nat) (s : State) : State :=
  laneOp (vForm op 1 d [⟨d, 1, 1⟩]) (fun s l => word1 (f s l)) (fun _ _ => ⟨0, 0⟩) s

/-- PPOPC: the number of lanes of the lane set with p[a] set; it rotates q. -/
def execPpopc (d a : Nat) (s : State) : Host.Outcome State Fault Refusal :=
  .next (vWord 0x7E (fun s _ => BitVec.ofNat 32 (countMask (s.predIn a))) d s)

/-! ## Cross-lane moves (08 R146, R147) -/

/-- va of source lane j where it lies in the lane set, else a fallback (08 R146). -/
def State.fromLane (s : State) (a : Nat) (j : Int) (fallback : Word) : Word :=
  if 0 ≤ j ∧ j < 32 ∧ inMask s.laneSet j.toNat then s.v a j.toNat else fallback

/-- A cross-lane instruction with va and ob. -/
def crossOp (op : Nat) (f : State → Nat → Word) (d a : Nat) (s : State) : State :=
  laneOp (vForm op 1 d [⟨d, 1, 1⟩, ⟨a, 1, 1⟩]) (fun s l => word1 (f s l)) (fun s l => ⟨s.v a l, 0⟩) s

def execVshfl (d a : Nat) (b : Ob) (s : State) : Host.Outcome State Fault Refusal :=
  .next (crossOp 0x60 (fun s l => s.fromLane a ((s.ob .int b l).toNat % 32 : Nat) (s.v a l)) d a s)
def execVshflx (d a : Nat) (b : Ob) (s : State) : Host.Outcome State Fault Refusal :=
  .next (crossOp 0x61 (fun s l => s.fromLane a (Nat.xor l ((s.ob .int b l).toNat % 32) : Nat) (s.v a l)) d a s)
def execVshflu (d a : Nat) (b : Ob) (s : State) : Host.Outcome State Fault Refusal :=
  .next (crossOp 0x62 (fun s l => s.fromLane a ((l : Int) - (s.ob .int b l).toNat) (s.v a l)) d a s)
def execVshfld (d a : Nat) (b : Ob) (s : State) : Host.Outcome State Fault Refusal :=
  .next (crossOp 0x63 (fun s l => s.fromLane a ((l : Int) + (s.ob .int b l).toNat) (s.v a l)) d a s)

/-- The active lanes up to l. -/
def State.upTo (s : State) (l : Nat) : List Nat := (lanesOf s.active).filter (fun k => decide (k ≤ l))

/-- The signed maximum of va over lanes; the first lane's value where there is one. -/
def State.maxOver (s : State) (a : Nat) (ls : List Nat) : Word :=
  match ls with
  | [] => 0
  | k :: r => r.foldl (fun m j => if m.toInt < (s.v a j).toInt then s.v a j else m) (s.v a k)

def State.sumOver (s : State) (a : Nat) (ls : List Nat) : Word := ls.foldl (fun t k => t + s.v a k) 0

def execVpfxadd (d a : Nat) (s : State) : Host.Outcome State Fault Refusal :=
  .next (crossOp 0x64 (fun s l => s.sumOver a (s.upTo l)) d a s)
def execVpfxmax (d a : Nat) (s : State) : Host.Outcome State Fault Refusal :=
  .next (crossOp 0x65 (fun s l => s.maxOver a (s.upTo l)) d a s)
def execVredadd (d a : Nat) (s : State) : Host.Outcome State Fault Refusal :=
  .next (crossOp 0x66 (fun s _ => s.sumOver a (lanesOf s.active)) d a s)
def execVredmax (d a : Nat) (s : State) : Host.Outcome State Fault Refusal :=
  .next (crossOp 0x68 (fun s _ => s.maxOver a (lanesOf s.active)) d a s)

/-- One level of the tree (08 R147): neighbours are added, one present value passes, two empty nodes are empty. -/
def treeLevel (mode : Nat) : List (Option FRes) → List (Option FRes)
  | a :: b :: r =>
    (match a, b with
     | some x, some y =>
       let z := fmt32.add mode (fmt32.val x.bits) (fmt32.val y.bits)
       some ⟨z.bits, x.ev ||| y.ev ||| z.ev⟩
     | some x, none => some x
     | none, y => y) :: treeLevel mode r
  | l => l

/-- The root of the tree over the active lanes, with every event raised in it (08 R147). -/
def State.tree (s : State) (a : Nat) : FRes :=
  let leaves := (List.range 32).map (fun l => if inMask s.active l then some ⟨(s.v a l).toNat, 0⟩ else none)
  let m := s.me.frm.toNat
  ((treeLevel m (treeLevel m (treeLevel m (treeLevel m (treeLevel m leaves))))).headD none).getD ⟨0, 0⟩

/-- VREDFADD (08 R147): the events fall to the lowest active lane alone. -/
def execVredfadd (d a : Nat) (s : State) : Host.Outcome State Fault Refusal :=
  .next (laneOp { vForm 0x67 1 d [⟨d, 1, 1⟩, ⟨a, 1, 1⟩] with whole := true }
    (fun s l => ⟨[BitVec.ofNat 32 (s.tree a).bits], if l = lowest s.active then (s.tree a).ev else 0⟩)
    (fun s _ => ⟨BitVec.ofNat 32 (s.tree a).bits, 0⟩) s)

def execVballot (d a : Nat) (s : State) : Host.Outcome State Fault Refusal :=
  .next (vWord 0x69 (fun s _ => s.predIn a) d s)

/-- The index that the lowest active lane's ob gives (08 R146). -/
def State.laneIndex (s : State) (b : Ob) : Nat := (s.ob .int b (lowest s.active)).toNat % 32

def execVget (d a : Nat) (b : Ob) (s : State) : Host.Outcome State Fault Refusal :=
  .next (crossOp 0x6A (fun s _ => s.fromLane a (s.laneIndex b : Nat) 0) d a s)

/-- VSETL: lane j alone takes va of the lowest active lane, where j lies in the lane set; every lane of the lane set
pushes its vd into q. -/
def execVsetl (d a : Nat) (b : Ob) (s : State) : Host.Outcome State Fault Refusal :=
  .next (guarded [(!s.vAll [⟨d, 1, 1⟩, ⟨a, 1, 1⟩], State.illegal 4 3)]
    (fun s =>
      let j := s.laneIndex b
      let x := s.v a (lowest s.active)
      let w : Bool := decide (s.active ≠ 0) && inMask s.laneSet j
      ((s.charge 1).modMe (fun g => (if w then g.setV d j x else g).rotate d s.laneSet)).advance 4) s)

def execVlid (d : Nat) (s : State) : Host.Outcome State Fault Refusal :=
  .next (vWord 0x6C (fun _ l => BitVec.ofNat 32 l) d s)

/-- The identity value of a code in a lane (05 R83, 08 R146). In a handler or combiner wave, whose lanes carry no thread, code 0 reads the
number that a thread of the wave's team would have and codes 2-4 read 0 (log 136). -/
def State.identity (s : State) (c l : Nat) : Word :=
  let g := s.me
  let m := s.team g.team
  if c = 0 then BitVec.ofNat 32 (m.teamId * 32 * m.groups + (g.teamThread.get 0 l).toNat)
  else if c = 1 then BitVec.ofNat 32 l
  else if c = 2 then g.teamThread.get 0 l
  else if c = 3 then g.keys.get 0 l
  else g.origin.get 0 l

/-- VSR: a code above 4 traps ILLEGAL 0x08 (02 R36). -/
def execVsr (d c : Nat) (s : State) : Host.Outcome State Fault Refusal :=
  .next (guarded [(decide (5 ≤ c), State.illegal 4 8)] (vWord 0x6D (fun s l => s.identity c l) d) s)

def execVmov (d a : Nat) (s : State) : Host.Outcome State Fault Refusal :=
  .next (crossOp 0x6E (fun s l => s.v a l) d a s)

/-- VMOVO: o[k] ← va in the active lanes; q does not rotate (05 R87). -/
def execVmovo (k a : Nat) (s : State) : Host.Outcome State Fault Refusal :=
  .next (guarded [(!s.vOk a 1 1, State.illegal 4 3)]
    (fun s =>
      ((s.charge 1).modMe (fun g =>
        (lanesOf s.active).foldl (fun h l => h.setO k l (g.vreg a l)) g)).advance 4) s)

/-- VLEXIT: the active lanes retire; PRIV in a wave (08 R148). -/
def execVlexit (s : State) : Host.Outcome State Fault Refusal :=
  .next (guarded [(decide (s.me.kind ≠ .group), fun s => s.raise 4 causePriv 0 0)]
    (fun s => if s.active = 0 then (s.charge 1).advance 4 else ((s.charge 1).advance 4).retire s.cur s.active) s)

end Sys2Proof.Machine
end

