-- ==== Sys2Proof/Machine/Header.lean ====
section
/-! DEFINITION. The clause header and the events that fall on it, in their order (02 R20-R22, R26, R402). -/

namespace Sys2Proof.Machine

/-- What is delivered for the slot at a header: a store-fault record, which waits while a group handler runs, an untracked
engine error, a Mordant abort report; none at a header of the running handler (02 R402 step 1, 09 R177, 20 R328). -/
def State.headerDelivery (s : State) : Option (Trap × Act) :=
  if s.inHandler then none
  else
    match if s.me.handler.isSome then none else s.storeFault s.cur.g with
    | some f => some (f.trap, State.dropFault s.cur.g)
    | none =>
      match s.me.engineErrs with
      | t :: _ => some ({ t with pc := s.ctx.pc, clause := s.ctx.clause, idx := s.ctx.idx },
          State.modMe (fun g => { g with engineErrs := g.engineErrs.drop 1 }))
      | [] =>
        match s.me.mordErrs with
        | t :: _ =>
          some ({ t with pc := s.ctx.pc, clause := s.ctx.clause, idx := s.ctx.idx },
            State.modMe (fun g => { g with mordErrs := g.mordErrs.drop 1 }))
        | [] => none

/-- The flags a WAIT field names (02 R20). -/
def waitFlags (w : BitVec 12) : List Nat := (List.range 12).filter (fun i => w.getLsbD i)

/-- The word behind the header is a header: an empty clause (02 R17). -/
def State.emptyClause (s : State) : Bool :=
  match s.fetchHalf s.cur.g (s.ctx.pc + 4) with
  | .half h => isHeader h
  | _ => false

/-- The word behind the header lies on a page in migration: whether the clause is empty is not known yet (22 R345). -/
def State.nextMoving (s : State) : Bool :=
  match s.fetchHalf s.cur.g (s.ctx.pc + 4) with
  | .moving _ => true
  | _ => false

/-- The latched predicate of a header (02 R20, R22). -/
def State.headerPred (s : State) (pidx : Nat) (neg en : Bool) : Word :=
  let p := s.me.pred s.ctx (if en then pidx else 0)
  if en && neg then ~~~p else p

/-- The header issues: the clause begins (02 R15, R22). -/
def Context.begin_ (setA setB : Nat) (pred : Word) (tick : Nat) (c : Context) : Context :=
  { c with
    clause := c.pc, idx := 0, pc := c.pc + 4, due := false, pred := pred, setA := setA, setB := setB,
    lastIssue := tick + 1 }

/-- The handler's first header has been fetched (24 R366). -/
def Group.handlerFetched (i : Nat) (g : Group) : Group :=
  { g with handler := g.handler.map (fun h => if h.ctx = i then { h with fresh := false } else h) }

/-- The trap of an error status, delivered at a WAIT: its flag's error is cleared (02 R26). -/
def deliverFlagErr (f : Nat) (t : Trap) (s : State) : State :=
  (s.modMe (Group.modFlag f (fun x => { x with err := none }))).deliverAt s.cur t

/-- The context must not begin another clause: GRACE forces its group's save, or the group is being evicted; the context
in the group handler goes on to its RETT (19 R302, 10 R199). -/
def State.held (s : State) : Bool := !s.inHandler && (s.me.graceDue || s.me.evicting)

/-- The clause header (02 R402). -/
def execClauseHeader (wait : BitVec 12) (setA setB pidx : Nat) (neg en : Bool) (s : State) :
    Host.Outcome State Fault Refusal :=
  .next (
    match s.headerDelivery with
    | some (t, take) => (take s).raiseHere t
    | none =>
      guarded
        [(!en && (neg || decide (pidx ≠ 0)), fun s => s.illegalHeader s.ctx.pc 2),
         (!flagCode setA || !flagCode setB, fun s => s.illegalHeader s.ctx.pc 6),
         (s.emptyClause, fun s => s.illegalHeader (s.ctx.pc + 4) 4),
         (s.held || s.nextMoving, fun s => s),
         (!(waitFlags wait).all s.me.flagClear, fun s => s)]
        (fun s =>
          match s.me.flagErr (waitFlags wait) with
          | some (f, t) => deliverFlagErr f t s
          | none =>
            let p := s.headerPred pidx neg en
            (((s.charge 1).modCtx (Context.begin_ setA setB p s.tick)).modMe (Group.handlerFetched s.cur.i)).waitAcquire s.cur.g
              (waitFlags wait)) s)

end Sys2Proof.Machine
end

