-- ==== Sys2Proof/Machine/Memory.lean ====
section
/-! DEFINITION. Loads, stores, the constant path, line operations, fences and store faults (09). -/

namespace Sys2Proof.Machine

/-! ## Issue of vector forms -/

/-- The result of the address checks for one lane. -/
structure LaneCheck where
  lane : Nat
  va : DWord
  res : AccRes
deriving DecidableEq, Repr

/-- The words of an address, as a lane handler sees it (08 R150). -/
def addrWords (a : DWord) : Word × Word := (a.setWidth 32, (a >>> 32).setWidth 32)

/-- The lane trap of a failed check: a removed translation is ADDR for a load or an atomic (22 R343). -/
def LaneCheck.trap (c : LaneCheck) : Option LaneTrap :=
  let t := fun k => some (⟨c.lane, k, 0, (addrWords c.va).1, (addrWords c.va).2, false, none, false⟩ : LaneTrap)
  match c.res with
  | .addr => t causeAddr
  | .misalign => t causeMisalign
  | .trans _ => t causeAddr
  | _ => none

/-- The access of a lane that passed. -/
def LaneCheck.acc (c : LaneCheck) (data : List Word) : Option LaneAcc :=
  match c.res with
  | .ok l x => some ⟨c.lane, c.va, some l, data, x.map (fun y => (y.base, y.size))⟩
  | _ => none

/-- The first lane whose access lies outside every lease (09 R160). -/
def leaseFail (cs : List LaneCheck) : Option LaneCheck := cs.find? (fun c => decide (c.res = .lease))

/-- The page in migration that a lane meets (09 R164). -/
def migrates (cs : List LaneCheck) : Option Nat :=
  (cs.filterMap (fun c =>
    match c.res with
    | .migrating p => some p
    | _ => none)).head?

/-- The lanes keep the translations they used, those too whose access its permissions refused (09 R174). -/
def State.rememberAll (g : SlotRef) (cs : List LaneCheck) (s : State) : State :=
  cs.foldl (fun s c =>
    match c.res with
    | .ok _ (some x) => s.remember g c.lane c.va x
    | .trans _ => s.lookup g c.lane c.va
    | _ => s) s

/-- The held form of a memory instruction whose lanes trap: the operation waits for the passing lanes (09 R160). -/
def heldMem (s : State) (traps : List LaneTrap) (dest width code : Nat) (o : Op) : Held where
  traps := traps
  active := s.active
  dest := dest
  width := width
  results := []
  events := []
  rotate := 0
  whole := false
  op := some o
  short := false
  cls := 4
  code := code
  pc := s.ctx.pc
  clause := s.ctx.clause
  idx := s.ctx.idx

/-- Issue a memory operation, or hold it where lanes trap (08 R149): the instruction is charged and its flag raised
either way. -/
def issueOrHold (o : Op) (traps : List LaneTrap) (dest width code : Nat) (s : State) : State :=
  if traps = [] then ((s.charge 1).issueOp o).advance 4
  else
    let h := heldMem s traps dest width code o
    (((s.charge 1).gateOp o).advance 4).holdLanes h

/-- A vector load (09 R159, R160, R162): all checks before fetch resumes; one address per active lane. -/
def vload (k : LoadKind) (code n : Nat) (t vx b obs : Nat) (s : State) : State :=
  guarded
    [(!s.vAll [⟨t, n, n⟩, ⟨vx, 1, 1⟩], State.illegal 4 3), (s.full s.flagA, State.illegal 4 5)]
    (fun s =>
      let cs := (lanesOf s.active).map (fun l =>
        (⟨l, s.vaddr b vx l, s.checkAcc s.cur.g l (s.vaddr b vx l) k.size k.size false⟩ : LaneCheck))
      match leaseFail cs with
      | some c => s.endTaskAt s.cur causeLease 0 c.va
      | none =>
        match migrates cs with
        | some p => s.park p
        | none =>
          let acc := cs.filterMap (fun c => c.acc [])
          let o := s.mkOp s.flagA (s.obsSet obs) (.load k t acc)
          let spans : List Span := acc.filterMap (fun a => a.loc.map (fun l => ⟨l, k.size⟩))
          let s1 := (spanLines spans).foldl (fun s x => s.loadLine x) ((s.rememberAll s.cur.g cs).countBanks spans)
          issueOrHold o (cs.filterMap LaneCheck.trap) t n code s1) s

/-- Bytes that overlap a barrier word of the team (10 R194). -/
def State.hitsBarrier (s : State) (g : SlotRef) (a : DWord) : Bool :=
  inSpw a && decide (spwOffset a < 8 * (s.team (s.grp g).team).barriers)

/-- Checks 1 to 3 for a store, with the barrier words (09 R160, 10 R194). -/
def State.storeCheck (s : State) (g : SlotRef) (a : DWord) (n al : Nat) : Option AccRes :=
  match check123 (s.window g) a n al with
  | some r => some r
  | none => if s.hitsBarrier g a then some .addr else none

/-- The data words of a lane. -/
def State.vdata (s : State) (t n l : Nat) : List Word := (List.range n).map (fun i => s.v (t + i) l)

/-- A vector store (09 R160, R165): checks 1 to 3 at issue; where a lane fails one, check 4 of the others first. -/
def vstore (size code n : Nat) (t vx b obs : Nat) (s : State) : State :=
  guarded
    [(!s.vAll [⟨t, n, n⟩, ⟨vx, 1, 1⟩], State.illegal 4 3), (s.full s.flagA, State.illegal 4 5)]
    (fun s =>
      let lanes := lanesOf s.active
      let va := fun l => s.vaddr b vx l
      let bad := lanes.filterMap (fun l =>
        (s.storeCheck s.cur.g (va l) size size).bind (fun r => LaneCheck.trap ⟨l, va l, r⟩))
      let good := lanes.filter (fun l => (s.storeCheck s.cur.g (va l) size size).isNone)
      let out := good.find? (fun l => !inSpw (va l) && !s.myTask.leased (va l).toNat size)
      match (if bad = [] then none else out) with
      | some l => s.endTaskAt s.cur causeLease 0 (va l)
      | none =>
        let acc := good.map (fun l => (⟨l, va l, none, s.vdata t n l, none⟩ : LaneAcc))
        let o := s.mkOp s.flagA (s.obsSet obs) (.store size acc [] [])
        let near := good.filter (fun l => inSpw (va l))
        issueOrHold o bad t 0 code (s.countBanks (near.map (fun l => ⟨s.myTeam.spad (spwOffset (va l)), size⟩)))) s

def execLdv8n (t vx k obs : Nat) (s : State) : Host.Outcome State Fault Refusal := .next (vload ⟨1, false⟩ 0x00 1 t vx k obs s)
def execLdv8i (t vx k obs : Nat) (s : State) : Host.Outcome State Fault Refusal := .next (vload ⟨1, true⟩ 0x01 1 t vx k obs s)
def execLdv16n (t vx k obs : Nat) (s : State) : Host.Outcome State Fault Refusal := .next (vload ⟨2, false⟩ 0x02 1 t vx k obs s)
def execLdv16i (t vx k obs : Nat) (s : State) : Host.Outcome State Fault Refusal := .next (vload ⟨2, true⟩ 0x03 1 t vx k obs s)
def execLdv32 (t vx k obs : Nat) (s : State) : Host.Outcome State Fault Refusal := .next (vload ⟨4, false⟩ 0x04 1 t vx k obs s)
def execLdv64 (t vx k obs : Nat) (s : State) : Host.Outcome State Fault Refusal := .next (vload ⟨8, false⟩ 0x05 2 t vx k obs s)
def execLdv128 (t vx k obs : Nat) (s : State) : Host.Outcome State Fault Refusal := .next (vload ⟨16, false⟩ 0x06 4 t vx k obs s)
def execStv8 (t vx k obs : Nat) (s : State) : Host.Outcome State Fault Refusal := .next (vstore 1 0x07 1 t vx k obs s)
def execStv16 (t vx k obs : Nat) (s : State) : Host.Outcome State Fault Refusal := .next (vstore 2 0x08 1 t vx k obs s)
def execStv32 (t vx k obs : Nat) (s : State) : Host.Outcome State Fault Refusal := .next (vstore 4 0x09 1 t vx k obs s)
def execStv64 (t vx k obs : Nat) (s : State) : Host.Outcome State Fault Refusal := .next (vstore 8 0x0A 2 t vx k obs s)
def execStv128 (t vx k obs : Nat) (s : State) : Host.Outcome State Fault Refusal := .next (vstore 16 0x0B 4 t vx k obs s)

/-! ## Scalar forms (09 R160, R166) -/

/-- What a failed check of a scalar access does: a group trap with subcode 0x01, 0x03 for a removed translation, LEASE,
or a park (09 R160, 22 R343). -/
def scalarFail (a : DWord) (r : AccRes) : Act := fun s =>
  match r with
  | .addr => s.addrTrap 1 a
  | .misalign => s.misTrap 1 a
  | .lease => s.endTaskAt s.cur causeLease 0 a
  | .trans _ => s.addrTrap 3 a
  | .migrating p => s.park p
  | .ok _ _ => s

/-- A scalar load. -/
def sload (size : Nat) (st imm b obs : Nat) (s : State) : State :=
  let a := s.saddr b imm size
  guarded [(s.full s.flagA, State.illegal 4 5)]
    (fun s =>
      match s.checkAcc s.cur.g 32 a size size false with
      | .ok l x =>
        let o := s.mkOp s.flagA (s.obsSet obs) (.loadS size st ⟨32, a, some l, [], x.map (fun y => (y.base, y.size))⟩)
        let s1 := (spanLines [⟨l, size⟩]).foldl (fun s y => s.loadLine y) (s.rememberAll s.cur.g [⟨32, a, .ok l x⟩])
        ((s1.charge 1).issueOp o).advance 4
      | r => scalarFail a r s) s

/-- A scalar store. -/
def sstore (size : Nat) (st imm b obs : Nat) (s : State) : State :=
  let a := s.saddr b imm size
  guarded [(s.full s.flagA, State.illegal 4 5)]
    (fun s =>
      match s.storeCheck s.cur.g a size size with
      | some r => scalarFail a r s
      | none =>
        let d := addrWords (s.sreg st)
        let o := s.mkOp s.flagA (s.obsSet obs) (.store size [⟨32, a, none, [d.1, d.2], none⟩] [] [])
        ((s.charge 1).issueOp o).advance 4) s

def execLds32 (st imm k obs : Nat) (s : State) : Host.Outcome State Fault Refusal := .next (sload 4 st imm k obs s)
def execLds64 (st imm k obs : Nat) (s : State) : Host.Outcome State Fault Refusal := .next (sload 8 st imm k obs s)
def execSts32 (st imm k obs : Nat) (s : State) : Host.Outcome State Fault Refusal := .next (sstore 4 st imm k obs s)
def execSts64 (st imm k obs : Nat) (s : State) : Host.Outcome State Fault Refusal := .next (sstore 8 st imm k obs s)

/-! ## The constant path (09 R168) -/

/-- The task's grid owns the constant store of a core (10 R185). -/
def State.ownsConst (s : State) (c : CoreRef) (k : Nat) : Bool :=
  decide ((s.core c).owner = some (s.gridOf k))

/-- LDC: offsets are checked before fetch resumes; a grid that does not own the store reads 0 (09 R168, 10 R185). -/
def execLdc (t vx k : Nat) (s : State) : Host.Outcome State Fault Refusal :=
  .next (guarded
    [(!s.vAll [⟨t, 1, 1⟩, ⟨vx, 1, 1⟩], State.illegal 4 3), (s.full s.flagA, State.illegal 4 5)]
    (fun s =>
      let c := s.cur.g.coreRef
      let own := s.ownsConst c s.me.task
      let cs := (lanesOf s.active).map (fun l =>
        let a := s.vaddr k vx l
        (⟨l, a,
          if 2 ^ 64 ≤ a.toNat + 3 ∨ !canonical a ∨ !canonical (a + 3) then .addr
          else if a.toNat % 4 ≠ 0 then .misalign
          else if Config.constBytes ≤ a.toNat then .addr
          else .ok (if own then constLoc c a.toNat else 0) none⟩ : LaneCheck))
      let acc := cs.filterMap (fun x => (x.acc []).map (fun y => { y with loc := if own then y.loc else none }))
      issueOrHold (s.mkOp s.flagA 0 (.ldc t acc)) (cs.filterMap LaneCheck.trap) t 1 0x10 s) s)

/-! ## Line operations, fence and drain -/

/-- ZLINE (09 R169): a store of zeros to one line. -/
def execZline (imm k : Nat) (s : State) : Host.Outcome State Fault Refusal :=
  let a := s.saddr k imm 64
  .next (guarded [(s.full s.flagA, State.illegal 4 5)]
    (fun s =>
      match s.storeCheck s.cur.g a 64 64 with
      | some r => scalarFail a r s
      | none => ((s.charge 1).issueOp (s.mkOp s.flagA 0 (.zline ⟨32, a, none, [], none⟩ []))).advance 4) s)

/-- PREF (09 R170): the line asked for, or none where the request is dropped: the access is of 64 bytes at A, at any
alignment. -/
def execPref (imm k : Nat) (s : State) : Host.Outcome State Fault Refusal :=
  let a := s.saddr k imm 64
  .next (guarded [(s.full s.flagA, State.illegal 4 5)]
    (fun s =>
      let res : AccRes :=
        if 2 ^ 64 ≤ a.toNat + 63 ∨ !canonical a ∨ !canonical (a + 63) ∨ inSpw a then .addr
        else s.check45 s.cur.g 32 a 64 false
      let kind : OpKind :=
        match res with
        | .ok l x => .pref (some (lineOf l)) (x.map (fun y => (y.base, y.size)))
        | _ => .pref none none
      (((s.rememberAll s.cur.g [⟨32, a, res⟩]).charge 1).issueOp (s.mkOp s.flagA 0 kind)).advance 4) s)

/-- The operations of the slot that a FENCE or STDRAIN waits for, those among them whose instruction is held for a lane trap
(09 R171, R172; log 99). -/
def Group.awaited (g : Group) (f : Op → Bool) : List Nat := (g.ops.filter f).map Op.id

/-- FENCE (09 R171): obs = 0 traps ILLEGAL 0x02; an empty set holds nothing; otherwise the slot issues nothing until
every M-class access before it is performed. -/
def execFence (obs : Nat) (s : State) : Host.Outcome State Fault Refusal :=
  .next (guarded [(decide (obs = 0), State.illegal 4 2)]
    (fun s =>
      let ids := s.me.awaited Op.isM
      let s1 := (s.charge 1).advance 4
      if s.obsSet obs = 0 then s1
      else (s1.modMe (fun g => { g with hold := ids, fence := s.obsSet obs })).fenceAt s.cur.g (s.obsSet obs)) s)

/-- STDRAIN resolves once the slot's earlier stores have cleared: with an undelivered record it traps STFAULT and
executes again after RETT; otherwise fetch resumes (09 R172). -/
def State.stdrainResolve (c : CtxId) (s : State) : State :=
  let g := s.grp c.g
  if g.hold.any (fun n => (g.findOp n).isSome) then s
  else
    let s1 := s.modGrp c.g (fun g => { g with hold := [] })
    match if g.handler.isSome then none else s.storeFault c.g with
    | some f => ((s1.dropFault c.g).modCtxAt c (fun x => { x with stop := .running })).deliver c f.trap
    | none => s1.modCtxAt c (fun x => { x.advance 4 false with stop := .running })

/-- STDRAIN (09 R172). -/
def execStdrain (s : State) : Host.Outcome State Fault Refusal :=
  let ids := s.me.awaited Op.isStore
  .next ((((s.charge 1).modMe (fun g => { g with hold := ids, fence := 0 })).modCtx (fun c =>
    { c with stop := .stdrain, lastIssue := s.tick + 1 })).stdrainResolve s.cur)

/-- STDRAIN_RESOLVE (09 R172). -/
def execStdrainResolve (c : CtxId) (s : State) : Host.Outcome State Fault Refusal :=
  .next (if ((s.grp c.g).ctx c.i).stop = .stdrain then s.stdrainResolve c else s)

/-! ## What happens after issue -/

/-- The register words of loaded bytes (09 R157). -/
def loadWords (k : LoadKind) (x : Nat) : List Word :=
  match k.size with
  | 1 => [if k.signed then (BitVec.ofNat 8 x).signExtend 32 else BitVec.ofNat 32 x]
  | 2 => [if k.signed then (BitVec.ofNat 16 x).signExtend 32 else BitVec.ofNat 32 x]
  | 4 => [BitVec.ofNat 32 x]
  | 8 => [BitVec.ofNat 32 x, BitVec.ofNat 32 (x / 2 ^ 32)]
  | _ => [BitVec.ofNat 32 x, BitVec.ofNat 32 (x / 2 ^ 32), BitVec.ofNat 32 (x / 2 ^ 64), BitVec.ofNat 32 (x / 2 ^ 96)]

/-- n bytes as an operation of a slot reads them. -/
def State.opRead (s : State) (g : SlotRef) (o : Op) (a n : Nat) : Nat :=
  (List.range n).foldl (fun x i =>
    x + (s.slotByte g ((s.grp g).earlier o.id) a n (a + i)).toNat * 256 ^ i) 0

/-- A slot has read n bytes at each of some places: what it has observed, and what an acquire orders before it (23 R352,
R353). -/
def State.afterRead (s : State) (g : SlotRef) (o : Op) (ls : List Nat) (n : Nat) (s0 : State) : State :=
  ((ls.foldl (fun t l => State.noteRead g o l n s0 t) s).drawRead).acquired g o

/-- Two lanes of an access return together: they name the same bytes, or bytes of one line of memory (09 R162, R168, 23
R357). -/
def LaneAcc.joins (a b : LaneAcc) : Bool :=
  match a.loc, b.loc with
  | some x, some y => decide (x = y) || (isPhys x && decide (lineOf x = lineOf y))
  | none, none => true
  | _, _ => false

/-- The lanes of an access whose data return with those of a mask. -/
def together (acc : List LaneAcc) (lanes : Word) (a : LaneAcc) : Bool :=
  (acc.filter (fun b => inMask lanes b.lane)).any (fun b => b.joins a)

/-- LOAD_DATA_RETURN (09 R162): the data of the lanes named, and of lanes that name the same bytes or line, is written to
their registers; the flag clears when no lane is left. A scalar load's data goes to the live register of the context that then
has its number (log 112, 133). -/
def execLoadDataReturn (g : SlotRef) (op : Nat) (lanes : Word) (s : State) : Host.Outcome State Fault Refusal :=
  .next (
    match (s.grp g).findOp op with
    | none => s
    | some o =>
      match o.kind with
      | .load k t acc =>
        if !s.mayPerform g o then s
        else
          let now := acc.filter (together acc lanes)
          let rest := acc.filter (fun a => !together acc lanes a)
          let s1 := s.modGrp g (fun h => now.foldl (fun h a =>
            h.setWords t a.lane (loadWords k (s.opRead g o (a.loc.getD 0) k.size))) h)
          (s1.afterRead g o (now.map (fun a => a.loc.getD 0)) k.size s).opStep g o
            (if rest = [] then none else some (.load k t rest))
      | .loadS n t a =>
        if !s.mayPerform g o then s
        else
          ((s.modCtxAt ⟨g, o.ctx⟩ (Context.setS t (BitVec.ofNat 64 (s.opRead g o (a.loc.getD 0) n)))).afterRead g o
            [a.loc.getD 0] n s).opStep g o none
      | .ldc t acc =>
        if !s.mayPerform g o then s
        else
          let now := acc.filter (together acc lanes)
          let rest := acc.filter (fun a => !together acc lanes a)
          let s1 := s.modGrp g (fun h => now.foldl (fun h a =>
            h.setV t a.lane (match a.loc with
              | some l => BitVec.ofNat 32 (s.readN l 4)
              | none => 0)) h)
          s1.opStep g o (if rest = [] then none else some (.ldc t rest))
      | _ => s)

/-- The number of a lane's data. -/
def LaneAcc.num (a : LaneAcc) : Nat :=
  (List.range a.data.length).foldl (fun x i => x + (a.data.getD i 0).toNat * 2 ^ (32 * i)) 0

/-- Hold a combiner wave's write until its MDONE (20 R324): a line of zeros that it holds gets storage (22 R335). -/
def State.holdWrite (obj a n x : Nat) (s : State) : State :=
  { s with mordant := s.mordant.upd obj (fun m =>
      { m with
        held := (List.range n).foldl (fun h i => SMap.ins h (a + i) (byteOf x i)) m.held
        zeros := m.zeros.filter (fun l => !(decide (64 * l < a + n) && decide (a < 64 * l + 64))) }) }

/-- A slot's ZLINE has written a line: it is a zero line, for a combiner wave once the wave commits (20 R324, 22 R335). -/
def State.storeZero (g : SlotRef) (line : Nat) (s : State) : State :=
  match (s.grp g).kind with
  | .combiner obj => { s with mordant := s.mordant.upd obj (fun m => { m with zeros := line :: m.zeros }) }
  | _ => s.zeroLine line

/-- Write a slot's store at its point of coherence, whence it reaches other agents (23 R350); a combiner wave's write is held
(09 R165, 20 R324). -/
def State.slotStore (g : SlotRef) (w : Write) (a n x : Nat) (s : State) : State :=
  match (s.grp g).kind with
  | .combiner obj => s.holdWrite obj a n x
  | _ => (s.store (some g.coreRef) a n x).publish w s ((List.range n).map (fun i => a + i))

/-- The object whose combiner wave writes n bytes at an address outside the extent of its batch (20 R324). -/
def State.strays (s : State) (g : SlotRef) (n : Nat) (acc : List LaneAcc) : Option Nat :=
  match (s.grp g).kind with
  | .combiner obj =>
    match s.mordant.look obj with
    | some m =>
      if acc.all (fun a => decide (m.va.toNat ≤ a.va.toNat) &&
          decide (a.va.toNat + n ≤ m.va.toNat + 64 * m.batch.lines)) then none
      else some obj
    | none => none
  | _ => none

/-- The address of a combiner wave's access that lies outside every lease: it ends the owner's task (20 R327). -/
def State.waveOut (s : State) (g : SlotRef) (n : Nat) (acc : List LaneAcc) : Option DWord :=
  if (s.grp g).isPlain then none
  else (acc.find? (fun a => !inSpw a.va && !(s.task (s.grp g).task).leased a.va.toNat n)).map LaneAcc.va

/-- The lines a store has written, charged once each (09 R173). -/
def State.chargeLines (g : SlotRef) (old new : List Nat) (s : State) : State :=
  s.chargeAt g 0 (64 * ((new.filter (fun x => !old.elem x)).length : Int))

/-- One lane of a store is performed or fails (09 R165, R175): the state, and what is left of the store. -/
structure StoreStep where
  s : State
  left : List LaneAcc
  failed : List LaneFail
  lines : List Nat
deriving DecidableEq, Repr

/-- Perform one lane. -/
def storeLane (g : SlotRef) (w : Write) (size : Nat) (t : StoreStep) (a : LaneAcc) : StoreStep :=
  match t.s.check45 g a.lane a.va size true with
  | .ok l x =>
    let s1 := (match x with
      | some y => t.s.remember g a.lane a.va y
      | none => t.s).slotStore g w l size (a.num % 256 ^ size)
    { t with s := s1, lines := (t.lines ++ spanLines [⟨l, size⟩]).eraseDups }
  | .trans sub =>
    { t with s := t.s.lookup g a.lane a.va, failed := t.failed ++ [⟨a.lane, a.va, sub, t.s.pageAt g a.lane a.va⟩] }
  | _ => { t with left := t.left ++ [a] }

/-- A slot's store completes: its flag clears (09 R165). -/
def State.storeEnd (g : SlotRef) (o : Op) (s : State) : State := (s.storeDone g o).opStep g o none

/-- The first lane of a store that lies outside every lease: the task ends and the store has no effect (09 R175, 22 R344). -/
def State.storeOut (s : State) (g : SlotRef) (n : Nat) (acc : List LaneAcc) : Option DWord :=
  (acc.find? (fun a => decide (s.check45 g a.lane a.va n true = .lease))).map LaneAcc.va

/-- A lower lane that is not performed yet writes a byte of this lane too: the higher lane must come last (09 R165). -/
def laneBlocked (s : State) (g : SlotRef) (size : Nat) (wait : List LaneAcc) (a : LaneAcc) : Bool :=
  wait.any (fun b => decide (b.lane < a.lane) &&
    (s.accSpans g true size [b]).any (fun x => (s.accSpans g true size [a]).any (fun y => x.meets y)))

/-- The lanes of a store that are performed with those named: all that lie on a line of theirs, so that another operation of
the slot meets the store's bytes of a line entirely or not at all (11 R213). -/
def State.withLines (s : State) (g : SlotRef) (size : Nat) (acc : List LaneAcc) (lanes : Word) (a : LaneAcc) : Bool :=
  let named := fun (b : LaneAcc) => inMask lanes b.lane || decide (b.lane = 32)
  named a || acc.any (fun b => named b &&
    (match s.accLoc g true size a, s.accLoc g true size b with
     | some x, some y => decide (lineOf x = lineOf y)
     | _, _ => false))

/-- STORE_PERFORM (09 R165): lanes of a posted store pass checks 4 and 5 and are written, or fail; a store with a lane outside
every lease ends the task before any lane is written (09 R175, 22 R344); a page in migration holds its lanes (22 R345). -/
def execStorePerform (g : SlotRef) (op : Nat) (lanes : Word) (s : State) : Host.Outcome State Fault Refusal :=
  .next (
    match (s.grp g).findOp op with
    | none => s
    | some o =>
      match o.kind with
      | .store size acc failed lines =>
        let now := acc.filter (s.withLines g size acc lanes)
        let rest := acc.filter (fun a => !s.withLines g size acc lanes a)
        if !s.mayPerform g o ∨ now = [] then s
        else if let some a := s.waveOut g size acc then s.endTask (s.grp g).task causeLease 0 a (s.handle g) o.clause o.idx
        else if let some obj := s.strays g size acc then s.abortWave obj 0x14
        else if let some a := s.storeOut g size acc then
          (s.opStep g o none).endTask (s.grp g).task causeLease 0 a (s.handle g) o.clause o.idx
        else
          let r := now.foldl (storeLane g (s.slotWrite g o) size) ⟨s.releaseAt g o.obs, [], failed, lines⟩
          let s1 := r.s.chargeLines g lines r.lines
          let left := acc.filter (fun a => rest.elem a || r.left.elem a)
          if left = [] ∧ r.failed = [] then s1.storeEnd g o
          else s1.opStep g o (some (.store size left r.failed r.lines))
      | .zline a failed =>
        if !s.mayPerform g o ∨ failed ≠ [] then s
        else if let some va := s.waveOut g 64 [a] then s.endTask (s.grp g).task causeLease 0 va (s.handle g) o.clause o.idx
        else if let some obj := s.strays g 64 [a] then s.abortWave obj 0x14
        else
          match s.check45 g a.lane a.va 64 true with
          | .ok l x =>
            let s1 := (match x with
              | some y => s.remember g a.lane a.va y
              | none => s).slotStore g (s.slotWrite g o) l 64 0
            let s2 := if isPhys l then s1.storeZero g (lineOf l) else s1
            (if isPhys l then s2.chargeAt g 0 64 else s2).storeEnd g o
          | .lease => (s.opStep g o none).endTask (s.grp g).task causeLease 0 a.va (s.handle g) o.clause o.idx
          | .trans sub => (s.lookup g a.lane a.va).opStep g o (some (.zline a [⟨32, a.va, sub, s.pageAt g a.lane a.va⟩]))
          | _ => s
      | _ => s)

/-- The store-fault record of a failed operation (09 R175): its mask covers the failed lanes, its address and subcode
are the lowest one's. -/
def mkStoreFault (g : SlotRef) (o : Op) (failed : List LaneFail) : StoreFault :=
  let low := failed.foldl (fun (b : LaneFail) f => if f.lane < b.lane then f else b) (failed.headD ⟨32, 0, 0, none⟩)
  ⟨g, o.clause, o.idx, o.pc, maskOf (fun l => failed.any (fun f => f.lane = l)), low.va, low.sub⟩

/-- STORE_FAULT_RECORD (09 R175, R176): once every lane is settled and the core's queue of 16 has room. -/
def execStoreFaultRecord (g : SlotRef) (op : Nat) (s : State) : Host.Outcome State Fault Refusal :=
  .next (
    match (s.grp g).findOp op with
    | none => s
    | some o =>
      let put : List LaneFail → State := fun failed =>
        if (s.core g.coreRef).faults.length < 16 then
          (((s.modCore g.coreRef (fun c => { c with faults := c.faults ++ [mkStoreFault g o failed] })).count g.coreRef 10 1
            ).storeEnd g o)
        else s
      match o.kind with
      | .store _ acc failed _ => if acc = [] ∧ failed ≠ [] then put failed else s
      | .zline _ failed => if failed ≠ [] then put failed else s
      | _ => s)

/-- PREF_COMPLETE (09 R170, R173): the line arrives, charged where it is filled, or the request was dropped. Whether a line
that the L1 may hold is still there, the part decides (log 8). -/
def execPrefComplete (g : SlotRef) (op : Nat) (s : State) : Host.Outcome State Fault Refusal :=
  .next (
    match (s.grp g).findOp op with
    | none => s
    | some o =>
      match o.kind with
      | .pref none _ => s.opStep g o none
      | .pref (some line) _ =>
        let held := (s.core g.coreRef).l1.elem line
        let s1 := if held then s.draw else s
        if held ∧ !Config.freeBit s.free then s1.opStep g o none
        else
          (((s1.modCore g.coreRef (fun c => { c with l1 := if c.l1.elem line then c.l1 else line :: c.l1 })).recallLine
            (some (clusterKey g)) line).chargeAt g 0 64).opStep g o none
      | _ => s)

end Sys2Proof.Machine
end

