-- ==== Sys2Proof/Machine/Fetch.lean ====
section
/-! DEFINITION. What happens when a context's turn comes: fetch, the checks on the word, and time passing (02 R14-R17,
10 R187, 24 R366). -/

namespace Sys2Proof.Machine

/-- A wave that has executed 4,096 instructions has none left (08 R152, 20 R327). -/
def Group.spent (g : Group) : Bool := decide (g.kind ≠ .group) && decide (4096 ≤ g.executed)

/-- The group is a lane-handler wave. -/
def Group.isLaneWave (g : Group) : Bool :=
  match g.kind with
  | .laneWave _ _ => true
  | _ => false

/-- A slot's partition has issued in this core cycle (05 R89, R97, 10 R188). -/
def State.issuedNow (s : State) (g : SlotRef) : Bool :=
  ((s.core g.coreRef).issued.look g.partition).any (fun x => decide (x.2 = s.tick))

/-- A slot that was ready and not picked for 1,024 consecutive ready cycles is promoted, which is counted (10 R188, R200). -/
def State.promote (g : SlotRef) (s : State) : State :=
  if s.hasGrp g ∧ 1024 ≤ (s.grp g).waited ∧ (s.grp g).promoted = false then
    (s.modGrp g (fun h => { h with promoted := true })).count g.coreRef 14 1
  else s

/-- A slot's partition issues from it in this core cycle: its waiting count begins anew (10 R188). -/
def State.pick (g : SlotRef) (s : State) : State :=
  ((s.promote g).modGrp g (fun h => { h with waited := 0, promoted := false })).modCore g.coreRef (fun c =>
    { c with issued := c.issued.ins g.partition (g.slot, s.tick) })

/-- A slot is held by FENCE, until the operations it waits for have gone, or by STDRAIN, until it resolves (09 R171, R172). -/
def Group.isHeld (g : Group) : Bool :=
  g.hold.any (fun n => (g.findOp n).isSome) || g.ctxs.any (fun c => decide (c.2.stop = .stdrain))

/-- A context runs, its slot is not held by FENCE or STDRAIN and not saved by GRACE (10 R187, 19 R302), and it has no instruction that stops its fetch (02 R24,
11 R226). -/
def State.mayIssue (s : State) (c : CtxId) : Bool :=
  s.hasCtx c && decide (((s.grp c.g).ctx c.i).stop = .running) && !(s.grp c.g).isHeld && !(s.grp c.g).isGrace &&
    !(s.grp c.g).ops.any (fun o => decide (o.ctx = c.i) && o.stopsFetch)

/-- What a context's next word is. -/
inductive Next where
  /-- the context cannot issue, or its word cannot be fetched and nothing is stated of it (log 13) -/
  | nothing
  /-- outside every lease: the task ends (22 R344) -/
  | lease
  /-- a fetch fault at TVEC, at LANEHND, or in a method (24 R366, 20 R327) -/
  | handlerFault
  /-- the word at the pc is not a header where one is required (02 R17) -/
  | noHeader
  | word (d : Decoded) (long : Bool) (cls : Nat)
deriving DecidableEq, Repr

/-- A lane-handler wave that has executed nothing yet (24 R366). -/
def Group.freshWave (g : Group) : Bool :=
  match g.kind with
  | .laneWave _ _ => decide (g.executed = 0)
  | _ => false

/-- Fetch and decode the next word of the context that issues (02 R14, R17). -/
def State.nextWord (s : State) : Next :=
  let fresh := s.me.handler.any (fun h => h.ctx = s.cur.i && h.fresh) || s.me.freshWave
  match s.fetchHalf s.cur.g s.ctx.pc with
  | .bad => if fresh || !s.me.isPlain then .handlerFault else .nothing
  | .lease => if fresh then .handlerFault else .lease
  | .moving _ => .nothing
  | .half h0 =>
    if s.ctx.due ∧ !isHeader h0 then (if fresh then .handlerFault else .noHeader)
    else if isLong h0 then
      match s.fetchHalf s.cur.g (s.ctx.pc + 2) with
      | .bad => if fresh || !s.me.isPlain then .handlerFault else .nothing
      | .lease => if fresh then .handlerFault else .lease
      | .moving _ => .nothing
      | .half h1 => .word (decodeWords h0 h1) true (h0 / 2 % 8)
    else .word (decodeWords h0 0) false 8

/-- An encoding that is not an instruction traps ILLEGAL; behind a class-010 word a header must follow (02 R16, R41). -/
def illegalWord (long : Bool) (cls sub : Nat) (s : State) : State :=
  if cls = 2 then s.raiseB causeIllegal (BitVec.ofNat 64 sub) 0 else s.illegal (if long then 4 else 2) sub

/-- A fetch fault at TVEC or at LANEHND ends the task with DFAULT (24 R366); one in a method aborts the batch (20
R327). -/
def fetchFault (s : State) : State :=
  match s.me.kind with
  | .combiner obj => s.abortWave obj 0x11
  | .group => s.endTaskAt s.cur causeDfault 0x01 s.ctx.pc
  | .laneWave _ _ => s.endTaskAt s.cur causeDfault 0x02 s.ctx.pc

/-- Contexts of a core that stand in a barrier stall (10 R200). -/
def State.stalls (s : State) (k : Nat) : Nat :=
  ((s.groups.filter (fun e => e.1 / 64 = k)).map (fun e =>
    (e.2.ctxs.filter (fun c =>
      match c.2.stop with
      | .barrier _ _ (some _) => true
      | _ => false)).length)).foldl (· + ·) 0

/-- A header waits: for a flag that its WAIT names, or for its group's save (02 R22, 19 R302). -/
def State.headerWaits (w : BitVec 12) (bad : Bool) (s : State) : Bool :=
  s.headerDelivery.isNone && !bad && (s.held || s.nextMoving || !(waitFlags w).all s.me.flagClear)

/-- The instruction cannot issue yet: a header that waits; EXIT, CONT and YIELD that save, an ending RETT and MDONE before
the drain; a read of FPFLAGS before the slot's QMVs have completed (02 R27, 06 R108). -/
def State.waits (i : Instr) (s : State) : Bool :=
  match i with
  | .clauseHeader w setA setB p neg en =>
    s.headerWaits w ((!en && (neg || decide (p ≠ 0))) || !flagCode setA || !flagCode setB || s.emptyClause)
  | .exit => decide (s.me.kind = .group) && !s.me.drained s.cur.i false
  | .cont _ _ => s.yielding && !s.me.drained s.cur.i true
  | .yield => s.yielding && !s.me.drained s.cur.i true
  | .rett => s.me.handler.any (fun h => h.ctx = s.cur.i && h.trap.ends) && !s.me.drainedEnd s.cur.i
  | .mdone =>
    (match s.me.kind with
     | .combiner _ => !s.full s.flagB && !s.me.drained s.cur.i false
     | _ => false)
  | .srsr _ n => decide (n = 6) && s.me.ops.any Op.isQmv
  | _ => false

/-- A context is ready: its next word can issue (10 R187). -/
def State.ready (s : State) (c : CtxId) : Bool :=
  s.mayIssue c &&
    (let t : State := { s with cur := c }
     match t.nextWord with
     | .nothing => false
     | .word (.ok i) _ _ => !t.waits i
     | .word (.escape _) _ _ => t.umberNext.isNone
     | _ => true)

/-- The slot was picked in this core cycle. -/
def State.pickedNow (s : State) (g : SlotRef) : Bool := decide ((s.core g.coreRef).issued.look g.partition = some (g.slot, s.tick))

/-- A cycle passes that a slot was ready in and was not picked, or that it was not ready in (10 R188). -/
def State.wait (s : State) (e : Nat × Group) : Nat × Group :=
  let g := slotOfKey e.1
  if s.pickedNow g then (e.1, { e.2 with fpnow := 0 })
  else if (s.grp g).ctxs.any (fun c => s.ready ⟨g, c.1⟩) then (e.1, { e.2 with waited := e.2.waited + 1, fpnow := 0 })
  else (e.1, { e.2 with waited := 0, promoted := false, fpnow := 0 })

/-- A wave stands at its 4,097th instruction (08 R152, 20 R327). -/
def State.overruns (s : State) (g : SlotRef) : Bool :=
  (s.grp g).spent && (s.grp g).ctxs.any (fun c => s.ready ⟨g, c.1⟩)

/-- What the 4,097th instruction of a wave does in its place: the wave's task ends with DFAULT, or its batch aborts (08
R152, 20 R327). -/
def State.waveLimit (g : SlotRef) (s : State) : State :=
  match (s.grp g).kind with
  | .group => s
  | .laneWave _ _ => s.endTask (s.grp g).task causeDfault 0x05 0 (s.handle g) ((s.grp g).ctx 0).clause 0
  | .combiner obj => s.abortWave obj 0x13

end Sys2Proof.Machine
end

