-- ==== Sys2Proof/Machine/Load.lean ====
section
/-! DEFINITION. A program placed from outside the machine: what the fetch of one instruction needs (log 2). The S4
fetches through page tables, leases, a task, a team and a group; the manual has software and the distributor make
them, and this load stands for that. -/

namespace Sys2Proof.Machine

/-- Where the load puts the address-space table, the root table and the tables of levels 3 and 2. -/
def loadAst : Nat := 0x100000
def loadRoot : Nat := 0x200000
def loadL3 : Nat := 0x201000
def loadL2 : Nat := 0x202000

/-- Where the code lies: virtual, and the 1 GiB frame that maps virtual 0. -/
def loadVa : Nat := 0x1000
def loadFrame : Nat := 0x40000000

/-- The tables: one 1 GiB leaf with V, W, X maps virtual 0 to the frame (22 R337, R338). -/
def State.loadTables (s : State) : State :=
  { (((s.writeN loadAst 8 (loadRoot + 1)).writeN loadRoot 8 (loadL3 + 1)).writeN loadL3 8 (loadL2 + 1)).writeN loadL2 8
      (loadFrame + 0xF) with
    io := { s.io with astbase := BitVec.ofNat 64 loadAst } }

/-- A task whose lease is one page of code text (22 R341). -/
def loadTask : Task :=
  { Task.empty with
    gridId := 1
    depth := 1
    l := { Launch.empty with cls := 4, entry := BitVec.ofNat 64 loadVa, groups := 1, regs := 256, grace := 65535 }
    d := { Launching.empty with teams := 1, dies := [0] }
    leases := [⟨loadVa, 4096, false, false, true⟩]
    pi := 0
    pt := 0
    phase := .accepted
    unretired := 1 }

/-- Its one team, of one group, on core 0 of die 0 (05 R99). -/
def loadTeam (k : Nat) : Team :=
  { Team.empty with
    task := k
    groups := 1
    cores := [⟨0, 0⟩]
    slots := [(0, .at ⟨0, 0, 0⟩)]
    ci := 2 ^ 40
    ct := 2 ^ 40
    grace := 65535
    retired := false }

/-- Its context: all lanes live, at the code; inside an open clause, or where a header is due (02 R16). -/
def loadCtx (due : Bool) : Context :=
  { Context.empty with
    s := [(55, BitVec.ofNat 64 Config.spwBase)]
    p0 := 0xFFFFFFFF
    pc := BitVec.ofNat 64 loadVa
    clause := BitVec.ofNat 64 (loadVa - 4)
    due := due
    pred := 0xFFFFFFFF }

/-- Its group in slot 0 (05 R83, R84). -/
def loadGroup (t k : Nat) (due : Bool) : Group :=
  { Group.empty with
    team := t
    task := k
    ctxs := [(0, loadCtx due)]
    teamThread := SMap.table 32 0 0 (fun l => BitVec.ofNat 32 l)
    origin := SMap.table 32 0 0 (fun l => BitVec.ofNat 32 l)
    regalloc := 256 }

/-- The state with the instruction's bytes at the code address and a context that issues it next. -/
def State.load (s : State) (bytes w : Nat) : State :=
  let k := s.serial
  let due := decide (w % 16 = 1)
  let s1 := (s.loadTables).writeN (loadFrame + loadVa) bytes w
  { s1 with
    io := { s1.io with boot := { s1.io.boot with booted := true } }
    agenda := [.issue ⟨⟨0, 0, 0⟩, 0⟩]
    serial := s.serial + 1
    tasks := s.tasks.ins k loadTask
    teams := s.teams.ins k (loadTeam k)
    groups := s.groups.ins 0 (loadGroup k k due) }

end Sys2Proof.Machine
end

