-- ==== Sys2Proof/Machine/Atomics.lean ====
section
/-! DEFINITION. Atomic instructions (14 R249, 20 R309-R315). -/

namespace Sys2Proof.Machine

/-! ## The operations (20 R309, R311) -/

/-- The word i of a lane's operands, as a number. -/
def word (ws : List Word) (i : Nat) : Nat := (ws.getD i 0).toNat

/-- The 64-bit operand whose low word is word i. -/
def pair (ws : List Word) (i : Nat) : Nat := word ws i + 2 ^ 32 * word ws (i + 1)

/-- A number of 32 bits read as signed. -/
def int32 (x : Nat) : Int := (BitVec.ofNat 32 x).toInt

/-- The value an atomic writes, from the old value and the lane's operands. For AADDL the old value is the word at A, and
`limit` the word behind it. -/
def AtomKind.new (k : AtomKind) (old limit : Nat) (ws : List Word) : Nat :=
  let x := word ws 0
  match k with
  | .add => (old + x) % 2 ^ 32
  | .and_ => old &&& x
  | .or_ => old ||| x
  | .xor_ => old ^^^ x
  | .min => if int32 x < int32 old then x else old
  | .max => if int32 old < int32 x then x else old
  | .minn => if x < old then x else old
  | .maxn => if old < x then x else old
  | .xchg => x
  | .cas => if old = x then word ws 1 else old
  | .fadd => (fmt32.add 0 (fmt32.val old) (fmt32.val x)).bits
  | .binc => if old < x then old + 1 else old
  | .winc => if x ≤ old then 0 else old + 1
  | .decp => if 0 < int32 old then old - 1 else old
  | .addl => if old + x ≤ limit then old + x else old
  | .add64 => (old + pair ws 0) % 2 ^ 64
  | .xchg64 => pair ws 0
  | .cas64 => if old = pair ws 0 then pair ws 2 else old
  | .min64n => if pair ws 0 < old then pair ws 0 else old

/-- The registers an atomic names from vt, its result registers, and their alignment. -/
def AtomKind.regs : AtomKind → Nat × Nat × Nat
  | .cas => (2, 1, 1)
  | .add64 => (2, 2, 2)
  | .xchg64 => (2, 2, 2)
  | .cas64 => (4, 2, 2)
  | .min64n => (2, 2, 2)
  | _ => (1, 1, 1)

/-! ## Issue (20 R310) -/

/-- The checks of R160 for a lane, with the barrier words (10 R194). -/
def State.atomCheck (s : State) (l : Nat) (a : DWord) (n : Nat) : LaneCheck :=
  match s.checkAcc s.cur.g l a n n true with
  | .ok x y => ⟨l, a, if s.hitsBarrier s.cur.g a then .addr else .ok x y⟩
  | r => ⟨l, a, r⟩

/-- An atomic instruction. -/
def vatomic (k : AtomKind) (code t vx b obs : Nat) (s : State) : State :=
  guarded
    [(!s.vAll [⟨t, k.regs.1, k.regs.2.2⟩, ⟨vx, 1, 1⟩], State.illegal 4 3), (s.full s.flagA, State.illegal 4 5)]
    (fun s =>
      let cs := (lanesOf s.active).map (fun l => s.atomCheck l (s.vaddr b vx l) k.extent)
      match leaseFail cs with
      | some c => s.endTaskAt s.cur causeLease 0 c.va
      | none =>
        match migrates cs with
        | some p => s.park p
        | none =>
          let acc := cs.filterMap (fun c => c.acc (s.vdata t k.regs.1 c.lane))
          let o := s.mkOp s.flagA (s.obsSet obs) (.atomic k t acc [])
          issueOrHold o (cs.filterMap LaneCheck.trap) t k.regs.2.1 code
            ((s.rememberAll s.cur.g cs).countBanks (acc.filterMap (fun a => a.loc.map (fun l => ⟨l, k.extent⟩))))) s

def execAadd (t vx k obs : Nat) (s : State) : Host.Outcome State Fault Refusal := .next (vatomic .add 0x20 t vx k obs s)
def execAand (t vx k obs : Nat) (s : State) : Host.Outcome State Fault Refusal := .next (vatomic .and_ 0x21 t vx k obs s)
def execAor (t vx k obs : Nat) (s : State) : Host.Outcome State Fault Refusal := .next (vatomic .or_ 0x22 t vx k obs s)
def execAxor (t vx k obs : Nat) (s : State) : Host.Outcome State Fault Refusal := .next (vatomic .xor_ 0x23 t vx k obs s)
def execAmin (t vx k obs : Nat) (s : State) : Host.Outcome State Fault Refusal := .next (vatomic .min 0x24 t vx k obs s)
def execAmax (t vx k obs : Nat) (s : State) : Host.Outcome State Fault Refusal := .next (vatomic .max 0x25 t vx k obs s)
def execAminn (t vx k obs : Nat) (s : State) : Host.Outcome State Fault Refusal := .next (vatomic .minn 0x26 t vx k obs s)
def execAmaxn (t vx k obs : Nat) (s : State) : Host.Outcome State Fault Refusal := .next (vatomic .maxn 0x27 t vx k obs s)
def execAxchg (t vx k obs : Nat) (s : State) : Host.Outcome State Fault Refusal := .next (vatomic .xchg 0x28 t vx k obs s)
def execAcas (t vx k obs : Nat) (s : State) : Host.Outcome State Fault Refusal := .next (vatomic .cas 0x29 t vx k obs s)
def execAfadd (t vx k obs : Nat) (s : State) : Host.Outcome State Fault Refusal := .next (vatomic .fadd 0x2A t vx k obs s)
def execAbinc (t vx k obs : Nat) (s : State) : Host.Outcome State Fault Refusal := .next (vatomic .binc 0x2B t vx k obs s)
def execAwinc (t vx k obs : Nat) (s : State) : Host.Outcome State Fault Refusal := .next (vatomic .winc 0x2C t vx k obs s)
def execAdecp (t vx k obs : Nat) (s : State) : Host.Outcome State Fault Refusal := .next (vatomic .decp 0x2D t vx k obs s)
def execAaddl (t vx k obs : Nat) (s : State) : Host.Outcome State Fault Refusal := .next (vatomic .addl 0x2E t vx k obs s)
def execAadd64 (t vx k obs : Nat) (s : State) : Host.Outcome State Fault Refusal :=
  .next (vatomic .add64 0x30 t vx k obs s)
def execAxchg64 (t vx k obs : Nat) (s : State) : Host.Outcome State Fault Refusal :=
  .next (vatomic .xchg64 0x31 t vx k obs s)
def execAcas64 (t vx k obs : Nat) (s : State) : Host.Outcome State Fault Refusal :=
  .next (vatomic .cas64 0x32 t vx k obs s)
def execAmin64n (t vx k obs : Nat) (s : State) : Host.Outcome State Fault Refusal :=
  .next (vatomic .min64n 0x33 t vx k obs s)

/-! ## Where an atomic executes, and its charge (20 R313, R315, 14 R249) -/

/-- A global atomic with this observer set executes in the cluster's atomic unit: the set is non-empty and within
{TEAM, CLUSTER}. -/
def inCluster (obs : BitVec 7) : Bool := decide (obs ≠ 0) && decide (obs &&& 0x7C = 0)

/-- The cluster's unit uses a line: what it held before, least recently used first, gives one up beyond 1,024. -/
def useLine (line : Nat) (ls : List Nat) : List Nat :=
  let x := ls.filter (fun y => y != line) ++ [line]
  if 1024 < x.length then x.drop 1 else x

/-- The atomic executes in its core's cluster atomic unit; a combiner wave's are served by the home slice (20 R313, R324). -/
def State.byUnit (s : State) (g : SlotRef) (obs : BitVec 7) : Bool := inCluster obs && (s.grp g).isPlain

/-- The lines that an atomic pays for now, of those that it accesses: not those it has paid, nor those that the unit holds
already (20 R315). -/
def State.atomicPays (s : State) (g : SlotRef) (obs : BitVec 7) (paid now : List Nat) : List Nat :=
  let held := if s.byUnit g obs then s.atomicLines.get [] (clusterKey g) else []
  now.filter (fun x => !paid.elem x && !held.elem x)

/-- An atomic executes at the fabric port, which takes its line from every unit and L1 (27 R395). -/
def State.atPort (s : State) (g : SlotRef) (obs : BitVec 7) : Bool := decide (obs &&& 0x60 ≠ 0) && (s.grp g).isPlain

/-- An atomic's lines are charged, and stand in the unit that executes it, or in no unit where the home slice or a fabric port
does (14 R249, 20 R313, R315, 27 R395). -/
def State.chargeAtomic (g : SlotRef) (obs : BitVec 7) (paid now : List Nat) (s : State) : State :=
  let k := clusterKey g
  let s1 : State :=
    if s.byUnit g obs then
      let held := s.atomicLines.get [] k
      let ls := now.foldl (fun ls x => useLine x ls) held
      (held.filter (fun x => !ls.elem x)).foldl (fun s x => s.zeroBack x) { s with atomicLines := s.atomicLines.ins k ls }
    else now.foldl (fun t x => if s.atPort g obs then t.takeLine x else t.recallLine none x) s
  s1.chargeAt g 0 (64 * ((s.atomicPays g obs paid now).length : Int))

/-- The write of an atomic: one with an observer set is an acquire too, so that it happens before what the slot does next (20
R314, 23 R352). -/
def State.atomWrite (s : State) (g : SlotRef) (o : Op) : Write :=
  let w := s.slotWrite g o
  if o.obs = 0 then w else { w with reach := .known g w.task 0x7F (o.id + 1) :: w.reach }

/-- One lane's access: the old value goes to its registers and the new one to memory. -/
def State.atomLane (g : SlotRef) (w : Write) (k : AtomKind) (t : Nat) (a : LaneAcc) (s : State) : State :=
  let l := a.loc.getD 0
  let rd := fun (p n : Nat) => (List.range n).foldl (fun x i => x + (s.baseByte g (p + i)).toNat * 256 ^ i) 0
  let old := rd l k.size
  let limit := if k = .addl then rd (l + 4) 4 else 0
  let s1 := s.slotStore g w l k.size (k.new old limit a.data)
  s1.modGrp g (fun h => h.setWords t a.lane
    (if k.size = 8 then [BitVec.ofNat 32 old, BitVec.ofNat 32 (old / 2 ^ 32)] else [BitVec.ofNat 32 old]))

/-- ATOMIC_PERFORM (20 R310, R312-R314): the lanes named make their accesses, in ascending order; lanes that name the
same bytes keep that order. -/
def execAtomicPerform (g : SlotRef) (op : Nat) (lanes : Word) (s : State) : Host.Outcome State Fault Refusal :=
  .next (
    match (s.grp g).findOp op with
    | none => s
    | some o =>
      match o.kind with
      | .atomic k t acc lines =>
        let now := acc.filter (fun a => inMask lanes a.lane)
        let rest := acc.filter (fun a => !inMask lanes a.lane)
        if !s.mayPerform g o ∨ now.any (laneBlocked s g k.extent rest) then s
        else if let some obj := s.strays g k.extent acc then s.abortWave obj 0x14
        else
          let new := spanLines (now.map (fun a => ⟨a.loc.getD 0, k.size⟩))
          let s1 := now.foldl (fun s a => s.atomLane g (s.atomWrite g o) k t a) (s.releaseAt g o.obs)
          let s2 := (s1.chargeAtomic g o.obs lines new).acquired g o
          if rest = [] then s2.storeEnd g o
          else s2.opStep g o (some (.atomic k t rest (lines ++ s1.atomicPays g o.obs lines new)))
      | _ => s)

end Sys2Proof.Machine
end

