-- ==== Sys2Proof/Machine/EngineMath.lean ====
section
/-! DEFINITION. The arithmetic of the matrix engine: elements of a slot, exact chunk sums, and the conversions of MSTA
(04 R73-R80, 11 R208, R214-R218). -/

namespace Sys2Proof.Machine

/-! ## Exact arithmetic on decoded values -/

/-- The exact product. -/
def FVal.mul (a b : FVal) : FVal :=
  match a, b with
  | .nan, _ => .nan
  | _, .nan => .nan
  | .inf x, .inf y => .inf (xor x y)
  | .inf x, .fin y m _ => if m = 0 then .nan else .inf (xor x y)
  | .fin x m _, .inf y => if m = 0 then .nan else .inf (xor x y)
  | .fin x m e, .fin y n f => .fin (xor x y) (m * n) (e + f)

/-- The exact sum (04 R78): infinities of both signs give NaN. -/
def FVal.add (a b : FVal) : FVal :=
  match a, b with
  | .nan, _ => .nan
  | _, .nan => .nan
  | .inf x, .inf y => if x = y then .inf x else .nan
  | .inf x, _ => .inf x
  | _, .inf y => .inf y
  | .fin x m e, .fin y n f =>
    let r := exactAdd 0 x m e y n f
    .fin r.1 r.2.1 r.2.2

/-- Exactly zero. -/
def FVal.isZero : FVal → Bool
  | .fin _ m _ => decide (m = 0)
  | _ => false

/-- NaN or an infinity. -/
def FVal.special : FVal → Bool
  | .fin _ _ _ => false
  | _ => true

/-- The magnitude. -/
def FVal.abs : FVal → FVal
  | .nan => .nan
  | .inf _ => .inf false
  | .fin _ m e => .fin false m e

/-- The sign bit. -/
def FVal.isNeg : FVal → Bool
  | .nan => false
  | .inf n => n
  | .fin n _ _ => n

/-- The exact sum of a chunk's products (04 R78). -/
def chunkSum (a b : List FVal) : FVal := (List.zipWith FVal.mul a b).foldl FVal.add (.fin false 0 0)

/-- An accumulator word takes a chunk sum (04 R78, R79): an exact zero leaves it. -/
def accumulate (acc : Word) (s : FVal) : Word :=
  if s.isZero then acc
  else BitVec.ofNat 32 (fmt32.add 0 (fmt32.val acc.toNat) (fmt32.val (fmt32.cvt 0 s).bits)).bits

/-! ## Elements (04 R73-R76) -/

/-- Bytes of a byte-addressed element. -/
def elemSize (fmt : Nat) : Nat := if fmt = 0 ∨ fmt = 9 then 4 else if fmt = 1 ∨ fmt = 2 then 2 else 1

/-- The magnitude a q4 magnitude index has in block type T, before scaling (04 R74): m * 2^e. -/
def q4Mag (t m : Nat) : Nat × Int :=
  if t = 0 then (m, 0)
  else if t = 2 then (if m = 0 then (0, 0) else (1, (m : Int) - 4))
  else ([0, 1, 2, 3, 4, 6, 8, 12].getD m 0, if t = 1 then -1 else 0)

/-- The value of a q4 code under a scale byte (04 R74). -/
def q4Val (code scale : Nat) : FVal :=
  let e := scale % 64
  let t := scale / 64
  if e = 0 then .fin false 0 0
  else if e = 63 then .nan
  else
    let neg := decide (8 ≤ code)
    let m := if t = 0 then (if neg then 16 - code else code) else code % 8
    let r := q4Mag t m
    .fin neg r.1 (r.2 + e - 32)

/-- The value of digit k of a t3 byte with scale base s (04 R76); a reserved byte is NaN. -/
def t3Val (byte k : Nat) (s : FVal) : FVal :=
  if 243 ≤ byte then .nan
  else
    let d := byte / 3 ^ k % 3
    if d = 1 then .fin false 0 0 else if d = 2 then s else s.neg

/-- The value of a floating element's bits (11 R203). -/
def floatVal (fmt bits : Nat) : FVal :=
  if fmt = 0 then fmt32.val bits
  else if fmt = 1 then fmt16.val bits
  else if fmt = 2 then fmtB16.val bits
  else if fmt = 3 then fmtE4.val bits
  else fmtE5.val bits

/-- Byte b of row r of an operand slot. -/
def OmSlot.byte (m : OmSlot) (r b : Nat) : Nat := (m.bytes.get 0 (256 * r + b)).toNat

/-- n bytes of row r from byte b, little-endian. -/
def OmSlot.num (m : OmSlot) (r b : Nat) : Nat → Nat
  | 0 => 0
  | n + 1 => m.byte r b + 256 * m.num r (b + 1) n

/-- Element e of row r in a floating format (11 R214). -/
def OmSlot.elem (m : OmSlot) (t : Tag) (r e : Nat) : FVal :=
  if t.fmt = 7 then q4Val (m.byte r (e / 2) / 16 ^ (e % 2) % 16) (m.side.get 0 (16 * r + e / 32)).toNat
  else if t.fmt = 8 then t3Val (m.byte r (e / 5)) (e % 5) (fmt32.val t.scale)
  else floatVal t.fmt (m.num r (elemSize t.fmt * e) (elemSize t.fmt))

/-- Element e of row r in .i8 or .n8. -/
def OmSlot.elemInt (m : OmSlot) (t : Tag) (r e : Nat) : Int :=
  let x := m.byte r e
  if t.fmt = 5 ∧ 128 ≤ x then (x : Int) - 256 else x

/-- A reserved t3 byte lies in row r (11 R215). -/
def OmSlot.reservedRow (m : OmSlot) (t : Tag) (r : Nat) : Bool :=
  decide (t.fmt = 8) && (List.range 256).any (fun b => decide (243 ≤ m.byte r b))

/-- Chunk k of row r. -/
def OmSlot.chunk (m : OmSlot) (t : Tag) (r k : Nat) : List FVal := (List.range 32).map (fun i => m.elem t r (32 * k + i))
def OmSlot.chunkInt (m : OmSlot) (t : Tag) (r k : Nat) : List Int :=
  (List.range 32).map (fun i => m.elemInt t r (32 * k + i))

/-- Every element of chunk k of row r is ±0 (11 R208, R213): a t3 digit 1, a q4 element whose block is zero. -/
def OmSlot.chunkZero (m : OmSlot) (t : Tag) (r k : Nat) : Bool :=
  if t.fmt = 5 ∨ t.fmt = 6 ∨ t.fmt = 9 then (m.chunkInt t r k).all (fun x => decide (x = 0)) else (m.chunk t r k).all FVal.isZero

/-- Some element of chunk k of row r is a NaN or an infinity (11 R208, R213). -/
def OmSlot.chunkNf (m : OmSlot) (t : Tag) (r k : Nat) : Bool :=
  !(decide (t.fmt = 5) || decide (t.fmt = 6) || decide (t.fmt = 9)) && (m.chunk t r k).any FVal.special

/-- The 32-element chunks of a row: 64, 128, 256, 512 or 1,280 elements by the format (11 R208). -/
def rowChunks (fmt : Nat) : Nat :=
  if fmt = 0 ∨ fmt = 9 then 2 else if fmt = 1 ∨ fmt = 2 then 4 else if fmt = 7 then 16 else if fmt = 8 then 40 else 8

/-- The +0 byte of a format's code bytes (11 R213). -/
def zeroByte (fmt : Nat) : Byte := if fmt = 8 then 121 else 0

/-! ## The pairings of R214 -/

/-- The class of operands that a format belongs to. -/
def pairClass (fmt : Nat) : Option Nat :=
  if fmt = 1 ∨ fmt = 2 then some 0
  else if fmt = 3 ∨ fmt = 4 then some 1
  else if fmt = 5 ∨ fmt = 6 then some 2
  else if fmt = 7 then some 3
  else if fmt = 8 then some 4
  else none

/-- Chunks per row of a class. -/
def chunksOf (cls : Nat) : Nat :=
  if cls = 0 then 4 else if cls = 3 then 16 else if cls = 4 then 40 else 8

/-! ## Conversion (11 R218, R232) -/

/-- Engine status bits (11 R220). -/
def stNv : Nat := 1
def stOf : Nat := 2
def stUf : Nat := 4
def stRsvd : Nat := 8
def stMchk : Nat := 16
def stEmpty : Nat := 32

/-- A stored element: its bits and the status it sets. -/
structure Stored where
  bits : Nat
  st : Nat
deriving DecidableEq, Repr

/-- The format of a floating code. -/
def fmtOf (fmt : Nat) : Fmt :=
  if fmt = 0 then fmt32 else if fmt = 1 then fmt16 else if fmt = 2 then fmtB16 else if fmt = 3 then fmtE4 else fmtE5

/-- The status of events. -/
def evStatus (ev : Ev) : Nat :=
  (if ev &&& evNV ≠ 0 then stNv else 0) + (if ev &&& evOF ≠ 0 then stOf else 0) + (if ev &&& evUF ≠ 0 then stUf else 0)

/-- A floating target of MSTA (11 R218): the exact product, rounded once; mode 2 turns a finite overflow into the
largest finite value. -/
def storeFloat (fmt mode : Nat) (acc scale : FVal) : Stored :=
  let f := fmtOf fmt
  let x := acc.mul scale
  match x with
  | .nan =>
    ⟨f.nan, if (decide (acc ≠ .nan) && decide (scale ≠ .nan)) || decide (fmt = 3) then stNv else 0⟩
  | _ =>
    let r := f.cvt (if mode = 1 then 1 else 0) x
    let bits := if mode = 2 ∧ r.ev &&& evOF ≠ 0 then f.sign x.isNeg + f.maxBits else r.bits
    ⟨bits, evStatus r.ev⟩

/-- An integer target of MSTA: copy, or saturate to the target's range. -/
def storeInt (fmt : Nat) (acc : Word) : Stored :=
  if fmt = 9 then ⟨acc.toNat, 0⟩
  else
    let lo : Int := if fmt = 5 then -128 else 0
    let hi : Int := if fmt = 5 then 127 else 255
    let x := acc.toInt
    let y := max lo (min hi x)
    ⟨(y % 256).toNat, if x = y then 0 else stOf⟩

/-- One element of MSTA to a byte-addressed target (11 R218): with SCALE = 1.0 and mode 0 an .f32 target receives the
word bit for bit. -/
def storeElem (fmt mode scale : Nat) (acc : Word) : Stored :=
  if fmt = 5 ∨ fmt = 6 ∨ fmt = 9 then storeInt fmt acc
  else if fmt = 0 ∧ mode = 0 ∧ scale = 0x3F800000 then ⟨acc.toNat, 0⟩
  else storeFloat fmt mode (fmt32.val acc.toNat) (fmt32.val scale)

/-- a ≤ b on magnitudes. -/
def FVal.le (a b : FVal) : Bool := !(b.lt false a)

/-- The value of a q4 magnitude index at exponent field E. -/
def q4At (t e m : Nat) : FVal := .fin false (q4Mag t m).1 ((q4Mag t m).2 + e - 32)

/-- The magnitude index nearest to a magnitude, a tie to the even index (04 R75). -/
def q4Nearest (t e : Nat) (x : FVal) : Nat :=
  ((List.range 7).foldl (fun (b : Nat × FVal) i =>
    let m := i + 1
    let d := (x.add (q4At t e m).neg).abs
    if d.lt false b.2 ∨ (!(b.2.lt false d) ∧ m % 2 = 0) then (m, d) else b) (0, x)).1

/-- An encoded q4 block: 32 codes, its scale byte and the status it sets. -/
structure Q4Block where
  codes : List Nat
  scale : Nat
  st : Nat
deriving DecidableEq, Repr

/-- Encode a block of 32 values with block type T (04 R75). -/
def q4Encode (t : Nat) (xs : List FVal) : Q4Block :=
  if xs.any FVal.special then ⟨List.replicate 32 0, 64 * t + 63, stNv⟩
  else if xs.all FVal.isZero then ⟨List.replicate 32 0, 64 * t, 0⟩
  else
    let a := xs.foldl (fun b x => if b.lt false x.abs then x.abs else b) (.fin false 0 0)
    let fits := ((List.range 62).map (· + 1)).find? (fun e => a.le (q4At t e 7))
    let e := fits.getD 62
    ⟨xs.map (fun x =>
        let m := q4Nearest t e x.abs
        if t = 0 then (if x.isNeg ∧ m ≠ 0 then 16 - m else m) else (if x.isNeg then 8 else 0) + m),
      64 * t + e, if fits.isNone then stOf else 0⟩

/-- Two codes to a byte, low nibble first (04 R73). -/
def nibbles : List Nat → List Byte
  | a :: b :: r => BitVec.ofNat 8 (a + 16 * b) :: nibbles r
  | [a] => [BitVec.ofNat 8 a]
  | [] => []

end Sys2Proof.Machine
end

