-- ==== Sys2Proof/Machine/Handlers.lean ====
section
/-! DEFINITION. The lane handler's wave and the instructions of the two handlers (08 R150-R156). -/

namespace Sys2Proof.Machine

/-! ## Collection and the start of a wave (08 R150) -/

/-- The collection of a team in a cluster. -/
def State.collection (s : State) (t cluster : Nat) : Collect := (s.team t).collect.get ⟨[], []⟩ cluster

/-- LANE_COLLECTION_CLOSE (08 R150): 256 core cycles after the first lane the collection closes. -/
def execLaneCollectionClose (t cluster : Nat) (s : State) : Host.Outcome State Fault Refusal :=
  let k := s.collection t cluster
  .next (if k.due s.tick then s.modTeam t (fun m => { m with collect := m.collect.ins cluster (k.settle s.tick) }) else s)

/-- A free system slot of a core: 48, then 49 (10 R179). -/
def State.freeSystemSlot (s : State) (c : CoreRef) : Option SlotRef :=
  ([48, 49].map (fun n => (⟨c.die, c.core, n⟩ : SlotRef))).find? (fun g => !s.hasGrp g)

/-- The system slot of a wave: on the first lane's core, else on the lowest core of the cluster (08 R150). -/
def State.waveSlot (s : State) (first : SlotRef) : Option SlotRef :=
  let base := first.coreRef.cluster * 8
  ((first.coreRef :: (List.range 8).map (fun i => (⟨first.die, base + i⟩ : CoreRef))).filterMap s.freeSystemSlot).head?

/-- A slot receives a new group: its generation rises (05 R100). -/
def State.occupy (g : SlotRef) (h : Group) (s : State) : State :=
  let n := (s.core g.coreRef).gens.get 0 g.slot + 1
  let s1 := s.modCore g.coreRef (fun c => { c with gens := c.gens.ins g.slot n })
  { s1 with groups := s1.groups.ins g.key { h with gen := n } }

/-- The held instruction and the trap of a collected lane, where its origin still stands. -/
def State.originTrap (s : State) (o : Origin) : Option (Held × LaneTrap) :=
  let g := s.grp o.g
  if g.gen = o.gen ∧ !g.ended then
    match g.held.look o.ctx with
    | some h => (h.traps.find? (fun t => t.lane = o.lane)).map (fun t => (h, t))
    | none => none
  else none

/-- A handler wave as it begins (08 R150): what the table does not name reads 0. -/
def State.wave (s : State) (t : Nat) (os : List Origin) : Group :=
  let m := s.team t
  let n := os.length
  let c : Context :=
    { Context.empty with
      s := SMap.put (SMap.put [] 0 1 (BitVec.ofNat 64 n)) 0 2 (BitVec.ofNat 64 m.teamId)
      p0 := maskOf (fun l => decide (l < n))
      pc := (s.task m.task).l.lanehnd }
  let g0 : Group :=
    { Group.empty with
      kind := .laneWave os [], team := t, task := m.task, ctxs := [(0, c)], obs := [], regalloc := 64
      placed := s.serial }
  (List.range n).foldl (fun g l => g.setWords 0 l ((os[l]?).map Origin.regs |>.getD [])) g0

/-- HANDLER_WAVE_START (08 R150): a closed collection starts in a free system slot; each lane is counted on its own core
(10 R200, source 17; log 40); a fetch fault at LANEHND ends the task (24 R366). -/
def execHandlerWaveStart (t cluster : Nat) (s : State) : Host.Outcome State Fault Refusal :=
  let k := s.collection t cluster
  .next (
    match k.ready with
    | [] => s
    | [] :: _ => s
    | (o :: os) :: r =>
      if (s.team t).retired then s
      else match s.waveSlot o.g with
      | none => s
      | some g =>
        let s1 := (s.modTeam t (fun m => { m with collect := m.collect.ins cluster ⟨k.lanes, r⟩ })).fresh
        let s2 := (o :: os).foldl (fun s x => s.count x.g.coreRef 17 1) (s1.occupy g (s.wave t (o :: os)))
        let a := (s.task (s.team t).task).l.lanehnd
        if s2.headerAt g a then s2
        else s2.endTask (s.team t).task causeDfault 0x02 a (handleOf o.g o.gen) 0 0)

/-- LANE_WAVE_LIMIT (08 R152): the 4,097th instruction of a wave ends its task. -/
def execLaneWaveLimit (g : SlotRef) (s : State) : Host.Outcome State Fault Refusal :=
  .next (if (s.grp g).isLaneWave ∧ s.overruns g then s.waveLimit g else s)

/-! ## HPATCH and HEND (08 R151) -/

/-- The origins of a wave's lanes. -/
def Group.origins (g : Group) : List Origin :=
  match g.kind with
  | .laneWave os _ => os
  | _ => []

/-- The patches recorded in a wave. -/
def Group.patches (g : Group) : SMap (List Word) :=
  match g.kind with
  | .laneWave _ ps => ps
  | _ => []

/-- The width of a wave lane's origin instruction. -/
def Group.originWidth (g : Group) (l : Nat) : Nat := ((g.origins[l]?).map Origin.width).getD 0

/-- HPATCH records replacements for the active lanes of a wave. -/
def Group.patchLanes (r : Nat) (act : Word) (g : Group) : Group :=
  { g with
    kind := .laneWave g.origins ((lanesOf act).foldl (fun ps l =>
      ps.ins l ((List.range (g.originWidth l)).map (fun i => g.vreg (r + i) l))) g.patches) }

/-- HPATCH (08 R151): its registers are below v64 and below REGALLOC, tested first (R401); PRIV outside a wave. -/
def execHpatch (d : Nat) (s : State) : Host.Outcome State Fault Refusal :=
  let w := (lanesOf s.active).foldl (fun w l => max w (s.me.originWidth l)) 1
  .next (guarded
    [(decide (64 < d + w) || decide (s.me.regalloc < d + w), State.illegal 4 3),
     (!s.me.isLaneWave, fun s => s.raise 4 causePriv 0 0)]
    (fun s => ((s.charge 1).modMe (Group.patchLanes d s.active)).advance 4) s)

/-- A trapping lane of a held instruction is resolved. -/
def Held.resolveLane (l : Nat) (p : Option (List Word)) (h : Held) : Held :=
  { h with traps := h.traps.map (fun t => if t.lane = l then { t with resolved := true, patch := p } else t) }

/-- Resolve an origin lane with its patch, or without one; the instruction completes once every trapping lane of it is
resolved (07 R128, 08 R151). A lane of a group that has ended is discarded. -/
def State.resolveOrigin (o : Origin) (p : Option (List Word)) (s : State) : State :=
  match s.originTrap o with
  | none => s
  | some _ =>
    let s1 := s.modGrp o.g (fun g => { g with held := g.held.upd o.ctx (Held.resolveLane o.lane p) })
    match (s1.grp o.g).held.look o.ctx with
    | none => s1
    | some h =>
      if h.traps.all LaneTrap.resolved then
        (s1.completeHeld ⟨o.g, o.ctx⟩ false).modCtxAt ⟨o.g, o.ctx⟩ (fun c =>
          if c.stop = .laneTrap then { c with stop := .running } else c)
      else s1

/-- Lanes leave a wave's context; a wave without lanes has ended (08 R151). -/
def State.leaveWave (c : CtxId) (lanes : Word) (s : State) : State := s.retire c lanes

/-- HEND (08 R151): PRIV outside a wave. -/
def execHend (s : State) : Host.Outcome State Fault Refusal :=
  .next (guarded [(!s.me.isLaneWave, fun s => s.raise 4 causePriv 0 0)]
    (fun s =>
      let act := s.active
      let s1 := (s.charge 1).advance 4
      let s2 := (lanesOf act).foldl (fun t l =>
        match s.me.origins[l]? with
        | some o => t.resolveOrigin o (s.me.patches.look l)
        | none => t) s1
      if act = 0 then s2 else s2.leaveWave s.cur act) s)

/-! ## The group handler's instructions (08 R154, R156) -/

/-- The register of a lane word, or none where it has another bit set or names no register of the group. -/
def State.laneWord (s : State) (x : DWord) : Option (Nat × Nat) :=
  if x.toNat < 2 ^ 13 ∧ x.toNat % 256 < s.me.regalloc then some (x.toNat % 256, x.toNat / 256) else none

/-- An instruction of the group handler: PRIV outside it (08 R154). -/
def handlerOp (eff : Act) (s : State) : State := guarded [(!s.inHandler, fun s => s.raise 4 causePriv 0 0)] eff s

/-- HREAD (08 R154). -/
def execHread (c d : Nat) (s : State) : Host.Outcome State Fault Refusal :=
  .next (handlerOp (fun s =>
    match s.laneWord (s.sreg d) with
    | none => s.illegal 4 3
    | some (r, l) => ((s.charge 1).setS c ((s.v r l).setWidth 64)).advance 4) s)

/-- HWRITE (08 R154). -/
def execHwrite (c d : Nat) (s : State) : Host.Outcome State Fault Refusal :=
  .next (handlerOp (fun s =>
    match s.laneWord (s.sreg d) with
    | none => s.illegal 4 3
    | some (r, l) => ((s.charge 1).modMe (fun g => g.setV r l ((s.sreg c).setWidth 32))).advance 4) s)

/-- Everything of a team that stands in slots: its groups and its lane-handler waves. -/
def State.occupantsOf (s : State) (t : Nat) : List SlotRef :=
  s.groups.filterMap (fun e => if e.2.team = t ∧ e.2.isPlain then some (slotOfKey e.1) else none)

/-- The live group of the issuing team that a handle names; its lane-handler waves have handles too (05 R100, 08 R156). -/
def State.groupNamed (s : State) (h : DWord) : Option SlotRef :=
  (s.occupantsOf s.me.team).find? (fun g => decide (s.handle g = h) && !(s.grp g).ended)

/-- HKILL (08 R156). -/
def execHkill (d : Nat) (s : State) : Host.Outcome State Fault Refusal :=
  .next (handlerOp (fun s =>
    let s1 := (s.charge 1).advance 4
    match s.groupNamed (s.sreg d) with
    | none => s1
    | some g => s1.endGroup g) s)

/-- HKILLT (08 R156): every group of the team ends, evicted ones and lane-handler waves too. -/
def execHkillt (s : State) : Host.Outcome State Fault Refusal :=
  .next (handlerOp (fun s =>
    let t := s.me.team
    let s1 := (s.charge 1).advance 4
    ((s.occupantsOf t).foldl (fun s g => if (s.grp g).ended then s else s.endGroup g) s1).modTeam t Team.endImages) s)

end Sys2Proof.Machine
end

