-- ==== Sys2Proof/Machine/Ranges.lean ====
section
/-! DEFINITION. Ranges of bytes that an engine, a copy or a descriptor names: the checks of a whole range, and reading
and writing through the page tables (05 R98, 09 R160, 22 R342, R343). -/

namespace Sys2Proof.Machine

/-- What the checks of a whole range answer. -/
inductive RangeRes where
  | ok
  /-- it wraps or is not canonical -/
  | addr
  /-- a byte outside every lease -/
  | lease
  /-- the first byte on a page whose translation is missing, or lacks W for a write (22 R343; log 41) -/
  | removed (va : Nat)
  /-- a page in migration, or a line that a combiner wave holds, and nothing worse: the access waits -/
  | migrating (page : Nat)
deriving DecidableEq, Repr

/-- A range of n ≥ 1 bytes wraps, or an end of it is not canonical (09 R160 check 1). -/
def badRange (a : DWord) (n : Nat) : Bool :=
  decide (2 ^ 64 ≤ a.toNat + n - 1) || !canonical a || !canonical (a + BitVec.ofNat 64 (n - 1))

/-- The 4 KiB pages that n ≥ 1 bytes at a touch. -/
def pagesOf (a n : Nat) : List Nat := (List.range ((a + n - 1) / 4096 - a / 4096 + 1)).map (fun i => 4096 * (a / 4096 + i))

/-- The first page of n ≥ 1 bytes at a that does not translate, or the first that migrates. -/
def State.rangePages (s : State) (g : SlotRef) (wr : Bool) (a n : Nat) : RangeRes :=
  (pagesOf a n).foldl (fun r p =>
    match r with
    | .removed _ => r
    | _ =>
      match s.xplain g p with
      | .missing => .removed (max a p)
      | .migrating q => if r = .ok then .migrating q else r
      | .hit x => if wr && !x.w then .removed (max a p) else r) .ok

/-- A combiner wave holds a line of a range that is translated (20 R324). -/
def State.rangeHeld (s : State) (g : SlotRef) (a : DWord) (n : Nat) : Bool :=
  s.mordant.any (fun e => e.2.wave.isSome) &&
    (List.range ((a.toNat % 64 + n + 63) / 64)).any (fun i =>
      match s.xplain g ((va56 a) / 64 * 64 + 64 * i) with
      | .hit x => s.waveHolds g (x.phys ((va56 a) / 64 * 64 + 64 * i)) 64
      | _ => false)

/-- Checks 1, 4 and 5 of R160 for a whole global range of n bytes; 0 bytes name nothing. -/
def State.checkRange (s : State) (g : SlotRef) (a : DWord) (n : Nat) (wr : Bool) : RangeRes :=
  if n = 0 then .ok
  else if badRange a n then .addr
  else if !(s.task (s.grp g).task).leased a.toNat n then .lease
  else
    match s.rangePages g wr (va56 a) n with
    | .ok => if s.rangeHeld g a n then .migrating (va56 a) else .ok
    | r => r

/-- The place of one byte that an engine of a slot touches: scratchpad, or translated. -/
def State.placeOf (s : State) (g : SlotRef) (a : DWord) : Option Nat :=
  if inSpw a then some ((s.team (s.grp g).team).spad (spwOffset a))
  else
    match s.xplain g (va56 a) with
    | .hit x => some (x.phys (va56 a))
    | _ => none

/-- Address a + i. -/
def plus (a : DWord) (i : Nat) : DWord := a + BitVec.ofNat 64 i

/-- One byte as an engine reads it; the engine of a combiner wave sees the wave's held writes (20 R324). -/
def State.vbyte (s : State) (g : SlotRef) (a : DWord) : Byte :=
  match s.placeOf g a with
  | some l => s.baseByte g l
  | none => 0

/-- n bytes as an engine reads them. -/
def State.vbytes (s : State) (g : SlotRef) (a : DWord) (n : Nat) : List Byte :=
  (List.range n).map (fun i => s.vbyte g (plus a i))

/-- A little-endian number of bytes. -/
def leNat : List Byte → Nat
  | [] => 0
  | b :: r => b.toNat + 256 * leNat r

/-- n bytes as a number. -/
def State.vnum (s : State) (g : SlotRef) (a : DWord) (n : Nat) : Nat := leNat (s.vbytes g a n)

/-- n bytes that an engine reads single-copy atomic (12 R239). -/
def State.vatomic (s : State) (x : Reader) (g : SlotRef) (a : DWord) (n : Nat) : Nat :=
  let ps := (List.range n).filterMap (fun i => s.placeOf g (plus a i))
  leNat ((ps.zip (s.atomicBytes x ps)).map (fun e => (s.heldByte g e.1).getD e.2))

/-- Write an engine's bytes at their point of coherence; those of a combiner wave are held (20 R324). -/
def State.engineStore (g : SlotRef) (a n x : Nat) (s : State) : State :=
  match (s.grp g).kind with
  | .combiner obj => s.holdWrite obj a n x
  | _ => s.store none a n x

/-- Write bytes through the page tables at their points of coherence; a byte without a place is not written. The engine
takes the line from every L1 and atomic unit (23 R357). -/
def State.vwrite (g : SlotRef) (a : DWord) : List Byte → State → State
  | [], s => s
  | b :: r, s =>
    State.vwrite g (plus a 1) r
      (match s.placeOf g a with
       | some l => s.engineStore g l 1 b.toNat
       | none => s)

/-- The places of n bytes at a. -/
def State.rangePlaces (s : State) (g : SlotRef) (a : DWord) (n : Nat) : List Nat :=
  (List.range n).filterMap (fun i => s.placeOf g (plus a i))

/-- Places are read from outside: cluster atomic units but one write their lines back and give them up (14 R249). -/
def State.recallPlaces (keep : Option Nat) (ps : List Nat) (s : State) : State :=
  (placeLines (ps.filter isPhys)).foldl (fun s l => s.recallLine keep l) s

/-- An engine reads places: the unit of its own cluster keeps its lines where it is a core's engine. -/
def State.recallRead (g : SlotRef) (core : Bool) (ps : List Nat) (s : State) : State :=
  s.recallPlaces (if core then some (clusterKey g) else none) ps

/-- An engine operation has written places since s0: they reach other agents with its completion (23 R359). -/
def State.engineWrote (s : State) (g : SlotRef) (o : Op) (s0 : State) (ps : List Nat) : State :=
  if (s0.grp g).isPlain then s.publishLines ⟨.engine g o.id, (s0.grp g).task, []⟩ s0 ps else s

/-- An acquire that the slot issued before an engine operation is incomplete: the operation waits for it (23 R352). -/
def State.behindAcquire (s : State) (g : SlotRef) (o : Op) : Bool :=
  ((s.grp g).earlier o.id).any (fun p => p.isM && p.isAcquire)

/-- The distinct 64-byte lines of n bytes at a. -/
def lineCount (a n : Nat) : Nat := if n = 0 then 0 else (a + n - 1) / 64 - a / 64 + 1

/-- The charge of the lines of a range (19 R298): none in the scratchpad. -/
def rangeCharge (a : DWord) (n : Nat) : Int := if inSpw a then 0 else 64 * (lineCount a.toNat n : Int)

/-- An engine that meets a translation removed under a held lease ends the task (22 R343). -/
def State.removedEnd (g : SlotRef) (o : Op) (va : Nat) (s : State) : State :=
  s.endTask (s.grp g).task causeDfault 0x13 (BitVec.ofNat 64 va) (s.handle g) o.clause o.idx

/-- The same found by the check of the instruction that issues: it has no effect (22 R343). -/
def State.removedAtIssue (va : Nat) (s : State) : State :=
  s.endTask s.me.task causeDfault 0x13 (BitVec.ofNat 64 va) (s.handle s.cur.g) s.ctx.clause s.ctx.idx

/-! ## Export windows (27 R390) -/

/-- An export window that firmware declares: there are up to 256 (27 R390). -/
def exportWindowOf (win : Nat) : Option Config.ExportWindow := if win < 256 then Config.exportWindow win else none

/-- The peer id that firmware gives the part: 0 to 4,094 (27 R390). -/
def ownPeerId : Nat := Config.peerId % 4095

/-- A peer id names this part: 4,095, or its own id (27 R390; log 119). -/
def isOwnPeer (p : Nat) : Bool := decide (p = 4095) || decide (p = ownPeerId)

/-- The port, of the 12, to which firmware routes a remote peer id (27 R389, R390). -/
def peerPortOf (peer : Nat) : Nat := Config.peerPort peer % 12

/-- The places of n bytes of an address space, where all are translated; the second part is W of every page. -/
def State.peerPlaces (s : State) (asid : Nat) (va : DWord) (n : Nat) : Option (List Nat × Bool) :=
  let place := fun (i : Nat) =>
    match s.xwalk asid (va56 (plus va i)) with
    | .hit x => some (x.phys (va56 (plus va i)), x.w)
    | _ => none
  match (List.range n).mapM place with
  | none => none
  | some ps => some (ps.map Prod.fst, ps.all Prod.snd)

/-- A request lies wholly inside a window, which is rw for a write. -/
def inWindow (w : Config.ExportWindow) (va : DWord) (n : Nat) (wr : Bool) : Bool :=
  decide (0 < n) && !badRange va n && decide (w.base ≤ va.toNat) && decide (va.toNat + n ≤ w.base + w.len) && (w.rw || !wr)

/-- Some byte of a request waits: an engine owns its line, or a combiner wave holds it. -/
def State.placesBusy (s : State) (ps : List Nat) : Bool := ps.any (fun a => s.rangeBusy a 1 || s.moving a 1)

/-- A write of bytes at places, at their point of coherence. -/
def State.writePlaces (ps : List Nat) (bs : List Byte) (s : State) : State :=
  (ps.zip bs).foldl (fun s x => s.store none x.1 1 x.2.toNat) s

end Sys2Proof.Machine
end

