-- ==== Sys2Proof/Machine/CoreRes.lean ====
section
/-! DEFINITION. A core's resources: NOP and BRKPT, register granules, GROW and SHRINK, event counters, the constant
store's fill, promotion and storage errors (02 R43, R44, 10 R180, R186, R188, R195-R201). -/

namespace Sys2Proof.Machine

/-- NOP (02 R43). -/
def execNop (s : State) : Host.Outcome State Fault Refusal := .next ((s.charge 1).advance 4)

/-- BRKPT (02 R44): TRAPI with bit 8 of TRAPINFO, after it has taken effect. -/
def execBrkpt (s : State) : Host.Outcome State Fault Refusal :=
  .next (((s.charge 1).advance 4).deliver s.cur (s.trapOf causeTrapi 0x100 0))

/-! ## Register granules (10 R180) -/

/-- Granules of a partition that groups may hold. -/
def partitionGranules (p : Nat) : Nat := if p % 2 = 0 then 64 else 96

/-- The groups in the group slots of a core. -/
def State.groupsOn (s : State) (c : CoreRef) : List (SlotRef × Group) :=
  s.groups.filterMap (fun e =>
    if (slotOfKey e.1).coreRef = c ∧ e.2.kind = .group then some (slotOfKey e.1, e.2) else none)

/-- Granules that the groups of a partition hold. -/
def State.granulesUsed (s : State) (c : CoreRef) (p : Nat) : Nat :=
  ((s.groupsOn c).map (fun e => if e.1.partition = p then e.2.regalloc / 8 else 0)).foldl (· + ·) 0

/-- Granules of a partition that are free. -/
def State.granulesFree (s : State) (c : CoreRef) (p : Nat) : Nat := partitionGranules p - s.granulesUsed c p

/-! ## GROW (10 R195, R196) -/

/-- The limit of REGALLOC: 64 for a task of CLASS 0. -/
def State.growLimit (s : State) (g : SlotRef) : Nat := if (s.task (s.grp g).task).l.cls = 0 then 64 else 256

/-- GROW: PRIV in a system slot; n = 0 and a request beyond the limit are answered at once, another blocks. A blocked
context stands at the GROW; the grant goes on behind it. -/
def execGrow (a c : Nat) (s : State) : Host.Outcome State Fault Refusal :=
  .next (guarded [(decide (s.me.kind ≠ .group), fun s => s.raise 4 causePriv 0 0)]
    (fun s =>
      if a = 0 then ((s.charge 1).setS c (BitVec.ofNat 64 s.me.regalloc)).advance 4
      else if s.growLimit s.cur.g < s.me.regalloc + 8 * a then ((s.charge 1).setS c 0).advance 4
      else ((s.charge 1).fresh).modCtx (fun x => { x with stop := .grow c a s.serial, lastIssue := s.tick + 1 })) s)

/-- The requests of a partition: order, context, granules, result register. -/
def State.growRequests (s : State) (core : CoreRef) (p : Nat) : List (Nat × CtxId × Nat × Nat) :=
  (s.groupsOn core).flatMap (fun e =>
    if e.1.partition = p then
      e.2.ctxs.filterMap (fun x =>
        match x.2.stop with
        | .grow d n order => some (order, ⟨e.1, x.1⟩, n, d)
        | _ => none)
    else [])

/-- A request of n granules would take a slot past its limit, as it may once another context's has been granted (10 R195, 25
R381). -/
def State.overLimit (s : State) (g : SlotRef) (n : Nat) : Bool := decide (s.growLimit g < (s.grp g).regalloc + 8 * n)

/-- A request may be answered: it is the oldest of its partition but for those withdrawn under a pending yield, and the
granules are free, or it reaches past its limit (10 R195, 19 R300). -/
def State.growGrantable (s : State) (c : CtxId) : Option (Nat × Nat) :=
  let rs := s.growRequests c.g.coreRef c.g.partition
  match rs.find? (fun r => r.2.1 = c) with
  | none => none
  | some (order, _, n, d) =>
    if rs.all (fun r => decide (order ≤ r.1) || decide (s.onward r.2.1.g = .entry)) ∧
        (n ≤ s.granulesFree c.g.coreRef c.g.partition ∨ s.overLimit c.g n) then some (n, d)
    else none

/-- A blocked context goes on behind its GROW with a result. -/
def State.growAnswer (c : CtxId) (d : Nat) (v : DWord) (s : State) : State :=
  s.modCtxAt c (fun x => { (x.setS d v).advance 4 false with stop := .running })

/-- Registers at or above the allocation lose their contents. -/
def Group.shrinkTo (r : Nat) (g : Group) : Group :=
  { g with regalloc := r, v := g.v.keep (fun k => decide (k < 32 * r)) }

/-- GROW_GRANT (10 R195): REGALLOC grows, the new registers read 0, the result is the new REGALLOC; past the limit it is 0. -/
def execGrowGrant (c : CtxId) (s : State) : Host.Outcome State Fault Refusal :=
  .next (
    match if s.onward c.g = .entry then none else s.growGrantable c with
    | none => s
    | some (n, d) =>
      let r := (s.grp c.g).regalloc + 8 * n
      if s.overLimit c.g n then s.growAnswer c d 0
      else (s.modGrp c.g (fun g => { g.shrinkTo g.regalloc with regalloc := r })).growAnswer c d (BitVec.ofNat 64 r))

/-- The GROW requests of a group, with their orders. -/
def Group.growing (g : Group) : List (Nat × Nat × Nat) :=
  g.ctxs.filterMap (fun x =>
    match x.2.stop with
    | .grow d _ order => some (order, x.1, d)
    | _ => none)

/-- A group is blocked in GROW: each context not waiting at a MERGE is blocked in GROW, and there is one (10 R196). -/
def Group.growBlocked (g : Group) : Bool :=
  !g.growing.isEmpty && decide (g.growing.length + (g.ctxs.filter (fun x => x.2.token.isSome)).length = g.ctxs.length)

/-- GROW_DEADLOCK_FAIL (10 R196): every group of the core is blocked and nothing can be granted; the GROW of the
group placed last completes with 0, its oldest request first. A group under a pending yield has withdrawn its requests and is
not blocked (10 R195, 19 R300). -/
def execGrowDeadlockFail (core : CoreRef) (s : State) : Host.Outcome State Fault Refusal :=
  let gs := s.groupsOn core
  let stuck := gs.all (fun e => e.2.growBlocked && decide (s.onward e.1 = .running)) &&
    gs.all (fun e => e.2.growing.all (fun r => (s.growGrantable ⟨e.1, r.2.1⟩).isNone))
  let young := gs.foldl (fun (b : Option (SlotRef × Group)) e =>
    match b with
    | none => some e
    | some x => if x.2.placed < e.2.placed then some e else some x) none
  .next (
    match young with
    | none => s
    | some e =>
      if !stuck then s
      else
        match (e.2.growing.foldl (fun (b : Option (Nat × Nat × Nat)) r =>
            match b with
            | none => some r
            | some x => if r.1 < x.1 then some r else some x) none) with
        | none => s
        | some (_, i, d) => (s.count core 11 1).growAnswer ⟨e.1, i⟩ d 0)

/-! ## SHRINK (10 R197) -/

/-- SHRINK takes effect once every outstanding operation of the slot has completed, but for an instruction that its own
context's group handler is to complete (log 99). -/
def State.shrinkApply (c : CtxId) (s : State) : State :=
  match ((s.grp c.g).ctx c.i).stop with
  | .shrink n =>
    if (s.grp c.g).drained c.i false then
      (s.modGrp c.g (fun g => g.shrinkTo (max 8 (g.regalloc - 8 * n)))).modCtxAt c (fun x =>
        { x.advance 4 false with stop := .running })
    else s
  | _ => s

/-- SHRINK: PRIV in a system slot. -/
def execShrink (a : Nat) (s : State) : Host.Outcome State Fault Refusal :=
  .next (guarded [(decide (s.me.kind ≠ .group), fun s => s.raise 4 causePriv 0 0)]
    (fun s =>
      ((s.charge 1).modCtx (fun x => { x with stop := .shrink a, lastIssue := s.tick + 1 })).shrinkApply s.cur) s)

/-- SHRINK_APPLY (10 R197). -/
def execShrinkApply (c : CtxId) (s : State) : Host.Outcome State Fault Refusal := .next (s.shrinkApply c)

/-! ## Event counters (10 R200) -/

/-- Select a source for a counter and zero it. -/
def Core.selectSource (k src : Nat) (c : Core) : Core :=
  { c with
    sources := c.sources.put 0 k src
    counters := c.counters.put 0 k 0
    recent := c.recent.filter (fun e => e.2.1 != k) }

/-- EVSEL: a source above 23 traps ILLEGAL 0x08. -/
def execEvsel (a b : Nat) (s : State) : Host.Outcome State Fault Refusal :=
  let x := (s.sreg b).toNat
  .next (guarded [(decide (23 < x), State.illegal 4 8)]
    (fun s => ((s.charge 1).modCore s.cur.g.coreRef (Core.selectSource a x)).advance 4) s)

/-- What a counter counted in the last 16 cycles. -/
def Core.recentOf (k tick : Nat) (c : Core) : Nat :=
  ((c.recent.filter (fun e => decide (e.2.1 = k ∧ tick < e.1 + 16))).map (fun e => e.2.2)).foldl (· + ·) 0

/-- EVRD: every event up to 16 cycles before its issue is included; of the later ones the part decides how many (a free
value). -/
def execEvrd (a c : Nat) (s : State) : Host.Outcome State Fault Refusal :=
  let k := s.core s.cur.g.coreRef
  let lag := Config.freeNat s.free % (k.recentOf a s.tick + 1)
  .next ((((s.charge 1).draw).setS c (k.counters.get 0 a - BitVec.ofNat 64 lag)).advance 4)

/-! ## CFILL (10 R186) -/

/-- The team's task owns the constant store of every member core; a combiner wave serves no team. -/
def State.ownsStores (s : State) : Bool :=
  s.me.isPlain && s.myTeam.cores.all (fun c => decide ((s.core c).owner = some (s.gridOf s.me.task)))

/-- The checks of CFILL in its order: permission, alignment, range. -/
def cfillChecks (off n : Nat) (s : State) : List (Bool × Act) :=
  [(s.full s.flagB, State.illegal 4 5),
   (!s.ownsStores, fun s => s.raise 4 causePriv 0 0),
   (decide (off % 4 ≠ 0) || decide (n % 4 ≠ 0), State.misTrap 3 0),
   (decide (Config.constBytes < off + n), State.addrTrap 3 0)]

/-- Issue an operation of the A class, or complete it at once. -/
def State.issueA (cost : Nat) (k : OpKind) (s : State) : State :=
  ((s.charge cost).issueOp (s.mkOp s.flagB 0 k)).advance 4

/-- CFILL. -/
def execCfill (a b d : Nat) (s : State) : Host.Outcome State Fault Refusal :=
  let src := s.sreg d
  let off := (s.sreg a).toNat
  let n := (s.sreg b).toNat
  .next (guarded (cfillChecks off n s)
    (fun s =>
      match s.checkRange s.cur.g src n false with
      | .addr => s.addrTrap 3 src
      | .removed _ => s.addrTrap 3 src
      | .lease => s.endTaskAt s.cur causeLease 0 src
      | _ => if n = 0 then (s.charge 1).advance 4 else s.issueA 1 (.cfill src off n 0)) s)

/-- Write bytes into the constant store of a core from an offset. -/
def State.fillStore (off : Nat) (bs : List Byte) (c : CoreRef) (s : State) : State :=
  (List.range bs.length).foldl (fun s i => s.setByte (constLoc c (off + i)) (bs.getD i 0)) s

/-- CFILL_COMPLETE (10 R186): the next n bytes are read, charged by line and written to every member core; the flag
clears when every byte is written. A page in migration delays it; a translation removed under the lease is
an ADDR error of its flag (22 R343). Of the words that it has not finished it fills ascending prefixes (log 108). -/
def execCfillComplete (g : SlotRef) (op n : Nat) (s : State) : Host.Outcome State Fault Refusal :=
  .next (
    match (s.grp g).findOp op with
    | none => s
    | some o =>
      match o.kind with
      | .cfill src off len done =>
        let m := min (n / 4 * 4) (len - done)
        let a := plus src done
        match s.checkRange g a m false with
        | .migrating _ => s
        | .removed va => s.modGrp g (Group.failOp o ⟨causeAddr, 3, BitVec.ofNat 64 va, o.pc, o.clause, o.idx, false, false⟩)
        | _ =>
          if m = 0 ∨ s.behindAcquire g o then s
          else
            let bs := (s.seenBy (.engine g true o.id)).vbytes g a m
            let s1 := ((s.team (s.grp g).team).cores.foldl (fun t c => t.fillStore (off + done) bs c) s).drawRead.recallRead g false
              (s.rangePlaces g a m)
            let lines := lineCount src.toNat (done + m) - lineCount src.toNat done
            (s1.chargeAt g 0 (64 * (lines : Int))).opStep g o
              (if done + m = len then none else some (.cfill src off len (done + m)))
      | _ => s)

/-! ## Barriers (10 R192) -/

/-- BARRIER_APPLY (10 R192): the operations named reach the word in one cycle, with the implicit drops that are due.
Nothing happens where one of them is not outstanding or may not be performed yet, or the cycle's test has been made. -/
def execBarrierApply (t k : Nat) (ops : List OpRef) (s : State) : Host.Outcome State Fault Refusal :=
  let found := ops.filterMap (s.barOp t k)
  .next (if found.length = ops.length ∧ ops.eraseDups = ops ∧ ops ≠ [] ∧ !s.testedNow t k then s.syncAway (s.barApply t k found) else s)

/-! ## Promotion (10 R188) -/

/-- SLOT_PROMOTION: a slot that was ready and not picked for 1,024 consecutive ready cycles. -/
def execSlotPromotion (g : SlotRef) (s : State) : Host.Outcome State Fault Refusal :=
  .next (s.promote g)

/-! ## Storage errors (10 R201) -/

/-- SOFT_ERROR_CORRECTED: counted, with no other effect. -/
def execSoftErrorCorrected (core : CoreRef) (s : State) : Host.Outcome State Fault Refusal := .next (s.count core 23 1)

/-- CORE_STORAGE_UNCORRECTABLE: the owning task ends with DFAULT 0x10; the record names the core and slot by the group
handle, and the register. -/
def execCoreStorageUncorrectable (core : CoreRef) (where_ : CoreStore) (s : State) : Host.Outcome State Fault Refusal :=
  .next (
    match where_ with
    | .regs slot reg =>
      let g : SlotRef := ⟨core.die, core.core, slot⟩
      if s.hasGrp g then
        s.endTaskWith (s.grp g).task causeDfault 0x10 0 (s.handle g) 0 0 (BitVec.ofNat 64 reg)
      else s
    | .scratchpad t =>
      if (s.team t).retired = false ∧ (s.team t).cores.elem core then
        s.endTask (s.team t).task causeDfault 0x10 0 0 0 0
      else s
    | .constants =>
      match (s.core core).owner with
      | none => s
      | some k => (s.endTask k causeDfault 0x10 0 0 0 0).modCore core (fun c => { c with owner := none }))

end Sys2Proof.Machine
end

