-- ==== Sys2Proof/Machine/Tensor.lean ====
section
/-! DEFINITION. Tensor descriptors: their fields, the value check of TDSET, and the shape check of R207 (11 R202-R207). -/

namespace Sys2Proof.Machine

/-- Bits [lo+n-1:lo] of a number. -/
def bitsAt (x lo n : Nat) : Nat := x / 2 ^ lo % 2 ^ n

def Td.base (d : Td) : Nat := bitsAt d.toNat 0 64
def Td.rows (d : Td) : Nat := bitsAt d.toNat 64 20
def Td.cols (d : Td) : Nat := bitsAt d.toNat 84 20
def Td.pitch (d : Td) : Nat := bitsAt d.toNat 104 24
def Td.fmt (d : Td) : Nat := bitsAt d.toNat 128 4
def Td.loc (d : Td) : Nat := bitsAt d.toNat 138 2
def Td.swz (d : Td) : Nat := bitsAt d.toNat 140 2
def Td.valid (d : Td) : Nat := bitsAt d.toNat 172 20
def Td.scale (d : Td) : Nat := bitsAt d.toNat 192 32

/-- A reserved field is nonzero. -/
def Td.reserved (d : Td) : Bool :=
  decide (bitsAt d.toNat 132 6 ≠ 0) || decide (bitsAt d.toNat 142 30 ≠ 0) || decide (bitsAt d.toNat 224 32 ≠ 0)

/-- The ILLEGAL subcode of a value that TDSET refuses (11 R205). -/
def Td.refused (d : Td) : Option Nat :=
  if d.reserved || (decide (d.loc = 2) && decide (d.base / 32 ≠ 0)) then some 2
  else if 10 ≤ d.fmt ∨ d.loc = 3 ∨ 2 ≤ d.swz then some 8
  else none

/-- Format codes (11 R203). -/
def fmtF32 : Nat := 0
def fmtF16 : Nat := 1
def fmtBf16 : Nat := 2
def fmtE4m3 : Nat := 3
def fmtE5m2 : Nat := 4
def fmtI8 : Nat := 5
def fmtN8 : Nat := 6
def fmtQ4 : Nat := 7
def fmtT3 : Nat := 8
def fmtI32 : Nat := 9

/-- Bytes of a row of c elements (11 R203). -/
def rowBytes (fmt c : Nat) : Nat :=
  if fmt = 0 ∨ fmt = 9 then 4 * c
  else if fmt = 1 ∨ fmt = 2 then 2 * c
  else if fmt = 7 then 17 * ((c + 31) / 32)
  else if fmt = 8 then (c + 4) / 5
  else c

/-- Elements of a row of an operand slot (11 R208). -/
def slotK (fmt : Nat) : Nat :=
  if fmt = 0 ∨ fmt = 9 then 64
  else if fmt = 1 ∨ fmt = 2 then 128
  else if fmt = 7 then 512
  else if fmt = 8 then 1280
  else 256

/-- A power of two. -/
def isPow2 (n : Nat) : Bool := decide (n ≠ 0) && decide (2 ^ Nat.log2 n = n)

/-- The first row of the table of R207: the descriptor's shape. An operand-memory tensor ignores PITCH and SWZ
(11 R204). -/
def Td.badShape (d : Td) (fmts : List Nat) : Bool :=
  decide (d.rows = 0) || decide (d.cols = 0) || decide (d.rows < d.valid) || !fmts.elem d.fmt ||
    (if d.loc = 2 then decide (64 < d.rows) || decide (slotK d.fmt < d.cols)
     else
      decide (d.pitch % 16 ≠ 0) || decide (d.pitch < rowBytes d.fmt d.cols) || decide (d.base % 16 ≠ 0) ||
        (decide (d.swz = 1) && !isPow2 (d.pitch / 16)))

/-- The offset from BASE of byte o of row r (11 R204). -/
def Td.offset (d : Td) (r o : Nat) : Nat :=
  if d.swz = 1 then r * d.pitch + (o / 16 ^^^ r % min 32 (d.pitch / 16)) * 16 + o % 16 else r * d.pitch + o

end Sys2Proof.Machine
end

