-- ==== Sys2Proof/Machine/Caps.lean ====
section
/-! DEFINITION. Capabilities: their fields, when an entry is malformed, and the check of an instruction that names one
(12 R235, 16 R282, 19 R306, 20 R316, 25 R379, 27 R391, R396). -/

namespace Sys2Proof.Machine

/-- n bytes from byte number off of an entry. -/
def Cap.num (c : Cap) (off n : Nat) : Nat := leNat ((List.range n).map (fun i => c.bytes.get 0 (off + i)))

/-! Kinds (25 R379). -/
def kindCopy : Nat := 1
def kindBlock : Nat := 2
def kindGather : Nat := 3
def kindMordant : Nat := 4
def kindGrant : Nat := 5
def kindChannel : Nat := 6
def kindRoute : Nat := 7

/-! Fields of kind blocktable. -/
def Cap.table (c : Cap) : DWord := BitVec.ofNat 64 (c.num 8 8)
def Cap.len (c : Cap) : Nat := c.num 16 4
def Cap.bs (c : Cap) : Nat := c.num 20 1
def Cap.blockRow (c : Cap) : Nat := c.num 22 2

/-! Fields of kind gather; base is `table` and len is `len`. -/
def Cap.gatherRow (c : Cap) : Nat := c.num 20 2
def Cap.shard (c : Cap) : Nat := c.num 22 1
def Cap.nown (c : Cap) : Nat := c.num 23 1
def Cap.win (c : Cap) : Nat := c.num 24 1
def Cap.own (c : Cap) (k : Nat) : Nat := c.num (32 + 2 * k) 2

/-! Fields of kinds mordant, grant, channel and route. -/
def Cap.limit (c : Cap) : Nat := c.num 8 1
def Cap.scope (c : Cap) : Nat := c.num 8 1
def Cap.grantIns (c : Cap) : Nat := c.num 16 8
def Cap.grantBytes (c : Cap) : Nat := c.num 24 8
def Cap.peer (c : Cap) : Nat := c.num 8 2
def Cap.chan (c : Cap) : Nat := c.num 10 1
def Cap.dir (c : Cap) : Nat := c.num 11 1
def Cap.depth (c : Cap) : Nat := c.num 12 1
def Cap.routeBase (c : Cap) : Nat := c.num 8 2
def Cap.routeLen (c : Cap) : Nat := c.num 10 2

/-- Every byte of an entry that a kind does not name is 0. -/
def Cap.onlyBytes (c : Cap) (ok : Nat → Bool) : Bool := c.bytes.all (fun e => ok e.1)

/-- x lies in [a, b]. -/
def within (a b x : Nat) : Bool := decide (a ≤ x) && decide (x ≤ b)

/-- The fields of an entry lie within the limits of its kind, and no other byte is set (25 R379). -/
def Cap.wellFormed (c : Cap) : Bool :=
  if c.kind = 1 then c.onlyBytes (fun _ => false)
  else if c.kind = 2 then
    canonical c.table && decide (c.table.toNat % 8 = 0) && within 1 (2 ^ 24) c.len && within 1 64 c.bs &&
      within 16 4096 c.blockRow && decide (c.blockRow % 16 = 0) &&
      c.onlyBytes (fun i => within 8 20 i || within 22 23 i)
  else if c.kind = 3 then
    canonical c.table && decide (c.table.toNat % 16 = 0) && decide (1 ≤ c.len) && within 16 4096 c.gatherRow &&
      decide (c.gatherRow % 16 = 0) && decide (c.shard ≤ 24) && within 1 16 c.nown &&
      c.onlyBytes (fun i => within 8 24 i || within 32 63 i)
  else if c.kind = 4 then within 1 64 c.limit && c.onlyBytes (fun i => decide (i = 8))
  else if c.kind = 5 then
    decide (c.scope ≤ 2) && decide (c.grantIns ≤ 2 ^ 62) && decide (c.grantBytes ≤ 2 ^ 62) &&
      c.onlyBytes (fun i => decide (i = 8) || within 16 31 i)
  else if c.kind = 6 then
    decide (c.peer ≤ 4095) && decide (c.dir ≤ 1) && within 1 64 c.depth && c.onlyBytes (within 8 12)
  else if c.kind = 7 then
    decide (c.routeBase ≤ 8191) && within 1 8192 c.routeLen && decide (c.routeBase + c.routeLen ≤ 8192) &&
      c.onlyBytes (within 8 11)
  else false

/-- An owner entry has one of the two forms (27 R391). -/
def ownOk (o : Nat) : Bool := decide (o ≤ 3) || (within 0x8000 0x8FFF o)

/-- A gather capability with an owner of another form is invalid at use (27 R391). -/
def Cap.usable (c : Cap) : Bool := if c.kind = 3 then (List.range c.nown).all (fun k => ownOk (c.own k)) else true

/-- A capability of the issuing task, or an absent one. -/
def State.cap (s : State) (k : Nat) : Cap := s.myTask.caps.get ⟨0, 0, 0, [], 0, 0⟩ k

/-- What naming capability k as one of some kinds fails with: 1 invalid, 2 of the wrong kind (12 R235). -/
def State.capErr (s : State) (k : Nat) (kinds : List Nat) : Option Nat :=
  match s.myTask.caps.look k with
  | none => some 1
  | some c => if !c.usable then some 1 else if kinds.elem c.kind then none else some 2

/-- A CAP trap with a subcode. -/
def State.capTrap (sub : Nat) (s : State) : State := s.raise 4 causeCap (BitVec.ofNat 64 sub) 0

/-- The effect behind the check of a capability. -/
def withCap (k : Nat) (kinds : List Nat) (eff : Act) (s : State) : State :=
  match s.capErr k kinds with
  | some sub => s.capTrap sub
  | none => eff s

end Sys2Proof.Machine
end

