-- ==== Sys2Proof/Machine/LaunchRec.lean ====
section
/-! DEFINITION. Launch descriptors and launch records: reading them through an address space and when they are malformed
(16 R269, R270, R278, 25 R378, R379, R381). -/

namespace Sys2Proof.Machine

/-! ## Reading through an address space -/

/-- One byte of an address space, where it has a translation. -/
def State.asidByte (s : State) (asid : Nat) (a : DWord) : Option Byte :=
  if canonical a then
    match s.xwalk asid (va56 a) with
    | .hit x => some (s.byte (x.phys (va56 a)))
    | _ => none
  else none

/-- n bytes of an address space, where every one has a translation. -/
def State.asidBytes (s : State) (asid : Nat) (a : DWord) (n : Nat) : Option (List Byte) :=
  (List.range n).mapM (fun i => s.asidByte asid (plus a i))

/-- The places of n bytes of an address space that have one. -/
def State.asidPlaces (s : State) (asid : Nat) (a : DWord) (n : Nat) : List Nat :=
  (List.range n).filterMap (fun i =>
    match s.xwalk asid (va56 (plus a i)) with
    | .hit x => some (x.phys (va56 (plus a i)))
    | _ => none)

/-- The I/O die or a pool reads n bytes of an address space: no cluster's atomic unit keeps their lines (14 R249). -/
def State.recallAsid (asid : Nat) (a : DWord) (n : Nat) (s : State) : State := s.recallPlaces none (s.asidPlaces asid a n)

/-- A running combiner wave holds a line of n bytes of an address space (20 R324). -/
def State.asidHeld (s : State) (asid : Nat) (a : DWord) (n : Nat) : Bool :=
  s.mordant.any (fun e => e.2.wave.isSome) &&
    (List.range ((a.toNat % 64 + n + 63) / 64)).any (fun i =>
      let v := va56 a / 64 * 64 + 64 * i
      match s.xwalk asid v with
      | .hit x => s.mordant.any (fun e => e.2.wave.isSome && e.2.heldLines.elem (lineOf (x.phys v)))
      | _ => false)

/-- A page of n bytes is in migration, or a combiner wave holds a line of them: a read of them is delayed (20 R324, 22 R345). -/
def State.asidMoves (s : State) (asid : Nat) (a : DWord) (n : Nat) : Bool :=
  n != 0 && ((pagesOf (va56 a) n).any (fun p =>
    match s.xwalk asid p with
    | .migrating _ => true
    | _ => false) || s.asidHeld asid a n)

/-- n bytes from byte off of a list, as a number. -/
def field (bs : List Byte) (off n : Nat) : Nat := leNat ((bs.drop off).take n)

/-! ## Launch descriptors (16 R269) -/

/-- The fields of a launch descriptor. -/
structure Descriptor where
  krec : DWord
  arg : DWord
  teams : Nat
  pri : Nat
  dies : Nat
  quota : Nat
  ins : DWord
  bytes : DWord
  wevt : Nat
  sevt : Nat
  ser : Bool
  notify : Bool
  sen : Bool
  wen : Bool
  waitval : DWord
  /-- every reserved field is 0 -/
  clean : Bool
deriving DecidableEq, Repr

/-- A descriptor from its 64 bytes. -/
def descriptorOf (bs : List Byte) : Descriptor :=
  let d := leNat bs
  { krec := BitVec.ofNat 64 (bitsAt d 0 64)
    arg := BitVec.ofNat 64 (bitsAt d 64 64)
    teams := bitsAt d 128 32 + 1
    pri := bitsAt d 160 3
    dies := bitsAt d 172 4
    quota := bitsAt d 176 16
    ins := BitVec.ofNat 64 (bitsAt d 192 64)
    bytes := BitVec.ofNat 64 (bitsAt d 256 64)
    wevt := bitsAt d 320 12
    sevt := bitsAt d 336 12
    ser := d.testBit 380
    notify := d.testBit 381
    sen := d.testBit 382
    wen := d.testBit 383
    waitval := BitVec.ofNat 64 (bitsAt d 384 64)
    clean := decide (bitsAt d 163 9 = 0) && decide (bitsAt d 332 4 = 0) && decide (bitsAt d 348 32 = 0) &&
      decide (bitsAt d 448 64 = 0) }

/-- The dies that take a share: 0 means all four (16 R269). -/
def Descriptor.dieList (d : Descriptor) : List Nat :=
  if d.dies = 0 then [0, 1, 2, 3] else (List.range 4).filter (fun k => d.dies.testBit k)

/-- What a task keeps of its descriptor. -/
def Descriptor.launching (d : Descriptor) (pri : Nat) : Launching where
  sen := if d.sen then some d.sevt else none
  notify := d.notify
  ser := d.ser
  wait := if d.wen then some (d.wevt, d.waitval) else none
  quota := d.quota
  dies := d.dieList
  pri := pri
  teams := d.teams
  arg := d.arg

/-! ## Launch records (25 R378) -/

/-- The contents of a launch record and of its tables. -/
structure LaunchRecord where
  l : Launch
  leases : List Lease
  caps : SMap Cap
  td : SMap Td
deriving DecidableEq, Repr

/-- One range of a lease table: base, then length [61:0], migr [62], rw [63]. -/
def leaseOf (bs : List Byte) : Lease :=
  let x := field bs 8 8
  ⟨field bs 0 8, x % 2 ^ 62, x.testBit 63, x.testBit 62, false⟩

/-- The ranges of a lease table. The last is the code text that the assembler adds (03 R60; log 23): read-only, with
fetch permitted (22 R341). -/
def leasesOf (n : Nat) (bs : List Byte) : List Lease :=
  (List.range n).map (fun i =>
    let x := leaseOf ((bs.drop (16 * i)).take 16)
    if i + 1 = n then { x with rw := false, text := true } else x)

/-- One entry of a tensor table: index, a reserved byte, the descriptor. -/
def tensorOf (bs : List Byte) : Option (Nat × Td) :=
  let i := field bs 0 1
  let d : Td := BitVec.ofNat 256 (field bs 2 32)
  if 64 ≤ i ∨ field bs 1 1 ≠ 0 ∨ d.refused.isSome then none else some (i, d)

/-- The descriptors of a tensor table. -/
def tensorsOf (n : Nat) (bs : List Byte) : Option (SMap Td) :=
  ((List.range n).mapM (fun i => tensorOf ((bs.drop (34 * i)).take 34))).map (fun es =>
    es.foldl (fun m e => m.put 0 e.1 e.2) [])

/-- One entry of a capability table; none where it is malformed (25 R379). -/
def capOf (bs : List Byte) : Option (Nat × Cap) :=
  let i := field bs 0 1
  let kind := field bs 1 1
  let ch := field bs 2 1
  let rel := field bs 3 1
  let own := decide (1 ≤ kind ∧ kind ≤ 3)
  let c : Cap :=
    ⟨kind, ch, BitVec.ofNat 7 rel, SMap.table 56 0 8 (fun i => bs.getD (8 + i) 0), 0, 0⟩
  if 64 ≤ i ∨ field bs 4 4 ≠ 0 ∨ (if own then 4 ≤ ch ∨ 128 ≤ rel else ch ≠ 0 ∨ rel ≠ 0) ∨ !c.wellFormed then none
  else some (i, c)

/-- The capabilities of a table: no index twice. -/
def capsOf (n : Nat) (bs : List Byte) : Option (SMap Cap) :=
  match (List.range n).mapM (fun i => capOf ((bs.drop (64 * i)).take 64)) with
  | none => none
  | some es =>
    if (es.map (·.1)).eraseDups.length = es.length then some (es.foldl (fun m e => m.ins e.1 e.2) []) else none

/-- The fields of a launch record's 128 bytes. -/
def launchOf (bs : List Byte) : Launch where
  cls := field bs 0 2
  entry := BitVec.ofNat 64 (field bs 8 8)
  tvec := BitVec.ofNat 64 (field bs 16 8)
  lanehnd := BitVec.ofNat 64 (field bs 24 8)
  groups := bitsAt (field bs 32 4) 0 8
  regs := 8 * bitsAt (field bs 32 4) 8 8
  barriers := bitsAt (field bs 32 4) 16 5
  wide := bitsAt (field bs 32 4) 24 4
  spad := 4096 * field bs 36 2
  carve := field bs 38 2
  quota := field bs 40 2
  grace := field bs 42 2
  ins := (BitVec.ofNat 64 (field bs 48 8)).toInt
  bytes := (BitVec.ofNat 64 (field bs 56 8)).toInt
  cores := BitVec.ofNat 64 (field bs 64 8)
  image := field bs 72 8
  imageLen := bitsAt (field bs 80 8) 0 18

/-- The sizes of the menu of carve-outs, in KiB (10 R183). -/
def carveMenu : List Nat := [0, 64, 128, 192, 256, 384, 448]

/-- The conditions of the resource floor that a record shows (25 R381). -/
def Launch.floor (l : Launch) : Bool :=
  decide (l.regs ≤ 64) && decide (l.spad ≤ 32768) && decide (l.barriers ≤ 4) && decide (l.groups ≤ 8) &&
    decide (l.wide = 0) && decide (l.quota ≤ 256) && decide (l.cores = BitVec.ofNat 64 (2 ^ 64 - 1))

/-- The fields of a record keep their limits (16 R270, 25 R378): every CLASS may run, and CLASS 0 keeps to the resource floor
(25 R376, R381). A record whose fields lie outside the ranges that 03 R59 gives the assembler is malformed too (log 111). -/
def Launch.wellFormed (l : Launch) : Bool :=
  (decide (l.cls ≠ 0) || l.floor) && within 1 32 l.groups && within 8 256 l.regs &&
    decide (l.barriers ≤ 16) && (decide (l.wide = 0) || within 2 8 l.wide) && decide (l.wide ≤ l.groups) &&
    decide (8 * l.barriers ≤ l.spad) && carveMenu.elem l.carve && decide (l.spad ≤ 1024 * l.carve) &&
    decide (1 ≤ l.grace) && decide (l.imageLen ≤ Config.constBytes)

/-- The reserved bits of a record are 0. -/
def recordClean (bs : List Byte) : Bool :=
  decide (field bs 2 6 = 0) && decide (bitsAt (field bs 32 4) 21 3 = 0) && decide (bitsAt (field bs 32 4) 28 4 = 0) &&
    decide (field bs 44 4 = 0) && decide (bitsAt (field bs 80 8) 40 24 = 0) && decide (field bs 112 16 = 0)

/-- Read a launch record with its tables; none where it is unreadable, no launch record, or breaks a rule for its own
contents (16 R270). -/
def State.launchRecord (s : State) (asid : Nat) (krec : DWord) : Option LaunchRecord :=
  if krec.toNat % 64 ≠ 0 then none
  else
    match s.asidBytes asid krec 128 with
    | none => none
    | some bs =>
      let n := field bs 80 8
      let nl := bitsAt n 18 6
      let nt := bitsAt n 24 8
      let nc := bitsAt n 32 8
      let at_ := fun off => BitVec.ofNat 64 (field bs off 8)
      if !recordClean bs ∨ !(launchOf bs).wellFormed ∨ 17 < nl then none
      else
        match s.asidBytes asid (at_ 88) (16 * nl), s.asidBytes asid (at_ 96) (34 * nt),
          s.asidBytes asid (at_ 104) (64 * nc) with
        | some lb, some tb, some cb =>
          match tensorsOf nt tb, capsOf nc cb with
          | some td, some caps => some ⟨launchOf bs, leasesOf nl lb, caps, td⟩
          | _, _ => none
        | _, _, _ => none

/-- A page that reading a launch record touches is in migration. -/
def State.recordMoves (s : State) (asid : Nat) (krec : DWord) : Bool :=
  s.asidMoves asid krec 128 ||
    (match s.asidBytes asid krec 128 with
     | none => false
     | some bs =>
       let n := field bs 80 8
       let at_ := fun off => BitVec.ofNat 64 (field bs off 8)
       s.asidMoves asid (at_ 88) (16 * bitsAt n 18 6) || s.asidMoves asid (at_ 96) (34 * bitsAt n 24 8) ||
         s.asidMoves asid (at_ 104) (64 * bitsAt n 32 8))

/-- A descriptor, its launch record and the record's tables are read (14 R249, 16 R270). -/
def State.recallLaunch (asid : Nat) (desc krec : DWord) (s : State) : State :=
  let s1 := (s.recallAsid asid desc 64).recallAsid asid krec 128
  match s.asidBytes asid krec 128 with
  | none => s1
  | some bs =>
    let n := field bs 80 8
    let at_ := fun off => BitVec.ofNat 64 (field bs off 8)
    ((s1.recallAsid asid (at_ 88) (16 * bitsAt n 18 6)).recallAsid asid (at_ 96) (34 * bitsAt n 24 8)).recallAsid asid (at_ 104)
      (64 * bitsAt n 32 8)

/-- The launch record of a descriptor, or none where the descriptor is malformed (16 R270). -/
def State.checkDescriptor (s : State) (asid : Nat) (d : Descriptor) : Option LaunchRecord :=
  if !d.clean ∨ 4096 < d.quota then none else s.launchRecord asid d.krec

/-! ## SPAWN descriptors (16 R278) -/

/-- The fields of a SPAWN task descriptor. -/
structure SpawnDesc where
  entry : DWord
  arg : DWord
  regs : Nat
  grace : Nat
  clean : Bool
deriving DecidableEq, Repr

/-- A SPAWN descriptor from its 32 bytes. -/
def spawnOf (bs : List Byte) : SpawnDesc :=
  let d := leNat bs
  ⟨BitVec.ofNat 64 (bitsAt d 0 64), BitVec.ofNat 64 (bitsAt d 64 64), bitsAt d 128 8, bitsAt d 160 16,
    decide (bitsAt d 136 24 = 0) && decide (bitsAt d 176 80 = 0)⟩

end Sys2Proof.Machine
end

