-- ==== Sys2Proof/Machine/Saves.lean ====
section
/-! DEFINITION. Budgets, forced saves, restores and eviction (06 R121, 10 R198, R199, 19 R293-R307, 24 R368-R370). -/

namespace Sys2Proof.Machine

/-! ## Handles of launched grids and BGRANT (16 R275, 19 R307) -/

/-- The task that a LAUNCH handle names while its pool entry is in use and its GEN matches. -/
def State.taskOfHandle (s : State) (h : DWord) : Option Nat :=
  let x := h.toNat
  let d := s.die (x / 2 ^ 12 % 4)
  if x / 2 ^ 14 % 2 ^ 18 ≠ 0 ∨ x / 2 ^ 48 ≠ 0 then none
  else if (d.poolGen.get 0 (x % 4096)).toNat = x / 2 ^ 32 % 2 ^ 16 then d.pool.look (x % 4096)
  else none

/-- The target of a grant, where it lies in the capability's scope and has not retired. -/
def State.grantTarget (s : State) (scope : Nat) (h : DWord) : Option Nat :=
  let me := s.me.task
  if scope = 0 then some me
  else
    match s.taskOfHandle h with
    | none => none
    | some k =>
      let inScope :=
        if scope = 1 then decide ((s.task k).parent = some me) else decide (k ≠ me) && s.isUnder me s.tasks.length k
      if inScope ∧ (s.task k).phase ≠ .retired then some k else none

/-- Deduct a grant from the allowances of a capability. -/
def Cap.deduct (ni nt : Int) (c : Cap) : Cap := { c with ins := c.ins - ni, bytesLeft := c.bytesLeft - nt }

/-- BGRANT (19 R307): a target in scope is granted later in the cycle or in a later one (log 55). -/
def execBgrant (a b c d : Nat) (s : State) : Host.Outcome State Fault Refusal :=
  let k := s.cap c
  let ni : Int := (s.sreg b).toNat
  let nt : Int := (s.sreg a).toNat
  .next (guarded [(s.full s.flagB, State.illegal 4 5)]
    (withCap c [kindGrant]
      (guarded
        [(decide ((s.sreg d = 0) ≠ (k.scope = 0)), State.capTrap 4),
         (decide (k.ins < ni) || decide (k.bytesLeft < nt), State.capTrap 3)]
        (fun s =>
          let s1 :=
            match s.grantTarget k.scope (s.sreg d) with
            | none => s
            | some t =>
              (s.modTask s.me.task (fun j => { j with caps := j.caps.upd c (Cap.deduct ni nt) })).issueOp
                (s.mkOp s.flagB 0 (.grant t ni nt))
          (s1.charge 1).advance 4))) s)

/-- The grant of an outstanding BGRANT is added to its target's pools, and its flag clears (19 R307). -/
def State.landGrant (g : SlotRef) (o : Op) (s : State) : State :=
  match o.kind with
  | .grant t ni nt => (s.addPool t ni nt).opStep g o none
  | _ => s

/-- The counters of a team in its block. -/
def Team.counterCells (a : Nat) (m : Team) : List ImageCell :=
  [⟨a, 8, (BitVec.ofInt 64 m.ci).toNat⟩, ⟨a + 8, 8, (BitVec.ofInt 64 m.ct).toNat⟩]

/-- The counters of a team evicted whole stand in its save area (19 R294, R295). -/
def State.saveCounters (t : Nat) (s : State) : State :=
  match s.blockAddr (teamBlock t) with
  | some a => if (s.team t).evicted then s.writeCells ((s.team t).counterCells a) else s
  | none => s

/-- TOPUP_LAND (19 R295): the transfer of one counter of a team lands, or returns to the pool where the team has
retired. -/
def execTopupLand (t : Nat) (ins : Bool) (s : State) : Host.Outcome State Fault Refusal :=
  let m := s.team t
  .next (
    match (if ins then m.topI else m.topT) with
    | none => s
    | some x =>
      let s1 := s.modTeam t (fun m => if ins then { m with topI := none } else { m with topT := none })
      if m.retired then s1.addPool m.task (if ins then x else 0) (if ins then 0 else x)
      else (s1.addTeam t (if ins then x else 0) (if ins then 0 else x)).saveCounters t)

/-! ## Restores (06 R121, 19 R299, R301) -/

/-- Bytes of a GRACE forced save of one context (19 R299). -/
def graceBytes (regalloc : Nat) : Int := 2880 + 128 * (regalloc : Int) + 512

/-- Lane registers of a context restored with a map: kept registers as saved, the others and q 0 (06 R121). -/
def Group.restoreLanes (map : Option DWord) (lanes : Word) (g : Group) : Group :=
  { g with
    v := g.v.keep (fun k => !(inMask lanes (k % 32)) || mapKeeps map (k / 32))
    q := g.q.keep (fun k => !(inMask lanes (k % 32))) }

/-- A context whose barrier stall has ended meanwhile goes on (10 R193). -/
def State.resumeStall (s : State) (g : SlotRef) (c : Context) : Context :=
  match c.stop with
  | .barrier _ k (some _) => c.unstall (s.onward g) k (s.barWord (s.grp g).team k).phase
  | _ => c

/-- The barrier stalls of a group that comes back end where their phase has changed; the end of a stall is an acquire (10
R193). -/
def State.resumeStalls (g : SlotRef) (s : State) : State :=
  let ends := (s.grp g).ctxs.any (fun e => decide (e.2.stall ≠ 0) && decide ((s.resumeStall g e.2).stop ≠ e.2.stop))
  (if ends then s.acquireAt g else s).modGrp g (fun h =>
    { h with ctxs := h.ctxs.map (fun e => (e.1, s.resumeStall g e.2)) })

/-- An invalid save area ends the task (24 R370). -/
def State.badRestore (g : SlotRef) (s : State) : State :=
  let i := (s.grp g).ctxs.keys.headD 0
  s.endTaskAt ⟨g, i⟩ causeDfault 0x06 ((s.grp g).ctx i).pc

/-- What was read back goes on, unless a check fails (24 R370). -/
def State.checkRestore (g : SlotRef) (is : List Nat) (records : Bool) (eff : State → State) (s : State) : State :=
  if s.restorable g is records then eff s else s.badRestore g

/-- A group that was read back whole goes on, unless a check fails (24 R370). -/
def State.checkGroup (g : SlotRef) (eff : State → State) (s : State) : State :=
  s.checkRestore g (s.grp g).ctxs.keys true eff

/-- The last-page registers of some lanes, and the SCT's, are invalid at a restore (09 R174). -/
def Group.clearPages (lanes : Word) (g : Group) : Group :=
  { g with pages := g.pages.keep (fun l => decide (l < 32) && !inMask lanes l) }

/-- Bytes that the restore of the contexts saved by GRACE is charged (19 R299). -/
def Group.graceDebt (g : Group) : Int := ((g.ctxs.filter (fun e => e.2.isGrace)).length : Int) * graceBytes g.regalloc

/-- A slot whose saved state holds a baton request queues again (24 R369; log 107). -/
def State.batonBack (g : SlotRef) (s : State) : State :=
  if (s.ownBlock g).any (fun a => decide (s.readN (a + 120) 1 = 1)) then s.askBaton g else s

/-- A group that GRACE saved goes on from the point of the save with its whole state, read back from its block (19 R302). -/
def State.restoreGrace (g : SlotRef) (s : State) : State :=
  let h := s.grp g
  let s1 :=
    match s.ownBlock g with
    | some a => s.modGrp g (fun h => (s.readGroup a h).clearPages 0xFFFFFFFF)
    | none => s.modGrp g (Group.clearPages 0xFFFFFFFF)
  s1.checkGroup g (fun s =>
    ((s.modGrp g (fun h => { h with graceDue := false, ctxs := h.ctxs.map (fun e =>
      (e.1,
        match e.2.stop with
        | .graceSaved was => { e.2 with stop := was }
        | _ => e.2)) })).resumeStalls g).batonBack g |>.chargeAt g 0 h.graceDebt)

/-- A context that CONT or YIELD saved goes on, read back from its group's block (06 R121). Flags, FRM, TRAPNF, FPFLAGS and the
observer sets belong to the slot (02 R23, 05 R99): they are as the slot's other contexts have left them (log 134). -/
def State.restoreSaved (c : CtxId) (map : Option DWord) (s : State) : State :=
  let h := s.grp c.g
  let s1 :=
    match s.ownBlock c.g with
    | some a => s.modGrp c.g (s.readSaved a c.i map)
    | none => s
  s1.checkRestore c.g [c.i] false (fun s =>
    (s.modGrp c.g (fun g =>
      ((g.restoreLanes map (g.ctx c.i).p0).clearPages (g.ctx c.i).p0).modCtx c.i (fun x => { x with stop := .running }))).chargeAt
      c.g 0 (saveBytes map h.regalloc))

/-- CONTEXT_RESTORE (06 R121, 19 R301): a context saved under a yield is restored, charged, and resumes; what GRACE saved of its
group is restored first, all of it at once. -/
def execContextRestore (c : CtxId) (s : State) : Host.Outcome State Fault Refusal :=
  let g := s.grp c.g
  .next (
    if (s.team g.team).yieldPending ∨ !s.hasCtx c then s
    else
      match (g.ctx c.i).stop with
      | .saved map => if g.isGrace then s.restoreGrace c.g else s.restoreSaved c map
      | .graceSaved _ => s.restoreGrace c.g
      | _ => s)

/-! ## Stops at which a group may be saved (10 R193, R195, R199, 11 R209, R222, 14 R260, 16 R281) -/

/-- A context stands at a clause boundary, or at a hold that counts as one. -/
def Context.atBoundary (c : Context) : Bool :=
  match c.stop with
  | .running => c.due
  | .merge _ => true
  | .barrier _ _ (some _) => true
  | .grow _ _ _ => true
  | .mclaim _ _ _ _ => true
  | .join _ => true
  | .baton => true
  | .reorder _ true => true
  | .saved _ => true
  | .graceSaved _ => true
  | .entry => true
  | _ => false

/-- A request that a save withdraws is made again when the context resumes, which goes on to w meanwhile (10 R195, 11 R209,
R222). -/
def Stop.withdraw (w : Stop) : Stop → Stop
  | .grow _ _ _ => w
  | .mclaim _ _ _ _ => w
  | .baton => w
  | x => x

/-- Every context may be saved, and no handler, lane trap or collective in progress holds the group (10 R198, 19 R302,
14 R260). -/
def State.savable (s : State) (g : SlotRef) : Bool :=
  let h := s.grp g
  h.handler.isNone && h.waiting.isEmpty && h.held.isEmpty && !(s.team h.team).reordering &&
    h.ctxs.all (fun e => e.2.atBoundary || (decide (e.2.stop = .running) && s.headerAt g e.2.pc)) &&
    h.drained 4 true && !h.ended

/-- The context that takes a delivery made at a drain point which no instruction makes: the lowest that stands at a
header, else the lowest. -/
def Group.drainCtx (g : Group) : Nat :=
  match g.ctxs.find? (fun e => decide (e.2.stop = .running)) with
  | some e => e.1
  | none => g.ctxs.keys.headD 0

/-- A drain point of a save: what is pending is delivered first (02 R27, 09 R176). -/
def State.saveDrain (g : SlotRef) (eff : Act) (s : State) : State :=
  let c : CtxId := ⟨g, (s.grp g).drainCtx⟩
  match s.storeFault g with
  | some f => (s.dropFault g).deliver c f.trap
  | none =>
    match (s.grp g).engineErrs with
    | t :: _ => (s.modGrp g (fun h => { h with engineErrs := h.engineErrs.drop 1 })).deliverAt c t
    | [] =>
      match (s.grp g).flagErr (List.range 12) with
      | some (f, t) => (s.modGrp g (Group.modFlag f (fun x => { x with err := none }))).deliverAt c t
      | none => eff s

/-- GRACE_FORCED_SAVE (19 R302): what still runs of the group is charged, the group is saved whole and a GRACE record is
written. A context that counts as saved stays where it stands, and costs nothing (19 R299). -/
def execGraceForcedSave (g : SlotRef) (s : State) : Host.Outcome State Fault Refusal :=
  let h := s.grp g
  let n := (h.ctxs.filter (fun e => !e.2.stop.asSaved)).length
  .next (
    if h.graceDue ∧ h.kind = .group ∧ s.savable g ∧ n ≠ 0 then
      s.saveDrain g (fun s =>
        let s1 := s.modGrp g (fun h =>
          { h with ctxs := h.ctxs.map (fun e =>
              (e.1, if e.2.stop.asSaved then e.2 else { e.2 with stop := .graceSaved e.2.stop })) })
        let s2 :=
          match s1.ownBlock g with
          | some a => s1.writeCells (s1.groupCells a (s.wantsBaton g) (s1.grp g))
          | none => s1
        let k := s.task h.task
        ((s2.parkBaton g).chargeAt g 0 (n * graceBytes h.regalloc)).record true
          (recordWords causeGrace 0 0 k.asid k.gridId (s.handle g) 0 0 0 0))
    else s)

/-! ## The save area (24 R368, R369) -/

/-- Granules of a team block: the layout up to the scratchpad image, the scratchpad, and 48 slot images for each member
core (24 R369). -/
def teamBlockGranules (spad members : Nat) : Nat := (0x1B9100 + spad + 17920 * 48 * members + 4095) / 4096

/-- A run of n granules of the pool is free from granule i. -/
def IoDie.freeRun (io : IoDie) (n i : Nat) : Bool :=
  decide (4096 * (i + n) ≤ io.sapsize.toNat) &&
    io.blocks.all (fun e => decide (i + n ≤ e.2.1) || decide (e.2.1 + e.2.2 ≤ i))

/-- Carve a block of n granules at the lowest place that is free; none where the pool has no room (24 R368). -/
def State.carve (b n : Nat) (s : State) : Option State :=
  let starts := 0 :: s.io.blocks.map (fun e => e.2.1 + e.2.2)
  let fits := starts.filter (s.io.freeRun n)
  match fits with
  | [] => none
  | i :: r =>
    some { s with io := { s.io with blocks := s.io.blocks.ins b (r.foldl min i, n) } }

/-- The largest GRACE count of a team's groups. -/
def State.graceOf (s : State) (m : Team) : Nat :=
  m.slots.foldl (fun n e =>
    match e.2 with
    | .at g => max n (s.grp g).graceCount
    | .image h _ => max n h.graceCount
    | .retired => n) 0

/-- The first 128 bytes of a team block; bits 0-31 of a member's six mask bytes are its operand slots (24 R369; log 107). -/
def State.teamHead (s : State) (m : Team) (om : SMap OmSlot) (ac : SMap AcSlot) (a : Nat) : List ImageCell :=
  m.counterCells a ++
    [⟨a + 16, 2, s.graceOf m⟩, ⟨a + 18, 1, if m.yieldPending then 1 else 0⟩, ⟨a + 20, 4, m.collectives⟩] ++
    (List.range m.cores.length).map (fun i =>
      let held := (om.filter (fun e => e.1 / 32 = i)).foldl (fun x e => x + 2 ^ (e.1 % 32)) 0
      ⟨a + 24 + 6 * i, 6, (ac.filter (fun e => e.1 / 32 = i)).foldl (fun x e => x + 2 ^ (32 + e.1 % 32)) held⟩)

/-- The code of a format tag in a slot image; 0 for none (log 107). -/
def Tag.code : Option Tag → Nat
  | none => 0
  | some t => 1 + t.fmt + 256 * t.scale

/-- The tag of a code. -/
def Tag.ofCode (x : Nat) : Option Tag := if x = 0 then none else some ⟨(x - 1) % 256, (x - 1) / 256⟩

/-- n bits from bit k on. -/
def bitsOf (f : Nat → Bool) (k n : Nat) : Nat := (List.range n).foldl (fun x i => if f (k + i) then x + 2 ^ i else x) 0

/-- The chunk summaries of an operand slot (11 R208): ZERO and NF of the first 16 chunks of row r behind the tag, and of a t3
row's further 24 in its side row, which carries no scale bytes (log 107). -/
def OmSlot.summaryCells (a : Nat) (o : OmSlot) (t : Tag) : List ImageCell :=
  let zero := fun (r k : Nat) => decide (k < rowChunks t.fmt) && o.chunkZero t r k
  let nf := fun (r k : Nat) => decide (k < rowChunks t.fmt) && o.chunkNf t r k
  (List.range 64).flatMap (fun r => [⟨a + 17416 + 4 * r, 2, bitsOf (zero r) 0 16⟩, ⟨a + 17418 + 4 * r, 2, bitsOf (nf r) 0 16⟩]) ++
    (if t.fmt = 8 then
      (List.range 64).flatMap (fun r =>
        [⟨a + 16384 + 16 * r, 3, bitsOf (zero r) 16 24⟩, ⟨a + 16387 + 16 * r, 3, bitsOf (nf r) 16 24⟩])
    else [])

/-- The image of an operand slot: contents, side rows, tag, summaries (24 R369; log 107). -/
def OmSlot.cells (a : Nat) (o : OmSlot) : List ImageCell :=
  (List.range 16384).map (fun x => ⟨a + x, 1, (o.bytes.get 0 x).toNat⟩) ++
    (List.range 1024).map (fun x => ⟨a + 16384 + x, 1, (o.side.get 0 x).toNat⟩) ++ [⟨a + 17408, 8, Tag.code o.tag⟩] ++
    (match o.tag with
     | some t => o.summaryCells a t
     | none => [])

/-- The image of an accumulator slot: words, H, statistics (24 R369; log 107). -/
def AcSlot.cells (a : Nat) (c : AcSlot) : List ImageCell :=
  (List.range 4096).map (fun k => ⟨a + 4 * k, 4, (c.words.get 0 k).toNat⟩) ++ [⟨a + 16384, 1, c.h⟩] ++
    (List.range 64).map (fun k => ⟨a + 17408 + 4 * k, 4, (c.m.get 0xFF800000 k).toNat⟩) ++
    (List.range 64).map (fun k => ⟨a + 17664 + 4 * k, 4, (c.l.get 0 k).toNat⟩)

/-- The images of a team's slots: those of member i from place 48 i on, its accumulator slots behind its operand slots. -/
def slotCells (om : SMap OmSlot) (ac : SMap AcSlot) (a : Nat) : List ImageCell :=
  om.flatMap (fun e => e.2.cells (a + 17920 * (48 * (e.1 / 32) + e.1 % 32))) ++
    ac.flatMap (fun e => e.2.cells (a + 17920 * (48 * (e.1 / 32) + 32 + e.1 % 32)))

/-- The team's descriptors, barriers and scratchpad in its block (24 R369). -/
def State.teamCells (s : State) (t a : Nat) : List ImageCell :=
  let m := s.team t
  (List.range 64).map (fun k => ⟨a + 0x80 + 32 * k, 32, (m.td.get 0 k).toNat⟩) ++
    (List.range m.barriers).flatMap (fun k =>
      [⟨a + 0x880 + 136 * k, 8, s.readN (m.barLoc k) 8⟩,
       ⟨a + 0x888 + 136 * k, 128, (m.arrivals.get [] k).foldl (fun x e => x ||| 2 ^ (32 * e.1 + e.2)) 0⟩]) ++
    (List.range m.spadSize).map (fun x => ⟨a + 0x1B9100 + x, 1, (s.byte (m.spad x)).toNat⟩)

/-- An operand slot of a team, read back from its image; its chunk summaries are functions of its contents. -/
def State.readOm (s : State) (t a : Nat) : OmSlot :=
  let tag := Tag.ofCode (s.readN (a + 17408) 8)
  { team := t
    bytes := SMap.table 16384 0 0 (fun x => s.byte (a + x))
    side := if tag.any (fun k => decide (k.fmt = 8)) then [] else SMap.table 1024 0 0 (fun x => s.byte (a + 16384 + x))
    tag := tag }

/-- An accumulator slot of a team, read back from its image. -/
def State.readAc (s : State) (t a : Nat) : AcSlot where
  team := t
  words := SMap.table 4096 0 0 (fun k => s.readBits 32 (a + 4 * k) 4)
  m := SMap.table 64 0xFF800000 0 (fun k => s.readBits 32 (a + 17408 + 4 * k) 4)
  l := SMap.table 64 0 0 (fun k => s.readBits 32 (a + 17664 + 4 * k) 4)
  h := s.readN (a + 16384) 1

/-- The slots of its members that a team's block claims, of the n from bit b of each mask on: 32 member + slot, and the place
of the image. -/
def State.claimedIn (s : State) (m : Team) (a b n : Nat) : List (Nat × Nat) :=
  (List.range m.cores.length).flatMap (fun i =>
    ((List.range n).filter (fun x => (s.readN (a + 24 + 6 * i) 6).testBit (b + x))).map (fun x =>
      (32 * i + x, a + 0x1B9100 + m.spadSize + 17920 * (48 * i + b + x))))

/-- The GRACE count of a group that comes back with its team: its team's (log 107). -/
def Place.withGrace (n : Nat) : Place → Place
  | .image h r => .image { h with graceCount := n } r
  | p => p

/-- A team as its block holds it; what the block does not hold is as it was (24 R369). -/
def State.readTeam (s : State) (t a : Nat) : Team :=
  let m := s.team t
  { m with
    ci := (s.readBits 64 a 8).toInt
    ct := (s.readBits 64 (a + 8) 8).toInt
    slots := m.slots.map (fun e => (e.1, e.2.withGrace (s.readN (a + 16) 2)))
    yieldPending := decide (s.readN (a + 18) 1 = 1)
    collectives := s.readN (a + 20) 4
    td := SMap.table 64 0 0 (fun k => s.readBits 256 (a + 0x80 + 32 * k) 32)
    arrivals := SMap.table m.barriers [] 0 (fun k =>
      ((List.range 1024).filter (fun x => (s.readN (a + 0x888 + 136 * k) 128).testBit x)).map (fun x => (x / 32, x % 32)))
    omImage := (s.claimedIn m a 0 32).map (fun e => (e.1, s.readOm t e.2))
    acImage := (s.claimedIn m a 32 16).map (fun e => (e.1, s.readAc t e.2)) }

/-- The counts and masks of a team read back lie within their limits: it yields or not, and its barriers have seen threads of
its groups only (24 R370; log 107). -/
def State.teamOk (s : State) (a : Nat) (m : Team) : Bool :=
  decide (s.readN (a + 18) 1 ≤ 1) && m.arrivals.all (fun e => e.2.all (fun x => decide (x.1 < m.groups)))

/-- The barrier words come back from the team's block. -/
def State.readBars (t a : Nat) (s : State) : State :=
  let m := s.team t
  (List.range m.barriers).foldl (fun r k => r.writeN (m.barLoc k) 8 (s.readN (a + 0x880 + 136 * k) 8)) s

/-- Scratchpad bytes come back from the team's block. -/
def State.readSpad (t a : Nat) (s : State) : State :=
  let m := s.team t
  (List.range m.spadSize).foldl (fun r x => r.setByte (m.spad x) (s.byte (a + 0x1B9100 + x))) s

/-- The slots a core holds for a team, by number. -/
def Core.omOf (t : Nat) (c : Core) : SMap OmSlot := c.om.filter (fun e => decide (e.2.team = t))
def Core.acOf (t : Nat) (c : Core) : SMap AcSlot := c.ac.filter (fun e => decide (e.2.team = t))

/-- Images of the slots that a team holds on its member cores (11 R211). -/
def State.slotImages (s : State) (m : Team) (t : Nat) : SMap OmSlot × SMap AcSlot :=
  ((List.range m.cores.length).flatMap (fun i =>
      ((s.core (m.cores.getD i ⟨0, 0⟩)).omOf t).map (fun e => (32 * i + e.1, e.2))),
   (List.range m.cores.length).flatMap (fun i =>
      ((s.core (m.cores.getD i ⟨0, 0⟩)).acOf t).map (fun e => (32 * i + e.1, e.2))))

/-! ## The task block (24 R368, R369) -/

/-- A capability entry as its 64 bytes (25 R379). -/
def Cap.cells (a i : Nat) (c : Cap) : List ImageCell :=
  [⟨a, 1, i⟩, ⟨a + 1, 1, c.kind⟩, ⟨a + 2, 1, c.ch⟩, ⟨a + 3, 1, c.rel.toNat⟩, ⟨a + 4, 4, 0⟩] ++
    (List.range 56).map (fun x => ⟨a + 8 + x, 1, (c.bytes.get 0 (8 + x)).toNat⟩)

/-- A number below its 64 bits at the end of a list of words. -/
def wordCells (a : Nat) (xs : List Nat) : List ImageCell := xs.zipIdx.map (fun x => ⟨a + 8 * x.2, 8, x.1 % 2 ^ 64⟩)

/-- A task in its block: capability entries, pools, grant allowances, leases, as far as the block reaches (24 R369; log
107). -/
def Task.cells (a : Nat) (j : Task) : List ImageCell :=
  let grants := (j.caps.vals.filter (fun c => decide (c.kind = kindGrant))).flatMap (fun c => [c.ins.toNat, c.bytesLeft.toNat])
  let leases := j.leases.flatMap (fun l =>
    [l.base, l.len + (if l.migr then 2 ^ 62 else 0) + (if l.rw then 2 ^ 63 else 0)])
  (j.caps.zipIdx.flatMap (fun x => x.1.2.cells (a + 64 * x.2) x.1.1) ++
    wordCells (a + 64 * j.caps.length)
      ([(BitVec.ofInt 64 j.pi).toNat, (BitVec.ofInt 64 j.pt).toNat] ++ grants ++ leases)).filter
    (fun c => decide (c.a + c.n ≤ a + 4096))

/-- A task's block is written. -/
def State.saveTask (k : Nat) (s : State) : State :=
  match s.blockAddr (taskBlock k) with
  | some a => s.writeCells ((s.task k).cells a)
  | none => s

/-! ## Eviction (10 R198, R199) -/

/-- A group is to be evicted: it stops at its next boundary, and its sleepers wake (06 R125). -/
def State.markEvict (g : SlotRef) (s : State) : State := s.modGrp g (fun h => { h.wakeAll with evicting := true })

/-- The group is kept as an image. -/
def Place.isImage (x : Place) : Bool :=
  match x with
  | .image _ _ => true
  | _ => false

/-- No group of the team stands in a slot any more, and one is kept as an image. -/
def Team.wholeImage (m : Team) : Bool :=
  m.slots.any (fun e => e.2.isImage) &&
  m.slots.all (fun e =>
    match e.2 with
    | .at _ => false
    | _ => true)

/-- A team whose last group has been evicted is saved whole and leaves its cores (10 R199, 11 R211). -/
def State.evictTeam (t : Nat) (s : State) : State :=
  let m := s.team t
  match s.blockAddr (teamBlock t) with
  | none => s
  | some a =>
    if m.retired ∨ m.evicted ∨ !m.wholeImage then s
    else
      let im := s.slotImages m t
      (((s.writeCells (s.teamHead m im.1 im.2 a ++ s.teamCells t a ++ slotCells im.1 im.2 (a + 0x1B9100 + m.spadSize))).modTeam t (fun m =>
        { m with evicted := true, omImage := im.1, acImage := im.2, freed := [] })).leaveCores t m.cores).saveTask m.task

/-- A group retires: its slot is freed, and its team retires with its last group (05 R95); where only images of its team are
left, the team is then saved whole (10 R199). -/
def State.retireGroup (g : SlotRef) (s : State) : State :=
  let h := s.grp g
  let s1 := s.freeSlot g
  if h.kind = .group then
    (((s1.modTeam h.team (fun m =>
      { m with slots := m.slots.ins h.gi .retired, freed := m.freed ++ [(g, h.regalloc / 8)] })).teamRetire h.team).evictTeam
      h.team).sendReports
  else s1.sendReports

/-- GROUP_EVICT_SAVE (10 R199): the group's state goes to its save area and its slot and granules are freed. -/
def execGroupEvictSave (g : SlotRef) (s : State) : Host.Outcome State Fault Refusal :=
  let h := s.grp g
  .next (
    match s.groupBlock h.team h.gi with
    | none => s
    | some a =>
      if h.evicting ∧ h.kind = .group ∧ s.savable g ∧ !s.dropping g then
        s.saveDrain g (fun s =>
          let h := s.grp g
          let im : Group :=
            { h with
              evicting := false
              pages := []
              waited := 0
              promoted := false
              ctxs := h.ctxs.map (fun e => (e.1, { e.2 with stop := e.2.stop.withdraw (s.onward g) })) }
          let s1 := ((s.writeCells (s.groupCells a (s.wantsBaton g) im)).count g.coreRef 12 1).freeSlot g
          (s1.modTeam h.team (fun m => { m with slots := m.slots.ins h.gi (.image im g) })).evictTeam h.team)
      else s)

/-- An image returns to a slot: restored, checked (24 R370), with a new generation (05 R100). -/
def State.returnGroup (t gi : Nat) (im : Group) (from_ g : SlotRef) (s : State) : State :=
  let h :=
    match s.groupBlock t gi with
    | some a => s.readGroup a im
    | none => im
  (((s.occupy g h).moveViews from_ g).modTeam t (fun m => { m with slots := m.slots.ins gi (.at g) })).checkGroup g
    (fun s => (s.resumeStalls g).batonBack g)

/-- The lowest free slot of a partition of a core (10 R182). -/
def State.freeSlots (s : State) (c : CoreRef) (p : Nat) : List SlotRef :=
  ((List.range 48).filter (fun n => decide (n % 4 = p))).filterMap (fun n =>
    let g : SlotRef := ⟨c.die, c.core, n⟩
    if s.hasGrp g then none else some g)

/-- The queue that a task descends from is switched out (24 R371). -/
def State.switchedOut (s : State) (k : Nat) : Bool :=
  match (s.task k).queue with
  | none => false
  | some q => (s.io.queues.get Queue.empty q).qsw.getLsbD 0

/-- EVICTED_GROUP_RETURN (10 R199): while any group of its team stays resident, an evicted group returns to its core,
into a slot of its former partition, once it fits. -/
def execEvictedGroupReturn (t gi : Nat) (s : State) : Host.Outcome State Fault Refusal :=
  let m := s.team t
  .next (
    match m.slots.look gi with
    | some (.image im at_) =>
      if m.evicted ∨ m.retired ∨ s.switchedOut m.task ∨
          s.granulesFree at_.coreRef at_.partition < im.regalloc / 8 then s
      else
        match s.freeSlots at_.coreRef at_.partition with
        | [] => s
        | g :: _ => s.returnGroup t gi im at_ g
    | _ => s)

end Sys2Proof.Machine
end

