-- ==== Sys2Proof/Machine/Place.lean ====
section
/-! DEFINITION. Fitting and placing teams, the distributors, steals and the task queues (10 R181-R185, R198, 14
R244-R246, 16 R272-R274, R280, 19 R294). -/

namespace Sys2Proof.Machine

/-! ## Fitting (10 R181-R183) -/

/-- The bytes that each member core holds of a team's scratchpad (10 R183, 14 R246). -/
def spadShare (spad members : Nat) : Nat :=
  if members ≤ 1 then spad else ((spad + 1024 * members - 1) / (1024 * members) * 1024 + 4095) / 4096 * 4096

/-- The scratchpad runs that teams hold on a core. -/
def State.spadRuns (s : State) (c : CoreRef) : List (Nat × Nat) :=
  (s.teamsOn c).map (fun t =>
    let m := s.team t
    (m.spadBase.get 0 (m.member c), spadShare m.spadSize m.cores.length))

/-- The lowest offset where a run of n bytes is free within the carve-out (10 R183). -/
def freeRunAt (carve n : Nat) (runs : List (Nat × Nat)) : Option Nat :=
  if n = 0 then some 0
  else
    let fits := fun o => decide (o + n ≤ carve) && runs.all (fun r => decide (o + n ≤ r.1) || decide (r.1 + r.2 ≤ o))
    let cands := (0 :: runs.map (fun r => r.1 + r.2)).filter fits
    match cands with
    | [] => none
    | x :: r => some (r.foldl min x)

/-- The barrier slots that teams hold on a core: on their member 0 (10 R189, 14 R245). -/
def State.barriersUsed (s : State) (c : CoreRef) : Nat :=
  ((s.teamsOn c).map (fun t => if (s.team t).cores.headD ⟨0, 0⟩ = c then (s.team t).barriers else 0)).foldl (· + ·) 0

/-- What fitting groups one after another has taken: slots, and granules by partition. -/
structure Taken where
  slots : List SlotRef
  granules : SMap Nat
deriving DecidableEq, Repr

/-- The slots of a core that retired groups of unretired teams have freed, with their granules: a core gains room for a
new team only by a team's retirement (17 R287; log 106). -/
def State.freedOn (s : State) (c : CoreRef) : List (SlotRef × Nat) :=
  s.teams.flatMap (fun e => if e.2.retired then [] else e.2.freed.filter (fun x => decide (x.1.coreRef = c) && !s.hasGrp x.1))

/-- What is taken of a core before a new team is fitted. -/
def State.keptTaken (s : State) (c : CoreRef) : Taken :=
  (s.freedOn c).foldl (fun x e => ⟨x.slots ++ [e.1], x.granules.ins e.1.partition (x.granules.get 0 e.1.partition + e.2)⟩) ⟨[], []⟩

/-- Fit one more group of r registers into partition p of a core. -/
def State.fitOne (s : State) (c : CoreRef) (p r : Nat) (x : Taken) : Option Taken :=
  match (s.freeSlots c p).find? (fun g => !(x.slots.elem g)) with
  | none => none
  | some g =>
    let used := x.granules.get 0 p + r / 8
    if used ≤ s.granulesFree c p then some ⟨x.slots ++ [g], x.granules.ins p used⟩ else none

/-- Fit groups with these partitions and register counts behind what is taken. -/
def State.fitInto (s : State) (c : CoreRef) (x : Taken) (ps : List (Nat × Nat)) : Option (List SlotRef) :=
  (ps.foldl (fun (y : Option Taken) p => y.bind (s.fitOne c p.1 p.2)) (some x)).map (fun y => y.slots.drop x.slots.length)

/-- Fit groups with these register counts from starting partition σ, behind what is taken (10 R182). -/
def State.fitFrom (s : State) (c : CoreRef) (x : Taken) (σ : Nat) (rs : List Nat) : Option (List SlotRef) :=
  s.fitInto c x ((List.range rs.length).map (fun i => ((σ + i) % 4, rs.getD i 0)))

/-- The starting partitions in the order tried, with the slots they give (10 R182). -/
def State.fitSlots (s : State) (c : CoreRef) (x : Taken) (rs : List Nat) : Option (Nat × List SlotRef) :=
  ((List.range 4).filterMap (fun i =>
    let σ := ((s.core c).pointer + i) % 4
    (s.fitFrom c x σ rs).map (fun gs => (σ, gs)))).head?

/-- The slots of groups that return to their former partitions; the partition pointer stays (10 R182). -/
def State.fitBack (s : State) (c : CoreRef) (ps : List Nat) (rs : List Nat) : Option (Nat × List SlotRef) :=
  (s.fitInto c ⟨[], []⟩ (ps.zip rs)).map (fun gs => (((s.core c).pointer + 3 * gs.length) % 4, gs))

/-- What a team needs of one core. -/
structure Need where
  regs : List Nat
  /-- the partitions of groups that return, by group; none for a new team -/
  parts : Option (List Nat)
  carve : Nat
  share : Nat
  barriers : Nat
  /-- the grid that must own the constant store, where it has an image -/
  image : Option Nat
  /-- the image can be read now -/
  imageReady : Bool
deriving DecidableEq, Repr

/-- Where a team would stand on a core. -/
structure Fit where
  core : CoreRef
  start : Nat
  slots : List SlotRef
  base : Nat
deriving DecidableEq, Repr

/-- Conditions 1 to 5 of R181 on one core. -/
def State.fitCore (s : State) (c : CoreRef) (n : Need) : Option Fit :=
  let k := s.core c
  let owned :=
    match n.image with
    | none => true
    | some g => (decide (k.owner = none) && n.imageReady) || decide (k.owner = some g)
  if !owned ∨ (k.carve ≠ n.carve ∧ s.teamsOn c ≠ []) ∨ 16 < s.barriersUsed c + n.barriers then none
  else
    let slots :=
      match n.parts with
      | none => s.fitSlots c (s.keptTaken c) n.regs
      | some ps => s.fitBack c ps n.regs
    match slots, freeRunAt (1024 * n.carve) n.share (s.spadRuns c) with
    | some (σ, gs), some b => some ⟨c, σ, gs, b⟩
    | _, _ => none

/-- Member i's groups among g (14 R244). -/
def memberGroups (g n i : Nat) : List Nat := (List.range g).filter (fun j => decide (j % max 1 n = i))

/-- The grid whose image a task's teams need on the constant store. -/
def State.needImage (s : State) (k : Nat) : Option Nat :=
  if (s.task k).l.image ≠ 0 then some (s.gridOf k) else none

/-- A task's constant image can be read: no page of it migrates, and no combiner wave holds a line of it (22 R345; log 135). -/
def State.imageReady (s : State) (k : Nat) : Bool :=
  !s.asidMoves (s.task k).asid (BitVec.ofNat 64 (s.task k).l.image) (s.task k).l.imageLen

/-- What member i of a team needs, with these registers by group, and for a returning one these partitions. -/
def State.memberNeed (s : State) (k : Nat) (regs : List Nat) (parts : Option (List Nat)) (n i : Nat) : Need :=
  let l := (s.task k).l
  let mine := (memberGroups regs.length n i).filter (fun j => decide (regs.getD j 0 ≠ 0))
  { regs := mine.map (fun j => regs.getD j 0)
    parts := parts.map (fun ps => mine.map (fun j => ps.getD j 0))
    carve := l.carve
    share := spadShare l.spad n
    barriers := if i = 0 then l.barriers else 0
    image := s.needImage k
    imageReady := s.imageReady k }

/-- A team fits a list of member cores (10 R181, 14 R245). -/
def State.fitCores (s : State) (k : Nat) (regs : List Nat) (parts : Option (List Nat)) (cs : List CoreRef) :
    Option (List Fit) :=
  (List.range cs.length).mapM (fun i => s.fitCore (cs.getD i ⟨0, 0⟩) (s.memberNeed k regs parts cs.length i))

/-! ## Placing -/

/-- A group as it is placed (05 R83-R85, R99). -/
def State.newGroup (s : State) (t k gi : Nat) : Group :=
  let j := s.task k
  let ctx : Context :=
    { Context.empty with
      s := SMap.put (SMap.put [] 0 1 j.d.arg) 0 55 (BitVec.ofNat 64 Config.spwBase)
      p0 := 0xFFFFFFFF
      pc := j.l.entry }
  let ids := SMap.table 32 0 0 (fun l => BitVec.ofNat 32 (32 * gi + l))
  { Group.empty with
    team := t, task := k, gi := gi, ctxs := [(0, ctx)], teamThread := ids, origin := ids, regalloc := j.l.regs
    placed := s.serial }

/-- The first team of a grid with an image loads the constant store: the image, zero-filled (10 R185). -/
def State.loadConst (c : CoreRef) (k : Nat) (s : State) : State :=
  let j := s.task k
  match s.needImage k, (s.core c).owner with
  | some g, none =>
    (((s.recallPlaces (some (8 * c.die + c.cluster)) (s.asidPlaces j.asid (BitVec.ofNat 64 j.l.image) j.l.imageLen)).zeroBytes
      (constLoc c 0) Config.constBytes).fillStore 0
      ((List.range j.l.imageLen).map (fun i => (s.asidByte j.asid (BitVec.ofNat 64 (j.l.image + i))).getD 0)) c).modCore c
      (fun x => { x with owner := some g })
  | _, _ => s

/-- A core takes its part of a team: carve-out, partition pointer, zeroed scratchpad, constant store (10 R181-R185). -/
def State.takeCore (k : Nat) (f : Fit) (s : State) : State :=
  let l := (s.task k).l
  let n := max 1 l.wide
  (((s.modCore f.core (fun c =>
      { c with
        carve := if s.teamsOn f.core = [] then l.carve else c.carve
        pointer := (f.start + f.slots.length) % 4 })).zeroBytes (spadLoc f.core f.base) (spadShare l.spad n)).loadConst
    f.core k)

/-- The slots of the groups of a team, by group (14 R244). -/
def fitSlotsOf (regs : List Nat) (fs : List Fit) : List (Nat × SlotRef) :=
  (List.range fs.length).flatMap (fun i =>
    let js := (memberGroups regs.length fs.length i).filter (fun j => decide (regs.getD j 0 ≠ 0))
    match fs[i]? with
    | some f => js.zip f.slots
    | none => [])

/-- The allotment of one counter (19 R294). -/
def allotment (p : Int) (u : Nat) : Int := if 0 < p then p / (u : Int) else 0

/-- A barrier's word at placement (10 R189). -/
def State.initBarriers (t : Nat) (s : State) : State :=
  let m := s.team t
  (List.range m.barriers).foldl (fun s k => s.writeN (m.barLoc k) 8 (32 * m.groups)) s

/-- A team placed yield-pending counts as saved at its entry clause (19 R301). -/
def State.entryHold (t : Nat) (s : State) : State :=
  if (s.team t).yieldPending then
    { s with groups := s.groups.map (fun e =>
        if e.2.team = t ∧ e.2.kind = .group then
          (e.1, { e.2 with ctxs := e.2.ctxs.map (fun c => (c.1, { c.2 with stop := .entry })) })
        else e) }
  else s

/-- Place a new team on its cores: block, allotment, groups, barriers (19 R294, 24 R368). -/
def State.placeTeam (k teamId : Nat) (fs : List Fit) (s : State) : Option State :=
  let j := s.task k
  let t := s.serial
  let regs := List.replicate j.l.groups j.l.regs
  match s.carve (teamBlock t) (teamBlockGranules j.l.spad fs.length) with
  | none => none
  | some s0 =>
    let ai := allotment j.pi j.unplaced
    let at_ := allotment j.pt j.unplaced
    let slots := fitSlotsOf regs fs
    let team : Team :=
      { Team.empty with
        task := k, teamId := teamId, groups := j.l.groups, cores := fs.map Fit.core
        spadBase := (List.range fs.length).filterMap (fun i => (fs[i]?).map (fun f => (i, f.base)))
        spadSize := j.l.spad, barriers := j.l.barriers
        slots := slots.foldl (fun m e => m.ins e.1 (.at e.2)) []
        ci := ai, ct := at_, grace := j.l.grace, td := j.td, retired := false }
    let s1 := fs.foldl (fun s f => s.takeCore k f) s0
    let s2 : State := { s1.fresh with teams := s1.teams.ins t team }
    let s3 := s2.modTask k (fun j => { j with pi := j.pi - ai, pt := j.pt - at_, unplaced := j.unplaced - 1 })
    let s4 := slots.foldl (fun s e => ((s.occupy e.2 (s.newGroup t k e.1)).acquireAt e.2).fresh) s3
    some (((s4.initBarriers t).yieldTest t).entryHold t)

/-! ## Return of a team evicted whole (10 R199, 11 R211) -/

/-- Registers by group of a team's images; 0 for a group that has retired. -/
def Team.imageRegs (m : Team) : List Nat :=
  (List.range m.groups).map (fun gi =>
    match m.slots.look gi with
    | some (.image g _) => g.regalloc
    | _ => 0)

/-- The partitions of a team's images, by group (10 R182). -/
def Team.imageParts (m : Team) : List Nat :=
  (List.range m.groups).map (fun gi =>
    match m.slots.look gi with
    | some (.image _ g) => g.partition
    | _ => 0)

/-- No slot number of the team's images is held by another team on a core (11 R211). -/
def State.slotsFree (s : State) (m : Team) (i : Nat) (c : CoreRef) : Bool :=
  m.omImage.all (fun e => decide (e.1 / 32 ≠ i) || ((s.core c).om.look (e.1 % 32)).isNone) &&
    m.acImage.all (fun e => decide (e.1 / 32 ≠ i) || ((s.core c).ac.look (e.1 % 32)).isNone)

/-- The slot images of member i go back to a core. -/
def State.restoreSlots (m : Team) (i : Nat) (c : CoreRef) (s : State) : State :=
  s.modCore c (fun k =>
    { k with
      omLeft := k.omLeft.filter (fun e => (m.omImage.look (32 * i + e.1)).isNone)
      acLeft := k.acLeft.filter (fun e => (m.acImage.look (32 * i + e.1)).isNone)
      om := (m.omImage.filter (fun e => decide (e.1 / 32 = i))).foldl (fun x e => x.ins (e.1 % 32) e.2) k.om
      ac := (m.acImage.filter (fun e => decide (e.1 / 32 = i))).foldl (fun x e => x.ins (e.1 % 32) e.2) k.ac })

/-- ADECP on a word of a team's scratchpad (16 R280). -/
def State.decCounter (t off : Nat) (s : State) : State :=
  let a := (s.team t).spad off
  let x := s.readN a 4
  if 0 < x ∧ x < 2 ^ 31 then s.writeN a 4 (x - 1) else s

/-- A team evicted whole returns to cores as its block holds it: counters, descriptors, scratchpad, barriers, slots, groups,
and the decrements that waited; a check that fails ends the task (24 R369, R370). -/
def State.returnTeam (t : Nat) (fs : List Fit) (s : State) : State :=
  let a := (s.blockAddr (teamBlock t)).getD 0
  let m := s.readTeam t a
  let slots := fitSlotsOf m.imageRegs fs
  let s1 := fs.foldl (fun s f => s.takeCore m.task f) s
  let s2 := s1.modTeam t (fun _ =>
    { m with
      evicted := false, omImage := [], acImage := [], decs := []
      cores := fs.map Fit.core
      spadBase := (List.range fs.length).filterMap (fun i => (fs[i]?).map (fun f => (i, f.base))) })
  let s3 := (List.range fs.length).foldl (fun s i =>
    match fs[i]? with
    | some f => s.restoreSlots m i f.core
    | none => s) s2
  let s5 := m.decs.foldl (fun s off => s.decCounter t off) ((s3.readSpad t a).readBars t a)
  if !s.teamOk a m ∨ !(List.range fs.length).all (fun i => (fs[i]?).all (fun f => s.slotsFree m i f.core)) then
    s.endTask m.task causeDfault 0x06 0 0 0 0
  else slots.foldl (fun s e =>
    match m.slots.look e.1 with
    | some (.image im from_) => if (s.task m.task).cause.isSome then s else s.returnGroup t e.1 im from_ e.2
    | _ => s) s5

/-! ## The distributor (16 R273) -/

/-- The eligible cores of a grid on a die (25 R378); those of its cluster for the team of a SPAWN task (16 R280). -/
def State.eligible (s : State) (k die : Nat) : List CoreRef :=
  let j := s.task k
  ((List.range 64).filter (fun i => if j.spawn then decide (die * 8 + i / 8 = j.cluster) else j.l.cores.getLsbD i)).map
    (fun i => ⟨die, i⟩)

/-- The constant store of a core lets a team of a task in: it has no owner, or the task's own grid (10 R185). -/
def State.storeOpen (s : State) (k : Nat) (c : CoreRef) : Bool :=
  match s.needImage k, (s.core c).owner with
  | some g, some o => decide (o = g)
  | some _, none => s.imageReady k
  | none, _ => true

/-- The carve-out of a core lets a team of a task in: it is the team's, or the core holds no team (10 R181, R183). -/
def State.carveOpen (s : State) (k : Nat) (c : CoreRef) : Bool :=
  decide ((s.core c).carve = (s.task k).l.carve) || decide (s.teamsOn c = [])

/-- An evicted group waits to return to a core, of a team of this priority or a higher one (10 R199). -/
def State.returnsFirst (s : State) (c : CoreRef) (pri : Nat) : Bool :=
  s.teams.any (fun e => !e.2.retired && !e.2.evicted && decide (pri ≤ (s.task e.2.task).pri) && !s.switchedOut e.2.task &&
    e.2.slots.any (fun x =>
      match x.2 with
      | .image _ g => decide (g.coreRef = c)
      | _ => false))

/-- The core on which the head of a cluster's task queue would be placed once its leases are resident, with its slot (10 R181,
16 R280, 22 R343): a group slot is free as soon as its group has retired. -/
def State.headCore (s : State) (die cluster : Nat) : Option (Nat × Fit) :=
  match (s.taskQueues.get [] (die * 8 + cluster)).head?.filter (fun k => decide ((s.task k).phase = .resident)) with
  | none => none
  | some k =>
    let regs := [(s.task k).l.regs]
    let fits := (List.range 8).filterMap (fun i =>
      let c : CoreRef := ⟨die, cluster * 8 + i⟩
      if s.carveOpen k c && s.storeOpen k c && !s.returnsFirst c (s.task k).pri then
        (s.fitSlots c ⟨[], []⟩ regs).map (fun x => (⟨c, x.1, x.2, 0⟩ : Fit))
      else none)
    fits.head?.map (fun f => (k, f))

/-- Work that comes before a new team of this priority on a core: an evicted group that waits to return there, or the
head of its cluster's task queue (10 R199, 16 R280). -/
def State.barred (s : State) (c : CoreRef) (pri : Nat) : Bool :=
  s.returnsFirst c pri ||
  (match s.headCore c.die c.cluster with
   | some (k, f) => decide (f.core = c) && decide (pri ≤ (s.task k).pri) && !s.switchedOut k
   | none => false)

/-- What is to be placed next of a grid on a die: a team evicted whole, or its lowest unplaced team. -/
inductive Item where
  | back (t : Nat)
  | new_ (teamId : Nat)
deriving DecidableEq, Repr

/-- Teams of a task evicted whole on a die, by TEAMID. -/
def State.evictedTeams (s : State) (k die : Nat) : List Nat :=
  (s.teams.filter (fun e => decide (e.2.task = k) && e.2.evicted && !e.2.retired &&
    decide ((e.2.cores.headD ⟨0, 0⟩).die = die))).map (·.1)

/-- The next item of a task on a die. -/
def State.item (s : State) (k die : Nat) : Option Item :=
  match s.evictedTeams k die with
  | t :: _ => some (.back t)
  | [] => ((s.task k).shares.get [] die).head?.map Item.new_

/-- Registers by group of an item. -/
def State.itemRegs (s : State) (k : Nat) : Item → List Nat
  | .back t => (s.team t).imageRegs
  | .new_ _ => List.replicate (s.task k).l.groups (s.task k).l.regs

/-- The partitions that an item's groups must take. -/
def State.itemParts (s : State) : Item → Option (List Nat)
  | .back t => some (s.team t).imageParts
  | .new_ _ => none

/-- The team of a SPAWN task needs a group slot and granules, and holds no scratchpad (16 R278, R280). -/
def State.fitSpawn (s : State) (k : Nat) (x : Item) (cs : List CoreRef) : Option (List Fit) :=
  match cs, s.itemParts x with
  | [c], some ps =>
    if s.carveOpen k c && s.storeOpen k c then (s.fitBack c ps (s.itemRegs k x)).map (fun y => [⟨c, y.1, y.2, 0⟩]) else none
  | _, _ => none

/-- An item fits a list of cores, and nothing comes before it there. -/
def State.fitItem (s : State) (k : Nat) (x : Item) (cs : List CoreRef) : Option (List Fit) :=
  let free :=
    match x with
    | .back t => (List.range cs.length).all (fun i => s.slotsFree (s.team t) i (cs.getD i ⟨0, 0⟩))
    | .new_ _ => cs.all (fun c => !s.barred c (s.task k).pri)
  if !free then none
  else if (s.task k).spawn then s.fitSpawn k x cs
  else s.fitCores k (s.itemRegs k x) (s.itemParts x) cs

/-- Put an item on its cores. -/
def State.putItem (k die : Nat) (x : Item) (fs : List Fit) (s : State) : Option State :=
  let put : Option State :=
    match x with
    | .back t => some (s.returnTeam t fs)
    | .new_ id =>
      (s.placeTeam k id fs).map (fun s => s.modTask k (fun j =>
        { j with shares := j.shares.ins die ((j.shares.get [] die).drop 1) }))
  put.map (fun s => s.modTask k (fun j => { j with evictOn := j.evictOn.del die }))

/-- The refill list tried in order: what is left of it, and the core that fits (16 R273; where 17 R287 has another core, log 144). -/
def State.refillTry (s : State) (k die : Nat) (x : Item) : Nat → List Nat → List Nat × Option (List Fit)
  | 0, l => (l, none)
  | _, [] => ([], none)
  | fuel + 1, c :: r =>
    if (s.task k).l.cores.getLsbD c then
      match s.fitItem k x [⟨die, c⟩] with
      | some fs => (r, some fs)
      | none => s.refillTry k die x fuel (r.filter (fun y => y != c))
    else s.refillTry k die x fuel (r.filter (fun y => y != c))

/-- The eligible cores from the grid's pointer on, wrapping (16 R273). -/
def State.fromPointer (s : State) (k die : Nat) : List CoreRef :=
  let es := s.eligible k die
  let p := (s.task k).pointer.get 0 die
  es.filter (fun c => decide (p ≤ c.core)) ++ es.filter (fun c => decide (c.core < p))

/-- The eligible core after one, wrapping. -/
def State.coreAfter (s : State) (k die core : Nat) : Nat :=
  let es := (s.eligible k die).map CoreRef.core
  ((es.filter (fun c => decide (core < c))) ++ es).headD 0

/-- The sublists of n members of a list, in order. -/
def choose {α : Type} : Nat → List α → List (List α)
  | 0, _ => [[]]
  | _ + 1, [] => []
  | n + 1, x :: r => (choose n r).map (fun l => x :: l) ++ choose (n + 1) r

/-- The sets of cores that a wide team may take, lowest first: by cluster, then by their COREIDs (16 R273). -/
def State.wideSets (s : State) (k die : Nat) : List (List CoreRef) :=
  (List.range 8).flatMap (fun cl =>
    choose (s.task k).l.wide ((s.eligible k die).filter (fun c => decide (c.cluster = cl))))

/-- The lowest set of cores that meets R245 (16 R273). -/
def State.wideFit (s : State) (k die : Nat) (x : Item) : Option (List Fit) :=
  ((s.wideSets k die).filterMap (s.fitItem k x)).head?

/-! ### Eviction (10 R198) -/

/-- Groups of some cores that may be evicted for a priority, in the order of R198: lowest priority, then latest placement,
then highest slot. -/
def State.evictable (s : State) (cs : List CoreRef) (pri : Nat) : List SlotRef :=
  let gs := (cs.flatMap s.groupsOn).filter (fun e =>
    decide ((s.task e.2.task).pri < pri) && !(s.team e.2.team).reordering && e.2.held.isEmpty && e.2.handler.isNone &&
      e.2.waiting.isEmpty && !e.2.evicting && !e.2.ended)
  let less := fun (a b : SlotRef × Group) =>
    let pa := (s.task a.2.task).pri
    let pb := (s.task b.2.task).pri
    decide (pa < pb) || (decide (pa = pb) &&
      (decide (b.2.placed < a.2.placed) || (decide (a.2.placed = b.2.placed) && decide (b.1.slot < a.1.slot))))
  (gs.mergeSort less).map (·.1)

/-- The state as if groups had been evicted: their slots and granules are free, and a team without a group left leaves
its scratchpad and barriers. -/
def State.without (gs : List SlotRef) (s : State) : State :=
  let s1 : State := { s with groups := s.groups.filter (fun e => !(gs.elem (slotOfKey e.1))) }
  { s1 with teams := s1.teams.map (fun e =>
      if !e.2.retired && (s1.groupsOf e.1).isEmpty then (e.1, { e.2 with evicted := true, freed := [] }) else e) }

/-- The fewest groups of some cores whose eviction makes an item fit them, the first such set in the order of R198. No eviction
changes a carve-out (10 R183). -/
def State.evictSet (s : State) (k : Nat) (x : Item) (cs : List CoreRef) : Option (List SlotRef) :=
  let es := s.evictable cs (s.task k).pri
  if !cs.all (s.carveOpen k) ∨ ((s.without es).fitItem k x cs).isNone then none
  else
    ((List.range es.length).flatMap (fun n =>
      (choose (n + 1) es).filter (fun gs => ((s.without gs).fitItem k x cs).isSome))).head?

/-- The cores on which a grid's next team may be placed, in the order tried: one by one from the core pointer, or sets. -/
def State.candidates (s : State) (k die : Nat) : List (List CoreRef) :=
  if (s.task k).l.wide ≠ 0 then s.wideSets k die else (s.fromPointer k die).map (fun c => [c])

/-- Start evictions for an item on the first cores on which they make it fit: it goes there (16 R273). -/
def State.evictFor (k die : Nat) (x : Item) (s : State) : Option State :=
  (((s.candidates k die).filterMap (fun cs => (s.evictSet k x cs).map (fun gs => (cs, gs)))).head?).map (fun e =>
    (e.2.foldl (fun s g => s.markEvict g) s).modTask k (fun j => { j with evictOn := j.evictOn.ins die e.1 }))

/-- Place the next item of a grid: refill, then round robin, then eviction. Where it goes nowhere, nothing has been tried, and
the refill list stays (16 R273, 17 R287). -/
def State.placeItem (k die : Nat) (x : Item) (s : State) : State × Bool :=
  if (s.task k).l.wide ≠ 0 then
    match (s.wideFit k die x).bind (fun fs => s.putItem k die x fs) with
    | some s' => (s', true)
    | none =>
      match s.evictFor k die x with
      | some s' => (s', true)
      | none => (s, false)
  else
    let l := (s.task k).refill.get [] die
    let r := s.refillTry k die x l.length l
    let s1 := s.modTask k (fun j => { j with refill := j.refill.ins die r.1 })
    match r.2.bind (fun fs => s1.putItem k die x fs) with
    | some s' => (s', true)
    | none =>
      match ((s1.fromPointer k die).filterMap (fun c => (s1.fitItem k x [c]).map (fun fs => (c, fs)))).head? with
      | some (c, fs) =>
        match s1.putItem k die x fs with
        | some s' =>
          (s'.modTask k (fun j => { j with pointer := j.pointer.ins die (s.coreAfter k die c.core) }), true)
        | none => (s, false)
      | none =>
        match s1.evictFor k die x with
        | some s' => (s', true)
        | none => (s, false)

/-- The save pool has no block for an item: it is not tried (24 R368). -/
def State.noBlock (s : State) (k : Nat) : Item → Bool
  | .back _ => false
  | .new_ _ => (s.carve (teamBlock s.serial) (teamBlockGranules (s.task k).l.spad (max 1 (s.task k).l.wide))).isNone

/-- Try to place the next item of a grid (16 R273): where groups are being evicted for it, on their cores once they have
gone; else by the three rules. The second part says whether something was placed or evicted. -/
def State.tryGrid (k die : Nat) (s : State) : State × Bool :=
  match s.item k die with
  | none => (s, false)
  | some x =>
    if s.noBlock k x then (s, false)
    else
      match (s.task k).evictOn.look die with
      | some cs =>
        match (s.fitItem k x cs).bind (fun fs => s.putItem k die x fs) with
        | some s' => (s', true)
        | none =>
          if (cs.flatMap s.groupsOn).any (fun e => e.2.evicting) then (s, false)
          else (s.modTask k (fun j => { j with evictOn := j.evictOn.del die })).placeItem k die x
      | none => s.placeItem k die x

/-- The active grids of a die in the order they are taken: by priority, then by acceptance (16 R273); a SPAWN task only has a
team that returns. -/
def State.activeGrids (s : State) (die : Nat) : List Nat :=
  let ks := (s.tasks.filter (fun e => decide (e.2.phase = .accepted) && e.2.cause.isNone &&
    !s.switchedOut e.1 && (s.item e.1 die).isSome)).map (·.1)
  ks.mergeSort (fun a b =>
    decide ((s.task b).pri < (s.task a).pri) ||
      (decide ((s.task a).pri = (s.task b).pri) && decide ((s.task a).order ≤ (s.task b).order)))

/-- The first grid for which something can be done. -/
def State.placeFirst (die : Nat) : List Nat → State → State
  | [], s => s
  | k :: r, s =>
    let x := s.tryGrid k die
    if x.2 then x.1.modDie die (fun d => { d with placedAt := some (l2Cycle s.tick) }) else State.placeFirst die r x.1

/-! ### Steals (16 R274) -/

/-- A distributor runs dry for a grid: its share is empty, and an eligible core would fit a team of the grid. -/
def State.dry (s : State) (k die : Nat) : Bool :=
  let j := s.task k
  let x : Item := .new_ 0
  j.d.dies.elem die && (j.shares.get [] die).isEmpty && !(j.stole.elem die) && decide (j.phase = .accepted) &&
    !j.spawn && j.cause.isNone && !s.switchedOut k &&
    (if j.l.wide ≠ 0 then (s.wideFit k die x).isSome
     else (s.eligible k die).any (fun c => (s.fitItem k x [c]).isSome))

/-- The other die of D with the largest share, the lowest on a tie. -/
def Task.victim (thief : Nat) (j : Task) : Option Nat :=
  ((j.d.dies.filter (fun d => d != thief)).foldl (fun (b : Option (Nat × Nat)) d =>
    let u := (j.shares.get [] d).length
    match b with
    | none => some (d, u)
    | some x => if x.2 < u ∨ (x.2 = u ∧ d < x.1) then some (d, u) else some x) none).map (·.1)

/-- Steal messages that a die sends for the grids it has run dry for. -/
def State.sendSteals (die : Nat) (s : State) : State :=
  (s.tasks.keys.filter (fun k => s.dry k die)).foldl (fun s k =>
    match (s.task k).victim die with
    | none => s
    | some v =>
      { ((s.modTask k (fun j => { j with stole := die :: j.stole })).fresh) with
        steals := s.steals ++ [⟨s.serial, k, die, v, none⟩] }) s

/-- TEAM_PLACE (16 R273): one team of a die's distributor in a cycle of the L2, or the evictions that make room; then steals (16
R274). -/
def execTeamPlace (die : Nat) (s : State) : Host.Outcome State Fault Refusal :=
  .next ((if (s.die die).placedAt = some (l2Cycle s.tick) then s else s.placeFirst die (s.activeGrids die)).sendSteals die)

/-- A message of this thief may still be taken in this cycle: those that arrive in one core cycle are taken in ascending die order
(16 R274; log 143). -/
def State.takesSteal (s : State) (m : Steal) : Bool :=
  match (s.die m.victim).stolen with
  | some (t, d) => decide (t ≠ s.tick) || decide (d ≤ m.thief)
  | none => true

/-- STEAL_MESSAGE (16 R274): the victim hands over half of its unplaced teams, the highest-indexed ones. The event is the
message's arrival at the victim. -/
def execStealMessage (n : Nat) (s : State) : Host.Outcome State Fault Refusal :=
  .next (
    match s.steals.find? (fun m => decide (m.id = n)) with
    | none => s
    | some m =>
      if m.teams.isSome ∨ !s.takesSteal m then s
      else
        let share := (s.task m.task).shares.get [] m.victim
        let keep := share.length - share.length / 2
        { (s.modTask m.task (fun j => { j with shares := j.shares.ins m.victim (share.take keep) })).modDie m.victim (fun d =>
            { d with stolen := some (s.tick, m.thief) }) with
          steals := s.steals.map (fun x => if x.id = n then { x with teams := some (share.drop keep) } else x) })

/-- STEAL_TEAMS_ARRIVE (16 R274): the thief adds the teams to its share in ascending order; with none it steals no more
until another team of the grid retires on its die. -/
def execStealTeamsArrive (n : Nat) (s : State) : Host.Outcome State Fault Refusal :=
  .next (
    match s.steals.find? (fun m => decide (m.id = n)) with
    | none => s
    | some m =>
      match m.teams with
      | none => s
      | some ts =>
        let s1 : State := { s with steals := s.steals.filter (fun x => x.id != n) }
        if ts = [] ∨ (s.task m.task).cause.isSome then s1
        else
          s1.modTask m.task (fun j =>
            { j with
              shares := j.shares.ins m.thief ((j.shares.get [] m.thief ++ ts).mergeSort (fun a b => decide (a ≤ b)))
              stole := j.stole.filter (fun d => d != m.thief) }))

/-- TASK_QUEUE_PLACE (16 R280): the head of a cluster's queue is placed on the first core of the cluster that has a
slot and granules for it; its blocks are carved. -/
def execTaskQueuePlace (die cluster : Nat) (s : State) : Host.Outcome State Fault Refusal :=
  .next (
    match s.headCore die cluster with
    | none => s
    | some (k, f) =>
      if s.switchedOut k then s
      else
        match (s.carve (taskBlock k) 1).bind (fun s =>
            ((s.saveTask k).modTask k (fun j => { j with phase := .accepted })).placeTeam k (s.task k).d.teams [f]) with
        | none => s
        | some s' =>
          { s' with
            taskQueues := s'.taskQueues.ins (die * 8 + cluster) ((s'.taskQueues.get [] (die * 8 + cluster)).drop 1) })

/-- GROUP_RETIRE (05 R95): a group without live lanes has drained, its threads have dropped, and its slot is freed; its team
retires with its last group (19 R294). -/
def execGroupRetire (g : SlotRef) (s : State) : Host.Outcome State Fault Refusal :=
  .next (if s.hasGrp g ∧ (s.grp g).ended ∧ (s.grp g).ops = [] ∧ !s.dropping g then s.retireGroup g else s)

end Sys2Proof.Machine
end

