-- ==== Sys2Proof/Machine/Launch.lean ====
section
/-! DEFINITION. Launching grids and tasks, waiting for them, and their retirement (16 R268, R271, R272, R275-R281, 19
R304, R305, 22 R343, R344). -/

namespace Sys2Proof.Machine

/-! ## Ends (22 R344) -/

/-- The task or one of its ancestors has ended. -/
def State.deadTask (s : State) : Nat → Nat → Bool
  | 0, k => (s.task k).cause.isSome
  | fuel + 1, k =>
    (s.task k).cause.isSome ||
      (match (s.task k).parent with
       | some p => s.deadTask fuel p
       | none => false)

/-- A task ended by a fault, or with an ancestor that was. -/
def State.dead (s : State) (k : Nat) : Bool := s.deadTask s.tasks.length k

/-! ## LAUNCH (16 R275, R276) -/

/-- The checks of the range that a descriptor occupies, with its subcode: alignment first, then the address, the lease, the
translation (log 139). -/
def descriptorCheck (sub n al : Nat) (a : DWord) (eff : Act) (s : State) : State :=
  if a.toNat % al ≠ 0 then s.misTrap sub a
  else
    match s.checkRange s.cur.g a n false with
    | .addr => s.addrTrap sub a
    | .removed _ => s.addrTrap sub a
    | .lease => s.endTaskAt s.cur causeLease 0 a
    | _ => eff s

/-- LAUNCH: PRIV but in group 0 of a team; the descriptor's address is checked before fetch resumes. -/
def execLaunch (a b c d : Nat) (s : State) : Host.Outcome State Fault Refusal :=
  .next (guarded
    [(s.full s.flagB, State.illegal 4 5),
     (decide (s.me.kind ≠ .group) || decide (s.me.gi ≠ 0), fun s => s.raise 4 causePriv 0 0)]
    (descriptorCheck 0x0A 64 64 (s.sreg d) (fun s =>
      ((s.charge 16).issueOp (s.mkOp s.flagB (s.obsSet 3) (.launch c (s.sreg d) (s.sreg b) (s.sreg a)))).advance 4)) s)

/-- An error status of LAUNCH and SPAWN. -/
def statusWord (code : Nat) : DWord := BitVec.ofNat 64 (2 ^ 63 + code)

/-- A release: every memory access the slot issued before has been performed (16 R276); with an empty set, every acquire (23
R352). -/
def State.released (s : State) (g : SlotRef) (o : Op) : Bool :=
  !((s.grp g).earlier o.id).any (fun p => p.isM && (decide (o.obs ≠ 0) || p.isAcquire))

/-- Entries of a die's pool that a task's direct children hold. -/
def State.childEntries (s : State) (die k : Nat) : Nat :=
  ((s.die die).pool.filter (fun e => decide ((s.task e.2).parent = some k))).length

/-- A free entry of a die's pool; which one the part decides (a free value). -/
def State.freeEntry (s : State) (die : Nat) : Option Nat :=
  let es := (List.range 4096).filter (fun i => ((s.die die).pool.look i).isNone)
  if es = [] then none else es[Config.freeNat s.free % es.length]?

/-- The allowances of a task's grant capabilities at its start: those declared, or what firmware lowers them to under its
policy for the queue that the task descends from (19 R306; log 110). -/
def allowances (k : Nat) (queue : Option Nat) (caps : SMap Cap) : SMap Cap :=
  caps.map (fun e =>
    (e.1,
      if e.2.kind = kindGrant then
        { e.2 with
          ins := min e.2.grantIns (Config.grantPolicy k queue (2 * e.1))
          bytesLeft := min e.2.grantBytes (Config.grantPolicy k queue (2 * e.1 + 1)) }
      else e.2))

/-- A child grid as it is created. -/
def State.childGrid (s : State) (k t : Nat) (d : Descriptor) (r : LaunchRecord) (ni nt : Int) (entry : Nat × Nat) : Task :=
  let j := s.task k
  { Task.empty with
    gridId := Config.gridId s.serial
    depth := j.depth + 1
    pri := min d.pri j.pri
    asid := j.asid
    queue := j.queue
    parent := some k
    issuer := some t
    l := r.l
    d := d.launching (min d.pri j.pri)
    leases := r.leases
    caps := allowances s.serial j.queue r.caps
    td := r.td
    pi := sat64 (ni + r.l.ins)
    pt := sat64 (nt + r.l.bytes)
    phase := .created
    unplaced := d.teams
    unretired := d.teams
    pool := some entry }

/-- An operation writes its status and completes. -/
def State.finishS (g : SlotRef) (o : Op) (c : Nat) (v : DWord) (s : State) : State :=
  (s.modCtxAt ⟨g, o.ctx⟩ (Context.setS c v)).opStep g o none

/-- The pool's decision on a LAUNCH: the first failure in the order of R275, or a new child grid. -/
def State.launchDecide (g : SlotRef) (o : Op) (c : Nat) (desc ins bytes : DWord) (s : State) : State :=
  let h := s.grp g
  let j := s.task h.task
  let d := descriptorOf (s.vbytes g desc 64)
  if j.depth = 10 then s.finishS g o c (statusWord 2)
  else
    match s.checkDescriptor j.asid d with
    | none => s.finishS g o c (statusWord 4)
    | some r =>
      if ins.toInt < 0 ∨ bytes.toInt < 0 then s.finishS g o c (statusWord 3)
      else
        match s.freeEntry g.die with
        | none => s.finishS g o c (statusWord 1)
        | some e =>
          if j.d.quota ≤ s.childEntries g.die h.task then s.finishS g o c (statusWord 0x101)
          else
            let n := s.serial
            let gen := (s.die g.die).poolGen.get 0 e + 1
            let s1 := (s.draw.modDie g.die (fun x =>
              { x with pool := x.pool.ins e n, poolGen := x.poolGen.ins e gen })).fresh
            let s2 : State :=
              { s1 with tasks := s1.tasks.ins n (s.childGrid h.task h.team d r ins.toInt bytes.toInt (g.die, e)) }
            (s2.chargeTeam h.team ins.toInt bytes.toInt).finishS g o c
              (BitVec.ofNat 64 (gen.toNat * 2 ^ 32 + g.die * 2 ^ 12 + e))

/-- Every byte of a descriptor's range has a translation. -/
def State.readable (s : State) (g : SlotRef) (a : DWord) (n : Nat) : Bool :=
  (List.range n).all (fun i => (s.placeOf g (plus a i)).isSome)

/-- LAUNCH_COMPLETE (16 R275): the pool decides; a descriptor or record on a page in migration delays it, and a descriptor whose
translation has gone is an ADDR error of its flag (22 R343). The LAUNCH of a task that has ended does nothing more. -/
def execLaunchComplete (g : SlotRef) (op : Nat) (s : State) : Host.Outcome State Fault Refusal :=
  .next (
    match (s.grp g).findOp op with
    | none => s
    | some o =>
      match o.kind with
      | .launch c desc ins bytes =>
        let asid := (s.task (s.grp g).task).asid
        if s.dead (s.grp g).task then s.opStep g o none
        else if !s.released g o ∨ s.asidMoves asid desc 64 ∨
            s.recordMoves asid (descriptorOf (s.vbytes g desc 64)).krec then s
        else if !s.readable g desc 64 then s.modGrp g (fun h => h.failOp o ⟨causeAddr, 0x0A, desc, o.pc, o.clause, o.idx, false, false⟩)
        else
          ((s.releaseAt g o.obs).recallLaunch asid desc (descriptorOf (s.vbytes g desc 64)).krec).launchDecide g o c desc ins bytes
      | _ => s)

/-! ## LWAIT (16 R277) -/

/-- LWAIT: the grid of a child of the issuing task, or nothing to wait for. -/
def execLwait (c : Nat) (s : State) : Host.Outcome State Fault Refusal :=
  .next (guarded [(s.full s.flagB, State.illegal 4 5)]
    (fun s =>
      match (s.taskOfHandle (s.sreg c)).filter (fun k => decide ((s.task k).parent = some s.me.task)) with
      | none => (s.charge 1).advance 4
      | some k => s.issueA 1 (.lwait k)) s)

/-- The operations of a group that wait for a grid complete. -/
def Group.finishLwait (k : Nat) (g : Group) : Group :=
  (g.ops.filter (fun o => decide (o.kind = .lwait k))).foldl (fun g o => g.finishOp o) g

/-- The flags of the LWAITs on a grid that are outstanding in slots. -/
def State.lwaitFlags (s : State) (k : Nat) : List (SlotRef × Option Nat) :=
  s.groups.flatMap (fun e => (e.2.ops.filter (fun o => decide (o.kind = .lwait k))).map (fun o => (slotOfKey e.1, o.flag)))

/-- Every LWAIT on a grid completes, those of evicted groups too; a wait on its flag is an acquire (16 R277, 23 R355). -/
def State.finishLwaits (k : Nat) (s0 : State) : State :=
  let s := (s0.lwaitFlags k).foldl (fun s e => s.signalAt e.1 e.2) s0
  s.syncAway { s with
    groups := s.groups.map (fun e => (e.1, e.2.finishLwait k))
    teams := s.teams.map (fun e =>
      (e.1, { e.2 with slots := e.2.slots.map (fun x =>
        match x.2 with
        | .image g f => (x.1, .image (g.finishLwait k) f)
        | p => (x.1, p)) })) }

/-! ## SPAWN and JOIN (16 R278-R281) -/

/-- A join counter's address is wrong: outside SPW or the scratchpad, misaligned, or on a barrier word. -/
def State.badCounter (s : State) (a : DWord) : Bool :=
  !inSpw a || decide (s.window s.cur.g ≤ spwOffset a) || decide (a.toNat % 4 ≠ 0) || s.hitsBarrier s.cur.g a

/-- SPAWN: the descriptor's and the counter's addresses are checked before fetch resumes. -/
def execSpawn (a b c d : Nat) (s : State) : Host.Outcome State Fault Refusal :=
  .next (guarded [(s.full s.flagB, State.illegal 4 5)]
    (descriptorCheck 0x0B 32 32 (s.sreg d) (fun s =>
      if s.badCounter (s.sreg b) then s.addrTrap 0x0B (s.sreg b)
      else
        ((s.charge 16).issueOp (s.mkOp s.flagB (s.obsSet 3) (.spawn c (s.sreg d) (s.sreg b) (s.sreg a)))).advance 4)) s)

/-- A SPAWN descriptor that the status BADDESC answers. -/
def State.badSpawn (s : State) (k : Nat) (x : SpawnDesc) : Bool :=
  !x.clean || !within 1 32 x.regs || !canonical x.entry || !(s.task k).fetchable x.entry.toNat 2

/-- The task of a SPAWN: a one-group team of the issuing grid's kernel. -/
def State.spawnTask (s : State) (g : SlotRef) (x : SpawnDesc) (off : Nat) (share : DWord) : Task :=
  let h := s.grp g
  let j := s.task h.task
  { Task.empty with
    gridId := j.gridId
    depth := j.depth
    pri := j.pri
    asid := j.asid
    queue := j.queue
    parent := some h.task
    issuer := some h.team
    spawn := true
    l := { j.l with
      entry := x.entry, groups := 1, regs := 8 * x.regs, barriers := 0, wide := 0, spad := 0
      grace := if x.grace = 0 then j.l.grace else x.grace }
    d := { j.d with teams := (s.team h.team).teamId, arg := x.arg }
    leases := j.leases
    caps := allowances s.serial j.queue j.caps
    td := j.td
    pi := sat64 ((share.toNat % 2 ^ 32 : Nat) + j.l.ins)
    pt := sat64 ((share.toNat / 2 ^ 32 : Nat) + j.l.bytes)
    phase := .created
    unplaced := 1
    unretired := 1
    cluster := g.die * 8 + g.coreRef.cluster
    join := some (h.team, off) }

/-- The counter's increment, as a scratchpad atomic. -/
def State.incCounter (t off : Nat) (s : State) : State :=
  let a := (s.team t).spad off
  s.writeN a 4 (s.readN a 4 + 1)

/-- SPAWN_COMPLETE (16 R279): BADDESC, FULL, or the task enters its cluster's queue; a descriptor whose translation has gone is
an ADDR error of the flag (22 R343). -/
def execSpawnComplete (g : SlotRef) (op : Nat) (s : State) : Host.Outcome State Fault Refusal :=
  .next (
    match (s.grp g).findOp op with
    | none => s
    | some o =>
      match o.kind with
      | .spawn c desc ctr share =>
        let h := s.grp g
        let q := g.die * 8 + g.coreRef.cluster
        let x := spawnOf (s.vbytes g desc 32)
        if s.dead h.task then s.opStep g o none
        else if !s.released g o ∨ s.asidMoves (s.task h.task).asid desc 32 then s
        else if !s.readable g desc 32 then s.modGrp g (fun h => h.failOp o ⟨causeAddr, 0x0B, desc, o.pc, o.clause, o.idx, false, false⟩)
        else
          let s := s.recallRead g true (s.rangePlaces g desc 32)
          if s.badSpawn h.task x then s.finishS g o c (statusWord 4)
          else if 256 ≤ (s.taskQueues.get [] q).length then s.finishS g o c (statusWord 5)
          else
            let n := s.serial
            let s1 : State :=
              { (s.releaseAt g o.obs).fresh with
                tasks := s.tasks.ins n (s.spawnTask g x (spwOffset ctr) share)
                taskQueues := s.taskQueues.ins q (s.taskQueues.get [] q ++ [n]) }
            ((s1.incCounter h.team (spwOffset ctr)).chargeTeam h.team (share.toNat % 2 ^ 32 : Nat)
              (share.toNat / 2 ^ 32 : Nat)).finishS g o c 0
      | _ => s)

/-- A JOIN whose counter reads 0 completes, which is an acquire, and its context goes on, to w (16 R281). -/
def State.pollJoin (w : Stop) (c : CtxId) (s : State) : State :=
  match ((s.grp c.g).ctx c.i).stop with
  | .join n =>
    match (s.grp c.g).findOp n with
    | some o =>
      match o.kind with
      | .join off =>
        if s.readN ((s.team (s.grp c.g).team).spad off) 4 = 0 then
          ((s.acquireAt c.g).opStep c.g o none).modCtxAt c (fun x => { x with stop := w })
        else s
      | _ => s
    | none => s
  | _ => s

/-- Every JOIN of a team is polled. -/
def State.pollJoins (t : Nat) (s : State) : State :=
  (s.groupsOf t).foldl (fun s g => (s.grp g).ctxs.keys.foldl (fun s i => s.pollJoin (s.onward g) ⟨g, i⟩) s) s

/-- JOIN (16 R281): its context is held until the counter reads 0. -/
def execJoin (b : Nat) (s : State) : Host.Outcome State Fault Refusal :=
  .next (guarded
    [(s.full s.flagB, State.illegal 4 5), (s.badCounter (s.sreg b), State.addrTrap 0x0B (s.sreg b))]
    (fun s =>
      let o := s.mkOp s.flagB 0 (.join (spwOffset (s.sreg b)))
      ((((s.charge 1).issueOp o).advance 4).modCtx (fun c => { c with stop := .join o.id })).pollJoin .running s.cur) s)

/-! ## Starting grids (16 R268, R272, 22 R343) -/

/-- The 4 KiB pages that a range touches. -/
def Lease.pages (l : Lease) : List Nat := if l.len = 0 then [] else pagesOf l.base l.len

/-- A page passes the lease engine: it has a translation, with W where its range is rw. A page in migration has one. -/
def State.pageOk (s : State) (asid : Nat) (rw : Bool) (p : Nat) : Bool :=
  canonical (BitVec.ofNat 64 p) &&
    (match s.walk asid (va56 (BitVec.ofNat 64 p)) with
     | none => false
     | some f => f.w || !rw)

/-- The first page of a lease that fails. -/
def State.failingPage (s : State) (k : Nat) : Option Nat :=
  let j := s.task k
  (j.leases.filterMap (fun l => l.pages.find? (fun p => !s.pageOk j.asid l.rw p))).head?

/-- LEASE_RESIDENCY_WALK (22 R343): the task's leases are resident, or a residency record is written and the lease is
tried again after the next acknowledgement of the invalidate queue. -/
def execLeaseResidencyWalk (k : Nat) (s : State) : Host.Outcome State Fault Refusal :=
  let j := s.task k
  .next (
    if j.phase ≠ .created ∨ j.blocked then s
    else
      match s.failingPage k with
      | none => s.modTask k (fun j => { j with phase := .resident })
      | some p =>
        (s.modTask k (fun j => { j with blocked := true })).record true
          (recordWords 0x20 0 0 j.asid j.gridId 0 (BitVec.ofNat 64 p) 0 0 0))

/-- Deal the teams of a grid to its dies: team i belongs to die D[i mod k] (16 R272). -/
def dealShares (teams : Nat) (dies : List Nat) : SMap (List Nat) :=
  (List.range dies.length).filterMap (fun i =>
    (dies[i]?).map (fun d => (d, (List.range teams).filter (fun j => decide (j % dies.length = i)))))

/-- WEN holds no more (16 R268). -/
def State.waitOver (s : State) (j : Task) : Bool :=
  match j.d.wait with
  | none => true
  | some (e, v) => decide (v.toNat ≤ (s.io.events.get 0 e).toNat)

/-- Accept a grid: its task block is carved and its teams are dealt; none where it must wait (16 R268, 24 R368). -/
def State.acceptGrid (k : Nat) (s : State) : Option State :=
  let j := s.task k
  if j.phase ≠ .resident ∨ s.dead k ∨ !s.waitOver j then none
  else
    (s.carve (taskBlock k) 1).map (fun s0 =>
      let s1 := s0.saveTask k
      { s1.modTask k (fun j =>
          { j with phase := .accepted, order := s.io.accepted, shares := dealShares j.d.teams j.d.dies }) with
        io := { s1.io with accepted := s.io.accepted + 1 } })

/-- CHILD_GRID_ACCEPT (16 R275): a child grid is accepted once its leases are resident; SER is ignored. -/
def execChildGridAccept (k : Nat) (s : State) : Host.Outcome State Fault Refusal :=
  .next (if (s.task k).parent.isNone ∨ (s.task k).spawn then s else (s.acceptGrid k).getD s)

/-! ### Queues -/

def State.queue (s : State) (q : Nat) : Queue := s.io.queues.get Queue.empty q

/-- Change a launch queue. -/
def State.modQueue (q : Nat) (f : Queue → Queue) (s : State) : State :=
  { s with io := { s.io with queues := s.io.queues.ins q (f (s.queue q)) } }

def Queue.asid (x : Queue) : Nat := x.qctl.toNat / 2 ^ 48
def Queue.pri (x : Queue) : Nat := x.qctl.toNat / 32 % 8

/-- Pending commands of a queue (16 R266). -/
def Queue.pending (x : Queue) : Nat := (x.qtail - x.qprog).toNat % ringSize x.qctl

/-- The queue may start commands: EN = 1, HALT = 0, and it is not switched out (16 R266, 24 R371). -/
def Queue.live (x : Queue) : Bool := x.qctl.getLsbD 0 && !x.qctl.getLsbD 1 && !x.qsw.getLsbD 0

/-- The address of a queue's head command (16 R266). -/
def Queue.headAddr (x : Queue) : DWord := x.qbase + BitVec.ofNat 64 (64 * (x.qprog.toNat % ringSize x.qctl))

/-- A root grid as its command is examined; its priority is settled where it starts. -/
def State.rootGrid (s : State) (q : Nat) (d : Descriptor) (r : LaunchRecord) : Task :=
  let x := s.queue q
  { Task.empty with
    gridId := Config.gridId s.serial
    depth := 1
    pri := x.pri
    asid := x.asid
    queue := some q
    l := r.l
    d := d.launching x.pri
    leases := r.leases
    caps := allowances s.serial (some q) r.caps
    td := r.td
    pi := sat64 (d.ins.toInt + r.l.ins)
    pt := sat64 (d.bytes.toInt + r.l.bytes)
    phase := .created
    unplaced := d.teams
    unretired := d.teams }

/-- A malformed head halts its queue and writes a record (16 R268). -/
def State.haltQueue (q : Nat) (s : State) : State :=
  (s.modQueue q (fun x => { x with qctl := x.qctl ||| 2 })).record true
    (recordWords 0x21 0 0 (s.queue q).asid 0 0 0 0 (BitVec.ofNat 64 q) 0)

/-- Examine the head command of a queue: malformed, or its task is made (16 R268). -/
def State.examineHead (q : Nat) (s : State) : State :=
  let x := s.queue q
  if s.asidMoves x.asid x.headAddr 64 then s
  else
    match s.asidBytes x.asid x.headAddr 64 with
    | none => s.haltQueue q
    | some bs =>
      let d := descriptorOf bs
      if s.recordMoves x.asid d.krec then s
      else
        let s := s.recallLaunch x.asid x.headAddr d.krec
        match s.checkDescriptor x.asid d with
        | none => s.haltQueue q
        | some r =>
          ({ s.fresh with tasks := s.tasks.ins s.serial (s.rootGrid q d r) } : State).modQueue q
            (fun x => { x with head := some s.serial })

/-- SER holds no more: the previous command's grid has retired (16 R268). -/
def State.serialOver (s : State) (x : Queue) (j : Task) : Bool :=
  !j.d.ser ||
    (match x.last with
     | none => true
     | some p => decide ((s.task p).phase = .retired))

/-- The heads that start in this I/O-die cycle have started (16 R268). -/
def State.headsStarted (s : State) : Bool := s.io.queues.any (fun e => decide (e.2.started = some (l2Cycle s.tick)))

/-- The queue's examined head meets every condition of a start (16 R268). -/
def State.startable (s : State) (q : Nat) : Bool :=
  let x := s.queue q
  x.live && decide (x.pending ≠ 0) && x.head.any (fun k => s.serialOver x (s.task k) && (s.acceptGrid k).isSome)

/-- Queue p is served before queue q: a higher PRI, or the same and an earlier place in the round robin, which begins after
the queue served last (16 R268). -/
def State.servedBefore (s : State) (p q : Nat) : Bool :=
  let place := fun x : Nat => (x + 63 - s.io.served) % 64
  decide ((s.queue q).pri < (s.queue p).pri) ||
    (decide ((s.queue p).pri = (s.queue q).pri) && decide (place p < place q))

/-- Start an examined head: its grid takes the priority of the queue, QPROG advances and the queue has been served (16
R268). -/
def State.startHead (q k : Nat) (s1 : State) : State :=
  let p := (s1.queue q).pri
  let s2 := (s1.modTask k (fun j => { j with pri := p, d := { j.d with pri := p } })).modQueue q (fun x =>
    { x with qprog := x.qprog + 1, last := some k, head := none, started := some (l2Cycle s1.tick) })
  { s2 with io := { s2.io with served := q } }

/-- Start the head of a queue, where it can. -/
def State.startQueue (q : Nat) (s : State) : State :=
  match (s.queue q).head with
  | none => s
  | some k =>
    if !s.startable q then s
    else
      match s.acceptGrid k with
      | none => s
      | some s1 => s1.startHead q k

/-- Every queue whose head can start in this I/O-die cycle starts it, by PRI and in round robin (16 R268). -/
def State.startHeads (s : State) : State :=
  if s.headsStarted then s
  else
    ((s.io.queues.keys.filter s.startable).mergeSort (fun a b => decide (a = b) || s.servedBefore a b)).foldl
      (fun s q => s.startQueue q) s

/-- LAUNCH_COMMAND_START (16 R268): the head of a live queue is examined; once it can start, every head that can start in this
I/O-die cycle does. -/
def execLaunchCommandStart (q : Nat) (s : State) : Host.Outcome State Fault Refusal :=
  let x := s.queue q
  .next (
    if !x.live ∨ x.pending = 0 ∨ 64 ≤ q then s
    else
      match x.head with
      | none => s.examineHead q
      | some _ => if s.startable q then s.startHeads else s)

/-! ## Retirement (16 R271, R280, 19 R305) -/

/-- Every task that descends from k has retired. -/
def State.descendantsRetired (s : State) (k : Nat) : Bool :=
  s.tasks.keys.all (fun j => decide (j = k) || !s.isUnder k s.tasks.length j || decide ((s.task j).phase = .retired))

/-- A transfer of a task's teams is in flight (19 R295). -/
def State.topupsInFlight (s : State) (k : Nat) : Bool :=
  s.teams.any (fun e => decide (e.2.task = k) && (e.2.topI.isSome || e.2.topT.isSome))

/-- The task has no team, group or transfer left. -/
def State.idleTask (s : State) (k : Nat) : Bool :=
  decide ((s.task k).unretired = 0) && !s.topupsInFlight k && (s.groupsOfTask k).isEmpty

/-- Positive pools return to the issuing team where it is resident, else to the parent task (19 R305). -/
def State.returnBudget (k : Nat) (s : State) : State :=
  let j := s.task k
  let ni := max 0 j.pi
  let nt := max 0 j.pt
  let s1 := s.modTask k (fun j => { j with pi := 0, pt := 0 })
  match j.parent, j.issuer with
  | some p, some t =>
    if (s.team t).retired ∨ (s.team t).evicted then s1.addPool p ni nt
    else s1.addTeam t ni nt
  | _, _ => s1

/-- What a task holds is released: its save block, its Mordant entries, its pool entry. -/
def State.releaseTask (k : Nat) (s : State) : State :=
  let s1 := s.freeBlock (taskBlock k)
  let s2 := s1.releaseObjects k
  let s3 :=
    match (s.task k).pool with
    | none => s2
    | some (d, e) => s2.modDie d (fun x => { x with pool := x.pool.del e })
  s3.modTask k (fun j => { j with phase := .retired, pool := none })

/-- The event that a grid's retirement counts, and its record (16 R271, 24 R373). -/
def State.announce (k : Nat) (s : State) : State :=
  let j := s.task k
  let s1 : State :=
    match j.d.sen with
    | none => s
    | some e => { s with io := { s.io with events := s.io.events.put 0 e (s.io.events.get 0 e + 1) } }
  if j.d.notify then
    s1.record false (recordWords 0x40 (if j.cause = some causeLease then 0x0D else 0) 0 j.asid j.gridId 0 0 0
      (BitVec.ofInt 64 j.pi) (BitVec.ofInt 64 j.pt))
  else s1

/-- GRID_RETIRE (16 R271): the event and the record, then the budget's return and the pool entry. -/
def execGridRetire (k : Nat) (s : State) : Host.Outcome State Fault Refusal :=
  let j := s.task k
  .next (
    if (s.tasks.look k).isNone ∨ j.spawn ∨ j.phase = .retired ∨ !s.idleTask k ∨ !s.descendantsRetired k then s
    else ((((s.releaseAll k).announce k).returnBudget k).releaseTask k).finishLwaits k)

/-- The join counter falls, now or when the issuing team's scratchpad is restored (16 R280). -/
def State.dropJoin (k : Nat) (s : State) : State :=
  let s1 := s.modTask k (fun j => { j with join := none })
  match (s.task k).join with
  | none => s1
  | some (t, off) =>
    if (s.team t).retired then s1
    else if (s.team t).evicted then s1.modTeam t (fun m => { m with decs := m.decs ++ [off] })
    else s1.syncAway ((s1.decCounter t off).pollJoins t)

/-- SPAWN_TASK_RETIRE (16 R280): once the task's group has retired the join counter falls; the task retires when its
descendants have. -/
def execSpawnTaskRetire (k : Nat) (s : State) : Host.Outcome State Fault Refusal :=
  let j := s.task k
  .next (
    if (s.tasks.look k).isNone ∨ !j.spawn ∨ j.phase = .retired ∨ !s.idleTask k then s
    else
      let s1 := (s.releaseAll k).dropJoin k
      if s1.descendantsRetired k then (s1.returnBudget k).releaseTask k else s1)

/-! ## Expert routing (16 R282-R284) -/

/-- The bits of an expert routing entry that hold what is written. -/
def expertMask : DWord := 0xF00000001F0FFFFF

/-- The replica count less 1 of an entry, its spare, and replica r. -/
def expertNrep (e : DWord) : Nat := e.toNat / 2 ^ 61 % 4
def expertSpare (e : DWord) : Nat := e.toNat / 2 ^ 24 % 32
def expertRep (e : DWord) (r : Nat) : Nat := e.toNat / 2 ^ (5 * r) % 32

/-- A lookup is counted; at HOTTHR with a spare armed, the copy begins (16 R284). -/
def Die.countExpert (i : Nat) (d : Die) : Die :=
  let n := min (2 ^ 32 - 1) (d.counts.get 0 i + 1)
  let e := d.expert.get 0 i
  if d.hotthr ≤ n ∧ e.getLsbD 60 ∧ expertNrep e < 3 then
    { d with
      counts := d.counts.put 0 i 0
      expert := d.expert.put 0 i (e &&& ~~~(BitVec.ofNat 64 (2 ^ 60)))
      replicas := d.replicas ++ [i] }
  else { d with counts := d.counts.put 0 i n }

/-- EXPROUTE at issue (16 R283): each active lane's entry, and the entries as they stand. -/
def execExproute (b c d : Nat) (s : State) : Host.Outcome State Fault Refusal :=
  .next (guarded [(!s.vAll [⟨d, 1, 1⟩, ⟨c, 1, 1⟩], State.illegal 4 3), (s.full s.flagB, State.illegal 4 5)]
    (withCap b [kindRoute] (fun s =>
      let k := s.cap b
      let rows := (lanesOf s.active).map (fun l =>
        (⟨l, if (s.v d l).toNat < k.routeLen then some (k.routeBase + (s.v d l).toNat) else none,
          (s.identity 0 l).toNat⟩ : RouteLane))
      let old := (rows.filterMap RouteLane.entry).foldl (fun m i =>
        SMap.ins m i ((s.die s.cur.g.die).expert.get 0 i)) []
      (((s.charge 1).issueOp (s.mkOp s.flagB 0 (.exproute c rows old))).advance 4))) s)

/-- What a lane of an EXPROUTE receives from the entry that it names. -/
def RouteLane.result (r : RouteLane) (entry : Nat → DWord) : Word :=
  match r.entry with
  | none => 0x80000000
  | some i =>
    let e := entry i
    if e.getLsbD 63 then BitVec.ofNat 32 (expertRep e (r.tid % (expertNrep e + 1))) else 0x80000000

/-- An outstanding EXPROUTE writes its lanes, counts the entries that they named, and clears its flag (16 R283). Of an entry
that has changed since it issued, the part decides whether its lanes see the old one or the new one (log 104). -/
def State.landRoute (g : SlotRef) (o : Op) (s : State) : State :=
  match o.kind with
  | .exproute c rows old =>
    let d := s.die g.die
    let entry := fun (i : Nat) =>
      if Config.freeBit (s.free + i) then SMap.get old (d.expert.get 0 i) i else d.expert.get 0 i
    let hits := (rows.filterMap RouteLane.entry).filter (fun i => (entry i).getLsbD 63)
    ((({ s with free := s.free + 8192 }).modGrp g (fun h =>
        rows.foldl (fun (h : Group) (r : RouteLane) => h.setV c r.lane (r.result entry)) h)).modDie g.die (fun x =>
      hits.foldl (fun x i => x.countExpert i) x)).opStep g o none
  | _ => s

/-- A copy of a physical range waits: a combiner wave holds a line of it, an engine owns one, or it migrates (20 R324, 22 R345, 23
R357). -/
def State.copyWaits (s : State) (a n : Nat) : Bool := s.rangeBusy a n || s.moving a n

/-- EXPERT_REPLICA_COMMIT (16 R284): the expert's weights stand at the spare location that firmware recorded (log 105); the
entry gains the spare as a replica, and a record is written. -/
def execExpertReplicaCommit (die i : Nat) (s : State) : Host.Outcome State Fault Refusal :=
  let d := s.die die
  let e := d.expert.get 0 i
  let n := expertNrep e + 1
  .next (
    if !d.replicas.elem i ∨ (Config.expertWeights die i).any (fun w => s.copyWaits w.1 w.2.2 || s.copyWaits w.2.1 w.2.2) then s
    else if 3 < n then s.modDie die (fun d => { d with replicas := d.replicas.erase i })
    else
      let keep := e.toNat - expertNrep e * 2 ^ 61 - expertRep e n * 2 ^ (5 * n)
      let s1 :=
        match Config.expertWeights die i with
        | some (src, dst, len) => (s.recallPlaces none ((List.range len).map (fun j => src + j))).copyRange src dst len
        | none => s
      (s1.modDie die (fun d =>
        { d with
          replicas := d.replicas.erase i
          expert := d.expert.put 0 i (BitVec.ofNat 64 (keep + n * 2 ^ 61 + expertSpare e * 2 ^ (5 * n))) })).record false
        (recordWords 0x41 0 0 0 0 0 0 0 (BitVec.ofNat 64 i) 0))

/-- EXPERT_ROUTING_TABLE_WRITE (16 R282, R284): firmware writes an entry, as one 64-bit access, or the threshold. -/
def execExpertRoutingTableWrite (die : Nat) (w : ExpertWrite) (s : State) : Host.Outcome State Fault Refusal :=
  .next (s.modDie die (fun d =>
    match w with
    | .entry i v => if i < 8192 then { d with expert := d.expert.put 0 i (v &&& expertMask) } else d
    | .hotthr v => { d with hotthr := v }))

end Sys2Proof.Machine
end

