-- ==== Sys2Proof/Machine/Mordant.lean ====
section
/-! DEFINITION. Mordant registration, requests, batches and combiner waves (20 R316-R329). -/

namespace Sys2Proof.Machine

/-! ## Registration (20 R317-R319) -/

/-- The flags of MREG that must be 0. -/
def mregReserved (f : DWord) : Bool := decide (f &&& ~~~(0x833F : DWord) ≠ 0)

/-- Bytes of the extent that the flags give. -/
def mregBytes (f : DWord) : Nat := 64 * (f.toNat % 64 + 1)

/-- Rows 4 to 7 of the checks of MREG, for a registration. -/
def mregExtent (obj method flags : DWord) (eff : Nat → Act) (s : State) : State :=
  match s.checkRange s.cur.g obj (mregBytes flags) true with
  | .addr => s.addrTrap 0x0C obj
  | .lease => s.endTaskAt s.cur causeLease 0 obj
  | r =>
    if !s.myTask.writable obj.toNat (mregBytes flags) then s.addrTrap 0x0D obj
    else
      match r, s.xplain s.cur.g (va56 obj) with
      | .removed _, _ => s.addrTrap 0x0C obj
      | _, .hit x =>
        match s.checkTarget method with
        | .ok => eff (x.phys (va56 obj)) s
        | .bad => s.raise 4 causeBadTarget 0 method
        | .lease => s.endTaskAt s.cur causeLease 0 method
        | .moving p => s.park p
      | _, _ => s.park (va56 obj / 4096 * 4096)

/-- MREG (20 R317): the checks at issue, in their order. -/
def execMreg (a b c d : Nat) (s : State) : Host.Outcome State Fault Refusal :=
  let obj := s.sreg d
  let flags := s.sreg a
  let issue := fun (key : Nat) (s : State) => s.issueA 1 (.mreg obj (s.sreg b) flags c key)
  .next (guarded [(s.full s.flagB, State.illegal 4 5)]
    (withCap c [kindMordant]
      (guarded [(mregReserved flags, State.illegal 4 2), (decide (obj.toNat % 64 ≠ 0), State.misTrap 0x0C obj)]
        (fun s => if flags.getLsbD 15 then issue 0 s else mregExtent obj (s.sreg b) flags issue s))) s)

/-- Objects that a task holds through a capability. -/
def State.heldBy (s : State) (k cap : Nat) : Nat :=
  (s.mordant.filter (fun e => decide (e.2.task = k) && decide (e.2.cap = cap))).length

/-- Entries of a home slice's table. -/
def State.inSlice (s : State) (key : Nat) : Nat :=
  (s.mordant.filter (fun e => decide (sliceOf e.1 = sliceOf key))).length

/-- The first failure at the home slice (20 R318). -/
def State.sliceFailure (s : State) (k cap key : Nat) : Option Nat :=
  match s.mordant.look key with
  | some m => if m.task = k then none else some 2
  | none =>
    if (((s.task k).caps.get ⟨0, 0, 0, [], 0, 0⟩ cap).limit) ≤ s.heldBy k cap then some 3
    else if 64 ≤ s.inSlice key then some 1
    else none

/-- An empty batch. -/
def Batch.empty : Batch := ⟨[], 0, 0, false, false⟩

/-- An object's entry after a registration: a new one, or the old one with new values and no poison (20 R319). -/
def Mordant.register (m : Mordant) (va : DWord) (method flags : DWord) (reg : Nat × Nat) : Mordant :=
  { m with
    va := va, method := method, lines := flags.toNat % 64 + 1, aw64 := flags.getLsbD 8, rw64 := flags.getLsbD 9
    reg := reg, poisoned := false, releasing := false }

/-- A new entry. -/
def Mordant.fresh (k cap : Nat) : Mordant :=
  ⟨0, k, cap, 0, 0, false, false, (0, 0), false, false, [], 0, [], none, Batch.empty, [], [], [], []⟩

/-- The key of the object that a task holds at an address. -/
def State.objectOf (s : State) (k : Nat) (va : DWord) : Option Nat :=
  (s.mordant.find? (fun e => decide (e.2.task = k) && decide (e.2.va = va))).map (·.1)

/-- MREG_SLICE_RESULT (20 R318, R319): the home slice registers, replaces, releases or fails. -/
def execMregSliceResult (g : SlotRef) (op : Nat) (s : State) : Host.Outcome State Fault Refusal :=
  .next (
    match (s.grp g).findOp op with
    | none => s
    | some o =>
      match o.kind with
      | .mreg obj method flags cap key =>
        let h := s.grp g
        if flags.getLsbD 15 then
          match s.objectOf h.task obj with
          | none => s.opStep g o none
          | some k => (s.releaseObject k).opStep g o none
        else
          match s.sliceFailure h.task cap key with
          | some sub =>
            if o.flag = none then s.opStep g o none
            else s.modGrp g (fun h => h.failOp o
              ⟨causeMord, BitVec.ofNat 64 sub, obj, o.pc, o.clause, o.idx, false, false⟩)
          | none =>
            let m := ((s.mordant.look key).getD (Mordant.fresh h.task cap)).register obj method flags (h.team, h.gi)
            ({ s with mordant := s.mordant.ins key m } : State).opStep g o none
      | _ => s)

/-! ## Requests (20 R320-R322) -/

/-- MREQ (20 R320): in a combiner wave it aborts the batch (20 R327). -/
def execMreq (a c d : Nat) (s : State) : Host.Outcome State Fault Refusal :=
  .next (guarded
    [(decide (a = 0), State.illegal 4 9), (!s.vAll [⟨c, 4, 1⟩], State.illegal 4 3), (s.full s.flagB, State.illegal 4 5)]
    (fun s =>
      match s.me.kind with
      | .combiner obj => (s.charge 2).abortWave obj 0x12
      | _ =>
        let act := s.active
        let args := (lanesOf act).foldl (fun m l => SMap.put m 0 l ((s.v (c + 1) l) ++ (s.v c l) : DWord)) []
        let s1 := (s.charge 2).count s.cur.g.coreRef 21 (countMask act)
        if act = 0 then s1.advance 4
        else (s1.issueOp (s.mkOp s.flagB 0x04 (.mreq a c (s.sreg d) args act 0))).advance 4) s)

/-- Requests that a home slice buffers (20 R321). -/
def State.buffered (s : State) (key : Nat) : Nat :=
  ((s.mordant.filter (fun e => decide (sliceOf e.1 = sliceOf key))).map (fun e =>
    e.2.opened.length + (e.2.closed.map (fun b => b.reqs.length)).foldl (· + ·) 0)).foldl (· + ·) 0

/-- A request stands before another of its cycle: by die, core and slot, then, of one slot, in issue order, then by lane (20
R322). -/
def MReq.before (a b : MReq) : Bool :=
  decide (a.g.key < b.g.key) ||
    (decide (a.g.key = b.g.key) && (decide (a.op < b.op) || (decide (a.op = b.op) && decide (a.lane < b.lane))))

/-- A request joins the linear order: behind earlier cycles, by its place within its own (20 R322). -/
def joinReqs (r : MReq) : List MReq → List MReq
  | [] => [r]
  | x :: xs => if l2Cycle x.tick = l2Cycle r.tick ∧ r.before x then r :: x :: xs else x :: joinReqs r xs

/-- Close an object's open batch (20 R321). -/
def Mordant.close (m : Mordant) : Mordant :=
  if m.opened = [] then m
  else { m with opened := [], closed := m.closed ++ [⟨m.opened, m.method, m.lines, m.aw64, m.rw64⟩] }

/-- Batches of 32 close in order; what is left over has been open since its first request (20 R321). -/
def Mordant.fill (m : Mordant) : Mordant :=
  let n := m.opened.length / 32
  let rest := m.opened.drop (32 * n)
  { m with
    closed := m.closed ++ (List.range n).map (fun i =>
      ⟨(m.opened.drop (32 * i)).take 32, m.method, m.lines, m.aw64, m.rw64⟩)
    opened := rest
    since := if n = 0 then m.since else (rest.head?.map MReq.tick).getD m.since }

/-- Before a core cycle of a new L2 cycle begins, batches close that hold 32 requests or whose 64 L2 cycles have passed (20
R321): the order within an L2 cycle is known then (R322). -/
def Mordant.settle (tick : Nat) (m : Mordant) : Mordant :=
  let m1 := m.fill
  if l2Cycle m1.since + 64 ≤ l2Cycle tick then m1.close else m1

/-- A request enters the open batch. -/
def Mordant.enter (r : MReq) (m : Mordant) : Mordant :=
  { m with since := if m.opened = [] then r.tick else m.since, opened := joinReqs r m.opened }

/-- A lane's request has left its instruction. -/
def Group.sendLane (o : Op) (lane : Nat) (g : Group) : Group :=
  match o.kind with
  | .mreq p c obj args todo sent =>
    g.setOpKind o.id (.mreq p c obj args todo (sent ||| maskOf (fun l => decide (l = lane))))
  | _ => g

/-- An earlier MREQ of the slot to the same object has lanes that have not arrived (20 R322). -/
def State.mreqBefore (s : State) (g : SlotRef) (o : Op) (obj : DWord) : Bool :=
  ((s.grp g).earlier o.id).any (fun x =>
    match x.kind with
    | .mreq _ _ obj' _ todo sent => decide (obj' = obj) && decide (todo &&& ~~~sent ≠ 0)
    | _ => false)

/-- MREQ_ARRIVE (20 R320-R322): one lane's request arrives at the home slice: status 0 at once, or it joins a batch. -/
def execMreqArrive (g : SlotRef) (op lane : Nat) (s : State) : Host.Outcome State Fault Refusal :=
  .next (
    match (s.grp g).findOp op with
    | none => s
    | some o =>
      match o.kind with
      | .mreq _ _ obj args todo sent =>
        if !inMask todo lane ∨ inMask sent lane ∨ !s.released g o ∨ s.mreqBefore g o obj then s
        else
          let r : MReq := ⟨g, op, lane, args.get 0 lane, s.tick⟩
          let s1 := (s.releaseAt g o.obs).modGrp g (Group.sendLane o lane)
          match (if canonical obj then s.xplain g (va56 obj) else .missing) with
          | .migrating _ => s
          | .missing => s1.answer r false none 0
          | .hit x =>
            let key := x.phys (va56 obj)
            match s.mordant.look key with
            | none => s1.answer r false none 0
            | some m =>
              if m.poisoned ∨ m.releasing then s1.answer r false (some (m.aw64, m.rw64)) 0
              else if 1024 ≤ s.buffered key then s
              else s1.modMordant key (Mordant.enter r)
      | _ => s)

/-- MORDANT_BATCH_CLOSE (20 R321): 64 L2 cycles after its first request the open batch closes. -/
def execMordantBatchClose (obj : Nat) (s : State) : Host.Outcome State Fault Refusal :=
  .next (
    match s.mordant.look obj with
    | none => s
    | some m => if l2Cycle m.since + 64 ≤ l2Cycle s.tick then s.modMordant obj Mordant.close else s)

/-! ## The combiner wave (20 R323-R327) -/

/-- The free system slot of the lowest-numbered core of the cluster attached to an object's home slice (20 R323). -/
def State.combinerSlot (s : State) (key : Nat) : Option SlotRef :=
  ((List.range 8).filterMap (fun i => s.freeSystemSlot ⟨homeDie key, 8 * (homeSlice key / 4) + i⟩)).head?

/-- The requester tag of a lane (20 R323). -/
def MReq.tag (r : MReq) : Word :=
  BitVec.ofNat 32 (r.g.die * 2 ^ 30 + r.g.core * 2 ^ 24 + r.g.slot * 2 ^ 18 + r.lane * 2 ^ 13)

/-- A combiner wave at entry (20 R323). -/
def combinerGroup (key : Nat) (m : Mordant) (b : Batch) (placed : Nat) : Group :=
  let n := b.reqs.length
  let c : Context :=
    { Context.empty with
      s := SMap.put (SMap.put [] 0 1 m.va) 0 2 (BitVec.ofNat 64 n)
      p0 := maskOf (fun l => decide (l < n))
      pc := b.method }
  let g0 : Group :=
    { Group.empty with kind := .combiner key, task := m.task, ctxs := [(0, c)], regalloc := 64, placed := placed }
  (List.range n).foldl (fun g l =>
    match b.reqs[l]? with
    | some r =>
      ((g.setV 0 l (r.arg.setWidth 32)).setV 1 l r.tag).setV 2 l (if b.aw64 then (r.arg >>> 32).setWidth 32 else 0)
    | none => g) g0

/-- The physical lines of an extent; none where a page of it is in migration. -/
def State.extentLines (s : State) (asid : Nat) (va : DWord) (n : Nat) : Option (List Nat) :=
  if s.asidMoves asid va (64 * n) then none
  else
    some ((List.range n).filterMap (fun i =>
      match s.xwalk asid (va56 va + 64 * i) with
      | .hit x => some (lineOf (x.phys (va56 va + 64 * i)))
      | _ => none))

/-- A running combiner wave holds a line (20 R324). -/
def State.lineHeld (s : State) (line : Nat) : Bool := s.mordant.any (fun e => e.2.wave.isSome && e.2.heldLines.elem line)

/-- COMBINER_WAVE_START (20 R323): the oldest closed batch starts once no wave of the object runs, a system slot of the
cluster is free and nobody else holds a line of its extent; its lines leave every cache and unit (20 R324). -/
def execCombinerWaveStart (obj : Nat) (s : State) : Host.Outcome State Fault Refusal :=
  .next (
    match s.mordant.look obj with
    | none => s
    | some m =>
      match m.closed, s.combinerSlot obj with
      | b :: r, some g =>
        match s.extentLines (s.task m.task).asid m.va b.lines with
        | none => s
        | some ls =>
          if m.wave.isSome ∨ s.dead m.task ∨ ls.any (fun l => s.lineOwned l || s.lineHeld l) then s
          else
            ((ls.foldl (fun s l => s.takeLine l) s).fresh.occupy g { combinerGroup obj m b s.serial with td := (s.task m.task).td }).modMordant obj (fun m =>
              { m with closed := r, wave := some g, batch := b, heldLines := ls, held := [], zeros := [], replies := [] })
      | _, _ => s)

/-- COMBINER_WAVE_LIMIT (20 R327): the 4,097th instruction aborts the batch. -/
def execCombinerWaveLimit (g : SlotRef) (s : State) : Host.Outcome State Fault Refusal :=
  .next (if !(s.grp g).isPlain ∧ s.overruns g then s.waveLimit g else s)

/-- MREPLY (20 R325): PRIV outside a combiner wave. -/
def execMreply (c : Nat) (s : State) : Host.Outcome State Fault Refusal :=
  let rw := ((s.waveObj s.cur.g).bind (fun k => s.mordant.look k)).any (fun m => m.batch.rw64)
  let n := if rw then 2 else 1
  .next (guarded
    [(!s.vAll [⟨c, n, 1⟩], State.illegal 4 3), (s.full s.flagB, State.illegal 4 5)]
    (fun s =>
      match s.waveObj s.cur.g with
      | none => s.raise 4 causePriv 0 0
      | some k =>
        let s1 := s.modMordant k (fun m =>
          { m with replies := (lanesOf s.active).foldl (fun x l =>
              x.put 0 l (if rw then (s.v (c + 1) l ++ s.v c l : DWord) else (s.v c l).setWidth 64)) m.replies })
        (s1.charge 1).advance 4) s)

/-- MDONE (20 R326): PRIV outside a combiner wave; it waits for the wave's outstanding operations, then the batch commits,
or aborts where a trap of the wave is still to be delivered. The wave retires with it, so that nothing reads its flag. -/
def execMdone (s : State) : Host.Outcome State Fault Refusal :=
  .next (guarded [(s.full s.flagB, State.illegal 4 5)]
    (fun s =>
      match s.waveObj s.cur.g with
      | none => s.raise 4 causePriv 0 0
      | some k =>
        if !s.me.drained s.cur.i false then s
        else
          let s1 := s.charge 1
          if (s.storeFault s.cur.g).isSome ∨ s.me.engineErrs ≠ [] ∨ s.me.mordErrs ≠ [] ∨ (s.me.flagErr (List.range 12)).isSome then
            s1.abortWave k 0x11
          else s1.commitWave k) s)

end Sys2Proof.Machine
end

