-- ==== Sys2Proof/Machine/Engine.lean ====
section
/-! DEFINITION. The engine of a core: its queue, slots, claims, baton and status, descriptors at use, and ownership of
destination lines (11 R205-R212, R219-R222, 23 R357). -/

namespace Sys2Proof.Machine

/-! ## The engine queue (11 R210) -/

/-- The slots that an operation reads and writes: operand slot i as i, accumulator slot i as 32 + i. -/
structure SlotUse where
  reads : List Nat
  writes : List Nat
deriving DecidableEq, Repr

/-- Slots a to a + n − 1. -/
def slotRun (acc : Bool) (a n : Nat) : List Nat := (List.range n).map (fun i => (if acc then 32 else 0) + a + i)

/-- Slots of 64 columns behind n of them. -/
def blocksOf (n : Nat) : Nat := (n + 63) / 64

/-- Accumulator slots of an attention tile of head dimension h from slot a. -/
def headSlots (a h : Nat) : List Nat := slotRun true a (if h = 128 then 2 else 1)

/-- What each engine operation reads and writes. -/
def OpKind.uses : OpKind → SlotUse
  | .mldo a td _ _ => ⟨if td.loc = 2 then [td.base % 32] else [], [a]⟩
  | .mma _ a b c _ n _ => ⟨a :: slotRun false b (blocksOf n), slotRun true c (blocksOf n)⟩
  | .msta a td _ _ _ _ => ⟨[32 + a], if td.loc = 2 then [td.base % 32] else []⟩
  | .mzacc a n => ⟨[], slotRun true a n⟩
  | .attn b a _ k _ => ⟨[a], headSlots b k.cols⟩
  | .attnf a _ _ _ h => ⟨headSlots a h, []⟩
  | .attnz a h => ⟨[], headSlots a h⟩
  | _ => ⟨[], []⟩

/-- Two entries of the queue must keep their order: they share a slot that one of them writes. -/
def SlotUse.clash (a b : SlotUse) : Bool :=
  a.writes.any (fun x => b.reads.elem x || b.writes.elem x) || a.reads.any (fun x => b.writes.elem x)

/-- What an entry of the queue uses. -/
def State.entryUse (s : State) : EngineEntry → SlotUse
  | .op r =>
    match (s.grp r.g).findOp r.op with
    | some o => o.kind.uses
    | none => ⟨[], []⟩
  | .rel _ acc slots => ⟨[], slots.map (fun i => if acc then 32 + i else i)⟩

/-- No earlier entry of the queue holds back an operation of a slot (11 R210), and no acquire of the slot. -/
def State.engineReady (s : State) (g : SlotRef) (o : Op) : Bool :=
  !s.behindAcquire g o && ((s.core g.coreRef).engine.takeWhile (fun e => e != .op ⟨g, o.id⟩)).all (fun e => !(s.entryUse e).clash o.kind.uses)

/-- A core releases slots that a holder holds (11 R209). -/
def Core.release (t : Nat) (acc : Bool) (slots : List Nat) (c : Core) : Core :=
  c.letGo t (fun n => !acc && slots.elem n) (fun n => acc && slots.elem n)

/-- Entries kept so far, and the core. -/
structure Settle where
  kept : List EngineEntry
  core : Core
deriving DecidableEq, Repr

/-- A release takes effect once no earlier entry uses its slots (11 R209). -/
def settleStep (s : State) (x : Settle) (e : EngineEntry) : Settle :=
  match e with
  | .op _ => { x with kept := x.kept ++ [e] }
  | .rel t acc slots =>
    if x.kept.all (fun k => !(s.entryUse k).clash (s.entryUse e)) then { x with core := x.core.release t acc slots }
    else { x with kept := x.kept ++ [e] }

/-- Apply the releases that nothing holds back. -/
def State.settleRels (c : CoreRef) (s : State) : State :=
  s.modCore c (fun k =>
    let x := k.engine.foldl (settleStep s) ⟨[], k⟩
    { x.core with engine := x.kept })

/-- An engine operation leaves its core's queue. -/
def State.dequeue (g : SlotRef) (n : Nat) (s : State) : State :=
  (s.modCore g.coreRef (fun c => { c with engine := c.engine.filter (fun e => e != .op ⟨g, n⟩) })).settleRels g.coreRef

/-- An engine operation completes: what it wrote reaches its release set (23 R359). -/
def State.engineDone (g : SlotRef) (o : Op) (s : State) : State :=
  ((s.engineRelease g o).opStep g o none).dequeue g o.id

/-- The matrix engine's operation, as an agent that reads memory. -/
def matrixReader (g : SlotRef) (o : Op) : Reader := .engine g false o.id

/-- An engine operation completes with an error (11 R217). -/
def State.engineFail (g : SlotRef) (o : Op) (t : Trap) (s : State) : State :=
  (s.modGrp g (Group.failOp o t)).dequeue g o.id

/-- Set status bits of a slot (11 R220). -/
def Group.addStatus (n : Nat) (g : Group) : Group := { g with estatus := g.estatus ||| BitVec.ofNat 64 n }

/-- An operation becomes outstanding as the owner of its lines (23 R357). -/
def State.issueOwn (o : Op) (s : State) : State := o.own.foldl (fun s l => s.takeLine l) (s.issueOp o)

/-- The release set of a matrix or attention operation that writes memory: DEVICE, COPY, MATRIX (23 R359). -/
def OpKind.releaseSet : OpKind → BitVec 7
  | .msta _ _ _ _ _ _ => 0x1C
  | .attnf _ _ _ _ _ => 0x1C
  | _ => 0

/-- An operation issues into the queue, with the charges and the lines it owns. -/
def State.issueEngine (ni nt : Nat) (own : List Nat) (k : OpKind) (s : State) : State :=
  let o : Op := { s.mkOp s.flagA k.releaseSet k with own := own }
  let r : OpRef := ⟨s.cur.g, o.id⟩
  (((((s.charge ni).chargeAt s.cur.g 0 nt).issueOwn o).modCore s.cur.g.coreRef (fun c =>
    { c with engine := c.engine ++ [.op r] }))).advance 4

/-! ## Slots (11 R208, R209) -/

/-- The slots of a kind on a core: number and holder. -/
def Core.slotTeams (c : Core) (acc : Bool) : SMap Nat :=
  if acc then c.ac.map (fun e => (e.1, e.2.team)) else c.om.map (fun e => (e.1, e.2.team))

/-- A release of slot i by holder t waits in the queue. -/
def Core.releasing (c : Core) (acc : Bool) (t n : Nat) : Bool :=
  c.engine.any (fun e =>
    match e with
    | .rel t' acc' slots => decide (t' = t) && decide (acc' = acc) && slots.elem n
    | .op _ => false)

/-- Slot n is claimed by a holder, with no release of it on its way. -/
def Core.claimed (c : Core) (acc : Bool) (t n : Nat) : Bool :=
  decide ((c.slotTeams acc).look n = some t) && !c.releasing acc t n

/-- The slots of the core that the issuing occupant holds: all of these. -/
def State.claims (s : State) (acc : Bool) (ns : List Nat) : Bool :=
  ns.all (fun n => (s.core s.cur.g.coreRef).claimed acc (s.holder s.cur.g) n)

/-- A slot newly taken (11 R209, 12 R228). -/
def OmSlot.fresh (t : Nat) : OmSlot := ⟨t, [], [], none⟩
def AcSlot.fresh (t : Nat) : AcSlot := ⟨t, [], [], [], 64⟩

/-- Take the slots of a range that the holder does not hold yet. -/
def Core.take (acc : Bool) (t : Nat) (ns : List Nat) (c : Core) : Core :=
  ns.foldl (fun c n =>
    if ((c.slotTeams acc).look n).isSome then c
    else if acc then { c with ac := c.ac.ins n (AcSlot.fresh t), acLeft := c.acLeft.del n }
    else { c with om := c.om.ins n (OmSlot.fresh t), omLeft := c.omLeft.del n }) c

/-- A claim that waits on a core: its order, context, kind and slots. -/
structure Claim where
  order : Nat
  c : CtxId
  acc : Bool
  slots : List Nat
deriving DecidableEq, Repr

/-- The claims that wait on a core. -/
def State.waitingClaims (s : State) (core : CoreRef) : List Claim :=
  s.groups.flatMap (fun e =>
    if (slotOfKey e.1).coreRef = core then
      e.2.ctxs.filterMap (fun x =>
        match x.2.stop with
        | .mclaim acc a n order => some ⟨order, ⟨slotOfKey e.1, x.1⟩, acc, (List.range (n + 1)).map (fun i => a + i)⟩
        | _ => none)
    else [])

/-- A waiting claim may take its slots: none is held by another holder or on its way to be released, and no older claim
waits for a slot that it still needs, but for claims withdrawn under a pending yield (11 R209, 19 R300; log 28). -/
def State.claimable (s : State) (k : Claim) : Bool :=
  let core := s.core k.c.g.coreRef
  let t := s.holder k.c.g
  let need := k.slots.filter (fun n => !core.claimed k.acc t n)
  need.all (fun n => ((core.slotTeams k.acc).look n).isNone) &&
    (s.waitingClaims k.c.g.coreRef).all (fun q =>
      decide (k.order ≤ q.order) || decide (s.onward q.c.g = .entry) || decide (q.acc ≠ k.acc) || !(q.slots.any (fun n => need.elem n)))

/-- Grant a waiting claim where it may be (11 R209): its context goes on behind the MCLAIM. -/
def State.grantClaim (c : CtxId) (s : State) : State :=
  match (s.waitingClaims c.g.coreRef).find? (fun k => decide (k.c = c)) with
  | none => s
  | some k =>
    if s.claimable k then
      (s.modCore c.g.coreRef (Core.take k.acc (s.holder c.g) k.slots)).modCtxAt c (fun x =>
        { x.advance 4 false with stop := .running })
    else s

/-- A range of slots reaches past the last one. -/
def pastEnd (acc : Bool) (a n : Nat) : Bool := decide ((if acc then 16 else 32) < a + n)

/-- MCLAIM (11 R209): it holds its context until its slots are its team's. -/
def execMclaim (acc : Bool) (a n : Nat) (s : State) : Host.Outcome State Fault Refusal :=
  .next (guarded [(pastEnd acc a (n + 1), State.illegal 4 3)]
    (fun s =>
      (((s.charge 1).fresh).modCtx (fun x => { x with stop := .mclaim acc a n s.serial, lastIssue := s.tick + 1 })
        ).grantClaim s.cur) s)

/-- MCLAIM_GRANT (11 R209). -/
def execMclaimGrant (c : CtxId) (s : State) : Host.Outcome State Fault Refusal :=
  .next (if s.onward c.g = .entry then s else s.grantClaim c)

/-- MREL (11 R209): the release stands in the engine queue. -/
def execMrel (acc : Bool) (a n : Nat) (s : State) : Host.Outcome State Fault Refusal :=
  .next (guarded [(pastEnd acc a (n + 1), State.illegal 4 3)]
    (fun s =>
      let t := s.holder s.cur.g
      let ns := ((List.range (n + 1)).map (fun i => a + i)).filter (fun i => (s.core s.cur.g.coreRef).claimed acc t i)
      (((s.charge 1).modCore s.cur.g.coreRef (fun c =>
        if ns = [] then c else { c with engine := c.engine ++ [.rel t acc ns] })).settleRels s.cur.g.coreRef).advance 4) s)

/-! ## The baton (11 R221, R222) -/

/-- The slot that issues takes the baton, or queues for it. -/
def State.takeBaton (s : State) : State := s.askBaton s.cur.g

/-- The slot that issues owns the baton. -/
def State.ownsBaton (s : State) : Bool := decide ((s.core s.cur.g.coreRef).baton = some s.cur.g)

def execMbatonTake (s : State) : Host.Outcome State Fault Refusal := .next (((s.charge 1).takeBaton).advance 4)
def execMbatonPass (s : State) : Host.Outcome State Fault Refusal := .next (((s.charge 1).passBaton s.cur.g).advance 4)

/-- The word of MBATON query. -/
def State.batonWord (s : State) : Nat :=
  let c := s.core s.cur.g.coreRef
  (match c.baton with
   | some h => 32768 + h.slot * 256 + (if h = s.cur.g then 1 else 0)
   | none => 0) + (if c.batonReq.elem s.cur.g then 2 else 0)

def execMbatonQuery (d : Nat) (s : State) : Host.Outcome State Fault Refusal :=
  .next (((s.charge 1).setS d (BitVec.ofNat 64 s.batonWord)).advance 4)

/-- The effect of an MMA or ATTN, issued only by the owner: another slot's takes the baton, and its context is held
(11 R222). -/
def withBaton (eff : Act) (s : State) : State :=
  let s1 := if s.ownsBaton then s else s.takeBaton
  if s1.ownsBaton then eff s1 else s1.modCtx (fun c => { c with stop := .baton })

/-- MSTAT (11 R220). -/
def execMstat (d : Nat) (s : State) : Host.Outcome State Fault Refusal :=
  .next ((((s.charge 1).setS d s.me.estatus).modMe (fun g => { g with estatus := 0 })).advance 4)

/-! ## Descriptors (11 R205, R206) -/

/-- Descriptor k of the occupant that issues. -/
def State.td (s : State) (k : Nat) : Td :=
  match s.me.kind with
  | .combiner _ => s.me.td.get 0 k
  | _ => s.myTeam.td.get 0 k

/-- Write a descriptor. -/
def State.setTd (k : Nat) (x : Td) (s : State) : State :=
  match s.me.kind with
  | .combiner _ => s.modMe (fun g => { g with td := g.td.put 0 k x })
  | _ => s.modTeam s.me.team (fun m => { m with td := m.td.put 0 k x })

/-- The value in s[a..a+3]. -/
def State.tdValue (s : State) (a : Nat) : Td := s.sreg (a + 3) ++ s.sreg (a + 2) ++ s.sreg (a + 1) ++ s.sreg a

def execTdset (a c : Nat) (s : State) : Host.Outcome State Fault Refusal :=
  let x := s.tdValue a
  .next (guarded [(decide (28 < a), State.illegal 4 3), (x.refused.isSome, fun s => s.illegal 4 (x.refused.getD 0))]
    (fun s => ((s.charge 1).setTd c x).advance 4) s)

def execTdget (a c : Nat) (s : State) : Host.Outcome State Fault Refusal :=
  let x := s.td c
  .next (guarded [(decide (28 < a), State.illegal 4 3)]
    (fun s =>
      ((List.range 4).foldl (fun s w => s.setS (a + w) (x.extractLsb' (64 * w) 64)) (s.charge 1)).advance 4) s)

/-! ## A descriptor at use (11 R204, R207) -/

/-- A run of bytes that a descriptor names: where it starts in its row's logical bytes, its offset from BASE, its
length. -/
structure Run where
  o : Nat
  off : Nat
  n : Nat
deriving DecidableEq, Repr

/-- The runs of n logical bytes at o of row r (11 R204). -/
def Td.runs (d : Td) (r o n : Nat) : List Run :=
  if n = 0 then []
  else if d.swz = 1 then
    (List.range ((o + n - 1) / 16 - o / 16 + 1)).map (fun i =>
      let c := o / 16 + i
      let lo := max o (16 * c)
      ⟨lo, d.offset r lo, min (o + n) (16 * c + 16) - lo⟩)
  else [⟨o, d.offset r o, n⟩]

/-- Bytes that hold the codes of n elements from column c: first and count. -/
def codeSpan (fmt c n : Nat) : Nat × Nat :=
  if fmt = 7 then (c / 2, (n + 1) / 2) else if fmt = 8 then (c / 5, (n + 4) / 5) else (elemSize fmt * c, elemSize fmt * n)

/-- Logical bytes of a row that n elements from column c touch: codes, and a q4 row's scale bytes (04 R73). -/
def Td.spans (d : Td) (c n : Nat) : List (Nat × Nat) :=
  if d.fmt = 7 then [codeSpan 7 c n, (d.cols / 2 + c / 32, (n + 31) / 32)] else [codeSpan d.fmt c n]

/-- A rectangle of a tensor: first row and count, first column and count. -/
structure Rect where
  r : Nat
  rows : Nat
  c : Nat
  cols : Nat
deriving DecidableEq, Repr

/-- The rectangle of at most rows × cols elements from (row0, col0) within VALID and COLS (11 R213, R218). -/
def Td.rect (d : Td) (row0 rows col0 cols : Nat) : Rect := ⟨row0, min rows (d.valid - row0), col0, min cols (d.cols - col0)⟩

/-- The runs that a rectangle touches in memory. -/
def Td.touched (d : Td) (x : Rect) : List Run :=
  if x.cols = 0 ∨ d.loc = 2 then []
  else (List.range x.rows).flatMap (fun i => (d.spans x.c x.cols).flatMap (fun p => d.runs (x.r + i) p.1 p.2))

/-- The address of an offset from BASE. -/
def Td.addr (d : Td) (off : Nat) : DWord :=
  BitVec.ofNat 64 (if d.loc = 1 then Config.spwBase + d.base + off else d.base + off)

/-- The first address of a run outside the location it must lie in. -/
def Td.outside (d : Td) (window : Nat) (x : Run) : Option DWord :=
  let a := d.base + x.off
  if d.loc = 1 then
    if window < a + x.n then some (BitVec.ofNat 64 (Config.spwBase + max a window)) else none
  else if 2 ^ 64 ≤ a + x.n - 1 ∨ badRange (BitVec.ofNat 64 a) x.n then
    some (if 2 ^ 64 ≤ a ∨ !canonical (BitVec.ofNat 64 a) then BitVec.ofNat 64 a
      else if a < 2 ^ 55 then BitVec.ofNat 64 (2 ^ 55) else 0)
  else none

/-- The first byte of runs that fails a test, as an address. -/
def firstByte (d : Td) (xs : List Run) (bad : Nat → Bool) : Option DWord :=
  xs.findSome? (fun x => ((List.range x.n).find? (fun i => bad ((d.addr x.off).toNat + i))).map (fun i => plus (d.addr x.off) i))

/-- The checks of R207 on the bytes touched, in the order of the table with LEASE before 0x0D (as 12 R236 has them; log
29), and the barrier words of 10 R194. -/
def State.tdChecks (s : State) (d : Td) (shape : Bool) (wr : Bool) (xs : List Run) : List (Bool × Act) :=
  let g := s.cur.g
  let k := s.myTask
  let out := xs.findSome? (d.outside (s.window g))
  let glob := decide (d.loc = 0)
  let removed := xs.findSome? (fun x =>
    match s.rangePages g wr (va56 (d.addr x.off)) x.n with
    | .removed p => some p
    | _ => none)
  [(shape, State.addrTrap 4 0),
   (out.isSome, State.addrTrap 5 (out.getD 0)),
   (wr && decide (d.loc = 1) && xs.any (fun x => s.hitsBarrier g (d.addr x.off)), State.addrTrap 0x0E 0),
   (glob && xs.any (fun x => !k.leased (d.addr x.off).toNat x.n), fun s =>
     s.endTaskAt s.cur causeLease 0 ((firstByte d xs (fun a => !k.leased a 1)).getD 0)),
   (glob && wr && xs.any (fun x => !k.writable (d.addr x.off).toNat x.n), State.addrTrap 0x0D 0),
   (glob && removed.isSome, State.removedAtIssue (removed.getD 0))]

/-- The virtual lines of runs in global memory. -/
def Td.lines (d : Td) (xs : List Run) : List Nat :=
  if d.loc = 0 then
    (xs.flatMap (fun x =>
      let a := (d.addr x.off).toNat
      (List.range ((a + x.n - 1) / 64 - a / 64 + 1)).map (fun i => a / 64 + i))).eraseDups
  else []

/-- The charge of lines (19 R298). -/
def lineCharge (ls : List Nat) : Nat := 64 * ls.length

/-- The physical lines of virtual lines: an engine owns those it writes (23 R357); on a page in migration, those that the
page moves to (22 R345). -/
def State.ownLines (s : State) (g : SlotRef) (ls : List Nat) : List Nat :=
  ls.filterMap (fun l =>
    let a := va56 (BitVec.ofNat 64 (64 * l))
    match s.xplain g a with
    | .hit x => some (lineOf (x.phys a))
    | .migrating p =>
      let asid := (s.task (s.grp g).task).asid
      (s.io.migrations.find? (fun m => decide (m.asid = asid) && decide (m.base = p))).map (fun m => lineOf (m.new_ + (a - p)))
    | .missing => none)

/-- The object whose wave would write a line outside its batch's extent (20 R324). -/
def State.straysLines (s : State) (g : SlotRef) (ls : List Nat) : Option Nat :=
  s.strays g 64 (ls.map (fun l => ⟨32, BitVec.ofNat 64 (64 * l), none, [], none⟩))

/-- An engine write waits: an operation issued earlier owns a line of it (23 R357). -/
def State.ownedBefore (s : State) (o : Op) : Bool :=
  s.groups.any (fun e => e.2.ops.any (fun p => decide (p.id < o.id) && o.own.any (fun l => p.own.elem l)))

/-- What the runs of a descriptor meet when the engine reads or writes them: nothing, a page in migration, or a removed
translation. -/
def State.runsNow (s : State) (g : SlotRef) (d : Td) (wr : Bool) (xs : List Run) : RangeRes :=
  if d.loc = 0 then
    xs.foldl (fun r x =>
      match r with
      | .ok =>
        match s.checkRange g (d.addr x.off) x.n wr with
        | .migrating p => .migrating p
        | .removed p => .removed p
        | _ => .ok
      | _ => r) .ok
  else .ok

/-- Bytes of a logical span, read through runs. -/
def State.readRuns (s : State) (g : SlotRef) (d : Td) (xs : List Run) : List Byte :=
  xs.flatMap (fun x => s.vbytes g (d.addr x.off) x.n)

/-- The places of runs. -/
def State.runPlaces (s : State) (g : SlotRef) (d : Td) (xs : List Run) : List Nat :=
  xs.flatMap (fun x => s.rangePlaces g (d.addr x.off) x.n)

/-- Write the bytes of a logical span that starts at o through its runs. -/
def State.writeRuns (g : SlotRef) (d : Td) (o : Nat) (bs : List Byte) (xs : List Run) (s : State) : State :=
  xs.foldl (fun s x => s.vwrite g (d.addr x.off) ((bs.drop (x.o - o)).take x.n)) s

/-- Codes and q4 scale bytes of part of a row. -/
structure RowPart where
  codes : List Byte
  side : List Byte
deriving DecidableEq, Repr

/-- Read the elements of a rectangle's row r: from memory, or from an operand slot. -/
def State.readRow (s : State) (g : SlotRef) (d : Td) (x : Rect) (r : Nat) : RowPart :=
  let p := codeSpan d.fmt x.c x.cols
  if d.loc = 2 then
    let m := (s.core g.coreRef).om.get (OmSlot.fresh 0) (d.base % 32)
    ⟨(List.range p.2).map (fun i => BitVec.ofNat 8 (m.byte r (p.1 + i))),
     if d.fmt = 7 then (List.range ((x.cols + 31) / 32)).map (fun i => m.side.get 0 (16 * r + x.c / 32 + i)) else []⟩
  else
    ⟨s.readRuns g d (d.runs r p.1 p.2),
     if d.fmt = 7 then s.readRuns g d (d.runs r (d.cols / 2 + x.c / 32) ((x.cols + 31) / 32)) else []⟩

/-- Bytes of row r of a slot from byte b, and q4 scale bytes from block k. -/
def OmSlot.setRow (r b k : Nat) (p : RowPart) (m : OmSlot) : OmSlot :=
  { m with
    bytes := m.bytes.putRange 0 (256 * r + b) (fun i => p.codes.getD i 0) p.codes.length
    side := m.side.putRange 0 (16 * r + k) (fun i => p.side.getD i 0) p.side.length }

/-- An operand slot of a core, changed where it is held. -/
def State.modOm (c : CoreRef) (n : Nat) (f : OmSlot → OmSlot) (s : State) : State :=
  s.modCore c (fun k => { k with om := k.om.upd n f })
def State.modAc (c : CoreRef) (n : Nat) (f : AcSlot → AcSlot) (s : State) : State :=
  s.modCore c (fun k => { k with ac := k.ac.upd n f })

/-- An operand slot of +0 elements of a format (11 R213, R218). -/
def OmSlot.clearTo (fmt : Nat) (m : OmSlot) : OmSlot :=
  { m with bytes := SMap.table (if fmt = 8 then 16384 else 0) 0 0 (fun _ => zeroByte fmt), side := [] }

/-- MZACC (11 R219). -/
def execMzacc (a n : Nat) (s : State) : Host.Outcome State Fault Refusal :=
  .next (guarded
    [(pastEnd true a (n + 1) || !s.claims true ((List.range (n + 1)).map (fun i => a + i)), State.illegal 4 3),
     (s.full s.flagA, State.illegal 4 5)]
    (fun s => s.issueEngine 1 0 [] (.mzacc a (n + 1))) s)

/-- MZACC_COMPLETE (11 R219): words, statistics and H as reset. -/
def execMzaccComplete (g : SlotRef) (op : Nat) (s : State) : Host.Outcome State Fault Refusal :=
  .next (
    match (s.grp g).findOp op with
    | none => s
    | some o =>
      match o.kind with
      | .mzacc a n =>
        if s.engineReady g o then
          ((List.range n).foldl (fun s i => s.modAc g.coreRef (a + i) (fun m => AcSlot.fresh m.team)) s).engineDone g o
        else s
      | _ => s)

end Sys2Proof.Machine
end

