-- ==== Sys2Proof/Machine/Matrix.lean ====
section
/-! DEFINITION. MLDO, MMA, MMAZ and MSTA (11 R212-R218). -/

namespace Sys2Proof.Machine

/-- Row and column of an s offset (11 R213). -/
def State.row0 (s : State) (d : Nat) : Nat := (s.sreg d).toNat % 2 ^ 32
def State.col0 (s : State) (d : Nat) : Nat := (s.sreg d).toNat / 2 ^ 32

/-- A column offset that a format does not permit (11 R207). -/
def badCol (fmt c : Nat) : Bool := (decide (fmt = 7) && decide (c % 32 ≠ 0)) || (decide (fmt = 8) && decide (c % 5 ≠ 0))

/-- The write of a combiner wave's engine must stay within its batch's extent (20 R324, R327). -/
def inExtent (ls : List Nat) (eff : Act) (s : State) : State :=
  match s.straysLines s.cur.g ls with
  | some obj => s.abortWave obj 0x14
  | none => eff s

/-! ## MLDO (11 R213) -/

/-- A descriptor names an operand slot that the occupant does not hold (11 R207). -/
def Td.unheld (d : Td) (s : State) : Bool := decide (d.loc = 2) && !s.claims false [d.base % 32]

def mldoFmts : List Nat := [1, 2, 3, 4, 5, 6, 7, 8]

/-- MLDO: the slot's tag is set at issue. -/
def execMldo (a c d : Nat) (s : State) : Host.Outcome State Fault Refusal :=
  let t := s.td c
  let r := s.row0 d
  let k := s.col0 d
  let x := t.rect r 64 k (slotK t.fmt)
  let xs := t.touched x
  .next (guarded
    ([(!s.claims false [a] || t.unheld s, State.illegal 4 3), (s.full s.flagA, State.illegal 4 5)] ++
      s.tdChecks t (t.badShape mldoFmts || badCol t.fmt k) false xs)
    (fun s =>
      (s.modOm s.cur.g.coreRef a (fun m => { m with tag := some ⟨t.fmt, t.scale⟩ })).issueEngine 1
        (lineCharge (t.lines xs)) [] (.mldo a t r k)) s)

/-- Elements beyond n in the last byte of a row's codes are +0 of the format; a reserved t3 byte stays as it is
(log 30). -/
def trimCodes (fmt n : Nat) (bs : List Byte) : List Byte :=
  let last := (bs.getLastD 0).toNat
  if fmt = 7 ∧ n % 2 = 1 then bs.dropLast ++ [BitVec.ofNat 8 (last % 16)]
  else if fmt = 8 ∧ n % 5 ≠ 0 ∧ last < 243 then
    bs.dropLast ++ [BitVec.ofNat 8 (last % 3 ^ (n % 5) + (121 - (3 ^ (n % 5) - 1) / 2))]
  else bs

/-- The slot after an MLDO: +0 everywhere, then the rows of the rectangle. -/
def State.loadSlot (s : State) (g : SlotRef) (t : Td) (x : Rect) (m : OmSlot) : OmSlot :=
  if x.cols = 0 then m.clearTo t.fmt
  else
    (List.range x.rows).foldl (fun m i =>
      let p := s.readRow g t x (x.r + i)
      m.setRow i 0 0 { p with codes := trimCodes t.fmt x.cols p.codes }) (m.clearTo t.fmt)

/-- MLDO_COMPLETE (11 R213). -/
def execMldoComplete (g : SlotRef) (op : Nat) (s : State) : Host.Outcome State Fault Refusal :=
  .next (
    match (s.grp g).findOp op with
    | none => s
    | some o =>
      match o.kind with
      | .mldo a t r k =>
        if !s.engineReady g o then s
        else
          let x := t.rect r 64 k (slotK t.fmt)
          match s.runsNow g t false (t.touched x) with
          | .migrating _ => s
          | .removed va => (s.engineDone g o).removedEnd g o va
          | _ => ((s.modOm g.coreRef a ((s.seenBy (matrixReader g o)).loadSlot g t x)).drawRead.recallRead g true
              (s.runPlaces g t (t.touched x))).engineDone g o
      | _ => s)

/-! ## MMA and MMAZ (11 R214-R217) -/

/-- A chunk of a row, with its summaries. -/
structure FChunk where
  vals : List FVal
  zero : Bool
  nf : Bool
  nan : Bool
deriving DecidableEq, Repr

def FChunk.of (vs : List FVal) : FChunk := ⟨vs, vs.all FVal.isZero, vs.any FVal.special, vs.elem .nan⟩

structure IChunk where
  vals : List Int
  zero : Bool
deriving DecidableEq, Repr

def IChunk.of (vs : List Int) : IChunk := ⟨vs, vs.all (fun x => decide (x = 0))⟩

/-- An output element on its way: its word, the status it set, the pairs skipped. -/
structure Cell where
  w : Word
  st : Nat
  skip : Nat
deriving DecidableEq, Repr

/-- An FP32 word is finite, or infinite. -/
def finite32 (w : Word) : Bool := decide (w.toNat / 2 ^ 23 % 256 ≠ 255)
def inf32 (w : Word) : Bool := decide (w.toNat % 2 ^ 31 = 0x7F800000)

/-- One chunk pair (04 R78, R79, 11 R215, R216). -/
def Cell.chunk (c : Cell) (a b : FChunk) : Cell :=
  if (a.zero && !b.nf) || (b.zero && !a.nf) then { c with skip := c.skip + 1 }
  else
    let x := chunkSum a.vals b.vals
    let w := accumulate c.w x
    ⟨w, c.st ||| (if decide (x = .nan) && !a.nan && !b.nan then stNv else 0) |||
      (if finite32 c.w && inf32 w then stOf else 0), c.skip⟩

/-- One chunk pair of integers (04 R80). -/
def Cell.chunkInt (c : Cell) (a b : IChunk) : Cell :=
  if a.zero || b.zero then { c with skip := c.skip + 1 }
  else { c with w := c.w + BitVec.ofInt 32 ((List.zipWith (· * ·) a.vals b.vals).foldl (· + ·) 0) }

/-- An element (i, j) over all chunks. -/
def mmaCell (w : Word) (row col : List FChunk) : Cell :=
  (row.zip col).foldl (fun c p => c.chunk p.1 p.2) ⟨w, 0, 0⟩
def mmaCellInt (w : Word) (row col : List IChunk) : Cell :=
  (row.zip col).foldl (fun c p => c.chunkInt p.1 p.2) ⟨w, 0, 0⟩

/-- The first n rows of a slot as chunks. -/
def OmSlot.rowsF (m : OmSlot) (t : Tag) (n k : Nat) : List (List FChunk) :=
  (List.range n).map (fun r => (List.range k).map (fun c => FChunk.of (m.chunk t r c)))
def OmSlot.rowsI (m : OmSlot) (t : Tag) (n k : Nat) : List (List IChunk) :=
  (List.range n).map (fun r => (List.range k).map (fun c => IChunk.of (m.chunkInt t r c)))

/-- A computed accumulator block: its words, status and skipped pairs. -/
structure Block where
  words : SMap Word
  st : Nat
  skip : Nat
deriving DecidableEq, Repr

/-- Put a cell into a block. -/
def Block.put (b : Block) (k : Nat) (c : Cell) : Block := ⟨b.words.put 0 k c.w, b.st ||| c.st, b.skip + c.skip⟩

/-- The block of an A slot and a B slot with n columns (11 R214): words at or beyond its rows and columns stay. -/
def mmaBlock (zero : Bool) (cls m n : Nat) (ta tb : Tag) (a b : OmSlot) (old : SMap Word) : Block :=
  let at0 := fun i j => if zero then (0 : Word) else old.get 0 (64 * i + j)
  let rsvd := (List.range m).any (a.reservedRow ta) || (List.range n).any (b.reservedRow tb)
  let start : Block := ⟨old, if rsvd then stRsvd else 0, 0⟩
  if cls = 2 then
    let cols := b.rowsI tb n (chunksOf cls)
    (a.rowsI ta m (chunksOf cls)).zipIdx.foldl (fun r x =>
      cols.zipIdx.foldl (fun r y => r.put (64 * x.2 + y.2) (mmaCellInt (at0 x.2 y.2) x.1 y.1)) r) start
  else
    let cols := b.rowsF tb n (chunksOf cls)
    (a.rowsF ta m (chunksOf cls)).zipIdx.foldl (fun r x =>
      cols.zipIdx.foldl (fun r y => r.put (64 * x.2 + y.2) (mmaCell (at0 x.2 y.2) x.1 y.1)) r) start

/-- The tag of an operand slot of the core that issues. -/
def State.omTag (s : State) (n : Nat) : Option Tag := ((s.core s.cur.g.coreRef).om.look n).bind (fun m => m.tag)

/-- The tags of the A slot and the B slots, where R214 pairs them. -/
def State.pairTags (s : State) (a b nb : Nat) : Option (List Tag) :=
  let ts := (a :: (List.range nb).map (fun i => b + i)).filterMap s.omTag
  let cs := ts.filterMap (fun t => pairClass t.fmt)
  if cs.length = nb + 1 ∧ cs.all (fun c => decide (c = cs.headD 9)) then some ts else none

/-- MMA and MMAZ at issue: M code 3 traps ILLEGAL 8 (02 R42); only the baton's owner issues (11 R222). -/
def mmaIssue (zero : Bool) (c a b mc d : Nat) (s : State) : State :=
  let m := 16 * 2 ^ mc
  let n := 16 * (d + 1)
  let nb := blocksOf n
  guarded
    [(decide (3 ≤ mc), State.illegal 4 8),
     (pastEnd false b nb || pastEnd true c nb || !s.claims false (a :: (List.range nb).map (fun i => b + i)) ||
      !s.claims true ((List.range nb).map (fun i => c + i)), State.illegal 4 3),
     (s.full s.flagA, State.illegal 4 5),
     ((s.pairTags a b nb).isNone, State.addrTrap 6 0)]
    (withBaton (fun s => s.issueEngine (m * n / 256) 0 [] (.mma zero a b c m n ((s.pairTags a b nb).getD [])))) s

def execMma (c a b mc d : Nat) (s : State) : Host.Outcome State Fault Refusal := .next (mmaIssue false c a b mc d s)
def execMmaz (c a b mc d : Nat) (s : State) : Host.Outcome State Fault Refusal := .next (mmaIssue true c a b mc d s)

/-- The trap of a second checksum mismatch (11 R217): its pc is where it is delivered. -/
def mchkTrap : Trap := ⟨causeMchk, 0, 0, 0, 0, 0, false, false⟩

/-- The status of blocks that failed twice (11 R220). -/
def mckStatus (slots : List Nat) : Nat := slots.foldl (fun x k => x ||| 2 ^ (16 + k)) (if slots = [] then 0 else stMchk)

/-- MMA_COMPLETE (11 R214-R217): every block is written but those that failed their checksum twice, of which neither events
nor skipped pairs are kept (log 113); `rerun` blocks ran again. -/
def execMmaComplete (g : SlotRef) (op rerun : Nat) (bad : List Nat) (s : State) : Host.Outcome State Fault Refusal :=
  .next (
    match (s.grp g).findOp op with
    | none => s
    | some o =>
      match o.kind with
      | .mma zero a b c m n tags =>
        let nb := blocksOf n
        let bs := (List.range nb).filter (fun j => bad.elem j)
        if !s.engineReady g o ∨ nb < rerun ∨ rerun < bs.length then s
        else
          let k := s.core g.coreRef
          let ta := tags.getD 0 ⟨0, 0⟩
          let cls := (pairClass ta.fmt).getD 0
          let good := (List.range nb).filter (fun j => !bs.elem j)
          let s1 := good.foldl (fun s j =>
            let r := mmaBlock zero cls m (min 64 (n - 64 * j)) ta (tags.getD (j + 1) ⟨0, 0⟩)
              (k.om.get (OmSlot.fresh 0) a) (k.om.get (OmSlot.fresh 0) (b + j)) (k.ac.get (AcSlot.fresh 0) (c + j)).words
            ((s.modAc g.coreRef (c + j) (fun x => { x with words := r.words })).modGrp g (Group.addStatus r.st)).count
              g.coreRef 18 r.skip) s
          let s2 := (s1.count g.coreRef 19 rerun).modGrp g (Group.addStatus (mckStatus (bs.map (fun j => c + j))))
          if bs = [] then s2.engineDone g o else s2.engineFail g o mchkTrap
      | _ => s)

/-! ## MSTA (11 R218) -/

def mstaFmts : List Nat := [0, 1, 2, 3, 4, 5, 6, 7, 9]

/-- A mode that the target's format does not have. -/
def badMode (fmt mode : Nat) : Bool :=
  if fmt = 5 ∨ fmt = 6 ∨ fmt = 9 then decide (mode ≠ 0) else decide (fmt ≠ 7) && decide (mode = 3)

/-- MSTA at issue: a mode that the descriptor's format does not have traps before the other ILLEGAL conditions (02 R401), and
behind the descriptor's checks where there is none (log 103). It owns its global lines (23 R357); an operand target's tag is
set (11 R218). -/
def execMsta (a c d mode : Nat) (s : State) : Host.Outcome State Fault Refusal :=
  let t := s.td c
  let r := s.row0 d
  let k := s.col0 d
  let xs := t.touched (t.rect r 64 k 64)
  let ls := t.lines xs
  let tag : Option Tag := some ⟨t.fmt, t.scale⟩
  let un := !s.claims true [a] || t.unheld s
  .next (guarded
    ([(un || s.full s.flagA, State.illegal 4 (if mstaFmts.elem t.fmt ∧ badMode t.fmt mode then 8 else if un then 3 else 5))] ++
      s.tdChecks t (t.badShape mstaFmts || badCol t.fmt k || (decide (t.fmt = 7) && decide (t.cols % 32 ≠ 0))) true xs ++
      [(badMode t.fmt mode, State.illegal 4 8)])
    (inExtent ls (fun s =>
      let clear := decide (s.omTag (t.base % 32) ≠ tag)
      let s1 := if t.loc = 2 then s.modOm s.cur.g.coreRef (t.base % 32) (fun m => { m with tag := tag }) else s
      s1.issueEngine 1 (lineCharge ls) (s.ownLines s.cur.g ls) (.msta a t r k mode clear))) s)

/-- A converted row, with the status it sets. -/
structure RowOut where
  part : RowPart
  st : Nat
deriving DecidableEq, Repr

/-- The bytes of stored elements. -/
def storedBytes (size : Nat) (xs : List Stored) : List Byte :=
  xs.flatMap (fun x => (List.range size).map (fun i => byteOf x.bits i))

/-- Row r of an accumulator slot converted to n elements of a target (11 R218). -/
def mstaRow (t : Td) (mode n : Nat) (m : AcSlot) (r : Nat) : RowOut :=
  let w := fun e => m.words.get 0 (64 * r + e)
  if t.fmt = 7 then
    let bs := (List.range (n / 32)).map (fun j =>
      q4Encode mode ((List.range 32).map (fun e => (fmt32.val (w (32 * j + e)).toNat).mul (fmt32.val t.scale))))
    ⟨⟨nibbles (bs.flatMap Q4Block.codes), bs.map (fun b => BitVec.ofNat 8 b.scale)⟩, bs.foldl (fun x b => x ||| b.st) 0⟩
  else
    let xs := (List.range n).map (fun e => storeElem t.fmt mode t.scale (w e))
    ⟨⟨storedBytes (elemSize t.fmt) xs, []⟩, xs.foldl (fun x b => x ||| b.st) 0⟩

/-- Write one row of a rectangle: to an operand slot, or through the page tables. -/
def State.writeRow (g : SlotRef) (t : Td) (x : Rect) (r : Nat) (p : RowPart) (s : State) : State :=
  let o := (codeSpan t.fmt x.c x.cols).1
  if t.loc = 2 then s.modOm g.coreRef (t.base % 32) (OmSlot.setRow r o (x.c / 32) p)
  else
    let sc := t.cols / 2 + x.c / 32
    (s.writeRuns g t o p.codes (t.runs r o p.codes.length)).writeRuns g t sc p.side (t.runs r sc p.side.length)

/-- MSTA_COMPLETE (11 R218): every byte is written at its point of coherence; the lines are given up. -/
def execMstaComplete (g : SlotRef) (op : Nat) (s : State) : Host.Outcome State Fault Refusal :=
  .next (
    match (s.grp g).findOp op with
    | none => s
    | some o =>
      match o.kind with
      | .msta a t r k mode clear =>
        if !s.engineReady g o ∨ s.ownedBefore o then s
        else
          let x := t.rect r 64 k 64
          match s.runsNow g t true (t.touched x) with
          | .migrating _ => s
          | .removed va => (s.engineDone g o).removedEnd g o va
          | _ =>
            let m := (s.core g.coreRef).ac.get (AcSlot.fresh 0) a
            let s1 := if t.loc = 2 ∧ clear then s.modOm g.coreRef (t.base % 32) (OmSlot.clearTo t.fmt) else s
            let s2 :=
              if x.cols = 0 then s1
              else
                (List.range x.rows).foldl (fun s i =>
                  let y := mstaRow t mode x.cols m i
                  (s.writeRow g t x (x.r + i) y.part).modGrp g (Group.addStatus y.st)) s1
            (s2.engineWrote g o s (s.runPlaces g t (t.touched x))).engineDone g o
      | _ => s)

end Sys2Proof.Machine
end

