-- ==== Sys2Proof/Machine/Attention.lean ====
section
/-! DEFINITION. ATTN, ATTNF and ATTNZ (12 R228-R233). -/

namespace Sys2Proof.Machine

/-! ## ATTN -/

/-- The FP32 words −∞, +∞ and 1.0. -/
def negInf : Word := 0xFF800000
def one32 : Word := 0x3F800000

def isNan32 (w : Word) : Bool := !finite32 w && !inf32 w

/-- FP32 operations rounded RN-even, on words. -/
def mul32 (a b : Word) : Word := BitVec.ofNat 32 (fmt32.mul 0 (fmt32.val a.toNat) (fmt32.val b.toNat)).bits
def add32 (a b : Word) : Word := BitVec.ofNat 32 (fmt32.add 0 (fmt32.val a.toNat) (fmt32.val b.toNat)).bits
def sub32 (a b : Word) : Word := BitVec.ofNat 32 (fmt32.sub 0 (fmt32.val a.toNat) (fmt32.val b.toNat)).bits
def exp32 (a : Word) : Word := BitVec.ofNat 32 (exp2c a.toNat).bits
def fmax32 (a b : Word) : Word := BitVec.ofNat 32 (fmt32.minmax true a.toNat b.toNat).bits

/-- The value of a word rounded to BF16. -/
def bf16Val (a : Word) : FVal := fmtB16.val (fmtB16.cvt 0 (fmt32.val a.toNat)).bits

/-- Split a list into chunks of 32, at most `fuel` of them. -/
def chunks32 : Nat → List FVal → List (List FVal)
  | 0, _ => []
  | n + 1, xs => xs.take 32 :: chunks32 n (xs.drop 32)

/-- Add chunk sums of products to a word, in order (12 R230). -/
def dotFrom (t : Word) (xs ys : List FVal) : Word :=
  ((chunks32 ((xs.length + 31) / 32) xs).zip (chunks32 ((ys.length + 31) / 32) ys)).foldl
    (fun t p => accumulate t (chunkSum p.1 p.2)) t

/-- One query row's state. -/
structure AttnRow where
  m : Word
  l : Word
  o : List Word
  st : Nat
deriving DecidableEq, Repr

/-- One query row (12 R230, R231): K rows, and V by column, over the n keys. -/
def attnRow (sc : Word) (q : List FVal) (k : List (List FVal)) (v : List (List FVal)) (r : AttnRow) : AttnRow :=
  let s := k.map (fun row => mul32 sc (dotFrom 0 q row))
  let mx := s.foldl fmax32 r.m
  let none_ := decide (mx = negInf)
  let alpha := if none_ then one32 else exp32 (sub32 r.m mx)
  let p := s.map (fun x => if none_ then 0 else exp32 (sub32 x mx))
  let l := p.foldl add32 (mul32 alpha r.l)
  let pb := p.map bf16Val
  let o := (r.o.zip v).map (fun x => dotFrom (mul32 alpha x.1) pb x.2)
  let nanIn := q.elem .nan || k.any (fun x => x.elem .nan) || v.any (fun x => x.elem .nan) ||
    ([sc, r.m, r.l] ++ r.o).any isNan32
  let finIn := !(q.any FVal.special) && !(k.any (fun x => x.any FVal.special)) && !(v.any (fun x => x.any FVal.special)) &&
    (decide (r.m = negInf) || finite32 r.m) && ([sc, r.l] ++ r.o).all finite32
  ⟨mx, l, o, (if !nanIn && (s ++ p ++ [l] ++ o).any isNan32 then stNv else 0) |||
    (if finIn && (s ++ [l] ++ o).any inf32 then stOf else 0)⟩

/-- Formats of K and V rows. -/
def kvFmts : List Nat := [1, 2, 3, 4]

/-- What ATTN requires of its descriptors beyond R207 (12 R229). -/
def badTiles (k v : Td) : Bool :=
  decide (k.loc ≠ 1) || decide (v.loc ≠ 1) || !(decide (k.cols = 64) || decide (k.cols = 128)) || decide (v.cols ≠ k.cols) ||
    decide (64 < k.valid) || decide (v.rows < k.valid)

/-- Accumulator slots from b for head dimension h, as numbers. -/
def headNums (b h : Nat) : List Nat := if h = 128 then [b, b + 1] else [b]

/-- ATTN at issue (12 R229). An operand slot of LOC 2 that the team does not hold is an ADDR trap (log 138). -/
def execAttn (a b c d : Nat) (s : State) : Host.Outcome State Fault Refusal :=
  let k := s.td c
  let v := s.td d
  let h := k.cols
  .next (guarded
    ([((decide (h = 128) && decide (b = 15)) || !s.claims false [a] || !s.claims true (headNums b h), State.illegal 4 3),
      (s.full s.flagA, State.illegal 4 5)] ++
      s.tdChecks k (k.badShape kvFmts) false (k.touched ⟨0, k.valid, 0, h⟩) ++
      s.tdChecks v (v.badShape kvFmts) false (v.touched ⟨0, k.valid, 0, h⟩) ++
      [(badTiles k v, State.addrTrap 4 0),
       (!((s.omTag a).any (fun t => decide (t.fmt = 1) || decide (t.fmt = 2))), State.addrTrap 6 0)])
    (withBaton (fun s => s.issueEngine 64 0 [] (.attn b a ((s.omTag a).getD ⟨0, 0⟩) k v))) s)

/-- Row r of a K or V tile as values. -/
def State.tileRow (s : State) (g : SlotRef) (t : Td) (h r : Nat) : List FVal :=
  let z := elemSize t.fmt
  let bs := (s.readRow g t ⟨0, 64, 0, h⟩ r).codes
  (List.range h).map (fun e => floatVal t.fmt (leNat ((bs.drop (z * e)).take z)))

/-- Word (i, c) of an attention tile from slot b. -/
def Core.tileWord (k : Core) (b i c : Nat) : Word := (k.ac.get (AcSlot.fresh 0) (b + c / 64)).words.get 0 (64 * i + c % 64)

/-- The rows of an ATTN's result. -/
def State.attnRows (s : State) (g : SlotRef) (b a : Nat) (q : Tag) (k v : Td) : List AttnRow :=
  let h := k.cols
  let core := s.core g.coreRef
  let om := core.om.get (OmSlot.fresh 0) a
  let ac := core.ac.get (AcSlot.fresh 0) b
  let ks := (List.range k.valid).map (s.tileRow g k h)
  let vs := (List.range k.valid).map (s.tileRow g v h)
  let vc := (List.range h).map (fun c => vs.map (fun r => r.getD c .nan))
  (List.range 64).map (fun i =>
    attnRow (BitVec.ofNat 32 q.scale) ((List.range h).map (om.elem q i)) ks vc
      ⟨ac.m.get negInf i, ac.l.get 0 i, (List.range h).map (core.tileWord b i), 0⟩)

/-- Write the rows of an ATTN's result. -/
def State.putAttn (c : CoreRef) (b h : Nat) (rs : List AttnRow) (s : State) : State :=
  let words := fun (j : Nat) (w : SMap Word) =>
    rs.zipIdx.foldl (fun w x => w.putRange 0 (64 * x.2) (fun e => x.1.o.getD (64 * j + e) 0) 64) w
  let s1 := (headNums b h).zipIdx.foldl (fun s x => s.modAc c x.1 (fun m => { m with words := words x.2 m.words })) s
  s1.modAc c b (fun m =>
    { m with
      m := rs.zipIdx.foldl (fun w x => w.put negInf x.2 x.1.m) m.m
      l := rs.zipIdx.foldl (fun w x => w.put 0 x.2 x.1.l) m.l })

/-- ATTN_COMPLETE (12 R230, R231): a second mismatch leaves the whole tile as it was. -/
def execAttnComplete (g : SlotRef) (op : Nat) (rerun bad : Bool) (s : State) : Host.Outcome State Fault Refusal :=
  .next (
    match (s.grp g).findOp op with
    | none => s
    | some o =>
      match o.kind with
      | .attn b a q k v =>
        if !s.engineReady g o ∨ (bad ∧ !rerun) then s
        else
          let s1 := s.count g.coreRef 19 rerun.toNat
          if bad then (s1.modGrp g (Group.addStatus (mckStatus (headNums b k.cols)))).engineFail g o mchkTrap
          else
            let s2 :=
              if k.valid = 0 then s1
              else
                let rs := (s.seenBy (matrixReader g o)).attnRows g b a q k v
                (s1.drawRead.putAttn g.coreRef b k.cols rs).modGrp g (Group.addStatus (rs.foldl (fun x r => x ||| r.st) 0))
            (s2.modAc g.coreRef b (fun m => { m with h := k.cols })).engineDone g o
      | _ => s)

/-! ## ATTNF -/

/-- The head dimension that an operation of the queue leaves on accumulator slot a (12 R232). -/
def OpKind.headOn (a : Nat) : OpKind → Option Nat
  | .attn b _ _ k _ => if b = a then some k.cols else none
  | .attnz b _ => if b = a then some 64 else none
  | .mzacc b n => if b ≤ a ∧ a < b + n then some 64 else none
  | _ => none

/-- The head dimension that slot a will hold behind the queue of the core that issues (12 R232), as it stands at issue (log 137). -/
def State.headAt (s : State) (a : Nat) : Nat :=
  let c := s.core s.cur.g.coreRef
  let hs := c.engine.filterMap (fun e =>
    match e with
    | .op r => ((s.grp r.g).findOp r.op).bind (fun o => o.kind.headOn a)
    | .rel _ _ _ => none)
  hs.getLast?.getD ((c.ac.get (AcSlot.fresh 0) a).h)

def attnfFmts : List Nat := [0, 1, 2, 3, 4]

/-- Slot a is unclaimed, or its head dimension needs a second slot that is not there (12 R232, R233). -/
def State.badHead (s : State) (a : Nat) : Bool :=
  !s.claims true [a] || (decide (s.headAt a = 128) && (decide (a = 15) || !s.claims true [a + 1]))

/-- ATTNF at issue (12 R232). -/
def execAttnf (a c d : Nat) (s : State) : Host.Outcome State Fault Refusal :=
  let t := s.td c
  let h := s.headAt a
  let r := s.row0 d
  let k := s.col0 d
  let xs := t.touched (t.rect r 64 k h)
  let ls := t.lines xs
  .next (guarded
    ([(s.badHead a, State.illegal 4 3), (s.full s.flagA, State.illegal 4 5)] ++
      s.tdChecks t (t.badShape attnfFmts || decide (t.loc = 2)) true xs)
    (inExtent ls (fun s => s.issueEngine 1 (lineCharge ls) (s.ownLines s.cur.g ls) (.attnf a t r k h))) s)

/-- A finite nonzero encoding below the smallest normal of its format. -/
def subnormal (f : Fmt) (bits : Nat) : Bool :=
  decide (bits / 2 ^ f.fbits % 2 ^ f.ebits = 0) && decide (bits % 2 ^ f.fbits ≠ 0)

/-- One output of ATTNF (12 R232): o over l, then converted. -/
def attnfElem (fmt : Nat) (o l : Word) : Stored :=
  if l.toNat % 2 ^ 31 = 0 then ⟨0, stEmpty⟩
  else
    let f := fmtOf fmt
    let q := fmt32.div 0 (fmt32.val o.toNat) (fmt32.val l.toNat)
    let r : FRes := if fmt = 0 then ⟨q.bits, 0⟩ else f.cvt 0 (fmt32.val q.bits)
    let nan := decide (f.val r.bits = .nan)
    let ev := q.ev ||| r.ev
    ⟨r.bits, (if nan && (decide (fmt = 3) || (!isNan32 o && !isNan32 l)) then stNv else 0) |||
      (if ev &&& evOF ≠ 0 then stOf else 0) ||| (if subnormal f r.bits && decide (ev &&& evNX ≠ 0) then stUf else 0)⟩

/-- ATTNF_COMPLETE (12 R232). -/
def execAttnfComplete (g : SlotRef) (op : Nat) (s : State) : Host.Outcome State Fault Refusal :=
  .next (
    match (s.grp g).findOp op with
    | none => s
    | some o =>
      match o.kind with
      | .attnf a t r k h =>
        if !s.engineReady g o ∨ s.ownedBefore o then s
        else
          let x := t.rect r 64 k h
          match s.runsNow g t true (t.touched x) with
          | .migrating _ => s
          | .removed va => (s.engineDone g o).removedEnd g o va
          | _ =>
            let core := s.core g.coreRef
            let ac := core.ac.get (AcSlot.fresh 0) a
            let s1 :=
              if x.cols = 0 then s
              else
                (List.range x.rows).foldl (fun s i =>
                  let ys := (List.range x.cols).map (fun e => attnfElem t.fmt (core.tileWord a i e) (ac.l.get 0 i))
                  (s.writeRow g t x (x.r + i) ⟨storedBytes (elemSize t.fmt) ys, []⟩).modGrp g
                    (Group.addStatus (ys.foldl (fun z y => z ||| y.st) 0))) s
            (s1.engineWrote g o s (s.runPlaces g t (t.touched x))).engineDone g o
      | _ => s)

/-! ## ATTNZ (12 R233) -/

/-- ATTNZ at issue. -/
def execAttnz (a : Nat) (s : State) : Host.Outcome State Fault Refusal :=
  .next (guarded [(s.badHead a, State.illegal 4 3), (s.full s.flagA, State.illegal 4 5)]
    (fun s => s.issueEngine 1 0 [] (.attnz a (s.headAt a))) s)

/-- ATTNZ_COMPLETE: words to +0; m to −∞, l to +0 and H to 64 of the first slot. -/
def execAttnzComplete (g : SlotRef) (op : Nat) (s : State) : Host.Outcome State Fault Refusal :=
  .next (
    match (s.grp g).findOp op with
    | none => s
    | some o =>
      match o.kind with
      | .attnz a h =>
        if !s.engineReady g o then s
        else
          (((headNums a h).foldl (fun s j => s.modAc g.coreRef j (fun m => { m with words := [] })) s).modAc g.coreRef a
            (fun m => { m with m := [], l := [], h := 64 })).engineDone g o
      | _ => s)

end Sys2Proof.Machine
end

