-- ==== Sys2Proof/Machine/Copies.lean ====
section
/-! DEFINITION. Copy channels: CPY, BLKCPY, GATHERF, SCATTERF and CPYWP (12 R234-R240, 27 R391-R394). -/

namespace Sys2Proof.Machine

/-! ## Channels and progress -/

/-- A copy becomes the slot's latest on a channel (12 R237, 27 R394); of an earlier one that is still at work stays what its
CPYWPs have made of it (12 R238). -/
def Group.newCopy (key : Nat) (p : CopyProg) (g : Group) : Group :=
  { g with copies :=
      (match g.copies.look key with
       | some q => if q.done then g.copies else g.copies.ins (16 + q.op) q
       | none => g.copies).ins key p }

/-- A copy enters its channel (12 R234) and becomes the slot's latest there. -/
def State.startCopy (ch key : Nat) (blk : Bool) (op : Nat) (done : Bool) (s : State) : State :=
  let s1 := s.modMe (Group.newCopy key ⟨op, blk, 0, 0, false, false, done, [], false⟩)
  if done then s1
  else s1.modCore s.cur.g.coreRef (fun c => { c with channels := c.channels.ins ch (c.channels.get [] ch ++ [⟨s.cur.g, op⟩]) })

/-- Change the progress of a copy while it is its slot's latest on the channel. -/
def State.modCopy (g : SlotRef) (key op : Nat) (f : CopyProg → CopyProg) (s : State) : State :=
  s.modGrp g (fun h => { h with copies := h.copies.upd key (fun p => if p.op = op then f p else p) })

/-- A copy is the first of its channel (12 R234). -/
def State.copyHead (s : State) (g : SlotRef) (ch op : Nat) : Bool :=
  decide (((s.core g.coreRef).channels.get [] ch).head? = some ⟨g, op⟩)

/-- A copy leaves its channel and its flag clears. -/
def State.copyEnd (g : SlotRef) (o : Op) (ch : Nat) (s : State) : State :=
  (s.modCore g.coreRef (fun c => { c with channels := c.channels.ins ch ((c.channels.get [] ch).filter (fun r => r != ⟨g, o.id⟩)) })
    ).opStep g o none

/-- A copy engine's operation, as an agent that reads memory. -/
def copyReader (g : SlotRef) (o : Op) : Reader := .engine g true o.id

/-- A copy whose CPYWPs have returned completes: its slot reads all of it new, from their WAIT on (12 R238). -/
def State.copyShown (g : SlotRef) (o : Op) (s : State) : State :=
  match (s.grp g).copies.vals.find? (fun p => decide (p.op = o.id)) with
  | some p =>
    let s1 := s.signalCopy g o.id s.serial p.flags
    if p.watched then s1.knowCopy g o.id else s1
  | none => s

/-- A copy completes: what it wrote reaches its release set (12 R234, 23 R359). -/
def State.copyDone (g : SlotRef) (o : Op) (ch key : Nat) (s : State) : State :=
  ((((s.engineRelease g o).copyShown g o).copyEnd g o ch).modCopy g key o.id (fun p => { p with done := true })).modGrp g
    (fun h => { h with copies := h.copies.del (16 + o.id) })

/-- An operation owns these lines no more: it has written them (23 R357). -/
def Group.disown (n : Nat) (ls : List Nat) (g : Group) : Group :=
  { g with ops := g.ops.map (fun o => if o.id = n then { o with own := o.own.filter (fun l => !ls.elem l) } else o) }

/-- Physical destination lines that a copy engine has written: one of zeros becomes a zero line (22 R335). -/
def State.zeroWritten (g : SlotRef) (ls : List Nat) (s : State) : State :=
  if (s.grp g).isPlain then ls.foldl (fun s l => s.zeroBack l) s else s

/-- The virtual lines of a global range; none in the scratchpad. -/
def rangeLines (a : DWord) (n : Nat) : List Nat :=
  if inSpw a ∨ n = 0 then []
  else (List.range (lineCount a.toNat n)).map (fun i => a.toNat / 64 + i)

/-! ## CPY (12 R236) -/

/-- A range that CPY may not name: it wraps, is not canonical, or lies beyond the team's scratchpad. -/
def State.badCopy (s : State) (a : DWord) (n : Nat) : Bool :=
  decide (n ≠ 0) && (badRange a n || (inSpw a && decide (s.window s.cur.g < spwOffset a + n)))

/-- The global bytes of a range lie in no lease, or for a destination are not writable. -/
def State.unleased (s : State) (a : DWord) (n : Nat) : Bool := decide (n ≠ 0) && !inSpw a && !s.myTask.leased a.toNat n
def State.readonly (s : State) (a : DWord) (n : Nat) : Bool := decide (n ≠ 0) && !inSpw a && !s.myTask.writable a.toNat n

/-- The page of a global range whose translation is gone (22 R343). -/
def State.removedIn (s : State) (wr : Bool) (a : DWord) (n : Nat) : Option Nat :=
  if inSpw a ∨ n = 0 then none
  else
    match s.rangePages s.cur.g wr (va56 a) n with
    | .removed p => some p
    | _ => none

/-- The checks of CPY in the order of its table. -/
def cpyChecks (src dst : DWord) (n : Nat) (s : State) : List (Bool × Act) :=
  [(decide (src.toNat % 4 ≠ 0) || decide (dst.toNat % 4 ≠ 0) || decide (n % 4 ≠ 0), State.misTrap 8 0),
   (decide (0x0FFFFFFC < n), State.addrTrap 9 0),
   (s.badCopy src n, State.addrTrap 8 src),
   (s.badCopy dst n, State.addrTrap 8 dst),
   (decide (n ≠ 0) && s.hitsBarrier s.cur.g dst, State.addrTrap 0x0E dst),
   (s.unleased src n, fun s => s.endTaskAt s.cur causeLease 0 src),
   (s.unleased dst n, fun s => s.endTaskAt s.cur causeLease 0 dst),
   (s.readonly dst n, State.addrTrap 0x0D dst),
   ((s.removedIn false src n).isSome, fun s => s.removedAtIssue ((s.removedIn false src n).getD 0)),
   ((s.removedIn true dst n).isSome, fun s => s.removedAtIssue ((s.removedIn true dst n).getD 0))]

/-- CPY at issue. -/
def execCpy (a b c d : Nat) (s : State) : Host.Outcome State Fault Refusal :=
  let src := s.sreg d
  let dst := s.sreg b
  let n := (s.sreg a).toNat
  let ls := rangeLines dst n
  let ch := (s.cap c).ch
  .next (guarded [(s.full s.flagB, State.illegal 4 5)]
    (withCap c [kindCopy]
      (guarded (cpyChecks src dst n s)
        (inExtent ls (fun s =>
          let s1 := (s.charge 1).chargeAt s.cur.g 0 (rangeCharge src n + rangeCharge dst n)
          if n = 0 then ((s1.startCopy ch ch false s.serial true).fresh).advance 4
          else
            let o : Op := { s.mkOp s.flagB (s.cap c).rel (.cpy ch src dst n) with own := s.ownLines s.cur.g ls }
            ((s1.startCopy ch ch false o.id false).issueOwn o).advance 4)))) s)

/-- The forward word copy of n bytes (12 R236). -/
def State.copyWords (g : SlotRef) (o : Op) (src dst : DWord) : Nat → State → State
  | 0, s => s
  | n + 1, s =>
    State.copyWords g o (plus src 4) (plus dst 4) n (s.vwrite g dst ((s.seenBy (copyReader g o)).vbytes g src 4))

/-- How many of n more bytes are written now: whole words, and for a global destination whole lines. -/
def copyPart (dst : DWord) (len n : Nat) : Nat :=
  let m := min len (n / 4 * 4)
  if m = len ∨ inSpw dst then m else (dst.toNat + m) / 64 * 64 - dst.toNat

/-- The next n bytes of a CPY are written (12 R234, R236). -/
def State.cpyStep (g : SlotRef) (o : Op) (ch : Nat) (src dst : DWord) (len n : Nat) (s : State) : State :=
  let m := copyPart dst len n
  if m = 0 ∨ s.ownedBefore o then s
  else
    let part := fun (a : DWord) (wr : Bool) => if inSpw a then RangeRes.ok else s.checkRange g a m wr
    match part src false, part dst true with
    | .removed va, _ => (s.copyEnd g o ch).removedEnd g o va
    | _, .removed va => (s.copyEnd g o ch).removedEnd g o va
    | .migrating _, _ => s
    | _, .migrating _ => s
    | _, _ =>
      let s0 := ((s.copyWords g o src dst (m / 4)).drawRead.recallRead g false (s.rangePlaces g src m)).engineWrote g o s
        (s.rangePlaces g dst m)
      let ls := s.ownLines g (rangeLines dst m)
      let s1 := (s0.zeroWritten g ls).modGrp g (Group.disown o.id ls)
      let s2 := s1.modCopy g ch o.id (fun p => { p with progress := p.progress + m })
      if m = len then s2.copyDone g o ch ch
      else s2.opStep g o (some (.cpy ch (plus src m) (plus dst m) (len - m)))

/-! ## BLKCPY (12 R239, R240) -/

/-- The rows a copy takes: one position for each active lane. -/
def State.rowLanes (s : State) (d : Nat) : List RowLane :=
  (lanesOf s.active).zipIdx.map (fun x => ⟨x.1, (s.v d x.1).toNat, x.2⟩)

/-- Every format (11 R203): the format is checked behind R207. -/
def allFmts : List Nat := [0, 1, 2, 3, 4, 5, 6, 7, 8, 9]

/-- What a row copy requires of its descriptor beyond R207. -/
def badRows (t : Td) (rb : Nat) : Bool :=
  decide (rb ≠ rowBytes t.fmt t.cols) || decide (t.fmt = 7) || decide (t.fmt = 8) || decide (t.loc = 2)

/-- BLKCPY at issue (12 R240). A destination of LOC 2 in a slot that the team does not hold is an ADDR trap (log 140). -/
def execBlkcpy (a b c d : Nat) (s : State) : Host.Outcome State Fault Refusal :=
  let k := s.cap c
  let t := s.td a
  let f := (s.sreg b).toNat
  let rows := s.rowLanes d
  let xs := t.touched ⟨f, min t.rows (f + rows.length * k.bs) - f, 0, t.cols⟩
  let ls := t.lines xs
  let tab := k.table
  .next (guarded [(!s.vAll [⟨d, 1, 1⟩], State.illegal 4 3), (s.full s.flagB, State.illegal 4 5)]
    (withCap c [kindBlock]
      (guarded
        (s.tdChecks t (t.badShape allFmts) true xs ++
          [(badRows t k.blockRow || decide (2 ^ 32 ≤ f), State.addrTrap 4 0),
           (!s.myTask.leased tab.toNat (8 * k.len), fun s => s.endTaskAt s.cur causeLease 0 tab)])
        (inExtent ls (fun s =>
          let s1 := s.charge 1
          if rows = [] then ((s1.startCopy k.ch k.ch true s.serial true).fresh).advance 4
          else
            let o : Op :=
              { s.mkOp s.flagB k.rel (.blkcpy k.ch ⟨tab, k.len, k.bs, k.blockRow, t, f, rows, 0, none, []⟩) with
                own := s.ownLines s.cur.g ls }
            ((s1.startCopy k.ch k.ch true o.id false).issueOwn o).advance 4)))) s)

/-- Two rows of a global destination share no line. -/
def Td.lineRows (t : Td) : Bool := decide (t.loc ≠ 0) || (decide (t.base % 64 = 0) && decide (t.pitch % 64 = 0))

/-- A copy on its way: the state, what it has come to, and whether it waits, ended its task, or goes on. -/
structure BlkRun where
  s : State
  b : BlkOp
  /-- places written that are still to become visible: rows share their lines (23 R357) -/
  wrote : List Nat
  /-- it cannot go on now -/
  wait : Bool
  /-- it has ended its task -/
  gone : Bool
deriving DecidableEq, Repr

/-- Charge the lines of a range that this copy has not been charged for (12 R240): wr 0 for reads, 1 for writes. -/
def newLines (seen : List Nat) (wr : Nat) (ls : List Nat) : List Nat :=
  ((ls.map (fun l => 2 * l + wr)).filter (fun x => !seen.elem x)).eraseDups

/-- Charge lines once. -/
def State.chargeSeen (g : SlotRef) (seen : List Nat) (wr : Nat) (ls : List Nat) (s : State) : State :=
  s.chargeAt g 0 (64 * ((newLines seen wr ls).length : Int))

/-- The positions of a lane are skipped: they settle together. -/
def BlkRun.skip (g : SlotRef) (o : Op) (ch lane : Nat) (bad : Bool) (x : BlkRun) : BlkRun :=
  { x with
    s := x.s.modCopy g ch o.id (fun p =>
      { p with
        progress := p.progress + x.b.bs, bad := p.bad || bad
        lmask := p.lmask ||| maskOf (fun l => decide (l = lane)) })
    b := { x.b with done := x.b.done + x.b.bs, src := none } }

/-- The copy ends its task: its operation is gone, and nothing later is written (12 R240, 22 R343). -/
def BlkRun.stop (g : SlotRef) (o : Op) (ch : Nat) (f : State → State) (x : BlkRun) : BlkRun :=
  { x with s := f (x.s.copyEnd g o ch), gone := true }

/-- One row position is settled. -/
def BlkRun.settled (g : SlotRef) (o : Op) (ch : Nat) (trunc : Bool) (x : BlkRun) : BlkRun :=
  let n := x.b.done + 1
  { x with
    s := x.s.modCopy g ch o.id (fun p => { p with progress := p.progress + 1, trunc := p.trunc || trunc })
    b := { x.b with done := n, src := if n % x.b.bs = 0 then none else x.b.src } }

/-- Read the block table's entry of the lane at hand (12 R239). -/
def BlkRun.entry (g : SlotRef) (o : Op) (ch : Nat) (r : RowLane) (x : BlkRun) : BlkRun :=
  if x.b.len ≤ r.idx then x.skip g o ch r.lane false
  else
    let e := plus x.b.table (8 * r.idx)
    match x.s.checkRange g e 8 false with
    | .migrating _ => { x with wait := true }
    | .removed va => x.stop g o ch (State.removedEnd g o va)
    | _ =>
      let ls := rangeLines e 8
      let s1 := (x.s.chargeSeen g x.b.seen 0 ls).recallRead g false (x.s.rangePlaces g e 8)
      let b1 := { x.b with seen := newLines x.b.seen 0 ls ++ x.b.seen }
      let a := BitVec.ofNat 64 (x.s.vatomic (copyReader g o) g e 8)
      if !canonical a ∨ a.toNat % 16 ≠ 0 ∨ 2 ^ 64 ≤ a.toNat + x.b.bs * x.b.rowBytes then
        BlkRun.skip g o ch r.lane true { x with s := s1, b := b1 }
      else { x with s := s1, b := { b1 with src := some a } }

/-- Copy the row at hand from the block at address a (12 R239, R240). -/
def BlkRun.row (g : SlotRef) (o : Op) (ch : Nat) (a : DWord) (x : BlkRun) : BlkRun :=
  let pos := x.b.f + x.b.done
  if x.b.td.rows ≤ pos then x.settled g o ch true
  else
    let src := plus a (x.b.done % x.b.bs * x.b.rowBytes)
    let n := x.b.rowBytes
    let rs := x.b.td.runs pos 0 n
    if !(x.s.task (x.s.grp g).task).leased src.toNat n then
      x.stop g o ch (fun s => s.endTask (s.grp g).task causeLease 0 src (s.handle g) o.clause o.idx)
    else
      match x.s.checkRange g src n false, x.s.runsNow g x.b.td true rs with
      | .removed va, _ => x.stop g o ch (State.removedEnd g o va)
      | _, .removed va => x.stop g o ch (State.removedEnd g o va)
      | .migrating _, _ => { x with wait := true }
      | _, .migrating _ => { x with wait := true }
      | _, _ =>
        let rd := rangeLines src n
        let wr := x.b.td.lines rs
        let bs := (x.s.seenBy (copyReader g o)).vbytes g src n
        let s0 := ((x.s.chargeSeen g x.b.seen 0 rd).chargeSeen g x.b.seen 1 wr).recallRead g false (x.s.rangePlaces g src n)
        let ps := x.s.runPlaces g x.b.td rs
        let s1 := (s0.writeRuns g x.b.td 0 bs rs).drawRead
        let s2 := if x.b.td.lineRows then s1.engineWrote g o x.s ps else { s1 with hist := x.s.hist, writes := x.s.writes }
        let s3 := s2.zeroWritten g (x.s.ownLines g wr)
        BlkRun.settled g o ch false
          { x with
            s := s3.modGrp g (Group.disown o.id (x.s.ownLines g wr))
            wrote := if x.b.td.lineRows then x.wrote else x.wrote ++ ps
            b := { x.b with seen := newLines x.b.seen 0 rd ++ newLines x.b.seen 1 wr ++ x.b.seen } }

/-- Settle the next position. -/
def BlkRun.next (g : SlotRef) (o : Op) (ch : Nat) (x : BlkRun) : BlkRun :=
  match x.b.rows[x.b.done / x.b.bs]? with
  | none => x
  | some r =>
    if x.wait ∨ x.gone then x
    else
      match x.b.src with
      | some a => x.row g o ch a
      | none =>
        let y := x.entry g o ch r
        match y.b.src with
        | some a => if y.gone ∨ y.wait then y else y.row g o ch a
        | none => y

/-- The next n positions of a BLKCPY are settled; where rows share a global line, all of them at once, each line as one write (23
R357). -/
def State.blkStep (g : SlotRef) (o : Op) (ch : Nat) (b : BlkOp) (n : Nat) (s : State) : State :=
  if s.ownedBefore o then s
  else
    let all := b.rows.length * b.bs
    let x := (List.range (if b.td.lineRows then min n all else all)).foldl (fun (x : BlkRun) _ => x.next g o ch) ⟨s, b, [], false, false⟩
    let t := x.s.engineWrote g o s x.wrote.eraseDups
    if x.gone then t
    else if all ≤ x.b.done then t.copyDone g o ch ch
    else if b.td.lineRows then x.s.opStep g o (some (.blkcpy ch x.b))
    else s

/-! ## GATHERF and SCATTERF (27 R391-R394) -/

/-- The owner of a row. -/
def FabOp.owner (f : FabOp) (idx : Nat) : Nat := f.own.getD (idx / 2 ^ f.shard % max 1 f.own.length) 0

/-- Where a local row lies. -/
def FabOp.rowAt (f : FabOp) (idx : Nat) : DWord := plus f.base (idx * f.rowBytes)

/-- The row is the part's own (27 R391). -/
def FabOp.isLocal (f : FabOp) (idx : Nat) : Bool := decide (f.owner idx ≤ 3)

/-- The lines that a scatter writes here. -/
def State.scatterLines (s : State) (f : FabOp) : List Nat :=
  (f.rows.flatMap (fun r =>
    if r.idx < f.len ∧ r.pos < f.td.rows ∧ f.isLocal r.idx ∧ s.myTask.writable (f.rowAt r.idx).toNat f.rowBytes then
      rangeLines (f.rowAt r.idx) f.rowBytes
    else [])).eraseDups

/-- GATHERF and SCATTERF at issue (27 R393). -/
def fabricIssue (scatter : Bool) (a c d : Nat) (s : State) : State :=
  let k := s.cap c
  let t := s.td a
  let rows := s.rowLanes d
  let xs := t.touched ⟨0, min t.rows rows.length, 0, t.cols⟩
  let f : FabOp :=
    ⟨scatter, k.table, k.len, k.gatherRow, k.shard, (List.range k.nown).map k.own, k.win, t, rows, rows.length, [], []⟩
  let ls := if scatter then s.scatterLines f else t.lines xs
  guarded [(!s.vAll [⟨d, 1, 1⟩], State.illegal 4 3), (s.full s.flagB, State.illegal 4 5)]
    (withCap c [kindGather]
      (guarded
        (s.tdChecks t (t.badShape allFmts) (!scatter) xs ++ [(badRows t k.gatherRow, State.addrTrap 4 0)])
        (inExtent ls (fun s =>
          let s1 := s.charge 1
          if rows = [] then ((s1.startCopy k.ch (4 + k.ch) true s.serial true).fresh).advance 4
          else
            let o : Op := { s.mkOp s.flagB k.rel (.fabric k.ch f) with own := s.ownLines s.cur.g ls }
            ((s1.startCopy k.ch (4 + k.ch) true o.id false).issueOwn o).advance 4)))) s

def execGatherf (a c d : Nat) (s : State) : Host.Outcome State Fault Refusal := .next (fabricIssue false a c d s)
def execScatterf (a c d : Nat) (s : State) : Host.Outcome State Fault Refusal := .next (fabricIssue true a c d s)

/-- How a row of a gather or scatter settles. -/
inductive RowEnd where
  | moved | masked | truncated
deriving DecidableEq, Repr

/-- Position p is settled; PROGRESS is the length of the settled prefix (27 R394). -/
def State.fabSettle (g : SlotRef) (o : Op) (ch : Nat) (f : FabOp) (r : RowLane) (e : RowEnd) (bad : Bool) (seen : List Nat)
    (s : State) : State :=
  let rest := f.rows.filter (fun x => x != r)
  let prog := ((rest.map RowLane.pos).foldl min f.total)
  let s1 := s.modCopy g (4 + ch) o.id (fun p =>
    { p with
      progress := prog
      lmask := if e = .masked then p.lmask ||| maskOf (fun l => decide (l = r.lane)) else p.lmask
      trunc := p.trunc || decide (e = .truncated)
      bad := p.bad || bad })
  if rest = [] then s1.copyDone g o ch (4 + ch)
  else s1.opStep g o (some (.fabric ch { f with rows := rest, seen := seen ++ f.seen }))

/-- The 64-byte units of a row that crosses a port (27 R393). -/
def portCharge (rowBytes : Nat) : Nat := 64 * ((rowBytes + 63) / 64)

/-- The port to a remote owner is down (27 R389, R391). -/
def State.portDown (s : State) (owner : Nat) : Bool :=
  !isOwnPeer (owner % 0x8000) && s.io.down.elem (peerPortOf (owner % 0x8000))

/-- The lines that other rows of an operation still write: they stay owned until the last of these rows (23 R357; log 70). -/
def FabOp.shares (f : FabOp) (r : RowLane) (here : Bool) : List Nat :=
  (f.rows.filter (fun q => q != r)).flatMap (fun q =>
    if f.len ≤ q.idx ∨ f.td.rows ≤ q.pos then []
    else if here then (if f.isLocal q.idx then rangeLines (f.rowAt q.idx) f.rowBytes else [])
    else f.td.lines (f.td.runs q.pos 0 f.rowBytes))

/-- Bytes of an operation's row go to their places, and so do the bytes that wait for it: a line that other rows still write
waits for the last of them, and is then written whole and given up (23 R357; log 70). What still waits is the second part. -/
def State.fabWrite (g : SlotRef) (o : Op) (f : FabOp) (r : RowLane) (xs : List (Nat × Byte)) (s : State) : State × SMap Byte :=
  let keep := s.ownLines g (f.shares r f.scatter)
  let waits := fun (p : Nat) => isPhys p && keep.elem (lineOf p)
  let all := xs.foldl (fun m x => SMap.ins m x.1 x.2) f.buffer
  let now := all.filter (fun x => !waits x.1)
  let ls := (placeLines ((now.map Prod.fst).filter isPhys))
  let s1 := (now.foldl (fun t x => t.engineStore g x.1 1 x.2.toNat) s).engineWrote g o s (now.map Prod.fst)
  ((s1.zeroWritten g ls).modGrp g (Group.disown o.id ls), all.filter (fun x => waits x.1))

/-- A row settles: its bytes are written, and its lines that nothing writes any more are given up. -/
def State.fabEnd (g : SlotRef) (o : Op) (ch : Nat) (f : FabOp) (r : RowLane) (e : RowEnd) (bad : Bool) (seen : List Nat)
    (xs : List (Nat × Byte)) (s : State) : State :=
  let w := s.fabWrite g o f r xs
  w.1.fabSettle g o ch { f with buffer := w.2 } r e bad seen

/-- What a row of this part's own export window answers (27 R390, R391): none while a page of it moves, or while a combiner
wave or an engine holds a line of it. -/
def State.loopback (s : State) (f : FabOp) (r : RowLane) : Option (PeerAnswer × List Nat) :=
  let va := f.rowAt r.idx
  match exportWindowOf f.win with
  | none => some (.refused, [])
  | some w =>
    if !inWindow w va f.rowBytes f.scatter then some (.refused, [])
    else if s.asidMoves w.asid va f.rowBytes then none
    else
      match s.peerPlaces w.asid va f.rowBytes with
      | none => some (.refused, [])
      | some (ps, wr) =>
        if f.scatter && !wr then some (.refused, [])
        else if s.placesBusy ps then none
        else some (if f.scatter then .done else .data (ps.map s.byte), ps)

/-- The row's remote owner is this part itself (27 R390). -/
def FabOp.isLoop (f : FabOp) (idx : Nat) : Bool := !f.isLocal idx && isOwnPeer (f.owner idx % 0x8000)

/-- Settle the row at position p of a gather or scatter: a remote owner's answer is an input (27 R392, R393). Of two
scatter lanes that name one row, the lower settles first. -/
def State.fabStep (g : SlotRef) (o : Op) (ch : Nat) (f : FabOp) (p : Nat) (answers : List PeerAnswer) (s : State) : State :=
  match f.rows.find? (fun r => decide (r.pos = p)) with
  | none => s
  | some r =>
    let n := f.rowBytes
    let rs := f.td.runs r.pos 0 n
    let here := f.rowAt r.idx
    let k := s.task (s.grp g).task
    let tdLines := f.td.lines rs
    if s.ownedBefore o then s
    else if f.len ≤ r.idx then s.fabEnd g o ch f r .masked false [] []
    else if f.td.rows ≤ r.pos then s.fabEnd g o ch f r .truncated false [] []
    else if f.scatter ∧ f.rows.any (fun q => decide (q.idx = r.idx) && decide (q.pos < r.pos)) then s
    else
      match s.runsNow g f.td (!f.scatter) rs with
      | .removed va => (s.copyEnd g o ch).removedEnd g o va
      | .migrating _ => s
      | _ =>
        if f.isLocal r.idx then
          if badRange here n ∨ !k.leased here.toNat n then
            (s.copyEnd g o ch).endTask (s.grp g).task causeLease 0 here (s.handle g) o.clause o.idx
          else if f.scatter ∧ !k.writable here.toNat n then s.fabEnd g o ch f r .masked true [] []
          else
            match s.checkRange g here n f.scatter with
            | .removed va => (s.copyEnd g o ch).removedEnd g o va
            | .migrating _ => s
            | _ =>
              let ls := rangeLines here n
              let rd := if f.scatter then tdLines else ls
              let wr := if f.scatter then ls else tdLines
              let from_ := if f.scatter then s.runPlaces g f.td rs else s.rangePlaces g here n
              let s1 := ((s.chargeSeen g f.seen 0 rd).chargeSeen g f.seen 1 wr).recallRead g false from_
              let bs :=
                if f.scatter then (s.seenBy (copyReader g o)).readRuns g f.td rs
                else (s.seenBy (copyReader g o)).vbytes g here n
              let ps := if f.scatter then s.rangePlaces g here n else s.runPlaces g f.td rs
              s1.drawRead.fabEnd g o ch f r .moved false (newLines f.seen 0 rd ++ newLines f.seen 1 wr) (ps.zip bs)
        else
          let loop := if f.isLoop r.idx then s.loopback f r else none
          match if f.isLoop r.idx then loop.map Prod.fst else if s.portDown (f.owner r.idx) then some PeerAnswer.refused
            else answers.head? with
          | some .refused => s.fabEnd g o ch f r .masked true [] []
          | some (.data bs) =>
            if f.scatter ∨ bs.length ≠ n then s
            else
              let s1 := if f.isLoop r.idx then s.recallPlaces none ((loop.map Prod.snd).getD []) else s
              ((s1.chargeAt g 0 (portCharge n)).chargeSeen g f.seen 1 tdLines).fabEnd g o ch f r .moved false
                (newLines f.seen 1 tdLines) ((s.runPlaces g f.td rs).zip bs)
          | some .done =>
            if let some obj := s.waveObj g then s.abortWave obj 0x14
            else if f.scatter then
              let bs := (s.seenBy (copyReader g o)).readRuns g f.td rs
              let s1 := (if f.isLoop r.idx then s.writePlaces ((loop.map Prod.snd).getD []) bs else s).recallRead g false
                (s.runPlaces g f.td rs)
              ((s1.drawRead.chargeAt g 0 (portCharge n)).chargeSeen g f.seen 0 tdLines).fabEnd g o ch f r .moved false
                (newLines f.seen 0 tdLines) []
            else s
          | none => s

/-- COPY_COMPLETE (12 R234): the copy at the head of its channel goes on by n bytes or n positions, a gather or scatter
by the row at position n; the last one completes it. -/
def execCopyComplete (g : SlotRef) (op n : Nat) (answers : List PeerAnswer) (s : State) : Host.Outcome State Fault Refusal :=
  .next (
    match (s.grp g).findOp op with
    | none => s
    | some o =>
      match o.kind with
      | .cpy ch src dst len => if s.copyHead g ch op && !s.behindAcquire g o then s.cpyStep g o ch src dst len n else s
      | .blkcpy ch b => if s.copyHead g ch op && !s.behindAcquire g o then s.blkStep g o ch b n else s
      | .fabric ch f => if s.copyHead g ch op && !s.behindAcquire g o then s.fabStep g o ch f n answers else s
      | _ => s)

/-! ## CPYWP (12 R237) -/

/-- The progress word. -/
def CopyProg.word (p : CopyProg) : Nat :=
  p.lmask.toNat * 2 ^ 32 + (if p.done then 2 ^ 31 else 0) + (if p.blk then 2 ^ 30 else 0) + (if p.trunc then 2 ^ 29 else 0) +
    (if p.bad then 2 ^ 28 else 0) + p.progress % 2 ^ 28

/-- CPYWP: the word is sampled at issue. -/
def execCpywp (c d : Nat) (s : State) : Host.Outcome State Fault Refusal :=
  let k := s.cap c
  let key := if k.kind = kindGather then 4 + k.ch else k.ch
  let p := s.me.copies.look key
  let w := (p.map CopyProg.word).getD 0
  .next (guarded [(s.full s.flagB, State.illegal 4 5)]
    (withCap c [kindCopy, kindBlock, kindGather] (State.issueA 1 (.cpywp d (BitVec.ofNat 64 w) (p.map CopyProg.op)))) s)

/-- The result of a CPYWP has been written: once its flag has been waited for, the slot reads what the copy had written at
the sample, and all of the copy once it has completed (12 R238). -/
def State.showCopy (g : SlotRef) (o : Op) (copy : Option Nat) (s : State) : State :=
  match copy, o.flag with
  | some op, some f =>
    let done := !(s.grp g).ops.any (fun p => p.id = op)
    (s.signalCopy g op (if done then s.serial else o.id) [f]).modGrp g (fun h =>
      { h with copies := h.copies.map (fun e =>
          if e.2.op = op then (e.1, { e.2 with flags := f :: e.2.flags }) else e) })
  | _, _ => s

/-- CPYWP_RESULT: s[d] is written and the flag clears. -/
def execCpywpResult (g : SlotRef) (op : Nat) (s : State) : Host.Outcome State Fault Refusal :=
  .next (
    match (s.grp g).findOp op with
    | none => s
    | some o =>
      match o.kind with
      | .cpywp d w copy => ((s.modCtxAt ⟨g, o.ctx⟩ (Context.setS d w)).showCopy g o copy).opStep g o none
      | _ => s)

end Sys2Proof.Machine
end

