-- ==== Sys2Proof/Machine/Qmv.lean ====
section
/-! DEFINITION. QMV, QMVA and QMVB (11 R223-R226). -/

namespace Sys2Proof.Machine

/-- Bytes of a weight: FP32, or BF16 for QMVB. -/
def QmvOp.wsize (q : QmvOp) : Nat := if q.form = 2 then 2 else 4

/-- Weight (j, i) of the matrix in a core's constant store; 0 where the grid does not own it (11 R223). -/
def State.weight (s : State) (c : CoreRef) (own : Bool) (q : QmvOp) (j i_ : Nat) : FVal :=
  let x := if own then s.readN (constLoc c (q.off + q.wsize * (j * q.nin + i_))) q.wsize else 0
  if q.form = 2 then fmtB16.val x else fmt32.val x

/-- Output j of a lane: the FMA chain, with its events (11 R224). -/
def State.qmvOut (s : State) (c : CoreRef) (own : Bool) (q : QmvOp) (l j : Nat) : FRes :=
  let t0 : Nat := if q.form = 1 then (q.src.get 0 (laneKey (q.d + j) l)).toNat else 0x80000000
  (List.range q.nin).foldl (fun (t : FRes) i_ =>
    let r := fmt32.fma 0 (s.weight c own q j i_) (fmt32.val (q.src.get 0 (laneKey (q.a + i_) l)).toNat)
      (some (fmt32.val t.bits))
    ⟨r.bits, t.ev ||| r.ev⟩) ⟨t0, 0⟩

/-- All outputs of a lane. -/
def State.qmvLane (s : State) (g : SlotRef) (q : QmvOp) (l : Nat) : List FRes :=
  let own := s.ownsConst g.coreRef (s.grp g).task
  (List.range q.nout).map (s.qmvOut g.coreRef own q l)

/-- The words and the union of the events of a lane's outputs. -/
def qmvRes (rs : List FRes) : LaneRes := ⟨rs.map (fun r => BitVec.ofNat 32 r.bits), rs.foldl (fun e r => e ||| r.ev) 0⟩

/-- The lanes of a quarter that compute. -/
def QmvOp.laneIn (q : QmvOp) (k : Nat) : List Nat := (lanesOf q.lanes).filter (fun l => decide (l / 8 = k))

/-- The operation of an instruction, with its sources read (02 R28). -/
def State.qmvOp (s : State) (code form vd va off nin nout : Nat) : QmvOp :=
  let regs := (List.range nin).map (fun i_ => va + i_) ++ (if form = 1 then (List.range nout).map (fun j => vd + j) else [])
  let src : SMap Word := regs.foldl (fun m r => (lanesOf s.active).foldl (fun m l => m.put 0 (laneKey r l) (s.v r l)) m)
    (SMap.table 0 0 0 (fun _ => 0))
  ⟨nin, nout, vd, va, off, form, s.active, (List.range 4).filter (fun k => (lanesOf s.active).any (fun l => decide (l / 8 = k))),
    src, s.me.trapnf, code, [], []⟩

/-- A QMV-family instruction (11 R223-R226); a misaligned offset traps before one out of range (log 114). -/
def qmvIssue (code form c d b ni no : Nat) (s : State) : State :=
  let vd := 4 * c
  let va := 4 * d
  let nin := 4 * (ni + 1)
  let nout := 4 * (no + 1)
  let off := s.sreg b
  let size := if form = 2 then 2 else 4
  guarded
    [(!s.vAll [⟨vd, nout, 4⟩, ⟨va, nin, 4⟩], State.illegal 4 3), (s.full s.flagA, State.illegal 4 5),
     (decide (off.toNat % 4 ≠ 0), State.misTrap 1 off),
     (decide (Config.constBytes < off.toNat + size * nin * nout), State.addrTrap 1 off)]
    (fun s =>
      ((s.charge 2).issueOp (s.mkOp s.flagA 0 (.qmv (s.qmvOp code form vd va off.toNat nin nout)))).advance 4) s

def execQmv (c d b ni no : Nat) (s : State) : Host.Outcome State Fault Refusal := .next (qmvIssue 8 0 c d b ni no s)
def execQmva (c d b ni no : Nat) (s : State) : Host.Outcome State Fault Refusal := .next (qmvIssue 9 1 c d b ni no s)
def execQmvb (c d b ni no : Nat) (s : State) : Host.Outcome State Fault Refusal := .next (qmvIssue 10 2 c d b ni no s)

/-- The outstanding QMV operation of a part of a pass. -/
def State.qmvPart (s : State) (p : QmvPart) : Option (Op × QmvOp) :=
  ((s.grp p.r.g).findOp p.r.op).bind (fun o =>
    match o.kind with
    | .qmv q => if !o.gate ∧ p.quarters.all (fun k => q.quarters.elem k) then some (o, q) else none
    | _ => none)

/-- Two parts of a pass fit: the same unit, offset, sizes and weight format (11 R225). -/
def fuses (a b : QmvPart × QmvOp) : Bool :=
  decide (a.1.r.g.coreRef = b.1.r.g.coreRef) && decide (a.1.r.g.partition = b.1.r.g.partition) &&
    decide (a.2.off = b.2.off) && decide (a.2.nin = b.2.nin) && decide (a.2.nout = b.2.nout) &&
    decide (a.2.wsize = b.2.wsize)

/-- What a quarter computes is kept until the instruction's last quarter has computed (11 R226). -/
def QmvOp.keep (q : QmvOp) (lanes : List Nat) (res : Nat → List FRes) : QmvOp :=
  lanes.foldl (fun q l =>
    { q with
      out := (List.range q.nout).foldl (fun m j => m.put 0 (32 * j + l) (BitVec.ofNat 32 ((res l).getD j ⟨0, 0⟩).bits)) q.out
      ev := (List.range q.nout).foldl (fun m j => m.put 0 (32 * j + l) ((res l).getD j ⟨0, 0⟩).ev.toNat) q.ev }) q

/-- The words that have been computed for a lane. -/
def QmvOp.words (q : QmvOp) (l : Nat) : List Word := (List.range q.nout).map (fun j => q.out.get 0 (32 * j + l))

/-- The events of an output of a lane. -/
def QmvOp.evOf (q : QmvOp) (l j : Nat) : Ev := BitVec.ofNat 6 (q.ev.get 0 (32 * j + l))

/-- The events of a lane: the union over its outputs (11 R224). -/
def QmvOp.laneEv (q : QmvOp) (l : Nat) : Ev := (List.range q.nout).foldl (fun e j => e ||| q.evOf l j) 0

/-- The trapping lanes, with x[0] and the first output whose chain raised the reported class (11 R226). -/
def QmvOp.traps (q : QmvOp) : List LaneTrap :=
  (lanesOf q.lanes).filterMap (fun l =>
    (nfClass q.trapnf (q.laneEv l)).map (fun k =>
      ⟨l, causeNonfinite, k, q.src.get 0 (laneKey q.a l),
        BitVec.ofNat 32 ((List.range q.nout).findIdx (fun j => (q.evOf l j).getLsbD k)), false, none, false⟩))

/-- All quarters of an instruction that may trap have computed: it writes its results, or it is held for its trapping lanes
(11 R226, 07 R128). -/
def State.qmvEnd (g : SlotRef) (o : Op) (q : QmvOp) (s : State) : State :=
  if (s.grp g).ended ∨ q.traps = [] then
    (s.modGrp g (fun h => (lanesOf q.lanes).foldl (fun h l => (h.setWords q.d l (q.words l)).raiseEv (q.laneEv l)) h)).opStep g o none
  else
    let o1 : Op := { o with kind := .qmv { q with quarters := [], trapnf := 0 }, gate := true }
    let s1 : State :=
      { s.modGrp g (fun h => { h with ops := h.ops.map (fun x => if x.id = o.id then o1 else x) }) with cur := ⟨g, o.ctx⟩ }
    let h : Held :=
      { heldMem s1 q.traps q.d q.nout q.code o1 with
        active := q.lanes
        results := q.out
        events := (lanesOf q.lanes).foldl (fun m l => m.put 0 l (q.laneEv l).toNat) []
        cls := 5
        pc := o.pc
        clause := o.clause
        idx := o.idx }
    { s1.holdLanes h with cur := s.cur }

/-- Quarters of one operation are computed, and written unless the instruction may trap. -/
def State.qmvRun (s : State) (p : QmvPart) : State :=
  match s.qmvPart p with
  | none => s
  | some (o, q) =>
    let g := p.r.g
    let lanes := (q.quarters.filter (fun k => p.quarters.elem k)).flatMap q.laneIn
    let left := q.quarters.filter (fun k => !p.quarters.elem k)
    if q.trapnf ≠ 0 then
      let q1 : QmvOp := { q.keep lanes (s.qmvLane g q) with quarters := left }
      if left = [] then s.qmvEnd g o q1 else s.opStep g o (some (.qmv q1))
    else
      (s.modGrp g (fun h =>
        lanes.foldl (fun h l =>
          let r := qmvRes (s.qmvLane g q l)
          (h.setWords q.d l r.words).raiseEv r.ev) h)).opStep g o
        (if left = [] then none else some (.qmv { q with quarters := left }))

/-- QMV_QUARTER_COMPLETE (11 R225): one pass of a unit; source 20 counts a pass of two or more quarters. -/
def execQmvQuarterComplete (parts : List QmvPart) (s : State) : Host.Outcome State Fault Refusal :=
  let qs := parts.filterMap (fun p => (s.qmvPart p).map (fun x => (p, x.2)))
  let n := (qs.map (fun x => x.1.quarters.eraseDups.length)).foldl (· + ·) 0
  .next (
    match qs with
    | [] => s
    | x :: r =>
      if qs.length ≠ parts.length ∨ !(r.all (fuses x)) ∨ !(decide (parts.map QmvPart.r).Nodup) then s
      else
        let s1 := parts.foldl State.qmvRun s
        if 2 ≤ n then s1.count x.1.r.g.coreRef 20 1 else s1)

end Sys2Proof.Machine
end

