-- ==== Sys2Proof/Machine/Reorder.lean ====
section
/-! DEFINITION. REORDER and its collective (14 R250-R261). -/

namespace Sys2Proof.Machine

/-! ## Issue and arrival (14 R251, R252) -/

/-- A context stops at a REORDER, whose operation is outstanding on SETB (02 R24, 14 R250). -/
def Group.atReorder (i_ : Nat) (a : ReorderArgs) (g : Group) : Group :=
  (g.raiseFlag (flagOf (g.ctx i_).setB)).modCtx i_ (fun x => { x with stop := .reorder a false })

/-- A REORDER at which a context stands is given up: its operation no longer counts. -/
def Group.leaveReorder (i_ : Nat) (g : Group) : Group :=
  match (g.ctx i_).stop with
  | .reorder _ _ => (g.clearFlag (flagOf (g.ctx i_).setB)).modCtx i_ (fun x => { x with stop := .running })
  | _ => g

/-- A trap at the REORDER where a context stands; RETT resumes at it (14 R261). -/
def State.reorderTrap (c : CtxId) (cause info : Nat) (s : State) : State :=
  let x := (s.grp c.g).ctx c.i
  (s.modGrp c.g (Group.leaveReorder c.i)).deliver c
    ⟨cause, BitVec.ofNat 64 info, 0, x.pc, x.clause, x.idx, false, false⟩

/-- The context of a group that has arrived, with its operands. -/
def Group.arrival (g : Group) : Option (Nat × ReorderArgs) :=
  match g.ctxs with
  | [(i_, c)] =>
    match c.stop with
    | .reorder a true => some (i_, a)
    | _ => none
  | _ => none

/-- The group a place of a team holds, with its live lanes: a member while it holds one (14 R252). -/
def State.memberGroup (s : State) (p : Place) : Option Group :=
  match p with
  | .at g => if (s.grp g).live = 0 ∨ (s.grp g).ended then none else some (s.grp g)
  | .image im _ => if im.live = 0 then none else some im
  | .retired => none

/-- The members of a team's collective, ascending by group index. -/
def State.members (s : State) (t : Nat) : List (Nat × Group) :=
  (s.team t).slots.filterMap (fun e => (s.memberGroup e.2).map (fun g => (e.1, g)))

/-- The barriers of a team whose word has arrived ≠ 0, as a mask. -/
def State.arrivedBars (s : State) (t : Nat) : Nat :=
  ((List.range (s.team t).barriers).filter (fun k => decide ((s.barWord t k).arrived ≠ 0))).foldl (fun x k => x + 2 ^ k) 0

/-- An arrived image loses its arrival: it meets the trap at its REORDER when it issues again. -/
def Group.loseArrival (t : Trap) (g : Group) : Group :=
  let h := g.ctxs.keys.foldl (fun h i => h.leaveReorder i) g
  { h with engineErrs := h.engineErrs ++ [t] }

/-- Every arrived group of a team loses its arrival with a trap (14 R251, R253). -/
def State.cancelArrivals (t cause info : Nat) (s : State) : State :=
  s.syncAway ((s.team t).slots.foldl (fun s e =>
    match e.2 with
    | .at g =>
      match (s.grp g).arrival with
      | some (i_, _) => s.reorderTrap ⟨g, i_⟩ cause info
      | none => s
    | .image im at_ =>
      if im.arrival.isSome then
        let im1 := im.loseArrival ⟨cause, BitVec.ofNat 64 info, 0, 0, 0, 0, false, false⟩
        s.modTeam t (fun m => { m with slots := m.slots.ins e.1 (Place.image im1 at_) })
      else s
    | .retired => s) s)

/-- The slots of a team's members. -/
def State.memberSlots (s : State) (t : Nat) : List SlotRef :=
  (s.team t).slots.filterMap (fun e =>
    match e.2 with
    | .at g => if (s.grp g).live = 0 ∨ (s.grp g).ended then none else some g
    | _ => none)

/-- The live lanes of a group that has arrived. -/
def Group.threadLanes (g : Group) : List Nat := lanesOf g.live

/-- Threads of a collective. -/
def State.threadCount (s : State) (t : Nat) : Nat := ((s.members t).map (fun e => e.2.threadLanes.length)).foldl (· + ·) 0

/-- Madder bytes in use in a cluster (14 R258). -/
def State.madderUsed (s : State) (key : Nat) : Nat :=
  (s.teams.map (fun e =>
    if (e.2.cores.head?.map (fun c => c.die * 8 + c.cluster)) = some key then e.2.madder else 0)).foldl (· + ·) 0

/-- The cluster of a team. -/
def Team.clusterOf (m : Team) : Nat := ((m.cores.head?).map (fun c => c.die * 8 + c.cluster)).getD 0

/-- Bytes of an entry with a payload of n words (14 R258). -/
def entryBytes (n : Nat) : Nat := 8 + 4 * n

/-- The fields in which members differ from the first (14 R253). -/
def misMask (as : List ReorderArgs) : Nat :=
  match as with
  | [] => 0
  | a :: r =>
    (if r.any (fun b => decide (b.p ≠ a.p)) then 1 else 0) + (if r.any (fun b => decide (b.n ≠ a.n)) then 2 else 0) +
      (if r.any (fun b => decide (b.align ≠ a.align)) then 4 else 0)

/-- A thread on its way through the Madder. -/
structure Thread where
  key : Nat
  tid : Nat
  tt : Word
  pay : List Word
  origin : Nat
deriving DecidableEq, Repr

/-- A thread's TID (05 R83). -/
def Team.tid (m : Team) (tt : Nat) : Nat := (m.teamId * 32 * m.groups + tt) % 2 ^ 32

/-- The threads of a member. -/
def State.threadsOf (s : State) (t : Nat) (e : Nat × Group) : List Thread :=
  let g := e.2
  match g.arrival with
  | none => []
  | some (_, a) =>
    g.threadLanes.map (fun l =>
      ⟨(g.vreg a.k l).toNat % 65536, (s.team t).tid (g.teamThread.get 0 l).toNat, g.teamThread.get 0 l,
        (List.range a.n).map (fun j => g.vreg (a.p + j) l), 32 * e.1 + l⟩)

/-- A spilled entry: TID, key, where the thread was, payload (14 R258; log 78). -/
def Thread.cells (a : Nat) (x : Thread) : List ImageCell :=
  [⟨a, 4, x.tid⟩, ⟨a + 4, 2, x.key⟩, ⟨a + 6, 2, x.origin⟩] ++ x.pay.zipIdx.map (fun y => ⟨a + 8 + 4 * y.2, 4, y.1.toNat⟩)

/-- The threads of a collective beyond its quota, the last in order of group and lane, spill (14 R258; log 32). -/
def State.spilled (s : State) (t : Nat) : List Thread :=
  ((s.members t).flatMap (s.threadsOf t)).drop (s.task (s.team t).task).l.quota

/-- The spill of a collective (14 R258): its entries are written to the team's spill region, counted on the cores that held the
threads, and charged with their reading back. -/
def State.chargeSpill (t n : Nat) (s : State) : State :=
  let xs := s.spilled t
  let lines := (xs.length * entryBytes n + 63) / 64
  match s.memberSlots t, xs with
  | [], _ => s
  | _, [] => s
  | g :: _, _ =>
    let held := (s.memberSlots t).flatMap (fun g => (s.grp g).threadLanes.map (fun _ => g.coreRef))
    let s1 :=
      match s.blockAddr (teamBlock t) with
      | some a => s.writeCells (xs.zipIdx.flatMap (fun (x : Thread × Nat) => x.1.cells (a + 0x1100 + entryBytes n * x.2)))
      | none => s
    (held.drop (s.task (s.team t).task).l.quota).foldl (fun s c => s.count c 15 1) (s1.chargeAt g 0 (128 * (lines : Int)))

/-- The payload words of a team's collective, as its first member gives them. -/
def State.collectiveWords (s : State) (t : Nat) : Nat :=
  (((s.members t).filterMap (fun e => e.2.arrival.map (fun x => x.2))).head?.map ReorderArgs.n).getD 0

/-- The Madder bytes that a team's collective takes (14 R258). -/
def State.madderNeed (s : State) (t : Nat) : Nat :=
  min (s.threadCount t) (s.task (s.team t).task).l.quota * entryBytes (s.collectiveWords t)

/-- Every member of a team has arrived and is resident (14 R252). -/
def State.collectiveReady (s : State) (t : Nat) : Bool :=
  let ms := s.members t
  !(s.team t).reordering && !ms.isEmpty && ms.all (fun e => e.2.arrival.isSome) &&
    decide ((s.memberSlots t).length = ms.length)

/-- A ready collective may take its room in the Madder: none of its cluster that has been ready for longer waits (14 R258). -/
def State.madderTurn (s : State) (t : Nat) : Bool :=
  let since := fun (u : Nat) => (s.team u).ready.getD s.tick
  decide (s.madderUsed (s.team t).clusterOf + s.madderNeed t ≤ 524288) &&
    s.teams.keys.all (fun u =>
      decide (u = t) || decide ((s.team u).clusterOf ≠ (s.team t).clusterOf) || (s.team u).yieldPending || !s.collectiveReady u ||
        decide (since t ≤ since u))

/-- The cycle since which each team's collective has been ready (14 R258). -/
def State.markReady (s : State) : State :=
  { s with teams := s.teams.map (fun e =>
      (e.1, { e.2 with ready := if s.collectiveReady e.1 ∧ !e.2.yieldPending then some (e.2.ready.getD s.tick) else none })) }

/-- The collective of a team starts where every member has arrived and is resident and the Madder has room; its fields
are compared (14 R252, R253, R258). -/
def State.startCollective (t : Nat) (s : State) : State :=
  let as := (s.members t).filterMap (fun e => e.2.arrival.map (fun x => x.2))
  if !s.collectiveReady t ∨ !s.madderTurn t then s
  else if misMask as ≠ 0 then s.cancelArrivals t causeRmis (misMask as)
  else
    (s.modTeam t (fun m =>
      { m with reordering := true, madder := s.madderNeed t, ready := none, collectives := m.collectives + 1 })).chargeSpill t
      (s.collectiveWords t)

/-- The arrival of the context at hand once its group has drained (14 R251, R252): pending deliveries, check 4, the
charge. With the last arrival the collective starts, even where the arrival's own charge makes the team yield-pending
(14 R260). -/
def State.arriveReorder (a : ReorderArgs) (s : State) : State :=
  if !s.me.drained s.cur.i false then s
  else
    let c := s.cur
    let t := s.me.team
    let s0 := s.modMe (Group.leaveReorder c.i)
    s0.atDrain (fun _ =>
      let bars := s.arrivedBars t
      if bars ≠ 0 then (s.reorderTrap c causeRbar bars).cancelArrivals t causeRbar bars
      else
        let wait := s.myTeam.yieldPending
        let s1 := (s.charge 32).modCtx (fun x => { x with stop := .reorder a true, lastIssue := s.tick + 1 })
        if wait then s1 else s1.startCollective t)

/-- REORDER (14 R250, R251). -/
def execReorder (align : Bool) (d k p n : Nat) (s : State) : Host.Outcome State Fault Refusal :=
  let a : ReorderArgs := ⟨k, p, n + 1, d, align⟩
  .next (guarded
    [(!s.vAll [⟨k, 1, 1⟩, ⟨p, n + 1, 1⟩], State.illegal 4 3), (s.full s.flagB, State.illegal 4 5),
     (decide (s.me.kind ≠ .group) || s.inHandler, fun s => s.raise 4 causePriv 0 0),
     (decide (s.me.ctxs.length ≠ 1) || !s.me.records.isEmpty, fun s =>
       s.reorderTrap s.cur causeRfrag (s.me.records.length * 256 + s.me.ctxs.length))]
    (fun s => (s.modMe (Group.atReorder s.cur.i a)).arriveReorder a) s)

/-- REORDER_ARRIVE (14 R251): the drain has ended. -/
def execReorderArrive (c : CtxId) (s : State) : Host.Outcome State Fault Refusal :=
  .next (
    match ((s.grp c.g).ctx c.i).stop with
    | .reorder a false => ({ s with cur := c } : State).arriveReorder a
    | _ => s)

/-- REORDER_COLLECTIVE_START (14 R252-R254): a yield-pending team's collective waits for budget (14 R260). -/
def execReorderCollectiveStart (t : Nat) (s : State) : Host.Outcome State Fault Refusal :=
  .next (if (s.team t).yieldPending then s else s.startCollective t)

/-! ## The sort and the refill (14 R254) -/

/-- Insert by (key, TID). -/
def insThread (x : Thread) : List Thread → List Thread
  | [] => [x]
  | y :: r => if x.key < y.key ∨ (x.key = y.key ∧ x.tid < y.tid) then x :: y :: r else y :: insThread x r

/-- The threads in order of (key, TID). -/
def sortThreads (xs : List Thread) : List Thread := xs.foldl (fun l x => insThread x l) []

/-- Where the refill stands: the member at hand, the lanes filled in it, the last key, and the groups filled. -/
structure Fill where
  g : Nat
  f : Nat
  last : Nat
  out : List (Nat × Nat × Thread)
deriving DecidableEq, Repr

/-- Place the sorted threads in lanes of `members` groups: member, lane, thread (14 R254). -/
def refill (align : Bool) (members : Nat) (x : Fill) : List Thread → Fill
  | [] => x
  | t :: r =>
    let left := r.length + 1
    let y : Fill :=
      if align ∧ 0 < x.f ∧ t.key ≠ x.last ∧ left ≤ 32 * (members - x.g - 1) then { x with g := x.g + 1, f := 0 } else x
    let z : Fill := { y with f := y.f + 1, last := t.key, out := y.out ++ [(y.g, y.f, t)] }
    refill align members (if z.f = 32 then { z with g := z.g + 1, f := 0 } else z) r

/-- A member's state with the threads it received, by lane (14 R255, R257); what a lane without one gets is 0 (log 141). -/
def Group.reordered (i_ : Nat) (a : ReorderArgs) (ts : List Thread) (g : Group) : Group :=
  let n := ts.length
  let at_ := fun (l : Nat) => ts.getD l ⟨0, 0, 0, [], 0⟩
  let k0 := (at_ 0).key
  let one := decide (ts.all (fun t => decide (t.key = k0)))
  let mask := maskOf (fun l => decide (l < n))
  let v0 : SMap Word := []
  { g with
    v := (List.range n).foldl (fun m l =>
      (List.range a.n).foldl (fun m j => m.put 0 (laneKey (a.p + j) l) ((at_ l).pay.getD j 0)) m) v0
    o := []
    q := []
    p := []
    teamThread := SMap.table n 0 0 (fun l => (at_ l).tt)
    keys := SMap.table n 0 0 (fun l => BitVec.ofNat 32 (at_ l).key)
    origin := SMap.table n 0 0 (fun l => BitVec.ofNat 32 (at_ l).origin)
    flags := []
    pages := []
    ctxs := g.ctxs.map (fun e =>
      if e.1 = i_ then
        let c := { e.2 with p0 := mask, stop := .running }
        let r := if a.d = 0 then c else
          ((c.setS a.d (BitVec.ofNat 64 k0)).setS (a.d + 1) (if one then 1 else 0)).setS (a.d + 2) (BitVec.ofNat 64 n)
        (e.1, r.advance 4 false)
      else e) }

/-- Under a pending yield, a REORDER whose collective was in progress counts as one instruction toward GRACE (14 R260). -/
def Group.reorderGrace (m : Team) (g : Group) : Group :=
  if m.yieldPending then
    { g with graceCount := g.graceCount + 1, graceDue := g.graceDue || decide (m.grace ≤ g.graceCount + 1) }
  else g

/-- REORDER_COLLECTIVE_COMPLETE (14 R254-R257): every thread is in its new lane; a member without threads retires. -/
def execReorderCollectiveComplete (t : Nat) (s : State) : Host.Outcome State Fault Refusal :=
  let ms := s.members t
  let align := ((ms.filterMap (fun e => e.2.arrival.map (fun x => x.2))).head?.map ReorderArgs.align).getD false
  let out := (refill align ms.length ⟨0, 0, 0, []⟩ (sortThreads (ms.flatMap (s.threadsOf t)))).out
  .next (
    if !(s.team t).reordering then s
    else
      let s1 := (s.joinSlots (s.memberSlots t)).modTeam t (fun m => { m with reordering := false, madder := 0 })
      (s.memberSlots t).zipIdx.foldl (fun s x =>
        let ts := (out.filter (fun y => decide (y.1 = x.2))).map (fun y => y.2.2)
        match (s.grp x.1).arrival with
        | none => s
        | some (i_, a) => if ts = [] then s.retireGroup x.1 else s.modGrp x.1 (fun g =>
            (g.reordered i_ a ts).reorderGrace (s.team t))) s1)

/-! ## Errors (14 R259) -/

/-- MADDER_UNCORRECTABLE: the team's task ends before any member's state changes. -/
def execMadderUncorrectable (t : Nat) (s : State) : Host.Outcome State Fault Refusal :=
  .next (if (s.team t).reordering then
      s.endTask (s.team t).task causeDfault 0x12 0 0 0 0
    else s)

/-- ENGINE_STORAGE_UNCORRECTABLE (11 R227): the task of the team that holds the slot ends; the slot's holder is named by
the record's handle. -/
def execEngineStorageUncorrectable (core : CoreRef) (acc : Bool) (slot : Nat) (s : State) :
    Host.Outcome State Fault Refusal :=
  .next (
    match ((s.core core).slotTeams acc).look slot with
    | none => s
    | some t =>
      if 2 ^ 64 ≤ t then
        s.endTask (s.grp (slotOfKey (t - 2 ^ 64))).task causeDfault 0x10 0 (s.handle (slotOfKey (t - 2 ^ 64))) 0 0
      else s.endTask (s.team t).task causeDfault 0x10 0 (handleOf ⟨core.die, core.core, 0⟩ 0) 0 0)

end Sys2Proof.Machine
end

