-- ==== Sys2Proof/Machine/Channels.lean ====
section
/-! DEFINITION. Word channels between parts: CHSEND and CHRECV, and the state of the fabric ports (27 R389, R396). -/

namespace Sys2Proof.Machine

/-! ## Ports and buffers -/

/-- The port to a remote peer is down (27 R389). -/
def State.peerDown (s : State) (peer : Nat) : Bool := !isOwnPeer peer && s.io.down.elem (peerPortOf peer)

/-- The buffer of a channel: by the peer it is shared with, this part under 4,095 (27 R390; log 119), and its number. -/
def Cap.chanKey (c : Cap) : Nat := 256 * (if isOwnPeer c.peer then 4095 else c.peer) + c.chan

/-- The messages a buffer holds. -/
def State.buffer (s : State) (key : Nat) : List ChanMsg := s.channels.get [] key

/-- A message enters a buffer. -/
def State.putMsg (key : Nat) (m : ChanMsg) (s : State) : State :=
  { s with channels := s.channels.put [] key (s.buffer key ++ [m]) }

/-- The oldest message leaves a buffer. -/
def State.dropMsg (key : Nat) (s : State) : State := { s with channels := s.channels.put [] key ((s.buffer key).drop 1) }

/-- The capability of a task that an operation names. -/
def Task.cap (k : Task) (c : Nat) : Cap := k.caps.get ⟨0, 0, 0, [], 0, 0⟩ c

/-! ## Issue -/

/-- The checks of both instructions: registers, flag, capability, direction (27 R396). -/
def chanChecked (dir c d n : Nat) (eff : Act) (s : State) : State :=
  guarded [(!s.vAll [⟨d, n, 1⟩], State.illegal 4 3), (s.full s.flagB, State.illegal 4 5)]
    (withCap c [kindChannel] (guarded [(decide ((s.cap c).dir ≠ dir), State.capTrap 2)] eff)) s

/-- The charge of a message (27 R396). -/
def messageBytes : Int := 192

/-- Issue CHSEND or CHRECV: charged once for its message. -/
def chanIssue (obs : BitVec 7) (k : OpKind) (s : State) : State :=
  (((s.charge 1).chargeAt s.cur.g 0 messageBytes).issueOp (s.mkOp s.flagB obs k)).advance 4

/-- CHSEND: one word from each active lane, and the mask of active lanes. -/
def execChsend (c d : Nat) (s : State) : Host.Outcome State Fault Refusal :=
  .next (chanChecked 0 c d 1 (fun s =>
    chanIssue (s.obsSet 5) (.chsend c ((List.range 32).map (fun l => s.v d l)) s.active) s) s)

/-- CHRECV: the lanes active at the receiver take part. -/
def execChrecv (c d : Nat) (s : State) : Host.Outcome State Fault Refusal :=
  .next (chanChecked 1 c d 2 (fun s => chanIssue 0 (.chrecv c d s.active) s) s)

/-! ## Acceptance and delivery -/

/-- A message of this group waits to be accepted on a channel, issued before operation n. -/
def State.sendsBefore (s : State) (key n : Nat) (g : Group) : Bool :=
  g.ops.any (fun o =>
    match o.kind with
    | .chsend c _ _ => decide (o.id < n) && decide (((s.task g.task).cap c).chanKey = key)
    | _ => false)

/-- The images of evicted groups. -/
def State.images (s : State) : List Group :=
  s.teams.vals.flatMap (fun m => m.slots.vals.filterMap (fun p =>
    match p with
    | .image g _ => some g
    | _ => none))

/-- Messages arrive in send order: none that was sent before waits (27 R396). -/
def State.sendTurn (s : State) (key n : Nat) : Bool :=
  !(s.groups.vals.any (s.sendsBefore key n)) && !(s.images.any (s.sendsBefore key n))

/-- A message whose peer's port is down sets the flag's error status (27 R396). -/
def Group.failSend (o : Op) (g : Group) : Group :=
  if o.flag = none then g.finishOp o
  else g.failOp o ⟨causeCap, 5, 0, o.pc, o.clause, o.idx, false, false⟩

/-- A CHSEND is accepted, or fails; `put` changes the group that holds it. -/
def State.sendOn (s : State) (task : Nat) (o : Op) (ready : Bool) (put : (Group → Group) → State → State) : State :=
  match o.kind with
  | .chsend c ws lanes =>
    let k := (s.task task).cap c
    if s.peerDown k.peer then put (Group.failSend o) s
    else if !ready ∨ !s.sendTurn k.chanKey o.id then s
    else if isOwnPeer k.peer then
      if (s.buffer k.chanKey).length < k.depth then put (Group.finishOp o) (s.putMsg k.chanKey ⟨ws, lanes⟩) else s
    else put (Group.finishOp o) s
  | _ => s

/-- An operation that the save of an evicted group carries (02 R27): its team, its group's index and image, and the operation. -/
structure Carried where
  team : Nat
  gi : Nat
  group : Group
  op : Op
deriving DecidableEq, Repr

/-- The carried operation of a number. -/
def State.carried (s : State) (op : Nat) : Option Carried :=
  s.teams.findSome? (fun e => e.2.slots.findSome? (fun x =>
    match x.2 with
    | .image h _ => (h.findOp op).map (fun o => (⟨e.1, x.1, h, o⟩ : Carried))
    | _ => none))

/-- Change the image of a group. -/
def State.modImage (t gi : Nat) (f : Group → Group) (s : State) : State :=
  s.modTeam t (fun m => { m with slots := m.slots.upd gi (fun p =>
    match p with
    | .image h r => .image (f h) r
    | p => p) })

/-- CHSEND_ACCEPT (27 R396): the receiver's buffer accepts the message, once what the release orders has been performed
and no earlier message of the channel waits; one that a save carries is accepted in its group's absence (02 R27). A peer's buffer
is beyond this part: the event is its acceptance. -/
def execChsendAccept (g : SlotRef) (op : Nat) (s : State) : Host.Outcome State Fault Refusal :=
  .next (
    match (s.grp g).findOp op with
    | some o => s.syncAway (s.sendOn (s.grp g).task o (s.released g o) (fun f t => (t.releaseAt g o.obs).modGrp g f))
    | none =>
      match s.carried op with
      | some x => s.syncAway (s.sendOn x.group.task x.op true (State.modImage x.team x.gi))
      | none => s)

/-- CHANNEL_MESSAGE_ARRIVE (27 R396): a peer's message enters the buffer of a receiving capability while that holds
fewer than depth messages. -/
def execChannelMessageArrive (task cap : Nat) (words : List Word) (lanes : Word) (s : State) :
    Host.Outcome State Fault Refusal :=
  let k := (s.task task).cap cap
  .next (
    if k.kind = kindChannel ∧ k.dir = 1 ∧ !isOwnPeer k.peer ∧ !s.peerDown k.peer ∧ (s.buffer k.chanKey).length < k.depth then
      s.putMsg k.chanKey ⟨words, lanes⟩
    else s)

/-- An earlier CHRECV of the slot waits on the same channel. -/
def State.recvsBefore (s : State) (key : Nat) (g : SlotRef) (o : Op) : Bool :=
  ((s.grp g).earlier o.id).any (fun p =>
    match p.kind with
    | .chrecv c _ _ => decide (((s.task (s.grp g).task).cap c).chanKey = key)
    | _ => false)

/-- Write a message to a receiver's lanes (27 R396). -/
def Group.takeMsg (d : Nat) (lanes : Word) (m : ChanMsg) (g : Group) : Group :=
  (g.setLanes d lanes (fun l => if inMask m.lanes l then m.words.getD l 0 else 0)).setLanes (d + 1) lanes
    (fun l => if inMask m.lanes l then 1 else 0)

/-- CHRECV_DELIVER (27 R396): the oldest message of the channel is written to the lanes, and a wait on the flag is an acquire; an
absent group takes none (02 R27). -/
def execChrecvDeliver (g : SlotRef) (op : Nat) (s : State) : Host.Outcome State Fault Refusal :=
  .next (
    match (s.grp g).findOp op with
    | none => s
    | some o =>
      match o.kind with
      | .chrecv c d lanes =>
        let key := ((s.task (s.grp g).task).cap c).chanKey
        match s.buffer key with
        | [] => s
        | m :: _ =>
          if s.recvsBefore key g o ∨ s.absentSaved g then s
          else (((s.dropMsg key).signalAt g o.flag).modGrp g (Group.takeMsg d lanes m)).opStep g o none
      | _ => s)

/-! ## Ports (27 R389) -/

/-- Every message of a group to a peer behind a port fails. -/
def State.failSends (s : State) (port : Nat) (g : Group) : Group :=
  (g.ops.filter (fun o =>
    match o.kind with
    | .chsend c _ _ =>
      let p := ((s.task g.task).cap c).peer
      !isOwnPeer p && decide (peerPortOf p = port)
    | _ => false)).foldl (fun g o => g.failSend o) g

/-- Rows of a gather or scatter that a peer behind a port owns and has not answered. -/
def FabOp.behind (f : FabOp) (port : Nat) : List RowLane :=
  f.rows.filter (fun r => decide (r.idx < f.len) && decide (r.pos < f.td.rows) && !f.isLocal r.idx && !f.isLoop r.idx &&
    decide (peerPortOf (f.owner r.idx % 0x8000) = port))

/-- The rows of the gather or scatter at the head of its channel that are outstanding behind a port are refused (27 R389). -/
def State.refuseRows (port : Nat) (r : OpRef) (s : State) : State :=
  match (s.grp r.g).findOp r.op with
  | none => s
  | some o =>
    match o.kind with
    | .fabric ch f =>
      if s.copyHead r.g ch r.op then
        (f.behind port).foldl (fun s x =>
          match (s.grp r.g).findOp r.op with
          | some o =>
            match o.kind with
            | .fabric ch f => s.fabEnd r.g o ch f x .masked true [] []
            | _ => s
          | none => s) s
      else s
    | _ => s

/-- PORT_DOWN: the port carries nothing until it is retrained, requests outstanding behind it are refused, and a record
names it. -/
def execPortDown (port : Nat) (s : State) : Host.Outcome State Fault Refusal :=
  .next (
    if s.io.down.elem port ∨ 12 ≤ port then s
    else
      let refs := s.groups.flatMap (fun e => e.2.ops.map (fun o => (⟨slotOfKey e.1, o.id⟩ : OpRef)))
      let s := refs.foldl (fun s r => s.refuseRows port r) s
      (s.syncAway { s with
          groups := s.groups.map (fun e => (e.1, s.failSends port e.2))
          teams := s.teams.map (fun e =>
            (e.1, { e.2 with slots := e.2.slots.map (fun x =>
              match x.2 with
              | .image g f => (x.1, .image (s.failSends port g) f)
              | p => (x.1, p)) }))
          io := { s.io with down := s.io.down ++ [port] } }).record true
        (recordWords 0x24 0 0 0 0 0 0 0 (BitVec.ofNat 64 port) 0))

/-- PORT_RETRAIN: firmware retrains a port that is down. -/
def execPortRetrain (port : Nat) (s : State) : Host.Outcome State Fault Refusal :=
  .next { s with io := { s.io with down := s.io.down.filter (fun p => p != port) } }

end Sys2Proof.Machine
end

