-- ==== Sys2Proof/Machine/Escape.lean ====
section
/-! DEFINITION. ESC and the Umber store (02 R45, 25 R382, R383). -/

namespace Sys2Proof.Machine

/-- The die's entry for an extended opcode (25 R382). -/
def Die.umberEntry (d : Die) (e : Nat) : Option UmberEntry :=
  match d.umber with
  | none => none
  | some im => im.entries.find? (fun x => decide (x.opcode = e))

/-- A write of a microcode body to lane l of v[r] is left to a handler. -/
def UmberOp.skips (u : UmberOp) (r l : Nat) : Bool :=
  u.skip.any (fun k => decide (k.1 = l) && decide (k.2.1 ≤ r) && decide (r < k.2.1 + k.2.2))

/-- The lanes in which a sequence of a slot writes: active when it issued, and not retired since (05 R88). -/
def State.umberLanes (s : State) (g : SlotRef) (u : UmberOp) : Word := u.lanes &&& (s.grp g).live

/-- The address of a write of a body that names a byte which the task may write. -/
def State.umberByte (s : State) (g : SlotRef) (w : Nat × DWord) : Option DWord :=
  let a := BitVec.ofNat 64 (w.1 - 2 ^ 32)
  if 2 ^ 32 ≤ w.1 ∧ (s.task (s.grp g).task).writable a.toNat 1 then some a else none

/-- One write of a microcode body, of a context of a slot, to the destination that its number names (log 10): below 64 an s
register; then v registers by lane; from 8896 on predicates; from 2^32 on a byte at an address that the task may write. It
writes neither o nor q, which other instructions write (05 R86, R87). -/
def umberWrite (c : CtxId) (u : UmberOp) (s : State) (w : Nat × DWord) : State :=
  let x : Word := w.2.setWidth 32
  let m := s.umberLanes c.g u
  let n := w.1
  if n < 64 then s.modCtxAt c (Context.setS n w.2)
  else if n < 64 + 8192 then
    let r := (n - 64) / 32
    if r < (s.grp c.g).regalloc ∧ inMask m (n % 32) ∧ u.skips r (n % 32) = false then s.modGrp c.g (Group.setV r (n % 32) x) else s
  else if n < 8896 then s
  else if n < 8896 + 64 then (if n = 8896 then s else s.modGrp c.g (Group.setP (n - 8896) m x))
  else
    match s.umberByte c.g w with
    | some a => s.vwrite c.g a [w.2.setWidth 8]
    | none => s

/-- The writes of a sequence's body. -/
def UmberOp.writes (u : UmberOp) : List (Nat × DWord) := Config.umberWrites u.version u.code u.draw

/-- The microcode body's writes (25 R382; log 10), its lines charged once each (09 R173, 19 R298). -/
def umberBody (c : CtxId) (u : UmberOp) (s : State) : State :=
  let as := u.writes.filterMap (s.umberByte c.g)
  let lines := (spanLines (as.filterMap (fun a => (s.placeOf c.g a).map (fun l => (⟨l, 1⟩ : Span))))).length
  (u.writes.foldl (umberWrite c u) s).chargeAt c.g 0 (64 * (lines : Int))

/-- The flag an entry names (25 R382). -/
def State.umberFlag (s : State) (x : UmberEntry) : Option Nat :=
  if x.flag = 1 then s.flagA else if x.flag = 2 then s.flagB else none

/-- A fault class that is delivered precisely to the group handler (24 R362). -/
def preciseCause (n : Nat) : Bool :=
  [causeIllegal, causeBadTarget, causeAddr, causeMisalign, causeCap, causePriv].elem n

/-- A fault class behind which the instruction issues again (24 R362). -/
def againCause (n : Nat) : Bool := [causeRbar, causeRmis, causeRfrag].elem n

/-- A fault class that the ESC itself takes: its sequence does nothing more after it. -/
def atIssue (n : Nat) : Bool := n == 0 || n == causeNonfinite || n == causeTrapi

/-- The events that a sequence of class NONFINITE raises in a lane; the part decides them. -/
def State.umberEv (s : State) (version e l : Nat) : Ev := BitVec.ofNat 6 (Config.umberEvents version e s.free l)

/-- The lanes in which a sequence of class NONFINITE traps: active lanes that the sequence names, where TRAPNF enables an event
that it raises there (04 R71, 08 R149). -/
def State.umberTraps (s : State) (version e : Nat) : List LaneTrap :=
  (lanesOf s.active).filterMap (fun l =>
    (nfClass s.me.trapnf (s.umberEv version e l)).map (fun k => ⟨l, causeNonfinite, k, 0, 0, false, none, false⟩))

/-- The v registers that a body writes, lowest first. -/
def UmberOp.results (u : UmberOp) : List Nat :=
  (List.range 256).filter (fun r => u.writes.any (fun w => decide (64 + 32 * r ≤ w.1) && decide (w.1 < 96 + 32 * r)))

/-- The held form of a sequence whose lanes trap NONFINITE: its results are its lowest v register and those that follow it
without a gap, up to four (log 10). -/
def heldUmber (s : State) (traps : List LaneTrap) (u : UmberOp) (o : Op) : Held :=
  let d := u.results.headD 0
  { heldMem s traps d ((List.range 4).takeWhile (fun i => u.results.elem (d + i))).length 0 o with
    cls := 7
    events := (lanesOf s.active).foldl (fun m l => m.put 0 l (s.umberEv u.version u.code l).toNat) [] }

/-- The fault that a running sequence raises in its slot, as its class is defined for ordinary instructions (02 R45, 24
R362): the task ends, the group is saved as for GRACE (19 R302), a store-fault record is made, or the error waits for a header or
for the flag's WAIT. -/
def State.umberFault (g : SlotRef) (o : Op) (t : Trap) (s : State) : State :=
  let k := (s.grp g).task
  let s1 := s.opStep g o none
  if t.cause = causeDfault then s1.endTask k t.cause 0 0 (s.handle g) o.clause o.idx
  else if t.cause = causeGrace then s1.modGrp g (fun h => { h with graceDue := true })
  else if t.cause = causeStfault then
    if (s.core g.coreRef).faults.length < 16 then
      (s1.modCore g.coreRef (fun c => { c with faults := c.faults ++ [⟨g, o.clause, o.idx, o.pc, 0, 0, 0⟩] })).count g.coreRef 10 1
    else s
  else if t.cause = causeMord then s1.modGrp g (fun h => { h with mordErrs := h.mordErrs ++ [t] })
  else s.modGrp g (Group.failOp o t)

/-- A byte that a body writes is not at hand: a combiner wave holds its line, an engine owns it, or its page migrates (20 R324,
22 R345, 23 R357). -/
def State.umberBusy (s : State) (g : SlotRef) (a : DWord) : Bool :=
  match s.placeOf g a with
  | some l => s.waveHolds g l 1 || ((s.grp g).isPlain && s.spanOwned ⟨l, 1⟩) || s.moving l 1
  | none => decide (s.xplain g (va56 a) ≠ .missing)

/-- An outstanding sequence ends, once its bytes are at hand: its writes, then its fault or its flag (02 R45). In a combiner wave
a byte outside the extent of the batch aborts it (20 R324, R327). -/
def State.landUmber (g : SlotRef) (o : Op) (s : State) : State :=
  match o.kind with
  | .umber u =>
    let as := u.writes.filterMap (s.umberByte g)
    match u.trap with
    | some t => s.umberFault g o t
    | none =>
      if as.any (s.umberBusy g) then s
      else
        match s.strays g 1 (as.map (fun a => ⟨32, a, none, [], none⟩)) with
        | some obj => s.abortWave obj 0x14
        | none => (umberBody ⟨g, o.ctx⟩ u s).opStep g o none
  | _ => s

/-- ESC with an entry: the declared mask, flag, charge and fault class (02 R45, 25 R383). A precise fault and an end of the task
with LEASE are taken at the ESC (05 R98); otherwise its sequence is outstanding until it ends (log 10, 11), with a NONFINITE trap
held before, and a TRAPI trap taken behind it. -/
def escEntry (im : UmberImage) (x : UmberEntry) (e : Nat) (s : State) : State :=
  let bad := (List.range 22).any (fun i => e.testBit i && !x.operandMask.testBit (i + 10))
  let raises := decide (x.fault ≠ 0) && Config.umberFaults im.version e s.free
  guarded
    [(bad, State.illegal 4 2),
     (s.full (s.umberFlag x), State.illegal 4 5),
     (raises && decide (x.fault = causeLease), fun s => s.draw.endTaskAt s.cur causeLease 0 0),
     (raises && preciseCause x.fault, fun s => s.draw.raise 4 x.fault 0 0),
     (raises && againCause x.fault, fun s => s.draw.deliver s.cur (s.trapOf x.fault 0 0))]
    (fun s =>
      let nf := raises && decide (x.fault = causeNonfinite)
      let traps := if nf then s.umberTraps im.version e else []
      let t : Option Trap := if raises && !atIssue x.fault then some (s.trapOf x.fault 0 0) else none
      let u : UmberOp := ⟨im.version, e, s.free, s.active, [], t⟩
      let o := s.mkOp (s.umberFlag x) 0 (.umber u)
      let s1 := (s.charge (max 1 x.ibud)).draw
      if traps ≠ [] then ((s1.gateOp o).advance 4).holdLanes (heldUmber s traps u o)
      else
        let ev := if nf then (lanesOf s.active).foldl (fun b l => b ||| s.umberEv im.version e l) 0 else 0
        let s2 := ((s1.modMe (Group.raiseEv ev)).issueOp o).advance 4
        let s3 := if o.flag.isSome then s2 else s2.landUmber s.cur.g o
        if raises ∧ x.fault = causeTrapi then s3.deliver s.cur (s.trapOf causeTrapi 0 0) else s3) s

/-- ESC (02 R45): held while an image is being replaced (25 R383); without an entry ILLEGAL 0x07. -/
def execEsc (e : BitVec 22) (s : State) : Host.Outcome State Fault Refusal :=
  .next (
    if s.umberNext.isSome then s
    else
      match (s.die s.cur.g.die).umber, (s.die s.cur.g.die).umberEntry e.toNat with
      | some im, some x => escEntry im x e.toNat s
      | _, _ => s.illegal 4 7)

end Sys2Proof.Machine
end

