-- ==== Sys2Proof/Machine/IoRegs.lean ====
section
/-! DEFINITION. The registers of the I/O die: launch queues and their switches, record queues, the save pool, grants and
events (16 R266-R268, 24 R368, R371-R373, 27 R398). -/

namespace Sys2Proof.Machine

/-! ## Fields -/

/-- A LOG2SIZE field as it is written: between lo 4 and hi, other values as 4 (16 R266, 22 R347, 24 R373). -/
def log2Size (hi : Nat) (v : DWord) : Nat :=
  let n := v.toNat / 256 % 32
  if within 4 hi n then n else 4

/-- HALT or OVF in bit 1: a written 1 clears it (00 R4). -/
def w1c (old v : DWord) : DWord := old &&& 2 &&& ~~~v

/-- QCTL as a write leaves it (16 R266). -/
def qctlWrite (old v : DWord) : DWord :=
  (v &&& 0xFFFF0000000000E1) ||| w1c old v ||| BitVec.ofNat 64 (256 * log2Size 16 v)

/-- IQCTL as a write leaves it (22 R347). -/
def iqctlWrite (old v : DWord) : DWord := (v &&& 1) ||| w1c old v ||| BitVec.ofNat 64 (256 * log2Size 12 v)

/-- RQCTL as a write leaves it: LOST is read-only (24 R373). -/
def rqctlWrite (old v : DWord) : DWord :=
  (v &&& 1) ||| w1c old v ||| (old &&& 0xFFFF0000) ||| BitVec.ofNat 64 (256 * log2Size 16 v)

/-! ## Launch queues (16 R266, 24 R371, R372) -/

/-- SWOUT is set. -/
def Queue.out (x : Queue) : Bool := x.qsw.getLsbD 0

/-- QPROG and QTAIL of a queue stand in its save block, at its bytes 0-7 and 8-15 (24 R371, R372; log 81). -/
def State.saveQueue (q : Nat) (s : State) : State :=
  let x := s.queue q
  if frameExists x.qsave.toNat 64 then
    (s.store none x.qsave.toNat 8 x.qprog.toNat).store none (x.qsave.toNat + 8) 8 x.qtail.toNat
  else s

/-- QTAIL_WRITE (16 R266, 24 R372): bits [31:0]. While the queue is switched out the value lands in the save block and
makes commands startable at switch-in. -/
def execQtailWrite (q : Nat) (v : DWord) (s : State) : Host.Outcome State Fault Refusal :=
  .next (
    if 64 ≤ q then s
    else
      let s1 := s.modQueue q (fun x => { x with qtail := v.setWidth 32 })
      if (s.queue q).out then s1.saveQueue q else s1)

/-- QCTL_WRITE (16 R266); while the queue is switched out only HALT can change (24 R372). -/
def execQctlWrite (q : Nat) (v : DWord) (s : State) : Host.Outcome State Fault Refusal :=
  .next (
    if 64 ≤ q then s
    else
      s.modQueue q (fun x =>
        { x with qctl := if x.out then (x.qctl &&& ~~~2) ||| w1c x.qctl v else qctlWrite x.qctl v }))

/-- The unretired tasks that descend from a queue (24 R371). -/
def State.tasksOfQueue (s : State) (q : Nat) : List Nat :=
  s.tasks.keys.filter (fun k => decide ((s.task k).queue = some q) && decide ((s.task k).phase ≠ .retired))

/-- Switch-out: nothing more starts or is placed, and every resident team is to be evicted whole (24 R371). -/
def State.switchOut (q : Nat) (s : State) : State :=
  if (s.queue q).out then s
  else
    let s1 := (s.modQueue q (fun x => { x with qsw := 1 })).saveQueue q
    let gs := ((s1.tasksOfQueue q).flatMap s1.groupsOfTask).filter (fun g => decide ((s1.grp g).kind = .group))
    gs.foldl (fun s g => s.markEvict g) s1

/-- Switch-in: OUT is cleared, saved teams may return and commands start again from the saved QPROG and QTAIL (24 R371, R372). -/
def State.switchIn (q : Nat) (s : State) : State :=
  let a := (s.queue q).qsave.toNat
  if (s.queue q).out then
    s.modQueue q (fun x => { x with
      qsw := 0
      qprog := if frameExists a 64 then BitVec.ofNat 32 (s.readN a 4) else x.qprog
      qtail := if frameExists a 64 then BitVec.ofNat 32 (s.readN (a + 8) 4) else x.qtail })
  else s

/-- QUEUE_SWITCH_OUT (24 R371). -/
def execQueueSwitchOut (q : Nat) (s : State) : Host.Outcome State Fault Refusal :=
  .next (if q < 64 then s.switchOut q else s)

/-- QUEUE_SWITCH_IN (24 R371). -/
def execQueueSwitchIn (q : Nat) (s : State) : Host.Outcome State Fault Refusal :=
  .next (if q < 64 then s.switchIn q else s)

/-- Every resident team of the queue's tasks has been saved. -/
def State.allSaved (s : State) (q : Nat) : Bool :=
  (s.tasksOfQueue q).all (fun k => (s.teamsOf k).all (fun t => (s.team t).evicted))

/-- QUEUE_SWITCH_OUT_DONE (24 R371): OUT is set and an event record is written. -/
def execQueueSwitchOutDone (q : Nat) (s : State) : Host.Outcome State Fault Refusal :=
  let x := s.queue q
  .next (
    if q < 64 ∧ x.out ∧ !x.qsw.getLsbD 1 ∧ s.allSaved q then
      (s.modQueue q (fun x => { x with qsw := 3 })).record false
        (recordWords 0x42 0 0 x.asid 0 0 0 0 (BitVec.ofNat 64 q) 0)
    else s)

/-! ## Record queues (24 R373) -/

/-- Held records are written as room appears: at most 256 are held. -/
def State.drainRecords (fault : Bool) (s : State) : State := s.flushRecords fault 256

/-- RQHEAD_WRITE: 0 is the fault queue, 1 the event queue. -/
def execRqheadWrite (rq : Nat) (v : DWord) (s : State) : Host.Outcome State Fault Refusal :=
  .next (
    if rq < 2 then (s.modRecq (rq == 0) (fun q => { q with head := v })).drainRecords (rq == 0) else s)

/-! ## Grants and events (16 R268, 27 R398) -/

/-- The running grid of a GRIDID. -/
def State.gridOfId (s : State) (x : DWord) : Option Nat :=
  (s.tasks.find? (fun e => decide (e.2.gridId = x) && !e.2.spawn && decide (e.2.phase = .accepted))).map (·.1)

/-- GGO (27 R398): a write of GCTL. GERR is cleared by a 1; a grant adds to the pools of the task or sets GERR. -/
def execGgo (v : DWord) (s : State) : Host.Outcome State Fault Refusal :=
  let s1 : State := { s with io := { s.io with gctl := w1c s.io.gctl v } }
  .next (
    if v.getLsbD 0 then
      match s.gridOfId s.io.gtask with
      | some k => s1.addPool k s.io.gins.toNat s.io.gbytes.toNat
      | none => { s1 with io := { s1.io with gctl := 2 } }
    else s1)

/-- EVENT_COUNT_WRITE (16 R268). -/
def execEventCountWrite (e : Nat) (v : DWord) (s : State) : Host.Outcome State Fault Refusal :=
  .next (if e < 4096 then { s with io := { s.io with events := s.io.events.put 0 e v } } else s)

/-! ## Invalidate queue registers (22 R347) -/

def execIqtailWrite (v : DWord) (s : State) : Host.Outcome State Fault Refusal :=
  .next { s with io := { s.io with iqtail := v } }

def execIqctlWrite (v : DWord) (s : State) : Host.Outcome State Fault Refusal :=
  .next { s with io := { s.io with iqctl := iqctlWrite s.io.iqctl v } }

/-! ## Registers without a row of their own (00 R4, 16 R267) -/

/-- A write into the block of queue q: QBASE and QSAVE here, the others as their own rows say. QBASE keeps its value
while the queue is switched out (24 R372). -/
def State.writeQueueReg (q off : Nat) (v : DWord) (s : State) : Host.Outcome State Fault Refusal :=
  match off with
  | 0x00 => .next (s.modQueue q (fun x => if x.out then x else { x with qbase := v }))
  | 0x08 => execQctlWrite q v s
  | 0x10 => execQtailWrite q v s
  | 0x20 => if v.getLsbD 0 then execQueueSwitchOut q s else execQueueSwitchIn q s
  | 0x28 => .next (s.modQueue q (fun x => { x with qsave := v }))
  | _ => .next s

/-- A write of a record queue's base, control or head. -/
def State.writeRecReg (fault : Bool) (off : Nat) (v : DWord) (s : State) : Host.Outcome State Fault Refusal :=
  match off with
  | 0x00 => .next (s.modRecq fault (fun q => { q with base := v }))
  | 0x08 => .next ((s.modRecq fault (fun q => { q with ctl := rqctlWrite q.ctl v })).drainRecords fault)
  | 0x18 => execRqheadWrite (if fault then 0 else 1) v s
  | _ => .next s

/-- A write into the control block or the invalidate block. -/
def State.writeControlReg (off : Nat) (v : DWord) (s : State) : Host.Outcome State Fault Refusal :=
  match off with
  | 0x1040 => .next (if s.io.blocks = [] then { s with io := { s.io with sapbase := v } } else s)
  | 0x1048 => .next (if s.io.blocks = [] then { s with io := { s.io with sapsize := v } } else s)
  | 0x1080 => s.writeRecReg true 0x00 v
  | 0x1088 => s.writeRecReg true 0x08 v
  | 0x1098 => s.writeRecReg true 0x18 v
  | 0x10A0 => s.writeRecReg false 0x00 v
  | 0x10A8 => s.writeRecReg false 0x08 v
  | 0x10B8 => s.writeRecReg false 0x18 v
  | 0x10C0 => .next { s with io := { s.io with gtask := v } }
  | 0x10C8 => .next { s with io := { s.io with gins := v } }
  | 0x10D0 => .next { s with io := { s.io with gbytes := v } }
  | 0x10D8 => execGgo v s
  | 0x1100 => .next { s with io := { s.io with iqbase := v } }
  | 0x1108 => execIqctlWrite v s
  | 0x1110 => execIqtailWrite v s
  | 0x1120 => .next { s with io := { s.io with astbase := v } }
  | _ => .next s

/-- What the application cores read in the block of queue q (16 R266, 24 R371). -/
def State.readQueueReg (s : State) (q off : Nat) : DWord :=
  let x := s.queue q
  match off with
  | 0x00 => x.qbase
  | 0x08 => x.qctl
  | 0x10 => x.qtail.setWidth 64
  | 0x18 => x.qprog.setWidth 64
  | 0x20 => x.qsw
  | 0x28 => x.qsave
  | _ => 0

/-- What they read of a record queue (24 R373). -/
def RecQueue.read (q : RecQueue) (off : Nat) : DWord :=
  match off with
  | 0x00 => q.base
  | 0x08 => q.ctl
  | 0x10 => q.tail
  | 0x18 => q.head
  | _ => 0

/-- What the application cores read at an offset of the I/O die register space: an offset without a register reads 0 (16
R267). -/
def State.registerRead (s : State) (off : Nat) : DWord :=
  if off < 0x1000 then s.readQueueReg (off / 64) (off % 64)
  else if 0x1080 ≤ off ∧ off < 0x10A0 then s.io.fault.read (off - 0x1080)
  else if 0x10A0 ≤ off ∧ off < 0x10C0 then s.io.event.read (off - 0x10A0)
  else
    match off with
    | 0x1040 => s.io.sapbase
    | 0x1048 => s.io.sapsize
    | 0x10C0 => s.io.gtask
    | 0x10C8 => s.io.gins
    | 0x10D0 => s.io.gbytes
    | 0x10D8 => s.io.gctl
    | 0x1100 => s.io.iqbase
    | 0x1108 => s.io.iqctl
    | 0x1110 => s.io.iqtail
    | 0x1118 => s.io.iqhead
    | 0x1120 => s.io.astbase
    | _ => 0

/-- REGISTER_WRITE (00 R4, 16 R267): a 64-bit write at an offset of the I/O die register space. A read-only register
and an offset without a register change nothing; of any agent but the application cores the write has no effect, and the
instruction that attempts it traps PRIV. -/
def execRegisterWrite (agent : Agent) (off : Nat) (v : DWord) (s : State) : Host.Outcome State Fault Refusal :=
  match agent with
  | .other => .next s
  | .thread c => .next (if s.hasCtx c then ({ s with cur := c } : State).raise 4 causePriv 0 0 else s)
  | .app => if off < 0x1000 then s.writeQueueReg (off / 64) (off % 64) v else s.writeControlReg off v

end Sys2Proof.Machine
end

