-- ==== Sys2Proof/Machine/Digest.lean ====
section
/-! DEFINITION. SHA-256, the hash of measured images (25 R382, 27 R399): the standard function, which the manual names
(log 12). -/

namespace Sys2Proof.Machine

/-- The largest number, of base with some of its lower bits set, whose k-th power is at most n: bit by bit from the highest. -/
def rootFrom (k n : Nat) : Nat → Nat → Nat
  | 0, base => base
  | bits + 1, base => rootFrom k n bits (if (base + 2 ^ bits) ^ k ≤ n then base + 2 ^ bits else base)

/-- The first 32 bits of the fractional part of the k-th root of a number below 2 ^ (8 k). -/
def rootWord (k n : Nat) : Word := BitVec.ofNat 32 (rootFrom k (n * 2 ^ (32 * k)) 40 0)

/-- The primes below a number of at most 400. -/
def primesBelow (n : Nat) : List Nat :=
  (List.range n).filter (fun p => decide (1 < p) && [2, 3, 5, 7, 11, 13, 17, 19].all (fun d => decide (p = d) || decide (p % d ≠ 0)))

/-- The round constants: from the cube roots of the first 64 primes. -/
def shaRounds : List Word := (primesBelow 312).map (rootWord 3)

/-- The initial hash: from the square roots of the first 8 primes. -/
def shaStart : List Word := (primesBelow 20).map (rootWord 2)

/-- Byte n, counted from the least significant, of a number. -/
def beByte (x n : Nat) : Byte := BitVec.ofNat 8 (x / 256 ^ n)

/-- The message with its padding: a one bit, zeros, and its length in bits, in whole blocks of 64 bytes. -/
def shaPad (bs : List Byte) : List Byte :=
  bs ++ [0x80] ++ List.replicate ((119 - bs.length % 64) % 64) 0 ++ (List.range 8).map (fun i => beByte (8 * bs.length) (7 - i))

/-- The big-endian word at byte i. -/
def beWord (bs : List Byte) (i : Nat) : Word :=
  bs.getD i 0 ++ bs.getD (i + 1) 0 ++ bs.getD (i + 2) 0 ++ bs.getD (i + 3) 0

/-- The sum without carries of a word's rotations. -/
def spin (rs : List Nat) (x : Word) : Word := rs.foldl (fun y r => y ^^^ x.rotateRight r) 0

/-- The next word of the message schedule, from the 16 before it, oldest first. -/
def shaNext (w : List Word) : Word :=
  let low := w.getD 1 0
  let high := w.getD 14 0
  w.getD 0 0 + (spin [7, 18] low ^^^ low >>> 3) + w.getD 9 0 + (spin [17, 19] high ^^^ high >>> 10)

/-- One round on the eight working words, at place 0 to 7. -/
def shaRound (k w : Word) (v : List Word) : List Word :=
  let at_ := fun i => v.getD i 0
  let choice := at_ 6 ^^^ (at_ 4 &&& (at_ 5 ^^^ at_ 6))
  let majority := (at_ 0 &&& (at_ 1 ||| at_ 2)) ||| (at_ 1 &&& at_ 2)
  let mixed := at_ 7 + spin [6, 11, 25] (at_ 4) + choice + (k + w)
  (mixed + (spin [2, 13, 22] (at_ 0) + majority)) :: (v.take 3 ++ (at_ 3 + mixed) :: (v.drop 4).take 3)

/-- The rounds of one block, with the 16 schedule words at hand. -/
def shaBlock : List Word → List Word → List Word → List Word
  | [], _, v => v
  | k :: ks, w, v => shaBlock ks (w.drop 1 ++ [shaNext w]) (shaRound k (w.getD 0 0) v)

/-- The hash of n blocks from a byte on. -/
def shaBlocks (bs : List Byte) : Nat → Nat → List Word → List Word
  | 0, _, h => h
  | n + 1, i, h =>
    shaBlocks bs n (i + 64)
      (List.zipWith (· + ·) h (shaBlock shaRounds ((List.range 16).map (fun j => beWord bs (i + 4 * j))) h))

/-- SHA-256 of bytes: 32 bytes, each word's most significant byte first. -/
def sha256 (bs : List Byte) : List Byte :=
  let m := shaPad bs
  (shaBlocks m (m.length / 64) 0 shaStart).flatMap (fun w => (List.range 4).map (fun i => beByte w.toNat (3 - i)))

end Sys2Proof.Machine
end

