-- ==== Sys2Proof/Machine/Pages.lean ====
section
/-! DEFINITION. The invalidate queue, pages in migration, and uncorrectable memory errors (22 R336, R345-R348). -/

namespace Sys2Proof.Machine

/-! ## The sweep (22 R348) -/

/-- What a sweep removes: an address space or all, a range or all, and sizes by HINT. -/
structure Sweep where
  all : Bool
  asid : Nat
  base : Nat
  /-- 0 is every address -/
  len : Nat
  hint : Nat
deriving DecidableEq, Repr

/-- The sizes a hint includes. -/
def hintHas (hint size : Nat) : Bool :=
  match hint with
  | 0 => true
  | 1 => decide (size = 2 ^ 12) || decide (size = 2 ^ 16)
  | 2 => decide (size = 2 ^ 21) || decide (size = 2 ^ 25)
  | _ => decide (size = 2 ^ 30)

/-- n bytes at a meet the range. -/
def Sweep.meets (w : Sweep) (a n : Nat) : Bool :=
  decide (w.len = 0) || (decide (w.base < a + n) && decide (a < w.base + w.len))

/-- An address space is meant. -/
def Sweep.space (w : Sweep) (asid : Nat) : Bool := w.all || decide (w.asid = asid)

/-- A cached translation goes. -/
def Sweep.hits (w : Sweep) (x : Xlat) : Bool := w.space x.asid && w.meets x.base x.size && hintHas w.hint x.size

/-- Every cached translation that matches is removed, and the lease engine's state with it: a task not started yet is
walked again. -/
def State.sweep (w : Sweep) (s : State) : State :=
  { s with
    groups := s.groups.map (fun e => (e.1, { e.2 with pages := e.2.pages.filter (fun p => !w.hits p.2.x) }))
    cores := s.cores.map (fun e => (e.1, { e.2 with tlb := e.2.tlb.filter (fun x => !w.hits x) }))
    dies := s.dies.map (fun e => (e.1, { e.2 with tlb := e.2.tlb.filter (fun x => !w.hits x) }))
    tasks := s.tasks.map (fun e =>
      if e.2.phase = .resident ∧ w.space e.2.asid then (e.1, { e.2 with phase := .created }) else e) }

/-- The translation that an access used goes. -/
def Sweep.pageUses (w : Sweep) (page : Option (Nat × Nat)) : Bool := page.any (fun p => w.meets p.1 p.2 && hintHas w.hint p.2)

/-- A lane's access is still to be performed, and the translation that it used at issue goes. -/
def Sweep.laneUses (w : Sweep) (a : LaneAcc) : Bool := w.pageUses a.page

/-- The virtual lines that an engine operation writes. -/
def State.engineLines (s : State) (g : SlotRef) (o : Op) : List Nat :=
  match o.kind with
  | .cpy _ _ dst n => rangeLines dst n
  | .blkcpy _ b => b.td.lines (b.td.touched ⟨b.f, min b.td.rows (b.f + b.rows.length * b.bs) - b.f, 0, b.td.cols⟩)
  | .fabric _ f =>
    if f.scatter then ({ s with cur := ⟨g, o.ctx⟩ } : State).scatterLines f
    else f.td.lines (f.td.touched ⟨0, min f.td.rows f.total, 0, f.td.cols⟩)
  | .msta _ t row0 col0 _ _ => t.lines (t.touched (t.rect row0 64 col0 64))
  | .attnf _ t row0 col0 h => t.lines (t.touched (t.rect row0 64 col0 h))
  | _ => []

/-- Lines of the range that an engine is still to write. -/
def State.engineUses (s : State) (w : Sweep) (g : SlotRef) (o : Op) : Bool :=
  o.own != [] && (s.engineLines g o).any (fun l => w.meets (va56 (BitVec.ofNat 64 (64 * l))) 64)

/-- Some lanes of a store have translated: the others do so on the same side of a sweep (22 R348 step 2). -/
def Sweep.splits (w : Sweep) (o : Op) : Bool :=
  match o.kind with
  | .store n acc failed lines =>
    (failed != [] || lines != []) && acc.any (fun a => a.loc.isNone && w.meets (va56 a.va) n)
  | _ => false

/-- An operation used a translation of the range, and has not been performed nor made its record. -/
def Sweep.opUses (w : Sweep) (o : Op) : Bool :=
  match o.kind with
  | .load _ _ acc => acc.any w.laneUses
  | .loadS _ _ acc => w.laneUses acc
  | .atomic _ _ acc _ => acc.any w.laneUses
  | .store _ _ failed _ => failed.any (fun f => w.pageUses f.page)
  | .zline _ failed => failed.any (fun f => w.pageUses f.page)
  | .pref _ page => w.pageUses page
  | .launch _ desc _ _ => w.meets (va56 desc) 64
  | .spawn _ desc _ _ => w.meets (va56 desc) 32
  | .mreg obj _ flags _ _ => w.meets (va56 obj) (64 * (flags.toNat % 64 + 1))
  | _ => false

/-- The outstanding operations that used a translation of the range (22 R348 step 3). -/
def State.users (s : State) (w : Sweep) : List OpRef :=
  s.groups.flatMap (fun e =>
    let g := slotOfKey e.1
    if w.space (s.task e.2.task).asid then
      (e.2.ops.filter (fun o => w.opUses o || s.engineUses w g o)).map (fun o => ⟨g, o.id⟩)
    else [])

/-- The objects whose combiner waves used a translation of the range. -/
def State.waveUsers (s : State) (w : Sweep) : List Nat :=
  SMap.keys (s.mordant.filter (fun e =>
    e.2.wave.isSome && w.space (s.task e.2.task).asid && w.meets (va56 e.2.va) (64 * e.2.batch.lines)))

/-- A store of the address space is between its lanes. -/
def State.splitBy (s : State) (w : Sweep) : Bool :=
  s.groups.any (fun e => w.space (s.task e.2.task).asid && e.2.ops.any w.splits)

/-- An access that used a matching translation is outstanding. -/
def State.inUse (s : State) (w : Sweep) : Bool := s.users w != [] || s.waveUsers w != [] || s.splitBy w

/-- Of what used the removed translations, something is still to be performed. -/
def State.stillUses (s : State) (w : Sweep) (rs : List OpRef) (objs : List Nat) : Bool :=
  rs.any (s.users w).elem || objs.any (s.waveUsers w).elem

/-! ## The invalidate queue (22 R347, R348) -/

/-- The queue has a command to complete. -/
def IoDie.iqLive (io : IoDie) : Bool :=
  io.iqctl.getLsbD 0 && !io.iqctl.getLsbD 1 &&
    decide (io.iqhead.toNat % ringSize io.iqctl ≠ io.iqtail.toNat % ringSize io.iqctl)

/-- The command at IQHEAD, as a number of 256 bits. -/
def State.iqCommand (s : State) : Nat :=
  s.readN (s.io.iqbase.toNat + 32 * (s.io.iqhead.toNat % ringSize s.io.iqctl)) 32

/-- A malformed command: a reserved field, HINT above 3, or a VA that is not canonical. -/
def badInvalidate (c : Nat) : Bool :=
  decide (bitsAt c 172 84 ≠ 0) || decide (bitsAt c 149 11 ≠ 0) || decide (3 < bitsAt c 144 3) ||
    !canonical (BitVec.ofNat 64 (bitsAt c 0 64))

/-- What a command sweeps. -/
def sweepOf (c : Nat) : Sweep :=
  ⟨c.testBit 147, bitsAt c 128 16, va56 (BitVec.ofNat 64 (bitsAt c 0 64)), bitsAt c 64 64, bitsAt c 144 3⟩

/-- IQHEAD advances, the event is raised, and the lease engine tries again. -/
def State.invalidated (c : Nat) (s : State) : State :=
  let e := bitsAt c 160 12
  { s with
    io := { s.io with
      iqhead := s.io.iqhead + 1
      events := if c.testBit 148 then s.io.events.put 0 e (s.io.events.get 0 e + 1) else s.io.events }
    tasks := s.tasks.map (fun x => (x.1, { x.2 with blocked := false })) }

/-- A command whose sweep has been made completes once no access that used what it removed is outstanding (22 R348 steps 3
and 4). -/
def State.endInvalidate (s : State) : State :=
  match s.io.swept with
  | none => s
  | some (c, rs, objs) =>
    if s.stillUses (sweepOf c) rs objs then s
    else ({ s with io := { s.io with swept := none } } : State).invalidated c

/-- INVALIDATE_COMMAND (22 R348): the head command halts the queue, or removes what it matches, and then waits for the accesses
that used it. No store is cut in two. -/
def execInvalidateCommand (s : State) : Host.Outcome State Fault Refusal :=
  .next (
    if !s.io.iqLive then s
    else if s.io.swept.isSome then s.endInvalidate
    else
      let c := s.iqCommand
      let w := sweepOf c
      if badInvalidate c then { s with io := { s.io with iqctl := s.io.iqctl ||| 2 } }
      else if s.splitBy w then s
      else ({ s.sweep w with io := { s.io with swept := some (c, s.users w, s.waveUsers w) } } : State).endInvalidate)

/-! ## Migration (22 R345, R346) -/

/-- The physical addresses of the leaf entries of an address, from a table of a level: one, or the 16 of a C group. -/
def State.entriesFrom (s : State) (va : Nat) : Nat → Nat → List Nat
  | 0, table =>
    let x := va / 2 ^ 12 % 512
    if pteBit (s.readN (table + 8 * x) 8) 4 then (List.range 16).map (fun j => table + 8 * (x / 16 * 16 + j))
    else [table + 8 * x]
  | l + 1, table =>
    let x := va / 2 ^ (12 + 9 * (l + 1)) % (if l = 3 then 256 else 512)
    let e := s.readN (table + 8 * x) 8
    if pteBit e 3 then
      if pteBit e 4 ∧ l = 0 then (List.range 16).map (fun j => table + 8 * (x / 16 * 16 + j)) else [table + 8 * x]
    else s.entriesFrom va l (pteFrame e)

/-- The leaf entries of an address. -/
def State.leafEntries (s : State) (asid va : Nat) : List Nat :=
  match s.rootOf asid with
  | none => []
  | some root => s.entriesFrom va 4 root

/-- Change 64-bit entries in memory, each as one write. -/
def State.mapEntries (f : Nat → Nat → Nat) (as : List Nat) (s : State) : State :=
  (List.range as.length).foldl (fun s i => s.store none (as.getD i 0) 8 (f i (s.readN (as.getD i 0) 8))) s

/-- A lease range and a page share a byte. -/
def Lease.overPage (l : Lease) (base size : Nat) : Bool :=
  decide (va56 (BitVec.ofNat 64 l.base) < base + size) && decide (base < va56 (BitVec.ofNat 64 l.base) + l.len)

/-- The task under whose lease a page moves: every range that holds a byte of it, in every task of its address space that
holds its lease, is marked migr; of those tasks firmware names one (22 R345, R346; log 118). -/
def State.migratable (s : State) (asid base size : Nat) : Option Nat :=
  let held := s.tasks.filter (fun e => decide (e.2.asid = asid) && decide (e.2.phase = .accepted))
  let ks := SMap.keys (held.filter (fun e => e.2.leases.any (fun l => l.overPage base size)))
  if held.any (fun e => e.2.leases.any (fun l => l.overPage base size && !l.migr)) then none
  else ks[Config.freeNat s.free % ks.length]?

/-- A place lies in the slow tier. -/
def isSlow (a : Nat) : Bool := decide (Config.slowBase ≤ a)

/-- PAGE_MIGRATION_START (22 R345): MIG is set in the leaf and its translations are swept; the move waits for accesses
that used them. -/
def execPageMigrationStart (asid : Nat) (va : DWord) (frame : Nat) (s : State) : Host.Outcome State Fault Refusal :=
  .next (
    match s.walk asid (va56 va) with
    | none => s
    | some l =>
      let w : Sweep := ⟨false, asid, l.base, l.size, 0⟩
      match s.migratable asid l.base l.size with
      | none => s
      | some k =>
        if l.mig ∨ !canonical va ∨ frame % l.size ≠ 0 ∨ !frameExists frame l.size ∨ isSlow frame = isSlow l.frame ∨
            s.inUse w ∨ s.rangeBusy l.frame l.size ∨ s.moving frame l.size then s
        else
          let es := s.leafEntries asid (va56 va)
          let s1 := (s.mapEntries (fun _ e => e ||| 2 ^ 6) es).sweep w
          { s1.fresh.draw with
            io := { s1.io with
              migrations := s1.io.migrations ++ [⟨s.serial, asid, l.base, l.size, l.frame, frame, es, k⟩] } })

/-- An entry of a page that has moved: the new frame, ST, MIG = 0. -/
def movedEntry (frame i e : Nat) : Nat :=
  let keep := e % 2 ^ 5
  keep + (if isSlow frame then 2 ^ 5 else 0) + frame + 4096 * i

/-- Mordant objects stay with their lines. -/
def State.moveObjects (m : Migration) (s : State) : State :=
  { s with
    mordant := s.mordant.foldl (fun (r : SMap Mordant) e =>
      r.ins (if m.old ≤ e.1 ∧ e.1 < m.old + m.size then m.new_ + (e.1 - m.old) else e.1) e.2) [] }

/-- A context parked on a page of the move issues again (24 R367). -/
def Migration.wake (m : Migration) (c : Context) : Context :=
  match c.stop with
  | .replay p => if m.base ≤ p ∧ p < m.base + m.size then { c with stop := .running } else c
  | _ => c

/-- Every parked access of the page is woken. -/
def State.wakeParked (m : Migration) (s : State) : State :=
  { s with groups := s.groups.map (fun e =>
      if (s.task e.2.task).asid = m.asid then (e.1, { e.2 with ctxs := e.2.ctxs.map (fun c => (c.1, m.wake c.2)) })
      else e) }

/-- A promotion that ends after its lease was released is counted (22 R346). -/
def State.countPromotion (m : Migration) (s : State) : State :=
  if isSlow m.old ∧ !isSlow m.new_ ∧ (s.task m.task).phase = .retired then
    match (s.task m.task).lastCore with
    | some c => s.count c 16 1
    | none => s
  else s

/-- PAGE_MIGRATION_END (22 R345): the page has been copied; the leaf is rewritten and parked accesses are woken. -/
def execPageMigrationEnd (n : Nat) (s : State) : Host.Outcome State Fault Refusal :=
  .next (
    match s.io.migrations.find? (fun m => decide (m.id = n)) with
    | none => s
    | some m =>
      let s1 := ((s.copyRange m.old m.new_ m.size).mapEntries (movedEntry m.new_) m.entries).moveObjects m
      ({ s1.wakeParked m with
          io := { s1.io with migrations := s1.io.migrations.filter (fun x => decide (x.id ≠ n)) } } : State).countPromotion m)

/-! ## Uncorrectable errors (22 R336) -/

/-- The record of a physical line. -/
def State.lineRecord (line : Nat) (s : State) : State :=
  s.record true (recordWords 0x22 0 0 0 0 0 (BitVec.ofNat 64 (64 * line)) 0 0 0)

/-- An operation touches a line: its virtual address there. -/
def State.opOnLine (s : State) (g : SlotRef) (o : Op) (line : Nat) : Bool :=
  (s.opSpans g o).any (fun x => isPhys x.loc && decide (64 * line < x.loc + x.n) && decide (x.loc < 64 * line + 64))

/-- An engine operation that reads memory. -/
def Op.reads (o : Op) : Bool :=
  match o.kind with
  | .mldo _ _ _ _ => true
  | .attn _ _ _ _ _ => true
  | .cpy _ _ _ _ => true
  | .blkcpy _ _ => true
  | .fabric _ _ => true
  | .cfill _ _ _ _ => true
  | .launch _ _ _ _ => true
  | .spawn _ _ _ _ => true
  | _ => false

/-- An error in what a slot reads: a combiner wave aborts its batch (20 R327); otherwise the task ends. -/
def State.readError (g : SlotRef) (clause : DWord) (idx line : Nat) (s : State) : State :=
  (match (s.grp g).kind with
   | .combiner obj => s.abortWave obj 0x15
   | _ => s.endTask (s.grp g).task causeDfault 0x11 0 (s.handle g) clause idx).lineRecord line

/-- Lanes of a store whose line has an error fail with subcode 0x03 (09 R175). -/
def State.failLanes (g : SlotRef) (o : Op) (line : Nat) (s : State) : State :=
  let hit := fun (n : Nat) (a : LaneAcc) =>
    (s.accLoc g true n a).any (fun l => isPhys l && decide (64 * line < l + n) && decide (l < 64 * line + 64))
  match o.kind with
  | .store n acc failed lines =>
    let bad := acc.filter (hit n)
    s.opStep g o (some (.store n (acc.filter (fun a => !hit n a)) (failed ++ bad.map (fun a => ⟨a.lane, a.va, 3, s.pageAt g a.lane a.va⟩)) lines))
  | .zline a _ => s.opStep g o (some (.zline a [⟨32, a.va, 3, s.pageAt g 32 a.va⟩]))
  | _ => s

/-- MEMORY_UNCORRECTABLE (22 R336): handled by the path on which it is found, with a record of the physical line. -/
def execMemoryUncorrectable (path : ErrorPath) (s : State) : Host.Outcome State Fault Refusal :=
  .next (
    match path with
    | .load g op line =>
      match (s.grp g).findOp op with
      | none => s
      | some o => if !o.isStore ∧ s.opOnLine g o line then s.readError g o.clause o.idx line else s
    | .store g op line =>
      match (s.grp g).findOp op with
      | none => s
      | some o =>
        if o.isStore ∧ s.opOnLine g o line then
          match (s.grp g).kind with
          | .combiner obj => (s.abortWave obj 0x15).lineRecord line
          | _ => (s.failLanes g o line).lineRecord line
        else s
    | .engine g op line =>
      match (s.grp g).findOp op with
      | none => s
      | some o => if o.reads then s.readError g o.clause o.idx line else s
    | .fetch c line =>
      if s.mayIssue c then s.readError c.g ((s.grp c.g).ctx c.i).clause ((s.grp c.g).ctx c.i).idx line else s
    | .held obj line =>
      if (s.mordant.look obj).any (fun m => m.wave.isSome && m.heldLines.elem line) then (s.abortWave obj 0x15).lineRecord line
      else s)

end Sys2Proof.Machine
end

