-- ==== Sys2Proof/Machine/Outside.lean ====
section
/-! DEFINITION. What reaches the part from outside: reset, boot, Umber images, attestation, power, peers and hosts (00
R6, 23 R349, 25 R382, R383, 27 R390, R395, R397-R400). -/

namespace Sys2Proof.Machine

/-! ## Reset, boot and attestation (00 R6, 27 R399, R400) -/

/-- PACKAGE_RESET (00 R6): every register takes its reset value, and no work is placed. -/
def execPackageReset (s : State) : Host.Outcome State Fault Refusal :=
  .next { State.reset with agenda := s.agenda, mem := s.mem.filter (fun c => isPhys c.1), free := s.free }

/-- An image's signature is valid. -/
def imageValid (x : FirmwareImage) : Bool := Config.signatureValid x.bytes x.signature

/-- The version of an Umber image: bytes 4-7 (25 R382). -/
def umberVersion (x : FirmwareImage) : Nat := field x.bytes 4 4

/-- An Umber image is rejected: a record with its version (25 R382, 27 R399). -/
def State.rejectUmber (x : FirmwareImage) (s : State) : State :=
  s.record true (recordWords 0x23 0 0 0 0 0 0 0 (BitVec.ofNat 64 (umberVersion x)) 0)

/-- The digest of an image that is loaded joins the measurement log. -/
def State.measure (bytes : List Byte) (s : State) : State :=
  { s with io := { s.io with boot := { s.io.boot with log := s.io.boot.log ++ [sha256 bytes] } } }

/-- The boot fails at an image: the cause stands on the management port (27 R399). -/
def State.bootFails (i : Nat) (s : State) : State :=
  { s with io := { s.io with boot := { s.io.boot with failed := some i } } }

/-- ATTESTATION_REPORT (27 R399): nonce, serial number and measurement log, signed. -/
def execAttestationReport (nonce : List Byte) (s : State) : Host.Outcome State Fault Refusal :=
  let log := s.io.boot.log
  let signed := nonce ++ (List.range 8).map (byteOf Config.serialNumber.toNat) ++ log.flatten
  .next (
    if nonce.length = 32 then
      { s with io := { s.io with boot := { s.io.boot with report := some (nonce, Config.serialNumber, log, Config.sign signed) } } }
    else s)

/-- POWER_THROTTLE (27 R400): clocks only; no architectural state changes. -/
def execPowerThrottle (_state : Nat) (s : State) : Host.Outcome State Fault Refusal := .next s

/-! ## Umber images (25 R382, R383) -/

/-- One entry of an image; none where it is malformed. -/
def umberEntryOf (bs : List Byte) : Option UmberEntry :=
  let a := field bs 0 4
  let b := field bs 4 4
  let f := bitsAt b 4 8
  if bitsAt a 22 10 ≠ 0 ∨ bitsAt b 2 2 ≠ 0 ∨ bitsAt b 0 2 = 3 ∨ bitsAt b 12 20 = 0 ∨ 0x12 < f ∨ f = 6 then none
  else some ⟨bitsAt a 0 22, field bs 8 4, bitsAt b 12 20, bitsAt b 0 2, f⟩

/-- An image as its bytes give it; none where it is rejected for its form. -/
def umberOf (x : FirmwareImage) : Option UmberImage :=
  let n := field x.bytes 10 2
  if 32768 < x.bytes.length ∨ x.bytes.length < 16 + 16 * n ∨ field x.bytes 0 4 ≠ 0x52424D55 ∨ 4 < field x.bytes 8 2 ∨
      512 < n ∨ field x.bytes 12 4 ≠ 0 then none
  else
    match (List.range n).mapM (fun e => umberEntryOf ((x.bytes.drop (16 + 16 * e)).take 16)) with
    | none => none
    | some es =>
      if (es.map UmberEntry.opcode).eraseDups.length = es.length then some ⟨umberVersion x, es, x.bytes, x.signature⟩
      else none

/-- An image that is not rejected: its signature is valid and its form is good (25 R382). -/
def goodUmber (x : FirmwareImage) : Option UmberImage := if imageValid x then umberOf x else none

/-- Every die holds an image, and it is measured (25 R383, 27 R399). -/
def State.fillUmber (im : UmberImage) (s : State) : State :=
  ([0, 1, 2, 3].foldl (fun s d => s.modDie d (fun x => { x with umber := some im })) s).measure im.bytes

/-- UMBER_IMAGE_LOAD (25 R382): verified before any byte is written; a good image begins to replace the stores. -/
def execUmberImageLoad (image : FirmwareImage) (s : State) : Host.Outcome State Fault Refusal :=
  .next (
    if s.umberNext.isSome then s
    else
      match goodUmber image with
      | some im => { s with umberNext := some im }
      | none => s.rejectUmber image)

/-- UMBER_REPLACE_COMPLETE (25 R383): every die holds the new image, and it is measured. -/
def execUmberReplaceComplete (s : State) : Host.Outcome State Fault Refusal :=
  .next (
    match s.umberNext with
    | none => s
    | some im => ({ s with umberNext := none } : State).fillUmber im)

/-! ## Boot (27 R399) -/

/-- Each Umber image is verified in turn, and loaded into every die, or rejected (25 R382, 27 R399). -/
def State.bootUmber (images : List FirmwareImage) (s : State) : State :=
  images.foldl (fun s x =>
    match goodUmber x with
    | some im => s.fillUmber im
    | none => s.rejectUmber x) s

/-- BOOT_VERIFY (27 R399): the controller's firmware, the Lerast firmware, then each Umber image. A failure of the first two
leaves the part unbooted. -/
def execBootVerify (images : List FirmwareImage) (s : State) : Host.Outcome State Fault Refusal :=
  .next (
    if s.io.boot.booted ∨ s.io.boot.failed.isSome then s
    else
      match images with
      | a :: b :: r =>
        if !imageValid a then s.bootFails 0
        else if !imageValid b then (s.measure a.bytes).bootFails 1
        else
          let s1 := ((s.measure a.bytes).measure b.bytes).bootUmber r
          { s1 with io := { s1.io with boot := { s1.io.boot with booted := true } } }
      | _ => s)

/-! ## Peers (27 R390, R395) -/

/-- The atomic of an M-class code (20 R309). -/
def atomOf (code : Nat) : Option AtomKind :=
  match code with
  | 0x20 => some .add
  | 0x21 => some .and_
  | 0x22 => some .or_
  | 0x23 => some .xor_
  | 0x24 => some .min
  | 0x25 => some .max
  | 0x26 => some .minn
  | 0x27 => some .maxn
  | 0x28 => some .xchg
  | 0x29 => some .cas
  | 0x2A => some .fadd
  | 0x2B => some .binc
  | 0x2C => some .winc
  | 0x2D => some .decp
  | 0x2E => some .addl
  | 0x30 => some .add64
  | 0x31 => some .xchg64
  | 0x32 => some .cas64
  | 0x33 => some .min64n
  | _ => none

/-- A peer's atomic at the port of its line's home die (27 R395). -/
def State.peerAtomic (k : AtomKind) (a : Nat) (ws : List Word) (s : State) : State :=
  let old := s.readN a k.size
  let limit := if k = .addl then s.readN (a + 4) 4 else 0
  s.store none a k.size (k.new old limit ws)

/-- PEER_REQUEST (27 R390): served in the address space of its export window, or refused. A read takes its lines from the
cluster atomic units (14 R249). -/
def execPeerRequest (req : PeerRequest) (s : State) : Host.Outcome State Fault Refusal :=
  .next (
    match req with
    | .read _ win va n =>
      match exportWindowOf win with
      | none => s
      | some w =>
        match s.peerPlaces w.asid va n with
        | some (ps, _) => if inWindow w va n false ∧ !s.placesBusy ps then s.recallPlaces none ps else s
        | none => s
    | .write _ win va bytes =>
      match exportWindowOf win with
      | none => s
      | some w =>
        match s.peerPlaces w.asid va bytes.length with
        | some (ps, true) => if inWindow w va bytes.length true ∧ !s.placesBusy ps then s.writePlaces ps bytes else s
        | _ => s
    | .atomic _ win va code ws =>
      match exportWindowOf win, atomOf code with
      | some w, some k =>
        match s.peerPlaces w.asid va k.extent with
        | some (a :: r, true) =>
          if inWindow w va k.extent true ∧ va.toNat % k.extent = 0 ∧ !s.placesBusy (a :: r) then s.peerAtomic k a ws else s
        | _ => s
      | _, _ => s)

/-! ## Hosts (23 R349, 27 R397) -/

/-- HOST_MEMORY_ACCESS (23 R349): a HOST agent reads or writes device memory at its point of coherence; a read takes its
lines from the cluster atomic units (14 R249). -/
def execHostMemoryAccess (acc : HostAccess) (s : State) : Host.Outcome State Fault Refusal :=
  .next (
    match acc with
    | .read pa n =>
      let ps := (List.range n).map (fun i => pa + i)
      if frameExists pa n ∧ !s.placesBusy ps then s.recallPlaces none ps else s
    | .write pa bytes =>
      let ps := (List.range bytes.length).map (fun i => pa + i)
      if frameExists pa bytes.length ∧ !s.placesBusy ps then s.writePlaces ps bytes else s)

end Sys2Proof.Machine
end

