-- ==== Sys2Proof/Machine/Dispatch.lean ====
section
/-! DEFINITION. The dispatch: one arm per constructor of Instr. -/

namespace Sys2Proof.Machine

def exec (i : Instr) (s : State) : Host.Outcome State Fault Refusal :=
  match i with
  | .clauseHeader wait setA setB pidx neg en => Sys2Proof.Machine.execClauseHeader wait setA setB pidx neg en s
  | .vadd16 d b => Sys2Proof.Machine.execVadd16 d b s
  | .vsub16 d b => Sys2Proof.Machine.execVsub16 d b s
  | .vand16 d b => Sys2Proof.Machine.execVand16 d b s
  | .vor16 d b => Sys2Proof.Machine.execVor16 d b s
  | .vxor16 d b => Sys2Proof.Machine.execVxor16 d b s
  | .vshl16 d b => Sys2Proof.Machine.execVshl16 d b s
  | .vshr16 d b => Sys2Proof.Machine.execVshr16 d b s
  | .vmin16 d b => Sys2Proof.Machine.execVmin16 d b s
  | .fadd16 d b => Sys2Proof.Machine.execFadd16 d b s
  | .fsub16 d b => Sys2Proof.Machine.execFsub16 d b s
  | .fmul16 d b => Sys2Proof.Machine.execFmul16 d b s
  | .ffmaq d b => Sys2Proof.Machine.execFfmaq d b s
  | .fmax16 d b => Sys2Proof.Machine.execFmax16 d b s
  | .fmin16 d b => Sys2Proof.Machine.execFmin16 d b s
  | .vmov16 d b => Sys2Proof.Machine.execVmov16 d b s
  | .vmadq d b => Sys2Proof.Machine.execVmadq d b s
  | .sadd d a x => Sys2Proof.Machine.execSadd d a x s
  | .ssub d a x => Sys2Proof.Machine.execSsub d a x s
  | .smul d a x => Sys2Proof.Machine.execSmul d a x s
  | .smulh d a x => Sys2Proof.Machine.execSmulh d a x s
  | .smulhn d a x => Sys2Proof.Machine.execSmulhn d a x s
  | .sdiv d a x => Sys2Proof.Machine.execSdiv d a x s
  | .sdivn d a x => Sys2Proof.Machine.execSdivn d a x s
  | .srem d a x => Sys2Proof.Machine.execSrem d a x s
  | .sremn d a x => Sys2Proof.Machine.execSremn d a x s
  | .sand d a x => Sys2Proof.Machine.execSand d a x s
  | .sor d a x => Sys2Proof.Machine.execSor d a x s
  | .sxor d a x => Sys2Proof.Machine.execSxor d a x s
  | .sandn d a x => Sys2Proof.Machine.execSandn d a x s
  | .sshl d a x => Sys2Proof.Machine.execSshl d a x s
  | .sshr d a x => Sys2Proof.Machine.execSshr d a x s
  | .ssar d a x => Sys2Proof.Machine.execSsar d a x s
  | .smin d a x => Sys2Proof.Machine.execSmin d a x s
  | .smax d a x => Sys2Proof.Machine.execSmax d a x s
  | .sminn d a x => Sys2Proof.Machine.execSminn d a x s
  | .smaxn d a x => Sys2Proof.Machine.execSmaxn d a x s
  | .sseq d a x => Sys2Proof.Machine.execSseq d a x s
  | .ssne d a x => Sys2Proof.Machine.execSsne d a x s
  | .sslt d a x => Sys2Proof.Machine.execSslt d a x s
  | .ssle d a x => Sys2Proof.Machine.execSsle d a x s
  | .ssltn d a x => Sys2Proof.Machine.execSsltn d a x s
  | .sslen d a x => Sys2Proof.Machine.execSslen d a x s
  | .sclz d a => Sys2Proof.Machine.execSclz d a s
  | .spopc d a => Sys2Proof.Machine.execSpopc d a s
  | .ssext d a x => Sys2Proof.Machine.execSsext d a x s
  | .szext d a x => Sys2Proof.Machine.execSzext d a x s
  | .sli d imm => Sys2Proof.Machine.execSli d imm s
  | .slk1 d imm => Sys2Proof.Machine.execSlk1 d imm s
  | .slk2 d imm => Sys2Proof.Machine.execSlk2 d imm s
  | .slk3 d imm => Sys2Proof.Machine.execSlk3 d imm s
  | .srsr d n => Sys2Proof.Machine.execSrsr d n s
  | .swsr n a => Sys2Proof.Machine.execSwsr n a s
  | .sadr d a x => Sys2Proof.Machine.execSadr d a x s
  | .bra t => Sys2Proof.Machine.execBra t s
  | .bz r t => Sys2Proof.Machine.execBz r t s
  | .bnz r t => Sys2Proof.Machine.execBnz r t s
  | .bneg r t => Sys2Proof.Machine.execBneg r t s
  | .bnneg r t => Sys2Proof.Machine.execBnneg r t s
  | .ball p t => Sys2Proof.Machine.execBall p t s
  | .bany p t => Sys2Proof.Machine.execBany p t s
  | .bnone p t => Sys2Proof.Machine.execBnone p t s
  | .loop r t => Sys2Proof.Machine.execLoop r t s
  | .call t => Sys2Proof.Machine.execCall t s
  | .callr r => Sys2Proof.Machine.execCallr r s
  | .jmpr r => Sys2Proof.Machine.execJmpr r s
  | .split p t => Sys2Proof.Machine.execSplit p t s
  | .merge k => Sys2Proof.Machine.execMerge k s
  | .cont r t => Sys2Proof.Machine.execCont r t s
  | .trap k => Sys2Proof.Machine.execTrap k s
  | .sleep r => Sys2Proof.Machine.execSleep r s
  | .vadd d a b => Sys2Proof.Machine.execVadd d a b s
  | .vsub d a b => Sys2Proof.Machine.execVsub d a b s
  | .vmullo d a b => Sys2Proof.Machine.execVmullo d a b s
  | .vmulhi d a b => Sys2Proof.Machine.execVmulhi d a b s
  | .vmulhin d a b => Sys2Proof.Machine.execVmulhin d a b s
  | .vmad d a b => Sys2Proof.Machine.execVmad d a b s
  | .vand d a b => Sys2Proof.Machine.execVand d a b s
  | .vor d a b => Sys2Proof.Machine.execVor d a b s
  | .vxor d a b => Sys2Proof.Machine.execVxor d a b s
  | .vandn d a b => Sys2Proof.Machine.execVandn d a b s
  | .vshl d a b => Sys2Proof.Machine.execVshl d a b s
  | .vshr d a b => Sys2Proof.Machine.execVshr d a b s
  | .vsar d a b => Sys2Proof.Machine.execVsar d a b s
  | .vmin d a b => Sys2Proof.Machine.execVmin d a b s
  | .vmax d a b => Sys2Proof.Machine.execVmax d a b s
  | .vminn d a b => Sys2Proof.Machine.execVminn d a b s
  | .vmaxn d a b => Sys2Proof.Machine.execVmaxn d a b s
  | .vabs d a => Sys2Proof.Machine.execVabs d a s
  | .vclz d a => Sys2Proof.Machine.execVclz d a s
  | .vpopc d a => Sys2Proof.Machine.execVpopc d a s
  | .vadd64 d a b => Sys2Proof.Machine.execVadd64 d a b s
  | .vsub64 d a b => Sys2Proof.Machine.execVsub64 d a b s
  | .vaddsat d a b => Sys2Proof.Machine.execVaddsat d a b s
  | .vdp4 d a b => Sys2Proof.Machine.execVdp4 d a b s
  | .vdp4n d a b => Sys2Proof.Machine.execVdp4n d a b s
  | .vceq d m a b => Sys2Proof.Machine.execVceq d m a b s
  | .vcne d m a b => Sys2Proof.Machine.execVcne d m a b s
  | .vclt d m a b => Sys2Proof.Machine.execVclt d m a b s
  | .vcle d m a b => Sys2Proof.Machine.execVcle d m a b s
  | .vcltn d m a b => Sys2Proof.Machine.execVcltn d m a b s
  | .vclen d m a b => Sys2Proof.Machine.execVclen d m a b s
  | .fceq d m a b => Sys2Proof.Machine.execFceq d m a b s
  | .fcne d m a b => Sys2Proof.Machine.execFcne d m a b s
  | .fclt d m a b => Sys2Proof.Machine.execFclt d m a b s
  | .fcle d m a b => Sys2Proof.Machine.execFcle d m a b s
  | .fcun d m a b => Sys2Proof.Machine.execFcun d m a b s
  | .fadd d a b => Sys2Proof.Machine.execFadd d a b s
  | .fsub d a b => Sys2Proof.Machine.execFsub d a b s
  | .fmul d a b => Sys2Proof.Machine.execFmul d a b s
  | .ffma d a b => Sys2Proof.Machine.execFfma d a b s
  | .ffms d a b => Sys2Proof.Machine.execFfms d a b s
  | .fnma d a b => Sys2Proof.Machine.execFnma d a b s
  | .fmin d a b => Sys2Proof.Machine.execFmin d a b s
  | .fmax d a b => Sys2Proof.Machine.execFmax d a b s
  | .fabs d a => Sys2Proof.Machine.execFabs d a s
  | .fneg d a => Sys2Proof.Machine.execFneg d a s
  | .fdiv d a b => Sys2Proof.Machine.execFdiv d a b s
  | .fsqrt d a => Sys2Proof.Machine.execFsqrt d a s
  | .frcp d a => Sys2Proof.Machine.execFrcp d a s
  | .frsq d a => Sys2Proof.Machine.execFrsq d a s
  | .fexp2c d a => Sys2Proof.Machine.execFexp2c d a s
  | .frint d a => Sys2Proof.Machine.execFrint d a s
  | .fscale d a b => Sys2Proof.Machine.execFscale d a b s
  | .hadd2 d a b => Sys2Proof.Machine.execHadd2 d a b s
  | .hmul2 d a b => Sys2Proof.Machine.execHmul2 d a b s
  | .hfma2 d a b => Sys2Proof.Machine.execHfma2 d a b s
  | .badd2 d a b => Sys2Proof.Machine.execBadd2 d a b s
  | .bmul2 d a b => Sys2Proof.Machine.execBmul2 d a b s
  | .bfma2 d a b => Sys2Proof.Machine.execBfma2 d a b s
  | .vcvt d a c => Sys2Proof.Machine.execVcvt d a c s
  | .vpke4 d a b => Sys2Proof.Machine.execVpke4 d a b s
  | .vpke5 d a b => Sys2Proof.Machine.execVpke5 d a b s
  | .vshfl d a b => Sys2Proof.Machine.execVshfl d a b s
  | .vshflx d a b => Sys2Proof.Machine.execVshflx d a b s
  | .vshflu d a b => Sys2Proof.Machine.execVshflu d a b s
  | .vshfld d a b => Sys2Proof.Machine.execVshfld d a b s
  | .vpfxadd d a => Sys2Proof.Machine.execVpfxadd d a s
  | .vpfxmax d a => Sys2Proof.Machine.execVpfxmax d a s
  | .vredadd d a => Sys2Proof.Machine.execVredadd d a s
  | .vredfadd d a => Sys2Proof.Machine.execVredfadd d a s
  | .vredmax d a => Sys2Proof.Machine.execVredmax d a s
  | .vballot d a => Sys2Proof.Machine.execVballot d a s
  | .vget d a b => Sys2Proof.Machine.execVget d a b s
  | .vsetl d a b => Sys2Proof.Machine.execVsetl d a b s
  | .vlid d => Sys2Proof.Machine.execVlid d s
  | .vsr d c => Sys2Proof.Machine.execVsr d c s
  | .vmov d a => Sys2Proof.Machine.execVmov d a s
  | .vmovo k a => Sys2Proof.Machine.execVmovo k a s
  | .pand d a b => Sys2Proof.Machine.execPand d a b s
  | .por d a b => Sys2Proof.Machine.execPor d a b s
  | .pxor d a b => Sys2Proof.Machine.execPxor d a b s
  | .pandn d a b => Sys2Proof.Machine.execPandn d a b s
  | .pnot d a => Sys2Proof.Machine.execPnot d a s
  | .pset d b => Sys2Proof.Machine.execPset d b s
  | .ppopc d a => Sys2Proof.Machine.execPpopc d a s
  | .pfirst d a => Sys2Proof.Machine.execPfirst d a s
  | .ldv8n t vx k obs => Sys2Proof.Machine.execLdv8n t vx k obs s
  | .ldv8i t vx k obs => Sys2Proof.Machine.execLdv8i t vx k obs s
  | .ldv16n t vx k obs => Sys2Proof.Machine.execLdv16n t vx k obs s
  | .ldv16i t vx k obs => Sys2Proof.Machine.execLdv16i t vx k obs s
  | .ldv32 t vx k obs => Sys2Proof.Machine.execLdv32 t vx k obs s
  | .ldv64 t vx k obs => Sys2Proof.Machine.execLdv64 t vx k obs s
  | .ldv128 t vx k obs => Sys2Proof.Machine.execLdv128 t vx k obs s
  | .stv8 t vx k obs => Sys2Proof.Machine.execStv8 t vx k obs s
  | .stv16 t vx k obs => Sys2Proof.Machine.execStv16 t vx k obs s
  | .stv32 t vx k obs => Sys2Proof.Machine.execStv32 t vx k obs s
  | .stv64 t vx k obs => Sys2Proof.Machine.execStv64 t vx k obs s
  | .stv128 t vx k obs => Sys2Proof.Machine.execStv128 t vx k obs s
  | .lds32 r imm k obs => Sys2Proof.Machine.execLds32 r imm k obs s
  | .lds64 r imm k obs => Sys2Proof.Machine.execLds64 r imm k obs s
  | .sts32 r imm k obs => Sys2Proof.Machine.execSts32 r imm k obs s
  | .sts64 r imm k obs => Sys2Proof.Machine.execSts64 r imm k obs s
  | .ldc t vx k => Sys2Proof.Machine.execLdc t vx k s
  | .zline imm k => Sys2Proof.Machine.execZline imm k s
  | .fence obs => Sys2Proof.Machine.execFence obs s
  | .pref imm k => Sys2Proof.Machine.execPref imm k s
  | .barinit r imm k obs => Sys2Proof.Machine.execBarinit r imm k obs s
  | .barar r imm k obs => Sys2Proof.Machine.execBarar r imm k obs s
  | .barwait r imm k obs => Sys2Proof.Machine.execBarwait r imm k obs s
  | .barsync r imm k obs => Sys2Proof.Machine.execBarsync r imm k obs s
  | .bardrop r imm k obs => Sys2Proof.Machine.execBardrop r imm k obs s
  | .aadd t vx k obs => Sys2Proof.Machine.execAadd t vx k obs s
  | .aand t vx k obs => Sys2Proof.Machine.execAand t vx k obs s
  | .aor t vx k obs => Sys2Proof.Machine.execAor t vx k obs s
  | .axor t vx k obs => Sys2Proof.Machine.execAxor t vx k obs s
  | .amin t vx k obs => Sys2Proof.Machine.execAmin t vx k obs s
  | .amax t vx k obs => Sys2Proof.Machine.execAmax t vx k obs s
  | .aminn t vx k obs => Sys2Proof.Machine.execAminn t vx k obs s
  | .amaxn t vx k obs => Sys2Proof.Machine.execAmaxn t vx k obs s
  | .axchg t vx k obs => Sys2Proof.Machine.execAxchg t vx k obs s
  | .acas t vx k obs => Sys2Proof.Machine.execAcas t vx k obs s
  | .afadd t vx k obs => Sys2Proof.Machine.execAfadd t vx k obs s
  | .abinc t vx k obs => Sys2Proof.Machine.execAbinc t vx k obs s
  | .awinc t vx k obs => Sys2Proof.Machine.execAwinc t vx k obs s
  | .adecp t vx k obs => Sys2Proof.Machine.execAdecp t vx k obs s
  | .aaddl t vx k obs => Sys2Proof.Machine.execAaddl t vx k obs s
  | .aadd64 t vx k obs => Sys2Proof.Machine.execAadd64 t vx k obs s
  | .axchg64 t vx k obs => Sys2Proof.Machine.execAxchg64 t vx k obs s
  | .acas64 t vx k obs => Sys2Proof.Machine.execAcas64 t vx k obs s
  | .amin64n t vx k obs => Sys2Proof.Machine.execAmin64n t vx k obs s
  | .mma c a b m d => Sys2Proof.Machine.execMma c a b m d s
  | .mmaz c a b m d => Sys2Proof.Machine.execMmaz c a b m d s
  | .mclaim acc a n => Sys2Proof.Machine.execMclaim acc a n s
  | .mrel acc a n => Sys2Proof.Machine.execMrel acc a n s
  | .mldo a c d => Sys2Proof.Machine.execMldo a c d s
  | .msta a c d m => Sys2Proof.Machine.execMsta a c d m s
  | .mzacc a b => Sys2Proof.Machine.execMzacc a b s
  | .mbatonQuery d => Sys2Proof.Machine.execMbatonQuery d s
  | .qmv c d b ni no => Sys2Proof.Machine.execQmv c d b ni no s
  | .qmva c d b ni no => Sys2Proof.Machine.execQmva c d b ni no s
  | .qmvb c d b ni no => Sys2Proof.Machine.execQmvb c d b ni no s
  | .tdset a c => Sys2Proof.Machine.execTdset a c s
  | .tdget a c => Sys2Proof.Machine.execTdget a c s
  | .attn a b c d => Sys2Proof.Machine.execAttn a b c d s
  | .attnf a c d => Sys2Proof.Machine.execAttnf a c d s
  | .attnz a => Sys2Proof.Machine.execAttnz a s
  | .mstat d => Sys2Proof.Machine.execMstat d s
  | .cpy a b c d => Sys2Proof.Machine.execCpy a b c d s
  | .cpywp c d => Sys2Proof.Machine.execCpywp c d s
  | .blkcpy a b c d => Sys2Proof.Machine.execBlkcpy a b c d s
  | .gatherf a c d => Sys2Proof.Machine.execGatherf a c d s
  | .scatterf a c d => Sys2Proof.Machine.execScatterf a c d s
  | .launch a b c d => Sys2Proof.Machine.execLaunch a b c d s
  | .lwait c => Sys2Proof.Machine.execLwait c s
  | .spawn a b c d => Sys2Proof.Machine.execSpawn a b c d s
  | .join b => Sys2Proof.Machine.execJoin b s
  | .reorder align d k p n => Sys2Proof.Machine.execReorder align d k p n s
  | .mreg a b c d => Sys2Proof.Machine.execMreg a b c d s
  | .mreq a c d => Sys2Proof.Machine.execMreq a c d s
  | .mreply c => Sys2Proof.Machine.execMreply c s
  | .bgrant a b c d => Sys2Proof.Machine.execBgrant a b c d s
  | .chsend c d => Sys2Proof.Machine.execChsend c d s
  | .chrecv c d => Sys2Proof.Machine.execChrecv c d s
  | .exproute b c d => Sys2Proof.Machine.execExproute b c d s
  | .cfill a b d => Sys2Proof.Machine.execCfill a b d s
  | .hread c d => Sys2Proof.Machine.execHread c d s
  | .hwrite c d => Sys2Proof.Machine.execHwrite c d s
  | .hpatch d => Sys2Proof.Machine.execHpatch d s
  | .hkill d => Sys2Proof.Machine.execHkill d s
  | .grow a c => Sys2Proof.Machine.execGrow a c s
  | .shrink a => Sys2Proof.Machine.execShrink a s
  | .evsel a b => Sys2Proof.Machine.execEvsel a b s
  | .evrd a c => Sys2Proof.Machine.execEvrd a c s
  | .ret => Sys2Proof.Machine.execRet s
  | .yield => Sys2Proof.Machine.execYield s
  | .exit => Sys2Proof.Machine.execExit s
  | .rett => Sys2Proof.Machine.execRett s
  | .vlexit => Sys2Proof.Machine.execVlexit s
  | .stdrain => Sys2Proof.Machine.execStdrain s
  | .mbatonTake => Sys2Proof.Machine.execMbatonTake s
  | .mbatonPass => Sys2Proof.Machine.execMbatonPass s
  | .mdone => Sys2Proof.Machine.execMdone s
  | .nop => Sys2Proof.Machine.execNop s
  | .brkpt => Sys2Proof.Machine.execBrkpt s
  | .hend => Sys2Proof.Machine.execHend s
  | .hkillt => Sys2Proof.Machine.execHkillt s
  | .esc e => Sys2Proof.Machine.execEsc e s
  | .sleepEnd c => Sys2Proof.Machine.execSleepEnd c s
  | .stdrainResolve c => Sys2Proof.Machine.execStdrainResolve c s
  | .barrierApply t k ops => Sys2Proof.Machine.execBarrierApply t k ops s
  | .loadDataReturn g op lanes => Sys2Proof.Machine.execLoadDataReturn g op lanes s
  | .storePerform g op lanes => Sys2Proof.Machine.execStorePerform g op lanes s
  | .storeFaultRecord g op => Sys2Proof.Machine.execStoreFaultRecord g op s
  | .atomicPerform g op lanes => Sys2Proof.Machine.execAtomicPerform g op lanes s
  | .prefComplete g op => Sys2Proof.Machine.execPrefComplete g op s
  | .mclaimGrant c => Sys2Proof.Machine.execMclaimGrant c s
  | .qmvQuarterComplete parts => Sys2Proof.Machine.execQmvQuarterComplete parts s
  | .mldoComplete g op => Sys2Proof.Machine.execMldoComplete g op s
  | .mmaComplete g op rerun bad => Sys2Proof.Machine.execMmaComplete g op rerun bad s
  | .mstaComplete g op => Sys2Proof.Machine.execMstaComplete g op s
  | .mzaccComplete g op => Sys2Proof.Machine.execMzaccComplete g op s
  | .attnComplete g op rerun bad => Sys2Proof.Machine.execAttnComplete g op rerun bad s
  | .attnfComplete g op => Sys2Proof.Machine.execAttnfComplete g op s
  | .attnzComplete g op => Sys2Proof.Machine.execAttnzComplete g op s
  | .cpywpResult g op => Sys2Proof.Machine.execCpywpResult g op s
  | .copyComplete g op n answers => Sys2Proof.Machine.execCopyComplete g op n answers s
  | .launchComplete g op => Sys2Proof.Machine.execLaunchComplete g op s
  | .spawnComplete g op => Sys2Proof.Machine.execSpawnComplete g op s
  | .reorderArrive c => Sys2Proof.Machine.execReorderArrive c s
  | .reorderCollectiveStart t => Sys2Proof.Machine.execReorderCollectiveStart t s
  | .reorderCollectiveComplete t => Sys2Proof.Machine.execReorderCollectiveComplete t s
  | .mregSliceResult g op => Sys2Proof.Machine.execMregSliceResult g op s
  | .mreqArrive g op lane => Sys2Proof.Machine.execMreqArrive g op lane s
  | .mordantBatchClose obj => Sys2Proof.Machine.execMordantBatchClose obj s
  | .combinerWaveStart obj => Sys2Proof.Machine.execCombinerWaveStart obj s
  | .combinerWaveLimit g => Sys2Proof.Machine.execCombinerWaveLimit g s
  | .chsendAccept g op => Sys2Proof.Machine.execChsendAccept g op s
  | .chrecvDeliver g op => Sys2Proof.Machine.execChrecvDeliver g op s
  | .channelMessageArrive task cap words lanes => Sys2Proof.Machine.execChannelMessageArrive task cap words lanes s
  | .expertReplicaCommit die entry => Sys2Proof.Machine.execExpertReplicaCommit die entry s
  | .cfillComplete g op n => Sys2Proof.Machine.execCfillComplete g op n s
  | .growGrant c => Sys2Proof.Machine.execGrowGrant c s
  | .growDeadlockFail core => Sys2Proof.Machine.execGrowDeadlockFail core s
  | .shrinkApply c => Sys2Proof.Machine.execShrinkApply c s
  | .laneCollectionClose t cluster => Sys2Proof.Machine.execLaneCollectionClose t cluster s
  | .handlerWaveStart t cluster => Sys2Proof.Machine.execHandlerWaveStart t cluster s
  | .laneWaveLimit g => Sys2Proof.Machine.execLaneWaveLimit g s
  | .slotPromotion g => Sys2Proof.Machine.execSlotPromotion g s
  | .graceForcedSave g => Sys2Proof.Machine.execGraceForcedSave g s
  | .topupLand t ins => Sys2Proof.Machine.execTopupLand t ins s
  | .contextRestore c => Sys2Proof.Machine.execContextRestore c s
  | .groupEvictSave g => Sys2Proof.Machine.execGroupEvictSave g s
  | .evictedGroupReturn t gi => Sys2Proof.Machine.execEvictedGroupReturn t gi s
  | .launchCommandStart q => Sys2Proof.Machine.execLaunchCommandStart q s
  | .leaseResidencyWalk task => Sys2Proof.Machine.execLeaseResidencyWalk task s
  | .childGridAccept task => Sys2Proof.Machine.execChildGridAccept task s
  | .teamPlace die => Sys2Proof.Machine.execTeamPlace die s
  | .stealMessage n => Sys2Proof.Machine.execStealMessage n s
  | .stealTeamsArrive n => Sys2Proof.Machine.execStealTeamsArrive n s
  | .taskQueuePlace die cluster => Sys2Proof.Machine.execTaskQueuePlace die cluster s
  | .groupRetire g => Sys2Proof.Machine.execGroupRetire g s
  | .spawnTaskRetire task => Sys2Proof.Machine.execSpawnTaskRetire task s
  | .gridRetire task => Sys2Proof.Machine.execGridRetire task s
  | .qtailWrite q v => Sys2Proof.Machine.execQtailWrite q v s
  | .qctlWrite q v => Sys2Proof.Machine.execQctlWrite q v s
  | .queueSwitchOut q => Sys2Proof.Machine.execQueueSwitchOut q s
  | .queueSwitchOutDone q => Sys2Proof.Machine.execQueueSwitchOutDone q s
  | .queueSwitchIn q => Sys2Proof.Machine.execQueueSwitchIn q s
  | .iqtailWrite v => Sys2Proof.Machine.execIqtailWrite v s
  | .iqctlWrite v => Sys2Proof.Machine.execIqctlWrite v s
  | .invalidateCommand => Sys2Proof.Machine.execInvalidateCommand s
  | .rqheadWrite rq v => Sys2Proof.Machine.execRqheadWrite rq v s
  | .ggo v => Sys2Proof.Machine.execGgo v s
  | .registerWrite agent off v => Sys2Proof.Machine.execRegisterWrite agent off v s
  | .pageMigrationStart asid va frame => Sys2Proof.Machine.execPageMigrationStart asid va frame s
  | .pageMigrationEnd n => Sys2Proof.Machine.execPageMigrationEnd n s
  | .softErrorCorrected core => Sys2Proof.Machine.execSoftErrorCorrected core s
  | .coreStorageUncorrectable core where_ => Sys2Proof.Machine.execCoreStorageUncorrectable core where_ s
  | .engineStorageUncorrectable core acc slot => Sys2Proof.Machine.execEngineStorageUncorrectable core acc slot s
  | .madderUncorrectable t => Sys2Proof.Machine.execMadderUncorrectable t s
  | .memoryUncorrectable path => Sys2Proof.Machine.execMemoryUncorrectable path s
  | .packageReset => Sys2Proof.Machine.execPackageReset s
  | .bootVerify images => Sys2Proof.Machine.execBootVerify images s
  | .umberImageLoad image => Sys2Proof.Machine.execUmberImageLoad image s
  | .umberReplaceComplete => Sys2Proof.Machine.execUmberReplaceComplete s
  | .attestationReport nonce => Sys2Proof.Machine.execAttestationReport nonce s
  | .portDown port => Sys2Proof.Machine.execPortDown port s
  | .peerRequest req => Sys2Proof.Machine.execPeerRequest req s
  | .powerThrottle state => Sys2Proof.Machine.execPowerThrottle state s
  | .eventCountWrite e v => Sys2Proof.Machine.execEventCountWrite e v s
  | .hostMemoryAccess acc => Sys2Proof.Machine.execHostMemoryAccess acc s
  | .portRetrain port => Sys2Proof.Machine.execPortRetrain port s
  | .expertRoutingTableWrite die w => Sys2Proof.Machine.execExpertRoutingTableWrite die w s

end Sys2Proof.Machine
end

