-- ==== Sys2Proof/Machine/Time.lean ====
section
/-! DEFINITION. The end of a core cycle: what lands without an event of its own, the budgets' settlement, contexts that come
to count as saved, batches that close, and the counts of time (05 R99, 10 R188, R200, 19 R295, R300). -/

namespace Sys2Proof.Machine

/-- An operation that lands at the end of a cycle: a grant, a lookup of experts, a microcode sequence. -/
def Op.lands (o : Op) : Bool :=
  match o.kind with
  | .grant _ _ _ => true
  | .exproute _ _ _ => true
  | .umber _ => true
  | _ => false

/-- One of them lands in this cycle, or in a later one: the part decides (log 55). -/
def State.landOp (r : OpRef) (s : State) : State :=
  match (s.grp r.g).findOp r.op with
  | none => s
  | some o =>
    if Config.freeBit s.free then s.draw else (((s.draw).landGrant r.g o).landRoute r.g o).landUmber r.g o

/-- Every operation that lands so has had its chance. -/
def State.landOps (s : State) : State :=
  (s.groups.flatMap (fun e => (e.2.ops.filter (fun o => o.lands && !o.gate)).map (fun o => (⟨slotOfKey e.1, o.id⟩ : OpRef)))).foldl
    (fun s r => s.landOp r) s

/-- Slots of which every context has come to count as saved pass the baton and withdraw their request (11 R222, 19
R300). -/
def State.parkSlots (s : State) : State :=
  s.groups.keys.foldl (fun t k =>
    let g := slotOfKey k
    let c := t.core g.coreRef
    if t.onward g = .entry ∧ (c.baton = some g ∨ c.batonReq.elem g) then t.parkBaton g else t) s

/-- An operation on which a context that waits at a header counts as saved (19 R300). -/
def Op.awaits (o : Op) : Bool :=
  match o.kind with
  | .lwait _ => true
  | .chsend _ _ _ => true
  | .chrecv _ _ _ => true
  | _ => false

/-- A context stands at a header that waits for a flag which counts an outstanding LWAIT, CHSEND or CHRECV (19 R300). -/
def State.awaitsSaved (s : State) (c : CtxId) : Bool :=
  let t : State := { s with cur := c }
  s.mayIssue c && t.ctx.due && t.headerDelivery.isNone &&
    (match t.nextWord with
     | .word (.ok (.clauseHeader w _ _ _ _ _)) _ _ =>
       (waitFlags w).any (fun f => (s.grp c.g).ops.any (fun o => o.awaits && decide (o.flag = some f)))
     | _ => false)

/-- Under a pending yield such contexts count as saved where they stand, until it ends (19 R300, R303). -/
def State.holdAwaiting (s : State) : State :=
  { s with groups := s.groups.map (fun e =>
      let g := slotOfKey e.1
      if s.onward g = .entry then
        (e.1, { e.2 with ctxs := e.2.ctxs.map (fun x => (x.1, if s.awaitsSaved ⟨g, x.1⟩ then { x.2 with stop := .entry } else x.2)) })
      else e) }

/-! ## The choice of what issues (10 R187, R188) -/

/-- The context that a slot offers: of its ready ones, the one whose last issue is oldest. -/
def State.offered (s : State) (e : Nat × Group) : Option CtxId :=
  let g := slotOfKey e.1
  ((e.2.ctxs.filter (fun c => s.ready ⟨g, c.1⟩)).foldl (fun b c =>
    match b with
    | none => some c
    | some x => if c.2.lastIssue < x.2.lastIssue then some c else some x) none).map (fun c => ⟨g, c.1⟩)

/-- The class of a slot: system slots, then groups whose team is not yield-pending, then the others. -/
def State.issueClass (s : State) (x : Group) : Nat :=
  if x.kind = .group then (if (s.team x.team).yieldPending then 2 else 1) else 0

/-- Of two ready slots of a partition, a is picked before b: a system slot before a group; then a promoted slot, of two
the longer waiting; then the higher class, and in it the group placed earlier. -/
def State.pickedBefore (s : State) (a b : Group) : Bool :=
  let ca := s.issueClass a
  let cb := s.issueClass b
  let pa := decide (1024 ≤ a.waited)
  let pb := decide (1024 ≤ b.waited)
  if decide (ca = 0) != decide (cb = 0) then decide (ca = 0)
  else if pa != pb then pa
  else if pa then decide (b.waited < a.waited)
  else decide (ca < cb) || (decide (ca = cb) && decide (a.placed < b.placed))

/-- The context that a partition of a core issues from in this cycle, unless it has issued in it; of equals the lower
slot. -/
def State.picked (s : State) (k : CoreRef) (p : Nat) : Option CtxId :=
  if s.issuedNow ⟨k.die, k.core, p⟩ then none
  else (((s.groups.filter (fun e => decide ((slotOfKey e.1).coreRef = k) && decide ((slotOfKey e.1).partition = p))).filterMap
      (fun e => (s.offered e).map (fun c => (e.2, c)))).foldl (fun b e =>
    match b with
    | none => some e
    | some x => if s.pickedBefore e.1 x.1 then some e else some x) none).map Prod.snd

/-- Each partition that has a ready slot has issued in this cycle (10 R188). -/
def State.allIssued (s : State) : Bool :=
  s.groups.all (fun e => (s.picked (slotOfKey e.1).coreRef (slotOfKey e.1).partition).isNone)

/-! ## The end of a cycle -/

/-- A core cycle passes: what it still has to do, the heads of launch queues that start in an I/O-die cycle that ends (16 R268),
then in the order of 19 R295, then TICK, each core's cycle and barrier-stall counts, the waiting slots and their promotion
(05 R99, 10 R188, R200), and records that the record queues take at last (24 R373). -/
def State.passCycle (s0 : State) : State :=
  let ends := decide (l2Cycle (s0.tick + 1) ≠ l2Cycle s0.tick)
  let s1 := (if ends then s0.startHeads else s0).landOps.endDrops.settle.holdAwaiting.parkSlots.markReady
  let s := s1.groups.keys.foldl (fun t k => t.promote (slotOfKey k)) s1
  s0.syncAway ((({ s.cores.keys.foldl (fun t k => (t.count (coreOfKey k) 1 1).count (coreOfKey k) 13 (s.stalls k)) s with
    groups := s.groups.map s0.wait
    mordant := if !ends then s.mordant else s.mordant.map (fun e => (e.1, e.2.settle (s.tick + 1)))
    tick := s.tick + 1 } : State).flushRecords true 256).flushRecords false 256)

/-- Up to n core cycles pass: each once every partition with a ready slot has issued in it (10 R188; log 97). -/
def State.passTime : Nat → State → State
  | 0, s => s
  | n + 1, s => if s.allIssued then State.passTime n s.passCycle else s

end Sys2Proof.Machine
end

