-- ==== Sys2Proof/Machine/Schedule.lean ====
section
/-! DEFINITION. The model's own schedule: the turns the machine can take by itself, and the one it takes where the
agenda is empty (log 2, 6; DESIGN CHOICE, safe). An event named here has no effect where the manual's conditions for it
do not hold, so the list need not be exact. -/

namespace Sys2Proof.Machine

/-! ## Turns -/

/-- A context's turn: its partition issues its next word where it is the partition's choice (02 R14-R17, 10 R187, R188), and
no other in this cycle. A wave's 4,097th instruction is its last turn (08 R152, 20 R327). A JOIN's hold ends once its counter
reads 0 (16 R281). -/
def issueTurn (c : CtxId) (s : State) : Host.Outcome State Fault Refusal :=
  if s.picked c.g.coreRef c.g.partition = some c then
    let s1 : State := { s.pick c.g with cur := c }
    if (s.grp c.g).spent then .next (s1.waveLimit c.g)
    else
      match s1.nextWord with
      | .nothing => .next s1
      | .lease => .next (s1.endTaskAt c causeLease 0 s1.ctx.pc)
      | .handlerFault => .next (fetchFault s1)
      | .noHeader => .next (s1.illegalHeader s1.ctx.pc 4)
      | .word (.ok i) _ _ => exec i s1
      | .word (.escape e) _ _ => execEsc e s1
      | .word (.illegal sub) long cls => .next (illegalWord long cls sub s1)
  else if s.mayIssue c then .next { s with cur := c }
  else .next (s.syncAway (s.pollJoin (s.onward c.g) c))

/-- An event of the management controller, which an unbooted part takes too (27 R399). -/
def bootEvent (i : Instr) : Bool :=
  match i with
  | .packageReset => true
  | .bootVerify _ => true
  | .attestationReport _ => true
  | .powerThrottle _ => true
  | _ => false

/-- A turn of the machine: an unbooted part runs nothing (27 R399; log 84). -/
def turn (t : Turn) (s : State) : Host.Outcome State Fault Refusal :=
  match t with
  | .issue c => if s.io.boot.booted then issueTurn c s else .next s
  | .event i => if s.io.boot.booted || bootEvent i then exec i s else .next s
  | .tick n => .next (s.passTime n)

/-- Something the machine does. -/
abbrev OwnAct := State → Host.Outcome State Fault Refusal

/-- Every lane of a group. -/
def allLanes : Word := 0xFFFFFFFF

/-- The event that ends or advances an outstanding operation: all it can do at once. Rows that a peer owns, and what a
peer sends, are inputs and are not here. -/
def Op.acts (g : SlotRef) (team : Nat) (o : Op) : List OwnAct :=
  match o.kind with
  | .load _ _ _ => [execLoadDataReturn g o.id allLanes]
  | .loadS _ _ _ => [execLoadDataReturn g o.id allLanes]
  | .ldc _ _ => [execLoadDataReturn g o.id allLanes]
  | .store _ _ _ _ => [execStorePerform g o.id allLanes, execStoreFaultRecord g o.id]
  | .zline _ _ => [execStorePerform g o.id allLanes, execStoreFaultRecord g o.id]
  | .pref _ _ => [execPrefComplete g o.id]
  | .atomic _ _ _ _ => [execAtomicPerform g o.id allLanes]
  | .barrier _ b _ _ _ => [execBarrierApply team b [⟨g, o.id⟩]]
  | .qmv q => [execQmvQuarterComplete [⟨⟨g, o.id⟩, q.quarters⟩]]
  | .lwait _ => []
  | .launch _ _ _ _ => [execLaunchComplete g o.id]
  | .spawn _ _ _ _ => [execSpawnComplete g o.id]
  | .join _ => []
  | .chsend _ _ _ => [execChsendAccept g o.id]
  | .chrecv _ _ _ => [execChrecvDeliver g o.id]
  | .cfill _ _ len _ => [execCfillComplete g o.id len]
  | .mreg _ _ _ _ _ => [execMregSliceResult g o.id]
  | .mreq _ _ _ _ todo sent => (lanesOf (todo &&& ~~~sent)).map (fun l => execMreqArrive g o.id l)
  | .mldo _ _ _ _ => [execMldoComplete g o.id]
  | .mma _ _ _ _ _ _ _ => [execMmaComplete g o.id 0 []]
  | .msta _ _ _ _ _ _ => [execMstaComplete g o.id]
  | .mzacc _ _ => [execMzaccComplete g o.id]
  | .attn _ _ _ _ _ => [execAttnComplete g o.id false false]
  | .attnf _ _ _ _ _ => [execAttnfComplete g o.id]
  | .attnz _ _ => [execAttnzComplete g o.id]
  | .cpy _ _ _ len => [execCopyComplete g o.id len []]
  | .blkcpy _ b => [execCopyComplete g o.id (b.rows.length * b.bs) []]
  | .fabric _ f => f.rows.map (fun r => execCopyComplete g o.id r.pos [])
  | .cpywp _ _ _ => [execCpywpResult g o.id]
  | .grant _ _ _ => []
  | .exproute _ _ _ => []
  | .umber _ => []

/-- What a context waits for comes about. -/
def Context.acts (c : CtxId) (x : Context) : List OwnAct :=
  match x.stop with
  | .running => []
  | .join _ => [issueTurn c]
  | .sleep _ => [execSleepEnd c]
  | .grow _ _ _ => [execGrowGrant c]
  | .shrink _ => [execShrinkApply c]
  | .mclaim _ _ _ _ => [execMclaimGrant c]
  | .stdrain => [execStdrainResolve c]
  | .reorder _ _ => [execReorderArrive c]
  | .saved _ => [execContextRestore c]
  | .graceSaved _ => [execContextRestore c]
  | .entry => [execContextRestore c]
  | .merge _ => []
  | .barrier _ _ _ => []
  | .baton => []
  | .laneTrap => []
  | .handlerWait => []
  | .replay _ => []

/-- A slot's own events. -/
def Group.acts (g : SlotRef) (x : Group) : List OwnAct :=
  execGroupRetire g ::
    (match x.kind with
     | .group => [execSlotPromotion g, execGraceForcedSave g, execGroupEvictSave g]
     | .laneWave _ _ => [execLaneWaveLimit g]
     | .combiner _ => [execCombinerWaveLimit g])

/-- A team's own events: its transfers, its collective, the collection of its trapping lanes, the return of its groups. -/
def Team.acts (t : Nat) (m : Team) : List OwnAct :=
  [execTopupLand t true, execTopupLand t false, execReorderCollectiveStart t, execReorderCollectiveComplete t] ++
    m.collect.flatMap (fun e => [execLaneCollectionClose t e.1, execHandlerWaveStart t e.1]) ++
    m.slots.filterMap (fun e =>
      match e.2 with
      | .image _ _ => some (execEvictedGroupReturn t e.1)
      | _ => none)

/-- A task's own events: its way to its start, and its retirement, which an ended task reaches from any phase. -/
def Task.acts (k : Nat) (j : Task) : List OwnAct :=
  let retire := if j.spawn then execSpawnTaskRetire k else execGridRetire k
  match j.phase with
  | .created => [execLeaseResidencyWalk k, retire]
  | .resident => [execChildGridAccept k, retire]
  | .accepted => [retire]
  | .retired => if j.spawn then [execSpawnTaskRetire k] else []

/-- The events of a die: placement, its clusters' task queues, its new replicas. -/
def dieActs (d : Nat) (x : Die) : List OwnAct :=
  execTeamPlace d :: (List.range 8).map (fun c => execTaskQueuePlace d c) ++ x.replicas.map (fun i => execExpertReplicaCommit d i)

/-- The events of the I/O die that need no agent outside. -/
def IoDie.acts (io : IoDie) : List OwnAct :=
  io.queues.flatMap (fun e => [execLaunchCommandStart e.1, execQueueSwitchOutDone e.1]) ++ [execInvalidateCommand] ++
    io.migrations.map (fun m => execPageMigrationEnd m.id)

/-- Events of one thing, with their place in the round: what sort of thing it is, its own number, and the event. -/
def rounds (sort key : Nat) (as : List OwnAct) : List (Nat × OwnAct) :=
  as.zipIdx.map (fun a => ((sort * 2 ^ 64 + key) * 2 ^ 16 + a.2, a.1))

/-- Every turn that the machine can take by itself, with its place in the round: each partition of each core issues, then what
else there is. A thing keeps its place as long as it stands, so that no other thing's end passes it over. -/
def State.acts (s : State) : List (Nat × OwnAct) :=
  (s.groups.map (fun e => (slotOfKey e.1).coreRef)).eraseDups.flatMap (fun k =>
      (List.range 4).flatMap (fun p => rounds 0 (4 * k.key + p) ((s.picked k p).map issueTurn).toList)) ++
    s.groups.flatMap (fun e =>
      let g := slotOfKey e.1
      e.2.ctxs.flatMap (fun c => rounds 1 (64 * e.1 + c.1) (c.2.acts ⟨g, c.1⟩)) ++
        e.2.ops.flatMap (fun o => rounds 2 o.id (o.acts g e.2.team)) ++ rounds 3 e.1 (e.2.acts g)) ++
    (s.teams.flatMap (fun e => rounds 4 e.1 (e.2.acts e.1)) ++ s.tasks.flatMap (fun e => rounds 5 e.1 (e.2.acts e.1)) ++
      s.cores.flatMap (fun e => rounds 6 e.1 [execGrowDeadlockFail (coreOfKey e.1)]) ++
      (List.range 4).flatMap (fun d => rounds 7 d (dieActs d (s.die d))) ++
      s.steals.flatMap (fun m => rounds 8 m.id [execStealMessage m.id, execStealTeamsArrive m.id]) ++
      s.mordant.flatMap (fun e => rounds 9 e.1 [execMordantBatchClose e.1, execCombinerWaveStart e.1]) ++
      rounds 10 0 (s.io.acts ++ [execUmberReplaceComplete]))

/-- The turn of an empty agenda: the next of the round; at its end a cycle passes, where each partition with a ready slot has
issued, and the round begins anew. -/
def State.nextAct (s : State) : Host.Outcome State Fault Refusal :=
  let due := if s.io.boot.booted then s.acts.filter (fun a => decide (s.cursor ≤ a.1)) else []
  match due.foldl (fun (b : Option (Nat × OwnAct)) a =>
    match b with
    | none => some a
    | some x => if a.1 < x.1 then some a else some x) none with
  | some (n, a) => a { s with cursor := n + 1 }
  | none => .next (({ s with cursor := 0 } : State).passTime 1)

end Sys2Proof.Machine
end

