-- ==== Sys2Proof/Machine/Step.lean ====
section
/-! DEFINITION. One step of the machine: the next turn of the agenda; with none left, the next turn of the model's own
schedule (log 2, 6). -/

namespace Sys2Proof.Machine

/-- One step. -/
def step (s : State) : Host.Outcome State Fault Refusal :=
  match s.agenda with
  | [] => s.nextAct
  | t :: r => turn t { s with agenda := r }

/-- The state with an instruction's word placed where the next step fetches it. -/
def State.withFetchWord (s : State) (nbits w : Nat) : State := s.load (max 4 (nbits / 8)) w

end Sys2Proof.Machine
end

