-- ==== Sys2Proof/Safety.lean ====
section
/-! DEFINITION. What a safe step is, the invariants that claims use, and the views in which claims say what an
instruction leaves unchanged. A view leaves out what every issue changes: the counters of a team and the pools of a task
(19 R295-R298), why a context waits and when it last issued, and the counts of issued instructions and ready cycles (10
R188, R200, 19 R302). -/

namespace Sys2Proof

/-- A step that neither faults nor refuses. -/
def SafeStep (s : Machine.State) : Prop := ∃ t, Machine.step s = .next t

/-- Memory is in its canonical form. -/
def MemInv (s : Machine.State) : Prop := Machine.Memory.wf s.mem = true

namespace Machine

/-! ## Views -/

/-- A context without why it waits and when it last issued. -/
def Context.bare (c : Context) : Context := { c with stop := .running, lastIssue := 0 }

/-- A group without its counts of instructions and ready cycles. -/
def Group.bare (g : Group) : Group :=
  { g with
    ctxs := g.ctxs.map (fun e => (e.1, e.2.bare))
    executed := 0
    graceCount := 0
    graceDue := false
    waited := 0
    promoted := false }

/-- A team without its counters. -/
def Team.bare (m : Team) : Team := { m with ci := 0, ct := 0 }

/-- A task without its pools. -/
def Task.bare (k : Task) : Task := { k with pi := 0, pt := 0 }

/-- A core without its event counts. -/
def Core.bare (c : Core) : Core := { c with counters := [], totals := [], recent := [] }

/-- Everything outside groups, teams, tasks and cores, without the model's own numbering (log 15). -/
def State.bare (s : State) : State := { s with groups := [], teams := [], tasks := [], cores := [], serial := 0 }

/-- The slots that hold a group, and the teams and tasks that exist. -/
def State.names (s : State) : List Nat × List Nat × List Nat := (s.groups.keys, s.teams.keys, s.tasks.keys)

/-- t is s but for what the group in slot g has become, f of what it was: every other group, every team, task and core,
all of memory and everything else stands, in their views. -/
structure OnlyGroup (g : SlotRef) (f : Group → Group) (s t : State) : Prop where
  names : t.names = s.names
  here : (t.grp g).bare = (f (s.grp g)).bare
  others : ∀ h : SlotRef, h.key ≠ g.key → (t.grp h).bare = (s.grp h).bare
  teams : ∀ k, (t.team k).bare = (s.team k).bare
  tasks : ∀ k, (t.task k).bare = (s.task k).bare
  cores : ∀ c, (t.core c).bare = (s.core c).bare
  rest : t.bare = s.bare

/-- The state without what holds memory beside it: its bytes, its zero lines, and what caches and agents hold of it. -/
def State.noMemory (s : State) : State := { s with mem := [], hist := [], zeroLines := [], atomicLines := [] }

/-- t is s but for what the group in slot g has become, f of what it was, and for bytes within n from a (with what caches and
agents hold of memory); everything else stands, in its view. -/
structure OnlyGroupAnd (g : SlotRef) (f : Group → Group) (a n : Nat) (s t : State) : Prop where
  names : t.names = s.names
  here : (t.grp g).bare = (f (s.grp g)).bare
  others : ∀ h : SlotRef, h.key ≠ g.key → (t.grp h).bare = (s.grp h).bare
  teams : ∀ k, (t.team k).bare = (s.team k).bare
  tasks : ∀ k, (t.task k).bare = (s.task k).bare
  cores : ∀ c, { (t.core c).bare with l1 := [] } = { (s.core c).bare with l1 := [] }
  bytes : ∀ p, p < a ∨ a + n ≤ p → t.byte p = s.byte p
  rest : t.bare.noMemory = s.bare.noMemory

/-- A context stands where the machine issues, in a team and a task that exist. -/
def State.placed (s : State) : Bool :=
  s.here && (s.teams.look s.me.team).isSome && (s.tasks.look s.me.task).isSome

/-- The group that issues, without a combiner wave: what it does is charged to its team (19 R296). -/
def State.plain (s : State) : Bool := s.placed && s.me.isPlain

/-- The team of the group that issues has paid ni units and nt bytes (19 R296-R298). -/
def Paid (ni nt : Int) (s t : State) : Prop :=
  (t.team s.me.team).ci = sat64 ((s.team s.me.team).ci - ni) ∧
    (t.team s.me.team).ct = sat64 ((s.team s.me.team).ct - nt)

/-- The context goes on n bytes further, behind an instruction of its clause (02 R16). -/
def Group.goOn (i n : Nat) (g : Group) : Group := g.modCtx i (Context.advance n false)

/-- The context goes on at a header. -/
def Group.goTo (i : Nat) (a : DWord) (g : Group) : Group := g.modCtx i (fun c => { c with pc := a, due := true })

/-- The context goes on behind a class-010 word, where a header must stand (02 R17). -/
def Group.goBehind (i : Nat) (g : Group) : Group := g.modCtx i (Context.advance 4 true)

/-- The context that issued an instruction at s runs on in t. -/
def RunsOn (s t : State) : Prop := s.ctx.stop = .running → ((t.grp s.cur.g).ctx s.cur.i).stop = .running

/-- The instruction completes: it takes a next state, its team pays ni units and nt bytes, its group becomes f of what
it was, its context runs on, and nothing else changes. -/
def Runs (i : Instr) (ni nt : Int) (f : Group → Group) (s : State) : Prop :=
  ∃ t, exec i s = .next t ∧ OnlyGroup s.cur.g f s t ∧ Paid ni nt s t ∧ RunsOn s t

/-- The same, but its context stops, for w. -/
def RunsInto (w : Stop) (i : Instr) (ni nt : Int) (f : Group → Group) (s : State) : Prop :=
  ∃ t, exec i s = .next t ∧ OnlyGroup s.cur.g f s t ∧ Paid ni nt s t ∧ ((t.grp s.cur.g).ctx s.cur.i).stop = w

/-- An instruction completes, and what it orders of memory follows (23 R352, R359). -/
def RunsThen (i : Instr) (ni nt : Int) (f : Group → Group) (after : State → State) (s : State) : Prop :=
  ∃ u, exec i s = .next (after u) ∧ OnlyGroup s.cur.g f s u ∧ Paid ni nt s u ∧ RunsOn s u

/-- A scalar instruction completes: s[d] becomes v, its team pays ni units, it goes on 4 bytes; nothing else changes. -/
def WritesS (ni : Int) (i : Instr) (d : Nat) (v : DWord) (s : State) : Prop :=
  Runs i ni 0 (fun g => (g.modCtx s.cur.i (Context.setS d v)).goOn s.cur.i 4) s

/-- A lane instruction with one destination register completes: v[d] of every active lane becomes x, every other lane and
register keeps its word, the events join FPFLAGS (and those of this cycle, 04 R70), q takes v[d] in every lane of the lane set (05 R86), and nothing else
changes. -/
def WritesV (units : Int) (size : Nat) (i : Instr) (d : Nat) (x : Nat → Word) (ev : Ev) (s : State) : Prop :=
  ∃ t, exec i s = .next t ∧ Paid units 0 s t ∧ RunsOn s t ∧
    let u := t.grp s.cur.g
    OnlyGroup s.cur.g
      (fun g =>
        ({ g with v := u.v, q := u.q, fpflags := g.fpflags ||| ev, fpnow := g.fpnow ||| ev } : Group).goOn s.cur.i size) s t ∧
    (∀ r l, l < 32 → u.vreg r l = if r = d ∧ inMask s.active l = true then x l else s.me.vreg r l) ∧
    (∀ l, l < 32 → inMask s.laneSet l = true →
      u.qreg 0 l = u.vreg d l ∧ u.qreg 1 l = s.me.qreg 0 l ∧ u.qreg 2 l = s.me.qreg 1 l ∧ u.qreg 3 l = s.me.qreg 2 l) ∧
    (∀ k l, l < 32 → 4 ≤ k ∨ inMask s.laneSet l = false → u.qreg k l = s.me.qreg k l)

/-- The events of the active lanes together (04 R70). -/
def State.events (s : State) (e : Nat → Ev) : Ev := (lanesOf s.active).foldl (fun a l => a ||| e l) 0

/-- A floating-point lane instruction completes with these results. -/
def WritesF (units : Int) (size : Nat) (i : Instr) (d : Nat) (x : Nat → FRes) (s : State) : Prop :=
  WritesV units size i d (fun l => BitVec.ofNat 32 (x l).bits) (s.events (fun l => (x l).ev)) s

/-- An instruction completes that writes p[d] in the active lanes, and nothing else (08 R144, R145). -/
def WritesP (i : Instr) (d : Nat) (x : Nat → Bool) (s : State) : Prop :=
  ∃ t, exec i s = .next t ∧ Paid 1 0 s t ∧ RunsOn s t ∧
    let u := t.grp s.cur.g
    OnlyGroup s.cur.g (fun g => ({ g with p := u.p } : Group).goOn s.cur.i 4) s t ∧
    (∀ k l, l < 32 → inMask (u.p.get 0 k) l = if k = d ∧ inMask s.active l = true then x l else inMask (s.me.p.get 0 k) l)

/-- An operation joins those outstanding, and counts on its flag (02 R24). -/
def Group.addOp (o : Op) (g : Group) : Group := { g.raiseFlag o.flag with ops := g.ops ++ [o] }

/-- The operation that the instruction at hand issues: its flag, its observer set, what it is (02 R15, R24, 09 R167). -/
def State.newOp (s : State) (flag : Option Nat) (obs : BitVec 7) (k : OpKind) : Op :=
  ⟨s.serial, s.cur.i, flag, obs, s.ctx.pc, s.ctx.clause, s.ctx.idx, k, [], false⟩

/-- The instruction completes by issuing an operation: its team pays, the operation is outstanding and counts on its
flag, and the context goes on; nothing else changes. -/
def Issues (i : Instr) (ni nt : Int) (flag : Option Nat) (obs : BitVec 7) (k : OpKind) (s : State) : Prop :=
  Runs i ni nt (fun g => (g.addOp (s.newOp flag obs k)).goOn s.cur.i 4) s

/-- The same, but its context stops, for w. -/
def IssuesInto (w : Stop) (i : Instr) (ni nt : Int) (flag : Option Nat) (obs : BitVec 7) (k : OpKind) (s : State) : Prop :=
  RunsInto w i ni nt (fun g => (g.addOp (s.newOp flag obs k)).goOn s.cur.i 4) s

/-- The same for an access whose checks translate: translations and lines may be kept in caches, and lines paid for. -/
def IssuesAccess (i : Instr) (flag : Option Nat) (obs : BitVec 7) (k : OpKind) (s : State) : Prop :=
  ∃ t, exec i s = .next t ∧ t.names = s.names ∧ t.mem = s.mem ∧ t.io = s.io ∧ t.mordant = s.mordant ∧ RunsOn s t ∧
    (∀ h : SlotRef, h.key ≠ s.cur.g.key → (t.grp h).bare = (s.grp h).bare) ∧
    (∀ n, (t.team n).bare = (s.team n).bare) ∧ (∀ n, (t.task n).bare = (s.task n).bare) ∧
    ({ (t.grp s.cur.g).bare with pages := [] } : Group) =
      { ((s.me.addOp (s.newOp flag obs k)).goOn s.cur.i 4).bare with pages := [] }

/-- t is s but for the group in slot g, and for lines that an engine has taken, which no L1 and no cluster atomic unit holds
any more (23 R357). -/
def TakesLines (own : List Nat) (g : SlotRef) (f : Group → Group) (s t : State) : Prop :=
  (own = [] → OnlyGroup g f s t) ∧ OnlyGroupAnd g f 0 0 s t ∧
    ∀ l ∈ own, (∀ c, l ∉ (t.core c).l1) ∧ ∀ e ∈ t.atomicLines, l ∉ e.2

/-- The instruction completes by issuing an engine operation (11 R210, R212): its team pays, the operation is
outstanding on SETA, owns its lines and stands at the end of the engine queue of its core, which becomes f of what it was
besides. -/
def IssuesEngine (i : Instr) (ni nt : Nat) (own : List Nat) (k : OpKind) (f : Core → Core) (s : State) : Prop :=
  ∃ t, exec i s = .next t ∧
    (t.team s.me.team).ci = sat64 ((s.team s.me.team).ci - ni) ∧
    (t.team s.me.team).ct = sat64 (sat64 (s.team s.me.team).ct - nt) ∧ RunsOn s t ∧
    TakesLines own s.cur.g (fun g => (g.addOp { s.newOp s.flagA k.releaseSet k with own := own }).goOn s.cur.i 4)
      (s.modCore s.cur.g.coreRef (fun c => { f c with engine := (f c).engine ++ [.op ⟨s.cur.g, s.serial⟩] })) t

/-- Operation o of a group is the only entry of its core's engine queue, behind no acquire of its slot (23 R352). -/
def State.soleEngine (s : State) (g : SlotRef) (o : Op) : Prop :=
  s.hasGrp g = true ∧ (s.grp g).kind = .group ∧ (s.grp g).findOp o.id = some o ∧
    (s.core g.coreRef).engine = [.op ⟨g, o.id⟩] ∧ s.behindAcquire g o = false

/-- An engine operation has completed: it left the queue and counts on its flag no more; contexts, registers, other
groups, teams and tasks stand. -/
structure EngineDone (g : SlotRef) (o : Op) (s t : State) : Prop where
  engine : (t.core g.coreRef).engine = []
  ops : (t.grp g).ops = (s.grp g).ops.filter (fun x => x.id != o.id)
  flag : ∀ f, o.flag = some f → ((t.grp g).flag f).count = ((s.grp g).flag f).count - 1
  ctxs : (t.grp g).ctxs = (s.grp g).ctxs
  v : (t.grp g).v = (s.grp g).v
  others : ∀ h : SlotRef, h.key ≠ g.key → t.grp h = s.grp h
  teams : t.teams = s.teams
  tasks : t.tasks = s.tasks

/-- The checks of a descriptor at use pass (11 R207). -/
def State.tdFine (s : State) (d : Td) (bad wr : Bool) (xs : List Run) : Bool := (s.tdChecks d bad wr xs).all (fun c => !c.1)

/-- Logical byte b of a row holds part of its n elements from column c, or a scale of their q4 blocks (04 R73, 11 R203). -/
def Td.inCols (t : Td) (c n b : Nat) : Prop :=
  if t.fmt = 7 then (c / 2 ≤ b ∧ b < (c + n) / 2) ∨ (t.cols / 2 + c / 32 ≤ b ∧ b < t.cols / 2 + (c + n) / 32)
  else elemSize t.fmt * c ≤ b ∧ b < elemSize t.fmt * (c + n)

/-- Where logical byte b of row r of a tensor in memory or in the scratchpad stands (10 R183, 11 R204). -/
def State.rowPlace (s : State) (g : SlotRef) (t : Td) (r b : Nat) : Option Nat := s.placeOf g (t.addr (t.offset r b))

/-- Writing at the named places moves none of them: no translation of theirs stands there. -/
def State.Steady {α : Type} (s : State) (mine : α → Prop) (place : State → α → Option Nat) : Prop :=
  ∀ m : SMap Byte, (∀ p, (∀ i, mine i → place s i ≠ some p) → ({ s with mem := m } : State).byte p = s.byte p) →
    ∀ i, mine i → place { s with mem := m } i = place s i

/-- Bytes have places, each its own, and writing there moves none of them. -/
def State.Placed {α : Type} (s : State) (mine : α → Prop) (place : State → α → Option Nat) : Prop :=
  (∀ i, mine i → (place s i).isSome = true ∧ ∀ j, mine j → place s i = place s j → i = j) ∧ s.Steady mine place

/-- The bytes of a rectangle of a tensor in memory or in the scratchpad are at hand, each at a place of its own. -/
def State.laidOut (s : State) (g : SlotRef) (t : Td) (wr : Bool) (x : Rect) : Prop :=
  t.loc ≠ 2 ∧ s.runsNow g t wr (t.touched x) = .ok ∧
    s.Placed (fun k : Nat × Nat => k.1 < x.rows ∧ t.inCols x.c x.cols k.2) (fun u k => u.rowPlace g t (x.r + k.1) k.2)

/-- Logical byte b of row i of a rectangle becomes w i b, and no other byte changes. -/
def WritesTensor (g : SlotRef) (t : Td) (x : Rect) (w : Nat → Nat → Nat) (s u : State) : Prop :=
  (∀ i b p, i < x.rows → t.inCols x.c x.cols b → s.rowPlace g t (x.r + i) b = some p → (u.byte p).toNat = w i b % 256) ∧
  (∀ p, (∀ i b, i < x.rows → t.inCols x.c x.cols b → s.rowPlace g t (x.r + i) b ≠ some p) → u.byte p = s.byte p)

/-- A copy has been issued (12 R234, R237): its team pays a unit and nt bytes, the operation is outstanding on SETB and
stands last on its channel, with its capability's release set (23 R359), and it is its slot's latest copy there. -/
def StartsCopy (i : Instr) (nt : Int) (own : List Nat) (rel : BitVec 7) (k : OpKind) (ch key : Nat) (blk : Bool) (s : State) :
    Prop :=
  ∃ t, exec i s = .next t ∧
    (t.team s.me.team).ci = sat64 ((s.team s.me.team).ci - 1) ∧
    (t.team s.me.team).ct = sat64 (sat64 (s.team s.me.team).ct - nt) ∧ RunsOn s t ∧
    TakesLines own s.cur.g
      (fun g => ((g.newCopy key ⟨s.serial, blk, 0, 0, false, false, false, [], false⟩).addOp
        { s.newOp s.flagB rel k with own := own }).goOn s.cur.i 4)
      (s.modCore s.cur.g.coreRef (fun c =>
        { c with channels := c.channels.ins ch (c.channels.get [] ch ++ [⟨s.cur.g, s.serial⟩]) })) t

/-- A copy of nothing has completed at its issue (12 R236). -/
def CopiesNothing (i : Instr) (key : Nat) (blk : Bool) (s : State) : Prop :=
  ∃ t, exec i s = .next t ∧ (t.team s.me.team).ci = sat64 ((s.team s.me.team).ci - 1) ∧ RunsOn s t ∧
    OnlyGroup s.cur.g
      (fun g => (g.newCopy key ⟨s.serial, blk, 0, 0, false, false, true, [], false⟩).goOn s.cur.i 4) s t

/-- A copy operation of a group stands first on its channel and is its slot's latest copy there, with this progress. -/
def State.copyReady (s : State) (g : SlotRef) (o : Op) (ch key : Nat) (p : CopyProg) : Prop :=
  s.hasGrp g = true ∧ (s.grp g).kind = .group ∧ (s.grp g).findOp o.id = some o ∧ p.op = o.id ∧
    (s.grp g).copies.look key = some p ∧ ((s.core g.coreRef).channels.get [] ch).head? = some ⟨g, o.id⟩ ∧ ch < 4 ∧ key < 8 ∧
    s.ownedBefore o = false ∧ s.behindAcquire g o = false

/-- A copy has completed with this progress: its flag counts one less, it left its channel, and contexts, registers and
other groups stand. -/
def CopyEnds (g : SlotRef) (o : Op) (ch key : Nat) (p : CopyProg) (s t : State) : Prop :=
  (t.grp g).findOp o.id = none ∧ (∀ f, o.flag = some f → ((t.grp g).flag f).count = ((s.grp g).flag f).count - 1) ∧
    (t.grp g).copies.look key = some { p with done := true } ∧
    ⟨g, o.id⟩ ∉ (t.core g.coreRef).channels.get [] ch ∧ (t.grp g).v = (s.grp g).v ∧
    (∀ h : SlotRef, h.key ≠ g.key → (t.grp h).bare = (s.grp h).bare)

/-- A copy has settled bytes or positions, with this progress: it has completed, or goes on with the rest in place, where it has
been charged for the lines seen. -/
def CopySettles (g : SlotRef) (o : Op) (ch key : Nat) (rest : Option (List Nat → OpKind)) (p : CopyProg) (s t : State) : Prop :=
  match rest with
  | none => CopyEnds g o ch key p s t
  | some k =>
    (∃ own seen, (t.grp g).findOp o.id = some { o with kind := k seen, own := own }) ∧
      (t.grp g).copies.look key = some p ∧ (t.core g.coreRef).channels = (s.core g.coreRef).channels ∧
      (t.grp g).flags = (s.grp g).flags ∧ (t.grp g).v = (s.grp g).v ∧
      (∀ h : SlotRef, h.key ≠ g.key → (t.grp h).bare = (s.grp h).bare)

/-- Each of n bytes has been written at its place, and no other byte of memory. -/
def WritesBytes (n : Nat) (place : Nat → Option Nat) (byte : Nat → Byte) (s t : State) : Prop :=
  (∀ i q, i < n → place i = some q → t.byte q = byte i) ∧ (∀ q, (∀ i, i < n → place i ≠ some q) → t.byte q = s.byte q)

/-- A team's collective is not ready, whatever the group in slot g does: the team yields, one of its collectives runs, or another
member has not arrived (14 R252, R258). -/
def State.awaitsMember (s : State) (g : SlotRef) (u : Nat) : Prop :=
  (s.team u).yieldPending = true ∨ (s.team u).reordering = true ∨
    ∃ e ∈ (s.team u).slots, ∃ h, e.2 = .at h ∧ h.key ≠ g.key ∧ (s.grp h).live ≠ 0 ∧ (s.grp h).ended = false ∧
      (s.grp h).arrival = none

/-- What a REORDER of a group comes to where its context stands (14 R251, R252): r is the outcome, s the state with that
context at hand, and `enter` what its issue makes of the group: it counts on SETB from then on (02 R24). -/
def Arrives (r : Host.Outcome State Fault Refusal) (a : ReorderArgs) (enter : Group → Group) (s : State) : Prop :=
  (s.me.drained s.cur.i false = false → ∃ t, r = .next t ∧ t.ctx.stop = .reorder a false ∧ t.ctx.pc = s.ctx.pc ∧
    t.me.flags = (enter s.me).flags ∧ t.teams = s.teams ∧ t.mem = s.mem) ∧
  (s.me.drained s.cur.i false = true → s.storeFault s.cur.g = none → s.me.engineErrs = [] → (∀ f, f < 12 → (s.me.flag f).err = none) →
    (s.arrivedBars s.me.team ≠ 0 → ∃ u : State, r = .next (u.cancelArrivals s.me.team causeRbar (s.arrivedBars s.me.team)) ∧
      u = ((s.modMe (fun g => (enter g).clearFlag s.flagB)).modCtx (fun x => { x with stop := .running })).deliver s.cur
        ⟨causeRbar, BitVec.ofNat 64 (s.arrivedBars s.me.team), 0, s.ctx.pc, s.ctx.clause, s.ctx.idx, false, false⟩) ∧
    (s.arrivedBars s.me.team = 0 →
      (s.myTeam.yieldPending = true ∨
        (∃ e ∈ s.myTeam.slots, ∃ g, e.2 = .at g ∧ g.key ≠ s.cur.g.key ∧ (s.grp g).live ≠ 0 ∧ (s.grp g).ended = false ∧
          (s.grp g).arrival = none) →
        ∃ t, r = .next t ∧ OnlyGroup s.cur.g enter s t ∧ Paid 32 0 s t ∧ t.ctx.stop = .reorder a true) ∧
      (s.myTeam.yieldPending = false → s.myTeam.reordering = false → (∃ n, s.myTeam.slots = [(n, .at s.cur.g)]) →
        s.me.ctxs = [(s.cur.i, s.ctx)] → s.me.records = [] → s.ctx.p0 ≠ 0 → s.me.ended = false →
        (∀ u ∈ s.teams.keys, u ≠ s.me.team → (s.team u).clusterOf = s.myTeam.clusterOf → s.awaitsMember s.cur.g u) →
        let need := min (countMask s.ctx.p0) (s.task s.myTeam.task).l.quota * (8 + 4 * a.n)
        s.madderUsed s.myTeam.clusterOf + need ≤ 524288 →
        ∃ t, r = .next t ∧ (t.team s.me.team).reordering = true ∧ (t.team s.me.team).madder = need ∧
          t.ctx.stop = .reorder a true ∧ t.me.flags = (enter s.me).flags ∧ (countMask s.ctx.p0 ≤ (s.task s.myTeam.task).l.quota → t.mem = s.mem))))

/-- Contexts and records that wait at one MERGE are reunited in y (05 R94): the union of their lanes, with the scalar registers,
CONTPC, map and address of the one whose lowest lane is the lowest. -/
def Reunited (ws : List Context) (y : Context) : Prop :=
  (∀ l, l < 32 → (inMask y.p0 l = true ↔ ∃ c ∈ ws, inMask c.p0 l = true)) ∧ y.due = true ∧
    ∃ c ∈ ws, (∃ l, l < 32 ∧ inMask c.p0 l = true ∧ ∀ d ∈ ws, ∀ i, i < l → inMask d.p0 i = false) ∧
      y.s = c.s ∧ y.pc = c.pc ∧ y.contpc = c.contpc ∧ y.map = c.map

/-- The contexts of a group that wait at MERGE q, as (number, context). -/
def Group.waitAt (g : Group) (q : Nat) : List (Nat × Context) := g.ctxs.filter (fun e => decide (e.2.p0 ≠ 0) && decide (e.2.stop = .merge q))

/-- The trap of the instruction that issues (24 R363). -/
def State.trapHere (s : State) (cause : Nat) (info addr : DWord) : Trap :=
  ⟨cause, info, addr, s.ctx.pc, s.ctx.clause, s.ctx.idx, false, false⟩

/-- The instruction of n bytes traps precisely (02 R42): all it does is go on behind itself, where RETT resumes, and be
delivered; nothing is charged. -/
def Traps (i : Instr) (cause : Nat) (info addr : DWord) (n : Nat) (s : State) : Prop :=
  exec i s = .next ((s.advance n).deliver s.cur (s.trapHere cause info addr))

/-- A class-010 word traps precisely. -/
def TrapsB (i : Instr) (cause : Nat) (info addr : DWord) (s : State) : Prop :=
  exec i s = .next (s.advanceB.deliver s.cur (s.trapHere cause info addr))

/-- An address at which a branch may continue: even, and its word may be fetched and is a header (02 R18, 06 R113). -/
def State.goodTarget (s : State) (a : DWord) : Bool :=
  decide (a.toNat % 2 = 0) &&
    (match s.fetchFirst s.cur.g a with
     | .half h => isHeader h
     | _ => false)

end Machine

end Sys2Proof
end

