-- ==== Sys2Proof/Certificates/Slice0/Obligations.lean ====
section
/-! DEFINITION. The statements for the provers, family by family. A hypothesis `s.plain` says that the context that
issues stands in a group slot with a team and a task, and is no combiner wave. `Runs` states the whole effect: a next
state, what the team pays, what its group becomes, and that nothing else changes. -/

section

open Sys2Proof Sys2Proof.Machine

/-- 02 R14-R17, 10 R187, R188. Turns and events stand in an agenda of the model's own (log 2); that a partition issues once in
a cycle of it is the model's reading (log 97), and that an unbooted part runs nothing (log 84). -/
def Obligations.StepRunsDecoded : Prop :=
  ∀ (s : State) (c : CtxId) (r : List Turn) (h0 h1 : Nat),
    let a : State := { s with agenda := r }
    let n : State := { a with cur := c }
    let t : State := { a.pick c.g with cur := c }
    let booted : Prop := s.io.boot.booted = true
    let chosen : Prop := a.picked c.g.coreRef c.g.partition = some c
    (∀ i, s.agenda = .event i :: r →
      (booted ∨ bootEvent i = true → step s = exec i a) ∧ (¬booted → bootEvent i = false → step s = .next a)) ∧
    (s.agenda = [] → ∃ (u : Turn) (k : Nat), step s = turn u { s with cursor := k }) ∧
    (s.agenda = .issue c :: r →
      (¬booted → step s = .next a) ∧
      (booted → ¬chosen → a.mayIssue c = true → step s = .next n) ∧
      (a.issuedNow c.g = true → ¬chosen) ∧
      (n.fetchHalf c.g n.ctx.pc = .half h0 → (if isLong h0 then n.fetchHalf c.g (n.ctx.pc + 2) = .half h1 else h1 = 0) →
        n.ctx.due = false ∨ isHeader h0 = true → ∀ i, decodeWords h0 h1 = .ok i → n.waits i = true → ¬chosen) ∧
      (booted → chosen →
        (t.me.spent = true → step s = .next (t.waveLimit c.g)) ∧
        (t.me.spent = false →
          (t.ctx.due = false ∨ isHeader h0 = true → t.fetchHalf c.g t.ctx.pc = .half h0 →
            (if isLong h0 then t.fetchHalf c.g (t.ctx.pc + 2) = .half h1 else h1 = 0) →
            (∀ i, decodeWords h0 h1 = .ok i → step s = exec i t) ∧
            (∀ e, decodeWords h0 h1 = .escape e → step s = execEsc e t) ∧
            (∀ k, decodeWords h0 h1 = .illegal k → h0 / 2 % 8 ≠ 2 →
              step s = .next ((t.advance (if isLong h0 then 4 else 2)).deliver c
                (t.trapHere causeIllegal (BitVec.ofNat 64 k) 0)))) ∧
          (t.me.kind = .group → t.me.handler = none →
            (t.fetchHalf c.g t.ctx.pc = .half h0 → t.ctx.due = true → isHeader h0 = false →
              step s = .next (t.deliver c { t.trapHere causeIllegal 4 0 with ends := true })) ∧
            (t.fetchHalf c.g t.ctx.pc = .lease → step s = .next (t.endTaskAt c causeLease 0 t.ctx.pc))))))

/-- 02 R14, R20, R32-R38, R41. -/
def Obligations.WordsDecode : Prop :=
  let word (w : Nat) : Decoded := decodeWords (w % 65536) (w / 65536)
  (word 0x00F00011 = .ok (.clauseHeader 1 0 15 0 false false) ∧
    word 0x1090 = .ok (.fadd16 4 (.o 2)) ∧
    word 0x00C51413 = .ok (.ssub 5 5 (.imm 1)) ∧
    word 0x000025E3 = .ok (.sli 9 0) ∧
    word 0xFFF71425 = .ok (.bnz 5 0xFFF7) ∧
    word 0x00000115 = .ok .exit ∧
    word 0xA8A05327 = .ok (.fmul 10 20 (.s 9)) ∧
    word 0x68302049 = .ok (.ldv32 8 12 2 3) ∧
    word 0x0000001F = .ok .nop ∧
    word 0x0000002F = .ok .brkpt ∧
    word 0x0000100F = .escape 4 ∧
    word 0xEBB0004F = .ok (.hwrite 59 58)) ∧
  (∀ w, w < 2 ^ 32 → w % 2 = 1 →
    (w / 2 % 8 = 1 → 37 ≤ w / 16 % 64 → word w = .illegal 1) ∧
    (w / 2 % 8 = 2 → 21 ≤ w / 16 % 64 → word w = .illegal 1) ∧
    (w / 2 % 8 = 3 → w / 16 % 128 ∈ [25, 26, 27, 28, 29, 30, 31, 43, 44, 45, 46, 47, 65, 66, 67, 68, 69, 70, 71, 78, 79] ∨
      (83 ≤ w / 16 % 128 ∧ w / 16 % 128 < 96) ∨ (113 ≤ w / 16 % 128 ∧ w / 16 % 128 < 120) → word w = .illegal 1) ∧
    (w / 2 % 8 = 4 → w / 16 % 64 = 21 ∨ (27 ≤ w / 16 % 64 ∧ w / 16 % 64 < 32) ∨ w / 16 % 64 = 47 ∨ 52 ≤ w / 16 % 64 →
      word w = .illegal 1) ∧
    (w / 2 % 8 = 5 → 17 ≤ w / 16 % 64 → word w = .illegal 1) ∧
    (w / 2 % 8 = 6 → 19 ≤ w / 16 % 64 → word w = .illegal 1) ∧
    (w / 2 % 8 = 7 → 13 ≤ w / 16 % 64 → word w = .illegal 1) ∧
    (w % 1024 = 0x1A3 → w / 4194304 ≠ 0 → word w = .illegal 2) ∧
    (w % 1024 = 0x0C5 → w / 1024 ≠ 0 → word w = .illegal 2) ∧
    (w % 2048 = 0x117 → w / 134217728 ≠ 0 → word w = .illegal 2) ∧
    (w % 1024 = 0x06F → w / 1024 ≠ 0 → word w = .illegal 2))

/-- 02 R14, R20, R32-R38. -/
def Obligations.RoundTrip : Prop :=
  ∀ (i : Instr) (r : List Byte), i.size ≠ 0 → i.fits = true →
    ∃ d, decode (encode i ++ r) = some (d, r) ∧ d.instr = some i

/-- 00 R6, 10 R182, R200, 16 R266, 22 R347, 24 R368, R371, R373, 27 R398. That unlisted memory reads 0 is the model's choice
(log 3), and that event counts are 0 and constant stores have no owner (log 9). -/
def Obligations.ResetState : Prop :=
  let s := State.reset
  MemInv s ∧ s.groups = [] ∧ s.teams = [] ∧ s.tasks = [] ∧ s.tick = 0 ∧ s.mordant = [] ∧ (∀ p, s.byte p = 0) ∧
  (∀ c, (s.core c).pointer = 0 ∧ (s.core c).owner = none ∧ ∀ n, (s.core c).counters.get 0 n = 0) ∧
  (∀ q, (s.queue q).qbase = 0 ∧ (s.queue q).qctl = 0x400 ∧ (s.queue q).qtail = 0 ∧ (s.queue q).qprog = 0 ∧
    (s.queue q).qsw = 0 ∧ (s.queue q).qsave = 0) ∧
  (∀ b, (s.io.recq b).base = 0 ∧ (s.io.recq b).ctl = 0x400 ∧ (s.io.recq b).tail = 0 ∧ (s.io.recq b).head = 0) ∧
  s.io.iqbase = 0 ∧ s.io.iqctl = 0x400 ∧ s.io.iqtail = 0 ∧ s.io.iqhead = 0 ∧ s.io.astbase = 0 ∧
  s.io.sapbase = 0 ∧ s.io.sapsize = 0 ∧ s.io.gtask = 0 ∧ s.io.gins = 0 ∧ s.io.gbytes = 0 ∧ s.io.gctl = 0 ∧
  (∀ e, s.io.events.get 0 e = 0)

/-- Every way to change memory: stores, atomics, engines, copies, saves, records, placement, migration, reset. -/
def Obligations.MemoryKept : Prop :=
  ∀ s : State, MemInv s → ∃ t, step s = .next t ∧ MemInv t

/-- 02 R20-R22, R26, R402. That the lowest flag's error comes first, and the pc of an error-status trap, are the model's
choice (log 27, 38). -/
def Obligations.ClauseHeader : Prop :=
  ∀ (s : State) (wait : BitVec 12) (setA setB pidx : Nat) (neg en : Bool), s.plain = true →
    let i : Instr := .clauseHeader wait setA setB pidx neg en
    let x := s.ctx
    let code (n : Nat) : Prop := n < 12 ∨ n = 15
    let zero : Prop := en = true ∨ (neg = false ∧ pidx = 0)
    let empty : Prop := ∃ h, s.fetchHalf s.cur.g (x.pc + 4) = .half h ∧ isHeader h = true
    let inside : Prop := ∃ h, s.me.handler = some h ∧ h.ctx = s.cur.i
    let mustSave : Prop := ¬inside ∧ (s.me.graceDue = true ∨ s.me.evicting = true)
    let moves : Prop := ∃ p, s.fetchHalf s.cur.g (x.pc + 4) = .moving p
    let named (f : Nat) : Prop := f < 12 ∧ wait.getLsbD f = true
    let here (t : Trap) : Trap := { t with pc := x.pc, clause := x.clause, idx := x.idx }
    let illegal (pc : DWord) (n : DWord) : Prop :=
      exec i s = .next (s.deliver s.cur { s.trapHere causeIllegal n 0 with pc := pc, ends := true })
    let noFault : Prop := s.me.handler ≠ none ∨ s.storeFault s.cur.g = none
    (∀ f, s.me.handler = none → s.storeFault s.cur.g = some f →
      exec i s = .next ((s.dropFault s.cur.g).deliver s.cur f.trap)) ∧
    (¬inside → noFault →
      (∀ t r, s.me.engineErrs = t :: r →
        exec i s = .next ((s.modMe (fun g => { g with engineErrs := g.engineErrs.drop 1 })).deliver s.cur (here t))) ∧
      (∀ t r, s.me.engineErrs = [] → s.me.mordErrs = t :: r →
        exec i s = .next ((s.modMe (fun g => { g with mordErrs := g.mordErrs.drop 1 })).deliver s.cur (here t)))) ∧
    (inside ∨ (noFault ∧ s.me.engineErrs = [] ∧ s.me.mordErrs = []) →
      (¬zero → illegal x.pc 2) ∧
      (zero → ¬(code setA ∧ code setB) → illegal x.pc 6) ∧
      (zero → code setA → code setB →
        (empty → illegal (x.pc + 4) 4) ∧
        (¬empty →
          (mustSave ∨ moves ∨ (∃ f, named f ∧ (s.me.flag f).count ≠ 0) → exec i s = .next s) ∧
          (¬mustSave → ¬moves → (∀ f, named f → (s.me.flag f).count = 0) →
            (∀ f t, named f → (s.me.flag f).err = some t → (∀ e, e < f → named e → (s.me.flag e).err = none) →
              exec i s = .next ((s.modMe (Group.modFlag f (fun y => { y with err := none }))).deliver s.cur (here t))) ∧
            ((∀ f, named f → (s.me.flag f).err = none) →
              RunsThen i 1 0 (fun g =>
                { g.modCtx s.cur.i (fun c =>
                    { c with
                      clause := c.pc, idx := 0, pc := c.pc + 4, due := false, setA := setA, setB := setB
                      pred := if en = true then (if neg = true then ~~~(s.me.pred x pidx) else s.me.pred x pidx)
                        else s.me.pred x 0 }) with
                  handler := g.handler.map (fun h => if h.ctx = s.cur.i then { h with fresh := false } else h) })
                (State.waitAcquire s.cur.g ((List.range 12).filter (fun f => wait.getLsbD f))) s)))))

/-- 06 R102: sd of each, from the values that stand at issue. The products' high halves are those of exact 128-bit
products. -/
def Obligations.ScalarArithmetic : Prop :=
  ∀ (s : State) (d a : Nat) (x : SSrc), s.plain = true →
    let p := s.sreg a
    let q := s.src x
    WritesS 1 (.sadd d a x) d (p + q) s ∧
    WritesS 1 (.ssub d a x) d (p - q) s ∧
    WritesS 1 (.smul d a x) d (p * q) s ∧
    WritesS 1 (.smulh d a x) d (BitVec.extractLsb' 64 64 (p.signExtend 128 * q.signExtend 128)) s ∧
    WritesS 1 (.smulhn d a x) d (BitVec.extractLsb' 64 64 (p.setWidth 128 * q.setWidth 128)) s ∧
    WritesS 1 (.sand d a x) d (p &&& q) s ∧
    WritesS 1 (.sor d a x) d (p ||| q) s ∧
    WritesS 1 (.sxor d a x) d (p ^^^ q) s ∧
    WritesS 1 (.sandn d a x) d (p &&& ~~~q) s ∧
    WritesS 1 (.smin d a x) d (if p.slt q then p else q) s ∧
    WritesS 1 (.smax d a x) d (if q.slt p then p else q) s ∧
    WritesS 1 (.sminn d a x) d (if p.ult q then p else q) s ∧
    WritesS 1 (.smaxn d a x) d (if q.ult p then p else q) s

/-- 06 R103. -/
def Obligations.ScalarDivision : Prop :=
  ∀ (s : State) (d a : Nat) (x : SSrc), s.plain = true →
    let p := s.sreg a
    let q := s.src x
    let quot : Int := p.toInt.tdiv q.toInt
    (q = 0 →
      WritesS 4 (.sdiv d a x) d 0 s ∧ WritesS 4 (.srem d a x) d p s ∧
      WritesS 4 (.sdivn d a x) d 0 s ∧ WritesS 4 (.sremn d a x) d p s) ∧
    (p = 0x8000000000000000 ∧ q = 0xFFFFFFFFFFFFFFFF →
      WritesS 4 (.sdiv d a x) d 0x8000000000000000 s ∧ WritesS 4 (.srem d a x) d 0 s) ∧
    (q ≠ 0 → ¬(p = 0x8000000000000000 ∧ q = 0xFFFFFFFFFFFFFFFF) →
      (∃ v : DWord, v.toInt = quot ∧ WritesS 4 (.sdiv d a x) d v s) ∧
      (∃ v : DWord, v.toInt = p.toInt - quot * q.toInt ∧ WritesS 4 (.srem d a x) d v s)) ∧
    (q ≠ 0 →
      (∃ v : DWord, v.toNat = p.toNat / q.toNat ∧ WritesS 4 (.sdivn d a x) d v s) ∧
      (∃ v : DWord, v.toNat = p.toNat % q.toNat ∧ WritesS 4 (.sremn d a x) d v s))

/-- 06 R104, and 06 R105 but for its encodings (which WordsDecode states). -/
def Obligations.ScalarShiftsAndCounts : Prop :=
  ∀ (s : State) (d a : Nat) (x : SSrc), s.plain = true →
    let p := s.sreg a
    let q := s.src x
    let n := (q.extractLsb' 0 6).toNat
    WritesS 1 (.sshl d a x) d (p <<< n) s ∧
    WritesS 1 (.sshr d a x) d (p >>> n) s ∧
    WritesS 1 (.ssar d a x) d (p.sshiftRight n) s ∧
    (∃ v : DWord, (∀ i, 64 - v.toNat ≤ i → p.getLsbD i = false) ∧
      (v.toNat < 64 → p.getLsbD (63 - v.toNat) = true) ∧ v.toNat ≤ 64 ∧ WritesS 1 (.sclz d a) d v s) ∧
    WritesS 1 (.spopc d a) d (BitVec.ofNat 64 ((List.range 64).filter p.getLsbD).length) s ∧
    (q = 0 → WritesS 1 (.ssext d a x) d 0 s ∧ WritesS 1 (.szext d a x) d 0 s) ∧
    (64 ≤ q.toNat → WritesS 1 (.ssext d a x) d p s ∧ WritesS 1 (.szext d a x) d p s) ∧
    (0 < q.toNat → q.toNat < 64 →
      WritesS 1 (.ssext d a x) d ((p.setWidth q.toNat).signExtend 64) s ∧
      WritesS 1 (.szext d a x) d ((p.setWidth q.toNat).setWidth 64) s)

/-- 06 R106. -/
def Obligations.ScalarCompares : Prop :=
  ∀ (s : State) (d a : Nat) (x : SSrc), s.plain = true →
    let p := s.sreg a
    let q := s.src x
    let one (b : Bool) : DWord := if b then 1 else 0
    WritesS 1 (.sseq d a x) d (one (p == q)) s ∧
    WritesS 1 (.ssne d a x) d (one (p != q)) s ∧
    WritesS 1 (.sslt d a x) d (one (p.slt q)) s ∧
    WritesS 1 (.ssle d a x) d (one (p.sle q)) s ∧
    WritesS 1 (.ssltn d a x) d (one (p.ult q)) s ∧
    WritesS 1 (.sslen d a x) d (one (p.ule q)) s

/-- 06 R107, 02 R33. -/
def Obligations.ScalarConstants : Prop :=
  (∀ (s : State) (d : Nat) (imm : BitVec 16), s.plain = true →
    WritesS 1 (.sli d imm) d (imm.signExtend 64) s ∧
    (∃ v : DWord, WritesS 1 (.slk1 d imm) d v s ∧ v.extractLsb' 16 16 = imm ∧
      ∀ i, i < 16 ∨ 32 ≤ i → v.getLsbD i = (s.sreg d).getLsbD i) ∧
    (∃ v : DWord, WritesS 1 (.slk2 d imm) d v s ∧ v.extractLsb' 32 16 = imm ∧
      ∀ i, i < 32 ∨ 48 ≤ i → v.getLsbD i = (s.sreg d).getLsbD i) ∧
    (∃ v : DWord, WritesS 1 (.slk3 d imm) d v s ∧ v.extractLsb' 48 16 = imm ∧
      ∀ i, i < 48 ∨ 64 ≤ i → v.getLsbD i = (s.sreg d).getLsbD i)) ∧
  (∀ (c : Context) (d r : Nat) (v : DWord),
    ((c.setS d v).sreg r = if r = 0 then 0 else if r = d then v else c.sreg r))

/-- 05 R99, 06 R108-R111, 04 R70. That what speaks of a team or a task reads 0 in a lane-handler wave is the model's
reading (log 100), and that TICK is the same number on every core its choice (log 120). -/
def Obligations.SystemRegisters : Prop :=
  ∀ (s : State) (d n a : Nat) (x : SSrc), s.plain = true →
    let g := s.me
    let group := g.kind = .group
    let m := if group then s.team g.team else Team.empty
    let k := if group then s.task g.task else Task.empty
    let reads (j : Nat) (v : DWord) := WritesS 1 (.srsr d j) d v s
    let sets (j : Nat) (f : Group → Group) := Runs (.swsr j a) 1 0 (fun g => (f g).goOn s.cur.i 4) s
    let w := s.sreg a
    (reads 0x000 (if group then BitVec.ofInt 64 (sat64 (m.ci - 1)) else 0) ∧
      reads 0x001 (if group then BitVec.ofInt 64 (sat64 m.ct) else 0) ∧
      reads 0x002 (BitVec.ofNat 64 m.grace) ∧ reads 0x003 s.ctx.contpc ∧ reads 0x004 (g.frm.setWidth 64) ∧
      reads 0x005 (g.trapnf.setWidth 64) ∧
      ((∀ o ∈ g.ops, o.isQmv = false) → reads 0x006 (g.fpflags.setWidth 64)) ∧
      (∀ j, 1 ≤ j → j ≤ 7 → reads (7 + j) ((g.obs.get 0 j).setWidth 64)) ∧
      reads 0x010 (BitVec.ofNat 64 m.teamId) ∧ reads 0x011 (BitVec.ofNat 64 g.gi) ∧
      reads 0x012 (BitVec.ofNat 64 m.groups) ∧ reads 0x013 k.gridId ∧ reads 0x014 (BitVec.ofNat 64 k.depth) ∧
      reads 0x015 (BitVec.ofNat 64 s.cur.g.core) ∧ reads 0x016 (BitVec.ofNat 64 (s.cur.g.core / 8)) ∧
      reads 0x017 (BitVec.ofNat 64 s.cur.g.die) ∧ reads 0x018 g.trapCause ∧ reads 0x019 g.trapAddr ∧
      reads 0x01A g.trapInfo ∧ reads 0x01B g.trapPc ∧ reads 0x01C k.l.lanehnd ∧ reads 0x01D (s.handle s.cur.g) ∧
      reads 0x030 (BitVec.ofNat 64 g.regalloc) ∧
      reads 0x031 (BitVec.ofNat 64 (m.spadBase.get 0 (m.cores.findIdx (· = s.cur.g.coreRef)))) ∧
      reads 0x040 (BitVec.ofNat 64 s.tick)) ∧
    (sets 0x004 (fun g => { g with frm := w.setWidth 2 }) ∧ sets 0x005 (fun g => { g with trapnf := w.setWidth 4 }) ∧
      sets 0x006 (fun g => { g with fpflags := (g.fpflags &&& ~~~(w.setWidth 6)) ||| g.fpnow }) ∧
      (∀ j, 1 ≤ j → j ≤ 7 → sets (7 + j) (fun g => { g with obs := g.obs.ins j (w.setWidth 7) })) ∧
      (sysregAssigned n = true → ¬(4 ≤ n ∧ n ≤ 6) → ¬(8 ≤ n ∧ n ≤ 14) → sets n id)) ∧
    (sysregAssigned n = false →
      Traps (.srsr d n) causeIllegal 8 0 4 s ∧ Traps (.swsr n a) causeIllegal 8 0 4 s) ∧
    WritesS 1 (.sadr d a x) d (s.ctx.pc + s.sreg a + (match x with | .reg r => s.sreg r | .imm i => i.signExtend 64 <<< 1)) s

/-- 06 R113-R115, with the targets of 02 R19. -/
def Obligations.ConditionalBranches : Prop :=
  (∀ (s : State) (r p : Nat) (t : BitVec 16), s.plain = true →
    let a := s.ctx.pc + (t.signExtend 64 <<< 1)
    let v := s.sreg r
    let m := s.me.pred s.ctx p
    let l := s.laneSet
    let branch (i : Instr) (taken : Prop) (f : Group → Group) : Prop :=
      (taken → s.goodTarget a = true → Runs i 1 0 (fun g => (f g).goTo s.cur.i a) s) ∧
      (¬taken → Runs i 1 0 (fun g => (f g).goBehind s.cur.i) s)
    branch (.bra t) True id ∧
    branch (.bz r t) (v = 0) id ∧
    branch (.bnz r t) (v ≠ 0) id ∧
    branch (.bneg r t) (v.msb = true) id ∧
    branch (.bnneg r t) (v.msb = false) id ∧
    branch (.ball p t) (∀ i, inMask l i = true → inMask m i = true) id ∧
    branch (.bany p t) (∃ i, inMask l i = true ∧ inMask m i = true) id ∧
    branch (.bnone p t) (∀ i, inMask l i = true → inMask m i = false) id ∧
    branch (.loop r t) (v ≠ 1) (Group.modCtx s.cur.i (Context.setS r (v - 1)))) ∧
  (∀ (s : State) (r p : Nat) (t : BitVec 16) (h : Nat),
    let a := s.ctx.pc + (t.signExtend 64 <<< 1)
    let bad (i : Instr) (a : DWord) : Prop :=
      s.fetchFirst s.cur.g a = .half h → isHeader h = false → TrapsB i causeBadTarget 0 a s
    bad (.bra t) a ∧
    (s.sreg r = 0 → bad (.bz r t) a) ∧
    (s.sreg r ≠ 0 → bad (.bnz r t) a) ∧
    ((s.sreg r).msb = true → bad (.bneg r t) a) ∧
    ((s.sreg r).msb = false → bad (.bnneg r t) a) ∧
    (s.sreg r ≠ 1 → bad (.loop r t) a) ∧
    (s.me.pred s.ctx p &&& s.laneSet = s.laneSet → bad (.ball p t) a) ∧
    (s.me.pred s.ctx p &&& s.laneSet ≠ 0 → bad (.bany p t) a ∧ bad (.split p t) a) ∧
    (s.me.pred s.ctx p &&& s.laneSet = 0 → bad (.bnone p t) a) ∧
    bad (.call t) a ∧
    bad (.cont r t) a ∧
    bad (.callr r) (s.sreg r) ∧
    bad (.jmpr r) (s.sreg r) ∧
    bad .ret (s.sreg 63))

/-- 06 R116, 02 R19. That a register target with bit 0 set traps BADTARGET wherever it lies, outside every lease too, is the model's
reading (log 101). -/
def Obligations.CallsAndReturns : Prop :=
  ∀ (s : State) (r : Nat) (t : BitVec 16), s.plain = true →
    let a := s.ctx.pc + (t.signExtend 64 <<< 1)
    let link := Group.modCtx s.cur.i (Context.setS 63 (s.ctx.pc + 4))
    let goes (i : Instr) (a : DWord) (f : Group → Group) : Prop :=
      (s.goodTarget a = true → Runs i 1 0 (fun g => (f g).goTo s.cur.i a) s) ∧
      (a.getLsbD 0 = true → TrapsB i causeBadTarget 0 a s)
    (s.goodTarget a = true → Runs (.call t) 1 0 (fun g => (link g).goTo s.cur.i a) s) ∧
    goes (.callr r) (s.sreg r) link ∧
    goes (.jmpr r) (s.sreg r) id ∧
    goes .ret (s.sreg 63) id

/-- 05 R90, R91; the place and layout of a record in the save area are those of 24 R369 (State.groupBlock, recordAt). -/
def Obligations.SplitDividesLanes : Prop :=
  ∀ (s : State) (p : Nat) (t : BitVec 16), s.plain = true →
    let a := s.ctx.pc + (t.signExtend 64 <<< 1)
    let fall := s.ctx.pc + 4
    let c := s.ctx
    let tt := s.me.pred c p &&& s.laneSet
    let ff := s.laneSet &&& ~~~tt
    let small (m : Word) (pc : DWord) : Context := { c with p0 := m, pc := pc, due := true, lastIssue := 0 }
    let stays (m : Word) (pc : DWord) (g : Group) : Group := (g.modCtx s.cur.i (fun c => { c with p0 := m })).goTo s.cur.i pc
    (tt = 0 → Runs (.split p t) 1 0 (Group.goBehind s.cur.i) s) ∧
    (s.goodTarget a = true → tt ≠ 0 → ff = 0 → Runs (.split p t) 1 0 (Group.goTo s.cur.i a) s) ∧
    (s.goodTarget a = true → tt ≠ 0 → ff ≠ 0 → ∀ i, i < 4 → (s.me.ctxs.look i) = none →
      (∀ j, j < i → (s.me.ctxs.look j) ≠ none) →
      (countMask ff < countMask tt →
        Runs (.split p t) 1 0 (fun g => let h := stays tt a g; { h with ctxs := h.ctxs.ins i (small ff fall) }) s) ∧
      (countMask tt ≤ countMask ff →
        Runs (.split p t) 1 0 (fun g => let h := stays ff fall g; { h with ctxs := h.ctxs.ins i (small tt a) }) s)) ∧
    (s.goodTarget a = true → tt ≠ 0 → ff ≠ 0 → (∀ j, j < 4 → (s.me.ctxs.look j) ≠ none) →
      sat64 (s.team s.me.team).ct = (s.team s.me.team).ct →
      let new : Record := ⟨c.s, fall, c.contpc, c.map, ff, none, s.cur.i⟩
      let n := s.me.records.length
      (s.ownBlock s.cur.g = none →
        Runs (.split p t) 1 576 (fun g => let h := stays tt a g
          { h with records := h.records ++ [new] }) s) ∧
      (∀ b, s.ownBlock s.cur.g = some b →
        ∃ u, exec (.split p t) s = .next u ∧ Paid 1 576 s u ∧
          OnlyGroupAnd s.cur.g (fun g => let h := stays tt a g
            { h with records :=
                (h.records.zipIdx.map (fun x => s.readRecord (recordAt b x.2) x.1.owner)) ++ [new] })
            (b + 0x1500) (544 * (n + 1)) s u ∧
          (∀ r, r < 64 → u.readN (b + 0x1500 + 544 * n + 8 * r) 8 = (c.s.get 0 r).toNat) ∧
          u.readN (b + 0x1500 + 544 * n + 512) 8 = fall.toNat ∧
          u.readN (b + 0x1500 + 544 * n + 520) 8 = c.contpc.toNat ∧
          u.readN (b + 0x1500 + 544 * n + 528) 8 = c.map.toNat ∧
          u.readN (b + 0x1500 + 544 * n + 536) 4 = ff.toNat))

/-- 05 R91-R95, 06 R118, R122. Records are read where the group's save area holds them (`State.fetchRecords`). That an instruction its own handler is to complete does not hold a drain is the model's choice
(log 99). -/
def Obligations.MergeAndExit : Prop :=
  ∀ (s : State) (k : Nat), s.plain = true →
    let i := s.cur.i
    let recs := (s.fetchRecords s.cur.g).me.records
    let others (f : Context → Prop) : Prop := ∀ j c, j ≠ i → s.me.ctxs.look j = some c → c.p0 ≠ 0 → f c
    let another : Prop := ∃ j c, j ≠ i ∧ s.me.ctxs.look j = some c ∧ c.p0 ≠ 0
    let sorted : Prop := s.me.ctxs.keys.Pairwise (· < ·)
    -- the group as the issuing context has arrived
    let all : Group := { s.me with ctxs := s.me.ctxs.ins i { s.ctx.advance 4 true with stop := .merge k } }
    let keeps (u : Group) : Prop := u.v = s.me.v ∧ u.q = s.me.q ∧ u.o = s.me.o ∧ u.p = s.me.p
    (s.me.ctxs = [(s.cur.i, s.ctx)] → s.ctx.p0 ≠ 0 → s.me.records = [] →
      RunsInto .running (.merge k) 1 0 (Group.goBehind s.cur.i) s) ∧
    (s.me.records = [] → (∃ j c, j ≠ s.cur.i ∧ s.me.ctxs.look j = some c ∧ c.p0 ≠ 0 ∧ c.stop = .running) →
      RunsInto (.merge k) (.merge k) 1 0 (Group.goBehind s.cur.i) s) ∧
    -- 05 R92: it is parked
    (∀ r, (recs.filter (fun r => decide (r.token = none) && decide (r.owner = i))).getLast? = some r → r.mask ≠ 0 →
      ∃ t, exec (.merge k) s = .next t ∧
        let u := t.grp s.cur.g
        let y := u.ctx i
        u.records = (recs ++ [(⟨s.ctx.s, s.ctx.pc + 4, s.ctx.contpc, s.ctx.map, s.ctx.p0, some k, i⟩ : Record)]).filter (fun x => x != r) ∧
        y.p0 = r.mask ∧ y.pc = r.pc ∧ y.due = true ∧ y.contpc = r.contpc ∧ y.map = r.map ∧ y.s = r.s ∧ y.stop = .running ∧
        (∀ j, j ≠ i → u.ctxs.look j = s.me.ctxs.look j) ∧ keeps u ∧
        (t.team s.me.team).ci = sat64 (s.myTeam.ci - 1) ∧
        (t.team s.me.team).ct = sat64 (sat64 (sat64 s.myTeam.ct - 576) - 576)) ∧
    -- 05 R93, R94: every context waits
    (sorted → recs = [] → s.ctx.p0 ≠ 0 → another → others (fun c => ∃ q, c.stop = .merge q) →
      ∃ t, exec (.merge k) s = .next t ∧ Paid 1 0 s t ∧ t.mem = s.mem ∧
        let u := t.grp s.cur.g
        keeps u ∧
        ∀ q, let ws := all.waitAt q
          (∀ e, ws = [e] → (u.ctxs.look e.1).map Context.bare = some e.2.bare ∧ (u.ctx e.1).stop = .merge q) ∧
          (2 ≤ ws.length → ∃ e y, e ∈ ws ∧ u.ctxs.look e.1 = some y ∧ Reunited (ws.map Prod.snd) y ∧
            (s.myTeam.yieldPending = false → y.stop = .running) ∧ ∀ x ∈ ws, x.1 ≠ e.1 → u.ctxs.look x.1 = none)) ∧
    (sorted → recs ≠ [] → s.ctx.p0 ≠ 0 → (∀ r ∈ recs, r.token = some k ∧ r.mask ≠ 0) → others (fun c => c.stop = .merge k) →
      ∃ t j y, exec (.merge k) s = .next t ∧
        let u := t.grp s.cur.g
        keeps u ∧ u.records = [] ∧ u.ctxs.look j = some y ∧ (∀ l c, l ≠ j → u.ctxs.look l = some c → c.p0 = 0) ∧
        Reunited ((all.waitAt k).map Prod.snd ++ recs.map Record.toContext) y ∧
        (s.myTeam.yieldPending = false → y.stop = .running) ∧
        (t.team s.me.team).ct = sat64 (sat64 s.myTeam.ct - 576 * (recs.length : Int))) ∧
    (s.me.kind = .group → s.me.ops = [] → s.storeFault s.cur.g = none → s.me.engineErrs = [] →
      (∀ f, (s.me.flag f).err = none) → s.me.records = [] → s.me.waiting = [] →
      (∃ t, exec .exit s = .next t ∧
        (s.me.ctxs = [(s.cur.i, s.ctx)] → (t.grp s.cur.g).ctxs = [] ∧ (t.grp s.cur.g).ended = true) ∧
        ((∃ j c, j ≠ s.cur.i ∧ s.me.ctxs.look j = some c ∧ c.p0 ≠ 0 ∧ c.stop = .running) →
          (t.grp s.cur.g).ctxs.look s.cur.i = none ∧
          ∀ j, j ≠ s.cur.i → ((t.grp s.cur.g).ctxs.look j).map Context.bare = (s.me.ctxs.look j).map Context.bare) ∧
        (∀ q, sorted → another → others (fun c => c.stop = .merge q) →
          (t.grp s.cur.g).ctxs.look i = none ∧
          let ws := ({ s.me with ctxs := s.me.ctxs.del i } : Group).waitAt q
          ∃ e y, e ∈ ws ∧ (t.grp s.cur.g).ctxs.look e.1 = some y ∧ Reunited (ws.map Prod.snd) y ∧
            (s.myTeam.yieldPending = false → y.stop = .running) ∧
            ∀ x ∈ ws, x.1 ≠ e.1 → (t.grp s.cur.g).ctxs.look x.1 = none))) ∧
    (s.me.kind = .group → (∃ o ∈ s.me.ops, ¬(o.gate = true ∧ o.ctx = s.cur.i)) → exec .exit s = .next s) ∧
    (s.me.kind ≠ .group → TrapsB .exit causePriv 0 0 s)

/-- 06 R119-R121, R125, 19 R299; the block and frame are those of 24 R369, and where in the frame the pc (512) and p0 (520) stand is
the model's choice (log 107). That SLEEP also ends at once in a group marked for
eviction is the model's reading (log 33). -/
def Obligations.ContinuationsAndSleep : Prop :=
  ∀ (s : State) (r : Nat) (t : BitVec 16), s.plain = true →
    let a := s.ctx.pc + (t.signExtend 64 <<< 1)
    let declared (g : Group) : Group :=
      (g.modCtx s.cur.i (fun c => { c with contpc := a, map := s.sreg r })).goBehind s.cur.i
    let pending := s.me.kind = .group ∧ s.myTeam.yieldPending = true
    let core := s.core s.cur.g.coreRef
    let drained := s.me.ops = [] ∧ s.storeFault s.cur.g = none ∧ s.me.engineErrs = [] ∧ ∀ f, (s.me.flag f).err = none
    let settled := drained ∧ core.baton ≠ some s.cur.g ∧ s.cur.g ∉ core.batonReq
    let saved (i : Instr) (f : Group → Group) (at_ : DWord) (m : Option DWord) : Prop :=
      ∃ u, exec i s = .next u ∧
        (s.ownBlock s.cur.g = none → OnlyGroup s.cur.g (fun g => (f g).goTo s.cur.i at_) s u) ∧
        (∀ b, s.ownBlock s.cur.g = some b →
          OnlyGroupAnd s.cur.g (fun g => (f g).goTo s.cur.i at_) b 55040 s u ∧
          u.readN (frameAt b s.cur.i + 512) 8 = at_.toNat ∧ u.readN (frameAt b s.cur.i + 520) 8 = s.laneSet.toNat) ∧
        (u.team s.me.team).ci = sat64 ((s.team s.me.team).ci - 1) ∧
        (u.team s.me.team).ct = sat64 (sat64 (s.team s.me.team).ct - saveBytes m s.me.regalloc) ∧
        ((u.grp s.cur.g).ctx s.cur.i).stop = .saved m
    (s.goodTarget a = true → ¬pending → Runs (.cont r t) 1 0 declared s) ∧
    (s.goodTarget a = true → pending → settled → saved (.cont r t) declared a (some (s.sreg r))) ∧
    (¬pending → Runs .yield 1 0 (Group.goBehind s.cur.i) s) ∧
    (pending → settled → s.ctx.contpc ≠ 0 →
      saved .yield (Group.goBehind s.cur.i) s.ctx.contpc (some s.ctx.map)) ∧
    (pending → settled → s.ctx.contpc = 0 →
      saved .yield (Group.goBehind s.cur.i) (s.ctx.pc + 4) none) ∧
    (pending → drained → s.myTeam.reordering = false → s.me.ctxs = [(s.cur.i, s.ctx)] → core.baton = some s.cur.g →
      (∀ h ∈ core.batonReq, h.coreRef = s.cur.g.coreRef) →
      ∃ u, exec .yield s = .next u ∧ s.cur.g ∉ (u.core s.cur.g.coreRef).batonReq ∧
        (u.core s.cur.g.coreRef).baton = nextBaton s.cur.g (core.batonReq.filter (fun h => h != s.cur.g))) ∧
    (s.sreg r = 0 ∨ s.myTeam.yieldPending = true ∨ s.me.evicting = true → Runs (.sleep r) 1 0 (Group.goBehind s.cur.i) s) ∧
    (s.sreg r ≠ 0 → s.myTeam.yieldPending = false → s.me.evicting = false →
      RunsInto (.sleep (s.tick + min (s.sreg r).toNat (2 ^ 32 - 1))) (.sleep r) 1 0 (Group.goBehind s.cur.i) s) ∧
    (∀ (c : CtxId) (w : Nat), s.hasCtx c = true → ((s.grp c.g).ctx c.i).stop = .sleep w →
      (w ≤ s.tick → ∃ u, exec (.sleepEnd c) s = .next u ∧ OnlyGroup c.g id s u ∧ ((u.grp c.g).ctx c.i).stop = .running) ∧
      (s.tick < w → exec (.sleepEnd c) s = .next s))

/-- 24 R363-R366, 06 R123, 02 R44, 08 R152, 20 R327. That a handler entered in this cycle gives way to a trap of this cycle with a
lower lane is the model's reading (log 116). -/
def Obligations.TrapEntry : Prop :=
  (∀ (s : State) (c : CtxId) (tr : Trap), s.hasCtx c = true → (s.grp c.g).kind = .group →
    (s.grp c.g).handler = none → (s.task (s.grp c.g).task).l.tvec ≠ 0 →
    let g := s.grp c.g
    let x := g.ctx c.i
    let t := s.deliver c tr
    let y := (t.grp c.g).ctx c.i
    OnlyGroup c.g (fun g =>
      { (g.modCtx c.i (fun _ => y)) with
        trapped := g.trapped.ins c.i (s.tick + 1)
        trapCause := BitVec.ofNat 64 tr.cause, trapAddr := tr.addr, trapInfo := tr.info, trapPc := tr.pc
        bank := (t.grp c.g).bank, handler := (t.grp c.g).handler }) s t ∧
    y.pc = (s.task g.task).l.tvec ∧ y.due = true ∧ y.stop = .running ∧ y.p0 = x.p0 ∧ y.contpc = x.contpc ∧ y.map = x.map ∧
    (∀ r, r < 56 ∨ 64 ≤ r → y.sreg r = x.sreg r) ∧
    (∀ r, 56 ≤ r → r < 64 → y.sreg r = g.bank.get 0 r ∧ (t.grp c.g).bank.get 0 r = x.sreg r) ∧
    (∃ h, (t.grp c.g).handler = some h ∧ h.ctx = c.i ∧ h.pc = x.pc ∧ h.stop = x.stop ∧ h.trap = tr)) ∧
  (∀ (s : State) (k : Nat), s.plain = true →
    (exec (.trap k) s = .next (((s.charge 1).advanceB).deliver s.cur (s.trapHere causeTrapi (BitVec.ofNat 64 k) 0))) ∧
    (exec .brkpt s = .next (((s.charge 1).advance 4).deliver s.cur (s.trapHere causeTrapi 0x100 0)))) ∧
  (∀ (s : State) (c : CtxId) (tr : Trap), s.hasCtx c = true →
    let g := s.grp c.g
    let low (i : Nat) : Nat := (List.range 32).findIdx (inMask (g.ctx i).p0)
    let after (i : Nat) : Bool := decide (g.trapped.get 0 i = s.tick + 1 ∧ low c.i < low i)
    (∀ h, g.kind = .group → g.handler = some h → h.ctx ≠ c.i → ¬(h.fresh = true ∧ after h.ctx = true) →
      OnlyGroup c.g (fun g =>
        { g with
          waiting := g.waiting.takeWhile (fun w => !after w.1) ++ (c.i, tr) :: g.waiting.dropWhile (fun w => !after w.1)
          trapped := g.trapped.ins c.i (s.tick + 1) }) s (s.deliver c tr) ∧
      (((s.deliver c tr).grp c.g).ctx c.i).stop = .handlerWait) ∧
    (∀ h, g.kind = .group → g.handler = some h → h.ctx ≠ c.i → h.fresh = true → after h.ctx = true →
      s.hasCtx ⟨c.g, h.ctx⟩ = true →
      (∃ h', ((s.deliver c tr).grp c.g).handler = some h' ∧ h'.ctx = c.i ∧ h'.trap = tr) ∧
      (h.ctx, h.trap) ∈ ((s.deliver c tr).grp c.g).waiting ∧
      (((s.deliver c tr).grp c.g).ctx h.ctx).stop = .handlerWait) ∧
    (∀ h, g.kind = .group → g.handler = some h → h.ctx = c.i →
      s.deliver c tr = s.endTask g.task causeDfault 0x03 tr.addr (s.handle c.g) tr.clause tr.idx) ∧
    (g.kind = .group → g.handler = none → (s.task g.task).l.tvec = 0 →
      s.deliver c tr = s.endTask g.task tr.cause (tr.info.toNat % 256) tr.addr (s.handle c.g) tr.clause tr.idx) ∧
    (∀ os ps, g.kind = .laneWave os ps →
      s.deliver c tr = s.endTask g.task causeDfault 0x04 tr.addr (s.handle c.g) tr.clause tr.idx) ∧
    (∀ obj, g.kind = .combiner obj → s.deliver c tr = s.abortWave obj 0x11))

/-- 06 R124, 24 R364. -/
def Obligations.TrapThenReturn : Prop :=
  (∀ (s : State) (h : Handler), s.plain = true → s.me.handler = some h → h.ctx = s.cur.i → h.trap.ends = false →
    h.trap.lanes = false → s.me.waiting = [] →
    ∃ t, exec .rett s = .next t ∧
      let x := s.ctx
      let y := (t.grp s.cur.g).ctx s.cur.i
      OnlyGroup s.cur.g (fun g => { (g.modCtx s.cur.i (fun _ => y)) with bank := [], handler := none }) s t ∧
      y.pc = h.pc ∧ y.clause = h.clause ∧ y.idx = h.idx ∧ y.due = h.due ∧ y.pred = h.pred ∧ y.setA = h.setA ∧
      y.setB = h.setB ∧ y.p0 = x.p0 ∧ y.contpc = x.contpc ∧ y.map = x.map ∧
      (∀ r, r < 56 ∨ 64 ≤ r → y.sreg r = x.sreg r) ∧ (∀ r, 56 ≤ r → r < 64 → y.sreg r = s.me.bank.get 0 r)) ∧
  (∀ (g : Group) (i : Nat) (tr : Trap) (tvec : DWord) (h : Handler), (g.ctxs.look i).isSome = true →
    (g.enterHandler i tr tvec).handler = some h →
    let y := ((g.enterHandler i tr tvec).leaveHandler h).ctx i
    (∀ r, y.sreg r = (g.ctx i).sreg r) ∧ y.pc = (g.ctx i).pc ∧ y.clause = (g.ctx i).clause ∧ y.idx = (g.ctx i).idx ∧
      y.due = (g.ctx i).due ∧ y.p0 = (g.ctx i).p0) ∧
  (∀ s : State, (∀ h, s.me.handler = some h → h.ctx ≠ s.cur.i) → TrapsB .rett causePriv 0 0 s)

/-- 07 R129, R131, 05 R86. -/
def Obligations.VectorInteger : Prop :=
  ∀ (s : State) (d a : Nat) (b : Ob), s.plain = true → d < s.me.regalloc → d < 256 → a < s.me.regalloc → a < 256 →
    let two (i : Instr) (f : Word → Word → Word) : Prop :=
      WritesV 1 4 i d (fun l => f (s.v a l) (s.ob .int b l)) 0 s
    let three (i : Instr) (f : Word → Word → Word → Word) : Prop :=
      WritesV 1 4 i d (fun l => f (s.v a l) (s.ob .int b l) (s.v d l)) 0 s
    let one (i : Instr) (f : Word → Word) : Prop := WritesV 1 4 i d (fun l => f (s.v a l)) 0 s
    let sum4 (f : BitVec 8 → Int) (x y : Word) : Int :=
      f (x.extractLsb' 0 8) * f (y.extractLsb' 0 8) + f (x.extractLsb' 8 8) * f (y.extractLsb' 8 8) +
        f (x.extractLsb' 16 8) * f (y.extractLsb' 16 8) + f (x.extractLsb' 24 8) * f (y.extractLsb' 24 8)
    two (.vadd d a b) (· + ·) ∧ two (.vsub d a b) (· - ·) ∧ two (.vmullo d a b) (· * ·) ∧
    two (.vmulhi d a b) (fun x y => BitVec.extractLsb' 32 32 (x.signExtend 64 * y.signExtend 64)) ∧
    two (.vmulhin d a b) (fun x y => BitVec.extractLsb' 32 32 (x.setWidth 64 * y.setWidth 64)) ∧
    three (.vmad d a b) (fun x y z => x * y + z) ∧
    two (.vand d a b) (· &&& ·) ∧ two (.vor d a b) (· ||| ·) ∧ two (.vxor d a b) (· ^^^ ·) ∧
    two (.vandn d a b) (fun x y => x &&& ~~~y) ∧
    two (.vshl d a b) (fun x y => x <<< (y.extractLsb' 0 5).toNat) ∧
    two (.vshr d a b) (fun x y => x >>> (y.extractLsb' 0 5).toNat) ∧
    two (.vsar d a b) (fun x y => x.sshiftRight (y.extractLsb' 0 5).toNat) ∧
    two (.vmin d a b) (fun x y => if x.slt y then x else y) ∧
    two (.vmax d a b) (fun x y => if y.slt x then x else y) ∧
    two (.vminn d a b) (fun x y => if x.ult y then x else y) ∧
    two (.vmaxn d a b) (fun x y => if y.ult x then x else y) ∧
    one (.vabs d a) (fun x => if x.msb then 0 - x else x) ∧
    one (.vclz d a) (fun x => BitVec.ofNat 32 (((List.range 33).find? (fun n => x.toNat < 2 ^ n)).map (32 - ·) |>.getD 0)) ∧
    one (.vpopc d a) (fun x => BitVec.ofNat 32 ((List.range 32).filter x.getLsbD).length) ∧
    two (.vaddsat d a b) (fun x y =>
      BitVec.ofInt 32 (if x.toInt + y.toInt < -(2 ^ 31) then -(2 ^ 31)
        else if 2 ^ 31 - 1 < x.toInt + y.toInt then 2 ^ 31 - 1 else x.toInt + y.toInt)) ∧
    three (.vdp4 d a b) (fun x y z => z + BitVec.ofInt 32 (sum4 BitVec.toInt x y)) ∧
    three (.vdp4n d a b) (fun x y z => z + BitVec.ofInt 32 (sum4 (fun w => (w.toNat : Int)) x y))

/-- 07 R130, 02 R31: code 16 of ob is the pair of low word q1 and high word q0. -/
def Obligations.VectorPairs : Prop :=
  ∀ (s : State) (d a : Nat) (b : Ob), s.plain = true →
    let ob64 (l : Nat) : DWord :=
      match b with
      | .o k => s.me.oreg (k + 1) l ++ s.me.oreg k l
      | .q k => s.me.qreg k l ++ s.me.qreg (k + 1) l
      | .s r => s.sreg r
      | .const 0 => 0
      | .const 1 => 1
      | .const 2 => 0xFFFFFFFFFFFFFFFF
      | .const _ => 2
    let odd : Prop := match b with
      | .o k => k % 2 = 1
      | .q k => k % 2 = 1
      | _ => False
    let va (l : Nat) : DWord := s.v (a + 1) l ++ s.v a l
    let pair (i : Instr) (f : DWord → DWord → DWord) : Prop :=
      (d % 2 = 0 → a % 2 = 0 → d + 2 ≤ s.me.regalloc → d + 2 ≤ 256 → a + 2 ≤ s.me.regalloc → a + 2 ≤ 256 → ¬odd →
        ∃ t, exec i s = .next t ∧ Paid 1 0 s t ∧ RunsOn s t ∧
          let u := t.grp s.cur.g
          OnlyGroup s.cur.g (fun g => ({ g with v := u.v, q := u.q } : Group).goOn s.cur.i 4) s t ∧
          (∀ r l, l < 32 → u.vreg r l =
            if r = d ∧ inMask s.active l = true then (f (va l) (ob64 l)).extractLsb' 0 32
            else if r = d + 1 ∧ inMask s.active l = true then (f (va l) (ob64 l)).extractLsb' 32 32
            else s.me.vreg r l) ∧
          (∀ l, l < 32 → inMask s.laneSet l = true → u.qreg 0 l = u.vreg (d + 1) l ∧ u.qreg 1 l = u.vreg d l ∧
            u.qreg 2 l = s.me.qreg 0 l ∧ u.qreg 3 l = s.me.qreg 1 l) ∧
          (∀ k l, l < 32 → 4 ≤ k ∨ inMask s.laneSet l = false → u.qreg k l = s.me.qreg k l)) ∧
      (odd ∨ d % 2 = 1 ∨ a % 2 = 1 → Traps i causeIllegal 3 0 4 s)
    pair (.vadd64 d a b) (· + ·) ∧ pair (.vsub64 d a b) (· - ·)

/-- 02 R32, 07 R143. FFMAQ and VMADQ: the old q0. Register limits: 02 R40 in the order of 02 R401, where 0x09 comes before 0x03. -/
def Obligations.ShortForms : Prop :=
  (∀ (s : State) (d : Nat) (b : Ob), s.plain = true →
    let int (i : Instr) (f : Word → Word → Word) : Prop :=
      (d < s.me.regalloc → d < 256 → WritesV 1 2 i d (fun l => f (s.v d l) (s.ob .int b l)) 0 s) ∧
      (s.me.regalloc ≤ d → Traps i causeIllegal 3 0 2 s)
    let flt (i : Instr) (f : Nat → FVal → FVal → FRes) : Prop :=
      d < s.me.regalloc → d < 256 → s.me.trapnf = 0 →
        WritesF 1 2 i d (fun l => f s.me.frm.toNat (v32 (s.v d l)) (v32 (s.ob .f32 b l))) s
    int (.vadd16 d b) (· + ·) ∧ int (.vsub16 d b) (· - ·) ∧ int (.vand16 d b) (· &&& ·) ∧ int (.vor16 d b) (· ||| ·) ∧
    int (.vxor16 d b) (· ^^^ ·) ∧ int (.vshl16 d b) (fun x y => x <<< (y.extractLsb' 0 5).toNat) ∧
    int (.vshr16 d b) (fun x y => x >>> (y.extractLsb' 0 5).toNat) ∧
    int (.vmin16 d b) (fun x y => if x.slt y then x else y) ∧ int (.vmov16 d b) (fun _ y => y) ∧
    flt (.fadd16 d b) fmt32.add ∧ flt (.fsub16 d b) fmt32.sub ∧ flt (.fmul16 d b) fmt32.mul ∧
    (d < s.me.regalloc → d < 256 → WritesV 1 2 (.vmadq d b) d (fun l => s.me.qreg 0 l * s.ob .int b l + s.v d l) 0 s) ∧
    (d < s.me.regalloc → d < 256 → s.me.trapnf = 0 →
      WritesF 1 2 (.ffmaq d b) d (fun l =>
        fmt32.fma s.me.frm.toNat (v32 (s.me.qreg 0 l)) (v32 (s.ob .f32 b l)) (some (v32 (s.v d l)))) s ∧
      WritesF 1 2 (.fmax16 d b) d (fun l => fmt32.minmax true (s.v d l).toNat (s.ob .f32 b l).toNat) s ∧
      WritesF 1 2 (.fmin16 d b) d (fun l => fmt32.minmax false (s.v d l).toNat (s.ob .f32 b l).toNat) s)) ∧
  (∀ (s : State) (d a : Nat) (m : CMode) (b : Ob), s.me.regalloc ≤ a →
    Traps (.vadd d a b) causeIllegal 3 0 4 s ∧ Traps (.vadd a d b) causeIllegal 3 0 4 s ∧
    Traps (.fadd d a b) causeIllegal 3 0 4 s ∧ Traps (.fsqrt d a) causeIllegal 3 0 4 s ∧
    Traps (.vshfl d a b) causeIllegal 3 0 4 s ∧ Traps (.vmov d a) causeIllegal 3 0 4 s ∧
    Traps (.vmovo d a) causeIllegal 3 0 4 s ∧ Traps (.vlid a) causeIllegal 3 0 4 s ∧
    Traps (.fadd16 a b) causeIllegal 3 0 2 s ∧
    (d ≠ 0 → Traps (.vceq d m a b) causeIllegal 3 0 4 s) ∧ Traps (.vceq 0 m a b) causeIllegal 9 0 4 s)

/-- 07 R132-R142, over the operations of 04 (FloatSpecials says what those are). -/
def Obligations.VectorFloat : Prop :=
  ∀ (s : State) (d a c : Nat) (b : Ob), s.plain = true → d < s.me.regalloc → d < 256 → a < s.me.regalloc → a < 256 →
    let m := s.me.frm.toNat
    let x (l : Nat) := v32 (s.v a l)
    let y (l : Nat) := v32 (s.ob .f32 b l)
    let z (l : Nat) := v32 (s.v d l)
    let halves (i : Instr) (ty : ObTy) (f : Fmt) (k : FVal → FVal → FVal → FRes) : Prop :=
      let r (h l : Nat) := k (f.val (half h (s.v a l))) (f.val (half h (s.ob ty b l))) (f.val (half h (s.v d l)))
      WritesV 1 4 i d (fun l => BitVec.ofNat 32 ((r 0 l).bits + 65536 * (r 1 l).bits))
        (s.events (fun l => (r 0 l).ev ||| (r 1 l).ev)) s
    let pack (i : Instr) (f : Fmt) : Prop :=
      WritesV 1 4 i d (fun l => BitVec.ofNat 32
          ((f.cvt m (y l)).bits * 2 ^ 24 + (f.cvt m (x l)).bits * 2 ^ 16 + (s.v d l).toNat / 65536))
        (s.events (fun l => (f.cvt m (x l)).ev ||| (f.cvt m (y l)).ev)) s
    WritesV 1 4 (.fabs d a) d (fun l => s.v a l &&& 0x7FFFFFFF) 0 s ∧
    WritesV 1 4 (.fneg d a) d (fun l => s.v a l ^^^ 0x80000000) 0 s ∧
    (s.me.trapnf = 0 →
      WritesF 1 4 (.fadd d a b) d (fun l => fmt32.add m (x l) (y l)) s ∧
      WritesF 1 4 (.fsub d a b) d (fun l => fmt32.sub m (x l) (y l)) s ∧
      WritesF 1 4 (.fmul d a b) d (fun l => fmt32.mul m (x l) (y l)) s ∧
      WritesF 1 4 (.ffma d a b) d (fun l => fmt32.fma m (x l) (y l) (some (z l))) s ∧
      WritesF 1 4 (.ffms d a b) d (fun l => fmt32.fma m (x l) (y l) (some (z l).neg)) s ∧
      WritesF 1 4 (.fnma d a b) d (fun l => fmt32.fma m (x l).neg (y l) (some (z l))) s ∧
      WritesF 1 4 (.fmin d a b) d (fun l => fmt32.minmax false (s.v a l).toNat (s.ob .f32 b l).toNat) s ∧
      WritesF 1 4 (.fmax d a b) d (fun l => fmt32.minmax true (s.v a l).toNat (s.ob .f32 b l).toNat) s ∧
      WritesF 4 4 (.fdiv d a b) d (fun l => fmt32.div m (x l) (y l)) s ∧
      WritesF 4 4 (.fsqrt d a) d (fun l => fmt32.sqrt m (x l)) s ∧
      WritesF 4 4 (.frcp d a) d (fun l => fmt32.div m (.fin false 1 0) (x l)) s ∧
      WritesF 4 4 (.frsq d a) d (fun l => fmt32.rsq m (x l)) s ∧
      WritesF 1 4 (.fexp2c d a) d (fun l => exp2c (s.v a l).toNat) s ∧
      WritesF 1 4 (.frint d a) d (fun l => fmt32.rint m (s.v a l).toNat) s ∧
      WritesF 1 4 (.fscale d a b) d (fun l => fmt32.scale m (s.v a l).toNat (s.ob .int b l).toInt) s ∧
      halves (.hadd2 d a b) .h16 fmt16 (fun p q _ => fmt16.add m p q) ∧
      halves (.hmul2 d a b) .h16 fmt16 (fun p q _ => fmt16.mul m p q) ∧
      halves (.hfma2 d a b) .h16 fmt16 (fun p q r => fmt16.fma m p q (some r)) ∧
      halves (.badd2 d a b) .b16 fmtB16 (fun p q _ => fmtB16.add m p q) ∧
      halves (.bmul2 d a b) .b16 fmtB16 (fun p q _ => fmtB16.mul m p q) ∧
      halves (.bfma2 d a b) .b16 fmtB16 (fun p q r => fmtB16.fma m p q (some r)) ∧
      pack (.vpke4 d a b) fmtE4 ∧ pack (.vpke5 d a b) fmtE5 ∧
      (c < 25 → WritesV 1 4 (.vcvt d a c) d (fun l => (vcvt c m (s.v a l) (s.v d l)).words.headD 0)
        (s.events (fun l => (vcvt c m (s.v a l) (s.v d l)).ev)) s)) ∧
    (25 ≤ c → Traps (.vcvt d a c) causeIllegal 8 0 4 s)

/-- The number that a finite value of 04 R62 stands for. -/
def numOf (v : FVal) : ℚ :=
  match v with
  | .fin n m e => (if n then -1 else 1) * m * (2 : ℚ) ^ e
  | _ => 0

/-- A number taken to a whole number in a rounding mode of 04 R67: nearest with ties to even, toward zero, up, down. -/
def toWhole {K : Type} [Field K] [LinearOrder K] [FloorRing K] (mode : Nat) (x : K) : Int :=
  if mode = 0 then (if Int.fract x < 1 / 2 ∨ Int.fract x = 1 / 2 ∧ ⌊x⌋ % 2 = 0 then ⌊x⌋ else ⌊x⌋ + 1)
  else if mode = 1 then (if x < 0 then ⌈x⌉ else ⌊x⌋)
  else if mode = 2 then ⌈x⌉
  else ⌊x⌋

/-- A number rounded to whole multiples of 2^k (04 R68). -/
def toUlps {K : Type} [Field K] [LinearOrder K] [FloorRing K] (mode : Nat) (x : K) (k : Int) : K := toWhole mode (x / 2 ^ k) * 2 ^ k

/-- r is the rounding of a number other than zero to a format in a mode (04 R67-R69): the multiple of its unit in the last place
that the mode selects, inexact where they differ, underflow where it is also tiny, overflow beyond the largest finite value.
Log 17 (deduced): tiny is judged after rounding with an unbounded exponent. -/
def RoundsTo {K : Type} [Field K] [LinearOrder K] [IsStrictOrderedRing K] [FloorRing K] (f : Fmt) (mode : Nat) (x : K) (r : FRes) : Prop :=
  let n := decide (x < 0)
  let lead := Int.log 2 |x|
  let emin : Int := 1 - (f.bias : Int)
  let y := toUlps mode x (max lead emin - f.fbits)
  -- the largest finite value of 04 R62 lies below infinity, or below E4M3's NaN
  let top : Nat := if f.inf then (2 ^ f.ebits - 1) * 2 ^ f.fbits - 1 else 2 ^ (f.ebits + f.fbits) - 2
  let away : Bool := f.inf && (mode == 0 || mode == (if n then 3 else 2))
  ((numOf (f.val top) : K) < |y| →
    r = ⟨(if n then 2 ^ (f.ebits + f.fbits) else 0) + top + (if away then 1 else 0), evOF ||| evNX⟩) ∧
  (|y| ≤ (numOf (f.val top) : K) →
    (∃ k j, f.val r.bits = .fin n k j) ∧ (numOf (f.val r.bits) : K) = y ∧ r.bits < 2 ^ (1 + f.ebits + f.fbits) ∧
    r.ev = (if y = x then 0 else evNX ||| (if |toUlps mode x (lead - f.fbits)| < 2 ^ emin then evUF else 0)))

/-- 04 R62-R65, R67-R69, R72, R77, 07 R132, R133, R135-R138, R141: nothing is flushed, rounding leaves representable
values, and each rounding is stated over rational numbers. Log 17 (deduced): tininess is judged after rounding with an
unbounded exponent. -/
def Obligations.FloatSpecials : Prop :=
  (∀ (m : Nat) (a b : FVal) (n : Bool) (i : Int),
    let nan : Nat := 0x7FC00000
    let inf (n : Bool) : Nat := if n then 0xFF800000 else 0x7F800000
    (a = .nan ∨ b = .nan →
      fmt32.add m a b = ⟨nan, evNO⟩ ∧ fmt32.sub m a b = ⟨nan, evNO⟩ ∧ fmt32.mul m a b = ⟨nan, evNO⟩ ∧
      fmt32.div m a b = ⟨nan, evNO⟩) ∧
    fmt32.sqrt m .nan = ⟨nan, evNO⟩ ∧ fmt32.rsq m .nan = ⟨nan, evNO⟩ ∧
    fmt32.add m (.inf n) (.inf !n) = ⟨nan, evNV⟩ ∧ fmt32.sub m (.inf n) (.inf n) = ⟨nan, evNV⟩ ∧
    (∀ k e, fmt32.mul m (.fin k 0 e) (.inf n) = ⟨nan, evNV⟩ ∧ fmt32.mul m (.inf n) (.fin k 0 e) = ⟨nan, evNV⟩) ∧
    (∀ k e k' e', fmt32.div m (.fin k 0 e) (.fin k' 0 e') = ⟨nan, evNV⟩) ∧
    (∀ k, fmt32.div m (.inf n) (.inf k) = ⟨nan, evNV⟩) ∧
    (∀ x e, 0 < x → fmt32.sqrt m (.fin true x e) = ⟨nan, evNV⟩ ∧ fmt32.rsq m (.fin true x e) = ⟨nan, evNV⟩) ∧
    (∀ k x e k' e', 0 < x → fmt32.div m (.fin k x e) (.fin k' 0 e') = ⟨inf (k != k'), evDZ⟩) ∧
    (∀ k x e, 0 < x → fmt32.sub m (.fin k x e) (.fin k x e) = ⟨if m = 3 then 0x80000000 else 0, 0⟩) ∧
    (∀ x, fmt32.val x ≠ .nan → fmt32.minmax n 0x7FC00000 x = ⟨x, evNO⟩ ∧ fmt32.minmax n x 0x7FC00000 = ⟨x, evNO⟩) ∧
    fmt32.minmax false 0 0x80000000 = ⟨0x80000000, 0⟩ ∧ fmt32.minmax true 0x80000000 0 = ⟨0, 0⟩ ∧
    (∀ x, x ∈ [0, 0x80000000, 0x7F800000, 0xFF800000] → fmt32.scale m x i = ⟨x, 0⟩)) ∧
  (∀ f ∈ [fmt32, fmt16, fmtB16, fmtE5, fmtE4], ∀ (mode b : Nat), b < 2 ^ (1 + f.ebits + f.fbits) →
    (∀ n m e, f.val b = .fin n m e → f.cvt mode (f.val b) = ⟨b, 0⟩) ∧
    (f.val b = .nan → f.cvt mode (f.val b) = ⟨f.nan, evNO⟩)) ∧
  -- 04 R67-R69: one rounding of a number that is not zero
  (∀ f ∈ [fmt32, fmt16, fmtB16, fmtE5, fmtE4], ∀ (mode : Nat) (n : Bool) (m : Nat) (e : Int), 0 < m → mode < 4 →
    RoundsTo f mode (numOf (.fin n m e)) (f.cvt mode (.fin n m e))) ∧
  -- 04 R65, 07 R132, R135, R138: one rounding of the exact sum, product, quotient, root and scaled number
  (∀ f ∈ [fmt32, fmt16, fmtB16, fmtE5, fmtE4], ∀ (mode : Nat) (na nb nc : Bool) (ma mb mc : Nat) (ea eb ec i : Int), mode < 4 →
    let a : FVal := .fin na ma ea
    let b : FVal := .fin nb mb eb
    let c : FVal := .fin nc mc ec
    let zero (n : Bool) : FRes := ⟨if n then 2 ^ (f.ebits + f.fbits) else 0, 0⟩
    let sum (x : ℚ) (n k : Bool) (r : FRes) : Prop :=
      (x ≠ 0 → RoundsTo f mode x r) ∧ (x = 0 → r = zero (if n = k then n else mode == 3))
    sum (numOf a + numOf b) na nb (f.add mode a b) ∧
    sum (numOf a - numOf b) na (!nb) (f.sub mode a b) ∧
    sum (numOf a * numOf b + numOf c) (na != nb) nc (f.fma mode a b (some c)) ∧
    (ma * mb ≠ 0 → RoundsTo f mode (numOf a * numOf b) (f.mul mode a b)) ∧ (ma * mb = 0 → f.mul mode a b = zero (na != nb)) ∧
    (mb ≠ 0 → (ma ≠ 0 → RoundsTo f mode (numOf a / numOf b) (f.div mode a b)) ∧ (ma = 0 → f.div mode a b = zero (na != nb))) ∧
    (ma ≠ 0 → na = false → RoundsTo f mode (Real.sqrt (numOf a : ℝ)) (f.sqrt mode a) ∧
      RoundsTo f mode (1 / Real.sqrt (numOf a : ℝ)) (f.rsq mode a)) ∧
    (f.sqrt mode (.fin na 0 ea) = zero na) ∧
    (∀ x n m e, x < 2 ^ (1 + f.ebits + f.fbits) → f.val x = .fin n m e → m ≠ 0 →
      RoundsTo f mode (numOf (.fin n m e) * 2 ^ i) (f.scale mode x i))) ∧
  -- 07 R137
  (∀ (mode b : Nat), b < 2 ^ 32 →
    (fmt32.val b = .nan → fmt32.rint mode b = ⟨0x7FC00000, evNO⟩) ∧
    (∀ n, fmt32.val b = .inf n → fmt32.rint mode b = ⟨b, 0⟩) ∧
    (∀ n m e, fmt32.val b = .fin n m e →
      let x := numOf (.fin n m e)
      let r := fmt32.rint mode b
      (∃ k j, fmt32.val r.bits = .fin n k j) ∧ numOf (fmt32.val r.bits) = toWhole mode x ∧ r.bits < 2 ^ 32 ∧
      r.ev = (if (toWhole mode x : ℚ) = x then 0 else evNX) ∧ (2 ^ 23 ≤ |x| → r.bits = b))) ∧
  -- 04 R77, 07 R136: the procedure with its coefficients
  (∀ b : Nat, b < 2 ^ 32 →
    (fmt32.val b = .nan → exp2c b = ⟨0x7FC00000, evNO⟩) ∧
    (fmt32.val b = .inf false → exp2c b = ⟨0x7F800000, 0⟩) ∧
    (fmt32.val b = .inf true → exp2c b = ⟨0, 0⟩) ∧
    (∀ n m e, fmt32.val b = .fin n m e →
      let x := numOf (.fin n m e)
      (128 ≤ x → exp2c b = ⟨0x7F800000, evOF ||| evNX⟩) ∧
      (x < -150 → exp2c b = ⟨0, evUF ||| evNX⟩) ∧
      (-150 ≤ x → x < 128 → ∃ k j, numOf (.fin false k j) = Int.fract x ∧
        let f : FVal := .fin false k j
        let p1 := fmt32.fma 0 (fmt32.val 0x3DA2B190) f (some (fmt32.val 0x3E65E1D8))
        let p2 := fmt32.fma 0 (fmt32.val p1.bits) f (some (fmt32.val 0x3F32315C))
        let p3 := fmt32.fma 0 (fmt32.val p2.bits) f (some (fmt32.val 0x3F800000))
        let r := fmt32.scale 0 p3.bits ⌊x⌋
        let inexact := (p1.ev ||| p2.ev ||| p3.ev ||| r.ev) &&& evNX ≠ 0
        exp2c b = ⟨r.bits, (if inexact then evNX else 0) ||| (r.ev &&& evOF) |||
          (if inexact ∧ r.bits < 0x00800000 then evUF else 0)⟩))) ∧
  -- 07 R141, 04 R72
  (∀ (mode : Nat) (a d : Word),
    let conv (c w : Nat) (ev : Ev) : Prop := vcvt c mode a d = ⟨[BitVec.ofNat 32 w], ev⟩
    let whole (c mode : Nat) (lo hi : Int) : Prop :=
      (fmt32.val a.toNat = .nan → conv c 0 (evNO ||| evNV)) ∧
      (∀ n, fmt32.val a.toNat = .inf n → vcvt c mode a d = ⟨[BitVec.ofInt 32 (if n then lo else hi)], evNV⟩) ∧
      (∀ n m e, fmt32.val a.toNat = .fin n m e →
        let x := numOf (.fin n m e)
        let k := toWhole mode x
        vcvt c mode a d =
          if k < lo then ⟨[BitVec.ofInt 32 lo], evNV⟩
          else if hi < k then ⟨[BitVec.ofInt 32 hi], evNV⟩
          else ⟨[BitVec.ofInt 32 k], if (k : ℚ) = x then 0 else evNX⟩)
    let number (c : Nat) (x : Int) : Prop :=
      x ≠ 0 → conv c (fmt32.cvt mode (.fin (decide (x < 0)) x.natAbs 0)).bits (fmt32.cvt mode (.fin (decide (x < 0)) x.natAbs 0)).ev
    -- widening: the sign and the number stay
    let widens (c : Nat) (f : Fmt) (part : Nat) : Prop :=
      (f.val part = .nan → conv c 0x7FC00000 evNO) ∧
      (∀ n, f.val part = .inf n → conv c (if n then 0xFF800000 else 0x7F800000) 0) ∧
      (∀ n m e, f.val part = .fin n m e → ∃ w k j, w < 2 ^ 32 ∧ conv c w 0 ∧ fmt32.val w = .fin n k j ∧
        numOf (.fin n k j) = numOf (.fin n m e))
    let inserts (c : Nat) (f : Fmt) (low : Bool) : Prop :=
      let r := f.cvt mode (fmt32.val a.toNat)
      vcvt c mode a d = ⟨[if low then d.extractLsb' 16 16 ++ BitVec.ofNat 16 r.bits
        else BitVec.ofNat 16 r.bits ++ d.extractLsb' 0 16], r.ev⟩
    number 0 a.toInt ∧ number 1 a.toNat ∧ (a = 0 → conv 0 0 0 ∧ conv 1 0 0) ∧
    whole 2 1 (-(2 ^ 31)) (2 ^ 31 - 1) ∧ whole 3 1 0 (2 ^ 32 - 1) ∧ whole 4 mode (-(2 ^ 31)) (2 ^ 31 - 1) ∧
    widens 5 fmt16 (a.extractLsb' 0 16).toNat ∧ widens 6 fmt16 (a.extractLsb' 16 16).toNat ∧
    widens 7 fmtB16 (a.extractLsb' 0 16).toNat ∧ widens 8 fmtB16 (a.extractLsb' 16 16).toNat ∧
    inserts 9 fmt16 true ∧ inserts 10 fmt16 false ∧ inserts 11 fmtB16 true ∧ inserts 12 fmtB16 false ∧
    (∀ k, k < 4 → widens (13 + k) fmtE4 (a.extractLsb' (8 * k) 8).toNat ∧
      widens (17 + k) fmtE5 (a.extractLsb' (8 * k) 8).toNat) ∧
    vcvt 21 mode a d = ⟨[(a.extractLsb' 0 8).signExtend 32], 0⟩ ∧
    vcvt 22 mode a d = ⟨[(a.extractLsb' 0 16).signExtend 32], 0⟩ ∧
    vcvt 23 mode a d = ⟨[(a.extractLsb' 0 8).setWidth 32], 0⟩ ∧
    vcvt 24 mode a d = ⟨[(a.extractLsb' 0 16).setWidth 32], 0⟩)

/-- The lanes of the instruction at hand that trap wait for their team's lane handler in its cluster, behind those that wait
already (08 R150): each lane with the destination registers of its instruction and the words its handler lane will show in v0
to v6; `trap` gives a lane's cause, class, v1 and v2, `word` the code of its width, its class and its op. -/
def Collected (s t : State) (width : Nat) (word : Nat × Nat × Nat) (trap : Nat → Option (Nat × Nat × Word × Word)) : Prop :=
  let all (k : Collect) : List Origin := k.lanes ++ k.ready.flatten
  let now := all (t.collection s.me.team (clusterKey s.cur.g))
  let before := all (s.collection s.me.team (clusterKey s.cur.g))
  (∀ l x, l < 32 → trap l = some x →
    ⟨s.cur.g, s.me.gen, s.cur.i, l, width, s.tick,
      [(s.handle s.cur.g).setWidth 32, x.2.2.1, x.2.2.2,
        BitVec.ofNat 32 (word.1 * 2 ^ 21 + word.2.1 * 2 ^ 17 + word.2.2 * 2 ^ 10 + x.2.1 * 2 ^ 8 + x.1),
        BitVec.ofNat 32 (s.ctx.idx % 16 * 2 ^ 8 + l),
        s.ctx.clause.setWidth 32, (s.ctx.clause >>> 32).setWidth 32]⟩ ∈ now) ∧
  (∀ o ∈ before, o ∈ now) ∧
  now.length = before.length + ((List.range 32).filter (fun l => (trap l).isSome)).length

/-- The trap of a lane's failed check: its cause and its address (09 R160); a page without translation is ADDR (22 R343). -/
def failedCheck (a : DWord) (r : AccRes) : Option (Nat × Nat × Word × Word) :=
  match r with
  | .addr | .trans _ => some (causeAddr, 0, a.setWidth 32, (a >>> 32).setWidth 32)
  | .misalign => some (causeMisalign, 0, a.setWidth 32, (a >>> 32).setWidth 32)
  | _ => none

/-- An M-class instruction of which an active lane fails its checks is held in a group whose task has a lane handler (08 R149,
09 R160): it is charged 1 unit, its operation for the lanes that passed counts on its flag and waits, its context goes on
behind it and stops, its failed lanes are collected, and no register and no byte of memory changes. -/
def HoldsAccess (i : Instr) (op width : Nat) (flag : Option Nat) (set : BitVec 7) (k : OpKind)
    (trap : Nat → Option (Nat × Nat × Word × Word)) (s : State) : Prop :=
  s.me.kind = .group → s.me.handler = none → s.myTask.l.lanehnd ≠ 0 → (∃ l, l < 32 ∧ (trap l).isSome = true) →
    ∃ t h, exec i s = .next t ∧
      (sat64 s.myTeam.ci = s.myTeam.ci → (t.team s.me.team).ci = sat64 (s.myTeam.ci - 1)) ∧
      let u := t.grp s.cur.g
      let o := s.newOp flag set k
      u.held.look s.cur.i = some h ∧ h.op = some o ∧ h.active = s.active ∧ h.rotate = 0 ∧
      (∀ l, (∃ tr ∈ h.traps, tr.lane = l) ↔ l < 32 ∧ (trap l).isSome = true) ∧
      u.ops = s.me.ops ++ [{ o with gate := true }] ∧
      (∀ f, (u.flag f).count = (s.me.flag f).count + (if flag = some f then 1 else 0)) ∧
      (u.ctx s.cur.i).stop = .laneTrap ∧ (u.ctx s.cur.i).pc = s.ctx.pc + 4 ∧
      u.v = s.me.v ∧ u.q = s.me.q ∧ u.o = s.me.o ∧ u.p = s.me.p ∧ u.fpflags = s.me.fpflags ∧ t.mem = s.mem ∧
      (∀ h : SlotRef, h.key ≠ s.cur.g.key → (t.grp h).bare = (s.grp h).bare) ∧
      Collected s t width (if width = 4 then 3 else width, 4, op) trap

/-- A lane instruction without an active lane goes on, paying 1 unit; an operation with nothing to do is complete, so its flag
counts what it counted, and nothing else changes (02 R25, 09 R162). -/
def RunsEmpty (i : Instr) (s : State) : Prop :=
  ∃ t, exec i s = .next t ∧ Paid 1 0 s t ∧
    OnlyGroup s.cur.g (fun g => ({ g with flags := (t.grp s.cur.g).flags } : Group).goOn s.cur.i 4) s t ∧
    ∀ f, (t.grp s.cur.g).flag f = s.me.flag f

/-- 07 R128, 04 R71, 08 R149, R150; the second clause is what completing a held instruction does for the lanes that did not
trap and for those that a handler patched. -/
def Obligations.NonfiniteHold : Prop :=
  (∀ (s : State) (d a : Nat) (b : Ob), s.plain = true → d < s.me.regalloc → d < 256 → a < s.me.regalloc → a < 256 →
    s.me.kind = .group → s.me.handler = none → s.myTask.l.lanehnd ≠ 0 →
    let m := s.me.frm.toNat
    let x (l : Nat) := v32 (s.v a l)
    let y (l : Nat) := v32 (s.ob .f32 b l)
    let z (l : Nat) := v32 (s.v d l)
    -- 04 R71: the first enabled class
    let cls (ev : Ev) : Option Nat :=
      let on (t e : Nat) : Bool := s.me.trapnf.getLsbD t && ev.getLsbD e
      if on 3 3 then some 3 else if on 0 0 then some 0 else if on 2 2 then some 2 else if on 1 1 then some 1 else none
    let holds (i : Instr) (op : Nat) (units : Int) (ev : Nat → Ev) (bits : Nat → Nat) (v2 : Nat → Word) : Prop :=
      (∃ l, l < 32 ∧ inMask s.active l = true ∧ (cls (ev l)).isSome = true) →
      ∃ t h, exec i s = .next t ∧ Paid units 0 s t ∧
        let u := t.grp s.cur.g
        u.held.look s.cur.i = some h ∧ h.active = s.active ∧ h.dest = d ∧ h.rotate = 1 ∧
        (∀ l, l < 32 → ((∃ tr ∈ h.traps, tr.lane = l) ↔
          inMask s.active l = true ∧ (cls (ev l)).isSome = true)) ∧
        Collected s t 1 (1, 3, op) (fun l =>
          if inMask s.active l then (cls (ev l)).map (fun k => (causeNonfinite, k, s.v a l, v2 l)) else none) ∧
        (∀ l, l < 32 → inMask s.active l = true →
          h.results.get 0 l = BitVec.ofNat 32 (bits l) ∧ h.events.get 0 l = (ev l).toNat) ∧
        (u.ctx s.cur.i).stop = .laneTrap ∧ (u.ctx s.cur.i).pc = s.ctx.pc + 4 ∧
        u.v = s.me.v ∧ u.q = s.me.q ∧ u.fpflags = s.me.fpflags ∧ u.p = s.me.p ∧ t.mem = s.mem
    let flt (i : Instr) (op : Nat) (units : Int) (r : Nat → FRes) : Prop :=
      holds i op units (fun l => (r l).ev) (fun l => (r l).bits) (fun l => s.ob .f32 b l)
    flt (.fadd d a b) 0x30 1 (fun l => fmt32.add m (x l) (y l)) ∧
    flt (.fsub d a b) 0x31 1 (fun l => fmt32.sub m (x l) (y l)) ∧
    flt (.fmul d a b) 0x32 1 (fun l => fmt32.mul m (x l) (y l)) ∧
    flt (.ffma d a b) 0x33 1 (fun l => fmt32.fma m (x l) (y l) (some (z l))) ∧
    flt (.fdiv d a b) 0x3A 4 (fun l => fmt32.div m (x l) (y l)) ∧
    holds (.fsqrt d a) 0x3B 4 (fun l => (fmt32.sqrt m (x l)).ev) (fun l => (fmt32.sqrt m (x l)).bits) (fun _ => 0) ∧
    holds (.vpke4 d a b) 0x51 1 (fun l => (fmtE4.cvt m (x l)).ev ||| (fmtE4.cvt m (y l)).ev)
      (fun l => (fmtE4.cvt m (y l)).bits * 2 ^ 24 + (fmtE4.cvt m (x l)).bits * 2 ^ 16 + (s.v d l).toNat / 2 ^ 16)
      (fun l => s.ob .f32 b l)) ∧
  (∀ (s : State) (c : CtxId) (h : Held), s.hasCtx c = true → (s.grp c.g).held.look c.i = some h → h.op = none →
    h.whole = false → h.width = 1 → h.rotate = 1 →
    let u := (s.completeHeld c false).grp c.g
    (∀ l, l < 32 → inMask h.active l = true → (∀ tr ∈ h.traps, tr.lane ≠ l) →
      u.vreg h.dest l = h.results.get 0 l) ∧
    (∀ l tr w ws, l < 32 → inMask h.active l = true → h.traps.find? (fun tr => tr.lane = l) = some tr →
      tr.patch = some (w :: ws) → u.vreg h.dest l = w) ∧
    (∀ k, k < 6 → (u.fpflags.getLsbD k = true ↔ (s.grp c.g).fpflags.getLsbD k = true ∨
      ∃ l, l < 32 ∧ inMask h.active l = true ∧ (∀ tr ∈ h.traps, tr.lane ≠ l) ∧ (h.events.get 0 l).testBit k = true)) ∧
    (∀ l, l < 32 → inMask ((s.grp c.g).ctx c.i).p0 l = true →
      u.qreg 0 l = u.vreg h.dest l ∧ u.qreg 1 l = (s.grp c.g).qreg 0 l) ∧
    u.held.look c.i = none) ∧
  (∀ (s : State) (c : CtxId) (h : Held) (o : Op), s.hasCtx c = true → (s.grp c.g).held.look c.i = some h → h.op = some o →
    o.isM = true → h.whole = false → h.rotate = 0 → (s.grp c.g).findOp o.id = some { o with gate := true } →
    let u := (s.completeHeld c false).grp c.g
    (o.kind.pendingLanes = 0 → u.findOp o.id = none ∧
      ∀ f, o.flag = some f → (u.flag f).count = ((s.grp c.g).flag f).count - 1) ∧
    (o.kind.pendingLanes ≠ 0 → u.findOp o.id = some { o with gate := false } ∧
      ∀ f, (u.flag f).count = ((s.grp c.g).flag f).count) ∧
    (∀ l tr ws j, l < 32 → inMask h.active l = true → h.traps.find? (fun tr => tr.lane = l) = some tr →
      tr.patch = some ws → j < h.width → j < ws.length → u.vreg (h.dest + j) l = ws.getD j 0) ∧
    (∀ r l, l < 32 → (∀ tr ∈ h.traps, tr.lane ≠ l) → u.vreg r l = (s.grp c.g).vreg r l) ∧
    u.q = (s.grp c.g).q ∧ u.held.look c.i = none)

/-- 08 R144, R145. -/
def Obligations.ComparesAndPredicates : Prop :=
  -- what the FP relations say of numbers
  (∀ (n k : Bool) (m j : Nat) (e i : Int) (v : FVal),
    let x : FVal := .fin n m e
    let y : FVal := .fin k j i
    (x.eq y = true ↔ numOf x = numOf y) ∧ (x.lt false y = true ↔ numOf x < numOf y) ∧
    (FVal.eq .nan v = false ∧ v.eq .nan = false ∧ FVal.lt false .nan v = false ∧ v.lt false .nan = false) ∧
    ((FVal.inf n).eq x = false ∧ x.eq (.inf n) = false ∧ (FVal.inf n).lt false x = n ∧ x.lt false (.inf n) = !n) ∧
    ((FVal.inf n).eq (.inf k) = (n == k) ∧ (FVal.inf n).lt false (.inf k) = (n && !k))) ∧
  ∀ (s : State) (d a e : Nat) (mode : CMode) (b : Ob), s.plain = true →
    let x (l : Nat) := s.v a l
    let y (l : Nat) := s.ob .int b l
    let f (l : Nat) := v32 (s.v a l)
    let g (l : Nat) := v32 (s.ob .f32 b l)
    let p (k l : Nat) : Bool := inMask (s.me.pred s.ctx k) l
    let cmp (i : Instr) (rel : Nat → Bool) : Prop :=
      (0 < d → d < 64 → a < s.me.regalloc → a < 256 →
        WritesP i d (fun l =>
          match mode with
          | .setTo => rel l
          | .andInto => inMask (s.me.p.get 0 d) l && rel l
          | .orInto => inMask (s.me.p.get 0 d) l || rel l
          | .andnInto => inMask (s.me.p.get 0 d) l && !rel l) s) ∧
      (d = 0 → Traps i causeIllegal 9 0 4 s)
    let prd (i : Instr) (v : Nat → Bool) : Prop :=
      (0 < d → WritesP i d v s) ∧ (d = 0 → Traps i causeIllegal 9 0 4 s)
    cmp (.vceq d mode a b) (fun l => x l == y l) ∧ cmp (.vcne d mode a b) (fun l => x l != y l) ∧
    cmp (.vclt d mode a b) (fun l => (x l).slt (y l)) ∧ cmp (.vcle d mode a b) (fun l => (x l).sle (y l)) ∧
    cmp (.vcltn d mode a b) (fun l => (x l).ult (y l)) ∧ cmp (.vclen d mode a b) (fun l => (x l).ule (y l)) ∧
    cmp (.fceq d mode a b) (fun l => (f l).eq (g l)) ∧ cmp (.fcne d mode a b) (fun l => !(f l).eq (g l)) ∧
    cmp (.fclt d mode a b) (fun l => (f l).lt false (g l)) ∧
    cmp (.fcle d mode a b) (fun l => (f l).lt false (g l) || (f l).eq (g l)) ∧
    cmp (.fcun d mode a b) (fun l => f l == .nan || g l == .nan) ∧
    prd (.pand d a e) (fun l => p a l && p e l) ∧ prd (.por d a e) (fun l => p a l || p e l) ∧
    prd (.pxor d a e) (fun l => p a l != p e l) ∧ prd (.pandn d a e) (fun l => p a l && !p e l) ∧
    prd (.pnot d a) (fun l => !p a l) ∧
    prd (.pfirst d a) (fun l => p a l && inMask s.active l &&
      (List.range l).all (fun k => !(p a k && inMask s.active k))) ∧
    (20 ≤ b.code → prd (.pset d b) (fun l => inMask (s.ob .int b 0) l)) ∧
    (b.code < 20 → Traps (.pset d b) causeIllegal 8 0 4 s) ∧
    (d < s.me.regalloc → d < 256 → WritesV 1 4 (.ppopc d a) d (fun _ =>
      BitVec.ofNat 32 ((List.range 32).filter (fun l => inMask s.laneSet l && p a l)).length) 0 s)

/-- 08 R146, 05 R83, R86, R87. -/
def Obligations.CrossLane : Prop :=
  ∀ (s : State) (d a c : Nat) (b : Ob), s.plain = true → d < s.me.regalloc → d < 256 → a < s.me.regalloc → a < 256 →
    let ob (l : Nat) : Nat := (s.ob .int b l).toNat
    let within (j : Nat) : Bool := decide (j < 32) && inMask s.laneSet j
    let acts : List Nat := (List.range 32).filter (inMask s.active)
    let first := acts.headD 32
    let sum (ls : List Nat) : Word := ls.foldr (fun l t => s.v a l + t) 0
    let W (i : Instr) (x : Nat → Word) : Prop := WritesV 1 4 i d x 0 s
    W (.vshfl d a b) (fun l => if within (ob l % 32) then s.v a (ob l % 32) else s.v a l) ∧
    W (.vshflx d a b) (fun l => if within (l ^^^ (ob l % 32)) then s.v a (l ^^^ (ob l % 32)) else s.v a l) ∧
    W (.vshflu d a b) (fun l => if ob l ≤ l ∧ within (l - ob l) = true then s.v a (l - ob l) else s.v a l) ∧
    W (.vshfld d a b) (fun l => if within (l + ob l) then s.v a (l + ob l) else s.v a l) ∧
    W (.vpfxadd d a) (fun l => sum (acts.filter (· ≤ l))) ∧
    W (.vredadd d a) (fun _ => sum acts) ∧
    (∃ x : Nat → Word, W (.vpfxmax d a) x ∧ ∀ l ∈ acts, (∀ k ∈ acts, k ≤ l → (s.v a k).toInt ≤ (x l).toInt) ∧
      ∃ k ∈ acts, k ≤ l ∧ x l = s.v a k) ∧
    (∃ x : Word, W (.vredmax d a) (fun _ => x) ∧ ∀ l ∈ acts, (s.v a l).toInt ≤ x.toInt ∧ ∃ k ∈ acts, x = s.v a k) ∧
    (s.me.trapnf = 0 → ∃ ev, WritesV 1 4 (.vredfadd d a) d (fun _ => BitVec.ofNat 32 (s.tree a).bits) ev s ∧
      (acts ≠ [] → ev = (s.tree a).ev)) ∧
    (∀ k, acts = [k] → s.tree a = ⟨(s.v a k).toNat, 0⟩) ∧
    -- 08 R147: node i of level k
    (∀ N : Nat → Nat → Option FRes, (∀ l, l < 32 → N 0 l = if inMask s.active l then some ⟨(s.v a l).toNat, 0⟩ else none) →
      (∀ k i, k < 5 → i < 2 ^ (4 - k) → N (k + 1) i =
        (match N k (2 * i), N k (2 * i + 1) with
         | some x, some y =>
           let z := fmt32.add s.me.frm.toNat (fmt32.val x.bits) (fmt32.val y.bits)
           some ⟨z.bits, x.ev ||| y.ev ||| z.ev⟩
         | some x, none => some x
         | none, y => y)) →
      acts ≠ [] → N 5 0 = some (s.tree a)) ∧
    W (.vballot d a) (fun _ => s.me.pred s.ctx a &&& s.laneSet) ∧
    W (.vget d a b) (fun _ => if within (ob first % 32) then s.v a (ob first % 32) else 0) ∧
    W (.vlid d) (fun l => BitVec.ofNat 32 l) ∧
    W (.vmov d a) (fun l => s.v a l) ∧
    (c < 5 → W (.vsr d c) (fun l =>
      if c = 0 then BitVec.ofNat 32 (s.myTeam.teamId * 32 * s.myTeam.groups + (s.me.teamThread.get 0 l).toNat)
      else if c = 1 then BitVec.ofNat 32 l
      else if c = 2 then s.me.teamThread.get 0 l
      else if c = 3 then s.me.keys.get 0 l
      else s.me.origin.get 0 l)) ∧
    (5 ≤ c → Traps (.vsr d c) causeIllegal 8 0 4 s) ∧
    (∃ t, exec (.vsetl d a b) s = .next t ∧ Paid 1 0 s t ∧
      let u := t.grp s.cur.g
      OnlyGroup s.cur.g (fun g => ({ g with v := u.v, q := u.q } : Group).goOn s.cur.i 4) s t ∧
      (∀ r l, l < 32 → u.vreg r l =
        if r = d ∧ acts ≠ [] ∧ l = ob first % 32 ∧ within l = true then s.v a first else s.me.vreg r l) ∧
      (∀ l, l < 32 → inMask s.laneSet l = true →
        u.qreg 0 l = u.vreg d l ∧ u.qreg 1 l = s.me.qreg 0 l ∧ u.qreg 2 l = s.me.qreg 1 l ∧ u.qreg 3 l = s.me.qreg 2 l) ∧
      (∀ k l, l < 32 → 4 ≤ k ∨ inMask s.laneSet l = false → u.qreg k l = s.me.qreg k l)) ∧
    (∃ t, exec (.vmovo c a) s = .next t ∧ Paid 1 0 s t ∧
      let u := t.grp s.cur.g
      OnlyGroup s.cur.g (fun g => ({ g with o := u.o } : Group).goOn s.cur.i 4) s t ∧
      (∀ k l, l < 32 → u.oreg k l = if k = c ∧ inMask s.active l = true then s.v a l else s.me.oreg k l))

/-- 08 R148, 05 R92, R93, R95, 10 R191. Records are read where the group's save area holds them (`State.fetchRecords`). When a
drop reaches its word is log 19. -/
def Obligations.RetiringLanes : Prop :=
  ∀ s : State, s.plain = true →
    (s.me.kind ≠ .group → Traps .vlexit causePriv 0 0 4 s) ∧
    (s.me.kind = .group → s.active = 0 → Runs .vlexit 1 0 (fun g => g.goOn s.cur.i 4) s) ∧
    (s.me.kind = .group → s.active ≠ 0 → s.ctx.stop = .running →
      let i := s.cur.i
      let left := s.laneSet &&& ~~~s.active
      let recs := (s.fetchRecords s.cur.g).me.records
      ∃ t, exec .vlexit s = .next t ∧
        let u := t.grp s.cur.g
        let others : Prop := ∀ j, j ≠ i → (u.ctxs.look j).map Context.bare = (s.me.ctxs.look j).map Context.bare
        (∀ d, d ∈ (t.team s.me.team).drops ↔ d ∈ s.myTeam.drops ∨
          (d.bar < s.myTeam.barriers ∧ d.gi = s.me.gi ∧ d.lane < 32 ∧ inMask s.active d.lane = true ∧ d.g = s.cur.g ∧
            d.ops = s.me.barOps)) ∧
        u.v = s.me.v ∧ u.q = s.me.q ∧ u.o = s.me.o ∧ u.p = s.me.p ∧
        (left ≠ 0 → Paid 1 0 s t ∧
          OnlyGroup s.cur.g (fun g => (({ g with records := recs } : Group).modCtx i (fun c => { c with p0 := left })).goOn i 4)
            (s.modTeam s.me.team (fun m => { m with drops := (t.team s.me.team).drops })) t) ∧
        (left = 0 → s.me.handler = none → s.me.held.look i = none →
          (∀ xs r ys, recs = xs ++ r :: ys → r.token = none → r.owner = i → r.mask ≠ 0 →
            (∀ y ∈ ys, y.token = none → y.owner ≠ i) →
            let c := u.ctx i
            c.p0 = r.mask ∧ c.pc = r.pc ∧ c.due = true ∧ c.contpc = r.contpc ∧ c.map = r.map ∧ c.s = r.s ∧
            u.records = recs.filter (fun x => x != r) ∧ u.ended = s.me.ended ∧ others ∧
            (t.team s.me.team).ct = sat64 (sat64 (s.team s.me.team).ct - recordBytes)) ∧
          ((∀ y ∈ recs, y.token = none → y.owner ≠ i) →
            (∃ j c, j ≠ i ∧ s.me.ctxs.look j = some c ∧ c.p0 ≠ 0 ∧ c.stop = .running) →
            u.ctxs.look i = none ∧ others ∧ u.ended = s.me.ended ∧ t.mem = s.mem) ∧
          (∀ j c k, recs = [] → s.me.ctxs.del i = [(j, c)] → c.p0 ≠ 0 → c.stop = .merge k → s.myTeam.yieldPending = false →
            u.ctxs.look i = none ∧ (u.ctx j).stop = .running ∧ (u.ctx j).p0 = c.p0 ∧ (u.ctx j).pc = c.pc ∧ (u.ctx j).s = c.s ∧
            u.ended = s.me.ended ∧ t.mem = s.mem) ∧
          (recs = [] → s.me.ctxs = [(i, s.ctx)] → u.ctxs = [] ∧ u.ended = true ∧ t.mem = s.mem)))

/-- 09 R160: the order of its table. -/
def Obligations.AddressChecks : Prop :=
  ∀ (s : State) (g : SlotRef) (lane : Nat) (a : DWord) (n al : Nat) (wr : Bool), 0 < n → 0 < al →
    let r := s.checkAcc g lane a n al wr
    let good (x : DWord) : Prop := x.toNat < 2 ^ 55 ∨ 2 ^ 64 - 2 ^ 55 ≤ x.toNat
    let range : Prop := a.toNat + n ≤ 2 ^ 64 ∧ good a ∧ good (a + BitVec.ofNat 64 (n - 1))
    let spw : Prop := 0x007FFFFFFFC00000 ≤ a.toNat ∧ a.toNat < 0x0080000000000000
    let off := a.toNat - 0x007FFFFFFFC00000
    (¬range → r = .addr) ∧
    (range → a.toNat % al ≠ 0 → r = .misalign) ∧
    (range → a.toNat % al = 0 → spw → s.window g ≤ off → r = .addr) ∧
    (range → a.toNat % al = 0 → spw → off < s.window g →
      r = .ok ((s.team (s.grp g).team).spad off) none) ∧
    (range → a.toNat % al = 0 → ¬spw → (s.task (s.grp g).task).leased a.toNat n = false → r = .lease) ∧
    (range → a.toNat % al = 0 → ¬spw → (s.task (s.grp g).task).leased a.toNat n = true →
      (s.xlate g lane (va56 a) = .missing → r = .trans 2) ∧
      (∀ x, s.xlate g lane (va56 a) = .hit x →
        (wr = true → (x.w && (s.task (s.grp g).task).writable a.toNat n) = false → r = .trans 1) ∧
        ((wr = false ∨ (x.w && (s.task (s.grp g).task).writable a.toNat n) = true) →
          r = .ok (x.frame + (a.toNat % 2 ^ 56 - x.base)) (some x))))

/-- 09 R159, R160, R162, 08 R149, R150, 02 R24, R25, R40. -/
def Obligations.LoadsIssue : Prop :=
  ∀ (s : State) (t vx k obs imm : Nat), s.plain = true →
    let set : BitVec 7 := if obs = 0 then 0 else s.me.obs.get 0 obs
    let b := s.sreg (48 + k)
    let addr (l : Nat) : DWord := b + (s.v vx l).signExtend 64
    let acts := (List.range 32).filter (inMask s.active)
    let open_ : Prop := ∀ f, s.flagA = some f → (s.me.flag f).count < 63
    let lane (r : AccRes) (l : Nat) (data : List Word) : Option LaneAcc := match r with
      | .ok p y => some ⟨l, addr l, some p, data, y.map (fun z => (z.base, z.size))⟩
      | _ => none
    let vec (i : Instr) (op size : Nat) (sgn : Bool) (n : Nat) : Prop :=
      (let r (l : Nat) := s.checkAcc s.cur.g l (addr l) size size false
       t % n = 0 → t + n ≤ s.me.regalloc → t + n ≤ 256 → vx < s.me.regalloc → vx < 256 → open_ →
        (acts = [] → RunsEmpty i s) ∧
        ((∀ l ∈ acts, r l ≠ .lease ∧ ∀ p, r l ≠ .migrating p) →
          HoldsAccess i op n s.flagA set (.load ⟨size, sgn⟩ t (acts.filterMap (fun l => lane (r l) l [])))
            (fun l => if inMask s.active l then failedCheck (addr l) (r l) else none) s)) ∧
      (∀ (loc : Nat → Nat) (x : Nat → Option Xlat), acts ≠ [] → t % n = 0 → t + n ≤ s.me.regalloc → t + n ≤ 256 →
        vx < s.me.regalloc → vx < 256 → open_ →
        (∀ l ∈ acts, s.checkAcc s.cur.g l (addr l) size size false = .ok (loc l) (x l)) →
        IssuesAccess i s.flagA set (.load ⟨size, sgn⟩ t (acts.map (fun l =>
          ⟨l, addr l, some (loc l), [], (x l).map (fun y => (y.base, y.size))⟩))) s) ∧
      (t % n ≠ 0 ∨ s.me.regalloc < t + n ∨ s.me.regalloc ≤ vx → Traps i causeIllegal 3 0 4 s) ∧
      (t % n = 0 → t + n ≤ s.me.regalloc → t + n ≤ 256 → vx < s.me.regalloc → vx < 256 → ¬open_ → Traps i causeIllegal 5 0 4 s)
    let sc (i : Instr) (size : Nat) : Prop :=
      (∀ loc x, open_ → s.checkAcc s.cur.g 32 (b + BitVec.ofNat 64 (imm * size)) size size false = .ok loc x →
        IssuesAccess i s.flagA set (.loadS size t
          ⟨32, b + BitVec.ofNat 64 (imm * size), some loc, [], x.map (fun y => (y.base, y.size))⟩) s) ∧
      (open_ → s.checkAcc s.cur.g 32 (b + BitVec.ofNat 64 (imm * size)) size size false = .misalign →
        Traps i causeMisalign 1 (b + BitVec.ofNat 64 (imm * size)) 4 s) ∧
      (open_ → s.checkAcc s.cur.g 32 (b + BitVec.ofNat 64 (imm * size)) size size false = .addr →
        Traps i causeAddr 1 (b + BitVec.ofNat 64 (imm * size)) 4 s)
    vec (.ldv8n t vx k obs) 0 1 false 1 ∧ vec (.ldv8i t vx k obs) 1 1 true 1 ∧ vec (.ldv16n t vx k obs) 2 2 false 1 ∧
    vec (.ldv16i t vx k obs) 3 2 true 1 ∧ vec (.ldv32 t vx k obs) 4 4 false 1 ∧ vec (.ldv64 t vx k obs) 5 8 false 2 ∧
    vec (.ldv128 t vx k obs) 6 16 false 4 ∧
    sc (.lds32 t imm k obs) 4 ∧ sc (.lds64 t imm k obs) 8 ∧
    (acts ≠ [] → t < s.me.regalloc → t < 256 → vx < s.me.regalloc → vx < 256 → open_ →
      (∀ l ∈ acts, (addr l).toNat % 4 = 0 ∧ (addr l).toNat < 131072) →
      Issues (.ldc t vx k) 1 0 s.flagA 0 (.ldc t (acts.map (fun l => ⟨l, addr l,
        if (s.core s.cur.g.coreRef).owner = some (s.gridOf s.me.task) then
          some (2 ^ 61 + 2 ^ 20 * s.cur.g.coreRef.key + (addr l).toNat) else none, [], none⟩))) s) ∧
    -- 09 R168: offsets beyond the store trap ADDR, misaligned ones MISALIGN; without ownership a lane reads 0
    (t < s.me.regalloc → t < 256 → vx < s.me.regalloc → vx < 256 → open_ →
      let own : Bool := (s.core s.cur.g.coreRef).owner = some (s.gridOf s.me.task)
      let good (x : DWord) : Bool := decide (x.toNat < 2 ^ 55) || decide (2 ^ 64 - 2 ^ 55 ≤ x.toNat)
      let r (l : Nat) : AccRes :=
        if 2 ^ 64 ≤ (addr l).toNat + 3 ∨ good (addr l) = false ∨ good (addr l + 3) = false then .addr
        else if (addr l).toNat % 4 ≠ 0 then .misalign
        else if 131072 ≤ (addr l).toNat then .addr
        else .ok 0 none
      (acts = [] → RunsEmpty (.ldc t vx k) s) ∧
      HoldsAccess (.ldc t vx k) 0x10 1 s.flagA 0
        (.ldc t ((acts.filter (fun l => r l = .ok 0 none)).map (fun l => ⟨l, addr l,
          if own then some (2 ^ 61 + 2 ^ 20 * s.cur.g.coreRef.key + (addr l).toNat) else none, [], none⟩)))
        (fun l => if inMask s.active l then failedCheck (addr l) (r l) else none) s)

/-- 09 R157, R162, 23 R350, R353: values as the slot observes them, where no earlier store of it is posted. -/
def Obligations.LoadsReturn : Prop :=
  ∀ (s : State) (g : SlotRef) (n : Nat) (lanes : Word) (o : Op), s.hasGrp g = true → (s.grp g).isPlain = true →
    (s.grp g).ops.find? (fun p => p.id == n) = some o → (s.grp g).earlier n = [] → o.id = n → o.gate = false →
    (∀ x ∈ s.opSpans g o, s.waveHolds g x.loc x.n = false) →
    let see (k p i : Nat) : Byte := s.viewByte g p k (p + i)
    let u (t : State) := t.grp g
    let quiet (t : State) : Prop := t.mem = s.mem ∧ t.names = s.names ∧ t.teams = s.teams ∧ t.tasks = s.tasks ∧
      t.cores = s.cores ∧ (∀ h : SlotRef, h.key ≠ g.key → t.grp h = s.grp h) ∧
      (u t).q = (s.grp g).q ∧ (u t).o = (s.grp g).o ∧ (u t).p = (s.grp g).p
    let count (t : State) (left : Bool) : Prop := ∀ f, o.flag = some f →
      ((u t).flag f).count = ((s.grp g).flag f).count - (if left then 0 else 1)
    -- lanes that name the same bytes, or bytes of one line of memory, return together (09 R162, 23 R357)
    let joined (a b : LaneAcc) : Bool := decide (a.loc = b.loc) || (match a.loc, b.loc with
      | some x, some y => decide (x < 2 ^ 60 ∧ x / 64 = y / 64)
      | _, _ => false)
    let takes (acc : List LaneAcc) (a : LaneAcc) : Bool := acc.any (fun b => inMask lanes b.lane && joined b a)
    (∀ k p i, i < k →
      (see k p i = s.byte (p + i) ∨ ∃ e ∈ s.histAt (p + i), s.mustSee (.slot g) e.1 = false ∧ see k p i = e.2) ∧
      ((∀ j, j < k → ∀ e ∈ s.histAt (p + j), s.mustSee (.slot g) e.1 = true) → see k p i = s.byte (p + i))) ∧
    (∀ size sgn d acc, o.kind = .load ⟨size, sgn⟩ d acc → (acc.map LaneAcc.lane).Nodup →
      (∀ a ∈ acc, a.lane < 32 ∧ a.loc.isSome = true) → size ∈ [1, 2, 4, 8, 16] →
      ∃ t, exec (.loadDataReturn g n lanes) s = .next t ∧ quiet t ∧ (u t).ctxs = (s.grp g).ctxs ∧
        count t (acc.any (fun a => !takes acc a)) ∧
        (∀ a ∈ acc, takes acc a = true → ∀ p, a.loc = some p →
          (size = 1 → (u t).vreg d a.lane = if sgn then (see 1 p 0).signExtend 32 else (see 1 p 0).setWidth 32) ∧
          (size = 2 → (u t).vreg d a.lane =
            if sgn then ((see 2 p 1) ++ (see 2 p 0)).signExtend 32 else ((see 2 p 1) ++ (see 2 p 0)).setWidth 32) ∧
          (∀ j, 4 * j + 4 ≤ size → 4 ≤ size → (u t).vreg (d + j) a.lane =
            see size p (4 * j + 3) ++ see size p (4 * j + 2) ++ see size p (4 * j + 1) ++ see size p (4 * j))) ∧
        (∀ r l, l < 32 → ¬(d ≤ r ∧ 4 * (r - d) < size ∧ ∃ a ∈ acc, a.lane = l ∧ takes acc a = true) →
          (u t).vreg r l = (s.grp g).vreg r l)) ∧
    (∀ size d a p, o.kind = .loadS size d a → a.loc = some p → size ∈ [4, 8] →
      ∃ t, exec (.loadDataReturn g n lanes) s = .next t ∧ quiet t ∧ (u t).v = (s.grp g).v ∧ count t false ∧
        (0 < d → (s.grp g).ctxs.look o.ctx ≠ none → (((u t).ctx o.ctx).sreg d).toNat < 256 ^ size ∧
          ∀ i, i < size → (((u t).ctx o.ctx).sreg d).extractLsb' (8 * i) 8 = see size p i) ∧
        (∀ r, r ≠ d → ((u t).ctx o.ctx).sreg r = ((s.grp g).ctx o.ctx).sreg r)) ∧
    (∀ d acc, o.kind = .ldc d acc → (acc.map LaneAcc.lane).Nodup → (∀ a ∈ acc, a.lane < 32) →
      ∃ t, exec (.loadDataReturn g n lanes) s = .next t ∧ quiet t ∧ (u t).ctxs = (s.grp g).ctxs ∧
        count t (acc.any (fun a => !takes acc a)) ∧
        (∀ a ∈ acc, takes acc a = true →
          (u t).vreg d a.lane = match a.loc with
            | some p => BitVec.ofNat 32 (s.readN p 4)
            | none => 0) ∧
        (∀ r l, l < 32 → ¬(r = d ∧ ∃ a ∈ acc, a.lane = l ∧ takes acc a = true) → (u t).vreg r l = (s.grp g).vreg r l))

/-- 09 R160, R165, R166, R169; 10 R194; 08 R149, R150. -/
def Obligations.StoresIssue : Prop :=
  ∀ (s : State) (t vx k obs imm : Nat), s.plain = true →
    let set : BitVec 7 := if obs = 0 then 0 else s.me.obs.get 0 obs
    let b := s.sreg (48 + k)
    let addr (l : Nat) : DWord := b + (s.v vx l).signExtend 64
    let acts := (List.range 32).filter (inMask s.active)
    let open_ : Prop := ∀ f, s.flagA = some f → (s.me.flag f).count < 63
    let passes (a : DWord) (n : Nat) : Prop := check123 (s.window s.cur.g) a n n = none ∧
      ¬(0x007FFFFFFFC00000 ≤ a.toNat ∧ a.toNat < 0x007FFFFFFFC00000 + 8 * s.myTeam.barriers ∧ a.toNat < 0x0080000000000000)
    let vec (i : Instr) (op size n : Nat) : Prop :=
      let kind (ls : List Nat) : OpKind := .store size (ls.map (fun l =>
        ⟨l, addr l, none, (List.range n).map (fun j => s.v (t + j) l), none⟩)) [] []
      let window (a : DWord) : Prop := 0x007FFFFFFFC00000 ≤ a.toNat ∧ a.toNat < 0x0080000000000000
      t % n = 0 → t + n ≤ s.me.regalloc → t + n ≤ 256 → vx < s.me.regalloc → vx < 256 → open_ →
        (acts = [] → RunsEmpty i s) ∧
        (acts ≠ [] → (∀ l ∈ acts, passes (addr l) size) → Issues i 1 0 s.flagA set (kind acts) s) ∧
        (∀ fine : Nat → Bool, (∀ l, fine l = true ↔ passes (addr l) size) →
          (∀ l ∈ acts, fine l = true → window (addr l) ∨ s.myTask.leased (addr l).toNat size = true) →
          HoldsAccess i op 0 s.flagA set (kind (acts.filter fine))
            (fun l => if inMask s.active l && !fine l then
                failedCheck (addr l) (if check123 (s.window s.cur.g) (addr l) size size = some .misalign then .misalign else .addr)
              else none) s)
    let sc (i : Instr) (size : Nat) (k : OpKind) (set : BitVec 7) : Prop :=
      let a := b + BitVec.ofNat 64 (imm * size)
      (open_ → passes a size → Issues i 1 0 s.flagA set k s) ∧
      (open_ → check123 (s.window s.cur.g) a size size = some .misalign → Traps i causeMisalign 1 a 4 s) ∧
      (open_ → check123 (s.window s.cur.g) a size size = some .addr → Traps i causeAddr 1 a 4 s) ∧
      (¬open_ → Traps i causeIllegal 5 0 4 s)
    let word (i : Nat) : Word := (s.sreg t).extractLsb' (32 * i) 32
    vec (.stv8 t vx k obs) 7 1 1 ∧ vec (.stv16 t vx k obs) 8 2 1 ∧ vec (.stv32 t vx k obs) 9 4 1 ∧
    vec (.stv64 t vx k obs) 10 8 2 ∧ vec (.stv128 t vx k obs) 11 16 4 ∧
    sc (.sts32 t imm k obs) 4 (.store 4 [⟨32, b + BitVec.ofNat 64 (imm * 4), none, [word 0, word 1], none⟩] [] []) set ∧
    sc (.sts64 t imm k obs) 8 (.store 8 [⟨32, b + BitVec.ofNat 64 (imm * 8), none, [word 0, word 1], none⟩] [] []) set ∧
    sc (.zline imm k) 64 (.zline ⟨32, b + BitVec.ofNat 64 (imm * 64), none, [], none⟩ []) 0

/-- 09 R165, R169, R175, 11 R213 (a matrix operation of the slot sees all or none of a line). The place stored to is the one
State.check45 gives for the lane's address in the state at hand; in the window it is the team's place of the offset. -/
def Obligations.StoresPerform : Prop :=
  ∀ (s : State) (g : SlotRef) (n : Nat) (lanes : Word) (o : Op), s.hasGrp g = true → (s.grp g).isPlain = true →
    (s.grp g).ops.find? (fun p => p.id == n) = some o → o.id = n → s.mayPerform g o = true →
    let u (t : State) := t.grp g
    let same (t : State) : Prop := (u t).v = (s.grp g).v ∧ (u t).q = (s.grp g).q ∧ (u t).o = (s.grp g).o ∧
      (u t).p = (s.grp g).p ∧ (∀ i, ((u t).ctx i).s = ((s.grp g).ctx i).s) ∧
      (∀ h : SlotRef, h.key ≠ g.key → (t.grp h).bare = (s.grp h).bare)
    let done (t : State) : Prop := (u t).findOp n = none ∧
      ∀ f, o.flag = some f → ((u t).flag f).count = ((s.grp g).flag f).count - 1
    (∀ size a lines l x, o.kind = .store size [a] [] lines → 0 < size → (inMask lanes a.lane = true ∨ a.lane = 32) →
      s.check45 g a.lane a.va size true = .ok l x →
      ∃ t, exec (.storePerform g n lanes) s = .next t ∧ same t ∧ done t ∧
        (∀ i, i < size → t.byte (l + i) = ((a.data.getD (i / 4) 0) >>> (8 * (i % 4))).setWidth 8) ∧
        (∀ p, p < l ∨ l + size ≤ p → t.byte p = s.byte p)) ∧
    (∀ size a lines sub, o.kind = .store size [a] [] lines → (inMask lanes a.lane = true ∨ a.lane = 32) →
      s.check45 g a.lane a.va size true = .trans sub →
      ∃ t, exec (.storePerform g n lanes) s = .next t ∧ same t ∧ t.mem = s.mem ∧
        ∃ o' page, (u t).findOp n = some o' ∧ o'.kind = .store size [] [⟨a.lane, a.va, sub, page⟩] lines) ∧
    (∀ a l x, o.kind = .zline a [] → s.check45 g a.lane a.va 64 true = .ok l x →
      ∃ t, exec (.storePerform g n lanes) s = .next t ∧ same t ∧ done t ∧
        (∀ i, i < 64 → t.byte (l + i) = 0) ∧ (∀ p, p < l ∨ l + 64 ≤ p → t.byte p = s.byte p)) ∧
    (∀ size acc lines, o.kind = .store size acc [] lines → 0 < size → acc.Pairwise (fun a b => a.lane < b.lane) →
      (∀ a ∈ acc, a.lane < 32 ∧ a.loc = none ∧ 0x007FFFFFFFC00000 ≤ a.va.toNat ∧ a.va.toNat < 0x0080000000000000) →
      (∃ a ∈ acc, inMask lanes a.lane = true) →
      let place (a : LaneAcc) : Nat := (s.team (s.grp g).team).spad (a.va.toNat - 0x007FFFFFFFC00000)
      let now (a : LaneAcc) : Bool := inMask lanes a.lane || acc.any (fun b => inMask lanes b.lane && place a / 64 == place b / 64)
      let writes (a : LaneAcc) (p : Nat) : Prop := a ∈ acc ∧ now a = true ∧ place a ≤ p ∧ p < place a + size
      ∃ t, exec (.storePerform g n lanes) s = .next t ∧ same t ∧
        (∀ p, (∀ a, ¬writes a p) → t.byte p = s.byte p) ∧
        (∀ a p, writes a p → (∀ b, writes b p → b.lane ≤ a.lane) →
          t.byte p = ((a.data.getD ((p - place a) / 4) 0) >>> (8 * ((p - place a) % 4))).setWidth 8) ∧
        ((∀ a ∈ acc, now a = true) → done t) ∧
        ((∃ a ∈ acc, now a = false) → ∃ o' ls, (u t).findOp n = some o' ∧
          o'.kind = .store size (acc.filter (fun a => !now a)) [] ls))

/-- 09 R170-R172, R175, R176. -/
def Obligations.FencesDrainsAndFaults : Prop :=
  (∀ (s : State) (obs imm k : Nat), s.plain = true →
    let ids := (s.me.ops.filter Op.isM).map Op.id
    let set := s.me.obs.get 0 obs
    let a := s.sreg (48 + k) + BitVec.ofNat 64 (imm * 64)
    (0 < obs → set = 0 → Runs (.fence obs) 1 0 (fun g => g.goOn s.cur.i 4) s) ∧
    (0 < obs → set ≠ 0 →
      RunsThen (.fence obs) 1 0 (fun g => { g.goOn s.cur.i 4 with hold := ids, fence := set }) (State.fenceAt s.cur.g set) s) ∧
    Traps (.fence 0) causeIllegal 2 0 4 s ∧
    (∀ c : CtxId, (∃ n ∈ (s.grp c.g).hold, ((s.grp c.g).findOp n).isSome = true) → s.mayIssue c = false) ∧
    ((∀ o ∈ s.me.ops, o.isStore = false) → (s.me.handler ≠ none ∨ s.storeFault s.cur.g = none) →
      Runs .stdrain 1 0 (fun g => { g.goOn s.cur.i 4 with hold := [], fence := 0 }) s) ∧
    (∀ o ∈ s.me.ops, o.isStore = true → ∃ t, exec .stdrain s = .next t ∧
      ((t.grp s.cur.g).ctx s.cur.i).stop = .stdrain ∧ ((t.grp s.cur.g).ctx s.cur.i).pc = s.ctx.pc) ∧
    ((∀ f, s.flagA = some f → (s.me.flag f).count < 63) →
      ∃ line page, IssuesAccess (.pref imm k) s.flagA 0 (.pref line page) s ∧ (∃ t, exec (.pref imm k) s = .next t ∧ Paid 1 0 s t) ∧
        (¬(a.toNat < 2 ^ 55 ∨ 2 ^ 64 - 2 ^ 55 ≤ a.toNat) → line = none) ∧
        (∀ l x, s.checkAcc s.cur.g 32 a 64 1 false = .ok l (some x) → line = some (l / 64) ∧ page = some (x.base, x.size)))) ∧
  (∀ (s : State) (c : CtxId), s.hasCtx c = true → ((s.grp c.g).ctx c.i).stop = .stdrain →
    (∀ m ∈ (s.grp c.g).hold, (s.grp c.g).findOp m = none) → ((s.grp c.g).handler ≠ none ∨ s.storeFault c.g = none) →
    ∃ t, exec (.stdrainResolve c) s = .next t ∧
      OnlyGroup c.g (fun g => ({ g with hold := [] } : Group).goOn c.i 4) s t ∧ ((t.grp c.g).ctx c.i).stop = .running) ∧
  (∀ (s : State) (g : SlotRef) (n : Nat) (o : Op), s.hasGrp g = true → (s.grp g).ops.find? (fun p => p.id == n) = some o →
    o.id = n →
    (∀ line page, o.kind = .pref line page → ∃ t, exec (.prefComplete g n) s = .next t ∧ (t.grp g).findOp n = none ∧ t.mem = s.mem) ∧
    (∀ size failed lines, o.kind = .store size [] failed lines → failed ≠ [] →
      let q := (s.core g.coreRef).faults
      (q.length < 16 → ∃ t r, exec (.storeFaultRecord g n) s = .next t ∧ (t.core g.coreRef).faults = q ++ [r] ∧
        r.g = g ∧ r.clause = o.clause ∧ r.idx = o.idx ∧ r.pc = o.pc ∧
        (∀ l, l < 32 → (inMask r.mask l = true ↔ ∃ f ∈ failed, f.lane = l)) ∧
        (∃ f ∈ failed, f.va = r.addr ∧ f.sub = r.sub ∧ ∀ f' ∈ failed, f.lane ≤ f'.lane) ∧
        (t.grp g).findOp n = none ∧ t.mem = s.mem) ∧
      (16 ≤ q.length → exec (.storeFaultRecord g n) s = .next s)))

/-- 20 R309, R310, 09 R160, 08 R149, R150. -/
def Obligations.AtomicsIssue : Prop :=
  ∀ (s : State) (t vx k obs : Nat), s.plain = true →
    let set : BitVec 7 := if obs = 0 then 0 else s.me.obs.get 0 obs
    let addr (l : Nat) : DWord := s.sreg (48 + k) + (s.v vx l).signExtend 64
    let acts := (List.range 32).filter (inMask s.active)
    let atom (i : Instr) (op : Nat) (kind : AtomKind) (n al size : Nat) : Prop :=
      (let r (l : Nat) : AccRes :=
         match s.checkAcc s.cur.g l (addr l) size size true with
         | .ok p y => if s.hitsBarrier s.cur.g (addr l) then .addr else .ok p y
         | x => x
       let lane (l : Nat) : Option LaneAcc := match r l with
         | .ok p y => some ⟨l, addr l, some p, (List.range n).map (fun j => s.v (t + j) l), y.map (fun z => (z.base, z.size))⟩
         | _ => none
       t % al = 0 → t + n ≤ s.me.regalloc → t + n ≤ 256 → vx < s.me.regalloc → vx < 256 →
        (∀ f, s.flagA = some f → (s.me.flag f).count < 63) →
        (acts = [] → RunsEmpty i s) ∧
        ((∀ l ∈ acts, r l ≠ .lease ∧ ∀ p, r l ≠ .migrating p) →
          HoldsAccess i op (if kind ∈ [AtomKind.add64, .xchg64, .cas64, .min64n] then 2 else 1) s.flagA set
            (.atomic kind t (acts.filterMap lane) [])
            (fun l => if inMask s.active l then failedCheck (addr l) (r l) else none) s)) ∧
      (∀ (loc : Nat → Nat) (x : Nat → Option Xlat), acts ≠ [] → t % al = 0 → t + n ≤ s.me.regalloc → t + n ≤ 256 →
        vx < s.me.regalloc → vx < 256 → (∀ f, s.flagA = some f → (s.me.flag f).count < 63) →
        (∀ l ∈ acts, s.hitsBarrier s.cur.g (addr l) = false ∧
          s.checkAcc s.cur.g l (addr l) size size true = .ok (loc l) (x l)) →
        IssuesAccess i s.flagA set (.atomic kind t (acts.map (fun l =>
          ⟨l, addr l, some (loc l), (List.range n).map (fun j => s.v (t + j) l),
            (x l).map (fun y => (y.base, y.size))⟩)) []) s) ∧
      (t % al ≠ 0 ∨ s.me.regalloc < t + n → Traps i causeIllegal 3 0 4 s)
    atom (.aadd t vx k obs) 0x20 .add 1 1 4 ∧ atom (.aand t vx k obs) 0x21 .and_ 1 1 4 ∧
    atom (.aor t vx k obs) 0x22 .or_ 1 1 4 ∧ atom (.axor t vx k obs) 0x23 .xor_ 1 1 4 ∧
    atom (.amin t vx k obs) 0x24 .min 1 1 4 ∧ atom (.amax t vx k obs) 0x25 .max 1 1 4 ∧
    atom (.aminn t vx k obs) 0x26 .minn 1 1 4 ∧ atom (.amaxn t vx k obs) 0x27 .maxn 1 1 4 ∧
    atom (.axchg t vx k obs) 0x28 .xchg 1 1 4 ∧ atom (.acas t vx k obs) 0x29 .cas 2 1 4 ∧
    atom (.afadd t vx k obs) 0x2A .fadd 1 1 4 ∧ atom (.abinc t vx k obs) 0x2B .binc 1 1 4 ∧
    atom (.awinc t vx k obs) 0x2C .winc 1 1 4 ∧ atom (.adecp t vx k obs) 0x2D .decp 1 1 4 ∧
    atom (.aaddl t vx k obs) 0x2E .addl 1 1 8 ∧ atom (.aadd64 t vx k obs) 0x30 .add64 2 2 8 ∧
    atom (.axchg64 t vx k obs) 0x31 .xchg64 2 2 8 ∧ atom (.acas64 t vx k obs) 0x32 .cas64 4 2 8 ∧
    atom (.amin64n t vx k obs) 0x33 .min64n 2 2 8

/-- 20 R309, R311, R312; 32-bit and 64-bit rows, AADDL with its limit word, which is read and never written. -/
def Obligations.AtomicsPerform : Prop :=
  ∀ (s : State) (g : SlotRef) (n : Nat) (lanes : Word) (o : Op) (kind : AtomKind) (d : Nat) (acc : List LaneAcc)
      (place : Nat → Nat) (lines : List Nat), s.hasGrp g = true → (s.grp g).isPlain = true →
    (s.grp g).ops.find? (fun p => p.id == n) = some o → o.id = n → s.mayPerform g o = true →
    o.kind = .atomic kind d acc lines → acc.Pairwise (fun a b => a.lane < b.lane) →
    (∀ a ∈ acc, a.lane < 32 ∧ a.loc = some (place a.lane)) →
    let wide : Bool := match kind with
      | .add64 | .xchg64 | .cas64 | .min64n => true
      | _ => false
    let size := if wide then 8 else 4
    let extent := if wide = true ∨ kind = .addl then 8 else 4
    -- the new value, from the eight bytes at the place and the lane's operand words
    let next (w64 : DWord) (data : List Word) : DWord :=
      let w : Word := w64.setWidth 32
      let limit := w64.toNat / 2 ^ 32
      let x := data.getD 0 0
      let x64 : DWord := data.getD 1 0 ++ data.getD 0 0
      let y64 : DWord := data.getD 3 0 ++ data.getD 2 0
      let new32 : Word := match kind with
        | .add => w + x
        | .and_ => w &&& x
        | .or_ => w ||| x
        | .xor_ => w ^^^ x
        | .min => if x.slt w then x else w
        | .max => if w.slt x then x else w
        | .minn => if x.ult w then x else w
        | .maxn => if w.ult x then x else w
        | .xchg => x
        | .cas => if w = x then data.getD 1 0 else w
        | .fadd => BitVec.ofNat 32 (fmt32.add 0 (fmt32.val w.toNat) (fmt32.val x.toNat)).bits
        | .binc => if w.ult x then w + 1 else w
        | .winc => if x.ule w then 0 else w + 1
        | .decp => if (0 : Word).slt w then w - 1 else w
        | .addl => if w.toNat + x.toNat ≤ limit then w + x else w
        | _ => 0
      match kind with
      | .add64 => w64 + x64
      | .xchg64 => x64
      | .cas64 => if w64 = x64 then y64 else w64
      | .min64n => if x64.ult w64 then x64 else w64
      | _ => new32.setWidth 64
    let dword (m : Nat → Byte) (p : Nat) : DWord :=
      m (p + 7) ++ m (p + 6) ++ m (p + 5) ++ m (p + 4) ++ m (p + 3) ++ m (p + 2) ++ m (p + 1) ++ m p
    let step (m : Nat → Byte) (a : LaneAcc) : Nat → Byte := fun p =>
      let l := place a.lane
      if l ≤ p ∧ p < l + size then (next (dword m l) a.data >>> (8 * (p - l))).setWidth 8 else m p
    let now := acc.filter (fun a => inMask lanes a.lane)
    let rest := acc.filter (fun a => !inMask lanes a.lane)
    let meets (a b : LaneAcc) : Prop :=
      b.lane < a.lane ∧ place a.lane < place b.lane + extent ∧ place b.lane < place a.lane + extent
    ((∃ a ∈ now, ∃ b ∈ rest, meets a b) → exec (.atomicPerform g n lanes) s = .next s) ∧
    ((∀ a ∈ now, ∀ b ∈ rest, ¬meets a b) → ∃ t, exec (.atomicPerform g n lanes) s = .next t ∧
      let u := t.grp g
      let old (a : LaneAcc) : DWord := dword ((now.filter (fun b => b.lane < a.lane)).foldl step s.byte) (place a.lane)
      (∀ p, t.byte p = now.foldl step s.byte p) ∧
      (∀ a ∈ now, u.vreg d a.lane = (old a).setWidth 32 ∧
        (wide = true → u.vreg (d + 1) a.lane = (old a).extractLsb' 32 32)) ∧
      (∀ r k, k < 32 → ¬((∃ a ∈ now, a.lane = k) ∧ (r = d ∨ (wide = true ∧ r = d + 1))) → u.vreg r k = (s.grp g).vreg r k) ∧
      (rest = [] → u.findOp n = none ∧ ∀ f, o.flag = some f → (u.flag f).count = ((s.grp g).flag f).count - 1) ∧
      (rest ≠ [] → ∃ o' ls, u.findOp n = some o' ∧ o'.kind = .atomic kind d rest ls) ∧
      u.q = (s.grp g).q ∧ u.o = (s.grp g).o ∧ u.p = (s.grp g).p)

/-- 10 R190, R193. -/
def Obligations.BarriersIssue : Prop :=
  ∀ (s : State) (r imm k obs n : Nat), s.plain = true → s.me.kind = .group →
    let set : BitVec 7 := if obs = 0 then 0 else s.me.obs.get 0 obs
    let a := s.sreg (48 + k) + BitVec.ofNat 64 (imm * 8)
    let open_ : Prop := ∀ f, s.flagA = some f → (s.me.flag f).count < 63
    let bar (i : Instr) (kind : BarKind) (stops : Bool) : Prop :=
      (open_ → a.toNat = 0x007FFFFFFFC00000 + 8 * n → n < s.myTeam.barriers → n < 65536 →
        let issued (g : Group) : Group := (g.addOp (s.newOp s.flagA set (.barrier kind n s.active r (s.sreg r)))).goOn s.cur.i 4
        (stops = false → Runs i 1 0 issued s) ∧
        (stops = true → RunsInto (.barrier s.serial n none) i 1 0
          (fun g => (issued g).modCtx s.cur.i (fun c => { c with stall := set })) s)) ∧
      (open_ → a.toNat = 0x007FFFFFFFC00000 + 8 * n → s.myTeam.barriers ≤ n → n < 65536 → Traps i causeAddr 2 a 4 s) ∧
      (open_ → a.toNat < 2 ^ 55 - 8 → a.toNat % 8 ≠ 0 → Traps i causeMisalign 1 a 4 s) ∧
      (open_ → 2 ^ 55 ≤ a.toNat → a.toNat < 2 ^ 63 → Traps i causeAddr 1 a 4 s)
    bar (.barinit r imm k obs) .init false ∧ bar (.barar r imm k obs) .arrive false ∧
    bar (.barwait r imm k obs) .wait true ∧ bar (.barsync r imm k obs) .sync true ∧ bar (.bardrop r imm k obs) .drop false

/-- 10 R191-R193. That a stall which ends under a pending yield goes on only when the yield ends is the model's reading of 19 R300
and R301 (log 39); that a wait alone makes no test is its choice (log 102). -/
def Obligations.BarriersApply : Prop :=
  (∀ (b : Bar) (x : Nat × Nat) (e : Nat),
    b.init e = ⟨⟨e, 0, b.w.phase⟩, []⟩ ∧
    (x ∈ b.seen → b.arrive [x] = b) ∧
    (x ∉ b.seen → b.arrive [x] = ⟨{ b.w with arrived := b.w.arrived + 1 }, b.seen ++ [x]⟩) ∧
    (x ∉ b.seen → b.drop [x] = ⟨{ b.w with expected := b.w.expected - 1 }, b.seen⟩) ∧
    (x ∈ b.seen → (b.drop [x]).w = ⟨b.w.expected - 1, b.w.arrived - 1, b.w.phase⟩ ∧ x ∉ (b.drop [x]).seen) ∧
    (b.w.expected ≤ b.w.arrived → b.test = ⟨⟨b.w.expected, 0, (b.w.phase + 1) % 256⟩, []⟩) ∧
    (b.w.arrived < b.w.expected → b.test = b) ∧
    (∀ xs ys, b.arrive (xs ++ ys) = (b.arrive xs).arrive ys ∧ b.drop (xs ++ ys) = (b.drop xs).drop ys)) ∧
  (∀ (s : State) (g : SlotRef) (n k : Nat) (o : Op) (kind : BarKind) (lanes : Word) (st : Nat) (arg : DWord),
    s.hasGrp g = true → (s.grp g).kind = .group → (s.grp g).ops.find? (fun p => p.id == n) = some o → o.id = n →
    s.mayPerform g o = true → o.kind = .barrier kind k lanes st arg → (s.teams.look (s.grp g).team).isSome = true →
    ((s.grp g).ctxs.look o.ctx).isSome = true → kind ∈ [BarKind.init, .wait] ∨ s.absent g = false → s.testedNow (s.grp g).team k = false →
    let m := s.team (s.grp g).team
    let b0 := s.bar (s.grp g).team k
    let ts := ((List.range 32).filter (inMask lanes)).map (fun l => ((s.grp g).gi, l))
    let ds := (s.dropsOn (s.grp g).team k).map (fun d => (d.gi, d.lane))
    let b1 : Bar := match kind with
      | .init => (b0.init (arg.toNat % 2 ^ 32)).drop ds
      | .arrive | .sync => (b0.drop ds).arrive ts
      | .drop => (b0.drop ts).drop ds
      | .wait => b0.drop ds
    let b2 := if kind = .wait ∧ ds = [] then b1 else b1.test
    ∃ t, exec (.barrierApply (s.grp g).team k [⟨g, n⟩]) s = .next t ∧
      ((∀ e ∈ s.groups, e.2.team = (s.grp g).team → e.2.isGrace = false) →
        t.readN (m.barLoc k) 8 = b2.w.expected % 2 ^ 32 + b2.w.arrived % 2 ^ 24 * 2 ^ 32 + b2.w.phase % 256 * 2 ^ 56 ∧
        (∀ p, p < m.barLoc k ∨ m.barLoc k + 8 ≤ p → t.byte p = s.byte p)) ∧
      (t.team (s.grp g).team).arrivals.get [] k = b2.seen ∧ (t.grp g).findOp n = none ∧
      (kind ∈ [BarKind.arrive, BarKind.sync, BarKind.drop] → 0 < st →
        ((t.grp g).ctx o.ctx).sreg st = BitVec.ofNat 64 b1.w.phase) ∧
      (kind ∈ [BarKind.init, BarKind.wait] → ((t.grp g).ctx o.ctx).s = ((s.grp g).ctx o.ctx).s) ∧
      (∀ f, kind ∈ [BarKind.wait, .sync] → ((s.grp g).ctx o.ctx).stop = .barrier n k none →
        f = (if kind = .wait then arg.toNat % 256 else b1.w.phase) →
        ((t.grp g).ctx o.ctx).stop =
          if f = b2.w.phase then .barrier n k (some f) else if m.yieldPending = true then .entry else .running) ∧
      (∀ (h : SlotRef) (i op f : Nat), s.hasCtx ⟨h, i⟩ = true → h.key ≠ g.key → (s.grp h).kind = .group →
        (s.grp h).team = (s.grp g).team → ((s.grp h).ctx i).stop = .barrier op k (some f) →
        ((t.grp h).ctx i).stop =
          if f = b2.w.phase then .barrier op k (some f) else if m.yieldPending = true then .entry else .running) ∧
      (t.grp g).v = (s.grp g).v ∧ (t.grp g).q = (s.grp g).q ∧ (t.grp g).p = (s.grp g).p)

/-- 02 R43, 10 R188, R200, R201, 11 R205. The lag of EVRD is a free value (log 18). -/
def Obligations.CoreRegistersAndCounters : Prop :=
  (∀ (s : State) (a b c : Nat), s.plain = true →
    let x : Td := s.sreg (a + 3) ++ s.sreg (a + 2) ++ s.sreg (a + 1) ++ s.sreg a
    let reserved : Prop := x.extractLsb' 132 6 ≠ 0 ∨ x.extractLsb' 142 30 ≠ 0 ∨ x.extractLsb' 224 32 ≠ 0 ∨
      (x.extractLsb' 138 2 = 2 ∧ x.extractLsb' 5 59 ≠ 0)
    let bad : Prop := 10 ≤ (x.extractLsb' 128 4).toNat ∨ x.extractLsb' 138 2 = 3 ∨ 2 ≤ (x.extractLsb' 140 2).toNat
    Runs .nop 1 0 (fun g => g.goOn s.cur.i 4) s ∧
    (a ≤ 28 → reserved → Traps (.tdset a c) causeIllegal 2 0 4 s) ∧
    (a ≤ 28 → ¬reserved → bad → Traps (.tdset a c) causeIllegal 8 0 4 s) ∧
    (a ≤ 28 → ¬reserved → ¬bad → ∃ t, exec (.tdset a c) s = .next t ∧ Paid 1 0 s t ∧
      OnlyGroup s.cur.g (fun g => g.goOn s.cur.i 4)
        (s.modTeam s.me.team (fun m => { m with td := m.td.put 0 c x })) t) ∧
    (28 < a → Traps (.tdset a c) causeIllegal 3 0 4 s ∧ Traps (.tdget a c) causeIllegal 3 0 4 s) ∧
    (a ≤ 28 → Runs (.tdget a c) 1 0 (fun g => (g.modCtx s.cur.i (fun y =>
      ((((y.setS a ((s.myTeam.td.get 0 c).extractLsb' 0 64)).setS (a + 1) ((s.myTeam.td.get 0 c).extractLsb' 64 64)).setS
        (a + 2) ((s.myTeam.td.get 0 c).extractLsb' 128 64)).setS (a + 3) ((s.myTeam.td.get 0 c).extractLsb' 192 64)))).goOn
        s.cur.i 4) s) ∧
    (23 < (s.sreg b).toNat → Traps (.evsel a b) causeIllegal 8 0 4 s) ∧
    ((s.sreg b).toNat ≤ 23 → ∃ t, exec (.evsel a b) s = .next t ∧ Paid 1 0 s t ∧
      (t.core s.cur.g.coreRef).sources.get 0 a = (s.sreg b).toNat ∧ (t.core s.cur.g.coreRef).counters.get 0 a = 0 ∧
      (∀ j, j ≠ a → (t.core s.cur.g.coreRef).sources.get 0 j = (s.core s.cur.g.coreRef).sources.get 0 j) ∧
      (t.grp s.cur.g).bare = (s.me.goOn s.cur.i 4).bare ∧ t.mem = s.mem) ∧
    (∃ t v, exec (.evrd a c) s = .next t ∧ Paid 1 0 s t ∧ t.mem = s.mem ∧
      (t.grp s.cur.g).bare = ((s.me.modCtx s.cur.i (Context.setS c v)).goOn s.cur.i 4).bare ∧
      ∃ lag : Nat, lag ≤ (s.core s.cur.g.coreRef).recentOf a s.tick ∧
        v = (s.core s.cur.g.coreRef).counters.get 0 a - BitVec.ofNat 64 lag)) ∧
  (∀ (s : State) (c : CoreRef), ∃ t, exec (.softErrorCorrected c) s = .next t ∧
    (t.core c).totals.get 0 23 = (s.core c).totals.get 0 23 + 1 ∧ (t.core c).bare = (s.core c).bare ∧
    t.groups = s.groups ∧ t.teams = s.teams ∧ t.tasks = s.tasks ∧ t.mem = s.mem ∧ t.io = s.io) ∧
  (∀ (s : State) (g : SlotRef), s.hasGrp g = true →
    (1024 ≤ (s.grp g).waited → (s.grp g).promoted = false → ∃ t, exec (.slotPromotion g) s = .next t ∧
      t.grp g = { s.grp g with promoted := true } ∧ (∀ h : SlotRef, h.key ≠ g.key → t.grp h = s.grp h) ∧
      (t.core g.coreRef).totals.get 0 14 = (s.core g.coreRef).totals.get 0 14 + 1 ∧ t.mem = s.mem) ∧
    ((s.grp g).waited < 1024 → exec (.slotPromotion g) s = .next s)) ∧
  (∀ (s : State) (k : CoreRef) (p : Nat) (c : CtxId), s.picked k p = some c →
    ∃ e ∈ s.groups, slotOfKey e.1 = c.g ∧ c.g.coreRef = k ∧ c.g.partition = p ∧ s.ready c = true ∧
      ∀ f ∈ s.groups, (slotOfKey f.1).coreRef = k → (slotOfKey f.1).partition = p → (s.offered f).isSome = true →
        (f.2.kind ≠ .group → e.2.kind ≠ .group) ∧
        ((f.2.kind = .group ↔ e.2.kind = .group) → 1024 ≤ f.2.waited → f.2.waited ≤ e.2.waited) ∧
        (f.2.kind = .group → e.2.kind = .group → e.2.waited < 1024 →
          ((s.team e.2.team).yieldPending = true → (s.team f.2.team).yieldPending = true) ∧
          ((s.team e.2.team).yieldPending = (s.team f.2.team).yieldPending → e.2.placed ≤ f.2.placed)))

/-- 10 R195-R197, 25 R381. That of one group's requests the oldest is the one that fails is the model's choice (log 47).
That an instruction its own handler is to complete does not hold SHRINK is the model's choice (log
99), as is that a request reaching past the limit when its turn comes is answered 0 at once (log 115). -/
def Obligations.RegisterGranules : Prop :=
  (∀ (s : State) (a c : Nat), s.plain = true →
    (s.me.kind ≠ .group → Traps (.grow a c) causePriv 0 0 4 s ∧ Traps (.shrink a) causePriv 0 0 4 s) ∧
    (s.me.kind = .group →
      let limit := if s.myTask.l.cls = 0 then 64 else 256
      let out : Prop := ∃ o ∈ s.me.ops, ¬(o.gate = true ∧ o.ctx = s.cur.i)
      WritesS 1 (.grow 0 c) c (BitVec.ofNat 64 s.me.regalloc) s ∧
      (0 < a → limit < s.me.regalloc + 8 * a → WritesS 1 (.grow a c) c 0 s) ∧
      (0 < a → s.me.regalloc + 8 * a ≤ limit →
        ∃ t, exec (.grow a c) s = .next t ∧ OnlyGroup s.cur.g id s t ∧ Paid 1 0 s t ∧
          ((t.grp s.cur.g).ctx s.cur.i).stop = .grow c a s.serial) ∧
      (¬out → ∃ t, exec (.shrink a) s = .next t ∧ Paid 1 0 s t ∧
        let r := max 8 (s.me.regalloc - 8 * a)
        let u := t.grp s.cur.g
        OnlyGroup s.cur.g (fun g => ({ g with regalloc := r, v := u.v } : Group).goOn s.cur.i 4) s t ∧
        (u.ctx s.cur.i).stop = .running ∧
        (∀ k l, l < 32 → u.vreg k l = if k < r then s.me.vreg k l else 0)) ∧
      (out → ∃ t, exec (.shrink a) s = .next t ∧ OnlyGroup s.cur.g id s t ∧ Paid 1 0 s t ∧
        ((t.grp s.cur.g).ctx s.cur.i).stop = .shrink a))) ∧
  (∀ (s : State) (c : CtxId) (n : Nat), s.hasCtx c = true → ((s.grp c.g).ctx c.i).stop = .shrink n →
    (∀ o ∈ (s.grp c.g).ops, o.gate = true ∧ o.ctx = c.i) →
    ∃ t, exec (.shrinkApply c) s = .next t ∧
      let r := max 8 ((s.grp c.g).regalloc - 8 * n)
      (t.grp c.g).regalloc = r ∧ ((t.grp c.g).ctx c.i).stop = .running ∧
      ((t.grp c.g).ctx c.i).pc = ((s.grp c.g).ctx c.i).pc + 4 ∧
      (∀ k l, l < 32 → (t.grp c.g).vreg k l = if k < r then (s.grp c.g).vreg k l else 0) ∧
      t.mem = s.mem ∧ (∀ h : SlotRef, h.key ≠ c.g.key → t.grp h = s.grp h)) ∧
  (∀ (s : State) (c : CtxId) (n d order : Nat), s.hasCtx c = true → 0 < d →
    (s.team (s.grp c.g).team).yieldPending = false →
    let rs := s.growRequests c.g.coreRef c.g.partition
    rs.find? (fun r => r.2.1 = c) = some (order, c, n, d) → (∀ r ∈ rs, order ≤ r.1 ∨ s.onward r.2.1.g = .entry) →
    let old := (s.grp c.g).regalloc
    let limit := if (s.task (s.grp c.g).task).l.cls = 0 then 64 else 256
    let answers (t : State) (v : Nat) : Prop := ((t.grp c.g).ctx c.i).sreg d = BitVec.ofNat 64 v ∧
      ((t.grp c.g).ctx c.i).stop = .running ∧ ((t.grp c.g).ctx c.i).pc = ((s.grp c.g).ctx c.i).pc + 4 ∧ t.mem = s.mem ∧
      (∀ h : SlotRef, h.key ≠ c.g.key → t.grp h = s.grp h)
    (old + 8 * n ≤ limit →
      n ≤ (if c.g.partition % 2 = 0 then 64 else 96) - s.granulesUsed c.g.coreRef c.g.partition →
      ∃ t, exec (.growGrant c) s = .next t ∧ answers t (old + 8 * n) ∧ (t.grp c.g).regalloc = old + 8 * n ∧
        (∀ k l, l < 32 → (t.grp c.g).vreg k l = if k < old then (s.grp c.g).vreg k l else 0)) ∧
    (limit < old + 8 * n → ∃ t, exec (.growGrant c) s = .next t ∧ answers t 0 ∧ (t.grp c.g).regalloc = old ∧
      (t.grp c.g).v = (s.grp c.g).v)) ∧
  (∀ (s : State) (g : SlotRef) (i d order : Nat), s.hasCtx ⟨g, i⟩ = true → 0 < d →
    let gs := s.groupsOn g.coreRef
    (g, s.grp g) ∈ gs → (∀ e ∈ gs, e = (g, s.grp g) ∨ e.2.placed < (s.grp g).placed) →
    (∀ e ∈ gs, s.onward e.1 = .running ∧ e.2.growing ≠ [] ∧
      ∀ c ∈ e.2.ctxs, (∃ d n k, c.2.stop = .grow d n k) ∨ ∃ k, c.2.stop = .merge k) →
    (∀ e ∈ gs, ∀ r ∈ e.2.growing, s.growGrantable ⟨e.1, r.2.1⟩ = none) →
    (order, i, d) ∈ (s.grp g).growing → (∀ r ∈ (s.grp g).growing, r = (order, i, d) ∨ order < r.1) →
    ∃ t, exec (.growDeadlockFail g.coreRef) s = .next t ∧ ((t.grp g).ctx i).sreg d = 0 ∧
      ((t.grp g).ctx i).stop = .running ∧ ((t.grp g).ctx i).pc = ((s.grp g).ctx i).pc + 4 ∧
      (t.grp g).regalloc = (s.grp g).regalloc ∧ (t.grp g).v = (s.grp g).v ∧ t.mem = s.mem ∧
      (∀ h : SlotRef, h.key ≠ g.key → t.grp h = s.grp h)) ∧
  (∀ (s : State) (k : CoreRef), (∃ e ∈ s.groupsOn k, s.onward e.1 = .entry) → exec (.growDeadlockFail k) s = .next s)

/-- 10 R186. TRAPADDR 0 of the MISALIGN and the ADDR trap is the model's choice (log 49): the rule names none. -/
def Obligations.ConstantFill : Prop :=
  (∀ (s : State) (a b d : Nat), s.plain = true → (∀ f, s.flagB = some f → (s.me.flag f).count < 63) →
    let off := (s.sreg a).toNat
    let n := (s.sreg b).toNat
    (s.ownsStores = false → Traps (.cfill a b d) causePriv 0 0 4 s) ∧
    (s.ownsStores = true → off % 4 ≠ 0 ∨ n % 4 ≠ 0 → Traps (.cfill a b d) causeMisalign 3 0 4 s) ∧
    (s.ownsStores = true → off % 4 = 0 → n % 4 = 0 → 131072 < off + n → Traps (.cfill a b d) causeAddr 3 0 4 s) ∧
    (s.ownsStores = true → off % 4 = 0 → n % 4 = 0 → off + n ≤ 131072 → 0 < n →
      s.checkRange s.cur.g (s.sreg d) n false = .ok →
      Issues (.cfill a b d) 1 0 s.flagB 0 (.cfill (s.sreg d) off n 0) s)) ∧
  (∀ (s : State) (g : SlotRef) (n : Nat) (o : Op) (src : DWord) (off len : Nat) (c : CoreRef), s.hasGrp g = true →
    (s.grp g).kind = .group → (s.grp g).ops.find? (fun p => p.id == n) = some o → o.id = n →
    o.kind = .cfill src off len 0 → 0 < len → len % 4 = 0 → off + len ≤ 131072 → s.behindAcquire g o = false →
    (s.team (s.grp g).team).cores = [c] → s.checkRange g (src + 0) len false = .ok →
    let seen := s.seenBy (.engine g true n)
    (s.hist = [] → seen = s) ∧
    ∃ t, exec (.cfillComplete g n len) s = .next t ∧ (t.grp g).findOp n = none ∧
      (∀ i, i < len → t.byte (2 ^ 61 + 2 ^ 20 * c.key + off + i) = seen.vbyte g (src + BitVec.ofNat 64 i)) ∧
      (∀ p, p < 2 ^ 61 + 2 ^ 20 * c.key + off ∨ 2 ^ 61 + 2 ^ 20 * c.key + off + len ≤ p → t.byte p = s.byte p))

/-- 08 R151, R154, R156. That HPATCH outside a wave tests one register, and before PRIV, is the model's reading (log 53). -/
def Obligations.HandlerInstructions : Prop :=
  ∀ (s : State) (c d : Nat), s.plain = true →
    let x := s.sreg d
    let r := x.toNat % 256
    let l := x.toNat / 256
    (s.inHandler = false → Traps (.hread c d) causePriv 0 0 4 s ∧ Traps (.hwrite c d) causePriv 0 0 4 s ∧
      Traps (.hkill d) causePriv 0 0 4 s ∧ Traps .hkillt causePriv 0 0 4 s) ∧
    (s.me.isLaneWave = false → Traps .hend causePriv 0 0 4 s ∧
      (d < 64 → d < s.me.regalloc → Traps (.hpatch d) causePriv 0 0 4 s) ∧
      (64 ≤ d ∨ s.me.regalloc ≤ d → Traps (.hpatch d) causeIllegal 3 0 4 s)) ∧
    (s.inHandler = true →
      (8192 ≤ x.toNat ∨ s.me.regalloc ≤ r →
        Traps (.hread c d) causeIllegal 3 0 4 s ∧ Traps (.hwrite c d) causeIllegal 3 0 4 s) ∧
      (x.toNat < 8192 → r < s.me.regalloc →
        WritesS 1 (.hread c d) c ((s.me.vreg r l).setWidth 64) s ∧
        Runs (.hwrite c d) 1 0 (fun g => ({ g with v := g.v.put 0 (32 * r + l) ((s.sreg c).setWidth 32) } : Group).goOn s.cur.i 4) s) ∧
      ((∀ h ∈ s.occupantsOf s.me.team, s.handle h ≠ x) → Runs (.hkill d) 1 0 (fun g => g.goOn s.cur.i 4) s) ∧
      (∀ h, s.groupNamed x = some h → (s.grp h).ops = [] → s.hasGrp h = true →
        ∃ t, exec (.hkill d) s = .next t ∧ (t.grp h).ctxs = [] ∧ (t.grp h).records = [] ∧ (t.grp h).ended = true) ∧
      (∃ t, exec .hkillt s = .next t ∧ Paid 1 0 s t ∧ t.mem = s.mem ∧
        (∀ h ∈ s.occupantsOf s.me.team, (t.grp h).ended = true ∧
          ((s.grp h).ended = false → (t.grp h).ctxs = [] ∧ (t.grp h).records = [] ∧ (t.grp h).handler = none ∧
            (t.grp h).v = (s.grp h).v ∧
            ((s.grp h).kind = .group → (s.grp h).team = s.me.team → ∀ k l, k < s.myTeam.barriers → l < 32 → inMask (s.grp h).live l = true →
              ∃ d ∈ (t.team s.me.team).drops, d.bar = k ∧ d.gi = (s.grp h).gi ∧ d.lane = l ∧ d.g = h))) ∧
        (∀ h : SlotRef, (∀ k ∈ s.occupantsOf s.me.team, h.key ≠ k.key) → t.grp h = s.grp h))) ∧
    (s.me.isLaneWave = true → s.active ≠ 0 → d + 4 ≤ 64 → d + 4 ≤ s.me.regalloc → (∀ o ∈ s.me.origins, o.width ≤ 4) →
      (∃ t, exec (.hpatch d) s = .next t ∧ Paid 1 0 s t ∧ (t.grp s.cur.g).origins = s.me.origins ∧
        (∀ k, (t.grp s.cur.g).patches.look k =
          if k < 32 ∧ inMask s.active k = true then
            some ((List.range (s.me.originWidth k)).map (fun i => s.me.vreg (d + i) k))
          else s.me.patches.look k) ∧
        (t.grp s.cur.g).v = s.me.v ∧ ((t.grp s.cur.g).ctx s.cur.i).pc = s.ctx.pc + 4 ∧ t.mem = s.mem) ∧
      (s.me.ctxs = [(s.cur.i, s.ctx)] → s.me.records = [] → s.ctx.stop = .running → s.me.handler = none →
        (s.me.origins.map (fun o => (o.g.key, o.ctx, o.lane))).Nodup → (∀ o ∈ s.me.origins, o.g.key ≠ s.cur.g.key) →
        ∃ t, exec .hend s = .next t ∧ t.mem = s.mem ∧
          let left := s.laneSet &&& ~~~s.active
          (left = 0 → (t.grp s.cur.g).ctxs = [] ∧ (t.grp s.cur.g).ended = true) ∧
          (left ≠ 0 → ((t.grp s.cur.g).ctx s.cur.i).p0 = left ∧ ((t.grp s.cur.g).ctx s.cur.i).pc = s.ctx.pc + 4 ∧
            (t.grp s.cur.g).ended = s.me.ended) ∧
          (∀ k o h tr, k < 32 → inMask s.active k = true → s.me.origins[k]? = some o → s.originTrap o = some (h, tr) →
            let u := t.grp o.g
            let served (x : LaneTrap) : Prop := x.resolved = true ∨
              ∃ j p, j < 32 ∧ inMask s.active j = true ∧ s.me.origins[j]? = some p ∧ p.g.key = o.g.key ∧ p.gen = o.gen ∧
                p.ctx = o.ctx ∧ p.lane = x.lane
            ((∀ x ∈ h.traps, served x) → u.held.look o.ctx = none ∧
              (((s.grp o.g).ctx o.ctx).stop = .laneTrap → (u.ctx o.ctx).stop = .running)) ∧
            ((∃ x ∈ h.traps, ¬served x) → ∃ h', u.held.look o.ctx = some h' ∧
              ∃ x ∈ h'.traps, x.lane = o.lane ∧ x.resolved = true ∧ x.patch = s.me.patches.look k))))

/-- 08 R150-R152. -/
def Obligations.LaneHandlerWaves : Prop :=
  (∀ (s : State) (t cl : Nat) (o : Origin) (os : List Origin), (s.teams.look t).isSome = true →
    (s.collection t cl).lanes = o :: os →
    (o.tick + 256 ≤ s.tick → ∃ u, exec (.laneCollectionClose t cl) s = .next u ∧
      (u.collection t cl).lanes = [] ∧ (u.collection t cl).ready = (s.collection t cl).ready ++ [o :: os] ∧
      u.groups = s.groups ∧ u.mem = s.mem ∧ (∀ k, k ≠ t → u.team k = s.team k)) ∧
    (s.tick < o.tick + 256 → exec (.laneCollectionClose t cl) s = .next s)) ∧
  (∀ (s : State) (t cl : Nat) (o : Origin) (os : List Origin) (r : List (List Origin)) (g : SlotRef),
    (s.teams.look t).isSome = true → (s.team t).retired = false → (s.collection t cl).ready = (o :: os) :: r → os.length < 32 →
    s.waveSlot o.g = some g →
    ({ s with groups := s.groups.ins g.key { Group.empty with task := (s.team t).task } } : State).headerAt g
      (s.task (s.team t).task).l.lanehnd = true →
    ∃ u, exec (.handlerWaveStart t cl) s = .next u ∧
      let w := u.grp g
      w.kind = .laneWave (o :: os) [] ∧ w.team = t ∧ w.task = (s.team t).task ∧ w.regalloc = 64 ∧ w.obs = [] ∧
      (w.ctx 0).pc = (s.task (s.team t).task).l.lanehnd ∧ (w.ctx 0).sreg 1 = BitVec.ofNat 64 (os.length + 1) ∧
      (w.ctx 0).sreg 2 = BitVec.ofNat 64 (s.team t).teamId ∧
      (∀ l, l < 32 → (inMask (w.ctx 0).p0 l = true ↔ l ≤ os.length)) ∧
      (∀ l x, (o :: os)[l]? = some x → ∀ j, j < x.regs.length → w.vreg j l = x.regs.getD j 0) ∧
      (u.collection t cl).ready = r ∧ u.mem = s.mem ∧ (∀ h : SlotRef, h.key ≠ g.key → u.grp h = s.grp h)) ∧
  (∀ (s : State) (o : Origin) (p : Option (List Word)) (h : Held) (tr : LaneTrap), s.hasCtx ⟨o.g, o.ctx⟩ = true →
    s.originTrap o = some (h, tr) → h.traps = [tr] → h.op = none →
    let u := (s.resolveOrigin o p).grp o.g
    u.held.look o.ctx = none ∧
    (((s.grp o.g).ctx o.ctx).stop = .laneTrap → (u.ctx o.ctx).stop = .running)) ∧
  (∀ (s : State) (g : SlotRef) (os : List Origin) (ps : SMap (List Word)), (s.grp g).kind = .laneWave os ps →
    (4096 ≤ (s.grp g).executed → (∃ e ∈ (s.grp g).ctxs, s.ready ⟨g, e.1⟩ = true) → exec (.laneWaveLimit g) s =
      .next (s.endTask (s.grp g).task causeDfault 0x05 0 (s.handle g) ((s.grp g).ctx 0).clause 0)) ∧
    ((s.grp g).executed < 4096 ∨ (∀ e ∈ (s.grp g).ctxs, s.ready ⟨g, e.1⟩ = false) →
      exec (.laneWaveLimit g) s = .next s))

/-- 02 R45, 25 R382, R383, 05 R88, 19 R298; what the sequence writes is Config.umberWrites, whether it raises its class Config.umberFaults,
and its destinations are numbered as log 10 says. That a sequence with a flag stays outstanding on it, that one without a flag ends at its
issue where its bytes are at hand, and the literal reading of the operand mask are log 11. -/
def Obligations.ExtendedOpcodes : Prop :=
  ∀ (s : State) (e : BitVec 22), s.plain = true →
    let d := s.die s.cur.g.die
    (s.umberNext ≠ none → exec (.esc e) s = .next s) ∧
    (s.umberNext = none → (∀ im x, d.umber = some im → x ∈ im.entries → x.opcode ≠ e.toNat) →
      Traps (.esc e) causeIllegal 7 0 4 s) ∧
    (∀ im x, s.umberNext = none → d.umber = some im → im.entries.find? (fun y => decide (y.opcode = e.toNat)) = some x →
      let fl := if x.flag = 1 then s.flagA else if x.flag = 2 then s.flagB else none
      let fits : Prop := ∀ i, i < 22 → e.getLsbD i = true → x.operandMask.testBit (i + 10) = true
      let legal : Prop := fits ∧ (x.fault = 0 ∨ Config.umberFaults im.version e.toNat s.free = false)
      let ws := Config.umberWrites im.version e.toNat s.free
      let free (n : Nat) : Prop := ∀ w ∈ ws, w.1 ≠ n
      ((∃ i, i < 22 ∧ e.getLsbD i = true ∧ x.operandMask.testBit (i + 10) = false) → Traps (.esc e) causeIllegal 2 0 4 s) ∧
      (∀ f, legal → fl = some f → (s.me.flag f).count < 63 →
        ∃ t, exec (.esc e) s = .next t ∧ Paid (max 1 x.ibud) 0 s t ∧
          OnlyGroup s.cur.g (fun g => (g.addOp (s.newOp fl 0 (.umber ⟨im.version, e.toNat, s.free, s.active, [], none⟩))).goOn s.cur.i 4)
            s.draw t) ∧
      (legal → fl = none →
        ∃ t, exec (.esc e) s = .next t ∧ t.free = s.free + 1 ∧
          (t.team s.me.team).ci = sat64 (s.myTeam.ci - max 1 x.ibud) ∧
          (∃ n : Nat, n ≤ ws.length ∧ (t.team s.me.team).ct = sat64 (sat64 s.myTeam.ct - 64 * n)) ∧
          ((∀ w ∈ ws, s.umberByte s.cur.g w = none) → t.mem = s.mem ∧ (t.team s.me.team).ct = sat64 s.myTeam.ct) ∧
          (∀ p, (∀ w ∈ ws, ∀ a, s.umberByte s.cur.g w = some a → s.placeOf s.cur.g a ≠ some p) → t.byte p = s.byte p) ∧
          let u := t.grp s.cur.g
          let writable (l : Nat) : Bool := inMask s.active l && inMask s.me.live l
          (∀ f, (u.flag f).count = (s.me.flag f).count) ∧
          (u.ctx s.cur.i).pc = s.ctx.pc + 4 ∧ (u.ctx s.cur.i).p0 = s.ctx.p0 ∧
          (∀ h : SlotRef, h.key ≠ s.cur.g.key → (t.grp h).bare = (s.grp h).bare) ∧
          (∀ r, r < 64 → free r → (u.ctx s.cur.i).sreg r = s.sreg r) ∧
          (∀ r l, r < 256 → l < 32 → free (64 + 32 * r + l) ∨ writable l = false ∨ s.me.regalloc ≤ r →
            u.vreg r l = s.me.vreg r l) ∧
          u.o = s.me.o ∧ u.q = s.me.q ∧
          (∀ k l, k < 64 → l < 32 → free (8896 + k) ∨ writable l = false →
            inMask (u.p.get 0 k) l = inMask (s.me.p.get 0 k) l)) ∧
      (∀ cause, fits → x.fault = cause → Config.umberFaults im.version e.toNat s.free = true →
        (∀ f, fl = some f → (s.me.flag f).count < 63) →
        (cause ∈ [causeIllegal, causeBadTarget, causeAddr, causeMisalign, causeCap, causePriv] →
          exec (.esc e) s = .next ((s.draw.advance 4).deliver s.cur (s.trapHere cause 0 0))) ∧
        (cause = causeLease → exec (.esc e) s = .next (s.draw.endTaskAt s.cur causeLease 0 0))))

/-- 11 R209, R210, R220-R222. That MCLAIM_GRANT does nothing under a pending yield is the model's reading (log 39). The order of the system slots at the baton is the model's choice (log 25): the owner's
pass is stated for requesters in slots 0 to 47. -/
def Obligations.EngineClaims : Prop :=
  ∀ (s : State) (acc : Bool) (a n d : Nat), s.plain = true →
    let g := s.cur.g
    let k := s.core g.coreRef
    let inside := fun i : Nat => a ≤ i ∧ i ≤ a + n
    ((if acc then 16 else 32) < a + n + 1 →
      Traps (.mclaim acc a n) causeIllegal 3 0 4 s ∧ Traps (.mrel acc a n) causeIllegal 3 0 4 s) ∧
    (a + n + 1 ≤ (if acc then 16 else 32) →
      (slotOfKey g.key = g → s.waitingClaims g.coreRef = [] →
        (∀ i, inside i → (k.slotTeams acc).look i = none ∨ k.claimed acc s.me.team i = true) →
        ∃ t, exec (.mclaim acc a n) s = .next t ∧ Paid 1 0 s t ∧ (t.ctx).stop = .running ∧
          OnlyGroup g (fun h => h.goOn s.cur.i 4)
            (s.modCore g.coreRef (fun c => { c with
              om := (t.core g.coreRef).om, ac := (t.core g.coreRef).ac, omLeft := (t.core g.coreRef).omLeft
              acLeft := (t.core g.coreRef).acLeft })) t ∧
          (∀ i, (t.core g.coreRef).om.look i =
            if acc = false ∧ inside i ∧ k.om.look i = none then some ⟨s.me.team, [], [], none⟩ else k.om.look i) ∧
          (∀ i, (t.core g.coreRef).ac.look i =
            if acc = true ∧ inside i ∧ k.ac.look i = none then some ⟨s.me.team, [], [], [], 64⟩ else k.ac.look i)) ∧
      ((∃ i m, inside i ∧ (k.slotTeams acc).look i = some m ∧ m ≠ s.me.team) →
        Runs (.mclaim acc a n) 1 0 id s ∧
        ∃ t, exec (.mclaim acc a n) s = .next t ∧ t.ctx.stop = .mclaim acc a n s.serial) ∧
      (k.engine = [] → ∃ t, exec (.mrel acc a n) s = .next t ∧ Paid 1 0 s t ∧ RunsOn s t ∧
        OnlyGroup g (fun h => h.goOn s.cur.i 4)
          (s.modCore g.coreRef (fun c => { c with
              om := (t.core g.coreRef).om, ac := (t.core g.coreRef).ac, omLeft := (t.core g.coreRef).omLeft
              acLeft := (t.core g.coreRef).acLeft })) t ∧
        (∀ e ∈ (t.core g.coreRef).slotTeams acc, inside e.1 → (k.slotTeams acc).look e.1 = some s.me.team → e.2 ≠ s.me.team) ∧
        (∀ e ∈ k.slotTeams acc, ¬(inside e.1 ∧ e.2 = s.me.team) → e ∈ (t.core g.coreRef).slotTeams acc) ∧
        (t.core g.coreRef).slotTeams (!acc) = k.slotTeams (!acc)) ∧
      (∀ (r : OpRef) (o : Op) (x : Nat), k.engine = [.op r] → (s.grp r.g).findOp r.op = some o → inside x →
        k.claimed acc s.me.team x = true → x + (if acc then 32 else 0) ∈ o.kind.uses.reads →
        ∃ t, exec (.mrel acc a n) s = .next t ∧ Paid 1 0 s t ∧ RunsOn s t ∧
          (t.core g.coreRef).engine = [.op r, .rel s.me.team acc
            (((List.range (n + 1)).map (fun i => a + i)).filter (k.claimed acc s.me.team))] ∧
          (t.core g.coreRef).om = k.om ∧ (t.core g.coreRef).ac = k.ac ∧
          (t.grp g).bare = (s.me.goOn s.cur.i 4).bare ∧ t.mem = s.mem)) ∧
    (∀ (c : CtxId) (order : Nat), s.hasCtx c = true → (s.grp c.g).kind = .group →
      ((s.grp c.g).ctx c.i).stop = .mclaim acc a n order →
      s.waitingClaims c.g.coreRef = [⟨order, c, acc, (List.range (n + 1)).map (fun i => a + i)⟩] →
      ((s.team (s.grp c.g).team).yieldPending = true → exec (.mclaimGrant c) s = .next s) ∧
      ((s.team (s.grp c.g).team).yieldPending = false →
        (∀ i, inside i → ((s.core c.g.coreRef).slotTeams acc).look i = none) →
        ∃ t, exec (.mclaimGrant c) s = .next t ∧ ((t.grp c.g).ctx c.i).stop = .running ∧
          ((t.grp c.g).ctx c.i).pc = ((s.grp c.g).ctx c.i).pc + 4 ∧
          (∀ i, ((t.core c.g.coreRef).slotTeams acc).look i =
            if inside i then some (s.grp c.g).team else ((s.core c.g.coreRef).slotTeams acc).look i) ∧
          t.mem = s.mem ∧ t.teams = s.teams ∧ (∀ h : SlotRef, h.key ≠ c.g.key → t.grp h = s.grp h)) ∧
      ((∃ i m, inside i ∧ ((s.core c.g.coreRef).slotTeams acc).look i = some m ∧ m ≠ (s.grp c.g).team) →
        exec (.mclaimGrant c) s = .next s)) ∧
    (k.baton = none → ∃ t, exec .mbatonTake s = .next t ∧ Paid 1 0 s t ∧ RunsOn s t ∧
      OnlyGroup g (fun h => h.goOn s.cur.i 4)
        (s.modCore g.coreRef (fun c => { c with baton := some g, batonReq := c.batonReq.filter (fun r => r != g) })) t) ∧
    (∀ h, k.baton = some h → h ≠ g → g ∉ k.batonReq → ∃ t, exec .mbatonTake s = .next t ∧ Paid 1 0 s t ∧ RunsOn s t ∧
      OnlyGroup g (fun x => x.goOn s.cur.i 4)
        (s.modCore g.coreRef (fun c => { c with batonReq := c.batonReq ++ [g] })) t) ∧
    (k.baton = some g ∨ (k.baton ≠ none ∧ g ∈ k.batonReq) → Runs .mbatonTake 1 0 (fun x => x.goOn s.cur.i 4) s) ∧
    (k.baton = some g → (∀ r ∈ k.batonReq, r = g) → ∃ t, exec .mbatonPass s = .next t ∧ Paid 1 0 s t ∧ RunsOn s t ∧
      OnlyGroup g (fun x => x.goOn s.cur.i 4)
        (s.modCore g.coreRef (fun c => { c with baton := none, batonReq := [] })) t) ∧
    (∀ h, k.baton = some g → g.slot < 48 → h ∈ k.batonReq → h ≠ g →
      (∀ r ∈ k.batonReq, r.coreRef = g.coreRef ∧ r.slot < 48) →
      (∀ r ∈ k.batonReq, r ≠ g → (h.slot + 47 - g.slot) % 48 ≤ (r.slot + 47 - g.slot) % 48) →
      ∃ t, exec .mbatonPass s = .next t ∧ Paid 1 0 s t ∧ RunsOn s t ∧ (t.core g.coreRef).baton = some h ∧
        (∀ r, r ∈ (t.core g.coreRef).batonReq ↔ r ∈ k.batonReq ∧ r ≠ g ∧ r ≠ h) ∧ t.mem = s.mem ∧
        (t.grp g).bare = (s.me.goOn s.cur.i 4).bare) ∧
    (k.baton ≠ some g → ∃ t, exec .mbatonPass s = .next t ∧ Paid 1 0 s t ∧ RunsOn s t ∧
      OnlyGroup g (fun x => x.goOn s.cur.i 4)
        (s.modCore g.coreRef (fun c => { c with batonReq := c.batonReq.filter (fun r => r != g) })) t) ∧
    WritesS 1 (.mbatonQuery d) d (BitVec.ofNat 64
      ((if k.baton.isSome then 32768 else 0) + 256 * ((k.baton.map SlotRef.slot).getD 0) +
        (if g ∈ k.batonReq then 2 else 0) + (if k.baton = some g then 1 else 0))) s ∧
    Runs (.mstat d) 1 0 (fun x =>
      ({ x.modCtx s.cur.i (Context.setS d s.me.estatus) with estatus := 0 } : Group).goOn s.cur.i 4) s

/-- 11 R212-R222, 12 R229, R232, R233. That MSTA's subcode 8 goes before an unclaimed slot's 3 (log 103), that MLDO's claim is tested
before its descriptor (log 123), that an operation owns its lines from its issue on (log 70) and that what a slot's engine
operation may trap at issue counts on the claims of the slot's team without those a queued MREL gives up (log 125) are the model's
readings. -/
def Obligations.EngineOperationsIssue : Prop :=
  ∀ (s : State) (a b c d mc : Nat), s.plain = true → s.full s.flagA = false →
    let t := s.td c
    let v := s.td d
    let r := s.row0 d
    let k := s.col0 d
    let nb := (16 * (d + 1) + 63) / 64
    let m := 16 * 2 ^ mc
    let n := 16 * (d + 1)
    let bs := (List.range nb).map (fun i => b + i)
    let cs := (List.range nb).map (fun i => c + i)
    let tag : Option Tag := some ⟨t.fmt, t.scale⟩
    let load := t.touched (t.rect r 64 k (slotK t.fmt))
    let save := t.touched (t.rect r 64 k 64)
    let out := t.touched (t.rect r 64 k (s.headAt a))
    let slots := (List.range (b + 1)).map (fun i => a + i)
    (16 < a + b + 1 ∨ s.claims true slots = false → Traps (.mzacc a b) causeIllegal 3 0 4 s) ∧
    (a + b + 1 ≤ 16 → s.claims true slots = true → IssuesEngine (.mzacc a b) 1 0 [] (.mzacc a (b + 1)) id s) ∧
    (s.claims false [a] = false ∨ (t.loc = 2 ∧ s.claims false [t.base % 32] = false) →
      Traps (.mldo a c d) causeIllegal 3 0 4 s) ∧
    (s.claims false [a] = true → s.tdFine t (t.badShape [1, 2, 3, 4, 5, 6, 7, 8] || badCol t.fmt k) false load = true →
      (t.loc = 2 → s.claims false [t.base % 32] = true) →
      IssuesEngine (.mldo a c d) 1 (64 * (t.lines load).length) [] (.mldo a t r k)
        (fun x => { x with om := x.om.upd a (fun y => { y with tag := tag }) }) s) ∧
    (s.claims true [a] = false ∨ (t.loc = 2 ∧ s.claims false [t.base % 32] = false) →
      Traps (.msta a c d mc) causeIllegal
        (if t.fmt ∈ [0, 1, 2, 3, 4, 5, 6, 7, 9] ∧ badMode t.fmt mc = true then 8 else 3) 0 4 s) ∧
    (s.claims true [a] = true →
      s.tdFine t (t.badShape [0, 1, 2, 3, 4, 5, 6, 7, 9] || badCol t.fmt k || (decide (t.fmt = 7) && decide (t.cols % 32 ≠ 0)))
        true save = true →
      (t.loc = 2 → s.claims false [t.base % 32] = true) →
      (badMode t.fmt mc = true → Traps (.msta a c d mc) causeIllegal 8 0 4 s) ∧
      (badMode t.fmt mc = false → IssuesEngine (.msta a c d mc) 1 (64 * (t.lines save).length) (s.ownLines s.cur.g (t.lines save))
        (.msta a t r k mc (decide (s.omTag (t.base % 32) ≠ tag)))
        (fun x => if t.loc = 2 then { x with om := x.om.upd (t.base % 32) (fun y => { y with tag := tag }) } else x) s)) ∧
    (∀ z : Bool,
      let i : Instr := if z then .mmaz c a b mc d else .mma c a b mc d
      (mc < 3 → b + nb ≤ 32 → c + nb ≤ 16 → s.claims false (a :: bs) = true → s.claims true cs = true →
        (s.pairTags a b nb = none → Traps i causeAddr 6 0 4 s) ∧
        (∀ tags, s.pairTags a b nb = some tags →
          ((s.core s.cur.g.coreRef).baton = some s.cur.g → IssuesEngine i (m * n / 256) 0 [] (.mma z a b c m n tags) id s) ∧
          ((s.core s.cur.g.coreRef).baton = none → ∃ u, exec i s = .next u ∧ Paid (m * n / 256 : Nat) 0 s u ∧
            (u.core s.cur.g.coreRef).baton = some s.cur.g ∧
              (u.core s.cur.g.coreRef).engine = (s.core s.cur.g.coreRef).engine ++ [.op ⟨s.cur.g, s.serial⟩]) ∧
          (∀ h, (s.core s.cur.g.coreRef).baton = some h → h ≠ s.cur.g →
            ∃ u, exec i s = .next u ∧ u.teams = s.teams ∧ u.tasks = s.tasks ∧ u.mem = s.mem ∧ u.ctx.stop = .baton ∧
              u.ctx.pc = s.ctx.pc ∧ s.cur.g ∈ (u.core s.cur.g.coreRef).batonReq))) ∧
      (mc = 3 → Traps i causeIllegal 8 0 4 s) ∧
      (mc < 3 → b + nb ≤ 32 → c + nb ≤ 16 → s.claims false (a :: bs) = false ∨ s.claims true cs = false →
        Traps i causeIllegal 3 0 4 s) ∧
      (mc < 3 → 32 < b + nb ∨ 16 < c + nb → Traps i causeIllegal 3 0 4 s)) ∧
    (s.claims false [a] = true → s.claims true (if t.cols = 128 then [b, b + 1] else [b]) = true →
      (t.cols = 128 → b ≠ 15) → (s.core s.cur.g.coreRef).baton = some s.cur.g →
      s.tdFine t (t.badShape [1, 2, 3, 4]) false (t.touched ⟨0, t.valid, 0, t.cols⟩) = true →
      s.tdFine v (v.badShape [1, 2, 3, 4]) false (v.touched ⟨0, t.valid, 0, t.cols⟩) = true → badTiles t v = false →
      ∀ q, s.omTag a = some q → q.fmt = 1 ∨ q.fmt = 2 →
        IssuesEngine (.attn a b c d) 64 0 [] (.attn b a q t v) id s) ∧
    (s.badHead a = true → Traps (.attnf a c d) causeIllegal 3 0 4 s ∧ Traps (.attnz a) causeIllegal 3 0 4 s) ∧
    (s.badHead a = false → IssuesEngine (.attnz a) 1 0 [] (.attnz a (s.headAt a)) id s) ∧
    (s.badHead a = false → s.tdFine t (t.badShape [0, 1, 2, 3, 4] || decide (t.loc = 2)) true out = true →
      IssuesEngine (.attnf a c d) 1 (64 * (t.lines out).length) (s.ownLines s.cur.g (t.lines out))
        (.attnf a t r k (s.headAt a)) id s)

/-- A product of two values is NaN: a factor is, or zero meets infinity (04 R78). -/
def NanProduct (p : FVal × FVal) : Prop :=
  p.1 = .nan ∨ p.2 = .nan ∨ (∃ n, p.1 = .inf n ∧ p.2.isZero = true) ∨ (∃ n, p.1.isZero = true ∧ p.2 = .inf n)

/-- A product of two values is the infinity of sign n (04 R78). -/
def InfProduct (n : Bool) (p : FVal × FVal) : Prop :=
  ¬NanProduct p ∧ ((∃ k, p.1 = .inf k) ∨ ∃ k, p.2 = .inf k) ∧ n = (p.1.isNeg != p.2.isNeg)

/-- x is the exact sum of products (04 R78): NaN, an infinity, or the number, without rounding. -/
def ExactSum (ps : List (FVal × FVal)) (x : FVal) : Prop :=
  let nan : Prop := (∃ p ∈ ps, NanProduct p) ∨ ((∃ p ∈ ps, InfProduct true p) ∧ ∃ p ∈ ps, InfProduct false p)
  (nan → x = .nan) ∧ (∀ n, ¬nan → (∃ p ∈ ps, InfProduct n p) → x = .inf n) ∧
    (¬nan → (∀ n, ∀ p ∈ ps, ¬InfProduct n p) →
      ∃ k m e, x = .fin k m e ∧ numOf x = (ps.map (fun p => numOf p.1 * numOf p.2)).sum)

/-- An FP32 word w takes the exact sum x of a chunk and becomes u (04 R78, R79): an exact zero leaves it; else x is rounded to
FP32, and the sum with w once more. -/
def TakesChunk (w : Word) (x : FVal) (u : Word) : Prop :=
  let a := fmt32.val w.toNat
  let inf (n : Bool) : Nat := if n then 0xFF800000 else 0x7F800000
  (x.isZero = true → u = w) ∧
  (x.isZero = false → ∃ r : FRes,
    (x = .nan → r.bits = 0x7FC00000) ∧ (∀ n, x = .inf n → r.bits = inf n) ∧
    (∀ n m e, x = .fin n m e → RoundsTo fmt32 0 (numOf x) r) ∧
    let b := fmt32.val r.bits
    (a = .nan ∨ b = .nan ∨ (∃ n, a = .inf n ∧ b = .inf !n) → u = 0x7FC00000) ∧
    (∀ n, a ≠ .nan → b ≠ .nan → (a = .inf n ∧ b ≠ .inf !n) ∨ (b = .inf n ∧ a ≠ .inf !n) → u = BitVec.ofNat 32 (inf n)) ∧
    (∀ n m e k j i, a = .fin n m e → b = .fin k j i →
      (numOf a + numOf b ≠ 0 → ∃ q, RoundsTo fmt32 0 (numOf a + numOf b) q ∧ u = BitVec.ofNat 32 q.bits) ∧
      (numOf a + numOf b = 0 → u = if n && k then 0x80000000 else 0)))

/-- What the engine's arithmetic says of numbers: products and chunk sums (04 R78, R79), elements (04 R73, R74, R76, 11 R203),
chunk summaries (11 R208), and the conversions of MSTA (11 R218, 04 R75) and of ATTNF (12 R232), each with the engine status
that it sets (11 R220). -/
def EngineNumbers : Prop :=
  let nans : List Nat := [0x7FC00000, 0x7E00, 0x7FC0, 0x7F, 0x7E]
  let infs : List Nat := [0x7F800000, 0x7C00, 0x7F80, 0x7F, 0x7C]
  let signs : List Nat := [0x80000000, 0x8000, 0x8000, 0x80, 0x80]
  let signed (fmt : Nat) (n : Bool) (b : Nat) : Nat := (if n then signs.getD fmt 0 else 0) + b
  let num (w : Word) : FVal := fmt32.val w.toNat
  (∀ a b : FVal, ExactSum [(a, b)] (a.mul b)) ∧
  (∀ a b : List FVal, ExactSum (a.zip b) (chunkSum a b)) ∧
  (∀ (w : Word) (x : FVal), TakesChunk w x (accumulate w x)) ∧
  -- elements of an operand slot
  (∀ (m : OmSlot) (t : Tag) (r e : Nat),
    let z := elemSize t.fmt
    (t.fmt ≤ 4 → m.elem t r e = (fmtOf t.fmt).val (((List.range z).map (fun i => m.byte r (z * e + i) * 256 ^ i)).sum)) ∧
    (t.fmt = 7 → m.elem t r e = q4Val (m.byte r (e / 2) / 16 ^ (e % 2) % 16) (m.side.get 0 (16 * r + e / 32)).toNat) ∧
    (t.fmt = 8 → m.elem t r e = t3Val (m.byte r (e / 5)) (e % 5) (fmt32.val t.scale)) ∧
    (t.fmt = 5 → m.elemInt t r e = (BitVec.ofNat 8 (m.byte r e)).toInt) ∧ (t.fmt = 6 → m.elemInt t r e = m.byte r e)) ∧
  (∀ code scale : Nat, code < 16 → scale < 256 →
    let e : Int := (scale % 64 : Nat)
    let mag (xs : List ℚ) : ℚ := (if 8 ≤ code then -1 else 1) * xs.getD (code % 8) 0
    let value : ℚ :=
      if scale / 64 = 0 then (if code < 8 then (code : ℚ) else (code : ℚ) - 16)
      else if scale / 64 = 1 then mag [0, 1 / 2, 1, 3 / 2, 2, 3, 4, 6]
      else if scale / 64 = 2 then mag [0, 1 / 8, 1 / 4, 1 / 2, 1, 2, 4, 8]
      else mag [0, 1, 2, 3, 4, 6, 8, 12]
    (e = 0 → q4Val code scale = .fin false 0 0) ∧ (e = 63 → q4Val code scale = .nan) ∧
    (e ≠ 0 → e ≠ 63 → (∃ m i, q4Val code scale = .fin (decide (8 ≤ code)) m i) ∧
      numOf (q4Val code scale) = value * 2 ^ (e - 32))) ∧
  (∀ (byte k : Nat) (x : FVal), k < 5 →
    (243 ≤ byte → t3Val byte k x = .nan) ∧
    (byte < 243 → t3Val byte k x = if byte / 3 ^ k % 3 = 0 then x.neg else if byte / 3 ^ k % 3 = 1 then .fin false 0 0 else x)) ∧
  (∀ (m : OmSlot) (t : Tag) (r k : Nat),
    let whole : Prop := t.fmt = 5 ∨ t.fmt = 6 ∨ t.fmt = 9
    (m.chunkZero t r k = true ↔ ∀ i, i < 32 →
      (whole → m.elemInt t r (32 * k + i) = 0) ∧ (¬whole → ∃ n e, m.elem t r (32 * k + i) = .fin n 0 e)) ∧
    (m.chunkNf t r k = true ↔ ¬whole ∧ ∃ i, i < 32 ∧
      (m.elem t r (32 * k + i) = .nan ∨ ∃ n, m.elem t r (32 * k + i) = .inf n))) ∧
  -- MSTA to a floating target
  (∀ (fmt mode scale : Nat) (acc : Word), fmt ≤ 4 → mode ≤ 2 → scale < 2 ^ 32 →
    let y := storeElem fmt mode scale acc
    let p := (num acc, fmt32.val scale)
    (fmt = 0 ∧ mode = 0 ∧ scale = 0x3F800000 → y = ⟨acc.toNat, 0⟩) ∧
    (¬(fmt = 0 ∧ mode = 0 ∧ scale = 0x3F800000) →
      (NanProduct p → y = ⟨nans.getD fmt 0, if (p.1 ≠ .nan ∧ p.2 ≠ .nan) ∨ fmt = 3 then 1 else 0⟩) ∧
      (∀ n, InfProduct n p → y = if fmt = 3 then ⟨0x7F, 1⟩ else ⟨signed fmt n (infs.getD fmt 0), 0⟩) ∧
      (∀ n m e k j i, p.1 = .fin n m e → p.2 = .fin k j i →
        let x := numOf p.1 * numOf p.2
        (x = 0 → y = ⟨signed fmt (n != k) 0, 0⟩) ∧
        (x ≠ 0 → ∃ r, RoundsTo (fmtOf fmt) (if mode = 1 then 1 else 0) x r ∧
          y.bits = (if mode = 2 ∧ r.ev.getLsbD 1 = true then
            signed fmt (n != k) (if fmt = 3 then 0x7E else infs.getD fmt 0 - 1) else r.bits) ∧
          y.st = (if r.ev.getLsbD 1 = true then 2 else 0) + (if r.ev.getLsbD 4 = true then 4 else 0))))) ∧
  -- MSTA to an integer target
  (∀ (fmt mode scale : Nat) (acc : Word),
    let x := acc.toInt
    (fmt = 9 → storeElem fmt mode scale acc = ⟨acc.toNat, 0⟩) ∧
    (fmt = 5 → storeElem fmt mode scale acc = if x < -128 then ⟨128, 2⟩ else if 127 < x then ⟨127, 2⟩ else ⟨(x % 256).toNat, 0⟩) ∧
    (fmt = 6 → storeElem fmt mode scale acc = if x < 0 then ⟨0, 2⟩ else if 255 < x then ⟨255, 2⟩ else ⟨x.toNat, 0⟩)) ∧
  -- MSTA to q4: a block of 32 values under block type t
  (∀ (t : Nat) (xs : List FVal), t < 4 → xs.length = 32 →
    let y := q4Encode t xs
    let special : Prop := ∃ x ∈ xs, x = .nan ∨ ∃ n, x = .inf n
    let zero : Prop := ∀ x ∈ xs, x.isZero = true
    let top : ℚ := ([7, 6, 8, 12] : List ℚ).getD t 0
    (special → y = ⟨List.replicate 32 0, 64 * t + 63, 1⟩) ∧
    (¬special → zero → y = ⟨List.replicate 32 0, 64 * t, 0⟩) ∧
    (¬special → ¬zero → y.codes.length = 32 ∧ ∃ e : Nat, y.scale = 64 * t + e ∧ 1 ≤ e ∧ e ≤ 62 ∧
      (e = 62 ∨ ∀ x ∈ xs, |numOf x| ≤ top * 2 ^ ((e : Int) - 32)) ∧ (e = 1 ∨ ∃ x ∈ xs, top * 2 ^ ((e : Int) - 33) < |numOf x|) ∧
      ((∃ x ∈ xs, top * 2 ^ (30 : Nat) < |numOf x|) → y.st = 2) ∧ ((∀ x ∈ xs, |numOf x| ≤ top * 2 ^ (30 : Nat)) → y.st = 0) ∧
      ∀ j, j < 32 →
        let x := xs.getD j .nan
        let c := y.codes.getD j 0
        let away (d : Nat) : ℚ := |numOf (q4Val d y.scale) - numOf x|
        c < 16 ∧ (t = 0 → c ≠ 8) ∧ (1 ≤ t → (8 ≤ c ↔ x.isNeg = true)) ∧
        ∀ d, d < 16 → (t = 0 → d ≠ 8) → away c ≤ away d ∧
          (away c = away d → numOf (q4Val c y.scale) ≠ numOf (q4Val d y.scale) → c % 2 = 0))) ∧
  -- ATTNF
  (∀ (fmt : Nat) (o l : Word), fmt ≤ 4 →
    let f := fmtOf fmt
    let y := attnfElem fmt o l
    (l.toNat % 2 ^ 31 = 0 → y = ⟨0, 32⟩) ∧
    (l.toNat % 2 ^ 31 ≠ 0 →
      let q := fmt32.div 0 (num o) (num l)
      let r := if fmt = 0 then q else f.cvt 0 (fmt32.val q.bits)
      let v := f.val r.bits
      y.bits = r.bits ∧ y.st < 8 ∧
      (∀ n m e k j i, num o = .fin n m e → num l = .fin k j i → m ≠ 0 → RoundsTo fmt32 0 (numOf (num o) / numOf (num l)) q ∧
        (∀ m' e', fmt ≠ 0 → m' ≠ 0 → fmt32.val q.bits = .fin (n != k) m' e' → RoundsTo f 0 (numOf (fmt32.val q.bits)) r)) ∧
      (y.st.testBit 0 = true ↔ v = .nan ∧ (fmt = 3 ∨ (num o ≠ .nan ∧ num l ≠ .nan))) ∧
      (y.st.testBit 1 = true ↔ q.ev.getLsbD 1 = true ∨ r.ev.getLsbD 1 = true) ∧
      (y.st.testBit 2 = true ↔ (∃ n m e, v = .fin n m e ∧ m ≠ 0) ∧ |numOf v| < 2 ^ (1 - (f.bias : Int)) ∧
        (q.ev.getLsbD 5 = true ∨ r.ev.getLsbD 5 = true))))

/-- 04 R73-R80, 11 R203, R208, R213-R220, 12 R230-R233. That ESTATUS takes exactly these bits and the block's events are not recorded
where it failed twice (log 113), that an operation reads its tensors in one event (log 43), that a reserved t3 byte at the end of a row
keeps its five NaNs (log 30) and that a slot read under another FMT gives its bits (log 69) are the model's readings. -/
def Obligations.EngineOperationsComplete : Prop :=
  EngineNumbers ∧
  ∀ (s : State) (g : SlotRef) (o : Op), s.soleEngine g o →
    let k := s.core g.coreRef
    let om := fun i : Nat => k.om.get (OmSlot.fresh 0) i
    let ac := fun i : Nat => k.ac.get (AcSlot.fresh 0) i
    let seen := s.seenBy (matrixReader g o)
    let status (u : State) (b : Nat) : Prop := (u.grp g).estatus.getLsbD b = true
    let failed (u : State) (bits : Nat) : Prop :=
      EngineDone g o s u ∧ u.mem = s.mem ∧ (u.core g.coreRef).ac = k.ac ∧ (u.core g.coreRef).om = k.om ∧
        (u.grp g).estatus = (s.grp g).estatus ||| BitVec.ofNat 64 bits ∧
        (u.core g.coreRef).totals.get 0 19 = k.totals.get 0 19 + 1 ∧
        ∀ f, o.flag = some f → ((s.grp g).flag f).err = none → ((u.grp g).flag f).err = some ⟨causeMchk, 0, 0, 0, 0, 0, false, false⟩
    (∀ a n, o.kind = .mzacc a n → ∃ u, exec (.mzaccComplete g o.id) s = .next u ∧ EngineDone g o s u ∧ u.mem = s.mem ∧
      (∀ i, (u.core g.coreRef).ac.look i =
        if a ≤ i ∧ i < a + n then (k.ac.look i).map (fun x => ⟨x.team, [], [], [], 64⟩) else k.ac.look i)) ∧
    (∀ a t r c x, o.kind = .mldo a t r c → 1 ≤ t.fmt → t.fmt ≤ 8 → k.om.look a = some x →
      s.runsNow g t false (t.touched (t.rect r 64 c (slotK t.fmt))) = .ok →
      (t.fmt = 7 → c % 32 = 0) → (t.fmt = 8 → c % 5 = 0) →
      let z := elemSize t.fmt
      let src := fun i b : Nat =>
        if t.loc = 2 then (om (t.base % 32)).byte (r + i) b else (seen.vbyte g (t.addr (t.offset (r + i) b))).toNat
      let scale := fun i b : Nat =>
        if t.loc = 2 then ((om (t.base % 32)).side.get 0 (16 * (r + i) + b)).toNat else src i (t.cols / 2 + b)
      let inside := fun i e : Nat => r + i < t.valid ∧ c + e < t.cols
      ∃ u, exec (.mldoComplete g o.id) s = .next u ∧ EngineDone g o s u ∧ u.mem = s.mem ∧
        (∀ i, i ≠ a → (u.core g.coreRef).om.look i = k.om.look i) ∧ (u.core g.coreRef).ac = k.ac ∧
        ∃ y, (u.core g.coreRef).om.look a = some y ∧ y.team = x.team ∧ y.tag = x.tag ∧
          (t.fmt ≤ 6 → ∀ i j, i < 64 → j < 256 → y.byte i j = if inside i (j / z) then src i (z * c + j) else 0) ∧
          (t.fmt = 7 → ∀ i e, i < 64 → e < 512 →
            y.byte i (e / 2) / 16 ^ (e % 2) % 16 = (if inside i e then src i ((c + e) / 2) / 16 ^ (e % 2) % 16 else 0) ∧
            (inside i (e / 32 * 32) → (y.side.get 0 (16 * i + e / 32)).toNat = scale i ((c + e) / 32)) ∧
            (¬inside i (e / 32 * 32) → y.side.get 0 (16 * i + e / 32) = 0)) ∧
          (t.fmt = 8 → ∀ i e, i < 64 → e < 1280 →
            let b := src i ((c + e) / 5)
            (inside i (e / 5 * 5) → 243 ≤ b → y.byte i (e / 5) = b) ∧
            (¬inside i (e / 5 * 5) → y.byte i (e / 5) = 121) ∧
            (inside i (e / 5 * 5) → b < 243 → y.byte i (e / 5) < 243 ∧
              y.byte i (e / 5) / 3 ^ (e % 5) % 3 = if inside i e then b / 3 ^ (e % 5) % 3 else 1))) ∧
    (∀ z a b c m n tags ta cls, o.kind = .mma z a b c m n tags → tags.head? = some ta → tags.length = (n + 63) / 64 + 1 →
      (∀ x ∈ tags, pairClass x.fmt = some cls) → (∀ j, j < (n + 63) / 64 → (k.ac.look (c + j)).isSome = true) →
      let tb := fun j : Nat => tags.getD (j / 64 + 1) ⟨0, 0⟩
      let A := om a
      let B := fun j : Nat => om (b + j / 64)
      let w0 := fun i j : Nat => (if z then 0 else (ac (c + j / 64)).words.get 0 (64 * i + j % 64) : Word)
      let sum := fun i j q : Nat => chunkSum (A.chunk ta i q) ((B j).chunk (tb j) (j % 64) q)
      -- word (i, j) before chunk q
      let word := fun i j q : Nat => (List.range q).foldl (fun w p => accumulate w (sum i j p)) (w0 i j)
      let skipped := fun i j q : Nat =>
        (A.chunkZero ta i q && !(B j).chunkNf (tb j) (j % 64) q) || ((B j).chunkZero (tb j) (j % 64) q && !A.chunkNf ta i q)
      let finite (w : Word) : Prop := ∃ n m e, fmt32.val w.toNat = .fin n m e
      ∃ u, exec (.mmaComplete g o.id 0 []) s = .next u ∧ EngineDone g o s u ∧ u.mem = s.mem ∧ (u.core g.coreRef).om = k.om ∧
        (∀ i j, i < m → j < n →
          ((u.core g.coreRef).ac.get (AcSlot.fresh 0) (c + j / 64)).words.get 0 (64 * i + j % 64) =
            if cls = 2 then w0 i j +
              BitVec.ofInt 32 (((List.range 256).map (fun e => A.elemInt ta i e * (B j).elemInt (tb j) (j % 64) e)).sum)
            else word i j (chunksOf cls)) ∧
        (u.core g.coreRef).totals.get 0 18 = k.totals.get 0 18 + (((List.range m).flatMap (fun i => (List.range n).flatMap (fun j =>
          (List.range (chunksOf cls)).filter (fun q => skipped i j q)))).length : Nat) ∧
        (status u 0 ↔ status s 0 ∨ (cls ≠ 2 ∧ ∃ i j q, i < m ∧ j < n ∧ q < chunksOf cls ∧ sum i j q = .nan ∧
          .nan ∉ A.chunk ta i q ∧ .nan ∉ (B j).chunk (tb j) (j % 64) q)) ∧
        (status u 1 ↔ status s 1 ∨ (cls ≠ 2 ∧ ∃ i j q x, i < m ∧ j < n ∧ q < chunksOf cls ∧ finite (word i j q) ∧
          fmt32.val (word i j (q + 1)).toNat = .inf x)) ∧
        (status u 3 ↔ status s 3 ∨ (cls = 4 ∧ ∃ i y, y < 256 ∧
          ((i < m ∧ 243 ≤ A.byte i y) ∨ (i < n ∧ 243 ≤ (B i).byte (i % 64) y)))) ∧
        (∀ x, x ≠ 0 → x ≠ 1 → x ≠ 3 → (status u x ↔ status s x))) ∧
    (∀ z a b c m n tags, o.kind = .mma z a b c m n tags → 0 < n → n ≤ 64 →
      ∃ u, exec (.mmaComplete g o.id 1 [0]) s = .next u ∧ failed u (16 ||| 2 ^ (16 + c))) ∧
    (∀ a t r c mode clear, o.kind = .msta a t r c mode clear → t.fmt ≤ 9 → t.fmt ≠ 8 → s.ownedBefore o = false →
      let x := t.rect r 64 c 64
      let word := fun i e : Nat => (ac a).words.get 0 (64 * i + e)
      let out := fun i e : Nat => storeElem t.fmt mode t.scale (word i e)
      let block := fun i b : Nat =>
        q4Encode mode ((List.range 32).map (fun e => (fmt32.val (word i (32 * b + e)).toNat).mul (fmt32.val t.scale)))
      let z := elemSize t.fmt
      -- logical byte b of row i
      let byte := fun i b : Nat =>
        if t.fmt = 7 then
          (if b < t.cols / 2 then
            let d := b - c / 2
            (block i (d / 16)).codes.getD (2 * (d % 16)) 0 + 16 * (block i (d / 16)).codes.getD (2 * (d % 16) + 1) 0
          else (block i (b - t.cols / 2 - c / 32)).scale)
        else (out i (b / z - c)).bits / 256 ^ (b % z)
      let set := fun y : Nat => ∃ i e, i < x.rows ∧ e < x.cols ∧
        (if t.fmt = 7 then (block i (e / 32)).st else (out i e).st).testBit y = true
      (t.fmt = 7 → c % 32 = 0 ∧ t.cols % 32 = 0 ∧ mode < 4) →
      (s.laidOut g t true x → ∃ u, exec (.mstaComplete g o.id) s = .next u ∧ EngineDone g o s u ∧ WritesTensor g t x byte s u ∧
        (u.core g.coreRef).ac = k.ac ∧ (u.core g.coreRef).om = k.om ∧
        ∀ y, status u y ↔ status s y ∨ set y) ∧
      (∀ old, t.loc = 2 → t.fmt ≠ 7 → t.valid ≤ 64 → z * t.cols ≤ 256 → k.om.look (t.base % 32) = some old →
        ∃ u new, exec (.mstaComplete g o.id) s = .next u ∧ EngineDone g o s u ∧ u.mem = s.mem ∧
          (u.core g.coreRef).om.look (t.base % 32) = some new ∧ new.tag = old.tag ∧ new.team = old.team ∧
          (∀ i, i ≠ t.base % 32 → (u.core g.coreRef).om.look i = k.om.look i) ∧ (u.core g.coreRef).ac = k.ac ∧
          (∀ i j, i < 64 → j < 256 → new.byte i j =
            if x.r ≤ i ∧ i < x.r + x.rows ∧ z * x.c ≤ j ∧ j < z * (x.c + x.cols) then byte (i - x.r) j % 256
            else if clear then 0 else old.byte i j) ∧
          ∀ y, status u y ↔ status s y ∨ set y)) ∧
    (∀ b a q t v, o.kind = .attn b a q t v → t.cols = 64 ∨ t.cols = 128 →
      (∃ u, exec (.attnComplete g o.id true true) s = .next u ∧
        failed u (16 ||| 2 ^ (16 + b) ||| (if t.cols = 128 then 2 ^ (17 + b) else 0))) ∧
      (t.loc = 1 → v.loc = 1 → 1 ≤ t.fmt → t.fmt ≤ 4 → 1 ≤ v.fmt → v.fmt ≤ 4 →
      (∀ j, j < t.cols / 64 → (k.ac.look (b + j)).isSome = true) →
      let h := t.cols
      let n := t.valid
      let val (w : Word) : FVal := fmt32.val w.toNat
      let mul (x y : Word) : Word := BitVec.ofNat 32 (fmt32.mul 0 (val x) (val y)).bits
      let add (x y : Word) : Word := BitVec.ofNat 32 (fmt32.add 0 (val x) (val y)).bits
      let sub (x y : Word) : Word := BitVec.ofNat 32 (fmt32.sub 0 (val x) (val y)).bits
      let exp (x : Word) : Word := BitVec.ofNat 32 (exp2c x.toNat).bits
      let max (x y : Word) : Word := BitVec.ofNat 32 (fmt32.minmax true x.toNat y.toNat).bits
      let bf16 (x : Word) : FVal := fmtB16.val (fmtB16.cvt 0 (val x)).bits
      -- element (j, e) of a tile
      let elem (d : Td) (j e : Nat) : FVal := (fmtOf d.fmt).val (((List.range (elemSize d.fmt)).map (fun x =>
        (seen.vbyte g (d.addr (d.offset j (elemSize d.fmt * e + x)))).toNat * 256 ^ x)).sum)
      -- products of f and y over an index below len, 32 at a time, added to w
      let chunks (w : Word) (len : Nat) (f y : Nat → FVal) : Word := (List.range ((len + 31) / 32)).foldl (fun w p =>
        let is := (List.range (min 32 (len - 32 * p))).map (fun i => 32 * p + i)
        accumulate w (chunkSum (is.map f) (is.map y))) w
      let sc : Word := BitVec.ofNat 32 q.scale
      let m0 (i : Nat) : Word := (ac b).m.get 0xFF800000 i
      let l0 (i : Nat) : Word := (ac b).l.get 0 i
      let o0 (i c : Nat) : Word := k.tileWord b i c
      let Q (i e : Nat) : FVal := (om a).elem q i e
      let score (i j : Nat) : Word := mul sc (chunks 0 h (Q i) (elem t j))
      let mx (i : Nat) : Word := (List.range n).foldl (fun x j => max x (score i j)) (m0 i)
      let alpha (i : Nat) : Word := if mx i = 0xFF800000 then 0x3F800000 else exp (sub (m0 i) (mx i))
      let p (i j : Nat) : Word := if mx i = 0xFF800000 then 0 else exp (sub (score i j) (mx i))
      let l1 (i : Nat) : Word := (List.range n).foldl (fun x j => add x (p i j)) (mul (alpha i) (l0 i))
      let o1 (i c : Nat) : Word := chunks (mul (alpha i) (o0 i c)) n (fun j => bf16 (p i j)) (fun j => elem v j c)
      -- R231: an input of row i is as given
      let input (i : Nat) (is : FVal → Prop) (isMax : Prop) : Prop :=
        (∃ e, e < h ∧ is (Q i e)) ∨ (∃ j e, j < n ∧ e < h ∧ (is (elem t j e) ∨ is (elem v j e))) ∨ is (val sc) ∨ isMax ∨
          is (val (l0 i)) ∨ ∃ c, c < h ∧ is (val (o0 i c))
      let nan (x : FVal) : Prop := x = .nan
      let inf (x : FVal) : Prop := ∃ n, x = .inf n
      ∃ u, exec (.attnComplete g o.id false false) s = .next u ∧ EngineDone g o s u ∧ u.mem = s.mem ∧
        let y := u.core g.coreRef
        (y.ac.get (AcSlot.fresh 0) b).h = h ∧
        (n = 0 → (u.grp g).estatus = (s.grp g).estatus ∧ ∀ i e, y.tileWord b i e = k.tileWord b i e ∧
          (y.ac.get (AcSlot.fresh 0) b).m = (ac b).m ∧ (y.ac.get (AcSlot.fresh 0) b).l = (ac b).l) ∧
        (0 < n → (∀ i e, i < 64 → e < h → (y.ac.get (AcSlot.fresh 0) b).m.get 0xFF800000 i = mx i ∧
            (y.ac.get (AcSlot.fresh 0) b).l.get 0 i = l1 i ∧ y.tileWord b i e = o1 i e) ∧
          (status u 0 ↔ status s 0 ∨ ∃ i, i < 64 ∧ ¬input i nan (nan (val (m0 i))) ∧
            ((∃ j, j < n ∧ (nan (val (score i j)) ∨ nan (val (p i j)))) ∨ nan (val (l1 i)) ∨ ∃ c, c < h ∧ nan (val (o1 i c)))) ∧
          (status u 1 ↔ status s 1 ∨ ∃ i, i < 64 ∧
            ¬input i (fun x => nan x ∨ inf x) (m0 i ≠ 0xFF800000 ∧ (nan (val (m0 i)) ∨ inf (val (m0 i)))) ∧
            ((∃ j, j < n ∧ inf (val (score i j))) ∨ inf (val (l1 i)) ∨ ∃ c, c < h ∧ inf (val (o1 i c)))) ∧
          (∀ x, x ≠ 0 → x ≠ 1 → (status u x ↔ status s x))))) ∧
    (∀ a t r c h, o.kind = .attnf a t r c h → t.fmt ≤ 4 → s.ownedBefore o = false →
      let x := t.rect r 64 c h
      let z := elemSize t.fmt
      let out := fun i e : Nat => attnfElem t.fmt (k.tileWord a i e) ((ac a).l.get 0 i)
      s.laidOut g t true x →
      ∃ u, exec (.attnfComplete g o.id) s = .next u ∧ EngineDone g o s u ∧ (u.core g.coreRef).ac = k.ac ∧
        WritesTensor g t x (fun i b => (out i (b / z - c)).bits / 256 ^ (b % z)) s u ∧
        ∀ y, status u y ↔ status s y ∨ ∃ i e, i < x.rows ∧ e < x.cols ∧ (out i e).st.testBit y = true) ∧
    (∀ a h, o.kind = .attnz a h → ∃ u, exec (.attnzComplete g o.id) s = .next u ∧ EngineDone g o s u ∧ u.mem = s.mem ∧
      (u.core g.coreRef).ac.look a = (k.ac.look a).map (fun x => ⟨x.team, [], [], [], 64⟩) ∧
      (h = 128 → (u.core g.coreRef).ac.look (a + 1) = (k.ac.look (a + 1)).map (fun x => { x with words := [] })) ∧
      (∀ i, i ≠ a → h ≠ 128 ∨ i ≠ a + 1 → (u.core g.coreRef).ac.look i = k.ac.look i))

/-- 12 R234-R240, 27 R391-R394. An engine's lines are owned from its issue on (log 70); a copy's reads and writes stand at its
completion events (log 73), a remote owner's answer is an input (log 83), and the part's own number loops back (log 119). -/
def Obligations.CopiesRun : Prop :=
  (∀ (s : State) (a b c d : Nat), s.plain = true → s.full s.flagB = false →
    let k := s.cap c
    let src := s.sreg d
    let dst := s.sreg b
    let n := (s.sreg a).toNat
    let t := s.td a
    let rows := s.rowLanes d
    let f := (s.sreg b).toNat
    let touched := t.touched ⟨f, min t.rows (f + rows.length * k.bs) - f, 0, t.cols⟩
    let rowsOf := t.touched ⟨0, min t.rows rows.length, 0, t.cols⟩
    let fab := fun sc : Bool =>
      (⟨sc, k.table, k.len, k.gatherRow, k.shard, (List.range k.nown).map k.own, k.win, t, rows, rows.length, [], []⟩ : FabOp)
    (∀ e, s.capErr c [1] = some e → Traps (.cpy a b c d) causeCap (BitVec.ofNat 64 e) 0 4 s) ∧
    (s.capErr c [1] = none → (cpyChecks src dst n s).all (fun x => !x.1) = true →
      (n = 0 → CopiesNothing (.cpy a b c d) k.ch false s) ∧
      (0 < n → StartsCopy (.cpy a b c d) (rangeCharge src n + rangeCharge dst n)
        (s.ownLines s.cur.g (rangeLines dst n)) k.rel (.cpy k.ch src dst n) k.ch k.ch false s)) ∧
    (s.capErr c [2] = none → d < s.me.regalloc → d < 64 → s.tdFine t (t.badShape [0, 1, 2, 3, 4, 5, 6, 7, 8, 9]) true touched = true →
      badRows t k.blockRow = false → f < 2 ^ 32 → s.myTask.leased k.table.toNat (8 * k.len) = true →
      (rows = [] → CopiesNothing (.blkcpy a b c d) k.ch true s) ∧
      (rows ≠ [] → StartsCopy (.blkcpy a b c d) 0 (s.ownLines s.cur.g (t.lines touched)) k.rel
        (.blkcpy k.ch ⟨k.table, k.len, k.bs, k.blockRow, t, f, rows, 0, none, []⟩) k.ch k.ch true s)) ∧
    (∀ sc : Bool, s.capErr c [3] = none → d < s.me.regalloc → d < 64 →
      s.tdFine t (t.badShape [0, 1, 2, 3, 4, 5, 6, 7, 8, 9]) (!sc) rowsOf = true → badRows t k.gatherRow = false →
      let i : Instr := if sc then .scatterf a c d else .gatherf a c d
      (rows = [] → CopiesNothing i (4 + k.ch) true s) ∧
      (rows ≠ [] → StartsCopy i 0
        (s.ownLines s.cur.g (if sc then s.scatterLines (fab sc) else t.lines rowsOf)) k.rel
        (.fabric k.ch (fab sc)) k.ch (4 + k.ch) true s)) ∧
    (s.capErr c [1, 2, 3] = none →
      let key := if k.kind = 3 then 4 + k.ch else k.ch
      Issues (.cpywp c d) 1 0 s.flagB 0 (.cpywp d (match s.me.copies.look key with
        | some p => BitVec.ofNat 64 (p.lmask.toNat * 2 ^ 32 + (if p.done then 2 ^ 31 else 0) + (if p.blk then 2 ^ 30 else 0) +
            (if p.trunc then 2 ^ 29 else 0) + (if p.bad then 2 ^ 28 else 0) + p.progress % 2 ^ 28)
        | none => 0) ((s.me.copies.look key).map CopyProg.op)) s)) ∧
  (∀ (s : State) (g : SlotRef) (o : Op) (d : Nat) (w : DWord) (copy : Option Nat), s.hasCtx ⟨g, o.ctx⟩ = true →
    (s.grp g).findOp o.id = some o → o.kind = .cpywp d w copy →
    ∃ t, exec (.cpywpResult g o.id) s = .next t ∧ (t.grp g).findOp o.id = none ∧ t.mem = s.mem ∧
      ((t.grp g).ctx o.ctx).sreg d = (if d = 0 then 0 else w) ∧
      (∀ r, r ≠ d → ((t.grp g).ctx o.ctx).sreg r = ((s.grp g).ctx o.ctx).sreg r)) ∧
  (∀ (s : State) (g : SlotRef) (o : Op) (ch : Nat) (p : CopyProg),
    let seen := s.seenBy (copyReader g o)
    let skip := fun r : RowLane => p.lmask ||| maskOf (fun l => decide (l = r.lane))
    (∀ src dst len n, o.kind = .cpy ch src dst len → s.copyReady g o ch ch p → len % 4 = 0 → src.toNat % 4 = 0 →
      dst.toNat % 4 = 0 →
      let m := if len ≤ n ∨ inSpw dst = true then min len (n / 4 * 4) else (dst.toNat + n / 4 * 4) / 64 * 64 - dst.toNat
      let at_ := fun (u : State) (a : DWord) (i : Nat) => u.placeOf g (a + BitVec.ofNat 64 i)
      let mine := fun i : Nat => i < m
      0 < m → inSpw src = true ∨ s.checkRange g src m false = .ok → inSpw dst = true ∨ s.checkRange g dst m true = .ok →
      let apart := fun x : Nat => ∀ i y, i < m → at_ s dst i = some y → x ≠ y ∧ (isPhys x = true → x / 64 ≠ y / 64)
      s.Placed mine (fun u i => at_ u dst i) → (∀ i x, i < m → at_ seen src i = some x → apart x) →
      -- no translation of the source stands on the lines written
      (∀ b : SMap Byte, (∀ q, apart q → ({ s with mem := b } : State).byte q = seen.byte q) →
        ∀ i, i < m → at_ { s with mem := b } src i = at_ seen src i) →
      ∃ t, exec (.copyComplete g o.id n []) s = .next t ∧
        CopySettles g o ch ch (if m = len then none else some (fun _ => .cpy ch (src + BitVec.ofNat 64 m) (dst + BitVec.ofNat 64 m)
          (len - m))) { p with progress := p.progress + m } s t ∧
        WritesBytes m (at_ s dst) (fun i => seen.vbyte g (src + BitVec.ofNat 64 i)) s t) ∧
    (∀ (b : BlkOp) (r : RowLane) (n : Nat), o.kind = .blkcpy ch b → s.copyReady g o ch ch p →
      b.rows[b.done / b.bs]? = some r → 0 < b.bs → 0 < n →
      let all := b.rows.length * b.bs
      -- one step settles k positions
      let alone := fun k : Nat => (b.td.lineRows = true ∧ n = 1) ∨ all ≤ b.done + k
      let goes := fun (k : Nat) (src : Option DWord) (p : CopyProg) (t : State) =>
        CopySettles g o ch ch (if all ≤ b.done + k then none else
          some (fun seen => .blkcpy ch { b with done := b.done + k, src := src, seen := seen })) p s t
      let e := b.table + BitVec.ofNat 64 (8 * r.idx)
      let a := b.src.getD (BitVec.ofNat 64 (s.vatomic (copyReader g o) g e 8))
      let bad : Bool := !canonical a || decide (a.toNat % 16 ≠ 0) || decide (2 ^ 64 ≤ a.toNat + b.bs * b.rowBytes)
      let pos := b.f + b.done
      let src := a + BitVec.ofNat 64 (b.done % b.bs * b.rowBytes)
      let keep := if (b.done + 1) % b.bs = 0 then none else some a
      let place := fun (u : State) (j : Nat) => u.rowPlace g b.td pos j
      (b.src = none → alone b.bs → b.len ≤ r.idx → ∃ t, exec (.copyComplete g o.id n []) s = .next t ∧ t.mem = s.mem ∧
        goes b.bs none { p with progress := p.progress + b.bs, lmask := skip r } t) ∧
      (b.src = none → alone b.bs → r.idx < b.len → s.checkRange g e 8 false = .ok → bad = true →
        ∃ t, exec (.copyComplete g o.id n []) s = .next t ∧ t.mem = s.mem ∧
          goes b.bs none { p with progress := p.progress + b.bs, lmask := skip r, bad := true } t) ∧
      (b.src ≠ none ∨ (r.idx < b.len ∧ s.checkRange g e 8 false = .ok ∧ bad = false) → alone 1 →
        (b.td.rows ≤ pos → ∃ t, exec (.copyComplete g o.id n []) s = .next t ∧ t.mem = s.mem ∧
          goes 1 keep { p with progress := p.progress + 1, trunc := true } t) ∧
        (pos < b.td.rows → (s.task (s.grp g).task).leased src.toNat b.rowBytes = true → s.checkRange g src b.rowBytes false = .ok →
          s.runsNow g b.td true (b.td.runs pos 0 b.rowBytes) = .ok → s.Placed (fun j : Nat => j < b.rowBytes) place →
          ∃ t, exec (.copyComplete g o.id n []) s = .next t ∧ goes 1 keep { p with progress := p.progress + 1 } t ∧
            WritesBytes b.rowBytes (place s) (fun j => seen.vbyte g (src + BitVec.ofNat 64 j)) s t)) ∧
      -- rows that share lines settle together
      (b.td.lineRows = false → ∀ k, exec (.copyComplete g o.id k []) s = exec (.copyComplete g o.id n []) s)) ∧
    (∀ (f : FabOp) (r : RowLane), o.kind = .fabric ch f → s.copyReady g o ch (4 + ch) p → r ∈ f.rows →
      (∀ q ∈ f.rows, q.pos = r.pos → q = r) → f.buffer = [] →
      let rest := f.rows.filter (fun q => q != r)
      let q0 : CopyProg := { p with progress := (rest.map RowLane.pos).foldl min f.total }
      let goes := fun (q : CopyProg) (t : State) =>
        CopySettles g o ch (4 + ch) (if rest = [] then none else some (fun seen => .fabric ch { f with rows := rest, seen := seen }))
          q s t
      let owner := f.own.getD (r.idx / 2 ^ f.shard % max 1 f.own.length) 0
      let here := f.base + BitVec.ofNat 64 (r.idx * f.rowBytes)
      let k := s.task (s.grp g).task
      let bytes := (List.range f.rowBytes).map (fun j => seen.vbyte g (f.td.addr (f.td.offset r.pos j)))
      let place := fun j : Nat => s.rowPlace g f.td r.pos j
      let refused : CopyProg := { q0 with lmask := skip r, bad := true }
      (∀ xs, f.len ≤ r.idx → ∃ t, exec (.copyComplete g o.id r.pos xs) s = .next t ∧ t.mem = s.mem ∧
        goes { q0 with lmask := skip r } t) ∧
      (∀ xs, r.idx < f.len → f.td.rows ≤ r.pos → ∃ t, exec (.copyComplete g o.id r.pos xs) s = .next t ∧ t.mem = s.mem ∧
        goes { q0 with trunc := true } t) ∧
      -- a scatter lane waits for lower lanes of its row
      (f.scatter = true → r.idx < f.len → r.pos < f.td.rows → (∃ q ∈ f.rows, q.idx = r.idx ∧ q.pos < r.pos) →
        ∀ xs, exec (.copyComplete g o.id r.pos xs) s = .next s) ∧
      (r.idx < f.len → r.pos < f.td.rows → (f.scatter = true → ∀ q ∈ f.rows, q.idx = r.idx → r.pos ≤ q.pos) →
        s.runsNow g f.td (!f.scatter) (f.td.runs r.pos 0 f.rowBytes) = .ok →
        (∀ i, i < f.rowBytes → (place i).isSome = true ∧ ∀ j, j < f.rowBytes → place i = place j → i = j) →
        -- its lines are not those of rows that remain
        s.ownLines g (f.shares r f.scatter) = [] →
        (owner ≤ 3 → badRange here f.rowBytes = false → k.leased here.toNat f.rowBytes = true →
          (f.scatter = false → s.checkRange g here f.rowBytes false = .ok →
            ∃ t, exec (.copyComplete g o.id r.pos []) s = .next t ∧ goes q0 t ∧
              WritesBytes f.rowBytes place (fun j => seen.vbyte g (here + BitVec.ofNat 64 j)) s t) ∧
          (f.scatter = true → k.writable here.toNat f.rowBytes = false →
            ∃ t, exec (.copyComplete g o.id r.pos []) s = .next t ∧ t.mem = s.mem ∧ goes refused t) ∧
          (f.scatter = true → k.writable here.toNat f.rowBytes = true → s.checkRange g here f.rowBytes true = .ok →
            ∃ t, exec (.copyComplete g o.id r.pos []) s = .next t ∧ goes q0 t ∧
              ∀ q, t.byte q = (s.writePlaces (s.rangePlaces g here f.rowBytes) bytes).byte q)) ∧
        (3 < owner →
          (s.portDown owner = true → ∃ t, exec (.copyComplete g o.id r.pos []) s = .next t ∧ t.mem = s.mem ∧ goes refused t) ∧
          (isOwnPeer (owner % 0x8000) = true →
            (s.loopback f r = none → exec (.copyComplete g o.id r.pos []) s = .next s) ∧
            (∀ ps, s.loopback f r = some (.refused, ps) → ∃ t, exec (.copyComplete g o.id r.pos []) s = .next t ∧ t.mem = s.mem ∧
              goes refused t) ∧
            (∀ bs ps, f.scatter = false → s.loopback f r = some (.data bs, ps) → bs.length = f.rowBytes →
              ∃ t, exec (.copyComplete g o.id r.pos []) s = .next t ∧ goes q0 t ∧
                WritesBytes f.rowBytes place (fun j => bs.getD j 0) s t) ∧
            (∀ ps, f.scatter = true → s.loopback f r = some (.done, ps) →
              ∃ t, exec (.copyComplete g o.id r.pos []) s = .next t ∧ goes q0 t ∧ t.mem = (s.writePlaces ps bytes).mem)) ∧
          (isOwnPeer (owner % 0x8000) = false → s.portDown owner = false →
            (∃ t, exec (.copyComplete g o.id r.pos [.refused]) s = .next t ∧ t.mem = s.mem ∧ goes refused t) ∧
            (f.scatter = true → ∃ t, exec (.copyComplete g o.id r.pos [.done]) s = .next t ∧ t.mem = s.mem ∧ goes q0 t) ∧
            (∀ bs, f.scatter = false → bs.length = f.rowBytes →
              ∃ t, exec (.copyComplete g o.id r.pos [.data bs]) s = .next t ∧ goes q0 t ∧
                WritesBytes f.rowBytes place (fun j => bs.getD j 0) s t))))))

/-- 11 R223-R226. A misaligned offset is reported before one out of range: the model's choice (log 114). Which quarters share a pass is an
input (log 31). -/
def Obligations.ConstantMatrixVector : Prop :=
  (∀ (s : State) (c d b ni no form : Nat), s.plain = true → form < 3 → s.full s.flagA = false →
    let i : Instr := if form = 0 then .qmv c d b ni no else if form = 1 then .qmva c d b ni no else .qmvb c d b ni no
    let nin := 4 * (ni + 1)
    let nout := 4 * (no + 1)
    let off := (s.sreg b).toNat
    let size := if form = 2 then 2 else 4
    let fits := s.vAll [⟨4 * c, nout, 4⟩, ⟨4 * d, nin, 4⟩]
    (fits = false → Traps i causeIllegal 3 0 4 s) ∧
    (fits = true → off % 4 ≠ 0 → Traps i causeMisalign 1 (s.sreg b) 4 s) ∧
    (fits = true → off % 4 = 0 → 131072 < off + size * nin * nout → Traps i causeAddr 1 (s.sreg b) 4 s) ∧
    (fits = true → off % 4 = 0 → off + size * nin * nout ≤ 131072 → s.active = 0 →
      ∃ t, exec i s = .next t ∧ Paid 2 0 s t ∧ (t.grp s.cur.g).ops = s.me.ops ∧ (t.grp s.cur.g).v = s.me.v ∧
        t.ctx.pc = s.ctx.pc + 4 ∧ t.mem = s.mem) ∧
    (fits = true → off % 4 = 0 → off + size * nin * nout ≤ 131072 → s.active ≠ 0 →
      ∃ q : QmvOp, Issues i 2 0 s.flagA 0 (.qmv q) s ∧ q.nin = nin ∧ q.nout = nout ∧ q.d = 4 * c ∧ q.a = 4 * d ∧
        q.off = off ∧ q.form = form ∧ q.lanes = s.active ∧ q.trapnf = s.me.trapnf ∧ q.out = [] ∧ q.ev = [] ∧
        q.quarters = (List.range 4).filter (fun k => decide (s.active.extractLsb' (8 * k) 8 ≠ 0)) ∧
        (∀ r l, l < 32 → inMask s.active l = true →
          (4 * d ≤ r ∧ r < 4 * d + nin) ∨ (form = 1 ∧ 4 * c ≤ r ∧ r < 4 * c + nout) →
          q.src.get 0 (32 * r + l) = s.me.vreg r l))) ∧
  (∀ (s : State) (g : SlotRef) (o : Op) (q : QmvOp), s.hasCtx ⟨g, o.ctx⟩ = true → (s.grp g).findOp o.id = some o →
    o.kind = .qmv q → o.gate = false → q.quarters.Nodup →
    let own := s.ownsConst g.coreRef (s.grp g).task
    let size := if q.form = 2 then 2 else 4
    let weight := fun j i : Nat =>
      let x := if own then s.readN (2 ^ 61 + 2 ^ 20 * g.coreRef.key + (q.off + size * (j * q.nin + i))) size else 0
      if q.form = 2 then fmtB16.val x else fmt32.val x
    let start := fun l j : Nat => if q.form = 1 then (q.src.get 0 (32 * (q.d + j) + l)).toNat else 0x80000000
    let chain := fun l j : Nat => (List.range q.nin).foldl (fun (t : FRes) i =>
      let r := fmt32.fma 0 (weight j i) (fmt32.val (q.src.get 0 (32 * (q.a + i) + l)).toNat) (some (fmt32.val t.bits))
      ⟨r.bits, t.ev ||| r.ev⟩) ⟨start l j, 0⟩
    let ev := fun l : Nat => (List.range q.nout).foldl (fun e j => e ||| (chain l j).ev) 0
    let lane := fun l : Nat => inMask q.lanes l && q.quarters.elem (l / 8)
    let writes := fun t : State => (t.grp g).findOp o.id = none ∧ t.mem = s.mem ∧
      (∀ f, o.flag = some f → ((t.grp g).flag f).count = ((s.grp g).flag f).count - 1) ∧
      (∀ r l, l < 32 → (t.grp g).vreg r l =
        if q.d ≤ r ∧ r < q.d + q.nout ∧ lane l = true then BitVec.ofNat 32 (chain l (r - q.d)).bits else (s.grp g).vreg r l) ∧
      (∀ k, k < 6 → ((t.grp g).fpflags.getLsbD k = true ↔ (s.grp g).fpflags.getLsbD k = true ∨
        ∃ l, l < 32 ∧ lane l = true ∧ (ev l).getLsbD k = true)) ∧
      (t.core g.coreRef).totals.get 0 20 = (s.core g.coreRef).totals.get 0 20 + (if 2 ≤ q.quarters.length then 1 else 0)
    -- 04 R71: the first enabled class
    let cls := fun e : Ev =>
      let on (t e' : Nat) : Bool := q.trapnf.getLsbD t && e.getLsbD e'
      if on 3 3 then some 3 else if on 0 0 then some 0 else if on 2 2 then some 2 else if on 1 1 then some 1 else none
    let all := [(⟨⟨g, o.id⟩, q.quarters⟩ : QmvPart)]
    (q.trapnf = 0 → ∃ t, exec (.qmvQuarterComplete all) s = .next t ∧ writes t) ∧
    (q.trapnf ≠ 0 → s.mayIssue ⟨g, o.ctx⟩ = false ∧
      (∀ k, k ∈ q.quarters → (∃ j ∈ q.quarters, j ≠ k) →
        ∃ t, exec (.qmvQuarterComplete [⟨⟨g, o.id⟩, [k]⟩]) s = .next t ∧ (t.grp g).v = (s.grp g).v ∧
          (t.grp g).fpflags = (s.grp g).fpflags ∧ (t.grp g).flags = (s.grp g).flags ∧ (t.grp g).ctxs = (s.grp g).ctxs ∧
          t.mem = s.mem ∧ ∃ q1 : QmvOp, (t.grp g).findOp o.id = some { o with kind := .qmv q1 } ∧
            q1.quarters = q.quarters.filter (fun x => x != k)) ∧
      (q.out = [] → q.ev = [] → (∀ l, l < 32 → inMask q.lanes l = true → l / 8 ∈ q.quarters) → (s.grp g).ended = false →
        ((∀ l, l < 32 → inMask q.lanes l = true → cls (ev l) = none) →
          ∃ t, exec (.qmvQuarterComplete all) s = .next t ∧ writes t) ∧
        ((∃ l, l < 32 ∧ inMask q.lanes l = true ∧ cls (ev l) ≠ none) → (s.grp g).kind = .group → (s.grp g).handler = none →
          (s.task (s.grp g).task).l.lanehnd ≠ 0 →
          ∃ t h, exec (.qmvQuarterComplete all) s = .next t ∧ t.mem = s.mem ∧ (t.grp g).v = (s.grp g).v ∧
            (t.grp g).fpflags = (s.grp g).fpflags ∧ (t.grp g).flags = (s.grp g).flags ∧
            ((t.grp g).ctx o.ctx).stop = .laneTrap ∧ (t.grp g).held.look o.ctx = some h ∧ h.active = q.lanes ∧
            h.dest = q.d ∧ h.width = q.nout ∧
            (∀ l j, l < 32 → inMask q.lanes l = true → j < q.nout →
              h.results.get 0 (32 * j + l) = BitVec.ofNat 32 (chain l j).bits) ∧
            (∀ l, (∃ tr ∈ h.traps, tr.lane = l) ↔ l < 32 ∧ inMask q.lanes l = true ∧ cls (ev l) ≠ none) ∧
            (∀ tr ∈ h.traps, ∃ k, cls (ev tr.lane) = some k ∧ tr.cause = causeNonfinite ∧ tr.nfclass = k ∧
              tr.a = q.src.get 0 (32 * q.a + tr.lane) ∧
              tr.b = BitVec.ofNat 32 ((List.range q.nout).findIdx (fun j => (chain tr.lane j).ev.getLsbD k))))))) ∧
  (∀ (s : State) (c : CtxId) (h : Held) (o : Op) (q : QmvOp), s.hasCtx c = true → (s.grp c.g).held.look c.i = some h →
    h.op = some o → o.kind = .qmv q → q.quarters = [] → h.whole = false → h.rotate = 0 →
    let u := (s.completeHeld c false).grp c.g
    let word := fun l j : Nat => h.results.get 0 (32 * j + l)
    u.findOp o.id = none ∧ (∀ f, o.flag = some f → (u.flag f).count = ((s.grp c.g).flag f).count - 1) ∧
    (∀ l j, l < 32 → inMask h.active l = true → j < h.width → (∀ tr ∈ h.traps, tr.lane ≠ l) →
      u.vreg (h.dest + j) l = word l j) ∧
    (∀ l tr ws j, l < 32 → inMask h.active l = true → j < h.width → h.traps.find? (fun tr => tr.lane = l) = some tr →
      tr.patch = some ws → ws.length = 4 → tr.b.toNat / 4 * 4 + 4 ≤ h.width →
      u.vreg (h.dest + j) l =
        if tr.b.toNat / 4 * 4 ≤ j ∧ j < tr.b.toNat / 4 * 4 + 4 then ws.getD (j - tr.b.toNat / 4 * 4) 0 else word l j))

/-- 14 R250-R257, R259, R260. The quota's spill, which memory shows, has its order and layout from the model (log 32, 78). -/
def Obligations.Reorders : Prop :=
  (∀ (s : State) (align : Bool) (d k p n : Nat), s.plain = true → s.full s.flagB = false →
    let i : Instr := .reorder align d k p n
    let fits := s.vAll [⟨k, 1, 1⟩, ⟨p, n + 1, 1⟩]
    (fits = false → Traps i causeIllegal 3 0 4 s) ∧
    (fits = true → s.me.kind ≠ .group ∨ s.inHandler = true → Traps i causePriv 0 0 4 s) ∧
    (fits = true → s.me.kind = .group → s.inHandler = false → s.me.ctxs.length ≠ 1 ∨ s.me.records ≠ [] →
      s.ctx.stop = .running → exec i s = .next (s.deliver s.cur
        ⟨causeRfrag, BitVec.ofNat 64 (s.me.records.length * 256 + s.me.ctxs.length), 0, s.ctx.pc, s.ctx.clause, s.ctx.idx,
          false, false⟩)) ∧
    (fits = true → s.me.kind = .group → s.inHandler = false → s.me.ctxs.length = 1 → s.me.records = [] →
      Arrives (exec i s) ⟨k, p, n + 1, d, align⟩ (Group.raiseFlag s.flagB) s)) ∧
  (∀ (s : State) (c : CtxId) (a : ReorderArgs), ((s.grp c.g).ctx c.i).stop = .reorder a false →
    ({ s with cur := c } : State).plain = true → (s.grp c.g).kind = .group → (s.grp c.g).ctxs.length = 1 →
    (s.grp c.g).records = [] → Arrives (exec (.reorderArrive c) s) a id { s with cur := c }) ∧
  (∀ (s : State) (t : Nat), (s.teams.look t).isSome = true →
    ((s.team t).yieldPending = true → exec (.reorderCollectiveStart t) s = .next s) ∧
    (∀ n g i a, (s.team t).yieldPending = false → (s.team t).reordering = false → (s.team t).slots = [(n, .at g)] →
      (s.grp g).arrival = some (i, a) → (s.grp g).live ≠ 0 → (s.grp g).ended = false →
      (∀ u ∈ s.teams.keys, u ≠ t → (s.team u).clusterOf = (s.team t).clusterOf →
        (s.team u).yieldPending = true ∨ s.collectiveReady u = false) →
      let need := min (countMask (s.grp g).live) (s.task (s.team t).task).l.quota * (8 + 4 * a.n)
      s.madderUsed (s.team t).clusterOf + need ≤ 524288 →
      ∃ u, exec (.reorderCollectiveStart t) s = .next u ∧ (u.team t).reordering = true ∧ (u.team t).madder = need ∧
        (countMask (s.grp g).live ≤ (s.task (s.team t).task).l.quota → u.mem = s.mem)) ∧
    -- R253: the members' fields differ
    ((s.team t).yieldPending = false → (s.team t).reordering = false → (s.memberSlots t).length = (s.members t).length →
      (∀ g ∈ s.memberSlots t, (s.grp g).arrival.isSome = true) →
      (∀ u ∈ s.teams.keys, u ≠ t → (s.team u).clusterOf = (s.team t).clusterOf →
        (s.team u).yieldPending = true ∨ s.collectiveReady u = false) →
      s.madderUsed (s.team t).clusterOf + s.madderNeed t ≤ 524288 →
      let field := fun g : SlotRef => ((s.grp g).arrival.map Prod.snd).getD ⟨0, 0, 0, 0, false⟩
      ∀ f r, s.memberSlots t = f :: r →
        let bit := fun (b : Nat) (p : SlotRef → Bool) => if r.any p then b else 0
        let mask := bit 1 (fun g => decide ((field g).p ≠ (field f).p)) + bit 2 (fun g => decide ((field g).n ≠ (field f).n)) +
          bit 4 (fun g => decide ((field g).align ≠ (field f).align))
        mask ≠ 0 → exec (.reorderCollectiveStart t) s = .next (s.cancelArrivals t causeRmis mask)) ∧
    (∀ cause info : Nat, ((s.team t).slots.filterMap (fun e => match e.2 with
        | .at g => some g.key
        | _ => none)).Nodup →
      (∀ e ∈ (s.team t).slots, ∃ g, e.2 = .at g ∧ slotOfKey g.key = g ∧ (s.grp g).kind = .group ∧ (s.grp g).handler = none ∧
        (s.task (s.grp g).task).l.tvec ≠ 0) →
      let u := s.cancelArrivals t cause info
      (∀ b, (u.team b).ci = (s.team b).ci ∧ (u.team b).ct = (s.team b).ct) ∧ u.mem = s.mem ∧ (u.team t).reordering = (s.team t).reordering ∧
      ∀ e ∈ (s.team t).slots, ∀ g i a, e.2 = .at g → (s.grp g).arrival = some (i, a) →
        let x := (s.grp g).ctx i
        let w := u.grp g
        w.arrival = none ∧ w.trapCause = BitVec.ofNat 64 cause ∧ w.trapInfo = BitVec.ofNat 64 info ∧ w.trapAddr = 0 ∧
          w.trapPc = x.pc ∧ (w.ctx i).pc = (s.task (s.grp g).task).l.tvec ∧ (w.ctx i).stop = .running ∧
          w.flags = ((s.grp g).clearFlag (flagOf x.setB)).flags ∧ w.v = (s.grp g).v ∧
          ∃ h, w.handler = some h ∧ h.ctx = i ∧ h.pc = x.pc ∧ h.stop = .running) ∧
    ((s.team t).reordering = true →
      exec (.madderUncorrectable t) s = .next (s.endTask (s.team t).task causeDfault 0x12 0 0 0 0)) ∧
    ((s.team t).reordering = true → (s.members t).length = (s.memberSlots t).length →
      ((s.memberSlots t).map SlotRef.key).Nodup →
      ∀ align n, (∀ g ∈ s.memberSlots t, ∃ i a, (s.grp g).arrival = some (i, a) ∧ a.align = align ∧ a.n = n) →
      let xs := (s.members t).flatMap (s.threadsOf t)
      let count := (s.memberSlots t).length
      -- put j is the member and the lane of the j-th thread
      ∃ (u : State) (ys : List Thread) (put : Nat → Nat × Nat), exec (.reorderCollectiveComplete t) s = .next u ∧ ys.Perm xs ∧
        let y := fun j : Nat => ys.getD j ⟨0, 0, 0, [], 0⟩
        ys.Pairwise (fun x y => x.key < y.key ∨ (x.key = y.key ∧ x.tid ≤ y.tid)) ∧
        put 0 = (0, 0) ∧
        (∀ j, j + 1 < ys.length → put (j + 1) =
          if (put j).2 = 31 ∨ (align = true ∧ (y (j + 1)).key ≠ (y j).key ∧ ys.length - (j + 1) ≤ 32 * (count - (put j).1 - 1))
          then ((put j).1 + 1, 0) else ((put j).1, (put j).2 + 1)) ∧
        (u.team t).reordering = false ∧ (u.team t).madder = 0 ∧
        ((∀ m, m < count → ∃ j, j < ys.length ∧ (put j).1 = m) → u.mem = s.mem) ∧
        ∀ m g i a, (s.memberSlots t)[m]? = some g → (s.grp g).arrival = some (i, a) →
          let mine := (List.range ys.length).filter (fun j => decide ((put j).1 = m))
          let n := mine.length
          let w := u.grp g
          let c := w.ctx i
          let x := fun l : Nat => y (mine.getD l 0)
          (n = 0 → u.hasGrp g = false) ∧
          (n ≠ 0 → c.p0 = maskOf (fun l => decide (l < n)) ∧ c.stop = .running ∧ c.pc = ((s.grp g).ctx i).pc + 4 ∧
            (∀ l, l < n → w.teamThread.get 0 l = (x l).tt ∧ w.keys.get 0 l = BitVec.ofNat 32 (x l).key ∧
              w.origin.get 0 l = BitVec.ofNat 32 (x l).origin ∧ (∀ j, j < a.n → w.vreg (a.p + j) l = (x l).pay.getD j 0)) ∧
            (∀ r l, l < 32 → r < a.p ∨ a.p + a.n ≤ r → w.vreg r l = 0) ∧
            (∀ r l, w.qreg r l = 0 ∧ w.oreg r l = 0) ∧ (∀ k, w.p.get 0 k = 0) ∧ (∀ f, (w.flag f).count = 0) ∧
            (a.d ≠ 0 → c.sreg a.d = BitVec.ofNat 64 (x 0).key ∧
              c.sreg (a.d + 1) = (if ∀ l, l < n → (x l).key = (x 0).key then 1 else 0) ∧
              c.sreg (a.d + 2) = BitVec.ofNat 64 n) ∧
            (∀ r, a.d = 0 ∨ r < a.d ∨ a.d + 3 ≤ r → c.sreg r = ((s.grp g).ctx i).sreg r))))

/-- 16 R269, R275-R281, 19 R304, R307, 22 R343. Which free pool entry is taken is a free value (log 18). A grant lands at the end of a cycle
(log 55), a SPAWN task has its grid's GRIDID (log 56), firmware's policy may lower a declared allowance (log 110), and a handle with
bits outside its fields names no child (log 129): the model's choices. -/
def Obligations.LaunchesAndJoins : Prop :=
  (∀ (s : State) (a b c d : Nat), s.plain = true → s.full s.flagB = false → s.me.kind = .group →
    let at_ := s.sreg d
    let ctr := s.sreg b
    let off := (s.sreg b).toNat - Config.spwBase
    (s.me.gi ≠ 0 → Traps (.launch a b c d) causePriv 0 0 4 s) ∧
    (s.me.gi = 0 → at_.toNat % 64 ≠ 0 → Traps (.launch a b c d) causeMisalign 0x0A at_ 4 s) ∧
    (s.me.gi = 0 → at_.toNat % 64 = 0 → s.checkRange s.cur.g at_ 64 false = .ok →
      Issues (.launch a b c d) 16 0 s.flagB (s.obsSet 3) (.launch c at_ (s.sreg b) (s.sreg a)) s) ∧
    (at_.toNat % 32 ≠ 0 → Traps (.spawn a b c d) causeMisalign 0x0B at_ 4 s) ∧
    (at_.toNat % 32 = 0 → s.checkRange s.cur.g at_ 32 false = .ok → s.badCounter ctr = true →
      Traps (.spawn a b c d) causeAddr 0x0B ctr 4 s) ∧
    (at_.toNat % 32 = 0 → s.checkRange s.cur.g at_ 32 false = .ok → s.badCounter ctr = false →
      Issues (.spawn a b c d) 16 0 s.flagB (s.obsSet 3) (.spawn c at_ ctr (s.sreg a)) s) ∧
    ((∀ k, s.taskOfHandle (s.sreg c) = some k → (s.task k).parent ≠ some s.me.task) →
      Runs (.lwait c) 1 0 (fun g => g.goOn s.cur.i 4) s) ∧
    (∀ k, s.taskOfHandle (s.sreg c) = some k → (s.task k).parent = some s.me.task →
      Issues (.lwait c) 1 0 s.flagB 0 (.lwait k) s) ∧
    (s.badCounter ctr = true → Traps (.join b) causeAddr 0x0B ctr 4 s) ∧
    (s.badCounter ctr = false → s.readN (s.myTeam.spad off) 4 = 0 → s.me.findOp s.serial = none →
      ∃ t, exec (.join b) s = .next t ∧ Paid 1 0 s t ∧ t.ctx.stop = .running ∧ t.ctx.pc = s.ctx.pc + 4 ∧
        (t.grp s.cur.g).findOp s.serial = none ∧ t.mem = s.mem) ∧
    (s.badCounter ctr = false → s.readN (s.myTeam.spad off) 4 ≠ 0 → s.me.findOp s.serial = none →
      IssuesInto (.join s.serial) (.join b) 1 0 s.flagB 0 (.join off) s) ∧
    (∀ e, s.capErr c [5] = some e → Traps (.bgrant a b c d) causeCap (BitVec.ofNat 64 e) 0 4 s) ∧
    (s.capErr c [5] = none →
      let k := s.cap c
      let ni : Int := (s.sreg b).toNat
      let nt : Int := (s.sreg a).toNat
      ((s.sreg d = 0 ↔ k.scope ≠ 0) → Traps (.bgrant a b c d) causeCap 4 0 4 s) ∧
      ((s.sreg d = 0 ↔ k.scope = 0) → k.ins < ni ∨ k.bytesLeft < nt → Traps (.bgrant a b c d) causeCap 3 0 4 s) ∧
      ((s.sreg d = 0 ↔ k.scope = 0) → ni ≤ k.ins → nt ≤ k.bytesLeft →
        (s.grantTarget k.scope (s.sreg d) = none → Runs (.bgrant a b c d) 1 0 (fun g => g.goOn s.cur.i 4) s) ∧
        (∀ j, s.grantTarget k.scope (s.sreg d) = some j →
          ∃ t, exec (.bgrant a b c d) s = .next t ∧ Paid 1 0 s t ∧
            OnlyGroup s.cur.g (fun g => (g.addOp (s.newOp s.flagB 0 (.grant j ni nt))).goOn s.cur.i 4)
              (s.modTask s.me.task (fun x =>
                { x with caps := x.caps.upd c (fun q => { q with ins := q.ins - ni, bytesLeft := q.bytesLeft - nt }) })) t)))) ∧
  (∀ (s : State) (g : SlotRef) (o : Op) (j : Nat) (ni nt : Int), s.hasGrp g = true → (s.grp g).findOp o.id = some o →
    o.kind = .grant j ni nt → (s.tasks.look j).isSome = true →
    (s.landOp ⟨g, o.id⟩ = s.draw ∨ s.landOp ⟨g, o.id⟩ = s.draw.landGrant g o) ∧
      let t := s.landGrant g o
      (t.task j).pi = sat64 ((s.task j).pi + ni) ∧ (t.task j).pt = sat64 ((s.task j).pt + nt) ∧
        (t.grp g).findOp o.id = none ∧ t.mem = s.mem ∧ t.teams = s.teams ∧
        (∀ f, o.flag = some f → ((t.grp g).flag f).count = ((s.grp g).flag f).count - 1)) ∧
  (∀ (s : State) (g : SlotRef) (o : Op) (c : Nat) (desc x y : DWord), s.hasCtx ⟨g, o.ctx⟩ = true →
    s.released g o = true → (s.grp g).findOp o.id = some o → s.dead (s.grp g).task = false →
    let h := s.grp g
    let j := s.task h.task
    -- 22 R343: the descriptor's translation has gone
    let gone := fun (i : Instr) (info : DWord) => ∀ f, o.flag = some f → (h.flag f).err = none →
      ∃ u, exec i s = .next u ∧ (u.grp g).findOp o.id = none ∧ (u.grp g).ctxs = h.ctxs ∧ u.mem = s.mem ∧ u.tasks = s.tasks ∧
        u.teams = s.teams ∧ u.taskQueues = s.taskQueues ∧
        ((u.grp g).flag f).err = some ⟨causeAddr, info, desc, o.pc, o.clause, o.idx, false, false⟩
    let answered := fun (i : Instr) (v : DWord) => ∃ u, exec i s = .next u ∧ (u.grp g).findOp o.id = none ∧
      ((u.grp g).ctx o.ctx).sreg c = (if c = 0 then 0 else v) ∧ u.mem = s.mem ∧ u.tasks = s.tasks ∧ u.teams = s.teams ∧
      u.dies = s.dies ∧ u.taskQueues = s.taskQueues
    (o.kind = .launch c desc x y → s.asidMoves j.asid desc 64 = false →
      let d := descriptorOf (s.vbytes g desc 64)
      s.recordMoves j.asid d.krec = false →
      (s.readable g desc 64 = false → gone (.launchComplete g o.id) 0x0A) ∧
      (s.readable g desc 64 = true →
      (j.depth = 10 → answered (.launchComplete g o.id) (BitVec.ofNat 64 (2 ^ 63 + 2))) ∧
      (j.depth ≠ 10 → s.checkDescriptor j.asid d = none →
        answered (.launchComplete g o.id) (BitVec.ofNat 64 (2 ^ 63 + 4))) ∧
      (∀ r, j.depth ≠ 10 → s.checkDescriptor j.asid d = some r →
        (x.toInt < 0 ∨ y.toInt < 0 → answered (.launchComplete g o.id) (BitVec.ofNat 64 (2 ^ 63 + 3))) ∧
        (0 ≤ x.toInt → 0 ≤ y.toInt → s.freeEntry g.die = none →
          answered (.launchComplete g o.id) (BitVec.ofNat 64 (2 ^ 63 + 1))) ∧
        (∀ e, 0 ≤ x.toInt → 0 ≤ y.toInt → s.freeEntry g.die = some e →
          (j.d.quota ≤ s.childEntries g.die h.task →
            answered (.launchComplete g o.id) (BitVec.ofNat 64 (2 ^ 63 + 0x101))) ∧
          (s.childEntries g.die h.task < j.d.quota → (s.teams.look h.team).isSome = true → (s.team h.team).task ≠ s.serial →
            let gen := (s.die g.die).poolGen.get 0 e + 1
            ∃ u, exec (.launchComplete g o.id) s = .next u ∧ (u.grp g).findOp o.id = none ∧ u.mem = s.mem ∧
              ((u.grp g).ctx o.ctx).sreg c =
                (if c = 0 then 0 else BitVec.ofNat 64 (gen.toNat * 2 ^ 32 + g.die * 2 ^ 12 + e)) ∧
              (u.die g.die).pool.look e = some s.serial ∧ (u.die g.die).poolGen.get 0 e = gen ∧
              (u.team h.team).ci = sat64 ((s.team h.team).ci - x.toInt) ∧
              (u.team h.team).ct = sat64 ((s.team h.team).ct - y.toInt) ∧
              let n := u.task s.serial
              n.depth = j.depth + 1 ∧ n.pri = min d.pri j.pri ∧ n.asid = j.asid ∧ n.queue = j.queue ∧
                n.parent = some h.task ∧ n.issuer = some h.team ∧ n.spawn = false ∧ n.l = r.l ∧ n.leases = r.leases ∧
                n.caps = allowances s.serial j.queue r.caps ∧
                (∀ i q, r.caps.look i = some q → q.kind = 5 → (n.cap i).ins ≤ q.grantIns ∧ (n.cap i).bytesLeft ≤ q.grantBytes) ∧
                n.td = r.td ∧ n.phase = .created ∧ n.unplaced = d.teams ∧ n.unretired = d.teams ∧
                n.d.arg = d.arg ∧ n.d.quota = d.quota ∧
                n.pi = sat64 (x.toInt + r.l.ins) ∧ n.pt = sat64 (y.toInt + r.l.bytes)))))) ∧
    (o.kind = .spawn c desc x y → s.asidMoves j.asid desc 32 = false →
      let d := spawnOf (s.vbytes g desc 32)
      let q := g.die * 8 + g.core / 8
      let ctr := (s.team h.team).spad (x.toNat - Config.spwBase)
      (s.readable g desc 32 = false → gone (.spawnComplete g o.id) 0x0B) ∧
      (s.readable g desc 32 = true →
      (s.badSpawn h.task d = true → answered (.spawnComplete g o.id) (BitVec.ofNat 64 (2 ^ 63 + 4))) ∧
      (s.badSpawn h.task d = false → 256 ≤ (s.taskQueues.get [] q).length →
        answered (.spawnComplete g o.id) (BitVec.ofNat 64 (2 ^ 63 + 5))) ∧
      (s.badSpawn h.task d = false → (s.taskQueues.get [] q).length < 256 → (s.teams.look h.team).isSome = true →
        (s.team h.team).task ≠ s.serial →
        ∃ u, exec (.spawnComplete g o.id) s = .next u ∧ (u.grp g).findOp o.id = none ∧
          ((u.grp g).ctx o.ctx).sreg c = 0 ∧ u.taskQueues.get [] q = s.taskQueues.get [] q ++ [s.serial] ∧
          u.readN ctr 4 = (s.readN ctr 4 + 1) % 2 ^ 32 ∧ (∀ p, p < ctr ∨ ctr + 4 ≤ p → u.byte p = s.byte p) ∧
          (u.team h.team).ci = sat64 ((s.team h.team).ci - (y.toNat % 2 ^ 32 : Nat)) ∧
          (u.team h.team).ct = sat64 ((s.team h.team).ct - (y.toNat / 2 ^ 32 : Nat)) ∧
          let n := u.task s.serial
          n.spawn = true ∧ n.parent = some h.task ∧ n.issuer = some h.team ∧ n.phase = .created ∧ n.depth = j.depth ∧
            n.gridId = j.gridId ∧ n.l.entry = d.entry ∧ n.l.groups = 1 ∧ n.l.regs = 8 * d.regs ∧ n.l.barriers = 0 ∧
            n.l.spad = 0 ∧ n.l.wide = 0 ∧ n.l.grace = (if d.grace = 0 then j.l.grace else d.grace) ∧ n.d.arg = d.arg ∧
            n.leases = j.leases ∧ n.td = j.td ∧ n.unplaced = 1 ∧ n.unretired = 1 ∧ n.cluster = q ∧
            n.join = some (h.team, x.toNat - Config.spwBase) ∧
            n.pi = sat64 ((y.toNat % 2 ^ 32 : Nat) + j.l.ins) ∧ n.pt = sat64 ((y.toNat / 2 ^ 32 : Nat) + j.l.bytes)))))

/-- 20 R316-R322. That the L2 cycle of core cycle t is 2t/3 (log 66) and that an object is kept by the physical address of its first
line (log 63) are the model's readings. -/
def Obligations.MordantRequests : Prop :=
  (∀ (s : State) (a b c d : Nat), s.plain = true → s.full s.flagB = false →
    let obj := s.sreg d
    let flags := s.sreg a
    let i : Instr := .mreg a b c d
    (∀ e, s.capErr c [4] = some e → Traps i causeCap (BitVec.ofNat 64 e) 0 4 s) ∧
    (s.capErr c [4] = none →
      (flags &&& ~~~(0x833F : DWord) ≠ 0 → Traps i causeIllegal 2 0 4 s) ∧
      (flags &&& ~~~(0x833F : DWord) = 0 → obj.toNat % 64 ≠ 0 → Traps i causeMisalign 0x0C obj 4 s) ∧
      (flags &&& ~~~(0x833F : DWord) = 0 → obj.toNat % 64 = 0 →
        (flags.getLsbD 15 = true → Issues i 1 0 s.flagB 0 (.mreg obj (s.sreg b) flags c 0) s) ∧
        (∀ x, flags.getLsbD 15 = false →
          s.checkRange s.cur.g obj (64 * (flags.toNat % 64 + 1)) true = .ok →
          s.myTask.writable obj.toNat (64 * (flags.toNat % 64 + 1)) = true → s.xplain s.cur.g (va56 obj) = .hit x →
          s.checkTarget (s.sreg b) = .ok →
          Issues i 1 0 s.flagB 0 (.mreg obj (s.sreg b) flags c (x.phys (va56 obj))) s))) ∧
    Traps (.mreq 0 c d) causeIllegal 9 0 4 s ∧
    (a ≠ 0 → s.vAll [⟨c, 4, 1⟩] = false → Traps (.mreq a c d) causeIllegal 3 0 4 s) ∧
    (a ≠ 0 → s.vAll [⟨c, 4, 1⟩] = true →
      (s.active = 0 → Runs (.mreq a c d) 2 0 (fun g => g.goOn s.cur.i 4) s) ∧
      (s.active ≠ 0 → ∃ args : SMap DWord, Issues (.mreq a c d) 2 0 s.flagB 0x04 (.mreq a c obj args s.active 0) s ∧
        ∀ l, l < 32 → inMask s.active l = true → args.get 0 l = s.me.vreg (c + 1) l ++ s.me.vreg c l))) ∧
  (∀ (s : State) (g : SlotRef) (o : Op) (obj method flags : DWord) (cap key : Nat), s.hasGrp g = true →
    (s.grp g).findOp o.id = some o → o.kind = .mreg obj method flags cap key →
    let h := s.grp g
    let ends := fun u : State => (u.grp g).findOp o.id = none ∧ u.mem = s.mem ∧ (u.grp g).v = h.v ∧
      (∀ f, o.flag = some f → ((u.grp g).flag f).count = (h.flag f).count - 1)
    (flags.getLsbD 15 = true → s.objectOf h.task obj = none →
      ∃ u, exec (.mregSliceResult g o.id) s = .next u ∧ ends u ∧ u.mordant = s.mordant) ∧
    (∀ k m, flags.getLsbD 15 = true → s.objectOf h.task obj = some k → s.mordant.look k = some m → m.wave = none →
      m.opened = [] → m.closed = [] →
      ∃ u, exec (.mregSliceResult g o.id) s = .next u ∧ ends u ∧ u.mordant.look k = none ∧
        (∀ j, j ≠ k → u.mordant.look j = s.mordant.look j)) ∧
    (flags.getLsbD 15 = false → s.mordant.look key = none → s.sliceFailure h.task cap key = none →
      ∃ u, exec (.mregSliceResult g o.id) s = .next u ∧ ends u ∧
        (∀ j, j ≠ key → u.mordant.look j = s.mordant.look j) ∧
        ∃ m, u.mordant.look key = some m ∧ m.va = obj ∧ m.task = h.task ∧ m.cap = cap ∧ m.method = method ∧
          m.lines = flags.toNat % 64 + 1 ∧ m.aw64 = flags.getLsbD 8 ∧ m.rw64 = flags.getLsbD 9 ∧
          m.reg = (h.team, h.gi) ∧ m.poisoned = false ∧ m.opened = [] ∧ m.closed = [] ∧ m.wave = none) ∧
    (∀ sub f, flags.getLsbD 15 = false → s.sliceFailure h.task cap key = some sub → o.flag = some f →
      (h.flag f).err = none →
      ∃ u, exec (.mregSliceResult g o.id) s = .next u ∧ ends u ∧ u.mordant = s.mordant ∧
        ((u.grp g).flag f).err = some ⟨causeMord, BitVec.ofNat 64 sub, obj, o.pc, o.clause, o.idx, false, false⟩)) ∧
  (∀ (s : State) (g : SlotRef) (o : Op) (p c lane : Nat) (obj : DWord) (args : SMap DWord) (todo sent : Word),
    s.hasGrp g = true → (s.grp g).findOp o.id = some o → o.kind = .mreq p c obj args todo sent → lane < 32 →
    inMask todo lane = true → inMask sent lane = false → s.released g o = true → s.mreqBefore g o obj = false →
    canonical obj = true →
    (s.xplain g (va56 obj) = .missing ∨ (∃ x, s.xplain g (va56 obj) = .hit x ∧ s.mordant.look (x.phys (va56 obj)) = none) →
      ∃ u, exec (.mreqArrive g o.id lane) s = .next u ∧ u.mem = s.mem ∧ u.mordant = s.mordant ∧
        (∀ l, l < 32 → inMask ((u.grp g).p.get 0 p) l = (l != lane && inMask ((s.grp g).p.get 0 p) l)) ∧
        (u.grp g).v = (s.grp g).v ∧
        ((u.grp g).findOp o.id = none ↔ ∀ l, l < 32 → l ≠ lane → inMask todo l = false)) ∧
    (∀ x m, s.xplain g (va56 obj) = .hit x → s.mordant.look (x.phys (va56 obj)) = some m → m.poisoned = false →
      m.releasing = false → s.buffered (x.phys (va56 obj)) < 1024 →
      ∃ u n, exec (.mreqArrive g o.id lane) s = .next u ∧ u.mem = s.mem ∧ (u.grp g).v = (s.grp g).v ∧
        u.mordant.look (x.phys (va56 obj)) = some n ∧
        let r : MReq := ⟨g, o.id, lane, args.get 0 lane, s.tick⟩
        (m.opened = [] → n.opened = [r] ∧ n.since = s.tick ∧ n.closed = m.closed) ∧
        n.opened.length = m.opened.length + 1 ∧ r ∈ n.opened ∧ (∀ y ∈ m.opened, y ∈ n.opened) ∧ n.closed = m.closed)) ∧
  (∀ (m : Mordant) (tick : Nat),
    (m.opened.length = 32 → (m.settle tick).opened = [] ∧
      (m.settle tick).closed = m.closed ++ [⟨m.opened, m.method, m.lines, m.aw64, m.rw64⟩]) ∧
    (m.opened.length < 32 → tick * 2 / 3 < m.since * 2 / 3 + 64 → m.settle tick = m)) ∧
  (∀ (s : State) (key : Nat) (m : Mordant), s.mordant.look key = some m →
    (m.opened ≠ [] → m.since * 2 / 3 + 64 ≤ s.tick * 2 / 3 → ∃ u, exec (.mordantBatchClose key) s = .next u ∧
      u.mordant.look key = some { m with
        opened := [], closed := m.closed ++ [⟨m.opened, m.method, m.lines, m.aw64, m.rw64⟩] } ∧
      u.groups = s.groups ∧ u.mem = s.mem) ∧
    (s.tick * 2 / 3 < m.since * 2 / 3 + 64 → exec (.mordantBatchClose key) s = .next s))

/-- 20 R323-R328. -/
def Obligations.CombinerWaves : Prop :=
  (∀ (s : State) (c : Nat), s.plain = true →
    (s.full s.flagB = true → Traps .mdone causeIllegal 5 0 4 s) ∧
    (s.full s.flagB = false →
      Traps .mdone causePriv 0 0 4 s ∧ (s.vAll [⟨c, 1, 1⟩] = true → Traps (.mreply c) causePriv 0 0 4 s))) ∧
  (∀ (s : State) (key : Nat) (m : Mordant) (b : Batch) (r : List Batch) (g : SlotRef) (ls : List Nat),
    s.mordant.look key = some m → m.closed = b :: r → m.wave = none → s.combinerSlot key = some g →
    s.extentLines (s.task m.task).asid m.va b.lines = some ls → (∀ l ∈ ls, s.lineOwned l = false ∧ s.lineHeld l = false) → s.dead m.task = false →
    b.reqs.length ≤ 32 →
    ∃ u, exec (.combinerWaveStart key) s = .next u ∧ u.mem = s.mem ∧
      (∀ h : SlotRef, h.key ≠ g.key → u.grp h = s.grp h) ∧
      u.mordant.look key = some { m with closed := r, wave := some g, batch := b, heldLines := ls, held := [], zeros := [], replies := [] } ∧
      let w := u.grp g
      w.kind = .combiner key ∧ w.task = m.task ∧ w.regalloc = 64 ∧ (w.ctx 0).pc = b.method ∧ (w.ctx 0).sreg 1 = m.va ∧
        (w.ctx 0).sreg 2 = BitVec.ofNat 64 b.reqs.length ∧ (w.ctx 0).p0 = maskOf (fun l => decide (l < b.reqs.length)) ∧
        (∀ l q, b.reqs[l]? = some q → w.vreg 0 l = q.arg.setWidth 32 ∧
          w.vreg 1 l = BitVec.ofNat 32 (q.g.die * 2 ^ 30 + q.g.core * 2 ^ 24 + q.g.slot * 2 ^ 18 + q.lane * 2 ^ 13) ∧
          w.vreg 2 l = if b.aw64 = true then q.arg.extractLsb' 32 32 else 0)) ∧
  (∀ (s : State) (c key : Nat) (m : Mordant), s.here = true → s.me.kind = .combiner key → s.mordant.look key = some m →
    (s.vAll [⟨c, if m.batch.rw64 then 2 else 1, 1⟩] = true → s.full s.flagB = false →
      ∃ u n, exec (.mreply c) s = .next u ∧ u.mem = s.mem ∧ u.mordant.look key = some n ∧ u.ctx.pc = s.ctx.pc + 4 ∧
        (u.grp s.cur.g).v = s.me.v ∧ n.held = m.held ∧
        (∀ l, l < 32 → n.replies.get 0 l = if inMask s.active l = true then
            (if m.batch.rw64 then s.me.vreg (c + 1) l ++ s.me.vreg c l else (s.me.vreg c l).setWidth 64)
          else m.replies.get 0 l)) ∧
    (∀ (r : MReq) (o : Op) (p d : Nat) (obj : DWord) (args : SMap DWord) (todo sent : Word),
      s.full s.flagB = false → s.me.drained s.cur.i false = true → s.storeFault s.cur.g = none → s.me.engineErrs = [] → s.me.mordErrs = [] →
      (∀ f, f < 12 → (s.me.flag f).err = none) → m.wave = some s.cur.g → m.releasing = false → (m.held.map (·.1)).Nodup → m.batch.reqs = [r] →
      r.g.key ≠ s.cur.g.key → s.hasGrp r.g = true → (s.grp r.g).findOp r.op = some o → o.kind = .mreq p d obj args todo sent →
      r.lane < 32 →
      ∃ u, exec .mdone s = .next u ∧
        (∀ e ∈ m.held, u.byte e.1 = e.2) ∧ (∀ a, a ∉ m.held.map (·.1) → u.byte a = s.byte a) ∧
        u.hasGrp s.cur.g = false ∧
        u.mordant.look key = some { m with wave := none, heldLines := [], held := [], zeros := [], replies := [] } ∧
        inMask ((u.grp r.g).p.get 0 p) r.lane = true ∧
        (u.grp r.g).vreg (d + (if m.batch.aw64 then 2 else 1)) r.lane = (m.replies.get 0 0).setWidth 32 ∧
        (m.batch.rw64 = true → (u.grp r.g).vreg (d + (if m.batch.aw64 then 2 else 1) + 1) r.lane =
          (m.replies.get 0 0 >>> 32).setWidth 32))) ∧
  (∀ (s : State) (g : SlotRef) (key : Nat), (s.grp g).kind = .combiner key →
    (4096 ≤ (s.grp g).executed → (∃ e ∈ (s.grp g).ctxs, s.ready ⟨g, e.1⟩ = true) →
      exec (.combinerWaveLimit g) s = .next (s.abortWave key 0x13)) ∧
    ((s.grp g).executed < 4096 → exec (.combinerWaveLimit g) s = .next s)) ∧
  -- R327, R328: an abort
  (∀ (s : State) (key sub : Nat) (m : Mordant) (g : SlotRef), s.mordant.look key = some m → m.wave = some g → m.releasing = false →
    sub < 256 →
    let rs := m.batch.reqs ++ m.closed.flatMap Batch.reqs ++ m.opened
    (rs.map (fun r => (r.g.key, r.op, r.lane))).Nodup →
    (∀ r ∈ rs, r.lane < 32 ∧ r.g.key ≠ g.key ∧ s.hasGrp r.g = true ∧ ∃ o p d obj args todo sent,
      (s.grp r.g).findOp r.op = some o ∧ o.kind = .mreq p d obj args todo sent ∧ inMask todo r.lane = true) →
    let u := s.abortWave key sub
    let j := s.task m.task
    let next := s.io.fault.next
    u.hasGrp g = false ∧
      u.mordant.look key = some { m with
        poisoned := true, wave := none, opened := [], closed := [], heldLines := [], held := [], zeros := [], replies := [] } ∧
      (∀ i, i ≠ key → u.mordant.look i = s.mordant.look i) ∧
      -- no held byte is written
      (∀ q, q < next ∨ next + 64 ≤ q → u.byte q = s.byte q) ∧
      (s.ringOpen s.io.fault = true → s.io.fault.held = [] → u.readN (next + 24) 8 = m.va.toNat ∧
        u.readN next 8 = 0x10 + sub * 256 + j.asid % 65536 * 2 ^ 32 ∧ u.readN (next + 8) 8 = j.gridId.toNat) ∧
      (∀ r ∈ rs, ∀ o p d obj args todo sent, (s.grp r.g).findOp r.op = some o → o.kind = .mreq p d obj args todo sent →
        inMask ((u.grp r.g).p.get 0 p) r.lane = false) ∧
      (∀ r ∈ m.batch.reqs, ∀ o p d obj args todo sent, (s.grp r.g).findOp r.op = some o → o.kind = .mreq p d obj args todo sent →
        (u.grp r.g).vreg (d + (if m.batch.aw64 then 2 else 1)) r.lane = 0) ∧
      (∀ h, (s.team m.reg.1).slots.look m.reg.2 = some (.at h) → h.key ≠ g.key → s.hasGrp h = true →
        (u.grp h).mordErrs = (s.grp h).mordErrs ++ [⟨0x10, BitVec.ofNat 64 sub, m.va, 0, 0, 0, false, false⟩]))

/-- 27 R389, R396, 16 R282-R284. A loopback buffer uses the sender's depth, a peer's acceptance is the event itself, a lookup lands at
the end of a cycle, firmware's copy of the weights stands in the commit and the part's own number loops back (the model's choices,
log 34, 35, 55, 82, 105, 119); where a block holds the counts of what its save carries is its choice too (log 107). -/
def Obligations.ChannelsAndRoutes : Prop :=
  (∀ (s : State) (b c d : Nat), s.plain = true → s.full s.flagB = false →
    let issues := fun (i : Instr) (obs : BitVec 7) (k : OpKind) => ∃ t, exec i s = .next t ∧
      (t.team s.me.team).ci = sat64 ((s.team s.me.team).ci - 1) ∧
      (t.team s.me.team).ct = sat64 (sat64 (s.team s.me.team).ct - 192) ∧
      OnlyGroup s.cur.g (fun g => (g.addOp (s.newOp s.flagB obs k)).goOn s.cur.i 4) s t
    (s.vAll [⟨d, 1, 1⟩] = true →
      (∀ e, s.capErr c [6] = some e → Traps (.chsend c d) causeCap (BitVec.ofNat 64 e) 0 4 s) ∧
      (s.capErr c [6] = none → (s.cap c).dir ≠ 0 → Traps (.chsend c d) causeCap 2 0 4 s) ∧
      (s.capErr c [6] = none → (s.cap c).dir = 0 →
        issues (.chsend c d) (s.obsSet 5) (.chsend c ((List.range 32).map (fun l => s.me.vreg d l)) s.active))) ∧
    (s.vAll [⟨d, 2, 1⟩] = true →
      (∀ e, s.capErr c [6] = some e → Traps (.chrecv c d) causeCap (BitVec.ofNat 64 e) 0 4 s) ∧
      (s.capErr c [6] = none → (s.cap c).dir ≠ 1 → Traps (.chrecv c d) causeCap 2 0 4 s) ∧
      (s.capErr c [6] = none → (s.cap c).dir = 1 → issues (.chrecv c d) 0 (.chrecv c d s.active))) ∧
    (s.vAll [⟨d, 1, 1⟩, ⟨c, 1, 1⟩] = true → s.capErr b [7] = none →
      let k := s.cap b
      let x := fun l : Nat => (s.me.vreg d l).toNat
      ∃ rows old, Issues (.exproute b c d) 1 0 s.flagB 0 (.exproute c rows old) s ∧
        rows.map RouteLane.lane = lanesOf s.active ∧
        ∀ r ∈ rows, r.tid = (s.identity 0 r.lane).toNat ∧
          r.entry = (if x r.lane < k.routeLen then some (k.routeBase + x r.lane) else none) ∧
          ∀ n, r.entry = some n → SMap.look old n = some ((s.die s.cur.g.die).expert.get 0 n))) ∧
  (∀ (s : State) (g : SlotRef) (o : Op) (c : Nat) (rows : List RouteLane) (old : SMap DWord), s.hasGrp g = true →
    (s.grp g).findOp o.id = some o → o.kind = .exproute c rows old → (rows.map RouteLane.lane).Nodup →
    (s.landOp ⟨g, o.id⟩ = s.draw ∨ s.landOp ⟨g, o.id⟩ = s.draw.landRoute g o) ∧
    ((∀ r ∈ rows, r.lane < 32 ∧ ∀ n, r.entry = some n → SMap.look old n = some ((s.die g.die).expert.get 0 n)) →
      let e := fun r : RouteLane => (r.entry.map (fun n => ((s.die g.die).expert.get 0 n).toNat)).getD 0
      let t := s.landRoute g o
      t.mem = s.mem ∧ (t.grp g).findOp o.id = none ∧
        (∀ f, o.flag = some f → ((t.grp g).flag f).count = ((s.grp g).flag f).count - 1) ∧
        (∀ r ∈ rows, (t.grp g).vreg c r.lane =
          if 2 ^ 63 ≤ e r then BitVec.ofNat 32 (e r / 2 ^ (5 * (r.tid % (e r / 2 ^ 61 % 4 + 1))) % 32) else 0x80000000) ∧
        (∀ q l, l < 32 → q ≠ c ∨ l ∉ rows.map RouteLane.lane → (t.grp g).vreg q l = (s.grp g).vreg q l) ∧
        ((∀ r ∈ rows, e r < 2 ^ 63) → t.die g.die = s.die g.die) ∧
        (∀ r i, rows = [r] → r.entry = some i → 2 ^ 63 ≤ e r →
          let n := min (2 ^ 32 - 1) ((s.die g.die).counts.get 0 i + 1)
          let x := t.die g.die
          -- R284: the count reaches HOTTHR of an armed entry with room
          let hot : Prop := (s.die g.die).hotthr ≤ n ∧ e r / 2 ^ 60 % 2 = 1 ∧ e r / 2 ^ 61 % 4 < 3
          (hot → x.counts.get 0 i = 0 ∧ x.expert.get 0 i = BitVec.ofNat 64 (e r - 2 ^ 60) ∧
            (∀ j, j ≠ i → x.expert.get 0 j = (s.die g.die).expert.get 0 j) ∧ x.replicas = (s.die g.die).replicas ++ [i]) ∧
          (¬hot → x.counts.get 0 i = n ∧ x.expert = (s.die g.die).expert ∧ x.replicas = (s.die g.die).replicas)))) ∧
  (∀ (s : State) (g : SlotRef) (o : Op) (c d : Nat) (ws : List Word) (lanes : Word), s.hasGrp g = true →
    (s.grp g).findOp o.id = some o →
    let k := (s.task (s.grp g).task).cap c
    let key := 256 * (if isOwnPeer k.peer then 4095 else k.peer) + k.chan
    let ends := fun u : State => (u.grp g).findOp o.id = none ∧ u.teams = s.teams ∧
      ((∀ e ∈ (s.grp g).ctxs, ∀ w, e.2.stop ≠ .graceSaved w) → u.mem = s.mem) ∧
      (∀ f, o.flag = some f → ((u.grp g).flag f).count = ((s.grp g).flag f).count - 1) ∧
      (∀ h : SlotRef, h.key ≠ g.key → u.grp h = s.grp h)
    (o.kind = .chsend c ws lanes →
      (∀ f, isOwnPeer k.peer = false → peerPortOf k.peer ∈ s.io.down → o.flag = some f → ((s.grp g).flag f).err = none →
        ∃ u, exec (.chsendAccept g o.id) s = .next u ∧ ends u ∧ u.channels = s.channels ∧
          ((u.grp g).flag f).err = some ⟨causeCap, 5, 0, o.pc, o.clause, o.idx, false, false⟩) ∧
      (s.released g o = true → s.sendTurn key o.id = true →
        (isOwnPeer k.peer = true → (s.channels.get [] key).length < k.depth →
          ∃ u, exec (.chsendAccept g o.id) s = .next u ∧ ends u ∧
            u.channels.get [] key = s.channels.get [] key ++ [⟨ws, lanes⟩] ∧
            (∀ j, j ≠ key → u.channels.get [] j = s.channels.get [] j)) ∧
        (isOwnPeer k.peer = true → k.depth ≤ (s.channels.get [] key).length → exec (.chsendAccept g o.id) s = .next s) ∧
        (isOwnPeer k.peer = false → peerPortOf k.peer ∉ s.io.down →
          ∃ u, exec (.chsendAccept g o.id) s = .next u ∧ ends u ∧ u.channels = s.channels))) ∧
    (o.kind = .chrecv c d lanes → s.absentSaved g = true → exec (.chrecvDeliver g o.id) s = .next s) ∧
    (∀ m r, o.kind = .chrecv c d lanes → s.channels.get [] key = m :: r → s.recvsBefore key g o = false →
      s.absentSaved g = false → ∃ u, exec (.chrecvDeliver g o.id) s = .next u ∧ ends u ∧ u.channels.get [] key = r ∧
        (∀ j, j ≠ key → u.channels.get [] j = s.channels.get [] j) ∧
        (∀ q l, l < 32 → (u.grp g).vreg q l =
          if q = d ∧ inMask lanes l = true then (if inMask m.lanes l then m.words.getD l 0 else 0)
          else if q = d + 1 ∧ inMask lanes l = true then (if inMask m.lanes l then 1 else 0)
          else (s.grp g).vreg q l))) ∧
  (∀ (s : State) (g : SlotRef) (n c : Nat) (x : Carried) (ws : List Word) (lanes : Word), (s.grp g).findOp n = none →
    s.carried n = some x → x.op.kind = .chsend c ws lanes →
    let k := (s.task x.group.task).cap c
    let key := 256 * (if isOwnPeer k.peer then 4095 else k.peer) + k.chan
    isOwnPeer k.peer = true → s.sendTurn key x.op.id = true → (s.channels.get [] key).length < k.depth →
      s.teams.keys.Nodup → (s.team x.team).slots.keys.Nodup → (∀ e ∈ x.group.ctxs, e.1 < 4) →
      ∃ u h r, exec (.chsendAccept g n) s = .next u ∧ u.channels.get [] key = s.channels.get [] key ++ [⟨ws, lanes⟩] ∧
        u.groups = s.groups ∧ (u.team x.team).slots.look x.gi = some (.image h r) ∧ h.findOp n = none ∧
        (∀ f, x.op.flag = some f → (h.flag f).count = (x.group.flag f).count - 1) ∧
        (s.groupBlock x.team x.gi = none → u.mem = s.mem) ∧
        (∀ a, s.groupBlock x.team x.gi = some a → (∀ q, q < a + 124 ∨ a + 0xA00 ≤ q → u.byte q = s.byte q) ∧
          ∀ f, f < 12 → u.readN (a + 124 + f) 1 = (h.flag f).count % 256)) ∧
  (∀ (s : State) (task c : Nat) (ws : List Word) (lanes : Word),
    let k := (s.task task).cap c
    let key := 256 * (if isOwnPeer k.peer then 4095 else k.peer) + k.chan
    (k.kind = 6 → k.dir = 1 → isOwnPeer k.peer = false → peerPortOf k.peer ∉ s.io.down →
      (s.channels.get [] key).length < k.depth →
      ∃ u, exec (.channelMessageArrive task c ws lanes) s = .next u ∧
        u.channels.get [] key = s.channels.get [] key ++ [⟨ws, lanes⟩] ∧
        (∀ j, j ≠ key → u.channels.get [] j = s.channels.get [] j) ∧ u.groups = s.groups ∧ u.mem = s.mem) ∧
    (k.depth ≤ (s.channels.get [] key).length → exec (.channelMessageArrive task c ws lanes) s = .next s)) ∧
  (∀ (s : State) (die i : Nat),
    let e := (s.die die).expert.get 0 i
    let n := e.toNat / 2 ^ 61 % 4 + 1
    let idle : Prop := ∀ src dst len, Config.expertWeights die i = some (src, dst, len) →
      s.rangeBusy src len = false ∧ s.moving src len = false ∧ s.rangeBusy dst len = false ∧ s.moving dst len = false
    (¬idle → exec (.expertReplicaCommit die i) s = .next s) ∧
    (idle → i ∈ (s.die die).replicas → n ≤ 3 → ∃ u, exec (.expertReplicaCommit die i) s = .next u ∧
      let e' := (u.die die).expert.get 0 i
      e'.toNat / 2 ^ 61 % 4 = n ∧ e'.toNat / 2 ^ (5 * n) % 32 = e.toNat / 2 ^ 24 % 32 ∧
        (∀ b, b < 64 → b ≠ 61 → b ≠ 62 → b < 5 * n ∨ 5 * n + 5 ≤ b → e'.getLsbD b = e.getLsbD b) ∧
        (u.die die).replicas = (s.die die).replicas.erase i ∧ u.groups = s.groups) ∧
    (∀ src dst len, idle → i ∈ (s.die die).replicas → n ≤ 3 → Config.expertWeights die i = some (src, dst, len) → MemInv s →
      ∃ (v : State) (w : List DWord), exec (.expertReplicaCommit die i) s = .next (v.record false w) ∧
        ∀ j, j < len → v.byte (dst + j) = s.byte (src + j)) ∧
    (i ∉ (s.die die).replicas → exec (.expertReplicaCommit die i) s = .next s) ∧
    (∀ v : DWord, ∃ u, exec (.expertRoutingTableWrite die (.entry i v)) s = .next u ∧ u.mem = s.mem ∧
      (i < 8192 → (u.die die).expert.get 0 i = (v &&& 0xF00000001F0FFFFF)) ∧
      (∀ j, j ≠ i ∨ 8192 ≤ i → (u.die die).expert.get 0 j = (s.die die).expert.get 0 j)) ∧
    (∀ v : Nat, ∃ u, exec (.expertRoutingTableWrite die (.hotthr v)) s = .next u ∧ u.mem = s.mem ∧
      (u.die die).hotthr = v ∧ (u.die die).expert = (s.die die).expert)) ∧
  (∀ (s : State) (port : Nat),
    (port ∈ s.io.down ∨ 12 ≤ port → exec (.portDown port) s = .next s) ∧
    (port ∉ s.io.down → port < 12 → ∃ u, exec (.portDown port) s = .next u ∧ u.io.down = s.io.down ++ [port] ∧ u.tasks = s.tasks ∧
      u.channels = s.channels ∧
      (∀ h : SlotRef, (∀ o ∈ (s.grp h).ops, ∀ c ws lanes, o.kind = .chsend c ws lanes →
          isOwnPeer ((s.task (s.grp h).task).cap c).peer = true ∨ peerPortOf ((s.task (s.grp h).task).cap c).peer ≠ port) →
        (∀ o ∈ (s.grp h).ops, ∀ ch f, o.kind = .fabric ch f → f.behind port = []) → u.grp h = s.grp h)) ∧
    (∀ g o ch f r p, port ∉ s.io.down → port < 12 → slotOfKey g.key = g → s.groups.keys = [g.key] → (s.grp g).ops = [o] →
      o.kind = .fabric ch f → f.rows = [r] → f.behind port = [r] → s.copyReady g o ch (4 + ch) p →
      ∃ u, exec (.portDown port) s = .next u ∧
        CopyEnds g o ch (4 + ch)
          { p with progress := f.total, lmask := p.lmask ||| maskOf (fun l => decide (l = r.lane)), bad := true } s u) ∧
    (∃ u, exec (.portRetrain port) s = .next u ∧ u.groups = s.groups ∧ u.mem = s.mem ∧
      (∀ p, p ∈ u.io.down ↔ p ∈ s.io.down ∧ p ≠ port)))

/-- 19 R295, R299-R302, 10 R199, 24 R369, R370. Where the fields of a frame stand within it is the model's choice (log
107), and so is that teams of one task draw top-ups in ascending order (log 142). -/
def Obligations.BudgetsAndSaves : Prop :=
  (∀ (s : State) (t : Nat) (ins : Bool), (s.teams.look t).isSome = true →
    let m := s.team t
    ((if ins then m.topI else m.topT) = none → exec (.topupLand t ins) s = .next s) ∧
    (∀ x, (if ins then m.topI else m.topT) = some x →
      (m.retired = false → ∃ u, exec (.topupLand t ins) s = .next u ∧ (m.evicted = false → u.mem = s.mem) ∧ u.groups = s.groups ∧
        (∀ a, m.evicted = true → s.blockAddr (teamBlock t) = some a →
          u.readN a 8 = (BitVec.ofInt 64 (u.team t).ci).toNat ∧ u.readN (a + 8) 8 = (BitVec.ofInt 64 (u.team t).ct).toNat ∧
          ∀ p, p < a ∨ a + 16 ≤ p → u.byte p = s.byte p) ∧
        (u.team t).ci = sat64 (m.ci + (if ins then x else 0)) ∧ (u.team t).ct = sat64 (m.ct + (if ins then 0 else x)) ∧
        (if ins then (u.team t).topI else (u.team t).topT) = none ∧ (u.team t).yieldPending = m.yieldPending) ∧
      (m.retired = true → (s.tasks.look m.task).isSome = true →
        ∃ u, exec (.topupLand t ins) s = .next u ∧ u.mem = s.mem ∧
          (u.task m.task).pi = sat64 ((s.task m.task).pi + (if ins then x else 0)) ∧
          (u.task m.task).pt = sat64 ((s.task m.task).pt + (if ins then 0 else x))))) ∧
  (∀ (s : State) (t : Nat), s.teams.keys.Pairwise (fun a b => a < b) → (s.teams.look t).isSome = true →
    (s.team t).retired = false → (s.team t).evicted = false → (s.tasks.look (s.team t).task).isSome = true →
    let m := s.team t
    let k := s.task m.task
    let n := fun c : Team → Int => k.unplaced + (s.teams.filter (fun e =>
      decide (e.2.task = m.task) && !e.2.retired && !e.2.evicted && decide (c e.2 ≤ 0))).length
    let first := fun (c : Team → Int) (o : Team → Option Int) => ∀ e ∈ s.teams, e.1 < t → e.2.task = m.task →
      e.2.retired = true ∨ e.2.evicted = true ∨ 0 < c e.2 ∨ (o e.2).isSome = true
    let xi := min k.pi (max 1 (k.pi / (n Team.ci : Int)))
    let xt := min k.pt (max 1 (k.pt / (n Team.ct : Int)))
    (m.ci ≤ 0 → m.topI = none → 0 < k.pi →
      ((s.startTopups t).team t).topI = some xi ∧ ((s.startTopups t).task m.task).pi = k.pi - xi ∧
        (first Team.ci Team.topI → (s.settle.team t).topI = some xi)) ∧
    (m.ct ≤ 0 → m.topT = none → 0 < k.pt →
      ((s.startTopups t).team t).topT = some xt ∧ ((s.startTopups t).task m.task).pt = k.pt - xt ∧
        (first Team.ct Team.topT → (s.settle.team t).topT = some xt)) ∧
    (0 < m.ci ∨ m.topI.isSome = true ∨ k.pi ≤ 0 → (s.settle.team t).topI = m.topI) ∧
    (0 < m.ct ∨ m.topT.isSome = true ∨ k.pt ≤ 0 → (s.settle.team t).topT = m.topT)) ∧
  (∀ (s : State) (t : Nat), (s.teams.look t).isSome = true → (s.team t).retired = false → (s.team t).evicted = false →
    let m := s.team t
    let k := s.task m.task
    (0 < m.ci → 0 < m.ct → (s.settle.team t).yieldPending = false) ∧
    ((m.ci ≤ 0 ∧ k.pi ≤ 0 ∧ m.topI = none) ∨ (m.ct ≤ 0 ∧ k.pt ≤ 0 ∧ m.topT = none) → (s.settle.team t).yieldPending = true)) ∧
  (∀ (s : State) (c : CtxId), s.hasCtx c = true → (s.grp c.g).kind = .group →
    (s.teams.look (s.grp c.g).team).isSome = true →
    let g := s.grp c.g
    let x := g.ctx c.i
    let grace := fun e : Nat × Context => match e.2.stop with
      | .graceSaved _ => true
      | _ => false
    ((s.team g.team).yieldPending = true → exec (.contextRestore c) s = .next s) ∧
    (∀ map a, (s.team g.team).yieldPending = false → x.stop = .saved map → g.ctxs.any grace = false →
      s.groupBlock g.team g.gi = some a →
      let f := a + 0x100 + 576 * c.i
      let w := s.modGrp c.g (s.readSaved a c.i map)
      s.readN (f + 520) 4 = x.p0.toNat →
      (w.restorable c.g [c.i] false = false → exec (.contextRestore c) s = .next (w.badRestore c.g)) ∧
      (w.restorable c.g [c.i] false = true →
      ∃ u, exec (.contextRestore c) s = .next u ∧ u.mem = s.mem ∧
        ((u.grp c.g).ctx c.i).stop = .running ∧ ((u.grp c.g).ctx c.i).p0 = x.p0 ∧
        ((u.grp c.g).ctx c.i).pc = BitVec.ofNat 64 (s.readN (f + 512) 8) + BitVec.ofNat 64 (s.readN (f + 548) 2) ∧
        (∀ r, 0 < r → r < 64 → ((u.grp c.g).ctx c.i).sreg r = BitVec.ofNat 64 (s.readN (f + 8 * r) 8)) ∧
        (∀ r l, l < 32 → (u.grp c.g).vreg r l =
          if inMask x.p0 l = false then g.vreg r l
          else if map.any (fun m => !m.getLsbD (r / 4)) = true then 0
          else if r < g.regalloc then BitVec.ofNat 32 (s.readN (a + 0x5700 + 128 * r + 4 * l) 4)
          else g.vreg r l) ∧
        (∀ r l, l < 32 → (u.grp c.g).qreg r l = if inMask x.p0 l = true then 0 else g.qreg r l) ∧
        (u.team g.team).ct = sat64 ((s.team g.team).ct - (2880 + (match map with
          | some m => 512 * (((List.range 64).filter (fun i => m.getLsbD i && decide (4 * i < g.regalloc))).length : Int)
          | none => 128 * (g.regalloc : Int)))))) ∧
    (∀ before was a, (s.team g.team).yieldPending = false → x.stop = .graceSaved before →
      s.groupBlock g.team g.gi = some a → c.i < 4 → (s.readN (a + 121) 1).testBit c.i = true →
      let w := s.modGrp c.g (fun h => (s.readGroup a h).clearPages 0xFFFFFFFF)
      w.restorable c.g (w.grp c.g).ctxs.keys true = true → ((w.grp c.g).ctx c.i).stop = .graceSaved was →
      ∃ u, exec (.contextRestore c) s = .next u ∧ u.mem = s.mem ∧
        (was ≠ .baton → (∀ o k f, was ≠ .barrier o k (some f)) → ((u.grp c.g).ctx c.i).stop = was) ∧
        (u.grp c.g).regalloc = s.readN (a + 10) 2 ∧
        (∀ r l, l < 32 → (u.grp c.g).vreg r l =
          if r < s.readN (a + 10) 2 ∧ r < 256 then BitVec.ofNat 32 (s.readN (a + 0x5700 + 128 * r + 4 * l) 4) else 0) ∧
        (u.team g.team).ct = sat64 ((s.team g.team).ct -
          ((g.ctxs.filter grace).length : Int) * (2880 + 128 * (g.regalloc : Int) + 512)))) ∧
  (∀ (s : State) (g : SlotRef), s.hasGrp g = true → (s.grp g).kind = .group →
    (s.teams.look (s.grp g).team).isSome = true → s.savable g = true → s.storeFault g = none →
    (s.grp g).engineErrs = [] → (∀ f, f < 12 → ((s.grp g).flag f).err = none) →
    let h := s.grp g
    let n := (h.ctxs.filter (fun e => !e.2.stop.asSaved)).length
    (h.graceDue = false → exec (.graceForcedSave g) s = .next s) ∧
    (∀ a, h.graceDue = true → n ≠ 0 → s.groupBlock h.team h.gi = some a →
      h.records.length ≤ 31 → (∀ e ∈ h.ctxs, e.1 < 4) → h.ctxs.keys.Nodup →
      ∃ (u : State) (w : List DWord), exec (.graceForcedSave g) s = .next (u.record true w) ∧ (u.grp g).v = h.v ∧ (u.grp g).q = h.q ∧
      (∀ i c, h.ctxs.look i = some c → c.stop.asSaved = false → ((u.grp g).ctx i).stop = .graceSaved c.stop) ∧
      (∀ r l, r < h.regalloc → l < 32 → u.readN (a + 0x5700 + 128 * r + 4 * l) 4 = (h.vreg r l).toNat) ∧
      (∀ i c k, h.ctxs.look i = some c → 0 < k → k < 64 → u.readN (a + 0x100 + 576 * i + 8 * k) 8 = (c.sreg k).toNat) ∧
      (u.team h.team).ct = sat64 ((s.team h.team).ct - n * (2880 + 128 * (h.regalloc : Int) + 512))) ∧
    (∀ a, s.groupBlock h.team h.gi = some a → h.evicting = true → s.dropping g = false →
      (∃ e ∈ (s.team h.team).slots, e.1 ≠ h.gi ∧ ∃ k, e.2 = .at k) →
      ∃ u, exec (.groupEvictSave g) s = .next u ∧ u.hasGrp g = false ∧
        (∀ r l, r < h.regalloc → l < 32 → u.readN (a + 0x5700 + 128 * r + 4 * l) 4 = (h.vreg r l).toNat) ∧
        ∃ im, (u.team h.team).slots.look h.gi = some (.image im g) ∧ im.v = h.v ∧ im.o = h.o ∧ im.q = h.q ∧
          im.evicting = false ∧ im.regalloc = h.regalloc ∧ im.records = h.records)) ∧
  (∀ (s : State) (t gi a : Nat) (im : Group) (from_ g : SlotRef) (r : List SlotRef),
    (s.team t).slots.look gi = some (.image im from_) → (s.team t).evicted = false → (s.team t).retired = false →
    s.switchedOut (s.team t).task = false → im.regalloc / 8 ≤ s.granulesFree from_.coreRef from_.partition →
    s.freeSlots from_.coreRef from_.partition = g :: r → s.groupBlock t gi = some a →
    let held := s.readN (a + 121) 1
    let frame := fun i : Nat => a + 0x100 + 576 * i
    ∃ w : State, exec (.evictedGroupReturn t gi) s = .next
        (if w.restorable g (w.grp g).ctxs.keys true then (w.resumeStalls g).batonBack g else w.badRestore g) ∧
      (w.resumeStalls g).mem = w.mem ∧ ((w.resumeStalls g).grp g).v = (w.grp g).v ∧
      (∀ i, (((w.resumeStalls g).grp g).ctx i).bare = ((w.grp g).ctx i).bare) ∧
      (w.team t).slots.look gi = some (.at g) ∧ w.mem = s.mem ∧ (w.grp g).regalloc = s.readN (a + 10) 2 ∧
      (∀ k l, l < 32 → (w.grp g).vreg k l =
        if k < s.readN (a + 10) 2 ∧ k < 256 then BitVec.ofNat 32 (s.readN (a + 0x5700 + 128 * k + 4 * l) 4) else 0) ∧
      (∀ i, i < 4 → ((w.grp g).ctxs.look i).isSome = held.testBit i) ∧
      (∀ i, i < 4 → held.testBit i = true →
        (∀ k, 0 < k → k < 64 → ((w.grp g).ctx i).sreg k = BitVec.ofNat 64 (s.readN (frame i + 8 * k) 8)) ∧
        ((w.grp g).ctx i).pc = BitVec.ofNat 64 (s.readN (frame i + 512) 8) + BitVec.ofNat 64 (s.readN (frame i + 548) 2) ∧
        ((w.grp g).ctx i).p0 = BitVec.ofNat 32 (s.readN (frame i + 520) 4)) ∧
      (w.grp g).gen = (s.core from_.coreRef).gens.get 0 g.slot + 1 ∧
      (∀ h : SlotRef, h.key ≠ g.key → w.grp h = s.grp h))

/-- 16 R266-R280, 19 R294, R305, 22 R343. That the heads which can start in an I/O-die cycle start in one event (log 96), its cycle
(log 66), that a group whose threads still drop stays (log 19), that a record's fields outside the assembler's ranges make it malformed
(log 111), that firmware's policy may lower an allowance (log 110), that a SPAWN task's counter falls before the task retires (log 62)
and that a command without a translation is malformed (log 128) are the model's readings. -/
def Obligations.GridsStartAndEnd : Prop :=
  (∀ (s : State) (q : Nat), q < 64 →
    let x := s.queue q
    let halted := ∃ u, exec (.launchCommandStart q) s = .next u ∧ (u.queue q).qctl = x.qctl ||| 2 ∧
      (u.queue q).qprog = x.qprog ∧ u.tasks = s.tasks ∧ u.groups = s.groups
    (x.qctl.getLsbD 0 = false ∨ x.qctl.getLsbD 1 = true ∨ x.qsw.getLsbD 0 = true ∨ x.pending = 0 →
      exec (.launchCommandStart q) s = .next s) ∧
    (x.live = true → x.pending ≠ 0 →
      (x.head = none → s.asidMoves x.asid x.headAddr 64 = false →
        (s.asidBytes x.asid x.headAddr 64 = none → halted) ∧
        (∀ bs, s.asidBytes x.asid x.headAddr 64 = some bs → s.recordMoves x.asid (descriptorOf bs).krec = false →
          (s.checkDescriptor x.asid (descriptorOf bs) = none → halted) ∧
          (∀ r, s.checkDescriptor x.asid (descriptorOf bs) = some r →
            ∃ u, exec (.launchCommandStart q) s = .next u ∧ (u.queue q).head = some s.serial ∧
              (u.queue q).qprog = x.qprog ∧ u.mem = s.mem ∧ u.groups = s.groups ∧
              let n := u.task s.serial
              n.depth = 1 ∧ n.pri = x.pri ∧ n.asid = x.asid ∧ n.queue = some q ∧ n.parent = none ∧ n.spawn = false ∧
                n.l = r.l ∧ n.leases = r.leases ∧ n.caps = allowances s.serial (some q) r.caps ∧ n.td = r.td ∧ n.phase = .created ∧
                n.d.arg = (descriptorOf bs).arg ∧ n.unplaced = (descriptorOf bs).teams ∧
                n.pi = sat64 ((descriptorOf bs).ins.toInt + r.l.ins) ∧
                n.pt = sat64 ((descriptorOf bs).bytes.toInt + r.l.bytes)))) ∧
      (∀ k s1, x.head = some k → (s.tasks.look k).isSome = true → s.carve (taskBlock k) 1 = some s1 →
        ((s.task k).d.ser = false ∨ x.last = none ∨ (∃ p, x.last = some p ∧ (s.task p).phase = .retired)) →
        (s.task k).phase = .resident → s.dead k = false →
        ((s.task k).d.wait = none ∨ (∃ e v, (s.task k).d.wait = some (e, v) ∧ v.toNat ≤ (s.io.events.get 0 e).toNat)) →
        s.startable q = true ∧
        ((∀ e ∈ s.io.queues, e.2.started ≠ some (l2Cycle s.tick)) → (s.io.queues.look q).isSome = true →
          (∀ e ∈ s.io.queues, e.1 ≠ q → s.startable e.1 = false) →
          ∃ u a, exec (.launchCommandStart q) s = .next u ∧ (u.queue q).qprog = x.qprog + 1 ∧ (u.queue q).last = some k ∧
            (u.queue q).head = none ∧ (u.task k).phase = .accepted ∧ (u.task k).order = s.io.accepted ∧
            (u.task k).pri = x.pri ∧ (u.queue q).started = some (l2Cycle s.tick) ∧ u.io.served = q ∧
            u.io.accepted = s.io.accepted + 1 ∧ u.groups = s.groups ∧ s1.blockAddr (taskBlock k) = some a ∧
            ((s.task k).d.dies.Nodup → ∀ i, i < (s.task k).d.dies.length →
              (u.task k).shares.get [] ((s.task k).d.dies.getD i 0) =
                (List.range (s.task k).d.teams).filter (fun n => decide (n % (s.task k).d.dies.length = i))) ∧
            ∀ p, p < a ∨ a + 4096 ≤ p → u.byte p = s.byte p)) ∧
      (∀ p k, s.startable q = true → s.startable p = true → (∀ e ∈ s.io.queues, e.2.started ≠ some (l2Cycle s.tick)) →
        (s.io.queues.look p).isSome = true → (s.queue p).head = some k → (s.tasks.look k).isSome = true → s.io.served < 64 →
        (∀ e ∈ s.io.queues, e.1 < 64) → s.io.queues.keys.Nodup →
        (∀ e ∈ s.io.queues, e.1 ≠ p → s.startable e.1 = true → (s.queue e.1).pri < (s.queue p).pri ∨
          (s.queue e.1).pri = (s.queue p).pri ∧ (p + 63 - s.io.served) % 64 < (e.1 + 63 - s.io.served) % 64) →
        ∃ u, exec (.launchCommandStart q) s = .next u ∧ (u.queue p).qprog = (s.queue p).qprog + 1 ∧
          (u.task k).phase = .accepted ∧ (u.task k).order = s.io.accepted ∧ (u.queue p).started = some (l2Cycle s.tick)) ∧
      (x.head.isSome = true → (∃ e ∈ s.io.queues, e.2.started = some (l2Cycle s.tick)) ∨ s.startable q = false →
        exec (.launchCommandStart q) s = .next s))) ∧
  (∀ (s : State) (k : Nat), (s.tasks.look k).isSome = true →
    let j := s.task k
    (j.phase = .created → j.blocked = false → s.failingPage k = none →
      ∃ u, exec (.leaseResidencyWalk k) s = .next u ∧ (u.task k).phase = .resident ∧ u.mem = s.mem) ∧
    (∀ p, j.phase = .created → j.blocked = false → s.failingPage k = some p →
      ∃ u : State, exec (.leaseResidencyWalk k) s = .next (u.record true
          (recordWords 0x20 0 0 j.asid j.gridId 0 (BitVec.ofNat 64 p) 0 0 0)) ∧
        (u.task k).blocked = true ∧ (u.task k).phase = .created ∧ u.mem = s.mem ∧ u.groups = s.groups) ∧
    (∀ s1, j.parent.isSome = true → j.spawn = false → s.carve (taskBlock k) 1 = some s1 → j.phase = .resident →
      s.dead k = false → j.d.wait = none → j.d.dies.Nodup →
      ∃ u a, exec (.childGridAccept k) s = .next u ∧ (u.task k).phase = .accepted ∧ (u.task k).order = s.io.accepted ∧
        s1.blockAddr (taskBlock k) = some a ∧ (∀ p, p < a ∨ a + 4096 ≤ p → u.byte p = s.byte p) ∧ (∀ i, i < j.d.dies.length →
          (u.task k).shares.get [] (j.d.dies.getD i 0) =
            (List.range j.d.teams).filter (fun n => decide (n % j.d.dies.length = i)))) ∧
    (j.spawn = false → j.phase ≠ .retired → s.idleTask k = true → s.descendantsRetired k = true →
      ∃ u, exec (.gridRetire k) s = .next u ∧ (u.task k).phase = .retired ∧ (u.task k).pool = none ∧
        (∀ e, j.d.sen = some e → u.io.events.get 0 e = s.io.events.get 0 e + 1) ∧
        (∀ e d, j.pool = some (d, e) → (u.die d).pool.look e = none) ∧
        (∀ p t, j.parent = some p → j.issuer = some t → (s.teams.look t).isSome = true → (s.team t).retired = false →
          (s.team t).evicted = false →
          (u.team t).ci = sat64 ((s.team t).ci + max 0 j.pi) ∧ (u.team t).ct = sat64 ((s.team t).ct + max 0 j.pt))) ∧
    (∀ t off, j.spawn = true → j.phase ≠ .retired → s.idleTask k = true → s.descendantsRetired k = true →
      j.join = some (t, off) → (s.team t).retired = false → (s.team t).evicted = false →
      let a := (s.team t).spad off
      ∃ u, exec (.spawnTaskRetire k) s = .next u ∧ (u.task k).phase = .retired ∧ (u.task k).join = none ∧
        u.readN a 4 = (if 0 < s.readN a 4 ∧ s.readN a 4 < 2 ^ 31 then s.readN a 4 - 1 else s.readN a 4) ∧
        (∀ p, p < a ∨ a + 4 ≤ p → u.byte p = s.byte p))) ∧
  (∀ (s : State) (g : SlotRef), s.hasGrp g = true → (s.grp g).kind = .group →
    (s.teams.look (s.grp g).team).isSome = true →
    let t := (s.grp g).team
    ((s.grp g).ended = false ∨ (s.grp g).ops ≠ [] ∨ s.dropping g = true → exec (.groupRetire g) s = .next s) ∧
    ((s.grp g).ended = true → (s.grp g).ops = [] → s.dropping g = false →
      ∃ u, exec (.groupRetire g) s = .next u ∧ u.hasGrp g = false ∧
        ((∀ k, (s.task k).report = []) → (∀ e ∈ (s.team t).slots, e.2.isImage = false) → u.mem = s.mem) ∧
        ((s.team t).slots.Pairwise (fun a b => a.1 < b.1) → (∃ e ∈ (s.team t).slots, e.2.isImage = true) →
          (∀ e ∈ (s.team t).slots, e.1 ≠ (s.grp g).gi → e.2.isImage = true) → (s.blockAddr (teamBlock t)).isSome = true →
          (s.team t).slots.look (s.grp g).gi = some (.at g) → (s.team t).retired = false → (s.team t).evicted = false →
          (u.team t).evicted = true) ∧
        (u.team t).slots.look (s.grp g).gi = some .retired ∧
        (∀ n h, n ≠ (s.grp g).gi → (s.team t).slots.look n = some (.at h) → (u.team t).retired = (s.team t).retired) ∧
        ((s.team t).slots = [((s.grp g).gi, .at g)] → (s.team t).retired = false →
          (u.team t).retired = true ∧ (u.team t).ci = 0 ∧ (u.team t).ct = 0 ∧
          ((s.tasks.look (s.team t).task).isSome = true →
            (u.task (s.team t).task).unretired = (s.task (s.team t).task).unretired - 1))))

/-- 16 R272-R274, R280, 10 R181, R182, R198, 17 R287, 19 R294. The L2 cycle is the model's reading (log 66), and so are that slots of a
team's retired groups stay kept for it (log 106) and that marking groups for eviction and placing the team are separate TEAM_PLACE
events, between which the distributor tries nothing else for the grid (log 52). Which refill entries are dropped follows R273 (log
144). -/
def Obligations.TeamsPlaced : Prop :=
  let begun := fun (s u : State) (k gi : Nat) (g : SlotRef) =>
    let j := s.task k
    let w := u.grp g
    w.kind = .group ∧ w.team = s.serial ∧ w.task = k ∧ w.gi = gi ∧ w.regalloc = j.l.regs ∧
      (w.ctx 0).pc = j.l.entry ∧ (w.ctx 0).due = true ∧ (w.ctx 0).p0 = 0xFFFFFFFF ∧ (w.ctx 0).sreg 1 = j.d.arg ∧
      (w.ctx 0).sreg 55 = BitVec.ofNat 64 Config.spwBase ∧ (w.ctx 0).sreg 2 = 0 ∧ w.v = [] ∧
      (∀ l, l < 32 → w.teamThread.get 0 l = BitVec.ofNat 32 (32 * gi + l)) ∧
      ((w.ctx 0).stop = if (u.team s.serial).yieldPending = true then .entry else .running)
  let team := fun (s u : State) (k id n : Nat) (cores : List CoreRef) =>
    let j := s.task k
    let t := u.team s.serial
    t.task = k ∧ t.teamId = id ∧ t.groups = n ∧ t.cores = cores ∧ t.td = j.td ∧ t.retired = false ∧
      t.ci = (if 0 < j.pi then j.pi / (j.unplaced : Int) else 0) ∧ t.ct = (if 0 < j.pt then j.pt / (j.unplaced : Int) else 0) ∧
      (u.task k).unplaced = j.unplaced - 1
  let placed := fun (s u : State) (k id : Nat) (f : Fit) (g : SlotRef) =>
    team s u k id 1 [f.core] ∧ (u.team s.serial).slots = [(0, .at g)] ∧ begun s u k 0 g
  (∀ (s : State) (die k id : Nat) (r : List Nat) (s1 : State), s.activeGrids die = [k] → s.evictedTeams k die = [] →
    (s.task k).shares.get [] die = id :: r → (s.task k).spawn = false → (s.task k).l.regs ≠ 0 → (s.tasks.look k).isSome = true →
    s.carve (teamBlock s.serial) (teamBlockGranules (s.task k).l.spad (max 1 (s.task k).l.wide)) = some s1 →
    (s.die die).placedAt ≠ some (l2Cycle s.tick) →
    let fit := fun cs : List CoreRef => s.fitItem k (.new_ id) cs
    let list := (s.task k).refill.get [] die
    let skipped := fun x : Nat => (s.task k).l.cores.getLsbD x = false ∨ fit [⟨die, x⟩] = none
    let evicts := fun cs : List CoreRef => s.evictSet k (.new_ id) cs
    let nothing := ∃ u, exec (.teamPlace die) s = .next u ∧ u.teams = s.teams ∧ u.groups = s.groups ∧
      (u.task k).refill = (s.task k).refill ∧ (u.task k).shares = (s.task k).shares
    ((s.task k).evictOn.look die = none → (s.task k).l.wide = 0 → (s.task k).l.groups = 1 →
      (∀ a c q f g, list = a ++ c :: q → (∀ x ∈ a, skipped x) → (s.task k).l.cores.getLsbD c = true →
        fit [⟨die, c⟩] = some [f] → f.slots = [g] →
        ∃ u, exec (.teamPlace die) s = .next u ∧ placed s u k id f g ∧ (u.task k).shares.get [] die = r ∧
          (u.task k).refill.get [] die = q.filter (fun y => !a.elem y) ∧ (u.task k).pointer = (s.task k).pointer ∧
          (u.die die).placedAt = some (l2Cycle s.tick)) ∧
      ((∀ x ∈ list, skipped x) →
        (∀ b c q f g, s.fromPointer k die = b ++ c :: q → (∀ x ∈ b, fit [x] = none) → fit [c] = some [f] → f.slots = [g] →
          ∃ u, exec (.teamPlace die) s = .next u ∧ placed s u k id f g ∧ (u.task k).shares.get [] die = r ∧
            (u.task k).refill.get [] die = [] ∧ (u.task k).pointer.get 0 die = s.coreAfter k die c.core ∧
            (u.die die).placedAt = some (l2Cycle s.tick)) ∧
        ((∀ c ∈ s.fromPointer k die, fit [c] = none) →
          (∀ b c q gs, s.fromPointer k die = b ++ c :: q → (∀ x ∈ b, evicts [x] = none) → evicts [c] = some gs →
            ∃ u, exec (.teamPlace die) s = .next u ∧ u.teams = s.teams ∧ (u.task k).evictOn.look die = some [c] ∧
              (u.task k).shares = (s.task k).shares ∧ (∀ h ∈ gs, s.hasGrp h = true → (u.grp h).evicting = true) ∧
              (∀ h : SlotRef, (∀ x ∈ gs, x.key ≠ h.key) → u.grp h = s.grp h)) ∧
          ((∀ c ∈ s.fromPointer k die, evicts [c] = none) → nothing)))) ∧
    (∀ cs, (s.task k).evictOn.look die = some cs →
      (∀ f g, (s.task k).l.wide = 0 → (s.task k).l.groups = 1 → fit cs = some [f] → f.slots = [g] →
        ∃ u, exec (.teamPlace die) s = .next u ∧ placed s u k id f g ∧ (u.task k).evictOn.look die = none) ∧
      (fit cs = none → (∃ e ∈ cs.flatMap s.groupsOn, e.2.evicting = true) → nothing)) ∧
    (∀ (b q : List (List CoreRef)) (cs : List CoreRef) (fs : List Fit) (gs : List SlotRef), (s.task k).evictOn.look die = none → (s.task k).l.wide ≠ 0 → (s.task k).l.groups = (s.task k).l.wide →
      s.wideSets k die = b ++ cs :: q → (∀ x ∈ b, fit x = none) → fit cs = some fs → fs.length = (s.task k).l.wide →
      fs.map Fit.slots = gs.map (fun g => [g]) → (gs.map SlotRef.key).Nodup →
      ∃ u, exec (.teamPlace die) s = .next u ∧ team s u k id (s.task k).l.wide (fs.map Fit.core) ∧
        (u.task k).shares.get [] die = r ∧ ∀ i g, gs[i]? = some g → (u.team s.serial).slots.look i = some (.at g) ∧ begun s u k i g) ∧
    (∀ cs ∈ s.wideSets k die, cs.length = (s.task k).l.wide ∧ cs.Nodup ∧ ∃ n, ∀ c ∈ cs, c.cluster = n ∧ c ∈ s.eligible k die) ∧
    (∀ cs gs, evicts cs = some gs → (((s.without gs).fitItem k (.new_ id) cs).isSome = true ∧
      (∀ h ∈ gs, ∃ e ∈ cs.flatMap s.groupsOn, e.1 = h ∧ (s.task e.2.task).pri < (s.task k).pri ∧ e.2.evicting = false ∧
        e.2.handler = none) ∧
      ∀ hs, hs.Sublist (s.evictable cs (s.task k).pri) → hs ≠ [] → hs.length < gs.length →
        (s.without hs).fitItem k (.new_ id) cs = none))) ∧
  (∀ (s : State) (die : Nat), (s.die die).placedAt = some (l2Cycle s.tick) →
    ∃ u, exec (.teamPlace die) s = .next u ∧ u.teams = s.teams ∧ u.groups = s.groups ∧ u.mem = s.mem) ∧
  (∀ (s : State) (n : Nat) (m : Steal), s.steals.find? (fun x => decide (x.id = n)) = some m → (s.tasks.look m.task).isSome = true →
    let share := (s.task m.task).shares.get [] m.victim
    (m.teams = none → s.takesSteal m = false → exec (.stealMessage n) s = .next s) ∧
    (m.teams = none → s.takesSteal m = true → ∃ u, exec (.stealMessage n) s = .next u ∧
      (u.task m.task).shares.get [] m.victim = share.take (share.length - share.length / 2) ∧
      (∃ x ∈ u.steals, x.id = n ∧ x.teams = some (share.drop (share.length - share.length / 2))) ∧ u.mem = s.mem ∧
      u.groups = s.groups ∧ (u.die m.victim).stolen = some (s.tick, m.thief)) ∧
    (∀ ts, m.teams = some ts → exec (.stealMessage n) s = .next s ∧
      (ts ≠ [] → (s.task m.task).cause = none →
        ∃ u, exec (.stealTeamsArrive n) s = .next u ∧ (∀ x ∈ u.steals, x.id ≠ n) ∧
          ((u.task m.task).shares.get [] m.thief).Perm ((s.task m.task).shares.get [] m.thief ++ ts) ∧
          ((u.task m.task).shares.get [] m.thief).Pairwise (fun a b => a ≤ b) ∧ u.mem = s.mem) ∧
      (ts = [] → ∃ u, exec (.stealTeamsArrive n) s = .next u ∧ (∀ x ∈ u.steals, x.id ≠ n) ∧ u.tasks = s.tasks ∧
        u.mem = s.mem))) ∧
  (∀ (s : State) (die cluster k : Nat), (s.taskQueues.get [] (die * 8 + cluster)).head? = some k → (s.task k).phase ≠ .resident →
    exec (.taskQueuePlace die cluster) s = .next s) ∧
  (∀ (s : State) (die cluster k : Nat) (f : Fit) (g : SlotRef) (s1 s2 : State), s.headCore die cluster = some (k, f) →
    s.switchedOut k = false → f.slots = [g] → (s.task k).l.groups = 1 → (s.task k).l.regs ≠ 0 → (s.tasks.look k).isSome = true →
    s.carve (taskBlock k) 1 = some s1 → s1.carve (teamBlock s.serial) (teamBlockGranules (s.task k).l.spad 1) = some s2 →
    ∃ u, exec (.taskQueuePlace die cluster) s = .next u ∧ placed s u k (s.task k).d.teams f g ∧
      u.taskQueues.get [] (die * 8 + cluster) = (s.taskQueues.get [] (die * 8 + cluster)).drop 1)

/-- 00 R4, 16 R266-R268, 22 R347, R348, 24 R371-R373, 27 R398. That QPROG stands at QSAVE + 0 and QTAIL at + 8 (log 81), how a
sweep and its wait are cut into events (log 80), and logs 87 and 92 are the model's choices. -/
def Obligations.IoRegisters : Prop :=
  (∀ (s : State) (q : Nat) (v : DWord),
    let x := s.queue q
    (64 ≤ q → exec (.qtailWrite q v) s = .next s ∧ exec (.qctlWrite q v) s = .next s ∧
      exec (.queueSwitchOut q) s = .next s ∧ exec (.queueSwitchIn q) s = .next s) ∧
    (q < 64 →
      (∃ u, exec (.qtailWrite q v) s = .next u ∧ u.queue q = { x with qtail := v.setWidth 32 } ∧
        (∀ p, p ≠ q → u.queue p = s.queue p) ∧ u.groups = s.groups ∧ u.tasks = s.tasks ∧
        (x.qsw.getLsbD 0 = false → u.mem = s.mem) ∧
        (x.qsw.getLsbD 0 = true → frameExists x.qsave.toNat 64 = true →
          u.readN (x.qsave.toNat + 8) 8 = v.toNat % 2 ^ 32 ∧ u.readN x.qsave.toNat 8 = x.qprog.toNat ∧
          (∀ p, p < x.qsave.toNat ∨ x.qsave.toNat + 16 ≤ p → u.byte p = s.byte p))) ∧
      (∃ u, exec (.qctlWrite q v) s = .next u ∧ (u.queue q).qprog = x.qprog ∧ (u.queue q).qbase = x.qbase ∧
        (∀ p, p ≠ q → u.queue p = s.queue p) ∧ u.mem = s.mem ∧ u.groups = s.groups ∧
        let c := (u.queue q).qctl
        c.getLsbD 1 = (x.qctl.getLsbD 1 && !v.getLsbD 1) ∧
        (x.qsw.getLsbD 0 = true → ∀ b, b < 64 → b ≠ 1 → c.getLsbD b = x.qctl.getLsbD b) ∧
        (x.qsw.getLsbD 0 = false →
          (∀ b, b < 64 → b = 0 ∨ (5 ≤ b ∧ b ≤ 7) ∨ 48 ≤ b → c.getLsbD b = v.getLsbD b) ∧
          (∀ b, (2 ≤ b ∧ b < 5) ∨ (13 ≤ b ∧ b < 48) → c.getLsbD b = false) ∧
          c.toNat / 256 % 32 =
            (if 4 ≤ v.toNat / 256 % 32 ∧ v.toNat / 256 % 32 ≤ 16 then v.toNat / 256 % 32 else 4))) ∧
      (x.qsw.getLsbD 0 = true → exec (.queueSwitchOut q) s = .next s) ∧
      (x.qsw.getLsbD 0 = false → ∃ u, exec (.queueSwitchOut q) s = .next u ∧ (u.queue q).qsw = 1 ∧
        (frameExists x.qsave.toNat 64 = true →
          u.readN x.qsave.toNat 8 = x.qprog.toNat ∧ u.readN (x.qsave.toNat + 8) 8 = x.qtail.toNat) ∧
        (∀ p, p < x.qsave.toNat ∨ x.qsave.toNat + 16 ≤ p → u.byte p = s.byte p) ∧
        (∀ g, s.hasGrp g = true → (s.task (s.grp g).task).queue = some q → (s.task (s.grp g).task).phase ≠ .retired →
          (s.tasks.look (s.grp g).task).isSome = true → (s.grp g).kind = .group → (u.grp g).evicting = true)) ∧
      (x.qsw.getLsbD 0 = false → exec (.queueSwitchIn q) s = .next s) ∧
      (x.qsw.getLsbD 0 = true → ∃ u, exec (.queueSwitchIn q) s = .next u ∧ u.groups = s.groups ∧ u.mem = s.mem ∧
        (∀ p, p ≠ q → u.queue p = s.queue p) ∧
        (frameExists x.qsave.toNat 64 = true → u.queue q = { x with
          qsw := 0
          qprog := BitVec.ofNat 32 (s.readN x.qsave.toNat 4)
          qtail := BitVec.ofNat 32 (s.readN (x.qsave.toNat + 8) 4) }) ∧
        (frameExists x.qsave.toNat 64 = false → u.queue q = { x with qsw := 0 })) ∧
      (x.qsw = 1 → s.allSaved q = true → ∃ u, exec (.queueSwitchOutDone q) s = .next u ∧ (u.queue q).qsw = 3 ∧
        u.groups = s.groups ∧ u.tasks = s.tasks ∧
        let r := s.io.event
        let ws : List DWord := [BitVec.ofNat 64 (0x42 + x.qctl.toNat / 2 ^ 48 * 2 ^ 32), 0, 0, 0, 0, BitVec.ofNat 64 q, 0, 0]
        (s.ringOpen r = true → r.held = [] → u.io.event = { r with tail := r.tail + 1 } ∧
          (∀ i, i < 8 → u.readN (r.next + 8 * i) 8 = (ws.getD i 0).toNat) ∧
          (∀ p, p < r.next ∨ r.next + 64 ≤ p → u.byte p = s.byte p)) ∧
        (s.ringOpen r = false ∨ r.held ≠ [] → r.held.length < 256 →
          u.io.event = { r with held := r.held ++ [ws] } ∧ u.mem = s.mem)) ∧
      (x.qsw.getLsbD 0 = false ∨ s.allSaved q = false → exec (.queueSwitchOutDone q) s = .next s))) ∧
  (∀ (s : State) (v : DWord) (e : Nat),
    (∃ u, exec (.iqtailWrite v) s = .next u ∧ u.io = { s.io with iqtail := v } ∧ u.mem = s.mem ∧ u.groups = s.groups) ∧
    (∃ u, exec (.iqctlWrite v) s = .next u ∧ u.io = { s.io with iqctl := u.io.iqctl } ∧ u.mem = s.mem ∧
      u.io.iqctl.getLsbD 0 = v.getLsbD 0 ∧ u.io.iqctl.getLsbD 1 = (s.io.iqctl.getLsbD 1 && !v.getLsbD 1) ∧
      u.io.iqctl.toNat / 256 % 32 =
        (if 4 ≤ v.toNat / 256 % 32 ∧ v.toNat / 256 % 32 ≤ 12 then v.toNat / 256 % 32 else 4)) ∧
    (∃ u, exec (.rqheadWrite 0 v) s = .next u ∧ u.io.fault.head = v ∧ u.io.event = s.io.event ∧ u.groups = s.groups) ∧
    (∃ u, exec (.rqheadWrite 1 v) s = .next u ∧ u.io.event.head = v ∧ u.io.fault = s.io.fault ∧ u.groups = s.groups) ∧
    (e < 4096 → ∃ u, exec (.eventCountWrite e v) s = .next u ∧ u.io.events.get 0 e = v ∧
      (∀ f, f ≠ e → u.io.events.get 0 f = s.io.events.get 0 f) ∧ u.mem = s.mem ∧ u.groups = s.groups) ∧
    (4096 ≤ e → exec (.eventCountWrite e v) s = .next s) ∧
    (v.getLsbD 0 = true → s.gridOfId s.io.gtask = none → ∃ u, exec (.ggo v) s = .next u ∧ u.io.gctl = 2 ∧
      u.tasks = s.tasks ∧ u.mem = s.mem) ∧
    (∀ k, v.getLsbD 0 = true → s.gridOfId s.io.gtask = some k → (s.tasks.look k).isSome = true →
      ∃ u, exec (.ggo v) s = .next u ∧ u.io.gctl = (s.io.gctl &&& 2 &&& ~~~v) ∧ u.mem = s.mem ∧
        (u.task k).pi = sat64 ((s.task k).pi + s.io.gins.toNat) ∧
        (u.task k).pt = sat64 ((s.task k).pt + s.io.gbytes.toNat)) ∧
    (∀ off, exec (.registerWrite .other off v) s = .next s) ∧
    (∀ (c : CtxId) (off : Nat), s.hasCtx c = true →
      exec (.registerWrite (.thread c) off v) s = .next (({ s with cur := c } : State).raise 4 causePriv 0 0)) ∧
    s.registerRead 0x10C0 = s.io.gtask ∧ s.registerRead 0x1118 = s.io.iqhead ∧
    (∀ q, q < 64 → s.registerRead (64 * q + 0x18) = ((s.queue q).qprog).setWidth 64) ∧
    (∀ off, 0x1128 ≤ off → s.registerRead off = 0) ∧
    exec (.registerWrite .app 0x10C0 v) s = .next { s with io := { s.io with gtask := v } } ∧
    exec (.registerWrite .app 0x10C8 v) s = .next { s with io := { s.io with gins := v } } ∧
    exec (.registerWrite .app 0x10D0 v) s = .next { s with io := { s.io with gbytes := v } } ∧
    exec (.registerWrite .app 0x1100 v) s = .next { s with io := { s.io with iqbase := v } } ∧
    exec (.registerWrite .app 0x1120 v) s = .next { s with io := { s.io with astbase := v } } ∧
    exec (.registerWrite .app 0x1080 v) s = .next { s with io := { s.io with fault := { s.io.fault with base := v } } } ∧
    (s.io.blocks = [] → exec (.registerWrite .app 0x1040 v) s = .next { s with io := { s.io with sapbase := v } }) ∧
    (s.io.blocks ≠ [] → exec (.registerWrite .app 0x1040 v) s = .next s) ∧
    (∀ off, 0x1128 ≤ off → exec (.registerWrite .app off v) s = .next s)) ∧
  (∀ s : State,
    let c := s.iqCommand
    let w := sweepOf c
    let counted := fun (c : Nat) =>
      if c / 2 ^ 148 % 2 = 1 then
        s.io.events.put 0 (c / 2 ^ 160 % 2 ^ 12) (s.io.events.get 0 (c / 2 ^ 160 % 2 ^ 12) + 1)
      else s.io.events
    (s.io.iqLive = false → exec .invalidateCommand s = .next s) ∧
    (s.io.iqLive = true → s.io.swept = none → badInvalidate c = true →
      exec .invalidateCommand s = .next { s with io := { s.io with iqctl := s.io.iqctl ||| 2 } }) ∧
    (s.io.iqLive = true → s.io.swept = none → badInvalidate c = false → s.splitBy w = true →
      exec .invalidateCommand s = .next s) ∧
    (s.io.iqLive = true → s.io.swept = none → badInvalidate c = false → s.splitBy w = false →
      ∃ u, exec .invalidateCommand s = .next u ∧ u.mem = s.mem ∧
        (∀ g k x, (u.grp g).pages.look k = some x → w.hits x.x = false) ∧
        (∀ g k x, (s.grp g).pages.look k = some x → w.hits x.x = false → (u.grp g).pages.look k = some x) ∧
        (∀ d x, x ∈ (u.core d).tlb ↔ x ∈ (s.core d).tlb ∧ w.hits x = false) ∧
        (∀ d x, x ∈ (u.die d).tlb ↔ x ∈ (s.die d).tlb ∧ w.hits x = false) ∧
        (s.users w = [] → s.waveUsers w = [] → u.io.iqhead = s.io.iqhead + 1 ∧ u.io.swept = none ∧
          u.io.events = counted c) ∧
        (s.users w ≠ [] ∨ s.waveUsers w ≠ [] → u.io = { s.io with swept := some (c, s.users w, s.waveUsers w) })) ∧
    (∀ d rs objs, s.io.iqLive = true → s.io.swept = some (d, rs, objs) →
      (s.stillUses (sweepOf d) rs objs = true → exec .invalidateCommand s = .next s) ∧
      (s.stillUses (sweepOf d) rs objs = false → ∃ u, exec .invalidateCommand s = .next u ∧ u.mem = s.mem ∧
        u.groups = s.groups ∧ u.io.iqhead = s.io.iqhead + 1 ∧ u.io.swept = none ∧ u.io.events = counted d)))

/-- 22 R336, R343-R346, 10 R201, 11 R227. DETAIL as the register with the slot in the handle (log 50), a page's copy with its leaf's
rewriting as one event (log 90), and which task's lease asks for a migration (log 118) are the model's choices. -/
def Obligations.PagesAndErrors : Prop :=
  (∀ (s : State) (asid : Nat) (va : DWord) (frame : Nat) (l : Leaf) (k : Nat), s.walk asid (va56 va) = some l →
    s.migratable asid l.base l.size = some k → l.mig = false → canonical va = true → frame % l.size = 0 →
    frameExists frame l.size = true → isSlow frame ≠ isSlow l.frame → s.inUse ⟨false, asid, l.base, l.size, 0⟩ = false →
    s.rangeBusy l.frame l.size = false → s.moving frame l.size = false →
    (∀ e, s.leafEntries asid (va56 va) = [e] →
      ∃ u, exec (.pageMigrationStart asid va frame) s = .next u ∧ u.readN e 8 = s.readN e 8 ||| 2 ^ 6 ∧
        (∀ p, p < e ∨ e + 8 ≤ p → u.byte p = s.byte p) ∧
        u.io.migrations = s.io.migrations ++ [⟨s.serial, asid, l.base, l.size, l.frame, frame, [e], k⟩])) ∧
  (∀ (s : State) (asid : Nat) (va : DWord) (frame : Nat), s.walk asid (va56 va) = none →
    exec (.pageMigrationStart asid va frame) s = .next s) ∧
  (∀ (s : State) (n : Nat) (m : Migration) (e : Nat), MemInv s → s.io.migrations.find? (fun x => decide (x.id = n)) = some m →
    m.entries = [e] → m.new_ + m.size ≤ m.old ∨ m.old + m.size ≤ m.new_ → e + 8 ≤ m.new_ ∨ m.new_ + m.size ≤ e →
    ∃ u, exec (.pageMigrationEnd n) s = .next u ∧ (∀ x ∈ u.io.migrations, x.id ≠ n) ∧
      (∀ j, j < m.size → u.byte (m.new_ + j) = s.byte (m.old + j)) ∧
      (m.new_ % 4096 = 0 → m.new_ < 2 ^ 52 →
        u.readN e 8 = s.readN e 8 % 2 ^ 5 + (if isSlow m.new_ = true then 2 ^ 5 else 0) + m.new_) ∧
      (∀ p, p < m.new_ ∨ m.new_ + m.size ≤ p → p < e ∨ e + 8 ≤ p → u.byte p = s.byte p) ∧
      (∀ (c : CtxId) (p : Nat), (s.task (s.grp c.g).task).asid = m.asid → s.hasCtx c = true →
        ((s.grp c.g).ctx c.i).stop = .replay p → m.base ≤ p → p < m.base + m.size → ((u.grp c.g).ctx c.i).stop = .running)) ∧
  (∀ (s : State) (c : CoreRef) (slot reg t n : Nat) (acc : Bool),
    let g : SlotRef := ⟨c.die, c.core, slot⟩
    (s.hasGrp g = true → exec (.coreStorageUncorrectable c (.regs slot reg)) s = .next
      (s.endTaskWith (s.grp g).task causeDfault 0x10 0 (s.handle g) 0 0 (BitVec.ofNat 64 reg))) ∧
    ((s.team t).retired = false → c ∈ (s.team t).cores → exec (.coreStorageUncorrectable c (.scratchpad t)) s = .next
      (s.endTask (s.team t).task causeDfault 0x10 0 0 0 0)) ∧
    ((s.core c).owner = none → exec (.coreStorageUncorrectable c .constants) s = .next s) ∧
    (∀ k, (s.core c).owner = some k → ∃ u, exec (.coreStorageUncorrectable c .constants) s = .next u ∧
      (u.core c).owner = none ∧ u.groups = (s.endTask k causeDfault 0x10 0 0 0 0).groups) ∧
    (((s.core c).slotTeams acc).look n = none → exec (.engineStorageUncorrectable c acc n) s = .next s) ∧
    (∀ m, ((s.core c).slotTeams acc).look n = some m → m < 2 ^ 64 → exec (.engineStorageUncorrectable c acc n) s = .next
      (s.endTask (s.team m).task causeDfault 0x10 0 (handleOf ⟨c.die, c.core, 0⟩ 0) 0 0))) ∧
  (∀ (s : State) (g : SlotRef) (o : Op) (c : CtxId) (line obj : Nat),
    let noted := fun (u : State) => u.record true (recordWords 0x22 0 0 0 0 0 (BitVec.ofNat 64 (64 * line)) 0 0 0)
    let ended := fun (g : SlotRef) (clause : DWord) (i : Nat) =>
      noted (s.endTask (s.grp g).task causeDfault 0x11 0 (s.handle g) clause i)
    ((s.grp g).findOp o.id = some o →
      (o.isStore = false → s.opOnLine g o line = true →
        ((s.grp g).kind = .group → exec (.memoryUncorrectable (.load g o.id line)) s = .next (ended g o.clause o.idx)) ∧
        ((s.grp g).kind = .combiner obj →
          exec (.memoryUncorrectable (.load g o.id line)) s = .next (noted (s.abortWave obj 0x15)))) ∧
      (o.reads = true → (s.grp g).kind = .group →
        exec (.memoryUncorrectable (.engine g o.id line)) s = .next (ended g o.clause o.idx)) ∧
      (o.isStore = true → s.opOnLine g o line = true → (s.grp g).kind = .combiner obj →
        exec (.memoryUncorrectable (.store g o.id line)) s = .next (noted (s.abortWave obj 0x15))) ∧
      (∀ n acc failed lines, o.kind = .store n acc failed lines → s.opOnLine g o line = true → (s.grp g).kind = .group →
        let hit := fun (a : LaneAcc) => match s.accLoc g true n a with
          | some l => isPhys l && decide (64 * line < l + n ∧ l < 64 * line + 64)
          | none => false
        ∃ v, exec (.memoryUncorrectable (.store g o.id line)) s = .next (noted v) ∧ v.mem = s.mem ∧ v.tasks = s.tasks ∧
          ((v.grp g).findOp o.id).map Op.kind = some (.store n (acc.filter (fun a => !hit a))
            (failed ++ (acc.filter hit).map (fun a => ⟨a.lane, a.va, 3, s.pageAt g a.lane a.va⟩)) lines))) ∧
    (s.mayIssue c = true → (s.grp c.g).kind = .group → exec (.memoryUncorrectable (.fetch c line)) s = .next
      (ended c.g ((s.grp c.g).ctx c.i).clause ((s.grp c.g).ctx c.i).idx)) ∧
    (∀ m, s.mordant.look obj = some m → m.wave.isSome = true → line ∈ m.heldLines →
      exec (.memoryUncorrectable (.held obj line)) s = .next (noted (s.abortWave obj 0x15)))) ∧
  (∀ (s : State) (k cause sub : Nat) (addr handle clause : DWord) (idx : Nat), (s.tasks.look k).isSome = true →
    let u := s.endTask k cause sub addr handle clause idx
    (u.task k).cause = some ((s.task k).cause.getD cause) ∧
      (∀ g, s.hasGrp g = true → (s.grp g).task = k → (u.grp g).ctxs = [] ∧ (u.grp g).records = []))

/-- 00 R6, 23 R349, 25 R382, R383, 27 R390-R400. That memory's bytes outlive a package reset (log 37) and what else it drops (log
85), that boot loads each good Umber image in turn (log 86), log 91 and log 119 (the part's own peer id) are the model's
choices; signatures are Config's (log 12). -/
def Obligations.OutsideEvents : Prop :=
  (∀ s : State, ∃ u, exec .packageReset s = .next u ∧ u.groups = [] ∧ u.teams = [] ∧ u.tasks = [] ∧ u.cores = [] ∧
    u.dies = [] ∧ u.io = IoDie.empty ∧ u.mordant = [] ∧ u.channels = [] ∧ u.taskQueues = [] ∧ u.tick = 0 ∧
    ∀ p, u.byte p = if p < 2 ^ 60 then s.byte p else 0) ∧
  (∀ (s : State) (xs : List FirmwareImage),
    (s.io.boot.booted = true ∨ s.io.boot.failed ≠ none ∨ xs.length < 2 → exec (.bootVerify xs) s = .next s) ∧
    (s.io.boot.booted = false → s.io.boot.failed = none → 2 ≤ xs.length →
      (∀ x y r, xs = x :: y :: r → Config.signatureValid x.bytes x.signature = true →
        Config.signatureValid y.bytes y.signature = true →
        let good := r.filter (fun z => Config.signatureValid z.bytes z.signature && (umberOf z).isSome)
        ∃ u, exec (.bootVerify xs) s = .next u ∧ u.io.boot.booted = true ∧ u.io.boot.failed = none ∧
          u.io.boot.log = s.io.boot.log ++ (x :: y :: good).map (fun z => sha256 z.bytes) ∧
          (∀ z im d, good.getLast? = some z → umberOf z = some im → d < 4 → (u.die d).umber = some im) ∧
          (good = [] → u.dies = s.dies) ∧ (good = r → u.mem = s.mem)) ∧
      (∀ x r, xs = x :: r → Config.signatureValid x.bytes x.signature = false → ∃ u, exec (.bootVerify xs) s = .next u ∧
        u.io.boot.booted = false ∧ u.io.boot.failed = some 0 ∧ u.mem = s.mem) ∧
      (∀ x y r, xs = x :: y :: r → Config.signatureValid x.bytes x.signature = true →
        Config.signatureValid y.bytes y.signature = false → ∃ u, exec (.bootVerify xs) s = .next u ∧
          u.io.boot.booted = false ∧ u.io.boot.failed = some 1 ∧ u.io.boot.log = s.io.boot.log ++ [sha256 x.bytes] ∧
          u.mem = s.mem))) ∧
  (∀ (s : State) (x : FirmwareImage), s.umberNext = none →
    (∀ im, Config.signatureValid x.bytes x.signature = true → umberOf x = some im →
      exec (.umberImageLoad x) s = .next { s with umberNext := some im }) ∧
    (Config.signatureValid x.bytes x.signature = false ∨ umberOf x = none →
      ∃ u, exec (.umberImageLoad x) s = .next u ∧ u.umberNext = none ∧ u.dies = s.dies ∧ u.groups = s.groups)) ∧
  (∀ s : State, (s.umberNext = none → exec .umberReplaceComplete s = .next s) ∧
    (∀ im, s.umberNext = some im → ∃ u, exec .umberReplaceComplete s = .next u ∧ u.umberNext = none ∧
      (∀ d, d < 4 → (u.die d).umber = some im) ∧ (∀ d, (u.die d).expert = (s.die d).expert) ∧ u.mem = s.mem ∧
      u.io.boot.log = s.io.boot.log ++ [sha256 im.bytes])) ∧
  (∀ (s : State) (nonce : List Byte),
    (nonce.length = 32 → ∃ u, exec (.attestationReport nonce) s = .next u ∧ u.mem = s.mem ∧ u.groups = s.groups ∧
      u.io.boot.report = some (nonce, Config.serialNumber, s.io.boot.log,
        Config.sign (nonce ++ (List.range 8).map (byteOf Config.serialNumber.toNat) ++ s.io.boot.log.flatten))) ∧
    (nonce.length ≠ 32 → exec (.attestationReport nonce) s = .next s)) ∧
  (∀ (s : State) (n : Nat), exec (.powerThrottle n) s = .next s) ∧
  (∀ (s : State) (pa n : Nat) (bs : List Byte),
    (∃ u, exec (.hostMemoryAccess (.read pa n)) s = .next u ∧ u.mem = s.mem ∧ u.groups = s.groups ∧ u.io = s.io ∧
      (frameExists pa n = true → s.placesBusy ((List.range n).map (fun i => pa + i)) = false →
        ∀ k ls i, (k, ls) ∈ u.atomicLines → i < n → (pa + i) / 64 ∉ ls)) ∧
    (frameExists pa bs.length = false → exec (.hostMemoryAccess (.write pa bs)) s = .next s) ∧
    (frameExists pa bs.length = true → s.placesBusy ((List.range bs.length).map (fun i => pa + i)) = false →
      ∃ u, exec (.hostMemoryAccess (.write pa bs)) s = .next u ∧ u.groups = s.groups ∧ u.io = s.io ∧
        (∀ i, i < bs.length → u.byte (pa + i) = bs.getD i 0) ∧
        (∀ p, p < pa ∨ pa + bs.length ≤ p → u.byte p = s.byte p))) ∧
  (∀ (s : State) (peer win n : Nat) (va : DWord) (bs : List Byte) (code : Nat) (ws : List Word),
    (∃ u, exec (.peerRequest (.read peer win va n)) s = .next u ∧ u.mem = s.mem ∧ u.groups = s.groups ∧ u.io = s.io) ∧
    (exportWindowOf win = none →
      exec (.peerRequest (.write peer win va bs)) s = .next s ∧ exec (.peerRequest (.atomic peer win va code ws)) s = .next s) ∧
    (∀ w ps, exportWindowOf win = some w → s.peerPlaces w.asid va bs.length = some (ps, true) → ps.Nodup →
      (inWindow w va bs.length true = false → exec (.peerRequest (.write peer win va bs)) s = .next s) ∧
      (inWindow w va bs.length true = true → s.placesBusy ps = false →
        ∃ u, exec (.peerRequest (.write peer win va bs)) s = .next u ∧ u.groups = s.groups ∧
          (∀ i, i < bs.length → u.byte (ps.getD i 0) = bs.getD i 0) ∧ (∀ p, p ∉ ps → u.byte p = s.byte p))) ∧
    (∀ w a r x, exportWindowOf win = some w → s.peerPlaces w.asid va 4 = some (a :: r, true) →
      inWindow w va 4 true = true → va.toNat % 4 = 0 → s.placesBusy (a :: r) = false → ws = [x] →
      ∃ u, exec (.peerRequest (.atomic peer win va 0x20 ws)) s = .next u ∧
        u.readN a 4 = (s.readN a 4 + x.toNat) % 2 ^ 32 ∧ (∀ p, p < a ∨ a + 4 ≤ p → u.byte p = s.byte p)))

end
end

