-- ==== Sys2Proof/Laws/Store.lean ====
section
/-! SUPPORT. Laws of the finite maps: read after write, and the canonical form kept. -/

namespace Sys2Proof.Machine

variable {α : Type}

@[simp] theorem SMap.look_ins_self (m : SMap α) (i : Nat) (v : α) : (m.ins i v).look i = some v := by
  induction m with
  | nil => simp [SMap.ins, SMap.look]
  | cons e r ih =>
    obtain ⟨k, w⟩ := e
    unfold SMap.ins
    split
    · simp [SMap.look]
    · split
      · simp [SMap.look]
      · rename_i h1 h2
        have : k ≠ i := fun h => h2 h.symm
        simp [SMap.look, this, ih]

@[simp] theorem SMap.look_ins_ne (m : SMap α) (i j : Nat) (v : α) (h : j ≠ i) : (m.ins i v).look j = m.look j := by
  induction m with
  | nil => simp [SMap.ins, SMap.look, h.symm]
  | cons e r ih =>
    obtain ⟨k, w⟩ := e
    unfold SMap.ins
    split
    · simp [SMap.look, h.symm]
    · split
      · rename_i h1 h2
        subst h2
        simp [SMap.look, h.symm]
      · simp [SMap.look, ih]

theorem SMap.look_ins (m : SMap α) (i j : Nat) (v : α) : (m.ins i v).look j = if j = i then some v else m.look j := by
  by_cases h : j = i
  · subst h; simp
  · simp [h]

@[simp] theorem SMap.look_del_self (m : SMap α) (i : Nat) : (m.del i).look i = none := by
  induction m with
  | nil => simp [SMap.del, SMap.look]
  | cons e r ih =>
    obtain ⟨k, w⟩ := e
    unfold SMap.del
    split
    · exact ih
    · rename_i h
      simp [SMap.look, h, ih]

@[simp] theorem SMap.look_del_ne (m : SMap α) (i j : Nat) (h : j ≠ i) : (m.del i).look j = m.look j := by
  induction m with
  | nil => simp [SMap.del, SMap.look]
  | cons e r ih =>
    obtain ⟨k, w⟩ := e
    unfold SMap.del
    split
    · rename_i hk
      subst hk
      simp [SMap.look, h.symm, ih]
    · simp [SMap.look, ih]

theorem SMap.look_upd (m : SMap α) (i j : Nat) (f : α → α) :
    (m.upd i f).look j = if j = i then (m.look j).map f else m.look j := by
  induction m with
  | nil => simp [SMap.upd, SMap.look]
  | cons e r ih =>
    obtain ⟨k, w⟩ := e
    by_cases hk : k = i
    · subst hk
      by_cases hj : k = j
      · subst hj; simp [SMap.upd, SMap.look]
      · have hj' : j ≠ k := fun h => hj h.symm
        simp [SMap.upd, SMap.look, hj, ih, hj']
    · by_cases hj : k = j
      · subst hj; simp [SMap.upd, SMap.look, hk]
      · simp [SMap.upd, SMap.look, hk, hj, ih]

@[simp] theorem SMap.look_upd_self (m : SMap α) (i : Nat) (f : α → α) : (m.upd i f).look i = (m.look i).map f := by
  simp [SMap.look_upd]

@[simp] theorem SMap.look_upd_ne (m : SMap α) (i j : Nat) (f : α → α) (h : j ≠ i) : (m.upd i f).look j = m.look j := by
  simp [SMap.look_upd, h]

/-- Reading through a map over the values. -/
theorem SMap.look_mapVals {β : Type} (m : SMap α) (f : Nat → α → β) (i : Nat) :
    SMap.look (m.map (fun e => (e.1, f e.1 e.2))) i = (m.look i).map (f i) := by
  induction m with
  | nil => simp [SMap.look]
  | cons e r ih =>
    obtain ⟨k, w⟩ := e
    by_cases hk : k = i
    · subst hk; simp [SMap.look]
    · simp [SMap.look, hk, ih]

variable [DecidableEq α]

theorem SMap.get_put (m : SMap α) (d : α) (i j : Nat) (v : α) :
    (m.put d i v).get d j = if j = i then v else m.get d j := by
  unfold SMap.put SMap.get
  by_cases h : v = d
  · by_cases hj : j = i
    · subst hj; simp [h]
    · simp [h, hj]
  · by_cases hj : j = i
    · subst hj; simp [h]
    · simp [h, hj]

@[simp] theorem SMap.get_put_self (m : SMap α) (d : α) (i : Nat) (v : α) : (m.put d i v).get d i = v := by
  simp [SMap.get_put]

@[simp] theorem SMap.get_put_ne (m : SMap α) (d : α) (i j : Nat) (v : α) (h : j ≠ i) :
    (m.put d i v).get d j = m.get d j := by
  simp [SMap.get_put, h]

/-! ## The canonical form -/

omit [DecidableEq α] in
/-- Every key is above k. -/
theorem SMap.rising_tail {e : Nat × α} {r : SMap α} (h : SMap.rising (e :: r) = true) : r.rising = true := by
  obtain ⟨k, w⟩ := e
  cases r with
  | nil => rfl
  | cons e' r' =>
    obtain ⟨k', w'⟩ := e'
    simp [SMap.rising] at h
    exact h.2

omit [DecidableEq α] in
theorem SMap.rising_lt {k : Nat} {w : α} {r : SMap α} (h : SMap.rising ((k, w) :: r) = true) :
    ∀ e ∈ r, k < e.1 := by
  induction r generalizing k w with
  | nil => simp
  | cons e' r' ih =>
    obtain ⟨k', w'⟩ := e'
    simp [SMap.rising] at h
    intro e he
    simp at he
    rcases he with rfl | he
    · exact h.1
    · exact Nat.lt_trans h.1 (ih h.2 e he)

omit [DecidableEq α] in
theorem SMap.rising_cons {k : Nat} {w : α} {r : SMap α} (h : r.rising = true) (hk : ∀ e ∈ r, k < e.1) :
    SMap.rising ((k, w) :: r) = true := by
  cases r with
  | nil => rfl
  | cons e' r' =>
    obtain ⟨k', w'⟩ := e'
    simp [SMap.rising]
    exact ⟨hk (k', w') (by simp), h⟩

omit [DecidableEq α] in
theorem SMap.mem_ins {m : SMap α} {i : Nat} {v : α} {e : Nat × α} (h : e ∈ m.ins i v) : e = (i, v) ∨ e ∈ m := by
  induction m with
  | nil => simpa [SMap.ins] using h
  | cons x r ih =>
    obtain ⟨k, w⟩ := x
    unfold SMap.ins at h
    split at h
    · simpa using h
    · split at h
      · simp at h
        rcases h with h | h
        · exact .inl h
        · exact .inr (by simp [h])
      · simp at h
        rcases h with h | h
        · exact .inr (by simp [h])
        · rcases ih h with h | h
          · exact .inl h
          · exact .inr (by simp [h])

omit [DecidableEq α] in
theorem SMap.rising_ins (m : SMap α) (i : Nat) (v : α) (h : m.rising = true) : (m.ins i v).rising = true := by
  induction m with
  | nil => rfl
  | cons x r ih =>
    obtain ⟨k, w⟩ := x
    unfold SMap.ins
    split
    · rename_i hi
      refine SMap.rising_cons h ?_
      intro e he
      simp at he
      rcases he with rfl | he
      · exact hi
      · exact Nat.lt_trans hi (SMap.rising_lt h e he)
    · split
      · rename_i h1 h2
        subst h2
        exact SMap.rising_cons (SMap.rising_tail h) (SMap.rising_lt h)
      · rename_i h1 h2
        refine SMap.rising_cons (ih (SMap.rising_tail h)) ?_
        intro e he
        rcases SMap.mem_ins he with rfl | he
        · simp; omega
        · exact SMap.rising_lt h e he

omit [DecidableEq α] in
theorem SMap.mem_del {m : SMap α} {i : Nat} {e : Nat × α} (h : e ∈ m.del i) : e ∈ m := by
  induction m with
  | nil => simp [SMap.del] at h
  | cons x r ih =>
    obtain ⟨k, w⟩ := x
    unfold SMap.del at h
    split at h
    · simp [ih h]
    · simp at h
      rcases h with h | h
      · simp [h]
      · simp [ih h]

omit [DecidableEq α] in
theorem SMap.rising_del (m : SMap α) (i : Nat) (h : m.rising = true) : (m.del i).rising = true := by
  induction m with
  | nil => rfl
  | cons x r ih =>
    obtain ⟨k, w⟩ := x
    unfold SMap.del
    split
    · exact ih (SMap.rising_tail h)
    · exact SMap.rising_cons (ih (SMap.rising_tail h)) (fun e he => SMap.rising_lt h e (SMap.mem_del he))

omit [DecidableEq α] in
theorem SMap.rising_filter (m : SMap α) (f : Nat × α → Bool) (h : m.rising = true) :
    SMap.rising (m.filter f) = true := by
  induction m with
  | nil => rfl
  | cons x r ih =>
    obtain ⟨k, w⟩ := x
    by_cases hf : f (k, w) = true
    · rw [List.filter_cons_of_pos hf]
      exact SMap.rising_cons (ih (SMap.rising_tail h)) (fun e he => SMap.rising_lt h e (List.mem_of_mem_filter he))
    · rw [List.filter_cons_of_neg hf]
      exact ih (SMap.rising_tail h)

/-- Inserting a value other than the default keeps the canonical form. -/
theorem SMap.wf_ins (m : SMap α) (d : α) (i : Nat) (v : α) (hv : v ≠ d) (h : m.wf d = true) : (m.ins i v).wf d = true := by
  simp only [SMap.wf, Bool.and_eq_true, List.all_eq_true, decide_eq_true_eq] at *
  refine ⟨SMap.rising_ins m i v h.1, ?_⟩
  intro e he
  rcases SMap.mem_ins he with rfl | he
  · exact hv
  · exact h.2 e he

theorem SMap.wf_del (m : SMap α) (d : α) (i : Nat) (h : m.wf d = true) : (m.del i).wf d = true := by
  simp only [SMap.wf, Bool.and_eq_true, List.all_eq_true, decide_eq_true_eq] at *
  exact ⟨SMap.rising_del m i h.1, fun e he => h.2 e (SMap.mem_del he)⟩

/-- A write keeps the canonical form. -/
theorem SMap.wf_put (m : SMap α) (d : α) (i : Nat) (v : α) (h : m.wf d = true) : (m.put d i v).wf d = true := by
  unfold SMap.put
  split
  · exact SMap.wf_del m d i h
  · rename_i hv
    exact SMap.wf_ins m d i v hv h

theorem SMap.wf_filter (m : SMap α) (d : α) (f : Nat × α → Bool) (h : m.wf d = true) :
    SMap.wf (m.filter f) d = true := by
  simp only [SMap.wf, Bool.and_eq_true, List.all_eq_true, decide_eq_true_eq] at *
  exact ⟨SMap.rising_filter m f h.1, fun e he => h.2 e (List.mem_of_mem_filter he)⟩

end Sys2Proof.Machine
end

