-- ==== Sys2Proof/Laws/Charge.lean ====
section
/-! SUPPORT. What charging a budget may change: the counters and nothing that a view of Safety shows (19 R295-R301). -/

namespace Sys2Proof.Machine

/-- Nothing that the views show has changed. -/
structure Quiet (s t : State) : Prop where
  names : t.names = s.names
  groups : ∀ g, (t.grp g).bare = (s.grp g).bare
  teams : ∀ k, (t.team k).bare = (s.team k).bare
  tasks : ∀ k, (t.task k).bare = (s.task k).bare
  cores : ∀ c, (t.core c).bare = (s.core c).bare
  rest : t.bare = s.bare

theorem Quiet.refl (s : State) : Quiet s s := ⟨rfl, fun _ => rfl, fun _ => rfl, fun _ => rfl, fun _ => rfl, rfl⟩

theorem Quiet.trans {s t u : State} (a : Quiet s t) (b : Quiet t u) : Quiet s u :=
  ⟨b.names.trans a.names, fun g => (b.groups g).trans (a.groups g), fun k => (b.teams k).trans (a.teams k),
   fun k => (b.tasks k).trans (a.tasks k), fun c => (b.cores c).trans (a.cores c), b.rest.trans a.rest⟩

/-- A default read after a view-preserving update of a map. -/
theorem get_upd_view {α β : Type} (m : SMap α) (d : α) (i j : Nat) (f : α → α) (v : α → β) (h : ∀ x, v (f x) = v x) :
    v ((m.upd i f).get d j) = v (m.get d j) := by
  unfold SMap.get
  rw [SMap.look_upd]
  split
  · cases m.look j <;> simp [h]
  · rfl

theorem keys_upd {α : Type} (m : SMap α) (i : Nat) (f : α → α) : (m.upd i f).keys = m.keys := by
  induction m with
  | nil => rfl
  | cons e r ih =>
    obtain ⟨k, w⟩ := e
    simp only [SMap.upd, SMap.keys] at *
    split <;> simp [ih]

theorem look_isSome {α : Type} (m : SMap α) (i : Nat) : (m.look i).isSome = decide (i ∈ m.keys) := by
  induction m with
  | nil => rfl
  | cons e r ih =>
    obtain ⟨k, w⟩ := e
    simp only [SMap.look, SMap.keys, List.map_cons, List.mem_cons] at *
    by_cases h : k = i
    · simp [h]
    · simp only [h, ih, Ne.symm h, if_false, false_or]
      exact decide_eq_decide.mpr Iff.rfl

theorem quiet_modGrp (s : State) (g : SlotRef) (f : Group → Group) (h : ∀ x, (f x).bare = x.bare) :
    Quiet s (s.modGrp g f) :=
  ⟨by simp [State.names, State.modGrp, keys_upd], fun k => get_upd_view s.groups Group.empty g.key k.key f Group.bare h, fun _ => rfl, fun _ => rfl, fun _ => rfl, rfl⟩

theorem quiet_modTeam (s : State) (k : Nat) (f : Team → Team) (h : ∀ x, (f x).bare = x.bare) :
    Quiet s (s.modTeam k f) :=
  ⟨by simp [State.names, State.modTeam, keys_upd], fun _ => rfl, fun j => get_upd_view s.teams Team.empty k j f Team.bare h, fun _ => rfl, fun _ => rfl, rfl⟩

theorem quiet_modTask (s : State) (k : Nat) (f : Task → Task) (h : ∀ x, (f x).bare = x.bare) :
    Quiet s (s.modTask k f) :=
  ⟨by simp [State.names, State.modTask, keys_upd], fun _ => rfl, fun _ => rfl, fun j => get_upd_view s.tasks Task.empty k j f Task.bare h, fun _ => rfl, rfl⟩

theorem quiet_modCore (s : State) (c : CoreRef) (f : Core → Core) (h : ∀ x, (f x).bare = x.bare) :
    Quiet s (s.modCore c f) := by
  refine ⟨rfl, fun _ => rfl, fun _ => rfl, fun _ => rfl, fun d => ?_, rfl⟩
  unfold State.core State.modCore SMap.get
  simp only
  rw [SMap.look_ins]
  split
  · rename_i hk
    simp only [Option.getD_some, h]
    simp [State.core, SMap.get, hk]
  · rfl

theorem quiet_count (s : State) (c : CoreRef) (src n : Nat) : Quiet s (s.count c src n) :=
  quiet_modCore s c _ (fun _ => rfl)

theorem quiet_chargeTeam (s : State) (t : Nat) (ni nt : Int) : Quiet s (s.chargeTeam t ni nt) :=
  quiet_modTeam s t _ (fun _ => rfl)

theorem quiet_chargePool (s : State) (k : Nat) (ni nt : Int) : Quiet s (s.chargePool k ni nt) :=
  quiet_modTask s k _ (fun _ => rfl)

/-- A charge changes nothing that the views show. -/
theorem quiet_chargeAt (s : State) (g : SlotRef) (ni nt : Int) : Quiet s (s.chargeAt g ni nt) := by
  unfold State.chargeAt
  refine Quiet.trans ?_ ((quiet_count _ _ _ _).trans (quiet_count _ _ _ _))
  split
  · split
    · exact quiet_chargeTeam _ _ _ _
    · exact quiet_chargePool _ _ _ _
  · exact quiet_chargeTeam _ _ _ _

theorem quiet_countIssue (s : State) : Quiet s s.countIssue := by
  unfold State.countIssue State.modMe
  refine Quiet.trans ?_ (quiet_count _ _ _ _)
  exact quiet_modGrp s s.cur.g _ (fun _ => rfl)

/-- Issuing and charging an instruction changes nothing that the views show. -/
theorem quiet_charge (s : State) (n : Nat) : Quiet s (s.charge n) :=
  (quiet_countIssue s).trans (quiet_chargeAt _ _ _ _)

/-! ## Composition with a group's own effect -/

/-- A function of groups that the view respects. -/
def Respects (f : Group → Group) : Prop := ∀ x y, x.bare = y.bare → (f x).bare = (f y).bare

theorem Quiet.only {s t u : State} {g : SlotRef} {f : Group → Group} (a : Quiet s t) (hf : Respects f)
    (b : OnlyGroup g f t u) : OnlyGroup g f s u :=
  ⟨b.names.trans a.names, b.here.trans (hf _ _ (a.groups g)), fun h n => (b.others h n).trans (a.groups h),
   fun k => (b.teams k).trans (a.teams k), fun k => (b.tasks k).trans (a.tasks k),
   fun c => (b.cores c).trans (a.cores c), b.rest.trans a.rest⟩

theorem only_comp {s t u : State} {g : SlotRef} {f h : Group → Group} (a : OnlyGroup g f s t) (hh : Respects h)
    (b : OnlyGroup g h t u) : OnlyGroup g (fun x => h (f x)) s u :=
  ⟨b.names.trans a.names, b.here.trans (hh _ _ a.here), fun k n => (b.others k n).trans (a.others k n),
   fun k => (b.teams k).trans (a.teams k), fun k => (b.tasks k).trans (a.tasks k),
   fun c => (b.cores c).trans (a.cores c), b.rest.trans a.rest⟩

theorem only_quiet {s t u : State} {g : SlotRef} {f : Group → Group} (a : OnlyGroup g f s t) (b : Quiet t u) :
    OnlyGroup g f s u :=
  ⟨b.names.trans a.names, (b.groups g).trans a.here, fun k n => (b.groups k).trans (a.others k n),
   fun k => (b.teams k).trans (a.teams k), fun k => (b.tasks k).trans (a.tasks k),
   fun c => (b.cores c).trans (a.cores c), b.rest.trans a.rest⟩

/-- Changing one group that stands. -/
theorem only_modGrp (s : State) (g : SlotRef) (f : Group → Group) (h : s.hasGrp g = true) :
    OnlyGroup g f s (s.modGrp g f) := by
  refine ⟨by simp [State.names, State.modGrp, keys_upd], ?_, ?_, fun _ => rfl, fun _ => rfl, fun _ => rfl, rfl⟩
  · unfold State.hasGrp at h
    simp only [State.grp, State.modGrp, SMap.get, SMap.look_upd_self]
    cases hl : s.groups.look g.key with
    | none => simp [hl] at h
    | some x => simp
  · intro k n
    simp [State.grp, State.modGrp, SMap.get, SMap.look_upd_ne _ _ _ _ n]

theorem Respects.modCtx {i : Nat} {F : Context → Context}
    (hF : ∀ c d, c.bare = d.bare → (F c).bare = (F d).bare) : Respects (Group.modCtx i F) := by
  intro x y h
  have hc : x.ctxs.map (fun e => (e.1, e.2.bare)) = y.ctxs.map (fun e => (e.1, e.2.bare)) := congrArg Group.ctxs h
  have key : ∀ (a b : SMap Context), a.map (fun e => (e.1, e.2.bare)) = b.map (fun e => (e.1, e.2.bare)) →
      (a.upd i F).map (fun e => (e.1, e.2.bare)) = (b.upd i F).map (fun e => (e.1, e.2.bare)) := by
    intro a
    induction a with
    | nil =>
      intro b hb
      cases b with
      | nil => rfl
      | cons _ _ => simp at hb
    | cons e r ih =>
      intro b hb
      cases b with
      | nil => simp at hb
      | cons e' r' =>
        obtain ⟨k, c⟩ := e
        obtain ⟨k', c'⟩ := e'
        simp only [List.map_cons, List.cons.injEq, Prod.mk.injEq] at hb
        obtain ⟨⟨rfl, hcc⟩, hr⟩ := hb
        simp only [SMap.upd]
        split
        · simp [hF _ _ hcc, ih r' hr]
        · simp [hcc, ih r' hr]
  have h0 := congrArg (fun g : Group => { g with ctxs := [] }) h
  simp only [Group.bare, Group.modCtx] at h0 ⊢
  have h1 := key _ _ hc
  rw [h1]
  cases x; cases y
  simp_all

theorem Quiet.cur {s t : State} (a : Quiet s t) : t.cur = s.cur :=
  have h : t.bare.cur = s.bare.cur := congrArg State.cur a.rest
  h

theorem Quiet.hasGrp {s t : State} (a : Quiet s t) (g : SlotRef) : t.hasGrp g = s.hasGrp g := by
  unfold State.hasGrp
  rw [look_isSome, look_isSome]
  have h : t.groups.keys = s.groups.keys := congrArg Prod.fst a.names
  rw [h]

theorem hasGrp_of_here {s : State} (h : s.here = true) : s.hasGrp s.cur.g = true := by
  unfold State.here State.hasCtx State.grp SMap.get at h
  unfold State.hasGrp
  cases hl : s.groups.look s.cur.g.key with
  | none => simp [hl, Group.empty, SMap.look] at h
  | some _ => rfl

theorem Respects.comp {f h : Group → Group} (hf : Respects f) (hh : Respects h) : Respects (fun x => h (f x)) :=
  fun _ _ e => hh _ _ (hf _ _ e)

theorem bare_advance (n : Nat) (b : Bool) {c d : Context} (h : c.bare = d.bare) :
    (c.advance n b).bare = (d.advance n b).bare := by
  cases c; cases d
  simp only [Context.bare, Context.advance, Context.mk.injEq] at h ⊢
  simp_all

theorem Respects.goOn (i n : Nat) : Respects (Group.goOn i n) := Respects.modCtx (fun _ _ h => bare_advance n false h)

/-- The time of the last issue shows in no view. -/
theorem goOn_stamp (i n k : Nat) (g : Group) :
    (g.modCtx i (fun c => { c.advance n false with lastIssue := k })).bare = (g.goOn i n).bare := by
  have key : ∀ a : SMap Context,
      (a.upd i (fun c => { c.advance n false with lastIssue := k })).map (fun e => (e.1, e.2.bare)) =
        (a.upd i (Context.advance n false)).map (fun e => (e.1, e.2.bare)) := by
    intro a
    induction a with
    | nil => rfl
    | cons e r ih =>
      obtain ⟨j, c⟩ := e
      simp only [SMap.upd]
      split
      · exact congrArg (List.cons (j, (c.advance n false).bare)) ih
      · exact congrArg (List.cons (j, c.bare)) ih
  simp [Group.goOn, Group.modCtx, Group.bare, key]

/-! ## What a team pays -/

theorem ci_modGrp (s : State) (g : SlotRef) (f : Group → Group) (t : Nat) : (s.modGrp g f).team t = s.team t := rfl
theorem team_modCore (s : State) (c : CoreRef) (f : Core → Core) (t : Nat) : (s.modCore c f).team t = s.team t := rfl
theorem team_count (s : State) (c : CoreRef) (k n t : Nat) : (s.count c k n).team t = s.team t := rfl

/-- A change of teams that leaves what the counters hold. -/
def SameCount (s t : State) : Prop := ∀ k, (t.team k).ci = (s.team k).ci ∧ (t.team k).ct = (s.team k).ct

theorem SameCount.refl (s : State) : SameCount s s := fun _ => ⟨rfl, rfl⟩
theorem SameCount.trans {s t u : State} (a : SameCount s t) (b : SameCount t u) : SameCount s u :=
  fun k => ⟨(b k).1.trans (a k).1, (b k).2.trans (a k).2⟩

theorem same_modTeam (s : State) (t : Nat) (f : Team → Team) (h1 : ∀ m, (f m).ci = m.ci) (h2 : ∀ m, (f m).ct = m.ct) :
    SameCount s (s.modTeam t f) :=
  fun k => ⟨get_upd_view s.teams Team.empty t k f Team.ci h1, get_upd_view s.teams Team.empty t k f Team.ct h2⟩

theorem same_startTopups (s : State) (t : Nat) : SameCount s (s.startTopups t) := by
  unfold State.startTopups
  simp only
  have step : ∀ (s : State) (k : Nat) (f : Task → Task) (h : Team → Team), (∀ x, (h x).ci = x.ci) →
      (∀ x, (h x).ct = x.ct) → SameCount s ((s.modTask k f).modTeam t h) :=
    fun s k f h a b => SameCount.trans (t := s.modTask k f) (fun _ => ⟨rfl, rfl⟩) (same_modTeam _ t h a b)
  split <;> split
  · refine SameCount.trans ?_ (step _ _ _ _ ?_ ?_)
    · exact step s _ _ _ (fun _ => rfl) (fun _ => rfl)
    · exact fun _ => rfl
    · exact fun _ => rfl
  · exact step s _ _ _ (fun _ => rfl) (fun _ => rfl)
  · exact step s _ _ _ (fun _ => rfl) (fun _ => rfl)
  · exact SameCount.refl s

theorem same_yieldTest (s : State) (t : Nat) : SameCount s (s.yieldTest t) := by
  unfold State.yieldTest
  simp only
  split
  · split
    · exact same_modTeam s t _ (fun _ => rfl) (fun _ => rfl)
    · exact SameCount.refl s
  · split
    · exact same_modTeam s t (fun m => { m with yieldPending := true }) (fun _ => rfl) (fun _ => rfl)
    · exact SameCount.refl s

/-- What ends a core cycle leaves every team's counters as they are (19 R295). -/
theorem same_settle (s : State) : SameCount s s.settle := by
  unfold State.settle
  generalize s.teams.keys = l
  induction l generalizing s with
  | nil => exact SameCount.refl s
  | cons t r ih =>
    rw [List.foldl_cons]
    refine SameCount.trans ?_ (ih _)
    split
    · exact SameCount.refl s
    · exact (same_startTopups s t).trans (same_yieldTest _ t)

theorem chargeTeam_pays (s : State) (t : Nat) (ni nt : Int) (h : (s.teams.look t).isSome = true) :
    ((s.chargeTeam t ni nt).team t).ci = sat64 ((s.team t).ci - ni) ∧
      ((s.chargeTeam t ni nt).team t).ct = sat64 ((s.team t).ct - nt) := by
  unfold State.chargeTeam
  simp only [State.team, State.modTeam, SMap.get, SMap.look_upd_self]
  cases hl : s.teams.look t with
  | none => simp [hl] at h
  | some m => simp

theorem plain_here {s : State} (h : s.plain = true) : s.here = true := by
  simp only [State.plain, State.placed, Bool.and_eq_true] at h; exact h.1.1.1

/-- Issuing an instruction of a plain group makes its team pay. -/
theorem charge_pays (s : State) (n : Nat) (h : s.plain = true) : Paid n 0 s (s.charge n) := by
  have hq := quiet_countIssue s
  have hh : s.hasGrp s.cur.g = true := hasGrp_of_here (plain_here h)
  have hme : (s.countIssue.grp s.cur.g).kind = s.me.kind ∧ (s.countIssue.grp s.cur.g).team = s.me.team := by
    have e := hq.groups s.cur.g
    have e1 : (s.countIssue.grp s.cur.g).bare.kind = s.me.bare.kind := congrArg Group.kind e
    have e2 : (s.countIssue.grp s.cur.g).bare.team = s.me.bare.team := congrArg Group.team e
    exact ⟨e1, e2⟩
  have ht : (s.countIssue.teams.look s.me.team).isSome = true := by
    simp only [State.plain, State.placed, Bool.and_eq_true] at h
    exact h.1.1.2
  have hteam : ∀ k, s.countIssue.team k = s.team k := fun _ => rfl
  have hp : s.me.isPlain = true := by
    simp only [State.plain, Bool.and_eq_true] at h; exact h.2
  have base := chargeTeam_pays s.countIssue s.me.team n 0 ht
  unfold State.charge State.chargeAt Paid
  simp only [hme.1, hme.2]
  unfold Group.isPlain at hp
  rw [team_count, team_count]
  split
  · rename_i hk; rw [hk] at hp; simp at hp
  · exact base

/-- An instruction that is charged n units, changes its group by f and goes on k bytes. -/
theorem charged_runs (s : State) (n k : Nat) (f : Group → Group) (hf : Respects f) (h : s.plain = true) :
    OnlyGroup s.cur.g (fun g => (f g).goOn s.cur.i k) s (((s.charge n).modMe f).advance k) ∧
      Paid n 0 s (((s.charge n).modMe f).advance k) := by
  have hq := quiet_charge s n
  have hg : (s.charge n).hasGrp s.cur.g = true := (hq.hasGrp _).trans (hasGrp_of_here (plain_here h))
  have hc : (s.charge n).cur = s.cur := hq.cur
  refine ⟨?_, ?_⟩
  · have a := hq.only hf (only_modGrp (s.charge n) s.cur.g f hg)
    have hg2 : ((s.charge n).modGrp s.cur.g f).hasGrp s.cur.g = true := by
      unfold State.hasGrp
      rw [look_isSome]
      simp only [State.modGrp, keys_upd, ← look_isSome]
      exact hg
    have b := only_modGrp ((s.charge n).modGrp s.cur.g f) s.cur.g
      (Group.modCtx s.cur.i (fun c => { c.advance k false with lastIssue := (s.charge n).tick + 1 })) hg2
    have b' : OnlyGroup s.cur.g (Group.goOn s.cur.i k) ((s.charge n).modGrp s.cur.g f)
        (((s.charge n).modGrp s.cur.g f).modGrp s.cur.g
          (Group.modCtx s.cur.i (fun c => { c.advance k false with lastIssue := (s.charge n).tick + 1 }))) :=
      { b with here := b.here.trans (goOn_stamp _ _ _ _) }
    have r := only_comp a (Respects.goOn s.cur.i k) b'
    have e : (((s.charge n).modMe f).advance k) = ((s.charge n).modGrp s.cur.g f).modGrp s.cur.g
        (Group.modCtx s.cur.i (fun c => { c.advance k false with lastIssue := (s.charge n).tick + 1 })) := by
      unfold State.advance State.modCtx State.modMe
      have h1 : ((s.charge n).modGrp (s.charge n).cur.g f).cur = s.cur := hc
      rw [h1, hc]
      rfl
    rw [e]
    exact r
  · exact charge_pays s n h

/-- Writing a scalar register respects the view of a group. -/
theorem Respects.setS (i d : Nat) (v : DWord) : Respects (Group.modCtx i (Context.setS d v)) := by
  apply Respects.modCtx
  intro c e h
  cases c; cases e
  simp only [Context.bare, Context.mk.injEq] at h
  obtain ⟨rfl, rfl, rfl, rfl, rfl, rfl, rfl, rfl, rfl, rfl, rfl, -, rfl, -⟩ := h
  unfold Context.setS
  split <;> simp [Context.bare]

/-- A charge leaves every context of every group as it is. -/
theorem ctxs_charge (s : State) (n : Nat) (g : SlotRef) : ((s.charge n).grp g).ctxs = (s.grp g).ctxs := by
  have e : (s.charge n).groups = s.countIssue.groups := by
    unfold State.charge State.chargeAt
    simp only
    split
    · split <;> rfl
    · rfl
  unfold State.grp
  rw [e]
  exact get_upd_view s.groups Group.empty s.cur.g.key g.key _ Group.ctxs (fun _ => rfl)

/-- The stop of a context after an update of contexts that keeps stops. -/
theorem stop_modCtx (g : Group) (i j : Nat) (f : Context → Context) (h : ∀ c, (f c).stop = c.stop) :
    ((g.modCtx i f).ctx j).stop = (g.ctx j).stop :=
  get_upd_view g.ctxs Context.empty i j f Context.stop h

/-- The context of an instruction that is charged and goes on stands as it stood. -/
theorem charged_goes_on (s : State) (n k : Nat) (f : Context → Context) (h : ∀ c, (f c).stop = c.stop) :
    RunsOn s (((s.charge n).modMe (Group.modCtx s.cur.i f)).advance k) := by
  intro hr
  have hc : (s.charge n).cur = s.cur := (quiet_charge s n).cur
  have view : ∀ (t : State) (g : SlotRef) (F : Context → Context) (_ : ∀ c, (F c).stop = c.stop),
      (((t.modGrp g (Group.modCtx s.cur.i F)).grp s.cur.g).ctx s.cur.i).stop = ((t.grp s.cur.g).ctx s.cur.i).stop :=
    fun t g F hF => get_upd_view t.groups Group.empty g.key s.cur.g.key _ (fun x : Group => (x.ctx s.cur.i).stop)
      (fun x => stop_modCtx x _ _ F hF)
  unfold State.advance State.modCtx State.modMe
  have e : ((s.charge n).modGrp (s.charge n).cur.g (Group.modCtx s.cur.i f)).cur = s.cur := hc
  rw [e, hc]
  refine (view ((s.charge n).modGrp s.cur.g (Group.modCtx s.cur.i f)) s.cur.g
    (fun c => { c.advance k false with lastIssue := (s.charge n).tick + 1 }) (fun _ => rfl)).trans ((view _ _ f h).trans ?_)
  unfold Group.ctx
  rw [ctxs_charge]
  exact hr

/-- A scalar meaning that charges, writes s[d] and goes on writes s[d] and nothing else. -/
theorem writesS_of (s : State) (i : Instr) (n : Nat) (d : Nat) (v : DWord) (h : s.plain = true)
    (he : exec i s = .next (((s.charge n).setS d v).advance 4)) : WritesS n i d v s := by
  have hc : (s.charge n).cur = s.cur := (quiet_charge s n).cur
  have r := charged_runs s n 4 (Group.modCtx s.cur.i (Context.setS d v)) (Respects.setS _ _ _) h
  refine ⟨_, he, ?_⟩
  unfold State.setS State.modCtx
  rw [hc]
  exact ⟨r.1, r.2, charged_goes_on s n 4 (Context.setS d v) (fun c => by unfold Context.setS; split <;> rfl)⟩

end Sys2Proof.Machine
end

