-- ==== Sys2Proof/Laws/Memory.lean ====
section
/-! SUPPORT. Memory: what reads give after writes, what writes leave alone, and that every operation on memory keeps its
canonical form. -/

namespace Sys2Proof.Machine

/-! ## Bytes -/

theorem State.byte_setByte (s : State) (a p : Nat) (b : Byte) : (s.setByte a b).byte p = if p = a then b else s.byte p :=
  SMap.get_put s.mem 0 a p b

@[simp] theorem State.byte_setByte_self (s : State) (a : Nat) (b : Byte) : (s.setByte a b).byte a = b := by
  simp [State.byte_setByte]

theorem State.byte_setByte_ne (s : State) {a p : Nat} (b : Byte) (h : p ≠ a) : (s.setByte a b).byte p = s.byte p := by
  simp [State.byte_setByte, h]

/-- Writing n bytes, one at a time: the byte at p. -/
theorem State.byte_setBytes (a : Nat) (f : Nat → Byte) (n : Nat) (s : State) (p : Nat) :
    ((List.range n).foldl (fun s i => s.setByte (a + i) (f i)) s).byte p =
      if a ≤ p ∧ p < a + n then f (p - a) else s.byte p := by
  induction n with
  | zero => rw [if_neg (by omega)]; rfl
  | succ n ih =>
    rw [List.range_succ, List.foldl_append, List.foldl_cons, List.foldl_nil, State.byte_setByte, ih]
    by_cases h : p = a + n
    · subst h; simp
    · rw [if_neg h]
      by_cases h1 : a ≤ p ∧ p < a + n
      · rw [if_pos h1, if_pos ⟨h1.1, by omega⟩]
      · rw [if_neg h1, if_neg (by omega)]

theorem State.byte_writeN (s : State) (a n x p : Nat) :
    (s.writeN a n x).byte p = if a ≤ p ∧ p < a + n then byteOf x (p - a) else s.byte p :=
  State.byte_setBytes a (byteOf x) n s p

theorem byteOf_toNat (x i : Nat) : (byteOf x i).toNat = x / 256 ^ i % 256 := by
  simp [byteOf]

theorem byteOf_succ (x i : Nat) : byteOf x (i + 1) = byteOf (x / 256) i := by
  unfold byteOf
  rw [Nat.pow_succ, Nat.mul_comm, Nat.div_div_eq_div_mul]

/-- Bytes that agree read as the same number. -/
theorem State.readN_congr (s t : State) (a n : Nat) (h : ∀ p, a ≤ p → p < a + n → t.byte p = s.byte p) :
    t.readN a n = s.readN a n := by
  induction n generalizing a with
  | zero => rfl
  | succ n ih =>
    simp only [State.readN]
    rw [h a (Nat.le_refl _) (by omega), ih (a + 1) (fun p h1 h2 => h p (by omega) (by omega))]

/-- n bytes that hold a number read as it, modulo their width. -/
theorem State.readN_bytes (s : State) (a n x : Nat) (h : ∀ i, i < n → s.byte (a + i) = byteOf x i) :
    s.readN a n = x % 256 ^ n := by
  induction n generalizing a x with
  | zero => simp [State.readN, Nat.mod_one]
  | succ n ih =>
    simp only [State.readN]
    rw [ih (a + 1) (x / 256) (fun i hi => by
      rw [show a + 1 + i = a + (i + 1) by omega, h (i + 1) (by omega), byteOf_succ])]
    have h0 := h 0 (by omega)
    rw [Nat.add_zero] at h0
    rw [h0, byteOf_toNat, Nat.pow_zero, Nat.div_one, Nat.pow_succ, Nat.mul_comm (256 ^ n) 256, Nat.mod_mul]

theorem State.readN_writeN (s : State) (a n x : Nat) : (s.writeN a n x).readN a n = x % 256 ^ n := by
  refine State.readN_bytes _ a n x (fun i hi => ?_)
  rw [State.byte_writeN, if_pos ⟨by omega, by omega⟩, show a + i - a = i by omega]

theorem State.readN_writeN_ne (s : State) {a n x b m : Nat} (h : b + m ≤ a ∨ a + n ≤ b) :
    (s.writeN a n x).readN b m = s.readN b m :=
  State.readN_congr _ _ _ _ (fun p _ _ => by rw [State.byte_writeN, if_neg (by omega)])

/-! ## Writes change memory only -/

/-- A fold of steps that keep a view keeps it. -/
theorem foldl_keeps {α β : Type} (v : State → β) (f : State → α → State) (h : ∀ s x, v (f s x) = v s) (l : List α) (s : State) :
    v (l.foldl f s) = v s := by
  induction l generalizing s with
  | nil => rfl
  | cons x r ih => rw [List.foldl_cons, ih, h]

@[simp] theorem State.writeN_groups (s : State) (a n x : Nat) : (s.writeN a n x).groups = s.groups :=
  foldl_keeps State.groups (fun s i => s.setByte (a + i) (byteOf x i)) (fun _ _ => rfl) (List.range n) s
@[simp] theorem State.writeN_teams (s : State) (a n x : Nat) : (s.writeN a n x).teams = s.teams :=
  foldl_keeps State.teams (fun s i => s.setByte (a + i) (byteOf x i)) (fun _ _ => rfl) (List.range n) s
@[simp] theorem State.writeN_tasks (s : State) (a n x : Nat) : (s.writeN a n x).tasks = s.tasks :=
  foldl_keeps State.tasks (fun s i => s.setByte (a + i) (byteOf x i)) (fun _ _ => rfl) (List.range n) s
@[simp] theorem State.writeN_io (s : State) (a n x : Nat) : (s.writeN a n x).io = s.io :=
  foldl_keeps State.io (fun s i => s.setByte (a + i) (byteOf x i)) (fun _ _ => rfl) (List.range n) s
@[simp] theorem State.writeN_cores (s : State) (a n x : Nat) : (s.writeN a n x).cores = s.cores :=
  foldl_keeps State.cores (fun s i => s.setByte (a + i) (byteOf x i)) (fun _ _ => rfl) (List.range n) s
@[simp] theorem State.writeN_cur (s : State) (a n x : Nat) : (s.writeN a n x).cur = s.cur :=
  foldl_keeps State.cur (fun s i => s.setByte (a + i) (byteOf x i)) (fun _ _ => rfl) (List.range n) s

/-! ### What taking a line from the caches leaves alone -/

@[simp] theorem State.zeroBack_mem (s : State) (l : Nat) : (s.zeroBack l).mem = s.mem := by
  unfold State.zeroBack; split <;> rfl
@[simp] theorem State.zeroBack_groups (s : State) (l : Nat) : (s.zeroBack l).groups = s.groups := by
  unfold State.zeroBack; split <;> rfl
@[simp] theorem State.zeroBack_teams (s : State) (l : Nat) : (s.zeroBack l).teams = s.teams := by
  unfold State.zeroBack; split <;> rfl
@[simp] theorem State.zeroBack_tasks (s : State) (l : Nat) : (s.zeroBack l).tasks = s.tasks := by
  unfold State.zeroBack; split <;> rfl
@[simp] theorem State.zeroBack_io (s : State) (l : Nat) : (s.zeroBack l).io = s.io := by
  unfold State.zeroBack; split <;> rfl
@[simp] theorem State.zeroBack_cur (s : State) (l : Nat) : (s.zeroBack l).cur = s.cur := by
  unfold State.zeroBack; split <;> rfl

@[simp] theorem State.recallLine_mem (s : State) (k : Option Nat) (l : Nat) : (s.recallLine k l).mem = s.mem := by
  unfold State.recallLine; simp only; split <;> simp
@[simp] theorem State.recallLine_groups (s : State) (k : Option Nat) (l : Nat) : (s.recallLine k l).groups = s.groups := by
  unfold State.recallLine; simp only; split <;> simp
@[simp] theorem State.recallLine_teams (s : State) (k : Option Nat) (l : Nat) : (s.recallLine k l).teams = s.teams := by
  unfold State.recallLine; simp only; split <;> simp
@[simp] theorem State.recallLine_tasks (s : State) (k : Option Nat) (l : Nat) : (s.recallLine k l).tasks = s.tasks := by
  unfold State.recallLine; simp only; split <;> simp
@[simp] theorem State.recallLine_io (s : State) (k : Option Nat) (l : Nat) : (s.recallLine k l).io = s.io := by
  unfold State.recallLine; simp only; split <;> simp
@[simp] theorem State.recallLine_cur (s : State) (k : Option Nat) (l : Nat) : (s.recallLine k l).cur = s.cur := by
  unfold State.recallLine; simp only; split <;> simp

@[simp] theorem State.touchLine_mem (s : State) (b : Option CoreRef) (l : Nat) : (s.touchLine b l).mem = s.mem := 
  State.recallLine_mem s _ l
@[simp] theorem State.touchLine_groups (s : State) (b : Option CoreRef) (l : Nat) : (s.touchLine b l).groups = s.groups := 
  State.recallLine_groups s _ l
@[simp] theorem State.touchLine_teams (s : State) (b : Option CoreRef) (l : Nat) : (s.touchLine b l).teams = s.teams := 
  State.recallLine_teams s _ l
@[simp] theorem State.touchLine_tasks (s : State) (b : Option CoreRef) (l : Nat) : (s.touchLine b l).tasks = s.tasks := 
  State.recallLine_tasks s _ l
@[simp] theorem State.touchLine_io (s : State) (b : Option CoreRef) (l : Nat) : (s.touchLine b l).io = s.io := 
  State.recallLine_io s _ l
@[simp] theorem State.touchLine_cur (s : State) (b : Option CoreRef) (l : Nat) : (s.touchLine b l).cur = s.cur := 
  State.recallLine_cur s _ l

/-- A store changes what its bytes change, the lines that other caches hold, and what other agents may not have observed;
every view that these leave alone it leaves alone. -/
theorem State.store_keeps {β : Type} (v : State → β) (h1 : ∀ s a b, v (State.setByte a b s) = v s)
    (h2 : ∀ (s : State) h, v { s with hist := h } = v s) (h3 : ∀ (s : State) b l, v (s.touchLine b l) = v s)
    (s : State) (b : Option CoreRef) (a n x : Nat) : v (s.store b a n x) = v s := by
  unfold State.store
  simp only
  have hw : v (s.writeN a n x) = v s :=
    foldl_keeps v (fun s i => s.setByte (a + i) (byteOf x i)) (fun s i => h1 s _ _) (List.range n) s
  split
  · rw [foldl_keeps v (fun s i => s.touchLine b (lineOf a + i)) (fun s i => h3 s b _), h2, hw]
  · rw [h2, hw]

@[simp] theorem State.store_groups (s : State) (b : Option CoreRef) (a n x : Nat) : (s.store b a n x).groups = s.groups :=
  State.store_keeps State.groups (fun _ _ _ => rfl) (fun _ _ => rfl) (fun s b l => State.touchLine_groups s b l) s b a n x
@[simp] theorem State.store_teams (s : State) (b : Option CoreRef) (a n x : Nat) : (s.store b a n x).teams = s.teams :=
  State.store_keeps State.teams (fun _ _ _ => rfl) (fun _ _ => rfl) (fun s b l => State.touchLine_teams s b l) s b a n x
@[simp] theorem State.store_tasks (s : State) (b : Option CoreRef) (a n x : Nat) : (s.store b a n x).tasks = s.tasks :=
  State.store_keeps State.tasks (fun _ _ _ => rfl) (fun _ _ => rfl) (fun s b l => State.touchLine_tasks s b l) s b a n x
@[simp] theorem State.store_io (s : State) (b : Option CoreRef) (a n x : Nat) : (s.store b a n x).io = s.io :=
  State.store_keeps State.io (fun _ _ _ => rfl) (fun _ _ => rfl) (fun s b l => State.touchLine_io s b l) s b a n x
@[simp] theorem State.store_cur (s : State) (b : Option CoreRef) (a n x : Nat) : (s.store b a n x).cur = s.cur :=
  State.store_keeps State.cur (fun _ _ _ => rfl) (fun _ _ => rfl) (fun s b l => State.touchLine_cur s b l) s b a n x

/-- A store writes its bytes. -/
@[simp] theorem State.store_mem (s : State) (b : Option CoreRef) (a n x : Nat) : (s.store b a n x).mem = (s.writeN a n x).mem := by
  unfold State.store
  simp only
  split
  · rw [foldl_keeps State.mem (fun s i => s.touchLine b (lineOf a + i)) (fun s i => State.touchLine_mem s b _)]
  · rfl

theorem State.byte_store (s : State) (b : Option CoreRef) (a n x p : Nat) :
    (s.store b a n x).byte p = if a ≤ p ∧ p < a + n then byteOf x (p - a) else s.byte p := by
  have h : (s.store b a n x).byte p = (s.writeN a n x).byte p := by simp [State.byte]
  rw [h, State.byte_writeN]

theorem State.readN_store (s : State) (b : Option CoreRef) (a n x : Nat) : (s.store b a n x).readN a n = x % 256 ^ n := by
  refine State.readN_bytes _ a n x (fun i hi => ?_)
  rw [State.byte_store, if_pos ⟨by omega, by omega⟩, show a + i - a = i by omega]

/-! ## The canonical form -/

/-- An operation keeps the canonical form of memory. -/
def Keeps (f : State → State) : Prop := ∀ s, MemInv s → MemInv (f s)

theorem Keeps.id : Keeps (fun s => s) := fun _ h => h

theorem Keeps.comp {f g : State → State} (a : Keeps f) (b : Keeps g) : Keeps (fun s => g (f s)) := fun s h => b _ (a s h)

/-- What leaves memory alone keeps its form. -/
theorem Keeps.of_mem {f : State → State} (h : ∀ s, (f s).mem = s.mem) : Keeps f := by
  intro s hs
  unfold MemInv at *
  rw [h]
  exact hs

theorem Keeps.foldl {α : Type} {f : State → α → State} (h : ∀ x, Keeps (fun s => f s x)) (l : List α) :
    Keeps (fun s => l.foldl f s) := by
  intro s hs
  induction l generalizing s with
  | nil => exact hs
  | cons x r ih => exact ih _ (h x s hs)

theorem Keeps.ite {f g : State → State} (p : State → Bool) (a : Keeps f) (b : Keeps g) :
    Keeps (fun s => if p s then f s else g s) := by
  intro s hs
  show MemInv (if p s then f s else g s)
  split
  · exact a s hs
  · exact b s hs

theorem keeps_setByte (a : Nat) (b : Byte) : Keeps (State.setByte a b) := fun s h => SMap.wf_put s.mem 0 a b h

theorem keeps_setBytes (a : Nat) (f : Nat → Byte) (l : List Nat) :
    Keeps (fun s => l.foldl (fun s i => s.setByte (a + i) (f i)) s) :=
  Keeps.foldl (fun i => keeps_setByte (a + i) (f i)) l

theorem keeps_writeN (a n x : Nat) : Keeps (State.writeN a n x) := keeps_setBytes a (byteOf x) (List.range n)

theorem keeps_store (b : Option CoreRef) (a n x : Nat) : Keeps (State.store b a n x) := by
  intro s hs
  unfold MemInv
  rw [State.store_mem]
  exact keeps_writeN a n x s hs

theorem keeps_zeroBytes (a n : Nat) : Keeps (State.zeroBytes a n) := fun s h => SMap.wf_filter s.mem 0 _ h

theorem keeps_writeQuads (a : Nat) (ws : List DWord) : Keeps (State.writeQuads a ws) := by
  induction ws generalizing a with
  | nil => exact Keeps.id
  | cons w r ih => exact fun s hs => ih (a + 8) _ (keeps_store none a 8 w.toNat s hs)

theorem keeps_fillStore (off : Nat) (bs : List Byte) (c : CoreRef) : Keeps (State.fillStore off bs c) :=
  Keeps.foldl (fun i => keeps_setByte (constLoc c (off + i)) (bs.getD i 0)) _

theorem keeps_writeCells (cs : List ImageCell) : Keeps (State.writeCells cs) :=
  Keeps.foldl (f := fun s (c : ImageCell) => s.store none c.a c.n c.x) (fun c => keeps_store none c.a c.n c.x) cs

theorem keeps_writePlaces (ps : List Nat) (bs : List Byte) : Keeps (State.writePlaces ps bs) :=
  Keeps.foldl (f := fun s (x : Nat × Byte) => s.store none x.1 1 x.2.toNat)
    (fun x => keeps_store none x.1 1 x.2.toNat) (ps.zip bs)

theorem keeps_mapEntries (f : Nat → Nat → Nat) (as : List Nat) : Keeps (State.mapEntries f as) := by
  intro s hs
  unfold State.mapEntries
  generalize List.range as.length = l
  induction l generalizing s with
  | nil => exact hs
  | cons i r ih => exact ih _ (keeps_store none _ 8 _ s hs)

/-- Cells that hold no default, put one by one. -/
theorem wf_foldl_ins (src m : List Host.Cell) (k : Nat → Nat) (hs : ∀ c ∈ src, c.2 ≠ 0) (h : Memory.wf m = true) :
    Memory.wf (src.foldl (fun r c => SMap.ins r (k c.1) c.2) m) = true := by
  induction src generalizing m with
  | nil => exact h
  | cons c r ih =>
    exact ih _ (fun x hx => hs x (List.mem_cons_of_mem _ hx))
      (SMap.wf_ins m 0 (k c.1) c.2 (hs c (List.mem_cons_self ..)) h)

theorem keeps_zeroBack (l : Nat) : Keeps (State.zeroBack l) := Keeps.of_mem (fun s => State.zeroBack_mem s l)

theorem keeps_copyRange (src dst n : Nat) : Keeps (State.copyRange src dst n) := by
  intro s hs
  unfold State.copyRange
  simp only
  refine Keeps.foldl (fun i => keeps_zeroBack (lineOf dst + i)) _ _ ?_
  refine wf_foldl_ins _ _ (fun a => dst + (a - src)) ?_ (keeps_zeroBytes dst n s hs)
  intro c hc
  have hm := (List.mem_filter.mp hc).1
  have hw : SMap.wf s.mem 0 = true := hs
  simp only [SMap.wf, Bool.and_eq_true, List.all_eq_true, decide_eq_true_eq] at hw
  exact hw.2 c hm

/-- A record, written, held or dropped (24 R373). -/
theorem keeps_record (fault : Bool) (ws : List DWord) : Keeps (State.record fault ws) := by
  intro s hs
  unfold State.record
  have hm : ∀ (f : RecQueue → RecQueue) (t : State), (t.modRecq fault f).mem = t.mem := by
    intro f t; unfold State.modRecq; split <;> rfl
  have hk : ∀ f t, MemInv t → MemInv (t.modRecq fault f) := fun f t h => Keeps.of_mem (hm f) t h
  simp only
  split
  · exact hk _ _ (keeps_writeQuads _ ws s hs)
  · split
    · exact hk _ _ hs
    · exact hk _ _ hs

end Sys2Proof.Machine
end

