-- ==== Sys2Proof/Laws/Ops.lean ====
section
/-! SUPPORT. The shared operations behind the instructions: what each can do, said once. -/

namespace Sys2Proof.Machine

/-! ## Checks in an order (02 R401) -/

@[simp] theorem guarded_nil (eff : Act) (s : State) : guarded [] eff s = eff s := rfl

theorem guarded_fails {b : Bool} (a eff : Act) (r : List (Bool × Act)) (s : State) (h : b = true) :
    guarded ((b, a) :: r) eff s = a s := by
  subst h; rfl

theorem guarded_passes {b : Bool} (a eff : Act) (r : List (Bool × Act)) (s : State) (h : b = false) :
    guarded ((b, a) :: r) eff s = guarded r eff s := by
  subst h; rfl

/-- Where every check passes, the effect happens. -/
theorem guarded_all (checks : List (Bool × Act)) (eff : Act) (s : State) (h : ∀ c ∈ checks, c.1 = false) :
    guarded checks eff s = eff s := by
  induction checks with
  | nil => rfl
  | cons c r ih =>
    obtain ⟨b, a⟩ := c
    rw [guarded_passes a eff r s (h _ (List.mem_cons_self ..)), ih (fun x hx => h x (List.mem_cons_of_mem _ hx))]

/-- What a checked operation can do: a failed check's act, or the effect. -/
theorem guarded_cases (checks : List (Bool × Act)) (eff : Act) (s : State) :
    guarded checks eff s = eff s ∨ ∃ c ∈ checks, c.1 = true ∧ guarded checks eff s = c.2 s := by
  induction checks with
  | nil => exact .inl rfl
  | cons c r ih =>
    obtain ⟨b, a⟩ := c
    cases b with
    | true => exact .inr ⟨(true, a), List.mem_cons_self .., rfl, rfl⟩
    | false =>
      rcases ih with h | ⟨c, hc, h1, h2⟩
      · exact .inl h
      · exact .inr ⟨c, List.mem_cons_of_mem _ hc, h1, h2⟩

/-- An invariant that every check's act and the effect keep is kept. -/
theorem guarded_keeps (P : State → Prop) (checks : List (Bool × Act)) (eff : Act) (s : State)
    (hc : ∀ c ∈ checks, P (c.2 s)) (he : P (eff s)) : P (guarded checks eff s) := by
  rcases guarded_cases checks eff s with h | ⟨c, h1, _, h2⟩
  · rw [h]; exact he
  · rw [h2]; exact hc c h1

/-! ## Groups, teams, tasks and cores by name -/

theorem State.grp_modGrp (s : State) (g h : SlotRef) (f : Group → Group) (hg : s.hasGrp g = true) :
    (s.modGrp g f).grp h = if h.key = g.key then f (s.grp g) else s.grp h := by
  unfold State.hasGrp at hg
  unfold State.grp State.modGrp SMap.get
  simp only
  rw [SMap.look_upd]
  by_cases e : h.key = g.key
  · rw [if_pos e, if_pos e]
    obtain ⟨x, hx⟩ := Option.isSome_iff_exists.mp hg
    rw [e, hx]; rfl
  · rw [if_neg e, if_neg e]

theorem State.core_modCore (s : State) (c d : CoreRef) (f : Core → Core) :
    (s.modCore c f).core d = if d.key = c.key then f (s.core c) else s.core d := by
  unfold State.core State.modCore SMap.get
  simp only
  rw [SMap.look_ins]
  by_cases e : d.key = c.key
  · rw [if_pos e, if_pos e]; rfl
  · rw [if_neg e, if_neg e]

theorem State.die_modDie (s : State) (d e : Nat) (f : Die → Die) :
    (s.modDie d f).die e = if e = d then f (s.die d) else s.die e := by
  unfold State.die State.modDie SMap.get
  simp only
  rw [SMap.look_ins]
  by_cases h : e = d
  · rw [if_pos h, if_pos h]; rfl
  · rw [if_neg h, if_neg h]

theorem State.queue_modQueue (s : State) (q p : Nat) (f : Queue → Queue) :
    (s.modQueue q f).queue p = if p = q then f (s.queue q) else s.queue p := by
  unfold State.queue State.modQueue SMap.get
  simp only
  rw [SMap.look_ins]
  by_cases h : p = q
  · rw [if_pos h, if_pos h]; rfl
  · rw [if_neg h, if_neg h]

theorem State.team_modTeam (s : State) (t k : Nat) (f : Team → Team) (ht : (s.teams.look t).isSome = true) :
    (s.modTeam t f).team k = if k = t then f (s.team t) else s.team k := by
  unfold State.team State.modTeam SMap.get
  simp only
  rw [SMap.look_upd]
  by_cases e : k = t
  · rw [if_pos e, if_pos e]
    obtain ⟨x, hx⟩ := Option.isSome_iff_exists.mp ht
    rw [e, hx]; rfl
  · rw [if_neg e, if_neg e]

theorem State.task_modTask (s : State) (t k : Nat) (f : Task → Task) (ht : (s.tasks.look t).isSome = true) :
    (s.modTask t f).task k = if k = t then f (s.task t) else s.task k := by
  unfold State.task State.modTask SMap.get
  simp only
  rw [SMap.look_upd]
  by_cases e : k = t
  · rw [if_pos e, if_pos e]
    obtain ⟨x, hx⟩ := Option.isSome_iff_exists.mp ht
    rw [e, hx]; rfl
  · rw [if_neg e, if_neg e]

/-! ## Registers -/

/-- s0 reads 0 (05 R84): it is never listed by a write. -/
theorem Context.sreg_setS (c : Context) (r k : Nat) (v : DWord) (h : k ≠ 0) :
    (c.setS r v).sreg k = if k = r then v else c.sreg k := by
  unfold Context.setS Context.sreg
  by_cases hr : r = 0
  · subst hr
    simp [h]
  · simp [hr, h, SMap.get_put]

/-! ## Completion flags (02 R24-R26) -/

theorem Group.flag_modFlag (g : Group) (f k : Nat) (h : Flag → Flag) :
    (g.modFlag f h).flag k = if k = f then h (g.flag f) else g.flag k := SMap.get_put g.flags ⟨0, none⟩ f k _

/-- One more operation counts on its flag, and the other flags stand. -/
theorem Group.flag_raiseFlag (g : Group) (f k : Nat) :
    (g.raiseFlag (some f)).flag k = if k = f then { g.flag f with count := (g.flag f).count + 1 } else g.flag k :=
  Group.flag_modFlag g f k _

@[simp] theorem Group.raiseFlag_none (g : Group) : g.raiseFlag none = g := rfl
@[simp] theorem Group.clearFlag_none (g : Group) : g.clearFlag none = g := rfl

theorem Group.finishOp_ops (g : Group) (o : Op) : (g.finishOp o).ops = g.ops.filter (fun x => x.id != o.id) := rfl

end Sys2Proof.Machine
end

