-- ==== Sys2Proof/Laws/PerInstr.lean ====
section
/-! SUPPORT. The statement made of every instruction of the syntax: where its operands fit their fields, its word fits its
width, and is odd exactly where it is a 32-bit word (02 R14). -/

namespace Sys2Proof.Laws

/-- The word of an instruction whose operands fit. -/
def Fits.Statement (i : Instr) : Prop :=
  i.fits = true → i.word < 2 ^ (8 * i.size) ∧ (i.size ≠ 0 → (i.word % 2 = 1 ↔ i.size = 4))

theorem fits4 {w : Nat} (h : w < 4294967296) (o : w % 2 = 1) : w < 2 ^ (8 * 4) ∧ (4 ≠ 0 → (w % 2 = 1 ↔ 4 = 4)) :=
  ⟨h, fun _ => ⟨fun _ => rfl, fun _ => o⟩⟩

theorem fits2 {w : Nat} (h : w < 65536) (o : w % 2 = 0) : w < 2 ^ (8 * 2) ∧ (2 ≠ 0 → (w % 2 = 1 ↔ 2 = 4)) :=
  ⟨h, fun _ => ⟨fun x => absurd x (by omega), fun x => absurd x (by omega)⟩⟩

theorem ob_code_lt (b : Ob) (h : b.wf = true) : b.code < 32 := by
  cases b <;> simp_all [Ob.wf, Ob.code] <;> omega

theorem ssrc_code_lt (x : SSrc) (h : x.wf = true) : x.code < 1024 := by
  cases x with
  | reg r => simp only [SSrc.wf, decide_eq_true_eq] at h; simp only [SSrc.code]; omega
  | imm i => have := i.isLt; simp only [SSrc.code]; omega

theorem cmode_code_lt (m : CMode) : m.code < 4 := by
  cases m <;> simp [CMode.code]

theorem bool_toNat_lt (b : Bool) : b.toNat < 2 := by
  cases b <;> decide

theorem Fits.clauseHeader (wait : BitVec 12) (setA : Nat) (setB : Nat) (pidx : Nat) (neg : Bool) (en : Bool) : Fits.Statement (.clauseHeader wait setA setB pidx neg en) := by
  intro h
  delta Instr.fits at h
  simp only [Bool.and_eq_true, decide_eq_true_eq] at h
  have h_wait := wait.isLt
  have h_neg := bool_toNat_lt neg
  have h_en := bool_toNat_lt en
  refine fits4 ?_ ?_ <;> (delta Instr.word; simp only []; omega)
theorem Fits.vadd16 (d : Nat) (b : Ob) : Fits.Statement (.vadd16 d b) := by
  intro h
  delta Instr.fits at h
  simp only [Bool.and_eq_true, decide_eq_true_eq] at h
  have h_b := ob_code_lt b (by simp_all)
  refine fits2 ?_ ?_ <;> (delta Instr.word; simp only []; omega)
theorem Fits.vsub16 (d : Nat) (b : Ob) : Fits.Statement (.vsub16 d b) := by
  intro h
  delta Instr.fits at h
  simp only [Bool.and_eq_true, decide_eq_true_eq] at h
  have h_b := ob_code_lt b (by simp_all)
  refine fits2 ?_ ?_ <;> (delta Instr.word; simp only []; omega)
theorem Fits.vand16 (d : Nat) (b : Ob) : Fits.Statement (.vand16 d b) := by
  intro h
  delta Instr.fits at h
  simp only [Bool.and_eq_true, decide_eq_true_eq] at h
  have h_b := ob_code_lt b (by simp_all)
  refine fits2 ?_ ?_ <;> (delta Instr.word; simp only []; omega)
theorem Fits.vor16 (d : Nat) (b : Ob) : Fits.Statement (.vor16 d b) := by
  intro h
  delta Instr.fits at h
  simp only [Bool.and_eq_true, decide_eq_true_eq] at h
  have h_b := ob_code_lt b (by simp_all)
  refine fits2 ?_ ?_ <;> (delta Instr.word; simp only []; omega)
theorem Fits.vxor16 (d : Nat) (b : Ob) : Fits.Statement (.vxor16 d b) := by
  intro h
  delta Instr.fits at h
  simp only [Bool.and_eq_true, decide_eq_true_eq] at h
  have h_b := ob_code_lt b (by simp_all)
  refine fits2 ?_ ?_ <;> (delta Instr.word; simp only []; omega)
theorem Fits.vshl16 (d : Nat) (b : Ob) : Fits.Statement (.vshl16 d b) := by
  intro h
  delta Instr.fits at h
  simp only [Bool.and_eq_true, decide_eq_true_eq] at h
  have h_b := ob_code_lt b (by simp_all)
  refine fits2 ?_ ?_ <;> (delta Instr.word; simp only []; omega)
theorem Fits.vshr16 (d : Nat) (b : Ob) : Fits.Statement (.vshr16 d b) := by
  intro h
  delta Instr.fits at h
  simp only [Bool.and_eq_true, decide_eq_true_eq] at h
  have h_b := ob_code_lt b (by simp_all)
  refine fits2 ?_ ?_ <;> (delta Instr.word; simp only []; omega)
theorem Fits.vmin16 (d : Nat) (b : Ob) : Fits.Statement (.vmin16 d b) := by
  intro h
  delta Instr.fits at h
  simp only [Bool.and_eq_true, decide_eq_true_eq] at h
  have h_b := ob_code_lt b (by simp_all)
  refine fits2 ?_ ?_ <;> (delta Instr.word; simp only []; omega)
theorem Fits.fadd16 (d : Nat) (b : Ob) : Fits.Statement (.fadd16 d b) := by
  intro h
  delta Instr.fits at h
  simp only [Bool.and_eq_true, decide_eq_true_eq] at h
  have h_b := ob_code_lt b (by simp_all)
  refine fits2 ?_ ?_ <;> (delta Instr.word; simp only []; omega)
theorem Fits.fsub16 (d : Nat) (b : Ob) : Fits.Statement (.fsub16 d b) := by
  intro h
  delta Instr.fits at h
  simp only [Bool.and_eq_true, decide_eq_true_eq] at h
  have h_b := ob_code_lt b (by simp_all)
  refine fits2 ?_ ?_ <;> (delta Instr.word; simp only []; omega)
theorem Fits.fmul16 (d : Nat) (b : Ob) : Fits.Statement (.fmul16 d b) := by
  intro h
  delta Instr.fits at h
  simp only [Bool.and_eq_true, decide_eq_true_eq] at h
  have h_b := ob_code_lt b (by simp_all)
  refine fits2 ?_ ?_ <;> (delta Instr.word; simp only []; omega)
theorem Fits.ffmaq (d : Nat) (b : Ob) : Fits.Statement (.ffmaq d b) := by
  intro h
  delta Instr.fits at h
  simp only [Bool.and_eq_true, decide_eq_true_eq] at h
  have h_b := ob_code_lt b (by simp_all)
  refine fits2 ?_ ?_ <;> (delta Instr.word; simp only []; omega)
theorem Fits.fmax16 (d : Nat) (b : Ob) : Fits.Statement (.fmax16 d b) := by
  intro h
  delta Instr.fits at h
  simp only [Bool.and_eq_true, decide_eq_true_eq] at h
  have h_b := ob_code_lt b (by simp_all)
  refine fits2 ?_ ?_ <;> (delta Instr.word; simp only []; omega)
theorem Fits.fmin16 (d : Nat) (b : Ob) : Fits.Statement (.fmin16 d b) := by
  intro h
  delta Instr.fits at h
  simp only [Bool.and_eq_true, decide_eq_true_eq] at h
  have h_b := ob_code_lt b (by simp_all)
  refine fits2 ?_ ?_ <;> (delta Instr.word; simp only []; omega)
theorem Fits.vmov16 (d : Nat) (b : Ob) : Fits.Statement (.vmov16 d b) := by
  intro h
  delta Instr.fits at h
  simp only [Bool.and_eq_true, decide_eq_true_eq] at h
  have h_b := ob_code_lt b (by simp_all)
  refine fits2 ?_ ?_ <;> (delta Instr.word; simp only []; omega)
theorem Fits.vmadq (d : Nat) (b : Ob) : Fits.Statement (.vmadq d b) := by
  intro h
  delta Instr.fits at h
  simp only [Bool.and_eq_true, decide_eq_true_eq] at h
  have h_b := ob_code_lt b (by simp_all)
  refine fits2 ?_ ?_ <;> (delta Instr.word; simp only []; omega)
theorem Fits.sadd (d : Nat) (a : Nat) (x : SSrc) : Fits.Statement (.sadd d a x) := by
  intro h
  delta Instr.fits at h
  simp only [Bool.and_eq_true, decide_eq_true_eq] at h
  have h_x := ssrc_code_lt x (by simp_all)
  refine fits4 ?_ ?_ <;> (delta Instr.word; simp only []; omega)
theorem Fits.ssub (d : Nat) (a : Nat) (x : SSrc) : Fits.Statement (.ssub d a x) := by
  intro h
  delta Instr.fits at h
  simp only [Bool.and_eq_true, decide_eq_true_eq] at h
  have h_x := ssrc_code_lt x (by simp_all)
  refine fits4 ?_ ?_ <;> (delta Instr.word; simp only []; omega)
theorem Fits.smul (d : Nat) (a : Nat) (x : SSrc) : Fits.Statement (.smul d a x) := by
  intro h
  delta Instr.fits at h
  simp only [Bool.and_eq_true, decide_eq_true_eq] at h
  have h_x := ssrc_code_lt x (by simp_all)
  refine fits4 ?_ ?_ <;> (delta Instr.word; simp only []; omega)
theorem Fits.smulh (d : Nat) (a : Nat) (x : SSrc) : Fits.Statement (.smulh d a x) := by
  intro h
  delta Instr.fits at h
  simp only [Bool.and_eq_true, decide_eq_true_eq] at h
  have h_x := ssrc_code_lt x (by simp_all)
  refine fits4 ?_ ?_ <;> (delta Instr.word; simp only []; omega)
theorem Fits.smulhn (d : Nat) (a : Nat) (x : SSrc) : Fits.Statement (.smulhn d a x) := by
  intro h
  delta Instr.fits at h
  simp only [Bool.and_eq_true, decide_eq_true_eq] at h
  have h_x := ssrc_code_lt x (by simp_all)
  refine fits4 ?_ ?_ <;> (delta Instr.word; simp only []; omega)
theorem Fits.sdiv (d : Nat) (a : Nat) (x : SSrc) : Fits.Statement (.sdiv d a x) := by
  intro h
  delta Instr.fits at h
  simp only [Bool.and_eq_true, decide_eq_true_eq] at h
  have h_x := ssrc_code_lt x (by simp_all)
  refine fits4 ?_ ?_ <;> (delta Instr.word; simp only []; omega)
theorem Fits.sdivn (d : Nat) (a : Nat) (x : SSrc) : Fits.Statement (.sdivn d a x) := by
  intro h
  delta Instr.fits at h
  simp only [Bool.and_eq_true, decide_eq_true_eq] at h
  have h_x := ssrc_code_lt x (by simp_all)
  refine fits4 ?_ ?_ <;> (delta Instr.word; simp only []; omega)
theorem Fits.srem (d : Nat) (a : Nat) (x : SSrc) : Fits.Statement (.srem d a x) := by
  intro h
  delta Instr.fits at h
  simp only [Bool.and_eq_true, decide_eq_true_eq] at h
  have h_x := ssrc_code_lt x (by simp_all)
  refine fits4 ?_ ?_ <;> (delta Instr.word; simp only []; omega)
theorem Fits.sremn (d : Nat) (a : Nat) (x : SSrc) : Fits.Statement (.sremn d a x) := by
  intro h
  delta Instr.fits at h
  simp only [Bool.and_eq_true, decide_eq_true_eq] at h
  have h_x := ssrc_code_lt x (by simp_all)
  refine fits4 ?_ ?_ <;> (delta Instr.word; simp only []; omega)
theorem Fits.sand (d : Nat) (a : Nat) (x : SSrc) : Fits.Statement (.sand d a x) := by
  intro h
  delta Instr.fits at h
  simp only [Bool.and_eq_true, decide_eq_true_eq] at h
  have h_x := ssrc_code_lt x (by simp_all)
  refine fits4 ?_ ?_ <;> (delta Instr.word; simp only []; omega)
theorem Fits.sor (d : Nat) (a : Nat) (x : SSrc) : Fits.Statement (.sor d a x) := by
  intro h
  delta Instr.fits at h
  simp only [Bool.and_eq_true, decide_eq_true_eq] at h
  have h_x := ssrc_code_lt x (by simp_all)
  refine fits4 ?_ ?_ <;> (delta Instr.word; simp only []; omega)
theorem Fits.sxor (d : Nat) (a : Nat) (x : SSrc) : Fits.Statement (.sxor d a x) := by
  intro h
  delta Instr.fits at h
  simp only [Bool.and_eq_true, decide_eq_true_eq] at h
  have h_x := ssrc_code_lt x (by simp_all)
  refine fits4 ?_ ?_ <;> (delta Instr.word; simp only []; omega)
theorem Fits.sandn (d : Nat) (a : Nat) (x : SSrc) : Fits.Statement (.sandn d a x) := by
  intro h
  delta Instr.fits at h
  simp only [Bool.and_eq_true, decide_eq_true_eq] at h
  have h_x := ssrc_code_lt x (by simp_all)
  refine fits4 ?_ ?_ <;> (delta Instr.word; simp only []; omega)
theorem Fits.sshl (d : Nat) (a : Nat) (x : SSrc) : Fits.Statement (.sshl d a x) := by
  intro h
  delta Instr.fits at h
  simp only [Bool.and_eq_true, decide_eq_true_eq] at h
  have h_x := ssrc_code_lt x (by simp_all)
  refine fits4 ?_ ?_ <;> (delta Instr.word; simp only []; omega)
theorem Fits.sshr (d : Nat) (a : Nat) (x : SSrc) : Fits.Statement (.sshr d a x) := by
  intro h
  delta Instr.fits at h
  simp only [Bool.and_eq_true, decide_eq_true_eq] at h
  have h_x := ssrc_code_lt x (by simp_all)
  refine fits4 ?_ ?_ <;> (delta Instr.word; simp only []; omega)
theorem Fits.ssar (d : Nat) (a : Nat) (x : SSrc) : Fits.Statement (.ssar d a x) := by
  intro h
  delta Instr.fits at h
  simp only [Bool.and_eq_true, decide_eq_true_eq] at h
  have h_x := ssrc_code_lt x (by simp_all)
  refine fits4 ?_ ?_ <;> (delta Instr.word; simp only []; omega)
theorem Fits.smin (d : Nat) (a : Nat) (x : SSrc) : Fits.Statement (.smin d a x) := by
  intro h
  delta Instr.fits at h
  simp only [Bool.and_eq_true, decide_eq_true_eq] at h
  have h_x := ssrc_code_lt x (by simp_all)
  refine fits4 ?_ ?_ <;> (delta Instr.word; simp only []; omega)
theorem Fits.smax (d : Nat) (a : Nat) (x : SSrc) : Fits.Statement (.smax d a x) := by
  intro h
  delta Instr.fits at h
  simp only [Bool.and_eq_true, decide_eq_true_eq] at h
  have h_x := ssrc_code_lt x (by simp_all)
  refine fits4 ?_ ?_ <;> (delta Instr.word; simp only []; omega)
theorem Fits.sminn (d : Nat) (a : Nat) (x : SSrc) : Fits.Statement (.sminn d a x) := by
  intro h
  delta Instr.fits at h
  simp only [Bool.and_eq_true, decide_eq_true_eq] at h
  have h_x := ssrc_code_lt x (by simp_all)
  refine fits4 ?_ ?_ <;> (delta Instr.word; simp only []; omega)
theorem Fits.smaxn (d : Nat) (a : Nat) (x : SSrc) : Fits.Statement (.smaxn d a x) := by
  intro h
  delta Instr.fits at h
  simp only [Bool.and_eq_true, decide_eq_true_eq] at h
  have h_x := ssrc_code_lt x (by simp_all)
  refine fits4 ?_ ?_ <;> (delta Instr.word; simp only []; omega)
theorem Fits.sseq (d : Nat) (a : Nat) (x : SSrc) : Fits.Statement (.sseq d a x) := by
  intro h
  delta Instr.fits at h
  simp only [Bool.and_eq_true, decide_eq_true_eq] at h
  have h_x := ssrc_code_lt x (by simp_all)
  refine fits4 ?_ ?_ <;> (delta Instr.word; simp only []; omega)
theorem Fits.ssne (d : Nat) (a : Nat) (x : SSrc) : Fits.Statement (.ssne d a x) := by
  intro h
  delta Instr.fits at h
  simp only [Bool.and_eq_true, decide_eq_true_eq] at h
  have h_x := ssrc_code_lt x (by simp_all)
  refine fits4 ?_ ?_ <;> (delta Instr.word; simp only []; omega)
theorem Fits.sslt (d : Nat) (a : Nat) (x : SSrc) : Fits.Statement (.sslt d a x) := by
  intro h
  delta Instr.fits at h
  simp only [Bool.and_eq_true, decide_eq_true_eq] at h
  have h_x := ssrc_code_lt x (by simp_all)
  refine fits4 ?_ ?_ <;> (delta Instr.word; simp only []; omega)
theorem Fits.ssle (d : Nat) (a : Nat) (x : SSrc) : Fits.Statement (.ssle d a x) := by
  intro h
  delta Instr.fits at h
  simp only [Bool.and_eq_true, decide_eq_true_eq] at h
  have h_x := ssrc_code_lt x (by simp_all)
  refine fits4 ?_ ?_ <;> (delta Instr.word; simp only []; omega)
theorem Fits.ssltn (d : Nat) (a : Nat) (x : SSrc) : Fits.Statement (.ssltn d a x) := by
  intro h
  delta Instr.fits at h
  simp only [Bool.and_eq_true, decide_eq_true_eq] at h
  have h_x := ssrc_code_lt x (by simp_all)
  refine fits4 ?_ ?_ <;> (delta Instr.word; simp only []; omega)
theorem Fits.sslen (d : Nat) (a : Nat) (x : SSrc) : Fits.Statement (.sslen d a x) := by
  intro h
  delta Instr.fits at h
  simp only [Bool.and_eq_true, decide_eq_true_eq] at h
  have h_x := ssrc_code_lt x (by simp_all)
  refine fits4 ?_ ?_ <;> (delta Instr.word; simp only []; omega)
theorem Fits.sclz (d : Nat) (a : Nat) : Fits.Statement (.sclz d a) := by
  intro h
  delta Instr.fits at h
  simp only [Bool.and_eq_true, decide_eq_true_eq] at h
  refine fits4 ?_ ?_ <;> (delta Instr.word; simp only []; omega)
theorem Fits.spopc (d : Nat) (a : Nat) : Fits.Statement (.spopc d a) := by
  intro h
  delta Instr.fits at h
  simp only [Bool.and_eq_true, decide_eq_true_eq] at h
  refine fits4 ?_ ?_ <;> (delta Instr.word; simp only []; omega)
theorem Fits.ssext (d : Nat) (a : Nat) (x : SSrc) : Fits.Statement (.ssext d a x) := by
  intro h
  delta Instr.fits at h
  simp only [Bool.and_eq_true, decide_eq_true_eq] at h
  have h_x := ssrc_code_lt x (by simp_all)
  refine fits4 ?_ ?_ <;> (delta Instr.word; simp only []; omega)
theorem Fits.szext (d : Nat) (a : Nat) (x : SSrc) : Fits.Statement (.szext d a x) := by
  intro h
  delta Instr.fits at h
  simp only [Bool.and_eq_true, decide_eq_true_eq] at h
  have h_x := ssrc_code_lt x (by simp_all)
  refine fits4 ?_ ?_ <;> (delta Instr.word; simp only []; omega)
theorem Fits.sli (d : Nat) (imm : BitVec 16) : Fits.Statement (.sli d imm) := by
  intro h
  delta Instr.fits at h
  simp only [decide_eq_true_eq] at h
  have h_imm := imm.isLt
  refine fits4 ?_ ?_ <;> (delta Instr.word; simp only []; omega)
theorem Fits.slk1 (d : Nat) (imm : BitVec 16) : Fits.Statement (.slk1 d imm) := by
  intro h
  delta Instr.fits at h
  simp only [decide_eq_true_eq] at h
  have h_imm := imm.isLt
  refine fits4 ?_ ?_ <;> (delta Instr.word; simp only []; omega)
theorem Fits.slk2 (d : Nat) (imm : BitVec 16) : Fits.Statement (.slk2 d imm) := by
  intro h
  delta Instr.fits at h
  simp only [decide_eq_true_eq] at h
  have h_imm := imm.isLt
  refine fits4 ?_ ?_ <;> (delta Instr.word; simp only []; omega)
theorem Fits.slk3 (d : Nat) (imm : BitVec 16) : Fits.Statement (.slk3 d imm) := by
  intro h
  delta Instr.fits at h
  simp only [decide_eq_true_eq] at h
  have h_imm := imm.isLt
  refine fits4 ?_ ?_ <;> (delta Instr.word; simp only []; omega)
theorem Fits.srsr (d : Nat) (n : Nat) : Fits.Statement (.srsr d n) := by
  intro h
  delta Instr.fits at h
  simp only [Bool.and_eq_true, decide_eq_true_eq] at h
  refine fits4 ?_ ?_ <;> (delta Instr.word; simp only []; omega)
theorem Fits.swsr (n : Nat) (a : Nat) : Fits.Statement (.swsr n a) := by
  intro h
  delta Instr.fits at h
  simp only [Bool.and_eq_true, decide_eq_true_eq] at h
  refine fits4 ?_ ?_ <;> (delta Instr.word; simp only []; omega)
theorem Fits.sadr (d : Nat) (a : Nat) (x : SSrc) : Fits.Statement (.sadr d a x) := by
  intro h
  delta Instr.fits at h
  simp only [Bool.and_eq_true, decide_eq_true_eq] at h
  have h_x := ssrc_code_lt x (by simp_all)
  refine fits4 ?_ ?_ <;> (delta Instr.word; simp only []; omega)
theorem Fits.bra (t : BitVec 16) : Fits.Statement (.bra t) := by
  intro h
  have h_t := t.isLt
  refine fits4 ?_ ?_ <;> (delta Instr.word; simp only []; omega)
theorem Fits.bz (r : Nat) (t : BitVec 16) : Fits.Statement (.bz r t) := by
  intro h
  delta Instr.fits at h
  simp only [decide_eq_true_eq] at h
  have h_t := t.isLt
  refine fits4 ?_ ?_ <;> (delta Instr.word; simp only []; omega)
theorem Fits.bnz (r : Nat) (t : BitVec 16) : Fits.Statement (.bnz r t) := by
  intro h
  delta Instr.fits at h
  simp only [decide_eq_true_eq] at h
  have h_t := t.isLt
  refine fits4 ?_ ?_ <;> (delta Instr.word; simp only []; omega)
theorem Fits.bneg (r : Nat) (t : BitVec 16) : Fits.Statement (.bneg r t) := by
  intro h
  delta Instr.fits at h
  simp only [decide_eq_true_eq] at h
  have h_t := t.isLt
  refine fits4 ?_ ?_ <;> (delta Instr.word; simp only []; omega)
theorem Fits.bnneg (r : Nat) (t : BitVec 16) : Fits.Statement (.bnneg r t) := by
  intro h
  delta Instr.fits at h
  simp only [decide_eq_true_eq] at h
  have h_t := t.isLt
  refine fits4 ?_ ?_ <;> (delta Instr.word; simp only []; omega)
theorem Fits.ball (p : Nat) (t : BitVec 16) : Fits.Statement (.ball p t) := by
  intro h
  delta Instr.fits at h
  simp only [decide_eq_true_eq] at h
  have h_t := t.isLt
  refine fits4 ?_ ?_ <;> (delta Instr.word; simp only []; omega)
theorem Fits.bany (p : Nat) (t : BitVec 16) : Fits.Statement (.bany p t) := by
  intro h
  delta Instr.fits at h
  simp only [decide_eq_true_eq] at h
  have h_t := t.isLt
  refine fits4 ?_ ?_ <;> (delta Instr.word; simp only []; omega)
theorem Fits.bnone (p : Nat) (t : BitVec 16) : Fits.Statement (.bnone p t) := by
  intro h
  delta Instr.fits at h
  simp only [decide_eq_true_eq] at h
  have h_t := t.isLt
  refine fits4 ?_ ?_ <;> (delta Instr.word; simp only []; omega)
theorem Fits.loop (r : Nat) (t : BitVec 16) : Fits.Statement (.loop r t) := by
  intro h
  delta Instr.fits at h
  simp only [decide_eq_true_eq] at h
  have h_t := t.isLt
  refine fits4 ?_ ?_ <;> (delta Instr.word; simp only []; omega)
theorem Fits.call (t : BitVec 16) : Fits.Statement (.call t) := by
  intro h
  have h_t := t.isLt
  refine fits4 ?_ ?_ <;> (delta Instr.word; simp only []; omega)
theorem Fits.callr (r : Nat) : Fits.Statement (.callr r) := by
  intro h
  delta Instr.fits at h
  simp only [decide_eq_true_eq] at h
  refine fits4 ?_ ?_ <;> (delta Instr.word; simp only []; omega)
theorem Fits.jmpr (r : Nat) : Fits.Statement (.jmpr r) := by
  intro h
  delta Instr.fits at h
  simp only [decide_eq_true_eq] at h
  refine fits4 ?_ ?_ <;> (delta Instr.word; simp only []; omega)
theorem Fits.split (p : Nat) (t : BitVec 16) : Fits.Statement (.split p t) := by
  intro h
  delta Instr.fits at h
  simp only [decide_eq_true_eq] at h
  have h_t := t.isLt
  refine fits4 ?_ ?_ <;> (delta Instr.word; simp only []; omega)
theorem Fits.merge (k : Nat) : Fits.Statement (.merge k) := by
  intro h
  delta Instr.fits at h
  simp only [decide_eq_true_eq] at h
  refine fits4 ?_ ?_ <;> (delta Instr.word; simp only []; omega)
theorem Fits.cont (r : Nat) (t : BitVec 16) : Fits.Statement (.cont r t) := by
  intro h
  delta Instr.fits at h
  simp only [decide_eq_true_eq] at h
  have h_t := t.isLt
  refine fits4 ?_ ?_ <;> (delta Instr.word; simp only []; omega)
theorem Fits.trap (k : Nat) : Fits.Statement (.trap k) := by
  intro h
  delta Instr.fits at h
  simp only [decide_eq_true_eq] at h
  refine fits4 ?_ ?_ <;> (delta Instr.word; simp only []; omega)
theorem Fits.sleep (r : Nat) : Fits.Statement (.sleep r) := by
  intro h
  delta Instr.fits at h
  simp only [decide_eq_true_eq] at h
  refine fits4 ?_ ?_ <;> (delta Instr.word; simp only []; omega)
theorem Fits.vadd (d : Nat) (a : Nat) (b : Ob) : Fits.Statement (.vadd d a b) := by
  intro h
  delta Instr.fits at h
  simp only [Bool.and_eq_true, decide_eq_true_eq] at h
  have h_b := ob_code_lt b (by simp_all)
  refine fits4 ?_ ?_ <;> (delta Instr.word; simp only []; omega)
theorem Fits.vsub (d : Nat) (a : Nat) (b : Ob) : Fits.Statement (.vsub d a b) := by
  intro h
  delta Instr.fits at h
  simp only [Bool.and_eq_true, decide_eq_true_eq] at h
  have h_b := ob_code_lt b (by simp_all)
  refine fits4 ?_ ?_ <;> (delta Instr.word; simp only []; omega)
theorem Fits.vmullo (d : Nat) (a : Nat) (b : Ob) : Fits.Statement (.vmullo d a b) := by
  intro h
  delta Instr.fits at h
  simp only [Bool.and_eq_true, decide_eq_true_eq] at h
  have h_b := ob_code_lt b (by simp_all)
  refine fits4 ?_ ?_ <;> (delta Instr.word; simp only []; omega)
theorem Fits.vmulhi (d : Nat) (a : Nat) (b : Ob) : Fits.Statement (.vmulhi d a b) := by
  intro h
  delta Instr.fits at h
  simp only [Bool.and_eq_true, decide_eq_true_eq] at h
  have h_b := ob_code_lt b (by simp_all)
  refine fits4 ?_ ?_ <;> (delta Instr.word; simp only []; omega)
theorem Fits.vmulhin (d : Nat) (a : Nat) (b : Ob) : Fits.Statement (.vmulhin d a b) := by
  intro h
  delta Instr.fits at h
  simp only [Bool.and_eq_true, decide_eq_true_eq] at h
  have h_b := ob_code_lt b (by simp_all)
  refine fits4 ?_ ?_ <;> (delta Instr.word; simp only []; omega)
theorem Fits.vmad (d : Nat) (a : Nat) (b : Ob) : Fits.Statement (.vmad d a b) := by
  intro h
  delta Instr.fits at h
  simp only [Bool.and_eq_true, decide_eq_true_eq] at h
  have h_b := ob_code_lt b (by simp_all)
  refine fits4 ?_ ?_ <;> (delta Instr.word; simp only []; omega)
theorem Fits.vand (d : Nat) (a : Nat) (b : Ob) : Fits.Statement (.vand d a b) := by
  intro h
  delta Instr.fits at h
  simp only [Bool.and_eq_true, decide_eq_true_eq] at h
  have h_b := ob_code_lt b (by simp_all)
  refine fits4 ?_ ?_ <;> (delta Instr.word; simp only []; omega)
theorem Fits.vor (d : Nat) (a : Nat) (b : Ob) : Fits.Statement (.vor d a b) := by
  intro h
  delta Instr.fits at h
  simp only [Bool.and_eq_true, decide_eq_true_eq] at h
  have h_b := ob_code_lt b (by simp_all)
  refine fits4 ?_ ?_ <;> (delta Instr.word; simp only []; omega)
theorem Fits.vxor (d : Nat) (a : Nat) (b : Ob) : Fits.Statement (.vxor d a b) := by
  intro h
  delta Instr.fits at h
  simp only [Bool.and_eq_true, decide_eq_true_eq] at h
  have h_b := ob_code_lt b (by simp_all)
  refine fits4 ?_ ?_ <;> (delta Instr.word; simp only []; omega)
theorem Fits.vandn (d : Nat) (a : Nat) (b : Ob) : Fits.Statement (.vandn d a b) := by
  intro h
  delta Instr.fits at h
  simp only [Bool.and_eq_true, decide_eq_true_eq] at h
  have h_b := ob_code_lt b (by simp_all)
  refine fits4 ?_ ?_ <;> (delta Instr.word; simp only []; omega)
theorem Fits.vshl (d : Nat) (a : Nat) (b : Ob) : Fits.Statement (.vshl d a b) := by
  intro h
  delta Instr.fits at h
  simp only [Bool.and_eq_true, decide_eq_true_eq] at h
  have h_b := ob_code_lt b (by simp_all)
  refine fits4 ?_ ?_ <;> (delta Instr.word; simp only []; omega)
theorem Fits.vshr (d : Nat) (a : Nat) (b : Ob) : Fits.Statement (.vshr d a b) := by
  intro h
  delta Instr.fits at h
  simp only [Bool.and_eq_true, decide_eq_true_eq] at h
  have h_b := ob_code_lt b (by simp_all)
  refine fits4 ?_ ?_ <;> (delta Instr.word; simp only []; omega)
theorem Fits.vsar (d : Nat) (a : Nat) (b : Ob) : Fits.Statement (.vsar d a b) := by
  intro h
  delta Instr.fits at h
  simp only [Bool.and_eq_true, decide_eq_true_eq] at h
  have h_b := ob_code_lt b (by simp_all)
  refine fits4 ?_ ?_ <;> (delta Instr.word; simp only []; omega)
theorem Fits.vmin (d : Nat) (a : Nat) (b : Ob) : Fits.Statement (.vmin d a b) := by
  intro h
  delta Instr.fits at h
  simp only [Bool.and_eq_true, decide_eq_true_eq] at h
  have h_b := ob_code_lt b (by simp_all)
  refine fits4 ?_ ?_ <;> (delta Instr.word; simp only []; omega)
theorem Fits.vmax (d : Nat) (a : Nat) (b : Ob) : Fits.Statement (.vmax d a b) := by
  intro h
  delta Instr.fits at h
  simp only [Bool.and_eq_true, decide_eq_true_eq] at h
  have h_b := ob_code_lt b (by simp_all)
  refine fits4 ?_ ?_ <;> (delta Instr.word; simp only []; omega)
theorem Fits.vminn (d : Nat) (a : Nat) (b : Ob) : Fits.Statement (.vminn d a b) := by
  intro h
  delta Instr.fits at h
  simp only [Bool.and_eq_true, decide_eq_true_eq] at h
  have h_b := ob_code_lt b (by simp_all)
  refine fits4 ?_ ?_ <;> (delta Instr.word; simp only []; omega)
theorem Fits.vmaxn (d : Nat) (a : Nat) (b : Ob) : Fits.Statement (.vmaxn d a b) := by
  intro h
  delta Instr.fits at h
  simp only [Bool.and_eq_true, decide_eq_true_eq] at h
  have h_b := ob_code_lt b (by simp_all)
  refine fits4 ?_ ?_ <;> (delta Instr.word; simp only []; omega)
theorem Fits.vabs (d : Nat) (a : Nat) : Fits.Statement (.vabs d a) := by
  intro h
  delta Instr.fits at h
  simp only [Bool.and_eq_true, decide_eq_true_eq] at h
  refine fits4 ?_ ?_ <;> (delta Instr.word; simp only []; omega)
theorem Fits.vclz (d : Nat) (a : Nat) : Fits.Statement (.vclz d a) := by
  intro h
  delta Instr.fits at h
  simp only [Bool.and_eq_true, decide_eq_true_eq] at h
  refine fits4 ?_ ?_ <;> (delta Instr.word; simp only []; omega)
theorem Fits.vpopc (d : Nat) (a : Nat) : Fits.Statement (.vpopc d a) := by
  intro h
  delta Instr.fits at h
  simp only [Bool.and_eq_true, decide_eq_true_eq] at h
  refine fits4 ?_ ?_ <;> (delta Instr.word; simp only []; omega)
theorem Fits.vadd64 (d : Nat) (a : Nat) (b : Ob) : Fits.Statement (.vadd64 d a b) := by
  intro h
  delta Instr.fits at h
  simp only [Bool.and_eq_true, decide_eq_true_eq] at h
  have h_b := ob_code_lt b (by simp_all)
  refine fits4 ?_ ?_ <;> (delta Instr.word; simp only []; omega)
theorem Fits.vsub64 (d : Nat) (a : Nat) (b : Ob) : Fits.Statement (.vsub64 d a b) := by
  intro h
  delta Instr.fits at h
  simp only [Bool.and_eq_true, decide_eq_true_eq] at h
  have h_b := ob_code_lt b (by simp_all)
  refine fits4 ?_ ?_ <;> (delta Instr.word; simp only []; omega)
theorem Fits.vaddsat (d : Nat) (a : Nat) (b : Ob) : Fits.Statement (.vaddsat d a b) := by
  intro h
  delta Instr.fits at h
  simp only [Bool.and_eq_true, decide_eq_true_eq] at h
  have h_b := ob_code_lt b (by simp_all)
  refine fits4 ?_ ?_ <;> (delta Instr.word; simp only []; omega)
theorem Fits.vdp4 (d : Nat) (a : Nat) (b : Ob) : Fits.Statement (.vdp4 d a b) := by
  intro h
  delta Instr.fits at h
  simp only [Bool.and_eq_true, decide_eq_true_eq] at h
  have h_b := ob_code_lt b (by simp_all)
  refine fits4 ?_ ?_ <;> (delta Instr.word; simp only []; omega)
theorem Fits.vdp4n (d : Nat) (a : Nat) (b : Ob) : Fits.Statement (.vdp4n d a b) := by
  intro h
  delta Instr.fits at h
  simp only [Bool.and_eq_true, decide_eq_true_eq] at h
  have h_b := ob_code_lt b (by simp_all)
  refine fits4 ?_ ?_ <;> (delta Instr.word; simp only []; omega)
theorem Fits.vceq (d : Nat) (m : CMode) (a : Nat) (b : Ob) : Fits.Statement (.vceq d m a b) := by
  intro h
  delta Instr.fits at h
  simp only [Bool.and_eq_true, decide_eq_true_eq] at h
  have h_m := cmode_code_lt m
  have h_b := ob_code_lt b (by simp_all)
  refine fits4 ?_ ?_ <;> (delta Instr.word; simp only []; omega)
theorem Fits.vcne (d : Nat) (m : CMode) (a : Nat) (b : Ob) : Fits.Statement (.vcne d m a b) := by
  intro h
  delta Instr.fits at h
  simp only [Bool.and_eq_true, decide_eq_true_eq] at h
  have h_m := cmode_code_lt m
  have h_b := ob_code_lt b (by simp_all)
  refine fits4 ?_ ?_ <;> (delta Instr.word; simp only []; omega)
theorem Fits.vclt (d : Nat) (m : CMode) (a : Nat) (b : Ob) : Fits.Statement (.vclt d m a b) := by
  intro h
  delta Instr.fits at h
  simp only [Bool.and_eq_true, decide_eq_true_eq] at h
  have h_m := cmode_code_lt m
  have h_b := ob_code_lt b (by simp_all)
  refine fits4 ?_ ?_ <;> (delta Instr.word; simp only []; omega)
theorem Fits.vcle (d : Nat) (m : CMode) (a : Nat) (b : Ob) : Fits.Statement (.vcle d m a b) := by
  intro h
  delta Instr.fits at h
  simp only [Bool.and_eq_true, decide_eq_true_eq] at h
  have h_m := cmode_code_lt m
  have h_b := ob_code_lt b (by simp_all)
  refine fits4 ?_ ?_ <;> (delta Instr.word; simp only []; omega)
theorem Fits.vcltn (d : Nat) (m : CMode) (a : Nat) (b : Ob) : Fits.Statement (.vcltn d m a b) := by
  intro h
  delta Instr.fits at h
  simp only [Bool.and_eq_true, decide_eq_true_eq] at h
  have h_m := cmode_code_lt m
  have h_b := ob_code_lt b (by simp_all)
  refine fits4 ?_ ?_ <;> (delta Instr.word; simp only []; omega)
theorem Fits.vclen (d : Nat) (m : CMode) (a : Nat) (b : Ob) : Fits.Statement (.vclen d m a b) := by
  intro h
  delta Instr.fits at h
  simp only [Bool.and_eq_true, decide_eq_true_eq] at h
  have h_m := cmode_code_lt m
  have h_b := ob_code_lt b (by simp_all)
  refine fits4 ?_ ?_ <;> (delta Instr.word; simp only []; omega)
theorem Fits.fceq (d : Nat) (m : CMode) (a : Nat) (b : Ob) : Fits.Statement (.fceq d m a b) := by
  intro h
  delta Instr.fits at h
  simp only [Bool.and_eq_true, decide_eq_true_eq] at h
  have h_m := cmode_code_lt m
  have h_b := ob_code_lt b (by simp_all)
  refine fits4 ?_ ?_ <;> (delta Instr.word; simp only []; omega)
theorem Fits.fcne (d : Nat) (m : CMode) (a : Nat) (b : Ob) : Fits.Statement (.fcne d m a b) := by
  intro h
  delta Instr.fits at h
  simp only [Bool.and_eq_true, decide_eq_true_eq] at h
  have h_m := cmode_code_lt m
  have h_b := ob_code_lt b (by simp_all)
  refine fits4 ?_ ?_ <;> (delta Instr.word; simp only []; omega)
theorem Fits.fclt (d : Nat) (m : CMode) (a : Nat) (b : Ob) : Fits.Statement (.fclt d m a b) := by
  intro h
  delta Instr.fits at h
  simp only [Bool.and_eq_true, decide_eq_true_eq] at h
  have h_m := cmode_code_lt m
  have h_b := ob_code_lt b (by simp_all)
  refine fits4 ?_ ?_ <;> (delta Instr.word; simp only []; omega)
theorem Fits.fcle (d : Nat) (m : CMode) (a : Nat) (b : Ob) : Fits.Statement (.fcle d m a b) := by
  intro h
  delta Instr.fits at h
  simp only [Bool.and_eq_true, decide_eq_true_eq] at h
  have h_m := cmode_code_lt m
  have h_b := ob_code_lt b (by simp_all)
  refine fits4 ?_ ?_ <;> (delta Instr.word; simp only []; omega)
theorem Fits.fcun (d : Nat) (m : CMode) (a : Nat) (b : Ob) : Fits.Statement (.fcun d m a b) := by
  intro h
  delta Instr.fits at h
  simp only [Bool.and_eq_true, decide_eq_true_eq] at h
  have h_m := cmode_code_lt m
  have h_b := ob_code_lt b (by simp_all)
  refine fits4 ?_ ?_ <;> (delta Instr.word; simp only []; omega)
theorem Fits.fadd (d : Nat) (a : Nat) (b : Ob) : Fits.Statement (.fadd d a b) := by
  intro h
  delta Instr.fits at h
  simp only [Bool.and_eq_true, decide_eq_true_eq] at h
  have h_b := ob_code_lt b (by simp_all)
  refine fits4 ?_ ?_ <;> (delta Instr.word; simp only []; omega)
theorem Fits.fsub (d : Nat) (a : Nat) (b : Ob) : Fits.Statement (.fsub d a b) := by
  intro h
  delta Instr.fits at h
  simp only [Bool.and_eq_true, decide_eq_true_eq] at h
  have h_b := ob_code_lt b (by simp_all)
  refine fits4 ?_ ?_ <;> (delta Instr.word; simp only []; omega)
theorem Fits.fmul (d : Nat) (a : Nat) (b : Ob) : Fits.Statement (.fmul d a b) := by
  intro h
  delta Instr.fits at h
  simp only [Bool.and_eq_true, decide_eq_true_eq] at h
  have h_b := ob_code_lt b (by simp_all)
  refine fits4 ?_ ?_ <;> (delta Instr.word; simp only []; omega)
theorem Fits.ffma (d : Nat) (a : Nat) (b : Ob) : Fits.Statement (.ffma d a b) := by
  intro h
  delta Instr.fits at h
  simp only [Bool.and_eq_true, decide_eq_true_eq] at h
  have h_b := ob_code_lt b (by simp_all)
  refine fits4 ?_ ?_ <;> (delta Instr.word; simp only []; omega)
theorem Fits.ffms (d : Nat) (a : Nat) (b : Ob) : Fits.Statement (.ffms d a b) := by
  intro h
  delta Instr.fits at h
  simp only [Bool.and_eq_true, decide_eq_true_eq] at h
  have h_b := ob_code_lt b (by simp_all)
  refine fits4 ?_ ?_ <;> (delta Instr.word; simp only []; omega)
theorem Fits.fnma (d : Nat) (a : Nat) (b : Ob) : Fits.Statement (.fnma d a b) := by
  intro h
  delta Instr.fits at h
  simp only [Bool.and_eq_true, decide_eq_true_eq] at h
  have h_b := ob_code_lt b (by simp_all)
  refine fits4 ?_ ?_ <;> (delta Instr.word; simp only []; omega)
theorem Fits.fmin (d : Nat) (a : Nat) (b : Ob) : Fits.Statement (.fmin d a b) := by
  intro h
  delta Instr.fits at h
  simp only [Bool.and_eq_true, decide_eq_true_eq] at h
  have h_b := ob_code_lt b (by simp_all)
  refine fits4 ?_ ?_ <;> (delta Instr.word; simp only []; omega)
theorem Fits.fmax (d : Nat) (a : Nat) (b : Ob) : Fits.Statement (.fmax d a b) := by
  intro h
  delta Instr.fits at h
  simp only [Bool.and_eq_true, decide_eq_true_eq] at h
  have h_b := ob_code_lt b (by simp_all)
  refine fits4 ?_ ?_ <;> (delta Instr.word; simp only []; omega)
theorem Fits.fabs (d : Nat) (a : Nat) : Fits.Statement (.fabs d a) := by
  intro h
  delta Instr.fits at h
  simp only [Bool.and_eq_true, decide_eq_true_eq] at h
  refine fits4 ?_ ?_ <;> (delta Instr.word; simp only []; omega)
theorem Fits.fneg (d : Nat) (a : Nat) : Fits.Statement (.fneg d a) := by
  intro h
  delta Instr.fits at h
  simp only [Bool.and_eq_true, decide_eq_true_eq] at h
  refine fits4 ?_ ?_ <;> (delta Instr.word; simp only []; omega)
theorem Fits.fdiv (d : Nat) (a : Nat) (b : Ob) : Fits.Statement (.fdiv d a b) := by
  intro h
  delta Instr.fits at h
  simp only [Bool.and_eq_true, decide_eq_true_eq] at h
  have h_b := ob_code_lt b (by simp_all)
  refine fits4 ?_ ?_ <;> (delta Instr.word; simp only []; omega)
theorem Fits.fsqrt (d : Nat) (a : Nat) : Fits.Statement (.fsqrt d a) := by
  intro h
  delta Instr.fits at h
  simp only [Bool.and_eq_true, decide_eq_true_eq] at h
  refine fits4 ?_ ?_ <;> (delta Instr.word; simp only []; omega)
theorem Fits.frcp (d : Nat) (a : Nat) : Fits.Statement (.frcp d a) := by
  intro h
  delta Instr.fits at h
  simp only [Bool.and_eq_true, decide_eq_true_eq] at h
  refine fits4 ?_ ?_ <;> (delta Instr.word; simp only []; omega)
theorem Fits.frsq (d : Nat) (a : Nat) : Fits.Statement (.frsq d a) := by
  intro h
  delta Instr.fits at h
  simp only [Bool.and_eq_true, decide_eq_true_eq] at h
  refine fits4 ?_ ?_ <;> (delta Instr.word; simp only []; omega)
theorem Fits.fexp2c (d : Nat) (a : Nat) : Fits.Statement (.fexp2c d a) := by
  intro h
  delta Instr.fits at h
  simp only [Bool.and_eq_true, decide_eq_true_eq] at h
  refine fits4 ?_ ?_ <;> (delta Instr.word; simp only []; omega)
theorem Fits.frint (d : Nat) (a : Nat) : Fits.Statement (.frint d a) := by
  intro h
  delta Instr.fits at h
  simp only [Bool.and_eq_true, decide_eq_true_eq] at h
  refine fits4 ?_ ?_ <;> (delta Instr.word; simp only []; omega)
theorem Fits.fscale (d : Nat) (a : Nat) (b : Ob) : Fits.Statement (.fscale d a b) := by
  intro h
  delta Instr.fits at h
  simp only [Bool.and_eq_true, decide_eq_true_eq] at h
  have h_b := ob_code_lt b (by simp_all)
  refine fits4 ?_ ?_ <;> (delta Instr.word; simp only []; omega)
theorem Fits.hadd2 (d : Nat) (a : Nat) (b : Ob) : Fits.Statement (.hadd2 d a b) := by
  intro h
  delta Instr.fits at h
  simp only [Bool.and_eq_true, decide_eq_true_eq] at h
  have h_b := ob_code_lt b (by simp_all)
  refine fits4 ?_ ?_ <;> (delta Instr.word; simp only []; omega)
theorem Fits.hmul2 (d : Nat) (a : Nat) (b : Ob) : Fits.Statement (.hmul2 d a b) := by
  intro h
  delta Instr.fits at h
  simp only [Bool.and_eq_true, decide_eq_true_eq] at h
  have h_b := ob_code_lt b (by simp_all)
  refine fits4 ?_ ?_ <;> (delta Instr.word; simp only []; omega)
theorem Fits.hfma2 (d : Nat) (a : Nat) (b : Ob) : Fits.Statement (.hfma2 d a b) := by
  intro h
  delta Instr.fits at h
  simp only [Bool.and_eq_true, decide_eq_true_eq] at h
  have h_b := ob_code_lt b (by simp_all)
  refine fits4 ?_ ?_ <;> (delta Instr.word; simp only []; omega)
theorem Fits.badd2 (d : Nat) (a : Nat) (b : Ob) : Fits.Statement (.badd2 d a b) := by
  intro h
  delta Instr.fits at h
  simp only [Bool.and_eq_true, decide_eq_true_eq] at h
  have h_b := ob_code_lt b (by simp_all)
  refine fits4 ?_ ?_ <;> (delta Instr.word; simp only []; omega)
theorem Fits.bmul2 (d : Nat) (a : Nat) (b : Ob) : Fits.Statement (.bmul2 d a b) := by
  intro h
  delta Instr.fits at h
  simp only [Bool.and_eq_true, decide_eq_true_eq] at h
  have h_b := ob_code_lt b (by simp_all)
  refine fits4 ?_ ?_ <;> (delta Instr.word; simp only []; omega)
theorem Fits.bfma2 (d : Nat) (a : Nat) (b : Ob) : Fits.Statement (.bfma2 d a b) := by
  intro h
  delta Instr.fits at h
  simp only [Bool.and_eq_true, decide_eq_true_eq] at h
  have h_b := ob_code_lt b (by simp_all)
  refine fits4 ?_ ?_ <;> (delta Instr.word; simp only []; omega)
theorem Fits.vcvt (d : Nat) (a : Nat) (c : Nat) : Fits.Statement (.vcvt d a c) := by
  intro h
  delta Instr.fits at h
  simp only [Bool.and_eq_true, decide_eq_true_eq] at h
  refine fits4 ?_ ?_ <;> (delta Instr.word; simp only []; omega)
theorem Fits.vpke4 (d : Nat) (a : Nat) (b : Ob) : Fits.Statement (.vpke4 d a b) := by
  intro h
  delta Instr.fits at h
  simp only [Bool.and_eq_true, decide_eq_true_eq] at h
  have h_b := ob_code_lt b (by simp_all)
  refine fits4 ?_ ?_ <;> (delta Instr.word; simp only []; omega)
theorem Fits.vpke5 (d : Nat) (a : Nat) (b : Ob) : Fits.Statement (.vpke5 d a b) := by
  intro h
  delta Instr.fits at h
  simp only [Bool.and_eq_true, decide_eq_true_eq] at h
  have h_b := ob_code_lt b (by simp_all)
  refine fits4 ?_ ?_ <;> (delta Instr.word; simp only []; omega)
theorem Fits.vshfl (d : Nat) (a : Nat) (b : Ob) : Fits.Statement (.vshfl d a b) := by
  intro h
  delta Instr.fits at h
  simp only [Bool.and_eq_true, decide_eq_true_eq] at h
  have h_b := ob_code_lt b (by simp_all)
  refine fits4 ?_ ?_ <;> (delta Instr.word; simp only []; omega)
theorem Fits.vshflx (d : Nat) (a : Nat) (b : Ob) : Fits.Statement (.vshflx d a b) := by
  intro h
  delta Instr.fits at h
  simp only [Bool.and_eq_true, decide_eq_true_eq] at h
  have h_b := ob_code_lt b (by simp_all)
  refine fits4 ?_ ?_ <;> (delta Instr.word; simp only []; omega)
theorem Fits.vshflu (d : Nat) (a : Nat) (b : Ob) : Fits.Statement (.vshflu d a b) := by
  intro h
  delta Instr.fits at h
  simp only [Bool.and_eq_true, decide_eq_true_eq] at h
  have h_b := ob_code_lt b (by simp_all)
  refine fits4 ?_ ?_ <;> (delta Instr.word; simp only []; omega)
theorem Fits.vshfld (d : Nat) (a : Nat) (b : Ob) : Fits.Statement (.vshfld d a b) := by
  intro h
  delta Instr.fits at h
  simp only [Bool.and_eq_true, decide_eq_true_eq] at h
  have h_b := ob_code_lt b (by simp_all)
  refine fits4 ?_ ?_ <;> (delta Instr.word; simp only []; omega)
theorem Fits.vpfxadd (d : Nat) (a : Nat) : Fits.Statement (.vpfxadd d a) := by
  intro h
  delta Instr.fits at h
  simp only [Bool.and_eq_true, decide_eq_true_eq] at h
  refine fits4 ?_ ?_ <;> (delta Instr.word; simp only []; omega)
theorem Fits.vpfxmax (d : Nat) (a : Nat) : Fits.Statement (.vpfxmax d a) := by
  intro h
  delta Instr.fits at h
  simp only [Bool.and_eq_true, decide_eq_true_eq] at h
  refine fits4 ?_ ?_ <;> (delta Instr.word; simp only []; omega)
theorem Fits.vredadd (d : Nat) (a : Nat) : Fits.Statement (.vredadd d a) := by
  intro h
  delta Instr.fits at h
  simp only [Bool.and_eq_true, decide_eq_true_eq] at h
  refine fits4 ?_ ?_ <;> (delta Instr.word; simp only []; omega)
theorem Fits.vredfadd (d : Nat) (a : Nat) : Fits.Statement (.vredfadd d a) := by
  intro h
  delta Instr.fits at h
  simp only [Bool.and_eq_true, decide_eq_true_eq] at h
  refine fits4 ?_ ?_ <;> (delta Instr.word; simp only []; omega)
theorem Fits.vredmax (d : Nat) (a : Nat) : Fits.Statement (.vredmax d a) := by
  intro h
  delta Instr.fits at h
  simp only [Bool.and_eq_true, decide_eq_true_eq] at h
  refine fits4 ?_ ?_ <;> (delta Instr.word; simp only []; omega)
theorem Fits.vballot (d : Nat) (a : Nat) : Fits.Statement (.vballot d a) := by
  intro h
  delta Instr.fits at h
  simp only [Bool.and_eq_true, decide_eq_true_eq] at h
  refine fits4 ?_ ?_ <;> (delta Instr.word; simp only []; omega)
theorem Fits.vget (d : Nat) (a : Nat) (b : Ob) : Fits.Statement (.vget d a b) := by
  intro h
  delta Instr.fits at h
  simp only [Bool.and_eq_true, decide_eq_true_eq] at h
  have h_b := ob_code_lt b (by simp_all)
  refine fits4 ?_ ?_ <;> (delta Instr.word; simp only []; omega)
theorem Fits.vsetl (d : Nat) (a : Nat) (b : Ob) : Fits.Statement (.vsetl d a b) := by
  intro h
  delta Instr.fits at h
  simp only [Bool.and_eq_true, decide_eq_true_eq] at h
  have h_b := ob_code_lt b (by simp_all)
  refine fits4 ?_ ?_ <;> (delta Instr.word; simp only []; omega)
theorem Fits.vlid (d : Nat) : Fits.Statement (.vlid d) := by
  intro h
  delta Instr.fits at h
  simp only [decide_eq_true_eq] at h
  refine fits4 ?_ ?_ <;> (delta Instr.word; simp only []; omega)
theorem Fits.vsr (d : Nat) (c : Nat) : Fits.Statement (.vsr d c) := by
  intro h
  delta Instr.fits at h
  simp only [Bool.and_eq_true, decide_eq_true_eq] at h
  refine fits4 ?_ ?_ <;> (delta Instr.word; simp only []; omega)
theorem Fits.vmov (d : Nat) (a : Nat) : Fits.Statement (.vmov d a) := by
  intro h
  delta Instr.fits at h
  simp only [Bool.and_eq_true, decide_eq_true_eq] at h
  refine fits4 ?_ ?_ <;> (delta Instr.word; simp only []; omega)
theorem Fits.vmovo (k : Nat) (a : Nat) : Fits.Statement (.vmovo k a) := by
  intro h
  delta Instr.fits at h
  simp only [Bool.and_eq_true, decide_eq_true_eq] at h
  refine fits4 ?_ ?_ <;> (delta Instr.word; simp only []; omega)
theorem Fits.pand (d : Nat) (a : Nat) (b : Nat) : Fits.Statement (.pand d a b) := by
  intro h
  delta Instr.fits at h
  simp only [Bool.and_eq_true, decide_eq_true_eq] at h
  refine fits4 ?_ ?_ <;> (delta Instr.word; simp only []; omega)
theorem Fits.por (d : Nat) (a : Nat) (b : Nat) : Fits.Statement (.por d a b) := by
  intro h
  delta Instr.fits at h
  simp only [Bool.and_eq_true, decide_eq_true_eq] at h
  refine fits4 ?_ ?_ <;> (delta Instr.word; simp only []; omega)
theorem Fits.pxor (d : Nat) (a : Nat) (b : Nat) : Fits.Statement (.pxor d a b) := by
  intro h
  delta Instr.fits at h
  simp only [Bool.and_eq_true, decide_eq_true_eq] at h
  refine fits4 ?_ ?_ <;> (delta Instr.word; simp only []; omega)
theorem Fits.pandn (d : Nat) (a : Nat) (b : Nat) : Fits.Statement (.pandn d a b) := by
  intro h
  delta Instr.fits at h
  simp only [Bool.and_eq_true, decide_eq_true_eq] at h
  refine fits4 ?_ ?_ <;> (delta Instr.word; simp only []; omega)
theorem Fits.pnot (d : Nat) (a : Nat) : Fits.Statement (.pnot d a) := by
  intro h
  delta Instr.fits at h
  simp only [Bool.and_eq_true, decide_eq_true_eq] at h
  refine fits4 ?_ ?_ <;> (delta Instr.word; simp only []; omega)
theorem Fits.pset (d : Nat) (b : Ob) : Fits.Statement (.pset d b) := by
  intro h
  delta Instr.fits at h
  simp only [Bool.and_eq_true, decide_eq_true_eq] at h
  have h_b := ob_code_lt b (by simp_all)
  refine fits4 ?_ ?_ <;> (delta Instr.word; simp only []; omega)
theorem Fits.ppopc (d : Nat) (a : Nat) : Fits.Statement (.ppopc d a) := by
  intro h
  delta Instr.fits at h
  simp only [Bool.and_eq_true, decide_eq_true_eq] at h
  refine fits4 ?_ ?_ <;> (delta Instr.word; simp only []; omega)
theorem Fits.pfirst (d : Nat) (a : Nat) : Fits.Statement (.pfirst d a) := by
  intro h
  delta Instr.fits at h
  simp only [Bool.and_eq_true, decide_eq_true_eq] at h
  refine fits4 ?_ ?_ <;> (delta Instr.word; simp only []; omega)
theorem Fits.ldv8n (t : Nat) (vx : Nat) (k : Nat) (obs : Nat) : Fits.Statement (.ldv8n t vx k obs) := by
  intro h
  delta Instr.fits at h
  simp only [Bool.and_eq_true, decide_eq_true_eq] at h
  refine fits4 ?_ ?_ <;> (delta Instr.word; simp only []; omega)
theorem Fits.ldv8i (t : Nat) (vx : Nat) (k : Nat) (obs : Nat) : Fits.Statement (.ldv8i t vx k obs) := by
  intro h
  delta Instr.fits at h
  simp only [Bool.and_eq_true, decide_eq_true_eq] at h
  refine fits4 ?_ ?_ <;> (delta Instr.word; simp only []; omega)
theorem Fits.ldv16n (t : Nat) (vx : Nat) (k : Nat) (obs : Nat) : Fits.Statement (.ldv16n t vx k obs) := by
  intro h
  delta Instr.fits at h
  simp only [Bool.and_eq_true, decide_eq_true_eq] at h
  refine fits4 ?_ ?_ <;> (delta Instr.word; simp only []; omega)
theorem Fits.ldv16i (t : Nat) (vx : Nat) (k : Nat) (obs : Nat) : Fits.Statement (.ldv16i t vx k obs) := by
  intro h
  delta Instr.fits at h
  simp only [Bool.and_eq_true, decide_eq_true_eq] at h
  refine fits4 ?_ ?_ <;> (delta Instr.word; simp only []; omega)
theorem Fits.ldv32 (t : Nat) (vx : Nat) (k : Nat) (obs : Nat) : Fits.Statement (.ldv32 t vx k obs) := by
  intro h
  delta Instr.fits at h
  simp only [Bool.and_eq_true, decide_eq_true_eq] at h
  refine fits4 ?_ ?_ <;> (delta Instr.word; simp only []; omega)
theorem Fits.ldv64 (t : Nat) (vx : Nat) (k : Nat) (obs : Nat) : Fits.Statement (.ldv64 t vx k obs) := by
  intro h
  delta Instr.fits at h
  simp only [Bool.and_eq_true, decide_eq_true_eq] at h
  refine fits4 ?_ ?_ <;> (delta Instr.word; simp only []; omega)
theorem Fits.ldv128 (t : Nat) (vx : Nat) (k : Nat) (obs : Nat) : Fits.Statement (.ldv128 t vx k obs) := by
  intro h
  delta Instr.fits at h
  simp only [Bool.and_eq_true, decide_eq_true_eq] at h
  refine fits4 ?_ ?_ <;> (delta Instr.word; simp only []; omega)
theorem Fits.stv8 (t : Nat) (vx : Nat) (k : Nat) (obs : Nat) : Fits.Statement (.stv8 t vx k obs) := by
  intro h
  delta Instr.fits at h
  simp only [Bool.and_eq_true, decide_eq_true_eq] at h
  refine fits4 ?_ ?_ <;> (delta Instr.word; simp only []; omega)
theorem Fits.stv16 (t : Nat) (vx : Nat) (k : Nat) (obs : Nat) : Fits.Statement (.stv16 t vx k obs) := by
  intro h
  delta Instr.fits at h
  simp only [Bool.and_eq_true, decide_eq_true_eq] at h
  refine fits4 ?_ ?_ <;> (delta Instr.word; simp only []; omega)
theorem Fits.stv32 (t : Nat) (vx : Nat) (k : Nat) (obs : Nat) : Fits.Statement (.stv32 t vx k obs) := by
  intro h
  delta Instr.fits at h
  simp only [Bool.and_eq_true, decide_eq_true_eq] at h
  refine fits4 ?_ ?_ <;> (delta Instr.word; simp only []; omega)
theorem Fits.stv64 (t : Nat) (vx : Nat) (k : Nat) (obs : Nat) : Fits.Statement (.stv64 t vx k obs) := by
  intro h
  delta Instr.fits at h
  simp only [Bool.and_eq_true, decide_eq_true_eq] at h
  refine fits4 ?_ ?_ <;> (delta Instr.word; simp only []; omega)
theorem Fits.stv128 (t : Nat) (vx : Nat) (k : Nat) (obs : Nat) : Fits.Statement (.stv128 t vx k obs) := by
  intro h
  delta Instr.fits at h
  simp only [Bool.and_eq_true, decide_eq_true_eq] at h
  refine fits4 ?_ ?_ <;> (delta Instr.word; simp only []; omega)
theorem Fits.lds32 (r : Nat) (imm : Nat) (k : Nat) (obs : Nat) : Fits.Statement (.lds32 r imm k obs) := by
  intro h
  delta Instr.fits at h
  simp only [Bool.and_eq_true, decide_eq_true_eq] at h
  refine fits4 ?_ ?_ <;> (delta Instr.word; simp only []; omega)
theorem Fits.lds64 (r : Nat) (imm : Nat) (k : Nat) (obs : Nat) : Fits.Statement (.lds64 r imm k obs) := by
  intro h
  delta Instr.fits at h
  simp only [Bool.and_eq_true, decide_eq_true_eq] at h
  refine fits4 ?_ ?_ <;> (delta Instr.word; simp only []; omega)
theorem Fits.sts32 (r : Nat) (imm : Nat) (k : Nat) (obs : Nat) : Fits.Statement (.sts32 r imm k obs) := by
  intro h
  delta Instr.fits at h
  simp only [Bool.and_eq_true, decide_eq_true_eq] at h
  refine fits4 ?_ ?_ <;> (delta Instr.word; simp only []; omega)
theorem Fits.sts64 (r : Nat) (imm : Nat) (k : Nat) (obs : Nat) : Fits.Statement (.sts64 r imm k obs) := by
  intro h
  delta Instr.fits at h
  simp only [Bool.and_eq_true, decide_eq_true_eq] at h
  refine fits4 ?_ ?_ <;> (delta Instr.word; simp only []; omega)
theorem Fits.ldc (t : Nat) (vx : Nat) (k : Nat) : Fits.Statement (.ldc t vx k) := by
  intro h
  delta Instr.fits at h
  simp only [Bool.and_eq_true, decide_eq_true_eq] at h
  refine fits4 ?_ ?_ <;> (delta Instr.word; simp only []; omega)
theorem Fits.zline (imm : Nat) (k : Nat) : Fits.Statement (.zline imm k) := by
  intro h
  delta Instr.fits at h
  simp only [Bool.and_eq_true, decide_eq_true_eq] at h
  refine fits4 ?_ ?_ <;> (delta Instr.word; simp only []; omega)
theorem Fits.fence (obs : Nat) : Fits.Statement (.fence obs) := by
  intro h
  delta Instr.fits at h
  simp only [decide_eq_true_eq] at h
  refine fits4 ?_ ?_ <;> (delta Instr.word; simp only []; omega)
theorem Fits.pref (imm : Nat) (k : Nat) : Fits.Statement (.pref imm k) := by
  intro h
  delta Instr.fits at h
  simp only [Bool.and_eq_true, decide_eq_true_eq] at h
  refine fits4 ?_ ?_ <;> (delta Instr.word; simp only []; omega)
theorem Fits.barinit (r : Nat) (imm : Nat) (k : Nat) (obs : Nat) : Fits.Statement (.barinit r imm k obs) := by
  intro h
  delta Instr.fits at h
  simp only [Bool.and_eq_true, decide_eq_true_eq] at h
  refine fits4 ?_ ?_ <;> (delta Instr.word; simp only []; omega)
theorem Fits.barar (r : Nat) (imm : Nat) (k : Nat) (obs : Nat) : Fits.Statement (.barar r imm k obs) := by
  intro h
  delta Instr.fits at h
  simp only [Bool.and_eq_true, decide_eq_true_eq] at h
  refine fits4 ?_ ?_ <;> (delta Instr.word; simp only []; omega)
theorem Fits.barwait (r : Nat) (imm : Nat) (k : Nat) (obs : Nat) : Fits.Statement (.barwait r imm k obs) := by
  intro h
  delta Instr.fits at h
  simp only [Bool.and_eq_true, decide_eq_true_eq] at h
  refine fits4 ?_ ?_ <;> (delta Instr.word; simp only []; omega)
theorem Fits.barsync (r : Nat) (imm : Nat) (k : Nat) (obs : Nat) : Fits.Statement (.barsync r imm k obs) := by
  intro h
  delta Instr.fits at h
  simp only [Bool.and_eq_true, decide_eq_true_eq] at h
  refine fits4 ?_ ?_ <;> (delta Instr.word; simp only []; omega)
theorem Fits.bardrop (r : Nat) (imm : Nat) (k : Nat) (obs : Nat) : Fits.Statement (.bardrop r imm k obs) := by
  intro h
  delta Instr.fits at h
  simp only [Bool.and_eq_true, decide_eq_true_eq] at h
  refine fits4 ?_ ?_ <;> (delta Instr.word; simp only []; omega)
theorem Fits.aadd (t : Nat) (vx : Nat) (k : Nat) (obs : Nat) : Fits.Statement (.aadd t vx k obs) := by
  intro h
  delta Instr.fits at h
  simp only [Bool.and_eq_true, decide_eq_true_eq] at h
  refine fits4 ?_ ?_ <;> (delta Instr.word; simp only []; omega)
theorem Fits.aand (t : Nat) (vx : Nat) (k : Nat) (obs : Nat) : Fits.Statement (.aand t vx k obs) := by
  intro h
  delta Instr.fits at h
  simp only [Bool.and_eq_true, decide_eq_true_eq] at h
  refine fits4 ?_ ?_ <;> (delta Instr.word; simp only []; omega)
theorem Fits.aor (t : Nat) (vx : Nat) (k : Nat) (obs : Nat) : Fits.Statement (.aor t vx k obs) := by
  intro h
  delta Instr.fits at h
  simp only [Bool.and_eq_true, decide_eq_true_eq] at h
  refine fits4 ?_ ?_ <;> (delta Instr.word; simp only []; omega)
theorem Fits.axor (t : Nat) (vx : Nat) (k : Nat) (obs : Nat) : Fits.Statement (.axor t vx k obs) := by
  intro h
  delta Instr.fits at h
  simp only [Bool.and_eq_true, decide_eq_true_eq] at h
  refine fits4 ?_ ?_ <;> (delta Instr.word; simp only []; omega)
theorem Fits.amin (t : Nat) (vx : Nat) (k : Nat) (obs : Nat) : Fits.Statement (.amin t vx k obs) := by
  intro h
  delta Instr.fits at h
  simp only [Bool.and_eq_true, decide_eq_true_eq] at h
  refine fits4 ?_ ?_ <;> (delta Instr.word; simp only []; omega)
theorem Fits.amax (t : Nat) (vx : Nat) (k : Nat) (obs : Nat) : Fits.Statement (.amax t vx k obs) := by
  intro h
  delta Instr.fits at h
  simp only [Bool.and_eq_true, decide_eq_true_eq] at h
  refine fits4 ?_ ?_ <;> (delta Instr.word; simp only []; omega)
theorem Fits.aminn (t : Nat) (vx : Nat) (k : Nat) (obs : Nat) : Fits.Statement (.aminn t vx k obs) := by
  intro h
  delta Instr.fits at h
  simp only [Bool.and_eq_true, decide_eq_true_eq] at h
  refine fits4 ?_ ?_ <;> (delta Instr.word; simp only []; omega)
theorem Fits.amaxn (t : Nat) (vx : Nat) (k : Nat) (obs : Nat) : Fits.Statement (.amaxn t vx k obs) := by
  intro h
  delta Instr.fits at h
  simp only [Bool.and_eq_true, decide_eq_true_eq] at h
  refine fits4 ?_ ?_ <;> (delta Instr.word; simp only []; omega)
theorem Fits.axchg (t : Nat) (vx : Nat) (k : Nat) (obs : Nat) : Fits.Statement (.axchg t vx k obs) := by
  intro h
  delta Instr.fits at h
  simp only [Bool.and_eq_true, decide_eq_true_eq] at h
  refine fits4 ?_ ?_ <;> (delta Instr.word; simp only []; omega)
theorem Fits.acas (t : Nat) (vx : Nat) (k : Nat) (obs : Nat) : Fits.Statement (.acas t vx k obs) := by
  intro h
  delta Instr.fits at h
  simp only [Bool.and_eq_true, decide_eq_true_eq] at h
  refine fits4 ?_ ?_ <;> (delta Instr.word; simp only []; omega)
theorem Fits.afadd (t : Nat) (vx : Nat) (k : Nat) (obs : Nat) : Fits.Statement (.afadd t vx k obs) := by
  intro h
  delta Instr.fits at h
  simp only [Bool.and_eq_true, decide_eq_true_eq] at h
  refine fits4 ?_ ?_ <;> (delta Instr.word; simp only []; omega)
theorem Fits.abinc (t : Nat) (vx : Nat) (k : Nat) (obs : Nat) : Fits.Statement (.abinc t vx k obs) := by
  intro h
  delta Instr.fits at h
  simp only [Bool.and_eq_true, decide_eq_true_eq] at h
  refine fits4 ?_ ?_ <;> (delta Instr.word; simp only []; omega)
theorem Fits.awinc (t : Nat) (vx : Nat) (k : Nat) (obs : Nat) : Fits.Statement (.awinc t vx k obs) := by
  intro h
  delta Instr.fits at h
  simp only [Bool.and_eq_true, decide_eq_true_eq] at h
  refine fits4 ?_ ?_ <;> (delta Instr.word; simp only []; omega)
theorem Fits.adecp (t : Nat) (vx : Nat) (k : Nat) (obs : Nat) : Fits.Statement (.adecp t vx k obs) := by
  intro h
  delta Instr.fits at h
  simp only [Bool.and_eq_true, decide_eq_true_eq] at h
  refine fits4 ?_ ?_ <;> (delta Instr.word; simp only []; omega)
theorem Fits.aaddl (t : Nat) (vx : Nat) (k : Nat) (obs : Nat) : Fits.Statement (.aaddl t vx k obs) := by
  intro h
  delta Instr.fits at h
  simp only [Bool.and_eq_true, decide_eq_true_eq] at h
  refine fits4 ?_ ?_ <;> (delta Instr.word; simp only []; omega)
theorem Fits.aadd64 (t : Nat) (vx : Nat) (k : Nat) (obs : Nat) : Fits.Statement (.aadd64 t vx k obs) := by
  intro h
  delta Instr.fits at h
  simp only [Bool.and_eq_true, decide_eq_true_eq] at h
  refine fits4 ?_ ?_ <;> (delta Instr.word; simp only []; omega)
theorem Fits.axchg64 (t : Nat) (vx : Nat) (k : Nat) (obs : Nat) : Fits.Statement (.axchg64 t vx k obs) := by
  intro h
  delta Instr.fits at h
  simp only [Bool.and_eq_true, decide_eq_true_eq] at h
  refine fits4 ?_ ?_ <;> (delta Instr.word; simp only []; omega)
theorem Fits.acas64 (t : Nat) (vx : Nat) (k : Nat) (obs : Nat) : Fits.Statement (.acas64 t vx k obs) := by
  intro h
  delta Instr.fits at h
  simp only [Bool.and_eq_true, decide_eq_true_eq] at h
  refine fits4 ?_ ?_ <;> (delta Instr.word; simp only []; omega)
theorem Fits.amin64n (t : Nat) (vx : Nat) (k : Nat) (obs : Nat) : Fits.Statement (.amin64n t vx k obs) := by
  intro h
  delta Instr.fits at h
  simp only [Bool.and_eq_true, decide_eq_true_eq] at h
  refine fits4 ?_ ?_ <;> (delta Instr.word; simp only []; omega)
theorem Fits.mma (c : Nat) (a : Nat) (b : Nat) (m : Nat) (d : Nat) : Fits.Statement (.mma c a b m d) := by
  intro h
  delta Instr.fits at h
  simp only [Bool.and_eq_true, decide_eq_true_eq] at h
  refine fits4 ?_ ?_ <;> (delta Instr.word; simp only []; omega)
theorem Fits.mmaz (c : Nat) (a : Nat) (b : Nat) (m : Nat) (d : Nat) : Fits.Statement (.mmaz c a b m d) := by
  intro h
  delta Instr.fits at h
  simp only [Bool.and_eq_true, decide_eq_true_eq] at h
  refine fits4 ?_ ?_ <;> (delta Instr.word; simp only []; omega)
theorem Fits.mclaim (acc : Bool) (a : Nat) (n : Nat) : Fits.Statement (.mclaim acc a n) := by
  intro h
  delta Instr.fits at h
  simp only [Bool.and_eq_true, decide_eq_true_eq] at h
  have h_acc := bool_toNat_lt acc
  refine fits4 ?_ ?_ <;> (delta Instr.word; simp only []; omega)
theorem Fits.mrel (acc : Bool) (a : Nat) (n : Nat) : Fits.Statement (.mrel acc a n) := by
  intro h
  delta Instr.fits at h
  simp only [Bool.and_eq_true, decide_eq_true_eq] at h
  have h_acc := bool_toNat_lt acc
  refine fits4 ?_ ?_ <;> (delta Instr.word; simp only []; omega)
theorem Fits.mldo (a : Nat) (c : Nat) (d : Nat) : Fits.Statement (.mldo a c d) := by
  intro h
  delta Instr.fits at h
  simp only [Bool.and_eq_true, decide_eq_true_eq] at h
  refine fits4 ?_ ?_ <;> (delta Instr.word; simp only []; omega)
theorem Fits.msta (a : Nat) (c : Nat) (d : Nat) (m : Nat) : Fits.Statement (.msta a c d m) := by
  intro h
  delta Instr.fits at h
  simp only [Bool.and_eq_true, decide_eq_true_eq] at h
  refine fits4 ?_ ?_ <;> (delta Instr.word; simp only []; omega)
theorem Fits.mzacc (a : Nat) (b : Nat) : Fits.Statement (.mzacc a b) := by
  intro h
  delta Instr.fits at h
  simp only [Bool.and_eq_true, decide_eq_true_eq] at h
  refine fits4 ?_ ?_ <;> (delta Instr.word; simp only []; omega)
theorem Fits.mbatonQuery (d : Nat) : Fits.Statement (.mbatonQuery d) := by
  intro h
  delta Instr.fits at h
  simp only [decide_eq_true_eq] at h
  refine fits4 ?_ ?_ <;> (delta Instr.word; simp only []; omega)
theorem Fits.qmv (c : Nat) (d : Nat) (b : Nat) (ni : Nat) (no : Nat) : Fits.Statement (.qmv c d b ni no) := by
  intro h
  delta Instr.fits at h
  simp only [Bool.and_eq_true, decide_eq_true_eq] at h
  refine fits4 ?_ ?_ <;> (delta Instr.word; simp only []; omega)
theorem Fits.qmva (c : Nat) (d : Nat) (b : Nat) (ni : Nat) (no : Nat) : Fits.Statement (.qmva c d b ni no) := by
  intro h
  delta Instr.fits at h
  simp only [Bool.and_eq_true, decide_eq_true_eq] at h
  refine fits4 ?_ ?_ <;> (delta Instr.word; simp only []; omega)
theorem Fits.qmvb (c : Nat) (d : Nat) (b : Nat) (ni : Nat) (no : Nat) : Fits.Statement (.qmvb c d b ni no) := by
  intro h
  delta Instr.fits at h
  simp only [Bool.and_eq_true, decide_eq_true_eq] at h
  refine fits4 ?_ ?_ <;> (delta Instr.word; simp only []; omega)
theorem Fits.tdset (a : Nat) (c : Nat) : Fits.Statement (.tdset a c) := by
  intro h
  delta Instr.fits at h
  simp only [Bool.and_eq_true, decide_eq_true_eq] at h
  refine fits4 ?_ ?_ <;> (delta Instr.word; simp only []; omega)
theorem Fits.tdget (a : Nat) (c : Nat) : Fits.Statement (.tdget a c) := by
  intro h
  delta Instr.fits at h
  simp only [Bool.and_eq_true, decide_eq_true_eq] at h
  refine fits4 ?_ ?_ <;> (delta Instr.word; simp only []; omega)
theorem Fits.attn (a : Nat) (b : Nat) (c : Nat) (d : Nat) : Fits.Statement (.attn a b c d) := by
  intro h
  delta Instr.fits at h
  simp only [Bool.and_eq_true, decide_eq_true_eq] at h
  refine fits4 ?_ ?_ <;> (delta Instr.word; simp only []; omega)
theorem Fits.attnf (a : Nat) (c : Nat) (d : Nat) : Fits.Statement (.attnf a c d) := by
  intro h
  delta Instr.fits at h
  simp only [Bool.and_eq_true, decide_eq_true_eq] at h
  refine fits4 ?_ ?_ <;> (delta Instr.word; simp only []; omega)
theorem Fits.attnz (a : Nat) : Fits.Statement (.attnz a) := by
  intro h
  delta Instr.fits at h
  simp only [decide_eq_true_eq] at h
  refine fits4 ?_ ?_ <;> (delta Instr.word; simp only []; omega)
theorem Fits.mstat (d : Nat) : Fits.Statement (.mstat d) := by
  intro h
  delta Instr.fits at h
  simp only [decide_eq_true_eq] at h
  refine fits4 ?_ ?_ <;> (delta Instr.word; simp only []; omega)
theorem Fits.cpy (a : Nat) (b : Nat) (c : Nat) (d : Nat) : Fits.Statement (.cpy a b c d) := by
  intro h
  delta Instr.fits at h
  simp only [Bool.and_eq_true, decide_eq_true_eq] at h
  refine fits4 ?_ ?_ <;> (delta Instr.word; simp only []; omega)
theorem Fits.cpywp (c : Nat) (d : Nat) : Fits.Statement (.cpywp c d) := by
  intro h
  delta Instr.fits at h
  simp only [Bool.and_eq_true, decide_eq_true_eq] at h
  refine fits4 ?_ ?_ <;> (delta Instr.word; simp only []; omega)
theorem Fits.blkcpy (a : Nat) (b : Nat) (c : Nat) (d : Nat) : Fits.Statement (.blkcpy a b c d) := by
  intro h
  delta Instr.fits at h
  simp only [Bool.and_eq_true, decide_eq_true_eq] at h
  refine fits4 ?_ ?_ <;> (delta Instr.word; simp only []; omega)
theorem Fits.gatherf (a : Nat) (c : Nat) (d : Nat) : Fits.Statement (.gatherf a c d) := by
  intro h
  delta Instr.fits at h
  simp only [Bool.and_eq_true, decide_eq_true_eq] at h
  refine fits4 ?_ ?_ <;> (delta Instr.word; simp only []; omega)
theorem Fits.scatterf (a : Nat) (c : Nat) (d : Nat) : Fits.Statement (.scatterf a c d) := by
  intro h
  delta Instr.fits at h
  simp only [Bool.and_eq_true, decide_eq_true_eq] at h
  refine fits4 ?_ ?_ <;> (delta Instr.word; simp only []; omega)
theorem Fits.launch (a : Nat) (b : Nat) (c : Nat) (d : Nat) : Fits.Statement (.launch a b c d) := by
  intro h
  delta Instr.fits at h
  simp only [Bool.and_eq_true, decide_eq_true_eq] at h
  refine fits4 ?_ ?_ <;> (delta Instr.word; simp only []; omega)
theorem Fits.lwait (c : Nat) : Fits.Statement (.lwait c) := by
  intro h
  delta Instr.fits at h
  simp only [decide_eq_true_eq] at h
  refine fits4 ?_ ?_ <;> (delta Instr.word; simp only []; omega)
theorem Fits.spawn (a : Nat) (b : Nat) (c : Nat) (d : Nat) : Fits.Statement (.spawn a b c d) := by
  intro h
  delta Instr.fits at h
  simp only [Bool.and_eq_true, decide_eq_true_eq] at h
  refine fits4 ?_ ?_ <;> (delta Instr.word; simp only []; omega)
theorem Fits.join (b : Nat) : Fits.Statement (.join b) := by
  intro h
  delta Instr.fits at h
  simp only [decide_eq_true_eq] at h
  refine fits4 ?_ ?_ <;> (delta Instr.word; simp only []; omega)
theorem Fits.reorder (align : Bool) (d : Nat) (k : Nat) (p : Nat) (n : Nat) : Fits.Statement (.reorder align d k p n) := by
  intro h
  delta Instr.fits at h
  simp only [Bool.and_eq_true, decide_eq_true_eq] at h
  have h_align := bool_toNat_lt align
  refine fits4 ?_ ?_ <;> (delta Instr.word; simp only []; omega)
theorem Fits.mreg (a : Nat) (b : Nat) (c : Nat) (d : Nat) : Fits.Statement (.mreg a b c d) := by
  intro h
  delta Instr.fits at h
  simp only [Bool.and_eq_true, decide_eq_true_eq] at h
  refine fits4 ?_ ?_ <;> (delta Instr.word; simp only []; omega)
theorem Fits.mreq (a : Nat) (c : Nat) (d : Nat) : Fits.Statement (.mreq a c d) := by
  intro h
  delta Instr.fits at h
  simp only [Bool.and_eq_true, decide_eq_true_eq] at h
  refine fits4 ?_ ?_ <;> (delta Instr.word; simp only []; omega)
theorem Fits.mreply (c : Nat) : Fits.Statement (.mreply c) := by
  intro h
  delta Instr.fits at h
  simp only [decide_eq_true_eq] at h
  refine fits4 ?_ ?_ <;> (delta Instr.word; simp only []; omega)
theorem Fits.bgrant (a : Nat) (b : Nat) (c : Nat) (d : Nat) : Fits.Statement (.bgrant a b c d) := by
  intro h
  delta Instr.fits at h
  simp only [Bool.and_eq_true, decide_eq_true_eq] at h
  refine fits4 ?_ ?_ <;> (delta Instr.word; simp only []; omega)
theorem Fits.chsend (c : Nat) (d : Nat) : Fits.Statement (.chsend c d) := by
  intro h
  delta Instr.fits at h
  simp only [Bool.and_eq_true, decide_eq_true_eq] at h
  refine fits4 ?_ ?_ <;> (delta Instr.word; simp only []; omega)
theorem Fits.chrecv (c : Nat) (d : Nat) : Fits.Statement (.chrecv c d) := by
  intro h
  delta Instr.fits at h
  simp only [Bool.and_eq_true, decide_eq_true_eq] at h
  refine fits4 ?_ ?_ <;> (delta Instr.word; simp only []; omega)
theorem Fits.exproute (b : Nat) (c : Nat) (d : Nat) : Fits.Statement (.exproute b c d) := by
  intro h
  delta Instr.fits at h
  simp only [Bool.and_eq_true, decide_eq_true_eq] at h
  refine fits4 ?_ ?_ <;> (delta Instr.word; simp only []; omega)
theorem Fits.cfill (a : Nat) (b : Nat) (d : Nat) : Fits.Statement (.cfill a b d) := by
  intro h
  delta Instr.fits at h
  simp only [Bool.and_eq_true, decide_eq_true_eq] at h
  refine fits4 ?_ ?_ <;> (delta Instr.word; simp only []; omega)
theorem Fits.hread (c : Nat) (d : Nat) : Fits.Statement (.hread c d) := by
  intro h
  delta Instr.fits at h
  simp only [Bool.and_eq_true, decide_eq_true_eq] at h
  refine fits4 ?_ ?_ <;> (delta Instr.word; simp only []; omega)
theorem Fits.hwrite (c : Nat) (d : Nat) : Fits.Statement (.hwrite c d) := by
  intro h
  delta Instr.fits at h
  simp only [Bool.and_eq_true, decide_eq_true_eq] at h
  refine fits4 ?_ ?_ <;> (delta Instr.word; simp only []; omega)
theorem Fits.hpatch (d : Nat) : Fits.Statement (.hpatch d) := by
  intro h
  delta Instr.fits at h
  simp only [decide_eq_true_eq] at h
  refine fits4 ?_ ?_ <;> (delta Instr.word; simp only []; omega)
theorem Fits.hkill (d : Nat) : Fits.Statement (.hkill d) := by
  intro h
  delta Instr.fits at h
  simp only [decide_eq_true_eq] at h
  refine fits4 ?_ ?_ <;> (delta Instr.word; simp only []; omega)
theorem Fits.grow (a : Nat) (c : Nat) : Fits.Statement (.grow a c) := by
  intro h
  delta Instr.fits at h
  simp only [Bool.and_eq_true, decide_eq_true_eq] at h
  refine fits4 ?_ ?_ <;> (delta Instr.word; simp only []; omega)
theorem Fits.shrink (a : Nat) : Fits.Statement (.shrink a) := by
  intro h
  delta Instr.fits at h
  simp only [decide_eq_true_eq] at h
  refine fits4 ?_ ?_ <;> (delta Instr.word; simp only []; omega)
theorem Fits.evsel (a : Nat) (b : Nat) : Fits.Statement (.evsel a b) := by
  intro h
  delta Instr.fits at h
  simp only [Bool.and_eq_true, decide_eq_true_eq] at h
  refine fits4 ?_ ?_ <;> (delta Instr.word; simp only []; omega)
theorem Fits.evrd (a : Nat) (c : Nat) : Fits.Statement (.evrd a c) := by
  intro h
  delta Instr.fits at h
  simp only [Bool.and_eq_true, decide_eq_true_eq] at h
  refine fits4 ?_ ?_ <;> (delta Instr.word; simp only []; omega)
theorem Fits.ret : Fits.Statement (.ret) := by
  intro h
  refine fits4 ?_ ?_ <;> decide
theorem Fits.yield : Fits.Statement (.yield) := by
  intro h
  refine fits4 ?_ ?_ <;> decide
theorem Fits.exit : Fits.Statement (.exit) := by
  intro h
  refine fits4 ?_ ?_ <;> decide
theorem Fits.rett : Fits.Statement (.rett) := by
  intro h
  refine fits4 ?_ ?_ <;> decide
theorem Fits.vlexit : Fits.Statement (.vlexit) := by
  intro h
  refine fits4 ?_ ?_ <;> decide
theorem Fits.stdrain : Fits.Statement (.stdrain) := by
  intro h
  refine fits4 ?_ ?_ <;> decide
theorem Fits.mbatonTake : Fits.Statement (.mbatonTake) := by
  intro h
  refine fits4 ?_ ?_ <;> decide
theorem Fits.mbatonPass : Fits.Statement (.mbatonPass) := by
  intro h
  refine fits4 ?_ ?_ <;> decide
theorem Fits.mdone : Fits.Statement (.mdone) := by
  intro h
  refine fits4 ?_ ?_ <;> decide
theorem Fits.nop : Fits.Statement (.nop) := by
  intro h
  refine fits4 ?_ ?_ <;> decide
theorem Fits.brkpt : Fits.Statement (.brkpt) := by
  intro h
  refine fits4 ?_ ?_ <;> decide
theorem Fits.hend : Fits.Statement (.hend) := by
  intro h
  refine fits4 ?_ ?_ <;> decide
theorem Fits.hkillt : Fits.Statement (.hkillt) := by
  intro h
  refine fits4 ?_ ?_ <;> decide
theorem Fits.esc (e : BitVec 22) : Fits.Statement (.esc e) := by
  intro h
  have h_e := e.isLt
  refine fits4 ?_ ?_ <;> (delta Instr.word; simp only []; omega)
theorem Fits.sleepEnd (c : CtxId) : Fits.Statement (.sleepEnd c) := fun _ => ⟨Nat.one_pos, fun h => absurd rfl h⟩
theorem Fits.stdrainResolve (c : CtxId) : Fits.Statement (.stdrainResolve c) := fun _ => ⟨Nat.one_pos, fun h => absurd rfl h⟩
theorem Fits.barrierApply (t : Nat) (k : Nat) (ops : List OpRef) : Fits.Statement (.barrierApply t k ops) := fun _ => ⟨Nat.one_pos, fun h => absurd rfl h⟩
theorem Fits.loadDataReturn (g : SlotRef) (op : Nat) (lanes : Word) : Fits.Statement (.loadDataReturn g op lanes) := fun _ => ⟨Nat.one_pos, fun h => absurd rfl h⟩
theorem Fits.storePerform (g : SlotRef) (op : Nat) (lanes : Word) : Fits.Statement (.storePerform g op lanes) := fun _ => ⟨Nat.one_pos, fun h => absurd rfl h⟩
theorem Fits.storeFaultRecord (g : SlotRef) (op : Nat) : Fits.Statement (.storeFaultRecord g op) := fun _ => ⟨Nat.one_pos, fun h => absurd rfl h⟩
theorem Fits.atomicPerform (g : SlotRef) (op : Nat) (lanes : Word) : Fits.Statement (.atomicPerform g op lanes) := fun _ => ⟨Nat.one_pos, fun h => absurd rfl h⟩
theorem Fits.prefComplete (g : SlotRef) (op : Nat) : Fits.Statement (.prefComplete g op) := fun _ => ⟨Nat.one_pos, fun h => absurd rfl h⟩
theorem Fits.mclaimGrant (c : CtxId) : Fits.Statement (.mclaimGrant c) := fun _ => ⟨Nat.one_pos, fun h => absurd rfl h⟩
theorem Fits.qmvQuarterComplete (parts : List QmvPart) : Fits.Statement (.qmvQuarterComplete parts) := fun _ => ⟨Nat.one_pos, fun h => absurd rfl h⟩
theorem Fits.mldoComplete (g : SlotRef) (op : Nat) : Fits.Statement (.mldoComplete g op) := fun _ => ⟨Nat.one_pos, fun h => absurd rfl h⟩
theorem Fits.mmaComplete (g : SlotRef) (op : Nat) (rerun : Nat) (bad : List Nat) : Fits.Statement (.mmaComplete g op rerun bad) := fun _ => ⟨Nat.one_pos, fun h => absurd rfl h⟩
theorem Fits.mstaComplete (g : SlotRef) (op : Nat) : Fits.Statement (.mstaComplete g op) := fun _ => ⟨Nat.one_pos, fun h => absurd rfl h⟩
theorem Fits.mzaccComplete (g : SlotRef) (op : Nat) : Fits.Statement (.mzaccComplete g op) := fun _ => ⟨Nat.one_pos, fun h => absurd rfl h⟩
theorem Fits.attnComplete (g : SlotRef) (op : Nat) (rerun : Bool) (bad : Bool) : Fits.Statement (.attnComplete g op rerun bad) := fun _ => ⟨Nat.one_pos, fun h => absurd rfl h⟩
theorem Fits.attnfComplete (g : SlotRef) (op : Nat) : Fits.Statement (.attnfComplete g op) := fun _ => ⟨Nat.one_pos, fun h => absurd rfl h⟩
theorem Fits.attnzComplete (g : SlotRef) (op : Nat) : Fits.Statement (.attnzComplete g op) := fun _ => ⟨Nat.one_pos, fun h => absurd rfl h⟩
theorem Fits.cpywpResult (g : SlotRef) (op : Nat) : Fits.Statement (.cpywpResult g op) := fun _ => ⟨Nat.one_pos, fun h => absurd rfl h⟩
theorem Fits.copyComplete (g : SlotRef) (op : Nat) (n : Nat) (answers : List PeerAnswer) : Fits.Statement (.copyComplete g op n answers) := fun _ => ⟨Nat.one_pos, fun h => absurd rfl h⟩
theorem Fits.launchComplete (g : SlotRef) (op : Nat) : Fits.Statement (.launchComplete g op) := fun _ => ⟨Nat.one_pos, fun h => absurd rfl h⟩
theorem Fits.spawnComplete (g : SlotRef) (op : Nat) : Fits.Statement (.spawnComplete g op) := fun _ => ⟨Nat.one_pos, fun h => absurd rfl h⟩
theorem Fits.reorderArrive (c : CtxId) : Fits.Statement (.reorderArrive c) := fun _ => ⟨Nat.one_pos, fun h => absurd rfl h⟩
theorem Fits.reorderCollectiveStart (t : Nat) : Fits.Statement (.reorderCollectiveStart t) := fun _ => ⟨Nat.one_pos, fun h => absurd rfl h⟩
theorem Fits.reorderCollectiveComplete (t : Nat) : Fits.Statement (.reorderCollectiveComplete t) := fun _ => ⟨Nat.one_pos, fun h => absurd rfl h⟩
theorem Fits.mregSliceResult (g : SlotRef) (op : Nat) : Fits.Statement (.mregSliceResult g op) := fun _ => ⟨Nat.one_pos, fun h => absurd rfl h⟩
theorem Fits.mreqArrive (g : SlotRef) (op : Nat) (lane : Nat) : Fits.Statement (.mreqArrive g op lane) := fun _ => ⟨Nat.one_pos, fun h => absurd rfl h⟩
theorem Fits.mordantBatchClose (obj : Nat) : Fits.Statement (.mordantBatchClose obj) := fun _ => ⟨Nat.one_pos, fun h => absurd rfl h⟩
theorem Fits.combinerWaveStart (obj : Nat) : Fits.Statement (.combinerWaveStart obj) := fun _ => ⟨Nat.one_pos, fun h => absurd rfl h⟩
theorem Fits.combinerWaveLimit (g : SlotRef) : Fits.Statement (.combinerWaveLimit g) := fun _ => ⟨Nat.one_pos, fun h => absurd rfl h⟩
theorem Fits.chsendAccept (g : SlotRef) (op : Nat) : Fits.Statement (.chsendAccept g op) := fun _ => ⟨Nat.one_pos, fun h => absurd rfl h⟩
theorem Fits.chrecvDeliver (g : SlotRef) (op : Nat) : Fits.Statement (.chrecvDeliver g op) := fun _ => ⟨Nat.one_pos, fun h => absurd rfl h⟩
theorem Fits.channelMessageArrive (task : Nat) (cap : Nat) (words : List Word) (lanes : Word) : Fits.Statement (.channelMessageArrive task cap words lanes) := fun _ => ⟨Nat.one_pos, fun h => absurd rfl h⟩
theorem Fits.expertReplicaCommit (die : Nat) (entry : Nat) : Fits.Statement (.expertReplicaCommit die entry) := fun _ => ⟨Nat.one_pos, fun h => absurd rfl h⟩
theorem Fits.cfillComplete (g : SlotRef) (op : Nat) (n : Nat) : Fits.Statement (.cfillComplete g op n) := fun _ => ⟨Nat.one_pos, fun h => absurd rfl h⟩
theorem Fits.growGrant (c : CtxId) : Fits.Statement (.growGrant c) := fun _ => ⟨Nat.one_pos, fun h => absurd rfl h⟩
theorem Fits.growDeadlockFail (core : CoreRef) : Fits.Statement (.growDeadlockFail core) := fun _ => ⟨Nat.one_pos, fun h => absurd rfl h⟩
theorem Fits.shrinkApply (c : CtxId) : Fits.Statement (.shrinkApply c) := fun _ => ⟨Nat.one_pos, fun h => absurd rfl h⟩
theorem Fits.laneCollectionClose (t : Nat) (cluster : Nat) : Fits.Statement (.laneCollectionClose t cluster) := fun _ => ⟨Nat.one_pos, fun h => absurd rfl h⟩
theorem Fits.handlerWaveStart (t : Nat) (cluster : Nat) : Fits.Statement (.handlerWaveStart t cluster) := fun _ => ⟨Nat.one_pos, fun h => absurd rfl h⟩
theorem Fits.laneWaveLimit (g : SlotRef) : Fits.Statement (.laneWaveLimit g) := fun _ => ⟨Nat.one_pos, fun h => absurd rfl h⟩
theorem Fits.slotPromotion (g : SlotRef) : Fits.Statement (.slotPromotion g) := fun _ => ⟨Nat.one_pos, fun h => absurd rfl h⟩
theorem Fits.graceForcedSave (g : SlotRef) : Fits.Statement (.graceForcedSave g) := fun _ => ⟨Nat.one_pos, fun h => absurd rfl h⟩
theorem Fits.topupLand (t : Nat) (ins : Bool) : Fits.Statement (.topupLand t ins) := fun _ => ⟨Nat.one_pos, fun h => absurd rfl h⟩
theorem Fits.contextRestore (c : CtxId) : Fits.Statement (.contextRestore c) := fun _ => ⟨Nat.one_pos, fun h => absurd rfl h⟩
theorem Fits.groupEvictSave (g : SlotRef) : Fits.Statement (.groupEvictSave g) := fun _ => ⟨Nat.one_pos, fun h => absurd rfl h⟩
theorem Fits.evictedGroupReturn (t : Nat) (gi : Nat) : Fits.Statement (.evictedGroupReturn t gi) := fun _ => ⟨Nat.one_pos, fun h => absurd rfl h⟩
theorem Fits.launchCommandStart (q : Nat) : Fits.Statement (.launchCommandStart q) := fun _ => ⟨Nat.one_pos, fun h => absurd rfl h⟩
theorem Fits.leaseResidencyWalk (task : Nat) : Fits.Statement (.leaseResidencyWalk task) := fun _ => ⟨Nat.one_pos, fun h => absurd rfl h⟩
theorem Fits.childGridAccept (task : Nat) : Fits.Statement (.childGridAccept task) := fun _ => ⟨Nat.one_pos, fun h => absurd rfl h⟩
theorem Fits.teamPlace (die : Nat) : Fits.Statement (.teamPlace die) := fun _ => ⟨Nat.one_pos, fun h => absurd rfl h⟩
theorem Fits.stealMessage (n : Nat) : Fits.Statement (.stealMessage n) := fun _ => ⟨Nat.one_pos, fun h => absurd rfl h⟩
theorem Fits.stealTeamsArrive (n : Nat) : Fits.Statement (.stealTeamsArrive n) := fun _ => ⟨Nat.one_pos, fun h => absurd rfl h⟩
theorem Fits.taskQueuePlace (die : Nat) (cluster : Nat) : Fits.Statement (.taskQueuePlace die cluster) := fun _ => ⟨Nat.one_pos, fun h => absurd rfl h⟩
theorem Fits.groupRetire (g : SlotRef) : Fits.Statement (.groupRetire g) := fun _ => ⟨Nat.one_pos, fun h => absurd rfl h⟩
theorem Fits.spawnTaskRetire (task : Nat) : Fits.Statement (.spawnTaskRetire task) := fun _ => ⟨Nat.one_pos, fun h => absurd rfl h⟩
theorem Fits.gridRetire (task : Nat) : Fits.Statement (.gridRetire task) := fun _ => ⟨Nat.one_pos, fun h => absurd rfl h⟩
theorem Fits.qtailWrite (q : Nat) (v : DWord) : Fits.Statement (.qtailWrite q v) := fun _ => ⟨Nat.one_pos, fun h => absurd rfl h⟩
theorem Fits.qctlWrite (q : Nat) (v : DWord) : Fits.Statement (.qctlWrite q v) := fun _ => ⟨Nat.one_pos, fun h => absurd rfl h⟩
theorem Fits.queueSwitchOut (q : Nat) : Fits.Statement (.queueSwitchOut q) := fun _ => ⟨Nat.one_pos, fun h => absurd rfl h⟩
theorem Fits.queueSwitchOutDone (q : Nat) : Fits.Statement (.queueSwitchOutDone q) := fun _ => ⟨Nat.one_pos, fun h => absurd rfl h⟩
theorem Fits.queueSwitchIn (q : Nat) : Fits.Statement (.queueSwitchIn q) := fun _ => ⟨Nat.one_pos, fun h => absurd rfl h⟩
theorem Fits.iqtailWrite (v : DWord) : Fits.Statement (.iqtailWrite v) := fun _ => ⟨Nat.one_pos, fun h => absurd rfl h⟩
theorem Fits.iqctlWrite (v : DWord) : Fits.Statement (.iqctlWrite v) := fun _ => ⟨Nat.one_pos, fun h => absurd rfl h⟩
theorem Fits.invalidateCommand : Fits.Statement (.invalidateCommand) := fun _ => ⟨Nat.one_pos, fun h => absurd rfl h⟩
theorem Fits.rqheadWrite (rq : Nat) (v : DWord) : Fits.Statement (.rqheadWrite rq v) := fun _ => ⟨Nat.one_pos, fun h => absurd rfl h⟩
theorem Fits.ggo (v : DWord) : Fits.Statement (.ggo v) := fun _ => ⟨Nat.one_pos, fun h => absurd rfl h⟩
theorem Fits.registerWrite (agent : Agent) (off : Nat) (v : DWord) : Fits.Statement (.registerWrite agent off v) := fun _ => ⟨Nat.one_pos, fun h => absurd rfl h⟩
theorem Fits.pageMigrationStart (asid : Nat) (va : DWord) (frame : Nat) : Fits.Statement (.pageMigrationStart asid va frame) := fun _ => ⟨Nat.one_pos, fun h => absurd rfl h⟩
theorem Fits.pageMigrationEnd (n : Nat) : Fits.Statement (.pageMigrationEnd n) := fun _ => ⟨Nat.one_pos, fun h => absurd rfl h⟩
theorem Fits.softErrorCorrected (core : CoreRef) : Fits.Statement (.softErrorCorrected core) := fun _ => ⟨Nat.one_pos, fun h => absurd rfl h⟩
theorem Fits.coreStorageUncorrectable (core : CoreRef) (where_ : CoreStore) : Fits.Statement (.coreStorageUncorrectable core where_) := fun _ => ⟨Nat.one_pos, fun h => absurd rfl h⟩
theorem Fits.engineStorageUncorrectable (core : CoreRef) (acc : Bool) (slot : Nat) : Fits.Statement (.engineStorageUncorrectable core acc slot) := fun _ => ⟨Nat.one_pos, fun h => absurd rfl h⟩
theorem Fits.madderUncorrectable (t : Nat) : Fits.Statement (.madderUncorrectable t) := fun _ => ⟨Nat.one_pos, fun h => absurd rfl h⟩
theorem Fits.memoryUncorrectable (path : ErrorPath) : Fits.Statement (.memoryUncorrectable path) := fun _ => ⟨Nat.one_pos, fun h => absurd rfl h⟩
theorem Fits.packageReset : Fits.Statement (.packageReset) := fun _ => ⟨Nat.one_pos, fun h => absurd rfl h⟩
theorem Fits.bootVerify (images : List FirmwareImage) : Fits.Statement (.bootVerify images) := fun _ => ⟨Nat.one_pos, fun h => absurd rfl h⟩
theorem Fits.umberImageLoad (image : FirmwareImage) : Fits.Statement (.umberImageLoad image) := fun _ => ⟨Nat.one_pos, fun h => absurd rfl h⟩
theorem Fits.umberReplaceComplete : Fits.Statement (.umberReplaceComplete) := fun _ => ⟨Nat.one_pos, fun h => absurd rfl h⟩
theorem Fits.attestationReport (nonce : List Byte) : Fits.Statement (.attestationReport nonce) := fun _ => ⟨Nat.one_pos, fun h => absurd rfl h⟩
theorem Fits.portDown (port : Nat) : Fits.Statement (.portDown port) := fun _ => ⟨Nat.one_pos, fun h => absurd rfl h⟩
theorem Fits.peerRequest (req : PeerRequest) : Fits.Statement (.peerRequest req) := fun _ => ⟨Nat.one_pos, fun h => absurd rfl h⟩
theorem Fits.powerThrottle (state : Nat) : Fits.Statement (.powerThrottle state) := fun _ => ⟨Nat.one_pos, fun h => absurd rfl h⟩
theorem Fits.eventCountWrite (e : Nat) (v : DWord) : Fits.Statement (.eventCountWrite e v) := fun _ => ⟨Nat.one_pos, fun h => absurd rfl h⟩
theorem Fits.hostMemoryAccess (acc : HostAccess) : Fits.Statement (.hostMemoryAccess acc) := fun _ => ⟨Nat.one_pos, fun h => absurd rfl h⟩
theorem Fits.portRetrain (port : Nat) : Fits.Statement (.portRetrain port) := fun _ => ⟨Nat.one_pos, fun h => absurd rfl h⟩
theorem Fits.expertRoutingTableWrite (die : Nat) (w : ExpertWrite) : Fits.Statement (.expertRoutingTableWrite die w) := fun _ => ⟨Nat.one_pos, fun h => absurd rfl h⟩

end Sys2Proof.Laws
end

