-- ==== Sys2Proof/Laws/State.lean ====
section
/-! SUPPORT. What each named update of the state, of a group and of a context leaves unchanged, one lemma a field and
one an accessor: a proof about an instruction unfolds no record update. -/

namespace Sys2Proof.Machine

/-! ## State.modGrp -/

@[simp] theorem State.modGrp_agenda (s : State) (g : SlotRef) (f : Group → Group) : (s.modGrp g f).agenda = s.agenda := rfl
@[simp] theorem State.modGrp_cur (s : State) (g : SlotRef) (f : Group → Group) : (s.modGrp g f).cur = s.cur := rfl
@[simp] theorem State.modGrp_cursor (s : State) (g : SlotRef) (f : Group → Group) : (s.modGrp g f).cursor = s.cursor := rfl
@[simp] theorem State.modGrp_tick (s : State) (g : SlotRef) (f : Group → Group) : (s.modGrp g f).tick = s.tick := rfl
@[simp] theorem State.modGrp_serial (s : State) (g : SlotRef) (f : Group → Group) : (s.modGrp g f).serial = s.serial := rfl
@[simp] theorem State.modGrp_free (s : State) (g : SlotRef) (f : Group → Group) : (s.modGrp g f).free = s.free := rfl
@[simp] theorem State.modGrp_mem (s : State) (g : SlotRef) (f : Group → Group) : (s.modGrp g f).mem = s.mem := rfl
@[simp] theorem State.modGrp_zeroLines (s : State) (g : SlotRef) (f : Group → Group) : (s.modGrp g f).zeroLines = s.zeroLines := rfl
@[simp] theorem State.modGrp_hist (s : State) (g : SlotRef) (f : Group → Group) : (s.modGrp g f).hist = s.hist := rfl
@[simp] theorem State.modGrp_writes (s : State) (g : SlotRef) (f : Group → Group) : (s.modGrp g f).writes = s.writes := rfl
@[simp] theorem State.modGrp_teams (s : State) (g : SlotRef) (f : Group → Group) : (s.modGrp g f).teams = s.teams := rfl
@[simp] theorem State.modGrp_tasks (s : State) (g : SlotRef) (f : Group → Group) : (s.modGrp g f).tasks = s.tasks := rfl
@[simp] theorem State.modGrp_cores (s : State) (g : SlotRef) (f : Group → Group) : (s.modGrp g f).cores = s.cores := rfl
@[simp] theorem State.modGrp_dies (s : State) (g : SlotRef) (f : Group → Group) : (s.modGrp g f).dies = s.dies := rfl
@[simp] theorem State.modGrp_taskQueues (s : State) (g : SlotRef) (f : Group → Group) : (s.modGrp g f).taskQueues = s.taskQueues := rfl
@[simp] theorem State.modGrp_atomicLines (s : State) (g : SlotRef) (f : Group → Group) : (s.modGrp g f).atomicLines = s.atomicLines := rfl
@[simp] theorem State.modGrp_mordant (s : State) (g : SlotRef) (f : Group → Group) : (s.modGrp g f).mordant = s.mordant := rfl
@[simp] theorem State.modGrp_steals (s : State) (g : SlotRef) (f : Group → Group) : (s.modGrp g f).steals = s.steals := rfl
@[simp] theorem State.modGrp_channels (s : State) (g : SlotRef) (f : Group → Group) : (s.modGrp g f).channels = s.channels := rfl
@[simp] theorem State.modGrp_io (s : State) (g : SlotRef) (f : Group → Group) : (s.modGrp g f).io = s.io := rfl
@[simp] theorem State.modGrp_umberNext (s : State) (g : SlotRef) (f : Group → Group) : (s.modGrp g f).umberNext = s.umberNext := rfl
@[simp] theorem State.modGrp_team (s : State) (g : SlotRef) (f : Group → Group) (j : Nat) : (s.modGrp g f).team j = s.team j := rfl
@[simp] theorem State.modGrp_task (s : State) (g : SlotRef) (f : Group → Group) (j : Nat) : (s.modGrp g f).task j = s.task j := rfl
@[simp] theorem State.modGrp_core (s : State) (g : SlotRef) (f : Group → Group) (e : CoreRef) : (s.modGrp g f).core e = s.core e := rfl
@[simp] theorem State.modGrp_die (s : State) (g : SlotRef) (f : Group → Group) (j : Nat) : (s.modGrp g f).die j = s.die j := rfl
@[simp] theorem State.modGrp_queue (s : State) (g : SlotRef) (f : Group → Group) (j : Nat) : (s.modGrp g f).queue j = s.queue j := rfl
@[simp] theorem State.modGrp_byte (s : State) (g : SlotRef) (f : Group → Group) (p : Nat) : (s.modGrp g f).byte p = s.byte p := rfl

/-! ## State.modMe -/

@[simp] theorem State.modMe_agenda (s : State) (f : Group → Group) : (s.modMe f).agenda = s.agenda := rfl
@[simp] theorem State.modMe_cur (s : State) (f : Group → Group) : (s.modMe f).cur = s.cur := rfl
@[simp] theorem State.modMe_cursor (s : State) (f : Group → Group) : (s.modMe f).cursor = s.cursor := rfl
@[simp] theorem State.modMe_tick (s : State) (f : Group → Group) : (s.modMe f).tick = s.tick := rfl
@[simp] theorem State.modMe_serial (s : State) (f : Group → Group) : (s.modMe f).serial = s.serial := rfl
@[simp] theorem State.modMe_free (s : State) (f : Group → Group) : (s.modMe f).free = s.free := rfl
@[simp] theorem State.modMe_mem (s : State) (f : Group → Group) : (s.modMe f).mem = s.mem := rfl
@[simp] theorem State.modMe_zeroLines (s : State) (f : Group → Group) : (s.modMe f).zeroLines = s.zeroLines := rfl
@[simp] theorem State.modMe_hist (s : State) (f : Group → Group) : (s.modMe f).hist = s.hist := rfl
@[simp] theorem State.modMe_writes (s : State) (f : Group → Group) : (s.modMe f).writes = s.writes := rfl
@[simp] theorem State.modMe_teams (s : State) (f : Group → Group) : (s.modMe f).teams = s.teams := rfl
@[simp] theorem State.modMe_tasks (s : State) (f : Group → Group) : (s.modMe f).tasks = s.tasks := rfl
@[simp] theorem State.modMe_cores (s : State) (f : Group → Group) : (s.modMe f).cores = s.cores := rfl
@[simp] theorem State.modMe_dies (s : State) (f : Group → Group) : (s.modMe f).dies = s.dies := rfl
@[simp] theorem State.modMe_taskQueues (s : State) (f : Group → Group) : (s.modMe f).taskQueues = s.taskQueues := rfl
@[simp] theorem State.modMe_atomicLines (s : State) (f : Group → Group) : (s.modMe f).atomicLines = s.atomicLines := rfl
@[simp] theorem State.modMe_mordant (s : State) (f : Group → Group) : (s.modMe f).mordant = s.mordant := rfl
@[simp] theorem State.modMe_steals (s : State) (f : Group → Group) : (s.modMe f).steals = s.steals := rfl
@[simp] theorem State.modMe_channels (s : State) (f : Group → Group) : (s.modMe f).channels = s.channels := rfl
@[simp] theorem State.modMe_io (s : State) (f : Group → Group) : (s.modMe f).io = s.io := rfl
@[simp] theorem State.modMe_umberNext (s : State) (f : Group → Group) : (s.modMe f).umberNext = s.umberNext := rfl
@[simp] theorem State.modMe_team (s : State) (f : Group → Group) (j : Nat) : (s.modMe f).team j = s.team j := rfl
@[simp] theorem State.modMe_task (s : State) (f : Group → Group) (j : Nat) : (s.modMe f).task j = s.task j := rfl
@[simp] theorem State.modMe_core (s : State) (f : Group → Group) (e : CoreRef) : (s.modMe f).core e = s.core e := rfl
@[simp] theorem State.modMe_die (s : State) (f : Group → Group) (j : Nat) : (s.modMe f).die j = s.die j := rfl
@[simp] theorem State.modMe_queue (s : State) (f : Group → Group) (j : Nat) : (s.modMe f).queue j = s.queue j := rfl
@[simp] theorem State.modMe_byte (s : State) (f : Group → Group) (p : Nat) : (s.modMe f).byte p = s.byte p := rfl

/-! ## State.modCtx -/

@[simp] theorem State.modCtx_agenda (s : State) (f : Context → Context) : (s.modCtx f).agenda = s.agenda := rfl
@[simp] theorem State.modCtx_cur (s : State) (f : Context → Context) : (s.modCtx f).cur = s.cur := rfl
@[simp] theorem State.modCtx_cursor (s : State) (f : Context → Context) : (s.modCtx f).cursor = s.cursor := rfl
@[simp] theorem State.modCtx_tick (s : State) (f : Context → Context) : (s.modCtx f).tick = s.tick := rfl
@[simp] theorem State.modCtx_serial (s : State) (f : Context → Context) : (s.modCtx f).serial = s.serial := rfl
@[simp] theorem State.modCtx_free (s : State) (f : Context → Context) : (s.modCtx f).free = s.free := rfl
@[simp] theorem State.modCtx_mem (s : State) (f : Context → Context) : (s.modCtx f).mem = s.mem := rfl
@[simp] theorem State.modCtx_zeroLines (s : State) (f : Context → Context) : (s.modCtx f).zeroLines = s.zeroLines := rfl
@[simp] theorem State.modCtx_hist (s : State) (f : Context → Context) : (s.modCtx f).hist = s.hist := rfl
@[simp] theorem State.modCtx_writes (s : State) (f : Context → Context) : (s.modCtx f).writes = s.writes := rfl
@[simp] theorem State.modCtx_teams (s : State) (f : Context → Context) : (s.modCtx f).teams = s.teams := rfl
@[simp] theorem State.modCtx_tasks (s : State) (f : Context → Context) : (s.modCtx f).tasks = s.tasks := rfl
@[simp] theorem State.modCtx_cores (s : State) (f : Context → Context) : (s.modCtx f).cores = s.cores := rfl
@[simp] theorem State.modCtx_dies (s : State) (f : Context → Context) : (s.modCtx f).dies = s.dies := rfl
@[simp] theorem State.modCtx_taskQueues (s : State) (f : Context → Context) : (s.modCtx f).taskQueues = s.taskQueues := rfl
@[simp] theorem State.modCtx_atomicLines (s : State) (f : Context → Context) : (s.modCtx f).atomicLines = s.atomicLines := rfl
@[simp] theorem State.modCtx_mordant (s : State) (f : Context → Context) : (s.modCtx f).mordant = s.mordant := rfl
@[simp] theorem State.modCtx_steals (s : State) (f : Context → Context) : (s.modCtx f).steals = s.steals := rfl
@[simp] theorem State.modCtx_channels (s : State) (f : Context → Context) : (s.modCtx f).channels = s.channels := rfl
@[simp] theorem State.modCtx_io (s : State) (f : Context → Context) : (s.modCtx f).io = s.io := rfl
@[simp] theorem State.modCtx_umberNext (s : State) (f : Context → Context) : (s.modCtx f).umberNext = s.umberNext := rfl
@[simp] theorem State.modCtx_team (s : State) (f : Context → Context) (j : Nat) : (s.modCtx f).team j = s.team j := rfl
@[simp] theorem State.modCtx_task (s : State) (f : Context → Context) (j : Nat) : (s.modCtx f).task j = s.task j := rfl
@[simp] theorem State.modCtx_core (s : State) (f : Context → Context) (e : CoreRef) : (s.modCtx f).core e = s.core e := rfl
@[simp] theorem State.modCtx_die (s : State) (f : Context → Context) (j : Nat) : (s.modCtx f).die j = s.die j := rfl
@[simp] theorem State.modCtx_queue (s : State) (f : Context → Context) (j : Nat) : (s.modCtx f).queue j = s.queue j := rfl
@[simp] theorem State.modCtx_byte (s : State) (f : Context → Context) (p : Nat) : (s.modCtx f).byte p = s.byte p := rfl

/-! ## State.modCtxAt -/

@[simp] theorem State.modCtxAt_agenda (s : State) (c : CtxId) (f : Context → Context) : (s.modCtxAt c f).agenda = s.agenda := rfl
@[simp] theorem State.modCtxAt_cur (s : State) (c : CtxId) (f : Context → Context) : (s.modCtxAt c f).cur = s.cur := rfl
@[simp] theorem State.modCtxAt_cursor (s : State) (c : CtxId) (f : Context → Context) : (s.modCtxAt c f).cursor = s.cursor := rfl
@[simp] theorem State.modCtxAt_tick (s : State) (c : CtxId) (f : Context → Context) : (s.modCtxAt c f).tick = s.tick := rfl
@[simp] theorem State.modCtxAt_serial (s : State) (c : CtxId) (f : Context → Context) : (s.modCtxAt c f).serial = s.serial := rfl
@[simp] theorem State.modCtxAt_free (s : State) (c : CtxId) (f : Context → Context) : (s.modCtxAt c f).free = s.free := rfl
@[simp] theorem State.modCtxAt_mem (s : State) (c : CtxId) (f : Context → Context) : (s.modCtxAt c f).mem = s.mem := rfl
@[simp] theorem State.modCtxAt_zeroLines (s : State) (c : CtxId) (f : Context → Context) : (s.modCtxAt c f).zeroLines = s.zeroLines := rfl
@[simp] theorem State.modCtxAt_hist (s : State) (c : CtxId) (f : Context → Context) : (s.modCtxAt c f).hist = s.hist := rfl
@[simp] theorem State.modCtxAt_writes (s : State) (c : CtxId) (f : Context → Context) : (s.modCtxAt c f).writes = s.writes := rfl
@[simp] theorem State.modCtxAt_teams (s : State) (c : CtxId) (f : Context → Context) : (s.modCtxAt c f).teams = s.teams := rfl
@[simp] theorem State.modCtxAt_tasks (s : State) (c : CtxId) (f : Context → Context) : (s.modCtxAt c f).tasks = s.tasks := rfl
@[simp] theorem State.modCtxAt_cores (s : State) (c : CtxId) (f : Context → Context) : (s.modCtxAt c f).cores = s.cores := rfl
@[simp] theorem State.modCtxAt_dies (s : State) (c : CtxId) (f : Context → Context) : (s.modCtxAt c f).dies = s.dies := rfl
@[simp] theorem State.modCtxAt_taskQueues (s : State) (c : CtxId) (f : Context → Context) : (s.modCtxAt c f).taskQueues = s.taskQueues := rfl
@[simp] theorem State.modCtxAt_atomicLines (s : State) (c : CtxId) (f : Context → Context) : (s.modCtxAt c f).atomicLines = s.atomicLines := rfl
@[simp] theorem State.modCtxAt_mordant (s : State) (c : CtxId) (f : Context → Context) : (s.modCtxAt c f).mordant = s.mordant := rfl
@[simp] theorem State.modCtxAt_steals (s : State) (c : CtxId) (f : Context → Context) : (s.modCtxAt c f).steals = s.steals := rfl
@[simp] theorem State.modCtxAt_channels (s : State) (c : CtxId) (f : Context → Context) : (s.modCtxAt c f).channels = s.channels := rfl
@[simp] theorem State.modCtxAt_io (s : State) (c : CtxId) (f : Context → Context) : (s.modCtxAt c f).io = s.io := rfl
@[simp] theorem State.modCtxAt_umberNext (s : State) (c : CtxId) (f : Context → Context) : (s.modCtxAt c f).umberNext = s.umberNext := rfl
@[simp] theorem State.modCtxAt_team (s : State) (c : CtxId) (f : Context → Context) (j : Nat) : (s.modCtxAt c f).team j = s.team j := rfl
@[simp] theorem State.modCtxAt_task (s : State) (c : CtxId) (f : Context → Context) (j : Nat) : (s.modCtxAt c f).task j = s.task j := rfl
@[simp] theorem State.modCtxAt_core (s : State) (c : CtxId) (f : Context → Context) (e : CoreRef) : (s.modCtxAt c f).core e = s.core e := rfl
@[simp] theorem State.modCtxAt_die (s : State) (c : CtxId) (f : Context → Context) (j : Nat) : (s.modCtxAt c f).die j = s.die j := rfl
@[simp] theorem State.modCtxAt_queue (s : State) (c : CtxId) (f : Context → Context) (j : Nat) : (s.modCtxAt c f).queue j = s.queue j := rfl
@[simp] theorem State.modCtxAt_byte (s : State) (c : CtxId) (f : Context → Context) (p : Nat) : (s.modCtxAt c f).byte p = s.byte p := rfl

/-! ## State.setS -/

@[simp] theorem State.setS_agenda (s : State) (r : Nat) (v : DWord) : (s.setS r v).agenda = s.agenda := rfl
@[simp] theorem State.setS_cur (s : State) (r : Nat) (v : DWord) : (s.setS r v).cur = s.cur := rfl
@[simp] theorem State.setS_cursor (s : State) (r : Nat) (v : DWord) : (s.setS r v).cursor = s.cursor := rfl
@[simp] theorem State.setS_tick (s : State) (r : Nat) (v : DWord) : (s.setS r v).tick = s.tick := rfl
@[simp] theorem State.setS_serial (s : State) (r : Nat) (v : DWord) : (s.setS r v).serial = s.serial := rfl
@[simp] theorem State.setS_free (s : State) (r : Nat) (v : DWord) : (s.setS r v).free = s.free := rfl
@[simp] theorem State.setS_mem (s : State) (r : Nat) (v : DWord) : (s.setS r v).mem = s.mem := rfl
@[simp] theorem State.setS_zeroLines (s : State) (r : Nat) (v : DWord) : (s.setS r v).zeroLines = s.zeroLines := rfl
@[simp] theorem State.setS_hist (s : State) (r : Nat) (v : DWord) : (s.setS r v).hist = s.hist := rfl
@[simp] theorem State.setS_writes (s : State) (r : Nat) (v : DWord) : (s.setS r v).writes = s.writes := rfl
@[simp] theorem State.setS_teams (s : State) (r : Nat) (v : DWord) : (s.setS r v).teams = s.teams := rfl
@[simp] theorem State.setS_tasks (s : State) (r : Nat) (v : DWord) : (s.setS r v).tasks = s.tasks := rfl
@[simp] theorem State.setS_cores (s : State) (r : Nat) (v : DWord) : (s.setS r v).cores = s.cores := rfl
@[simp] theorem State.setS_dies (s : State) (r : Nat) (v : DWord) : (s.setS r v).dies = s.dies := rfl
@[simp] theorem State.setS_taskQueues (s : State) (r : Nat) (v : DWord) : (s.setS r v).taskQueues = s.taskQueues := rfl
@[simp] theorem State.setS_atomicLines (s : State) (r : Nat) (v : DWord) : (s.setS r v).atomicLines = s.atomicLines := rfl
@[simp] theorem State.setS_mordant (s : State) (r : Nat) (v : DWord) : (s.setS r v).mordant = s.mordant := rfl
@[simp] theorem State.setS_steals (s : State) (r : Nat) (v : DWord) : (s.setS r v).steals = s.steals := rfl
@[simp] theorem State.setS_channels (s : State) (r : Nat) (v : DWord) : (s.setS r v).channels = s.channels := rfl
@[simp] theorem State.setS_io (s : State) (r : Nat) (v : DWord) : (s.setS r v).io = s.io := rfl
@[simp] theorem State.setS_umberNext (s : State) (r : Nat) (v : DWord) : (s.setS r v).umberNext = s.umberNext := rfl
@[simp] theorem State.setS_team (s : State) (r : Nat) (v : DWord) (j : Nat) : (s.setS r v).team j = s.team j := rfl
@[simp] theorem State.setS_task (s : State) (r : Nat) (v : DWord) (j : Nat) : (s.setS r v).task j = s.task j := rfl
@[simp] theorem State.setS_core (s : State) (r : Nat) (v : DWord) (e : CoreRef) : (s.setS r v).core e = s.core e := rfl
@[simp] theorem State.setS_die (s : State) (r : Nat) (v : DWord) (j : Nat) : (s.setS r v).die j = s.die j := rfl
@[simp] theorem State.setS_queue (s : State) (r : Nat) (v : DWord) (j : Nat) : (s.setS r v).queue j = s.queue j := rfl
@[simp] theorem State.setS_byte (s : State) (r : Nat) (v : DWord) (p : Nat) : (s.setS r v).byte p = s.byte p := rfl

/-! ## State.advance -/

@[simp] theorem State.advance_agenda (s : State) (n : Nat) : (s.advance n).agenda = s.agenda := rfl
@[simp] theorem State.advance_cur (s : State) (n : Nat) : (s.advance n).cur = s.cur := rfl
@[simp] theorem State.advance_cursor (s : State) (n : Nat) : (s.advance n).cursor = s.cursor := rfl
@[simp] theorem State.advance_tick (s : State) (n : Nat) : (s.advance n).tick = s.tick := rfl
@[simp] theorem State.advance_serial (s : State) (n : Nat) : (s.advance n).serial = s.serial := rfl
@[simp] theorem State.advance_free (s : State) (n : Nat) : (s.advance n).free = s.free := rfl
@[simp] theorem State.advance_mem (s : State) (n : Nat) : (s.advance n).mem = s.mem := rfl
@[simp] theorem State.advance_zeroLines (s : State) (n : Nat) : (s.advance n).zeroLines = s.zeroLines := rfl
@[simp] theorem State.advance_hist (s : State) (n : Nat) : (s.advance n).hist = s.hist := rfl
@[simp] theorem State.advance_writes (s : State) (n : Nat) : (s.advance n).writes = s.writes := rfl
@[simp] theorem State.advance_teams (s : State) (n : Nat) : (s.advance n).teams = s.teams := rfl
@[simp] theorem State.advance_tasks (s : State) (n : Nat) : (s.advance n).tasks = s.tasks := rfl
@[simp] theorem State.advance_cores (s : State) (n : Nat) : (s.advance n).cores = s.cores := rfl
@[simp] theorem State.advance_dies (s : State) (n : Nat) : (s.advance n).dies = s.dies := rfl
@[simp] theorem State.advance_taskQueues (s : State) (n : Nat) : (s.advance n).taskQueues = s.taskQueues := rfl
@[simp] theorem State.advance_atomicLines (s : State) (n : Nat) : (s.advance n).atomicLines = s.atomicLines := rfl
@[simp] theorem State.advance_mordant (s : State) (n : Nat) : (s.advance n).mordant = s.mordant := rfl
@[simp] theorem State.advance_steals (s : State) (n : Nat) : (s.advance n).steals = s.steals := rfl
@[simp] theorem State.advance_channels (s : State) (n : Nat) : (s.advance n).channels = s.channels := rfl
@[simp] theorem State.advance_io (s : State) (n : Nat) : (s.advance n).io = s.io := rfl
@[simp] theorem State.advance_umberNext (s : State) (n : Nat) : (s.advance n).umberNext = s.umberNext := rfl
@[simp] theorem State.advance_team (s : State) (n : Nat) (j : Nat) : (s.advance n).team j = s.team j := rfl
@[simp] theorem State.advance_task (s : State) (n : Nat) (j : Nat) : (s.advance n).task j = s.task j := rfl
@[simp] theorem State.advance_core (s : State) (n : Nat) (e : CoreRef) : (s.advance n).core e = s.core e := rfl
@[simp] theorem State.advance_die (s : State) (n : Nat) (j : Nat) : (s.advance n).die j = s.die j := rfl
@[simp] theorem State.advance_queue (s : State) (n : Nat) (j : Nat) : (s.advance n).queue j = s.queue j := rfl
@[simp] theorem State.advance_byte (s : State) (n : Nat) (p : Nat) : (s.advance n).byte p = s.byte p := rfl

/-! ## State.advanceB -/

@[simp] theorem State.advanceB_agenda (s : State) : (s.advanceB).agenda = s.agenda := rfl
@[simp] theorem State.advanceB_cur (s : State) : (s.advanceB).cur = s.cur := rfl
@[simp] theorem State.advanceB_cursor (s : State) : (s.advanceB).cursor = s.cursor := rfl
@[simp] theorem State.advanceB_tick (s : State) : (s.advanceB).tick = s.tick := rfl
@[simp] theorem State.advanceB_serial (s : State) : (s.advanceB).serial = s.serial := rfl
@[simp] theorem State.advanceB_free (s : State) : (s.advanceB).free = s.free := rfl
@[simp] theorem State.advanceB_mem (s : State) : (s.advanceB).mem = s.mem := rfl
@[simp] theorem State.advanceB_zeroLines (s : State) : (s.advanceB).zeroLines = s.zeroLines := rfl
@[simp] theorem State.advanceB_hist (s : State) : (s.advanceB).hist = s.hist := rfl
@[simp] theorem State.advanceB_writes (s : State) : (s.advanceB).writes = s.writes := rfl
@[simp] theorem State.advanceB_teams (s : State) : (s.advanceB).teams = s.teams := rfl
@[simp] theorem State.advanceB_tasks (s : State) : (s.advanceB).tasks = s.tasks := rfl
@[simp] theorem State.advanceB_cores (s : State) : (s.advanceB).cores = s.cores := rfl
@[simp] theorem State.advanceB_dies (s : State) : (s.advanceB).dies = s.dies := rfl
@[simp] theorem State.advanceB_taskQueues (s : State) : (s.advanceB).taskQueues = s.taskQueues := rfl
@[simp] theorem State.advanceB_atomicLines (s : State) : (s.advanceB).atomicLines = s.atomicLines := rfl
@[simp] theorem State.advanceB_mordant (s : State) : (s.advanceB).mordant = s.mordant := rfl
@[simp] theorem State.advanceB_steals (s : State) : (s.advanceB).steals = s.steals := rfl
@[simp] theorem State.advanceB_channels (s : State) : (s.advanceB).channels = s.channels := rfl
@[simp] theorem State.advanceB_io (s : State) : (s.advanceB).io = s.io := rfl
@[simp] theorem State.advanceB_umberNext (s : State) : (s.advanceB).umberNext = s.umberNext := rfl
@[simp] theorem State.advanceB_team (s : State) (j : Nat) : (s.advanceB).team j = s.team j := rfl
@[simp] theorem State.advanceB_task (s : State) (j : Nat) : (s.advanceB).task j = s.task j := rfl
@[simp] theorem State.advanceB_core (s : State) (e : CoreRef) : (s.advanceB).core e = s.core e := rfl
@[simp] theorem State.advanceB_die (s : State) (j : Nat) : (s.advanceB).die j = s.die j := rfl
@[simp] theorem State.advanceB_queue (s : State) (j : Nat) : (s.advanceB).queue j = s.queue j := rfl
@[simp] theorem State.advanceB_byte (s : State) (p : Nat) : (s.advanceB).byte p = s.byte p := rfl

/-! ## State.modTeam -/

@[simp] theorem State.modTeam_agenda (s : State) (t : Nat) (f : Team → Team) : (s.modTeam t f).agenda = s.agenda := rfl
@[simp] theorem State.modTeam_cur (s : State) (t : Nat) (f : Team → Team) : (s.modTeam t f).cur = s.cur := rfl
@[simp] theorem State.modTeam_cursor (s : State) (t : Nat) (f : Team → Team) : (s.modTeam t f).cursor = s.cursor := rfl
@[simp] theorem State.modTeam_tick (s : State) (t : Nat) (f : Team → Team) : (s.modTeam t f).tick = s.tick := rfl
@[simp] theorem State.modTeam_serial (s : State) (t : Nat) (f : Team → Team) : (s.modTeam t f).serial = s.serial := rfl
@[simp] theorem State.modTeam_free (s : State) (t : Nat) (f : Team → Team) : (s.modTeam t f).free = s.free := rfl
@[simp] theorem State.modTeam_mem (s : State) (t : Nat) (f : Team → Team) : (s.modTeam t f).mem = s.mem := rfl
@[simp] theorem State.modTeam_zeroLines (s : State) (t : Nat) (f : Team → Team) : (s.modTeam t f).zeroLines = s.zeroLines := rfl
@[simp] theorem State.modTeam_hist (s : State) (t : Nat) (f : Team → Team) : (s.modTeam t f).hist = s.hist := rfl
@[simp] theorem State.modTeam_writes (s : State) (t : Nat) (f : Team → Team) : (s.modTeam t f).writes = s.writes := rfl
@[simp] theorem State.modTeam_groups (s : State) (t : Nat) (f : Team → Team) : (s.modTeam t f).groups = s.groups := rfl
@[simp] theorem State.modTeam_tasks (s : State) (t : Nat) (f : Team → Team) : (s.modTeam t f).tasks = s.tasks := rfl
@[simp] theorem State.modTeam_cores (s : State) (t : Nat) (f : Team → Team) : (s.modTeam t f).cores = s.cores := rfl
@[simp] theorem State.modTeam_dies (s : State) (t : Nat) (f : Team → Team) : (s.modTeam t f).dies = s.dies := rfl
@[simp] theorem State.modTeam_taskQueues (s : State) (t : Nat) (f : Team → Team) : (s.modTeam t f).taskQueues = s.taskQueues := rfl
@[simp] theorem State.modTeam_atomicLines (s : State) (t : Nat) (f : Team → Team) : (s.modTeam t f).atomicLines = s.atomicLines := rfl
@[simp] theorem State.modTeam_mordant (s : State) (t : Nat) (f : Team → Team) : (s.modTeam t f).mordant = s.mordant := rfl
@[simp] theorem State.modTeam_steals (s : State) (t : Nat) (f : Team → Team) : (s.modTeam t f).steals = s.steals := rfl
@[simp] theorem State.modTeam_channels (s : State) (t : Nat) (f : Team → Team) : (s.modTeam t f).channels = s.channels := rfl
@[simp] theorem State.modTeam_io (s : State) (t : Nat) (f : Team → Team) : (s.modTeam t f).io = s.io := rfl
@[simp] theorem State.modTeam_umberNext (s : State) (t : Nat) (f : Team → Team) : (s.modTeam t f).umberNext = s.umberNext := rfl
@[simp] theorem State.modTeam_grp (s : State) (t : Nat) (f : Team → Team) (h : SlotRef) : (s.modTeam t f).grp h = s.grp h := rfl
@[simp] theorem State.modTeam_hasGrp (s : State) (t : Nat) (f : Team → Team) (h : SlotRef) : (s.modTeam t f).hasGrp h = s.hasGrp h := rfl
@[simp] theorem State.modTeam_task (s : State) (t : Nat) (f : Team → Team) (j : Nat) : (s.modTeam t f).task j = s.task j := rfl
@[simp] theorem State.modTeam_core (s : State) (t : Nat) (f : Team → Team) (e : CoreRef) : (s.modTeam t f).core e = s.core e := rfl
@[simp] theorem State.modTeam_die (s : State) (t : Nat) (f : Team → Team) (j : Nat) : (s.modTeam t f).die j = s.die j := rfl
@[simp] theorem State.modTeam_queue (s : State) (t : Nat) (f : Team → Team) (j : Nat) : (s.modTeam t f).queue j = s.queue j := rfl
@[simp] theorem State.modTeam_byte (s : State) (t : Nat) (f : Team → Team) (p : Nat) : (s.modTeam t f).byte p = s.byte p := rfl
@[simp] theorem State.modTeam_hasCtx (s : State) (t : Nat) (f : Team → Team) (e : CtxId) : (s.modTeam t f).hasCtx e = s.hasCtx e := rfl

/-! ## State.modTask -/

@[simp] theorem State.modTask_agenda (s : State) (k : Nat) (f : Task → Task) : (s.modTask k f).agenda = s.agenda := rfl
@[simp] theorem State.modTask_cur (s : State) (k : Nat) (f : Task → Task) : (s.modTask k f).cur = s.cur := rfl
@[simp] theorem State.modTask_cursor (s : State) (k : Nat) (f : Task → Task) : (s.modTask k f).cursor = s.cursor := rfl
@[simp] theorem State.modTask_tick (s : State) (k : Nat) (f : Task → Task) : (s.modTask k f).tick = s.tick := rfl
@[simp] theorem State.modTask_serial (s : State) (k : Nat) (f : Task → Task) : (s.modTask k f).serial = s.serial := rfl
@[simp] theorem State.modTask_free (s : State) (k : Nat) (f : Task → Task) : (s.modTask k f).free = s.free := rfl
@[simp] theorem State.modTask_mem (s : State) (k : Nat) (f : Task → Task) : (s.modTask k f).mem = s.mem := rfl
@[simp] theorem State.modTask_zeroLines (s : State) (k : Nat) (f : Task → Task) : (s.modTask k f).zeroLines = s.zeroLines := rfl
@[simp] theorem State.modTask_hist (s : State) (k : Nat) (f : Task → Task) : (s.modTask k f).hist = s.hist := rfl
@[simp] theorem State.modTask_writes (s : State) (k : Nat) (f : Task → Task) : (s.modTask k f).writes = s.writes := rfl
@[simp] theorem State.modTask_groups (s : State) (k : Nat) (f : Task → Task) : (s.modTask k f).groups = s.groups := rfl
@[simp] theorem State.modTask_teams (s : State) (k : Nat) (f : Task → Task) : (s.modTask k f).teams = s.teams := rfl
@[simp] theorem State.modTask_cores (s : State) (k : Nat) (f : Task → Task) : (s.modTask k f).cores = s.cores := rfl
@[simp] theorem State.modTask_dies (s : State) (k : Nat) (f : Task → Task) : (s.modTask k f).dies = s.dies := rfl
@[simp] theorem State.modTask_taskQueues (s : State) (k : Nat) (f : Task → Task) : (s.modTask k f).taskQueues = s.taskQueues := rfl
@[simp] theorem State.modTask_atomicLines (s : State) (k : Nat) (f : Task → Task) : (s.modTask k f).atomicLines = s.atomicLines := rfl
@[simp] theorem State.modTask_mordant (s : State) (k : Nat) (f : Task → Task) : (s.modTask k f).mordant = s.mordant := rfl
@[simp] theorem State.modTask_steals (s : State) (k : Nat) (f : Task → Task) : (s.modTask k f).steals = s.steals := rfl
@[simp] theorem State.modTask_channels (s : State) (k : Nat) (f : Task → Task) : (s.modTask k f).channels = s.channels := rfl
@[simp] theorem State.modTask_io (s : State) (k : Nat) (f : Task → Task) : (s.modTask k f).io = s.io := rfl
@[simp] theorem State.modTask_umberNext (s : State) (k : Nat) (f : Task → Task) : (s.modTask k f).umberNext = s.umberNext := rfl
@[simp] theorem State.modTask_grp (s : State) (k : Nat) (f : Task → Task) (h : SlotRef) : (s.modTask k f).grp h = s.grp h := rfl
@[simp] theorem State.modTask_hasGrp (s : State) (k : Nat) (f : Task → Task) (h : SlotRef) : (s.modTask k f).hasGrp h = s.hasGrp h := rfl
@[simp] theorem State.modTask_team (s : State) (k : Nat) (f : Task → Task) (j : Nat) : (s.modTask k f).team j = s.team j := rfl
@[simp] theorem State.modTask_core (s : State) (k : Nat) (f : Task → Task) (e : CoreRef) : (s.modTask k f).core e = s.core e := rfl
@[simp] theorem State.modTask_die (s : State) (k : Nat) (f : Task → Task) (j : Nat) : (s.modTask k f).die j = s.die j := rfl
@[simp] theorem State.modTask_queue (s : State) (k : Nat) (f : Task → Task) (j : Nat) : (s.modTask k f).queue j = s.queue j := rfl
@[simp] theorem State.modTask_byte (s : State) (k : Nat) (f : Task → Task) (p : Nat) : (s.modTask k f).byte p = s.byte p := rfl
@[simp] theorem State.modTask_hasCtx (s : State) (k : Nat) (f : Task → Task) (e : CtxId) : (s.modTask k f).hasCtx e = s.hasCtx e := rfl

/-! ## State.modCore -/

@[simp] theorem State.modCore_agenda (s : State) (c : CoreRef) (f : Core → Core) : (s.modCore c f).agenda = s.agenda := rfl
@[simp] theorem State.modCore_cur (s : State) (c : CoreRef) (f : Core → Core) : (s.modCore c f).cur = s.cur := rfl
@[simp] theorem State.modCore_cursor (s : State) (c : CoreRef) (f : Core → Core) : (s.modCore c f).cursor = s.cursor := rfl
@[simp] theorem State.modCore_tick (s : State) (c : CoreRef) (f : Core → Core) : (s.modCore c f).tick = s.tick := rfl
@[simp] theorem State.modCore_serial (s : State) (c : CoreRef) (f : Core → Core) : (s.modCore c f).serial = s.serial := rfl
@[simp] theorem State.modCore_free (s : State) (c : CoreRef) (f : Core → Core) : (s.modCore c f).free = s.free := rfl
@[simp] theorem State.modCore_mem (s : State) (c : CoreRef) (f : Core → Core) : (s.modCore c f).mem = s.mem := rfl
@[simp] theorem State.modCore_zeroLines (s : State) (c : CoreRef) (f : Core → Core) : (s.modCore c f).zeroLines = s.zeroLines := rfl
@[simp] theorem State.modCore_hist (s : State) (c : CoreRef) (f : Core → Core) : (s.modCore c f).hist = s.hist := rfl
@[simp] theorem State.modCore_writes (s : State) (c : CoreRef) (f : Core → Core) : (s.modCore c f).writes = s.writes := rfl
@[simp] theorem State.modCore_groups (s : State) (c : CoreRef) (f : Core → Core) : (s.modCore c f).groups = s.groups := rfl
@[simp] theorem State.modCore_teams (s : State) (c : CoreRef) (f : Core → Core) : (s.modCore c f).teams = s.teams := rfl
@[simp] theorem State.modCore_tasks (s : State) (c : CoreRef) (f : Core → Core) : (s.modCore c f).tasks = s.tasks := rfl
@[simp] theorem State.modCore_dies (s : State) (c : CoreRef) (f : Core → Core) : (s.modCore c f).dies = s.dies := rfl
@[simp] theorem State.modCore_taskQueues (s : State) (c : CoreRef) (f : Core → Core) : (s.modCore c f).taskQueues = s.taskQueues := rfl
@[simp] theorem State.modCore_atomicLines (s : State) (c : CoreRef) (f : Core → Core) : (s.modCore c f).atomicLines = s.atomicLines := rfl
@[simp] theorem State.modCore_mordant (s : State) (c : CoreRef) (f : Core → Core) : (s.modCore c f).mordant = s.mordant := rfl
@[simp] theorem State.modCore_steals (s : State) (c : CoreRef) (f : Core → Core) : (s.modCore c f).steals = s.steals := rfl
@[simp] theorem State.modCore_channels (s : State) (c : CoreRef) (f : Core → Core) : (s.modCore c f).channels = s.channels := rfl
@[simp] theorem State.modCore_io (s : State) (c : CoreRef) (f : Core → Core) : (s.modCore c f).io = s.io := rfl
@[simp] theorem State.modCore_umberNext (s : State) (c : CoreRef) (f : Core → Core) : (s.modCore c f).umberNext = s.umberNext := rfl
@[simp] theorem State.modCore_grp (s : State) (c : CoreRef) (f : Core → Core) (h : SlotRef) : (s.modCore c f).grp h = s.grp h := rfl
@[simp] theorem State.modCore_hasGrp (s : State) (c : CoreRef) (f : Core → Core) (h : SlotRef) : (s.modCore c f).hasGrp h = s.hasGrp h := rfl
@[simp] theorem State.modCore_team (s : State) (c : CoreRef) (f : Core → Core) (j : Nat) : (s.modCore c f).team j = s.team j := rfl
@[simp] theorem State.modCore_task (s : State) (c : CoreRef) (f : Core → Core) (j : Nat) : (s.modCore c f).task j = s.task j := rfl
@[simp] theorem State.modCore_die (s : State) (c : CoreRef) (f : Core → Core) (j : Nat) : (s.modCore c f).die j = s.die j := rfl
@[simp] theorem State.modCore_queue (s : State) (c : CoreRef) (f : Core → Core) (j : Nat) : (s.modCore c f).queue j = s.queue j := rfl
@[simp] theorem State.modCore_byte (s : State) (c : CoreRef) (f : Core → Core) (p : Nat) : (s.modCore c f).byte p = s.byte p := rfl
@[simp] theorem State.modCore_hasCtx (s : State) (c : CoreRef) (f : Core → Core) (e : CtxId) : (s.modCore c f).hasCtx e = s.hasCtx e := rfl

/-! ## State.count -/

@[simp] theorem State.count_agenda (s : State) (c : CoreRef) (src n : Nat) : (s.count c src n).agenda = s.agenda := rfl
@[simp] theorem State.count_cur (s : State) (c : CoreRef) (src n : Nat) : (s.count c src n).cur = s.cur := rfl
@[simp] theorem State.count_cursor (s : State) (c : CoreRef) (src n : Nat) : (s.count c src n).cursor = s.cursor := rfl
@[simp] theorem State.count_tick (s : State) (c : CoreRef) (src n : Nat) : (s.count c src n).tick = s.tick := rfl
@[simp] theorem State.count_serial (s : State) (c : CoreRef) (src n : Nat) : (s.count c src n).serial = s.serial := rfl
@[simp] theorem State.count_free (s : State) (c : CoreRef) (src n : Nat) : (s.count c src n).free = s.free := rfl
@[simp] theorem State.count_mem (s : State) (c : CoreRef) (src n : Nat) : (s.count c src n).mem = s.mem := rfl
@[simp] theorem State.count_zeroLines (s : State) (c : CoreRef) (src n : Nat) : (s.count c src n).zeroLines = s.zeroLines := rfl
@[simp] theorem State.count_hist (s : State) (c : CoreRef) (src n : Nat) : (s.count c src n).hist = s.hist := rfl
@[simp] theorem State.count_writes (s : State) (c : CoreRef) (src n : Nat) : (s.count c src n).writes = s.writes := rfl
@[simp] theorem State.count_groups (s : State) (c : CoreRef) (src n : Nat) : (s.count c src n).groups = s.groups := rfl
@[simp] theorem State.count_teams (s : State) (c : CoreRef) (src n : Nat) : (s.count c src n).teams = s.teams := rfl
@[simp] theorem State.count_tasks (s : State) (c : CoreRef) (src n : Nat) : (s.count c src n).tasks = s.tasks := rfl
@[simp] theorem State.count_dies (s : State) (c : CoreRef) (src n : Nat) : (s.count c src n).dies = s.dies := rfl
@[simp] theorem State.count_taskQueues (s : State) (c : CoreRef) (src n : Nat) : (s.count c src n).taskQueues = s.taskQueues := rfl
@[simp] theorem State.count_atomicLines (s : State) (c : CoreRef) (src n : Nat) : (s.count c src n).atomicLines = s.atomicLines := rfl
@[simp] theorem State.count_mordant (s : State) (c : CoreRef) (src n : Nat) : (s.count c src n).mordant = s.mordant := rfl
@[simp] theorem State.count_steals (s : State) (c : CoreRef) (src n : Nat) : (s.count c src n).steals = s.steals := rfl
@[simp] theorem State.count_channels (s : State) (c : CoreRef) (src n : Nat) : (s.count c src n).channels = s.channels := rfl
@[simp] theorem State.count_io (s : State) (c : CoreRef) (src n : Nat) : (s.count c src n).io = s.io := rfl
@[simp] theorem State.count_umberNext (s : State) (c : CoreRef) (src n : Nat) : (s.count c src n).umberNext = s.umberNext := rfl
@[simp] theorem State.count_grp (s : State) (c : CoreRef) (src n : Nat) (h : SlotRef) : (s.count c src n).grp h = s.grp h := rfl
@[simp] theorem State.count_hasGrp (s : State) (c : CoreRef) (src n : Nat) (h : SlotRef) : (s.count c src n).hasGrp h = s.hasGrp h := rfl
@[simp] theorem State.count_team (s : State) (c : CoreRef) (src n : Nat) (j : Nat) : (s.count c src n).team j = s.team j := rfl
@[simp] theorem State.count_task (s : State) (c : CoreRef) (src n : Nat) (j : Nat) : (s.count c src n).task j = s.task j := rfl
@[simp] theorem State.count_die (s : State) (c : CoreRef) (src n : Nat) (j : Nat) : (s.count c src n).die j = s.die j := rfl
@[simp] theorem State.count_queue (s : State) (c : CoreRef) (src n : Nat) (j : Nat) : (s.count c src n).queue j = s.queue j := rfl
@[simp] theorem State.count_byte (s : State) (c : CoreRef) (src n : Nat) (p : Nat) : (s.count c src n).byte p = s.byte p := rfl
@[simp] theorem State.count_hasCtx (s : State) (c : CoreRef) (src n : Nat) (e : CtxId) : (s.count c src n).hasCtx e = s.hasCtx e := rfl

/-! ## State.modDie -/

@[simp] theorem State.modDie_agenda (s : State) (d : Nat) (f : Die → Die) : (s.modDie d f).agenda = s.agenda := rfl
@[simp] theorem State.modDie_cur (s : State) (d : Nat) (f : Die → Die) : (s.modDie d f).cur = s.cur := rfl
@[simp] theorem State.modDie_cursor (s : State) (d : Nat) (f : Die → Die) : (s.modDie d f).cursor = s.cursor := rfl
@[simp] theorem State.modDie_tick (s : State) (d : Nat) (f : Die → Die) : (s.modDie d f).tick = s.tick := rfl
@[simp] theorem State.modDie_serial (s : State) (d : Nat) (f : Die → Die) : (s.modDie d f).serial = s.serial := rfl
@[simp] theorem State.modDie_free (s : State) (d : Nat) (f : Die → Die) : (s.modDie d f).free = s.free := rfl
@[simp] theorem State.modDie_mem (s : State) (d : Nat) (f : Die → Die) : (s.modDie d f).mem = s.mem := rfl
@[simp] theorem State.modDie_zeroLines (s : State) (d : Nat) (f : Die → Die) : (s.modDie d f).zeroLines = s.zeroLines := rfl
@[simp] theorem State.modDie_hist (s : State) (d : Nat) (f : Die → Die) : (s.modDie d f).hist = s.hist := rfl
@[simp] theorem State.modDie_writes (s : State) (d : Nat) (f : Die → Die) : (s.modDie d f).writes = s.writes := rfl
@[simp] theorem State.modDie_groups (s : State) (d : Nat) (f : Die → Die) : (s.modDie d f).groups = s.groups := rfl
@[simp] theorem State.modDie_teams (s : State) (d : Nat) (f : Die → Die) : (s.modDie d f).teams = s.teams := rfl
@[simp] theorem State.modDie_tasks (s : State) (d : Nat) (f : Die → Die) : (s.modDie d f).tasks = s.tasks := rfl
@[simp] theorem State.modDie_cores (s : State) (d : Nat) (f : Die → Die) : (s.modDie d f).cores = s.cores := rfl
@[simp] theorem State.modDie_taskQueues (s : State) (d : Nat) (f : Die → Die) : (s.modDie d f).taskQueues = s.taskQueues := rfl
@[simp] theorem State.modDie_atomicLines (s : State) (d : Nat) (f : Die → Die) : (s.modDie d f).atomicLines = s.atomicLines := rfl
@[simp] theorem State.modDie_mordant (s : State) (d : Nat) (f : Die → Die) : (s.modDie d f).mordant = s.mordant := rfl
@[simp] theorem State.modDie_steals (s : State) (d : Nat) (f : Die → Die) : (s.modDie d f).steals = s.steals := rfl
@[simp] theorem State.modDie_channels (s : State) (d : Nat) (f : Die → Die) : (s.modDie d f).channels = s.channels := rfl
@[simp] theorem State.modDie_io (s : State) (d : Nat) (f : Die → Die) : (s.modDie d f).io = s.io := rfl
@[simp] theorem State.modDie_umberNext (s : State) (d : Nat) (f : Die → Die) : (s.modDie d f).umberNext = s.umberNext := rfl
@[simp] theorem State.modDie_grp (s : State) (d : Nat) (f : Die → Die) (h : SlotRef) : (s.modDie d f).grp h = s.grp h := rfl
@[simp] theorem State.modDie_hasGrp (s : State) (d : Nat) (f : Die → Die) (h : SlotRef) : (s.modDie d f).hasGrp h = s.hasGrp h := rfl
@[simp] theorem State.modDie_team (s : State) (d : Nat) (f : Die → Die) (j : Nat) : (s.modDie d f).team j = s.team j := rfl
@[simp] theorem State.modDie_task (s : State) (d : Nat) (f : Die → Die) (j : Nat) : (s.modDie d f).task j = s.task j := rfl
@[simp] theorem State.modDie_core (s : State) (d : Nat) (f : Die → Die) (e : CoreRef) : (s.modDie d f).core e = s.core e := rfl
@[simp] theorem State.modDie_queue (s : State) (d : Nat) (f : Die → Die) (j : Nat) : (s.modDie d f).queue j = s.queue j := rfl
@[simp] theorem State.modDie_byte (s : State) (d : Nat) (f : Die → Die) (p : Nat) : (s.modDie d f).byte p = s.byte p := rfl
@[simp] theorem State.modDie_hasCtx (s : State) (d : Nat) (f : Die → Die) (e : CtxId) : (s.modDie d f).hasCtx e = s.hasCtx e := rfl

/-! ## State.modQueue -/

@[simp] theorem State.modQueue_agenda (s : State) (q : Nat) (f : Queue → Queue) : (s.modQueue q f).agenda = s.agenda := rfl
@[simp] theorem State.modQueue_cur (s : State) (q : Nat) (f : Queue → Queue) : (s.modQueue q f).cur = s.cur := rfl
@[simp] theorem State.modQueue_cursor (s : State) (q : Nat) (f : Queue → Queue) : (s.modQueue q f).cursor = s.cursor := rfl
@[simp] theorem State.modQueue_tick (s : State) (q : Nat) (f : Queue → Queue) : (s.modQueue q f).tick = s.tick := rfl
@[simp] theorem State.modQueue_serial (s : State) (q : Nat) (f : Queue → Queue) : (s.modQueue q f).serial = s.serial := rfl
@[simp] theorem State.modQueue_free (s : State) (q : Nat) (f : Queue → Queue) : (s.modQueue q f).free = s.free := rfl
@[simp] theorem State.modQueue_mem (s : State) (q : Nat) (f : Queue → Queue) : (s.modQueue q f).mem = s.mem := rfl
@[simp] theorem State.modQueue_zeroLines (s : State) (q : Nat) (f : Queue → Queue) : (s.modQueue q f).zeroLines = s.zeroLines := rfl
@[simp] theorem State.modQueue_hist (s : State) (q : Nat) (f : Queue → Queue) : (s.modQueue q f).hist = s.hist := rfl
@[simp] theorem State.modQueue_writes (s : State) (q : Nat) (f : Queue → Queue) : (s.modQueue q f).writes = s.writes := rfl
@[simp] theorem State.modQueue_groups (s : State) (q : Nat) (f : Queue → Queue) : (s.modQueue q f).groups = s.groups := rfl
@[simp] theorem State.modQueue_teams (s : State) (q : Nat) (f : Queue → Queue) : (s.modQueue q f).teams = s.teams := rfl
@[simp] theorem State.modQueue_tasks (s : State) (q : Nat) (f : Queue → Queue) : (s.modQueue q f).tasks = s.tasks := rfl
@[simp] theorem State.modQueue_cores (s : State) (q : Nat) (f : Queue → Queue) : (s.modQueue q f).cores = s.cores := rfl
@[simp] theorem State.modQueue_dies (s : State) (q : Nat) (f : Queue → Queue) : (s.modQueue q f).dies = s.dies := rfl
@[simp] theorem State.modQueue_taskQueues (s : State) (q : Nat) (f : Queue → Queue) : (s.modQueue q f).taskQueues = s.taskQueues := rfl
@[simp] theorem State.modQueue_atomicLines (s : State) (q : Nat) (f : Queue → Queue) : (s.modQueue q f).atomicLines = s.atomicLines := rfl
@[simp] theorem State.modQueue_mordant (s : State) (q : Nat) (f : Queue → Queue) : (s.modQueue q f).mordant = s.mordant := rfl
@[simp] theorem State.modQueue_steals (s : State) (q : Nat) (f : Queue → Queue) : (s.modQueue q f).steals = s.steals := rfl
@[simp] theorem State.modQueue_channels (s : State) (q : Nat) (f : Queue → Queue) : (s.modQueue q f).channels = s.channels := rfl
@[simp] theorem State.modQueue_umberNext (s : State) (q : Nat) (f : Queue → Queue) : (s.modQueue q f).umberNext = s.umberNext := rfl
@[simp] theorem State.modQueue_grp (s : State) (q : Nat) (f : Queue → Queue) (h : SlotRef) : (s.modQueue q f).grp h = s.grp h := rfl
@[simp] theorem State.modQueue_hasGrp (s : State) (q : Nat) (f : Queue → Queue) (h : SlotRef) : (s.modQueue q f).hasGrp h = s.hasGrp h := rfl
@[simp] theorem State.modQueue_team (s : State) (q : Nat) (f : Queue → Queue) (j : Nat) : (s.modQueue q f).team j = s.team j := rfl
@[simp] theorem State.modQueue_task (s : State) (q : Nat) (f : Queue → Queue) (j : Nat) : (s.modQueue q f).task j = s.task j := rfl
@[simp] theorem State.modQueue_core (s : State) (q : Nat) (f : Queue → Queue) (e : CoreRef) : (s.modQueue q f).core e = s.core e := rfl
@[simp] theorem State.modQueue_die (s : State) (q : Nat) (f : Queue → Queue) (j : Nat) : (s.modQueue q f).die j = s.die j := rfl
@[simp] theorem State.modQueue_byte (s : State) (q : Nat) (f : Queue → Queue) (p : Nat) : (s.modQueue q f).byte p = s.byte p := rfl
@[simp] theorem State.modQueue_hasCtx (s : State) (q : Nat) (f : Queue → Queue) (e : CtxId) : (s.modQueue q f).hasCtx e = s.hasCtx e := rfl

/-! ## State.fresh -/

@[simp] theorem State.fresh_agenda (s : State) : (s.fresh).agenda = s.agenda := rfl
@[simp] theorem State.fresh_cur (s : State) : (s.fresh).cur = s.cur := rfl
@[simp] theorem State.fresh_cursor (s : State) : (s.fresh).cursor = s.cursor := rfl
@[simp] theorem State.fresh_tick (s : State) : (s.fresh).tick = s.tick := rfl
@[simp] theorem State.fresh_free (s : State) : (s.fresh).free = s.free := rfl
@[simp] theorem State.fresh_mem (s : State) : (s.fresh).mem = s.mem := rfl
@[simp] theorem State.fresh_zeroLines (s : State) : (s.fresh).zeroLines = s.zeroLines := rfl
@[simp] theorem State.fresh_hist (s : State) : (s.fresh).hist = s.hist := rfl
@[simp] theorem State.fresh_writes (s : State) : (s.fresh).writes = s.writes := rfl
@[simp] theorem State.fresh_groups (s : State) : (s.fresh).groups = s.groups := rfl
@[simp] theorem State.fresh_teams (s : State) : (s.fresh).teams = s.teams := rfl
@[simp] theorem State.fresh_tasks (s : State) : (s.fresh).tasks = s.tasks := rfl
@[simp] theorem State.fresh_cores (s : State) : (s.fresh).cores = s.cores := rfl
@[simp] theorem State.fresh_dies (s : State) : (s.fresh).dies = s.dies := rfl
@[simp] theorem State.fresh_taskQueues (s : State) : (s.fresh).taskQueues = s.taskQueues := rfl
@[simp] theorem State.fresh_atomicLines (s : State) : (s.fresh).atomicLines = s.atomicLines := rfl
@[simp] theorem State.fresh_mordant (s : State) : (s.fresh).mordant = s.mordant := rfl
@[simp] theorem State.fresh_steals (s : State) : (s.fresh).steals = s.steals := rfl
@[simp] theorem State.fresh_channels (s : State) : (s.fresh).channels = s.channels := rfl
@[simp] theorem State.fresh_io (s : State) : (s.fresh).io = s.io := rfl
@[simp] theorem State.fresh_umberNext (s : State) : (s.fresh).umberNext = s.umberNext := rfl
@[simp] theorem State.fresh_grp (s : State) (h : SlotRef) : (s.fresh).grp h = s.grp h := rfl
@[simp] theorem State.fresh_hasGrp (s : State) (h : SlotRef) : (s.fresh).hasGrp h = s.hasGrp h := rfl
@[simp] theorem State.fresh_team (s : State) (j : Nat) : (s.fresh).team j = s.team j := rfl
@[simp] theorem State.fresh_task (s : State) (j : Nat) : (s.fresh).task j = s.task j := rfl
@[simp] theorem State.fresh_core (s : State) (e : CoreRef) : (s.fresh).core e = s.core e := rfl
@[simp] theorem State.fresh_die (s : State) (j : Nat) : (s.fresh).die j = s.die j := rfl
@[simp] theorem State.fresh_queue (s : State) (j : Nat) : (s.fresh).queue j = s.queue j := rfl
@[simp] theorem State.fresh_byte (s : State) (p : Nat) : (s.fresh).byte p = s.byte p := rfl
@[simp] theorem State.fresh_hasCtx (s : State) (e : CtxId) : (s.fresh).hasCtx e = s.hasCtx e := rfl

/-! ## State.draw -/

@[simp] theorem State.draw_agenda (s : State) : (s.draw).agenda = s.agenda := rfl
@[simp] theorem State.draw_cur (s : State) : (s.draw).cur = s.cur := rfl
@[simp] theorem State.draw_cursor (s : State) : (s.draw).cursor = s.cursor := rfl
@[simp] theorem State.draw_tick (s : State) : (s.draw).tick = s.tick := rfl
@[simp] theorem State.draw_serial (s : State) : (s.draw).serial = s.serial := rfl
@[simp] theorem State.draw_mem (s : State) : (s.draw).mem = s.mem := rfl
@[simp] theorem State.draw_zeroLines (s : State) : (s.draw).zeroLines = s.zeroLines := rfl
@[simp] theorem State.draw_hist (s : State) : (s.draw).hist = s.hist := rfl
@[simp] theorem State.draw_writes (s : State) : (s.draw).writes = s.writes := rfl
@[simp] theorem State.draw_groups (s : State) : (s.draw).groups = s.groups := rfl
@[simp] theorem State.draw_teams (s : State) : (s.draw).teams = s.teams := rfl
@[simp] theorem State.draw_tasks (s : State) : (s.draw).tasks = s.tasks := rfl
@[simp] theorem State.draw_cores (s : State) : (s.draw).cores = s.cores := rfl
@[simp] theorem State.draw_dies (s : State) : (s.draw).dies = s.dies := rfl
@[simp] theorem State.draw_taskQueues (s : State) : (s.draw).taskQueues = s.taskQueues := rfl
@[simp] theorem State.draw_atomicLines (s : State) : (s.draw).atomicLines = s.atomicLines := rfl
@[simp] theorem State.draw_mordant (s : State) : (s.draw).mordant = s.mordant := rfl
@[simp] theorem State.draw_steals (s : State) : (s.draw).steals = s.steals := rfl
@[simp] theorem State.draw_channels (s : State) : (s.draw).channels = s.channels := rfl
@[simp] theorem State.draw_io (s : State) : (s.draw).io = s.io := rfl
@[simp] theorem State.draw_umberNext (s : State) : (s.draw).umberNext = s.umberNext := rfl
@[simp] theorem State.draw_grp (s : State) (h : SlotRef) : (s.draw).grp h = s.grp h := rfl
@[simp] theorem State.draw_hasGrp (s : State) (h : SlotRef) : (s.draw).hasGrp h = s.hasGrp h := rfl
@[simp] theorem State.draw_team (s : State) (j : Nat) : (s.draw).team j = s.team j := rfl
@[simp] theorem State.draw_task (s : State) (j : Nat) : (s.draw).task j = s.task j := rfl
@[simp] theorem State.draw_core (s : State) (e : CoreRef) : (s.draw).core e = s.core e := rfl
@[simp] theorem State.draw_die (s : State) (j : Nat) : (s.draw).die j = s.die j := rfl
@[simp] theorem State.draw_queue (s : State) (j : Nat) : (s.draw).queue j = s.queue j := rfl
@[simp] theorem State.draw_byte (s : State) (p : Nat) : (s.draw).byte p = s.byte p := rfl
@[simp] theorem State.draw_hasCtx (s : State) (e : CtxId) : (s.draw).hasCtx e = s.hasCtx e := rfl

/-! ## State.setByte -/

@[simp] theorem State.setByte_agenda (s : State) (a : Nat) (b : Byte) : (s.setByte a b).agenda = s.agenda := rfl
@[simp] theorem State.setByte_cur (s : State) (a : Nat) (b : Byte) : (s.setByte a b).cur = s.cur := rfl
@[simp] theorem State.setByte_cursor (s : State) (a : Nat) (b : Byte) : (s.setByte a b).cursor = s.cursor := rfl
@[simp] theorem State.setByte_tick (s : State) (a : Nat) (b : Byte) : (s.setByte a b).tick = s.tick := rfl
@[simp] theorem State.setByte_serial (s : State) (a : Nat) (b : Byte) : (s.setByte a b).serial = s.serial := rfl
@[simp] theorem State.setByte_free (s : State) (a : Nat) (b : Byte) : (s.setByte a b).free = s.free := rfl
@[simp] theorem State.setByte_zeroLines (s : State) (a : Nat) (b : Byte) : (s.setByte a b).zeroLines = s.zeroLines := rfl
@[simp] theorem State.setByte_hist (s : State) (a : Nat) (b : Byte) : (s.setByte a b).hist = s.hist := rfl
@[simp] theorem State.setByte_writes (s : State) (a : Nat) (b : Byte) : (s.setByte a b).writes = s.writes := rfl
@[simp] theorem State.setByte_groups (s : State) (a : Nat) (b : Byte) : (s.setByte a b).groups = s.groups := rfl
@[simp] theorem State.setByte_teams (s : State) (a : Nat) (b : Byte) : (s.setByte a b).teams = s.teams := rfl
@[simp] theorem State.setByte_tasks (s : State) (a : Nat) (b : Byte) : (s.setByte a b).tasks = s.tasks := rfl
@[simp] theorem State.setByte_cores (s : State) (a : Nat) (b : Byte) : (s.setByte a b).cores = s.cores := rfl
@[simp] theorem State.setByte_dies (s : State) (a : Nat) (b : Byte) : (s.setByte a b).dies = s.dies := rfl
@[simp] theorem State.setByte_taskQueues (s : State) (a : Nat) (b : Byte) : (s.setByte a b).taskQueues = s.taskQueues := rfl
@[simp] theorem State.setByte_atomicLines (s : State) (a : Nat) (b : Byte) : (s.setByte a b).atomicLines = s.atomicLines := rfl
@[simp] theorem State.setByte_mordant (s : State) (a : Nat) (b : Byte) : (s.setByte a b).mordant = s.mordant := rfl
@[simp] theorem State.setByte_steals (s : State) (a : Nat) (b : Byte) : (s.setByte a b).steals = s.steals := rfl
@[simp] theorem State.setByte_channels (s : State) (a : Nat) (b : Byte) : (s.setByte a b).channels = s.channels := rfl
@[simp] theorem State.setByte_io (s : State) (a : Nat) (b : Byte) : (s.setByte a b).io = s.io := rfl
@[simp] theorem State.setByte_umberNext (s : State) (a : Nat) (b : Byte) : (s.setByte a b).umberNext = s.umberNext := rfl
@[simp] theorem State.setByte_grp (s : State) (a : Nat) (b : Byte) (h : SlotRef) : (s.setByte a b).grp h = s.grp h := rfl
@[simp] theorem State.setByte_hasGrp (s : State) (a : Nat) (b : Byte) (h : SlotRef) : (s.setByte a b).hasGrp h = s.hasGrp h := rfl
@[simp] theorem State.setByte_team (s : State) (a : Nat) (b : Byte) (j : Nat) : (s.setByte a b).team j = s.team j := rfl
@[simp] theorem State.setByte_task (s : State) (a : Nat) (b : Byte) (j : Nat) : (s.setByte a b).task j = s.task j := rfl
@[simp] theorem State.setByte_core (s : State) (a : Nat) (b : Byte) (e : CoreRef) : (s.setByte a b).core e = s.core e := rfl
@[simp] theorem State.setByte_die (s : State) (a : Nat) (b : Byte) (j : Nat) : (s.setByte a b).die j = s.die j := rfl
@[simp] theorem State.setByte_queue (s : State) (a : Nat) (b : Byte) (j : Nat) : (s.setByte a b).queue j = s.queue j := rfl
@[simp] theorem State.setByte_hasCtx (s : State) (a : Nat) (b : Byte) (e : CtxId) : (s.setByte a b).hasCtx e = s.hasCtx e := rfl

/-! ## Group.modCtx -/

@[simp] theorem Group.modCtx_kind (g : Group) (i : Nat) (f : Context → Context) : (g.modCtx i f).kind = g.kind := rfl
@[simp] theorem Group.modCtx_team (g : Group) (i : Nat) (f : Context → Context) : (g.modCtx i f).team = g.team := rfl
@[simp] theorem Group.modCtx_task (g : Group) (i : Nat) (f : Context → Context) : (g.modCtx i f).task = g.task := rfl
@[simp] theorem Group.modCtx_gi (g : Group) (i : Nat) (f : Context → Context) : (g.modCtx i f).gi = g.gi := rfl
@[simp] theorem Group.modCtx_gen (g : Group) (i : Nat) (f : Context → Context) : (g.modCtx i f).gen = g.gen := rfl
@[simp] theorem Group.modCtx_records (g : Group) (i : Nat) (f : Context → Context) : (g.modCtx i f).records = g.records := rfl
@[simp] theorem Group.modCtx_v (g : Group) (i : Nat) (f : Context → Context) : (g.modCtx i f).v = g.v := rfl
@[simp] theorem Group.modCtx_o (g : Group) (i : Nat) (f : Context → Context) : (g.modCtx i f).o = g.o := rfl
@[simp] theorem Group.modCtx_q (g : Group) (i : Nat) (f : Context → Context) : (g.modCtx i f).q = g.q := rfl
@[simp] theorem Group.modCtx_p (g : Group) (i : Nat) (f : Context → Context) : (g.modCtx i f).p = g.p := rfl
@[simp] theorem Group.modCtx_teamThread (g : Group) (i : Nat) (f : Context → Context) : (g.modCtx i f).teamThread = g.teamThread := rfl
@[simp] theorem Group.modCtx_keys (g : Group) (i : Nat) (f : Context → Context) : (g.modCtx i f).keys = g.keys := rfl
@[simp] theorem Group.modCtx_origin (g : Group) (i : Nat) (f : Context → Context) : (g.modCtx i f).origin = g.origin := rfl
@[simp] theorem Group.modCtx_flags (g : Group) (i : Nat) (f : Context → Context) : (g.modCtx i f).flags = g.flags := rfl
@[simp] theorem Group.modCtx_frm (g : Group) (i : Nat) (f : Context → Context) : (g.modCtx i f).frm = g.frm := rfl
@[simp] theorem Group.modCtx_trapnf (g : Group) (i : Nat) (f : Context → Context) : (g.modCtx i f).trapnf = g.trapnf := rfl
@[simp] theorem Group.modCtx_fpflags (g : Group) (i : Nat) (f : Context → Context) : (g.modCtx i f).fpflags = g.fpflags := rfl
@[simp] theorem Group.modCtx_fpnow (g : Group) (i : Nat) (f : Context → Context) : (g.modCtx i f).fpnow = g.fpnow := rfl
@[simp] theorem Group.modCtx_obs (g : Group) (i : Nat) (f : Context → Context) : (g.modCtx i f).obs = g.obs := rfl
@[simp] theorem Group.modCtx_trapCause (g : Group) (i : Nat) (f : Context → Context) : (g.modCtx i f).trapCause = g.trapCause := rfl
@[simp] theorem Group.modCtx_trapAddr (g : Group) (i : Nat) (f : Context → Context) : (g.modCtx i f).trapAddr = g.trapAddr := rfl
@[simp] theorem Group.modCtx_trapInfo (g : Group) (i : Nat) (f : Context → Context) : (g.modCtx i f).trapInfo = g.trapInfo := rfl
@[simp] theorem Group.modCtx_trapPc (g : Group) (i : Nat) (f : Context → Context) : (g.modCtx i f).trapPc = g.trapPc := rfl
@[simp] theorem Group.modCtx_bank (g : Group) (i : Nat) (f : Context → Context) : (g.modCtx i f).bank = g.bank := rfl
@[simp] theorem Group.modCtx_handler (g : Group) (i : Nat) (f : Context → Context) : (g.modCtx i f).handler = g.handler := rfl
@[simp] theorem Group.modCtx_waiting (g : Group) (i : Nat) (f : Context → Context) : (g.modCtx i f).waiting = g.waiting := rfl
@[simp] theorem Group.modCtx_trapped (g : Group) (i : Nat) (f : Context → Context) : (g.modCtx i f).trapped = g.trapped := rfl
@[simp] theorem Group.modCtx_regalloc (g : Group) (i : Nat) (f : Context → Context) : (g.modCtx i f).regalloc = g.regalloc := rfl
@[simp] theorem Group.modCtx_ops (g : Group) (i : Nat) (f : Context → Context) : (g.modCtx i f).ops = g.ops := rfl
@[simp] theorem Group.modCtx_engineErrs (g : Group) (i : Nat) (f : Context → Context) : (g.modCtx i f).engineErrs = g.engineErrs := rfl
@[simp] theorem Group.modCtx_mordErrs (g : Group) (i : Nat) (f : Context → Context) : (g.modCtx i f).mordErrs = g.mordErrs := rfl
@[simp] theorem Group.modCtx_hold (g : Group) (i : Nat) (f : Context → Context) : (g.modCtx i f).hold = g.hold := rfl
@[simp] theorem Group.modCtx_fence (g : Group) (i : Nat) (f : Context → Context) : (g.modCtx i f).fence = g.fence := rfl
@[simp] theorem Group.modCtx_held (g : Group) (i : Nat) (f : Context → Context) : (g.modCtx i f).held = g.held := rfl
@[simp] theorem Group.modCtx_estatus (g : Group) (i : Nat) (f : Context → Context) : (g.modCtx i f).estatus = g.estatus := rfl
@[simp] theorem Group.modCtx_copies (g : Group) (i : Nat) (f : Context → Context) : (g.modCtx i f).copies = g.copies := rfl
@[simp] theorem Group.modCtx_td (g : Group) (i : Nat) (f : Context → Context) : (g.modCtx i f).td = g.td := rfl
@[simp] theorem Group.modCtx_pages (g : Group) (i : Nat) (f : Context → Context) : (g.modCtx i f).pages = g.pages := rfl
@[simp] theorem Group.modCtx_graceCount (g : Group) (i : Nat) (f : Context → Context) : (g.modCtx i f).graceCount = g.graceCount := rfl
@[simp] theorem Group.modCtx_graceDue (g : Group) (i : Nat) (f : Context → Context) : (g.modCtx i f).graceDue = g.graceDue := rfl
@[simp] theorem Group.modCtx_executed (g : Group) (i : Nat) (f : Context → Context) : (g.modCtx i f).executed = g.executed := rfl
@[simp] theorem Group.modCtx_evicting (g : Group) (i : Nat) (f : Context → Context) : (g.modCtx i f).evicting = g.evicting := rfl
@[simp] theorem Group.modCtx_placed (g : Group) (i : Nat) (f : Context → Context) : (g.modCtx i f).placed = g.placed := rfl
@[simp] theorem Group.modCtx_waited (g : Group) (i : Nat) (f : Context → Context) : (g.modCtx i f).waited = g.waited := rfl
@[simp] theorem Group.modCtx_promoted (g : Group) (i : Nat) (f : Context → Context) : (g.modCtx i f).promoted = g.promoted := rfl
@[simp] theorem Group.modCtx_ended (g : Group) (i : Nat) (f : Context → Context) : (g.modCtx i f).ended = g.ended := rfl

/-! ## Group.setV -/

@[simp] theorem Group.setV_kind (g : Group) (r l : Nat) (x : Word) : (g.setV r l x).kind = g.kind := rfl
@[simp] theorem Group.setV_team (g : Group) (r l : Nat) (x : Word) : (g.setV r l x).team = g.team := rfl
@[simp] theorem Group.setV_task (g : Group) (r l : Nat) (x : Word) : (g.setV r l x).task = g.task := rfl
@[simp] theorem Group.setV_gi (g : Group) (r l : Nat) (x : Word) : (g.setV r l x).gi = g.gi := rfl
@[simp] theorem Group.setV_gen (g : Group) (r l : Nat) (x : Word) : (g.setV r l x).gen = g.gen := rfl
@[simp] theorem Group.setV_ctxs (g : Group) (r l : Nat) (x : Word) : (g.setV r l x).ctxs = g.ctxs := rfl
@[simp] theorem Group.setV_records (g : Group) (r l : Nat) (x : Word) : (g.setV r l x).records = g.records := rfl
@[simp] theorem Group.setV_o (g : Group) (r l : Nat) (x : Word) : (g.setV r l x).o = g.o := rfl
@[simp] theorem Group.setV_q (g : Group) (r l : Nat) (x : Word) : (g.setV r l x).q = g.q := rfl
@[simp] theorem Group.setV_p (g : Group) (r l : Nat) (x : Word) : (g.setV r l x).p = g.p := rfl
@[simp] theorem Group.setV_teamThread (g : Group) (r l : Nat) (x : Word) : (g.setV r l x).teamThread = g.teamThread := rfl
@[simp] theorem Group.setV_keys (g : Group) (r l : Nat) (x : Word) : (g.setV r l x).keys = g.keys := rfl
@[simp] theorem Group.setV_origin (g : Group) (r l : Nat) (x : Word) : (g.setV r l x).origin = g.origin := rfl
@[simp] theorem Group.setV_flags (g : Group) (r l : Nat) (x : Word) : (g.setV r l x).flags = g.flags := rfl
@[simp] theorem Group.setV_frm (g : Group) (r l : Nat) (x : Word) : (g.setV r l x).frm = g.frm := rfl
@[simp] theorem Group.setV_trapnf (g : Group) (r l : Nat) (x : Word) : (g.setV r l x).trapnf = g.trapnf := rfl
@[simp] theorem Group.setV_fpflags (g : Group) (r l : Nat) (x : Word) : (g.setV r l x).fpflags = g.fpflags := rfl
@[simp] theorem Group.setV_fpnow (g : Group) (r l : Nat) (x : Word) : (g.setV r l x).fpnow = g.fpnow := rfl
@[simp] theorem Group.setV_obs (g : Group) (r l : Nat) (x : Word) : (g.setV r l x).obs = g.obs := rfl
@[simp] theorem Group.setV_trapCause (g : Group) (r l : Nat) (x : Word) : (g.setV r l x).trapCause = g.trapCause := rfl
@[simp] theorem Group.setV_trapAddr (g : Group) (r l : Nat) (x : Word) : (g.setV r l x).trapAddr = g.trapAddr := rfl
@[simp] theorem Group.setV_trapInfo (g : Group) (r l : Nat) (x : Word) : (g.setV r l x).trapInfo = g.trapInfo := rfl
@[simp] theorem Group.setV_trapPc (g : Group) (r l : Nat) (x : Word) : (g.setV r l x).trapPc = g.trapPc := rfl
@[simp] theorem Group.setV_bank (g : Group) (r l : Nat) (x : Word) : (g.setV r l x).bank = g.bank := rfl
@[simp] theorem Group.setV_handler (g : Group) (r l : Nat) (x : Word) : (g.setV r l x).handler = g.handler := rfl
@[simp] theorem Group.setV_waiting (g : Group) (r l : Nat) (x : Word) : (g.setV r l x).waiting = g.waiting := rfl
@[simp] theorem Group.setV_trapped (g : Group) (r l : Nat) (x : Word) : (g.setV r l x).trapped = g.trapped := rfl
@[simp] theorem Group.setV_regalloc (g : Group) (r l : Nat) (x : Word) : (g.setV r l x).regalloc = g.regalloc := rfl
@[simp] theorem Group.setV_ops (g : Group) (r l : Nat) (x : Word) : (g.setV r l x).ops = g.ops := rfl
@[simp] theorem Group.setV_engineErrs (g : Group) (r l : Nat) (x : Word) : (g.setV r l x).engineErrs = g.engineErrs := rfl
@[simp] theorem Group.setV_mordErrs (g : Group) (r l : Nat) (x : Word) : (g.setV r l x).mordErrs = g.mordErrs := rfl
@[simp] theorem Group.setV_hold (g : Group) (r l : Nat) (x : Word) : (g.setV r l x).hold = g.hold := rfl
@[simp] theorem Group.setV_fence (g : Group) (r l : Nat) (x : Word) : (g.setV r l x).fence = g.fence := rfl
@[simp] theorem Group.setV_held (g : Group) (r l : Nat) (x : Word) : (g.setV r l x).held = g.held := rfl
@[simp] theorem Group.setV_estatus (g : Group) (r l : Nat) (x : Word) : (g.setV r l x).estatus = g.estatus := rfl
@[simp] theorem Group.setV_copies (g : Group) (r l : Nat) (x : Word) : (g.setV r l x).copies = g.copies := rfl
@[simp] theorem Group.setV_td (g : Group) (r l : Nat) (x : Word) : (g.setV r l x).td = g.td := rfl
@[simp] theorem Group.setV_pages (g : Group) (r l : Nat) (x : Word) : (g.setV r l x).pages = g.pages := rfl
@[simp] theorem Group.setV_graceCount (g : Group) (r l : Nat) (x : Word) : (g.setV r l x).graceCount = g.graceCount := rfl
@[simp] theorem Group.setV_graceDue (g : Group) (r l : Nat) (x : Word) : (g.setV r l x).graceDue = g.graceDue := rfl
@[simp] theorem Group.setV_executed (g : Group) (r l : Nat) (x : Word) : (g.setV r l x).executed = g.executed := rfl
@[simp] theorem Group.setV_evicting (g : Group) (r l : Nat) (x : Word) : (g.setV r l x).evicting = g.evicting := rfl
@[simp] theorem Group.setV_placed (g : Group) (r l : Nat) (x : Word) : (g.setV r l x).placed = g.placed := rfl
@[simp] theorem Group.setV_waited (g : Group) (r l : Nat) (x : Word) : (g.setV r l x).waited = g.waited := rfl
@[simp] theorem Group.setV_promoted (g : Group) (r l : Nat) (x : Word) : (g.setV r l x).promoted = g.promoted := rfl
@[simp] theorem Group.setV_ended (g : Group) (r l : Nat) (x : Word) : (g.setV r l x).ended = g.ended := rfl

/-! ## Group.setO -/

@[simp] theorem Group.setO_kind (g : Group) (r l : Nat) (x : Word) : (g.setO r l x).kind = g.kind := rfl
@[simp] theorem Group.setO_team (g : Group) (r l : Nat) (x : Word) : (g.setO r l x).team = g.team := rfl
@[simp] theorem Group.setO_task (g : Group) (r l : Nat) (x : Word) : (g.setO r l x).task = g.task := rfl
@[simp] theorem Group.setO_gi (g : Group) (r l : Nat) (x : Word) : (g.setO r l x).gi = g.gi := rfl
@[simp] theorem Group.setO_gen (g : Group) (r l : Nat) (x : Word) : (g.setO r l x).gen = g.gen := rfl
@[simp] theorem Group.setO_ctxs (g : Group) (r l : Nat) (x : Word) : (g.setO r l x).ctxs = g.ctxs := rfl
@[simp] theorem Group.setO_records (g : Group) (r l : Nat) (x : Word) : (g.setO r l x).records = g.records := rfl
@[simp] theorem Group.setO_v (g : Group) (r l : Nat) (x : Word) : (g.setO r l x).v = g.v := rfl
@[simp] theorem Group.setO_q (g : Group) (r l : Nat) (x : Word) : (g.setO r l x).q = g.q := rfl
@[simp] theorem Group.setO_p (g : Group) (r l : Nat) (x : Word) : (g.setO r l x).p = g.p := rfl
@[simp] theorem Group.setO_teamThread (g : Group) (r l : Nat) (x : Word) : (g.setO r l x).teamThread = g.teamThread := rfl
@[simp] theorem Group.setO_keys (g : Group) (r l : Nat) (x : Word) : (g.setO r l x).keys = g.keys := rfl
@[simp] theorem Group.setO_origin (g : Group) (r l : Nat) (x : Word) : (g.setO r l x).origin = g.origin := rfl
@[simp] theorem Group.setO_flags (g : Group) (r l : Nat) (x : Word) : (g.setO r l x).flags = g.flags := rfl
@[simp] theorem Group.setO_frm (g : Group) (r l : Nat) (x : Word) : (g.setO r l x).frm = g.frm := rfl
@[simp] theorem Group.setO_trapnf (g : Group) (r l : Nat) (x : Word) : (g.setO r l x).trapnf = g.trapnf := rfl
@[simp] theorem Group.setO_fpflags (g : Group) (r l : Nat) (x : Word) : (g.setO r l x).fpflags = g.fpflags := rfl
@[simp] theorem Group.setO_fpnow (g : Group) (r l : Nat) (x : Word) : (g.setO r l x).fpnow = g.fpnow := rfl
@[simp] theorem Group.setO_obs (g : Group) (r l : Nat) (x : Word) : (g.setO r l x).obs = g.obs := rfl
@[simp] theorem Group.setO_trapCause (g : Group) (r l : Nat) (x : Word) : (g.setO r l x).trapCause = g.trapCause := rfl
@[simp] theorem Group.setO_trapAddr (g : Group) (r l : Nat) (x : Word) : (g.setO r l x).trapAddr = g.trapAddr := rfl
@[simp] theorem Group.setO_trapInfo (g : Group) (r l : Nat) (x : Word) : (g.setO r l x).trapInfo = g.trapInfo := rfl
@[simp] theorem Group.setO_trapPc (g : Group) (r l : Nat) (x : Word) : (g.setO r l x).trapPc = g.trapPc := rfl
@[simp] theorem Group.setO_bank (g : Group) (r l : Nat) (x : Word) : (g.setO r l x).bank = g.bank := rfl
@[simp] theorem Group.setO_handler (g : Group) (r l : Nat) (x : Word) : (g.setO r l x).handler = g.handler := rfl
@[simp] theorem Group.setO_waiting (g : Group) (r l : Nat) (x : Word) : (g.setO r l x).waiting = g.waiting := rfl
@[simp] theorem Group.setO_trapped (g : Group) (r l : Nat) (x : Word) : (g.setO r l x).trapped = g.trapped := rfl
@[simp] theorem Group.setO_regalloc (g : Group) (r l : Nat) (x : Word) : (g.setO r l x).regalloc = g.regalloc := rfl
@[simp] theorem Group.setO_ops (g : Group) (r l : Nat) (x : Word) : (g.setO r l x).ops = g.ops := rfl
@[simp] theorem Group.setO_engineErrs (g : Group) (r l : Nat) (x : Word) : (g.setO r l x).engineErrs = g.engineErrs := rfl
@[simp] theorem Group.setO_mordErrs (g : Group) (r l : Nat) (x : Word) : (g.setO r l x).mordErrs = g.mordErrs := rfl
@[simp] theorem Group.setO_hold (g : Group) (r l : Nat) (x : Word) : (g.setO r l x).hold = g.hold := rfl
@[simp] theorem Group.setO_fence (g : Group) (r l : Nat) (x : Word) : (g.setO r l x).fence = g.fence := rfl
@[simp] theorem Group.setO_held (g : Group) (r l : Nat) (x : Word) : (g.setO r l x).held = g.held := rfl
@[simp] theorem Group.setO_estatus (g : Group) (r l : Nat) (x : Word) : (g.setO r l x).estatus = g.estatus := rfl
@[simp] theorem Group.setO_copies (g : Group) (r l : Nat) (x : Word) : (g.setO r l x).copies = g.copies := rfl
@[simp] theorem Group.setO_td (g : Group) (r l : Nat) (x : Word) : (g.setO r l x).td = g.td := rfl
@[simp] theorem Group.setO_pages (g : Group) (r l : Nat) (x : Word) : (g.setO r l x).pages = g.pages := rfl
@[simp] theorem Group.setO_graceCount (g : Group) (r l : Nat) (x : Word) : (g.setO r l x).graceCount = g.graceCount := rfl
@[simp] theorem Group.setO_graceDue (g : Group) (r l : Nat) (x : Word) : (g.setO r l x).graceDue = g.graceDue := rfl
@[simp] theorem Group.setO_executed (g : Group) (r l : Nat) (x : Word) : (g.setO r l x).executed = g.executed := rfl
@[simp] theorem Group.setO_evicting (g : Group) (r l : Nat) (x : Word) : (g.setO r l x).evicting = g.evicting := rfl
@[simp] theorem Group.setO_placed (g : Group) (r l : Nat) (x : Word) : (g.setO r l x).placed = g.placed := rfl
@[simp] theorem Group.setO_waited (g : Group) (r l : Nat) (x : Word) : (g.setO r l x).waited = g.waited := rfl
@[simp] theorem Group.setO_promoted (g : Group) (r l : Nat) (x : Word) : (g.setO r l x).promoted = g.promoted := rfl
@[simp] theorem Group.setO_ended (g : Group) (r l : Nat) (x : Word) : (g.setO r l x).ended = g.ended := rfl

/-! ## Group.setQ -/

@[simp] theorem Group.setQ_kind (g : Group) (r l : Nat) (x : Word) : (g.setQ r l x).kind = g.kind := rfl
@[simp] theorem Group.setQ_team (g : Group) (r l : Nat) (x : Word) : (g.setQ r l x).team = g.team := rfl
@[simp] theorem Group.setQ_task (g : Group) (r l : Nat) (x : Word) : (g.setQ r l x).task = g.task := rfl
@[simp] theorem Group.setQ_gi (g : Group) (r l : Nat) (x : Word) : (g.setQ r l x).gi = g.gi := rfl
@[simp] theorem Group.setQ_gen (g : Group) (r l : Nat) (x : Word) : (g.setQ r l x).gen = g.gen := rfl
@[simp] theorem Group.setQ_ctxs (g : Group) (r l : Nat) (x : Word) : (g.setQ r l x).ctxs = g.ctxs := rfl
@[simp] theorem Group.setQ_records (g : Group) (r l : Nat) (x : Word) : (g.setQ r l x).records = g.records := rfl
@[simp] theorem Group.setQ_v (g : Group) (r l : Nat) (x : Word) : (g.setQ r l x).v = g.v := rfl
@[simp] theorem Group.setQ_o (g : Group) (r l : Nat) (x : Word) : (g.setQ r l x).o = g.o := rfl
@[simp] theorem Group.setQ_p (g : Group) (r l : Nat) (x : Word) : (g.setQ r l x).p = g.p := rfl
@[simp] theorem Group.setQ_teamThread (g : Group) (r l : Nat) (x : Word) : (g.setQ r l x).teamThread = g.teamThread := rfl
@[simp] theorem Group.setQ_keys (g : Group) (r l : Nat) (x : Word) : (g.setQ r l x).keys = g.keys := rfl
@[simp] theorem Group.setQ_origin (g : Group) (r l : Nat) (x : Word) : (g.setQ r l x).origin = g.origin := rfl
@[simp] theorem Group.setQ_flags (g : Group) (r l : Nat) (x : Word) : (g.setQ r l x).flags = g.flags := rfl
@[simp] theorem Group.setQ_frm (g : Group) (r l : Nat) (x : Word) : (g.setQ r l x).frm = g.frm := rfl
@[simp] theorem Group.setQ_trapnf (g : Group) (r l : Nat) (x : Word) : (g.setQ r l x).trapnf = g.trapnf := rfl
@[simp] theorem Group.setQ_fpflags (g : Group) (r l : Nat) (x : Word) : (g.setQ r l x).fpflags = g.fpflags := rfl
@[simp] theorem Group.setQ_fpnow (g : Group) (r l : Nat) (x : Word) : (g.setQ r l x).fpnow = g.fpnow := rfl
@[simp] theorem Group.setQ_obs (g : Group) (r l : Nat) (x : Word) : (g.setQ r l x).obs = g.obs := rfl
@[simp] theorem Group.setQ_trapCause (g : Group) (r l : Nat) (x : Word) : (g.setQ r l x).trapCause = g.trapCause := rfl
@[simp] theorem Group.setQ_trapAddr (g : Group) (r l : Nat) (x : Word) : (g.setQ r l x).trapAddr = g.trapAddr := rfl
@[simp] theorem Group.setQ_trapInfo (g : Group) (r l : Nat) (x : Word) : (g.setQ r l x).trapInfo = g.trapInfo := rfl
@[simp] theorem Group.setQ_trapPc (g : Group) (r l : Nat) (x : Word) : (g.setQ r l x).trapPc = g.trapPc := rfl
@[simp] theorem Group.setQ_bank (g : Group) (r l : Nat) (x : Word) : (g.setQ r l x).bank = g.bank := rfl
@[simp] theorem Group.setQ_handler (g : Group) (r l : Nat) (x : Word) : (g.setQ r l x).handler = g.handler := rfl
@[simp] theorem Group.setQ_waiting (g : Group) (r l : Nat) (x : Word) : (g.setQ r l x).waiting = g.waiting := rfl
@[simp] theorem Group.setQ_trapped (g : Group) (r l : Nat) (x : Word) : (g.setQ r l x).trapped = g.trapped := rfl
@[simp] theorem Group.setQ_regalloc (g : Group) (r l : Nat) (x : Word) : (g.setQ r l x).regalloc = g.regalloc := rfl
@[simp] theorem Group.setQ_ops (g : Group) (r l : Nat) (x : Word) : (g.setQ r l x).ops = g.ops := rfl
@[simp] theorem Group.setQ_engineErrs (g : Group) (r l : Nat) (x : Word) : (g.setQ r l x).engineErrs = g.engineErrs := rfl
@[simp] theorem Group.setQ_mordErrs (g : Group) (r l : Nat) (x : Word) : (g.setQ r l x).mordErrs = g.mordErrs := rfl
@[simp] theorem Group.setQ_hold (g : Group) (r l : Nat) (x : Word) : (g.setQ r l x).hold = g.hold := rfl
@[simp] theorem Group.setQ_fence (g : Group) (r l : Nat) (x : Word) : (g.setQ r l x).fence = g.fence := rfl
@[simp] theorem Group.setQ_held (g : Group) (r l : Nat) (x : Word) : (g.setQ r l x).held = g.held := rfl
@[simp] theorem Group.setQ_estatus (g : Group) (r l : Nat) (x : Word) : (g.setQ r l x).estatus = g.estatus := rfl
@[simp] theorem Group.setQ_copies (g : Group) (r l : Nat) (x : Word) : (g.setQ r l x).copies = g.copies := rfl
@[simp] theorem Group.setQ_td (g : Group) (r l : Nat) (x : Word) : (g.setQ r l x).td = g.td := rfl
@[simp] theorem Group.setQ_pages (g : Group) (r l : Nat) (x : Word) : (g.setQ r l x).pages = g.pages := rfl
@[simp] theorem Group.setQ_graceCount (g : Group) (r l : Nat) (x : Word) : (g.setQ r l x).graceCount = g.graceCount := rfl
@[simp] theorem Group.setQ_graceDue (g : Group) (r l : Nat) (x : Word) : (g.setQ r l x).graceDue = g.graceDue := rfl
@[simp] theorem Group.setQ_executed (g : Group) (r l : Nat) (x : Word) : (g.setQ r l x).executed = g.executed := rfl
@[simp] theorem Group.setQ_evicting (g : Group) (r l : Nat) (x : Word) : (g.setQ r l x).evicting = g.evicting := rfl
@[simp] theorem Group.setQ_placed (g : Group) (r l : Nat) (x : Word) : (g.setQ r l x).placed = g.placed := rfl
@[simp] theorem Group.setQ_waited (g : Group) (r l : Nat) (x : Word) : (g.setQ r l x).waited = g.waited := rfl
@[simp] theorem Group.setQ_promoted (g : Group) (r l : Nat) (x : Word) : (g.setQ r l x).promoted = g.promoted := rfl
@[simp] theorem Group.setQ_ended (g : Group) (r l : Nat) (x : Word) : (g.setQ r l x).ended = g.ended := rfl

/-! ## Group.setP -/

@[simp] theorem Group.setP_kind (g : Group) (k : Nat) (m x : Word) : (g.setP k m x).kind = g.kind := rfl
@[simp] theorem Group.setP_team (g : Group) (k : Nat) (m x : Word) : (g.setP k m x).team = g.team := rfl
@[simp] theorem Group.setP_task (g : Group) (k : Nat) (m x : Word) : (g.setP k m x).task = g.task := rfl
@[simp] theorem Group.setP_gi (g : Group) (k : Nat) (m x : Word) : (g.setP k m x).gi = g.gi := rfl
@[simp] theorem Group.setP_gen (g : Group) (k : Nat) (m x : Word) : (g.setP k m x).gen = g.gen := rfl
@[simp] theorem Group.setP_ctxs (g : Group) (k : Nat) (m x : Word) : (g.setP k m x).ctxs = g.ctxs := rfl
@[simp] theorem Group.setP_records (g : Group) (k : Nat) (m x : Word) : (g.setP k m x).records = g.records := rfl
@[simp] theorem Group.setP_v (g : Group) (k : Nat) (m x : Word) : (g.setP k m x).v = g.v := rfl
@[simp] theorem Group.setP_o (g : Group) (k : Nat) (m x : Word) : (g.setP k m x).o = g.o := rfl
@[simp] theorem Group.setP_q (g : Group) (k : Nat) (m x : Word) : (g.setP k m x).q = g.q := rfl
@[simp] theorem Group.setP_teamThread (g : Group) (k : Nat) (m x : Word) : (g.setP k m x).teamThread = g.teamThread := rfl
@[simp] theorem Group.setP_keys (g : Group) (k : Nat) (m x : Word) : (g.setP k m x).keys = g.keys := rfl
@[simp] theorem Group.setP_origin (g : Group) (k : Nat) (m x : Word) : (g.setP k m x).origin = g.origin := rfl
@[simp] theorem Group.setP_flags (g : Group) (k : Nat) (m x : Word) : (g.setP k m x).flags = g.flags := rfl
@[simp] theorem Group.setP_frm (g : Group) (k : Nat) (m x : Word) : (g.setP k m x).frm = g.frm := rfl
@[simp] theorem Group.setP_trapnf (g : Group) (k : Nat) (m x : Word) : (g.setP k m x).trapnf = g.trapnf := rfl
@[simp] theorem Group.setP_fpflags (g : Group) (k : Nat) (m x : Word) : (g.setP k m x).fpflags = g.fpflags := rfl
@[simp] theorem Group.setP_fpnow (g : Group) (k : Nat) (m x : Word) : (g.setP k m x).fpnow = g.fpnow := rfl
@[simp] theorem Group.setP_obs (g : Group) (k : Nat) (m x : Word) : (g.setP k m x).obs = g.obs := rfl
@[simp] theorem Group.setP_trapCause (g : Group) (k : Nat) (m x : Word) : (g.setP k m x).trapCause = g.trapCause := rfl
@[simp] theorem Group.setP_trapAddr (g : Group) (k : Nat) (m x : Word) : (g.setP k m x).trapAddr = g.trapAddr := rfl
@[simp] theorem Group.setP_trapInfo (g : Group) (k : Nat) (m x : Word) : (g.setP k m x).trapInfo = g.trapInfo := rfl
@[simp] theorem Group.setP_trapPc (g : Group) (k : Nat) (m x : Word) : (g.setP k m x).trapPc = g.trapPc := rfl
@[simp] theorem Group.setP_bank (g : Group) (k : Nat) (m x : Word) : (g.setP k m x).bank = g.bank := rfl
@[simp] theorem Group.setP_handler (g : Group) (k : Nat) (m x : Word) : (g.setP k m x).handler = g.handler := rfl
@[simp] theorem Group.setP_waiting (g : Group) (k : Nat) (m x : Word) : (g.setP k m x).waiting = g.waiting := rfl
@[simp] theorem Group.setP_trapped (g : Group) (k : Nat) (m x : Word) : (g.setP k m x).trapped = g.trapped := rfl
@[simp] theorem Group.setP_regalloc (g : Group) (k : Nat) (m x : Word) : (g.setP k m x).regalloc = g.regalloc := rfl
@[simp] theorem Group.setP_ops (g : Group) (k : Nat) (m x : Word) : (g.setP k m x).ops = g.ops := rfl
@[simp] theorem Group.setP_engineErrs (g : Group) (k : Nat) (m x : Word) : (g.setP k m x).engineErrs = g.engineErrs := rfl
@[simp] theorem Group.setP_mordErrs (g : Group) (k : Nat) (m x : Word) : (g.setP k m x).mordErrs = g.mordErrs := rfl
@[simp] theorem Group.setP_hold (g : Group) (k : Nat) (m x : Word) : (g.setP k m x).hold = g.hold := rfl
@[simp] theorem Group.setP_fence (g : Group) (k : Nat) (m x : Word) : (g.setP k m x).fence = g.fence := rfl
@[simp] theorem Group.setP_held (g : Group) (k : Nat) (m x : Word) : (g.setP k m x).held = g.held := rfl
@[simp] theorem Group.setP_estatus (g : Group) (k : Nat) (m x : Word) : (g.setP k m x).estatus = g.estatus := rfl
@[simp] theorem Group.setP_copies (g : Group) (k : Nat) (m x : Word) : (g.setP k m x).copies = g.copies := rfl
@[simp] theorem Group.setP_td (g : Group) (k : Nat) (m x : Word) : (g.setP k m x).td = g.td := rfl
@[simp] theorem Group.setP_pages (g : Group) (k : Nat) (m x : Word) : (g.setP k m x).pages = g.pages := rfl
@[simp] theorem Group.setP_graceCount (g : Group) (k : Nat) (m x : Word) : (g.setP k m x).graceCount = g.graceCount := rfl
@[simp] theorem Group.setP_graceDue (g : Group) (k : Nat) (m x : Word) : (g.setP k m x).graceDue = g.graceDue := rfl
@[simp] theorem Group.setP_executed (g : Group) (k : Nat) (m x : Word) : (g.setP k m x).executed = g.executed := rfl
@[simp] theorem Group.setP_evicting (g : Group) (k : Nat) (m x : Word) : (g.setP k m x).evicting = g.evicting := rfl
@[simp] theorem Group.setP_placed (g : Group) (k : Nat) (m x : Word) : (g.setP k m x).placed = g.placed := rfl
@[simp] theorem Group.setP_waited (g : Group) (k : Nat) (m x : Word) : (g.setP k m x).waited = g.waited := rfl
@[simp] theorem Group.setP_promoted (g : Group) (k : Nat) (m x : Word) : (g.setP k m x).promoted = g.promoted := rfl
@[simp] theorem Group.setP_ended (g : Group) (k : Nat) (m x : Word) : (g.setP k m x).ended = g.ended := rfl

/-! ## Group.modFlag -/

@[simp] theorem Group.modFlag_kind (g : Group) (f : Nat) (h : Flag → Flag) : (g.modFlag f h).kind = g.kind := rfl
@[simp] theorem Group.modFlag_team (g : Group) (f : Nat) (h : Flag → Flag) : (g.modFlag f h).team = g.team := rfl
@[simp] theorem Group.modFlag_task (g : Group) (f : Nat) (h : Flag → Flag) : (g.modFlag f h).task = g.task := rfl
@[simp] theorem Group.modFlag_gi (g : Group) (f : Nat) (h : Flag → Flag) : (g.modFlag f h).gi = g.gi := rfl
@[simp] theorem Group.modFlag_gen (g : Group) (f : Nat) (h : Flag → Flag) : (g.modFlag f h).gen = g.gen := rfl
@[simp] theorem Group.modFlag_ctxs (g : Group) (f : Nat) (h : Flag → Flag) : (g.modFlag f h).ctxs = g.ctxs := rfl
@[simp] theorem Group.modFlag_records (g : Group) (f : Nat) (h : Flag → Flag) : (g.modFlag f h).records = g.records := rfl
@[simp] theorem Group.modFlag_v (g : Group) (f : Nat) (h : Flag → Flag) : (g.modFlag f h).v = g.v := rfl
@[simp] theorem Group.modFlag_o (g : Group) (f : Nat) (h : Flag → Flag) : (g.modFlag f h).o = g.o := rfl
@[simp] theorem Group.modFlag_q (g : Group) (f : Nat) (h : Flag → Flag) : (g.modFlag f h).q = g.q := rfl
@[simp] theorem Group.modFlag_p (g : Group) (f : Nat) (h : Flag → Flag) : (g.modFlag f h).p = g.p := rfl
@[simp] theorem Group.modFlag_teamThread (g : Group) (f : Nat) (h : Flag → Flag) : (g.modFlag f h).teamThread = g.teamThread := rfl
@[simp] theorem Group.modFlag_keys (g : Group) (f : Nat) (h : Flag → Flag) : (g.modFlag f h).keys = g.keys := rfl
@[simp] theorem Group.modFlag_origin (g : Group) (f : Nat) (h : Flag → Flag) : (g.modFlag f h).origin = g.origin := rfl
@[simp] theorem Group.modFlag_frm (g : Group) (f : Nat) (h : Flag → Flag) : (g.modFlag f h).frm = g.frm := rfl
@[simp] theorem Group.modFlag_trapnf (g : Group) (f : Nat) (h : Flag → Flag) : (g.modFlag f h).trapnf = g.trapnf := rfl
@[simp] theorem Group.modFlag_fpflags (g : Group) (f : Nat) (h : Flag → Flag) : (g.modFlag f h).fpflags = g.fpflags := rfl
@[simp] theorem Group.modFlag_fpnow (g : Group) (f : Nat) (h : Flag → Flag) : (g.modFlag f h).fpnow = g.fpnow := rfl
@[simp] theorem Group.modFlag_obs (g : Group) (f : Nat) (h : Flag → Flag) : (g.modFlag f h).obs = g.obs := rfl
@[simp] theorem Group.modFlag_trapCause (g : Group) (f : Nat) (h : Flag → Flag) : (g.modFlag f h).trapCause = g.trapCause := rfl
@[simp] theorem Group.modFlag_trapAddr (g : Group) (f : Nat) (h : Flag → Flag) : (g.modFlag f h).trapAddr = g.trapAddr := rfl
@[simp] theorem Group.modFlag_trapInfo (g : Group) (f : Nat) (h : Flag → Flag) : (g.modFlag f h).trapInfo = g.trapInfo := rfl
@[simp] theorem Group.modFlag_trapPc (g : Group) (f : Nat) (h : Flag → Flag) : (g.modFlag f h).trapPc = g.trapPc := rfl
@[simp] theorem Group.modFlag_bank (g : Group) (f : Nat) (h : Flag → Flag) : (g.modFlag f h).bank = g.bank := rfl
@[simp] theorem Group.modFlag_handler (g : Group) (f : Nat) (h : Flag → Flag) : (g.modFlag f h).handler = g.handler := rfl
@[simp] theorem Group.modFlag_waiting (g : Group) (f : Nat) (h : Flag → Flag) : (g.modFlag f h).waiting = g.waiting := rfl
@[simp] theorem Group.modFlag_trapped (g : Group) (f : Nat) (h : Flag → Flag) : (g.modFlag f h).trapped = g.trapped := rfl
@[simp] theorem Group.modFlag_regalloc (g : Group) (f : Nat) (h : Flag → Flag) : (g.modFlag f h).regalloc = g.regalloc := rfl
@[simp] theorem Group.modFlag_ops (g : Group) (f : Nat) (h : Flag → Flag) : (g.modFlag f h).ops = g.ops := rfl
@[simp] theorem Group.modFlag_engineErrs (g : Group) (f : Nat) (h : Flag → Flag) : (g.modFlag f h).engineErrs = g.engineErrs := rfl
@[simp] theorem Group.modFlag_mordErrs (g : Group) (f : Nat) (h : Flag → Flag) : (g.modFlag f h).mordErrs = g.mordErrs := rfl
@[simp] theorem Group.modFlag_hold (g : Group) (f : Nat) (h : Flag → Flag) : (g.modFlag f h).hold = g.hold := rfl
@[simp] theorem Group.modFlag_fence (g : Group) (f : Nat) (h : Flag → Flag) : (g.modFlag f h).fence = g.fence := rfl
@[simp] theorem Group.modFlag_held (g : Group) (f : Nat) (h : Flag → Flag) : (g.modFlag f h).held = g.held := rfl
@[simp] theorem Group.modFlag_estatus (g : Group) (f : Nat) (h : Flag → Flag) : (g.modFlag f h).estatus = g.estatus := rfl
@[simp] theorem Group.modFlag_copies (g : Group) (f : Nat) (h : Flag → Flag) : (g.modFlag f h).copies = g.copies := rfl
@[simp] theorem Group.modFlag_td (g : Group) (f : Nat) (h : Flag → Flag) : (g.modFlag f h).td = g.td := rfl
@[simp] theorem Group.modFlag_pages (g : Group) (f : Nat) (h : Flag → Flag) : (g.modFlag f h).pages = g.pages := rfl
@[simp] theorem Group.modFlag_graceCount (g : Group) (f : Nat) (h : Flag → Flag) : (g.modFlag f h).graceCount = g.graceCount := rfl
@[simp] theorem Group.modFlag_graceDue (g : Group) (f : Nat) (h : Flag → Flag) : (g.modFlag f h).graceDue = g.graceDue := rfl
@[simp] theorem Group.modFlag_executed (g : Group) (f : Nat) (h : Flag → Flag) : (g.modFlag f h).executed = g.executed := rfl
@[simp] theorem Group.modFlag_evicting (g : Group) (f : Nat) (h : Flag → Flag) : (g.modFlag f h).evicting = g.evicting := rfl
@[simp] theorem Group.modFlag_placed (g : Group) (f : Nat) (h : Flag → Flag) : (g.modFlag f h).placed = g.placed := rfl
@[simp] theorem Group.modFlag_waited (g : Group) (f : Nat) (h : Flag → Flag) : (g.modFlag f h).waited = g.waited := rfl
@[simp] theorem Group.modFlag_promoted (g : Group) (f : Nat) (h : Flag → Flag) : (g.modFlag f h).promoted = g.promoted := rfl
@[simp] theorem Group.modFlag_ended (g : Group) (f : Nat) (h : Flag → Flag) : (g.modFlag f h).ended = g.ended := rfl

/-! ## Group.setOpKind -/

@[simp] theorem Group.setOpKind_kind (g : Group) (n : Nat) (k : OpKind) : (g.setOpKind n k).kind = g.kind := rfl
@[simp] theorem Group.setOpKind_team (g : Group) (n : Nat) (k : OpKind) : (g.setOpKind n k).team = g.team := rfl
@[simp] theorem Group.setOpKind_task (g : Group) (n : Nat) (k : OpKind) : (g.setOpKind n k).task = g.task := rfl
@[simp] theorem Group.setOpKind_gi (g : Group) (n : Nat) (k : OpKind) : (g.setOpKind n k).gi = g.gi := rfl
@[simp] theorem Group.setOpKind_gen (g : Group) (n : Nat) (k : OpKind) : (g.setOpKind n k).gen = g.gen := rfl
@[simp] theorem Group.setOpKind_ctxs (g : Group) (n : Nat) (k : OpKind) : (g.setOpKind n k).ctxs = g.ctxs := rfl
@[simp] theorem Group.setOpKind_records (g : Group) (n : Nat) (k : OpKind) : (g.setOpKind n k).records = g.records := rfl
@[simp] theorem Group.setOpKind_v (g : Group) (n : Nat) (k : OpKind) : (g.setOpKind n k).v = g.v := rfl
@[simp] theorem Group.setOpKind_o (g : Group) (n : Nat) (k : OpKind) : (g.setOpKind n k).o = g.o := rfl
@[simp] theorem Group.setOpKind_q (g : Group) (n : Nat) (k : OpKind) : (g.setOpKind n k).q = g.q := rfl
@[simp] theorem Group.setOpKind_p (g : Group) (n : Nat) (k : OpKind) : (g.setOpKind n k).p = g.p := rfl
@[simp] theorem Group.setOpKind_teamThread (g : Group) (n : Nat) (k : OpKind) : (g.setOpKind n k).teamThread = g.teamThread := rfl
@[simp] theorem Group.setOpKind_keys (g : Group) (n : Nat) (k : OpKind) : (g.setOpKind n k).keys = g.keys := rfl
@[simp] theorem Group.setOpKind_origin (g : Group) (n : Nat) (k : OpKind) : (g.setOpKind n k).origin = g.origin := rfl
@[simp] theorem Group.setOpKind_flags (g : Group) (n : Nat) (k : OpKind) : (g.setOpKind n k).flags = g.flags := rfl
@[simp] theorem Group.setOpKind_frm (g : Group) (n : Nat) (k : OpKind) : (g.setOpKind n k).frm = g.frm := rfl
@[simp] theorem Group.setOpKind_trapnf (g : Group) (n : Nat) (k : OpKind) : (g.setOpKind n k).trapnf = g.trapnf := rfl
@[simp] theorem Group.setOpKind_fpflags (g : Group) (n : Nat) (k : OpKind) : (g.setOpKind n k).fpflags = g.fpflags := rfl
@[simp] theorem Group.setOpKind_fpnow (g : Group) (n : Nat) (k : OpKind) : (g.setOpKind n k).fpnow = g.fpnow := rfl
@[simp] theorem Group.setOpKind_obs (g : Group) (n : Nat) (k : OpKind) : (g.setOpKind n k).obs = g.obs := rfl
@[simp] theorem Group.setOpKind_trapCause (g : Group) (n : Nat) (k : OpKind) : (g.setOpKind n k).trapCause = g.trapCause := rfl
@[simp] theorem Group.setOpKind_trapAddr (g : Group) (n : Nat) (k : OpKind) : (g.setOpKind n k).trapAddr = g.trapAddr := rfl
@[simp] theorem Group.setOpKind_trapInfo (g : Group) (n : Nat) (k : OpKind) : (g.setOpKind n k).trapInfo = g.trapInfo := rfl
@[simp] theorem Group.setOpKind_trapPc (g : Group) (n : Nat) (k : OpKind) : (g.setOpKind n k).trapPc = g.trapPc := rfl
@[simp] theorem Group.setOpKind_bank (g : Group) (n : Nat) (k : OpKind) : (g.setOpKind n k).bank = g.bank := rfl
@[simp] theorem Group.setOpKind_handler (g : Group) (n : Nat) (k : OpKind) : (g.setOpKind n k).handler = g.handler := rfl
@[simp] theorem Group.setOpKind_waiting (g : Group) (n : Nat) (k : OpKind) : (g.setOpKind n k).waiting = g.waiting := rfl
@[simp] theorem Group.setOpKind_trapped (g : Group) (n : Nat) (k : OpKind) : (g.setOpKind n k).trapped = g.trapped := rfl
@[simp] theorem Group.setOpKind_regalloc (g : Group) (n : Nat) (k : OpKind) : (g.setOpKind n k).regalloc = g.regalloc := rfl
@[simp] theorem Group.setOpKind_engineErrs (g : Group) (n : Nat) (k : OpKind) : (g.setOpKind n k).engineErrs = g.engineErrs := rfl
@[simp] theorem Group.setOpKind_mordErrs (g : Group) (n : Nat) (k : OpKind) : (g.setOpKind n k).mordErrs = g.mordErrs := rfl
@[simp] theorem Group.setOpKind_hold (g : Group) (n : Nat) (k : OpKind) : (g.setOpKind n k).hold = g.hold := rfl
@[simp] theorem Group.setOpKind_fence (g : Group) (n : Nat) (k : OpKind) : (g.setOpKind n k).fence = g.fence := rfl
@[simp] theorem Group.setOpKind_held (g : Group) (n : Nat) (k : OpKind) : (g.setOpKind n k).held = g.held := rfl
@[simp] theorem Group.setOpKind_estatus (g : Group) (n : Nat) (k : OpKind) : (g.setOpKind n k).estatus = g.estatus := rfl
@[simp] theorem Group.setOpKind_copies (g : Group) (n : Nat) (k : OpKind) : (g.setOpKind n k).copies = g.copies := rfl
@[simp] theorem Group.setOpKind_td (g : Group) (n : Nat) (k : OpKind) : (g.setOpKind n k).td = g.td := rfl
@[simp] theorem Group.setOpKind_pages (g : Group) (n : Nat) (k : OpKind) : (g.setOpKind n k).pages = g.pages := rfl
@[simp] theorem Group.setOpKind_graceCount (g : Group) (n : Nat) (k : OpKind) : (g.setOpKind n k).graceCount = g.graceCount := rfl
@[simp] theorem Group.setOpKind_graceDue (g : Group) (n : Nat) (k : OpKind) : (g.setOpKind n k).graceDue = g.graceDue := rfl
@[simp] theorem Group.setOpKind_executed (g : Group) (n : Nat) (k : OpKind) : (g.setOpKind n k).executed = g.executed := rfl
@[simp] theorem Group.setOpKind_evicting (g : Group) (n : Nat) (k : OpKind) : (g.setOpKind n k).evicting = g.evicting := rfl
@[simp] theorem Group.setOpKind_placed (g : Group) (n : Nat) (k : OpKind) : (g.setOpKind n k).placed = g.placed := rfl
@[simp] theorem Group.setOpKind_waited (g : Group) (n : Nat) (k : OpKind) : (g.setOpKind n k).waited = g.waited := rfl
@[simp] theorem Group.setOpKind_promoted (g : Group) (n : Nat) (k : OpKind) : (g.setOpKind n k).promoted = g.promoted := rfl
@[simp] theorem Group.setOpKind_ended (g : Group) (n : Nat) (k : OpKind) : (g.setOpKind n k).ended = g.ended := rfl

/-! ## Group.wakeAll -/

@[simp] theorem Group.wakeAll_kind (g : Group) : (g.wakeAll).kind = g.kind := rfl
@[simp] theorem Group.wakeAll_team (g : Group) : (g.wakeAll).team = g.team := rfl
@[simp] theorem Group.wakeAll_task (g : Group) : (g.wakeAll).task = g.task := rfl
@[simp] theorem Group.wakeAll_gi (g : Group) : (g.wakeAll).gi = g.gi := rfl
@[simp] theorem Group.wakeAll_gen (g : Group) : (g.wakeAll).gen = g.gen := rfl
@[simp] theorem Group.wakeAll_records (g : Group) : (g.wakeAll).records = g.records := rfl
@[simp] theorem Group.wakeAll_v (g : Group) : (g.wakeAll).v = g.v := rfl
@[simp] theorem Group.wakeAll_o (g : Group) : (g.wakeAll).o = g.o := rfl
@[simp] theorem Group.wakeAll_q (g : Group) : (g.wakeAll).q = g.q := rfl
@[simp] theorem Group.wakeAll_p (g : Group) : (g.wakeAll).p = g.p := rfl
@[simp] theorem Group.wakeAll_teamThread (g : Group) : (g.wakeAll).teamThread = g.teamThread := rfl
@[simp] theorem Group.wakeAll_keys (g : Group) : (g.wakeAll).keys = g.keys := rfl
@[simp] theorem Group.wakeAll_origin (g : Group) : (g.wakeAll).origin = g.origin := rfl
@[simp] theorem Group.wakeAll_flags (g : Group) : (g.wakeAll).flags = g.flags := rfl
@[simp] theorem Group.wakeAll_frm (g : Group) : (g.wakeAll).frm = g.frm := rfl
@[simp] theorem Group.wakeAll_trapnf (g : Group) : (g.wakeAll).trapnf = g.trapnf := rfl
@[simp] theorem Group.wakeAll_fpflags (g : Group) : (g.wakeAll).fpflags = g.fpflags := rfl
@[simp] theorem Group.wakeAll_fpnow (g : Group) : (g.wakeAll).fpnow = g.fpnow := rfl
@[simp] theorem Group.wakeAll_obs (g : Group) : (g.wakeAll).obs = g.obs := rfl
@[simp] theorem Group.wakeAll_trapCause (g : Group) : (g.wakeAll).trapCause = g.trapCause := rfl
@[simp] theorem Group.wakeAll_trapAddr (g : Group) : (g.wakeAll).trapAddr = g.trapAddr := rfl
@[simp] theorem Group.wakeAll_trapInfo (g : Group) : (g.wakeAll).trapInfo = g.trapInfo := rfl
@[simp] theorem Group.wakeAll_trapPc (g : Group) : (g.wakeAll).trapPc = g.trapPc := rfl
@[simp] theorem Group.wakeAll_bank (g : Group) : (g.wakeAll).bank = g.bank := rfl
@[simp] theorem Group.wakeAll_handler (g : Group) : (g.wakeAll).handler = g.handler := rfl
@[simp] theorem Group.wakeAll_waiting (g : Group) : (g.wakeAll).waiting = g.waiting := rfl
@[simp] theorem Group.wakeAll_trapped (g : Group) : (g.wakeAll).trapped = g.trapped := rfl
@[simp] theorem Group.wakeAll_regalloc (g : Group) : (g.wakeAll).regalloc = g.regalloc := rfl
@[simp] theorem Group.wakeAll_ops (g : Group) : (g.wakeAll).ops = g.ops := rfl
@[simp] theorem Group.wakeAll_engineErrs (g : Group) : (g.wakeAll).engineErrs = g.engineErrs := rfl
@[simp] theorem Group.wakeAll_mordErrs (g : Group) : (g.wakeAll).mordErrs = g.mordErrs := rfl
@[simp] theorem Group.wakeAll_hold (g : Group) : (g.wakeAll).hold = g.hold := rfl
@[simp] theorem Group.wakeAll_fence (g : Group) : (g.wakeAll).fence = g.fence := rfl
@[simp] theorem Group.wakeAll_held (g : Group) : (g.wakeAll).held = g.held := rfl
@[simp] theorem Group.wakeAll_estatus (g : Group) : (g.wakeAll).estatus = g.estatus := rfl
@[simp] theorem Group.wakeAll_copies (g : Group) : (g.wakeAll).copies = g.copies := rfl
@[simp] theorem Group.wakeAll_td (g : Group) : (g.wakeAll).td = g.td := rfl
@[simp] theorem Group.wakeAll_pages (g : Group) : (g.wakeAll).pages = g.pages := rfl
@[simp] theorem Group.wakeAll_graceCount (g : Group) : (g.wakeAll).graceCount = g.graceCount := rfl
@[simp] theorem Group.wakeAll_graceDue (g : Group) : (g.wakeAll).graceDue = g.graceDue := rfl
@[simp] theorem Group.wakeAll_executed (g : Group) : (g.wakeAll).executed = g.executed := rfl
@[simp] theorem Group.wakeAll_evicting (g : Group) : (g.wakeAll).evicting = g.evicting := rfl
@[simp] theorem Group.wakeAll_placed (g : Group) : (g.wakeAll).placed = g.placed := rfl
@[simp] theorem Group.wakeAll_waited (g : Group) : (g.wakeAll).waited = g.waited := rfl
@[simp] theorem Group.wakeAll_promoted (g : Group) : (g.wakeAll).promoted = g.promoted := rfl
@[simp] theorem Group.wakeAll_ended (g : Group) : (g.wakeAll).ended = g.ended := rfl

/-! ## Context.setS and Context.advance -/

@[simp] theorem Context.advance_s (c : Context) (n : Nat) (b : Bool) : (c.advance n b).s = c.s := rfl
@[simp] theorem Context.setS_p0 (c : Context) (r : Nat) (v : DWord) : (c.setS r v).p0 = c.p0 := by
  unfold Context.setS; split <;> rfl
@[simp] theorem Context.advance_p0 (c : Context) (n : Nat) (b : Bool) : (c.advance n b).p0 = c.p0 := rfl
@[simp] theorem Context.setS_pc (c : Context) (r : Nat) (v : DWord) : (c.setS r v).pc = c.pc := by
  unfold Context.setS; split <;> rfl
@[simp] theorem Context.setS_contpc (c : Context) (r : Nat) (v : DWord) : (c.setS r v).contpc = c.contpc := by
  unfold Context.setS; split <;> rfl
@[simp] theorem Context.advance_contpc (c : Context) (n : Nat) (b : Bool) : (c.advance n b).contpc = c.contpc := rfl
@[simp] theorem Context.setS_map (c : Context) (r : Nat) (v : DWord) : (c.setS r v).map = c.map := by
  unfold Context.setS; split <;> rfl
@[simp] theorem Context.advance_map (c : Context) (n : Nat) (b : Bool) : (c.advance n b).map = c.map := rfl
@[simp] theorem Context.setS_clause (c : Context) (r : Nat) (v : DWord) : (c.setS r v).clause = c.clause := by
  unfold Context.setS; split <;> rfl
@[simp] theorem Context.advance_clause (c : Context) (n : Nat) (b : Bool) : (c.advance n b).clause = c.clause := rfl
@[simp] theorem Context.setS_idx (c : Context) (r : Nat) (v : DWord) : (c.setS r v).idx = c.idx := by
  unfold Context.setS; split <;> rfl
@[simp] theorem Context.setS_due (c : Context) (r : Nat) (v : DWord) : (c.setS r v).due = c.due := by
  unfold Context.setS; split <;> rfl
@[simp] theorem Context.setS_pred (c : Context) (r : Nat) (v : DWord) : (c.setS r v).pred = c.pred := by
  unfold Context.setS; split <;> rfl
@[simp] theorem Context.advance_pred (c : Context) (n : Nat) (b : Bool) : (c.advance n b).pred = c.pred := rfl
@[simp] theorem Context.setS_setA (c : Context) (r : Nat) (v : DWord) : (c.setS r v).setA = c.setA := by
  unfold Context.setS; split <;> rfl
@[simp] theorem Context.advance_setA (c : Context) (n : Nat) (b : Bool) : (c.advance n b).setA = c.setA := rfl
@[simp] theorem Context.setS_setB (c : Context) (r : Nat) (v : DWord) : (c.setS r v).setB = c.setB := by
  unfold Context.setS; split <;> rfl
@[simp] theorem Context.advance_setB (c : Context) (n : Nat) (b : Bool) : (c.advance n b).setB = c.setB := rfl
@[simp] theorem Context.setS_stop (c : Context) (r : Nat) (v : DWord) : (c.setS r v).stop = c.stop := by
  unfold Context.setS; split <;> rfl
@[simp] theorem Context.setS_stall (c : Context) (r : Nat) (v : DWord) : (c.setS r v).stall = c.stall := by
  unfold Context.setS; split <;> rfl
@[simp] theorem Context.advance_stop (c : Context) (n : Nat) (b : Bool) : (c.advance n b).stop = c.stop := rfl
@[simp] theorem Context.advance_stall (c : Context) (n : Nat) (b : Bool) : (c.advance n b).stall = c.stall := rfl
@[simp] theorem Context.setS_lastIssue (c : Context) (r : Nat) (v : DWord) : (c.setS r v).lastIssue = c.lastIssue := by
  unfold Context.setS; split <;> rfl
@[simp] theorem Context.advance_lastIssue (c : Context) (n : Nat) (b : Bool) : (c.advance n b).lastIssue = c.lastIssue := rfl
@[simp] theorem Context.advance_pc (c : Context) (n : Nat) (b : Bool) :
    (c.advance n b).pc = c.pc + BitVec.ofNat 64 n := rfl
@[simp] theorem Context.advance_idx (c : Context) (n : Nat) (b : Bool) : (c.advance n b).idx = c.idx + 1 := rfl

end Sys2Proof.Machine
end

