-- ==== Sys2Proof/Tests/Slice0.lean ====
section
/-! SUPPORT. Tests: ill-formed terms that the checks refuse, words written out from the encodings, single steps whose
results stand in the manual, and for every statement a state and operands that meet its hypotheses. -/

namespace Sys2Proof.Tests

open Sys2Proof.Machine

/-! ## Small states -/

/-- A group of one context with 32 lanes, about to issue a NOP. -/
def w0 : State := State.reset.withFetchWord 32 0x1F

/-- Write bytes of the code page, by offset. -/
def code (off n x : Nat) (s : State) : State := s.writeN (loadFrame + loadVa + off) n x

/-- The context that issues and its group. -/
def ctx (f : Context → Context) (s : State) : State := s.modCtx f
def grp (f : Group → Group) (s : State) : State := s.modMe f
def team (f : Team → Team) (s : State) : State := s.modTeam s.me.team f
def task (f : Task → Task) (s : State) : State := s.modTask s.me.task f
def reg (r : Nat) (v : DWord) (s : State) : State := s.setS r v

/-- Contexts 0 to n - 1 stand, the issuing one is 0. -/
def contexts (n : Nat) (s : State) : State :=
  grp (fun g => { g with ctxs := (List.range n).map (fun i => (i, g.ctx 0)) }) s

/-- A trap and a handler at work on a context. -/
def aTrap : Trap := ⟨causeTrapi, 3, 0, 0x1000, 0xFFC, 1, false, false⟩
def handling (i : Nat) (s : State) : State :=
  grp (fun g => Group.enterHandler i aTrap 0x1010 g) (task (fun k => { k with l := { k.l with tvec := 0x1010 } }) s)

/-! ## Ill-formed terms: one for each check, which refuses it (02 R21, R36, R40, R41, R401) -/

/-- Operands beyond their fields. -/
theorem test_unfit_refused :
    Instr.wf (.sadd 64 0 (.imm 0)) = false ∧ Instr.wf (.sadd 0 0 (.reg 64)) = false ∧ Instr.wf (.vadd 256 0 (.o 0)) = false ∧
    Instr.wf (.vadd 0 0 (.o 16)) = false ∧ Instr.wf (.vadd 0 0 (.q 4)) = false ∧ Instr.wf (.vadd 0 0 (.s 7)) = false ∧
    Instr.wf (.vadd 0 0 (.const 4)) = false ∧ Instr.wf (.vadd16 64 (.o 0)) = false ∧ Instr.wf (.ldv32 0 256 0 0) = false ∧
    Instr.wf (.ldv32 0 0 8 0) = false ∧ Instr.wf (.ldv32 0 0 0 8) = false ∧ Instr.wf (.lds32 0 256 0 0) = false ∧
    Instr.wf (.mma 64 0 0 0 0) = false ∧ Instr.wf (.mma 0 32 0 0 0) = false ∧ Instr.wf (.mclaim false 32 0) = false ∧
    Instr.wf (.reorder true 32 0 0 0) = false ∧ Instr.wf (.reorder true 0 0 0 8) = false ∧ Instr.wf (.launch 32 0 0 0) = false ∧
    Instr.wf (.trap 256) = false ∧ Instr.wf (.clauseHeader 0 16 0 0 false true) = false ∧
    Instr.wf (.clauseHeader 0 0 0 64 false true) = false ∧ Instr.wf (.sleepEnd ⟨⟨4, 0, 0⟩, 0⟩) = false ∧
    Instr.wf (.sleepEnd ⟨⟨0, 64, 0⟩, 0⟩) = false ∧ Instr.wf (.sleepEnd ⟨⟨0, 0, 50⟩, 0⟩) = false ∧
    Instr.wf (.sleepEnd ⟨⟨0, 0, 0⟩, 4⟩) = false := by decide

/-- Values that the manual calls illegal. -/
theorem test_illegal_refused :
    Instr.wf (.clauseHeader 0 12 15 0 false true) = false ∧ Instr.wf (.clauseHeader 0 15 14 0 false true) = false ∧
    Instr.wf (.clauseHeader 0 15 15 1 false false) = false ∧ Instr.wf (.clauseHeader 0 15 15 0 true false) = false ∧
    Instr.wf (.srsr 1 7) = false ∧ Instr.wf (.swsr 0x32 1) = false ∧ Instr.wf (.vadd64 1 0 (.o 0)) = false ∧
    Instr.wf (.vadd64 0 1 (.o 0)) = false ∧ Instr.wf (.vsub64 0 0 (.o 1)) = false ∧ Instr.wf (.vsub64 0 0 (.q 1)) = false ∧
    Instr.wf (.vclt 0 .setTo 1 (.o 0)) = false ∧ Instr.wf (.vcvt 1 2 25) = false ∧ Instr.wf (.vsr 1 5) = false ∧
    Instr.wf (.pand 0 1 2) = false ∧ Instr.wf (.pset 1 (.o 0)) = false ∧ Instr.wf (.ldv64 1 0 0 0) = false ∧
    Instr.wf (.stv128 2 0 0 0) = false ∧ Instr.wf (.fence 0) = false ∧ Instr.wf (.acas 255 0 0 0) = false ∧
    Instr.wf (.aadd64 3 0 0 0) = false ∧ Instr.wf (.acas64 254 0 0 0) = false ∧ Instr.wf (.mma 0 0 0 3 0) = false ∧
    Instr.wf (.mreq 0 1 2) = false ∧ Instr.wf (.pset 1 (.s 8)) = true ∧ Instr.wf (.vsub64 0 0 (.q 2)) = true := by decide

/-! ## Words: every encoding of the tables, one word each, with the fields at values of their own (02 R20, R32-R38) -/

def word (w : Nat) : Decoded := decodeWords (w % 65536) (w / 65536)

theorem test_words_header :
    word 0xD0505841 = .ok (.clauseHeader 1412 0 5 16 true true) := by
  decide

theorem test_words_short :
    word 0x4500 = .ok (.vadd16 40 (.o 8)) ∧
    word 0xB1A2 = .ok (.vsub16 13 (.s 10)) ∧
    word 0x42C4 = .ok (.vand16 22 (.o 8)) ∧
    word 0x9CA6 = .ok (.vor16 37 (.q 3)) ∧
    word 0xE708 = .ok (.vxor16 56 (.const 0)) ∧
    word 0x992A = .ok (.vshl16 9 (.q 3)) ∧
    word 0x95AC = .ok (.vshr16 45 (.q 2)) ∧
    word 0x0EAE = .ok (.vmin16 53 (.o 1)) ∧
    word 0xA1F0 = .ok (.fadd16 15 (.s 8)) ∧
    word 0x54B2 = .ok (.fsub16 37 (.o 10)) ∧
    word 0x7F94 = .ok (.fmul16 60 (.o 15)) ∧
    word 0xD2B6 = .ok (.ffmaq 21 (.s 14)) ∧
    word 0x79B8 = .ok (.fmax16 13 (.o 15)) ∧
    word 0xE87A = .ok (.fmin16 3 (.const 1)) ∧
    word 0x043C = .ok (.vmov16 33 (.o 0)) ∧
    word 0xFC7E = .ok (.vmadq 35 (.const 3)) := by
  decide

theorem test_words_scalar_1 :
    word 0x06ABE403 = .ok (.sadd 57 43 (.reg 13)) ∧
    word 0x01CE0C13 = .ok (.ssub 3 14 (.imm 3)) ∧
    word 0x0733C823 = .ok (.smul 50 51 (.reg 14)) ∧
    word 0xBCC83033 = .ok (.smulh 12 8 (.imm 377)) ∧
    word 0xA9772843 = .ok (.smulhn 10 55 (.imm 338)) ∧
    word 0x31ED9C53 = .ok (.sdiv 39 45 (.imm 99)) ∧
    word 0xBCD58463 = .ok (.sdivn 33 21 (.imm 377)) ∧
    word 0x0FDDC873 = .ok (.srem 50 29 (.imm 31)) ∧
    word 0x112F5883 = .ok (.sremn 22 47 (.reg 34)) ∧
    word 0x07782C93 = .ok (.sand 11 56 (.imm 14)) ∧
    word 0x17A42CA3 = .ok (.sor 11 36 (.reg 47)) ∧
    word 0xC8DE4CB3 = .ok (.sxor 19 30 (.imm 401)) ∧
    word 0xBFD37CC3 = .ok (.sandn 31 19 (.imm 383)) ∧
    word 0x036FA8D3 = .ok (.sshl 42 47 (.imm 6)) ∧
    word 0xF95EC4E3 = .ok (.sshr 49 30 (.imm 498)) ∧
    word 0x674BC0F3 = .ok (.ssar 48 11 (.imm 206)) ∧
    word 0x14238D03 = .ok (.smin 35 35 (.reg 40)) ∧
    word 0xA5521913 = .ok (.smax 6 18 (.imm 330)) ∧
    word 0x00845123 = .ok (.sminn 20 4 (.reg 1)) ∧
    word 0x6C642933 = .ok (.smaxn 10 36 (.imm 216)) ∧
    word 0xEE609143 = .ok (.sseq 36 32 (.imm 476)) ∧
    word 0x6CE27553 = .ok (.ssne 29 34 (.imm 217)) ∧
    word 0x4DD6C963 = .ok (.sslt 50 22 (.imm 155)) ∧
    word 0x576A7D73 = .ok (.ssle 31 42 (.imm 174)) ∧
    word 0x0E888183 = .ok (.ssltn 32 8 (.reg 29)) ∧
    word 0xDADDC593 = .ok (.sslen 49 29 (.imm 437)) ∧
    word 0x0002C1A3 = .ok (.sclz 48 2) ∧
    word 0x001435B3 = .ok (.spopc 13 20) ∧
    word 0xA85BC5C3 = .ok (.ssext 49 27 (.imm 336)) ∧
    word 0x355C65D3 = .ok (.szext 25 28 (.imm 106)) := by
  decide

theorem test_words_scalar_2 :
    word 0x18DD6DE3 = .ok (.sli 27 6365) ∧
    word 0x2B040DF3 = .ok (.slk1 3 11012) ∧
    word 0xF7759603 = .ok (.slk2 37 63349) ∧
    word 0xDFFF8E13 = .ok (.slk3 35 57343) ∧
    word 0x09C0C623 = .ok (.srsr 49 19) ∧
    word 0x09FE0233 = .ok (.swsr 19 62) ∧
    word 0x011C3643 = .ok (.sadr 13 28 (.reg 2)) := by
  decide

theorem test_words_branch :
    word 0x93510005 = .ok (.bra 37713) ∧
    word 0x26BD5C15 = .ok (.bz 23 9917) ∧
    word 0x91CBCC25 = .ok (.bnz 51 37323) ∧
    word 0xD9B65435 = .ok (.bneg 21 55734) ∧
    word 0xE636DC45 = .ok (.bnneg 55 58934) ∧
    word 0x59600455 = .ok (.ball 1 22880) ∧
    word 0x9D089C65 = .ok (.bany 39 40200) ∧
    word 0x1F192075 = .ok (.bnone 8 7961) ∧
    word 0xD4FD4085 = .ok (.loop 16 54525) ∧
    word 0xDDFB0095 = .ok (.call 56827) ∧
    word 0x000058A5 = .ok (.callr 22) ∧
    word 0x00004CB5 = .ok (.jmpr 19) ∧
    word 0x000000C5 = .ok .ret ∧
    word 0xD87E8CD5 = .ok (.split 35 55422) ∧
    word 0x009700E5 = .ok (.merge 151) ∧
    word 0x6E04F4F5 = .ok (.cont 61 28164) ∧
    word 0x00000105 = .ok .yield ∧
    word 0x00000115 = .ok .exit ∧
    word 0x006C0125 = .ok (.trap 108) ∧
    word 0x00000135 = .ok .rett ∧
    word 0x0000D945 = .ok (.sleep 54) := by
  decide

theorem test_words_vector_1 :
    word 0x6EC7A007 = .ok (.vadd 244 216 (.o 13)) ∧
    word 0x0950E017 = .ok (.vsub 28 42 (.o 1)) ∧
    word 0xAC08B027 = .ok (.vmullo 22 129 (.s 9)) ∧
    word 0xA9662837 = .ok (.vmulhi 197 44 (.s 9)) ∧
    word 0x7E72A047 = .ok (.vmulhin 84 206 (.o 15)) ∧
    word 0xC678A857 = .ok (.vmad 21 207 (.s 12)) ∧
    word 0x592A9067 = .ok (.vand 82 37 (.o 11)) ∧
    word 0xA45AC877 = .ok (.vor 89 139 (.s 8)) ∧
    word 0xB5BC8887 = .ok (.vxor 145 183 (.s 10)) ∧
    word 0xF8AB6097 = .ok (.vandn 108 21 (.const 3)) ∧
    word 0xC12C60A7 = .ok (.vshl 140 37 (.s 12)) ∧
    word 0xEBF2A8B7 = .ok (.vshr 85 126 (.const 1)) ∧
    word 0xB8BEE8C7 = .ok (.vsar 221 23 (.s 11)) ∧
    word 0xE28F30D7 = .ok (.vmin 230 81 (.const 0)) ∧
    word 0x9732B8E7 = .ok (.vmax 87 230 (.q 2)) ∧
    word 0xB5C2F0F7 = .ok (.vminn 94 184 (.s 10)) ∧
    word 0x29916907 = .ok (.vmaxn 45 50 (.o 5)) ∧
    word 0x078CB917 = .ok (.vabs 151 241) ∧
    word 0x003C5927 = .ok (.vclz 139 7) ∧
    word 0x04584937 = .ok (.vpopc 9 139) ∧
    word 0x8576C147 = .ok (.vadd64 216 174 (.q 0)) ∧
    word 0x8051A157 = .ok (.vsub64 52 10 (.q 0)) ∧
    word 0x1DD89967 = .ok (.vaddsat 19 187 (.o 3)) ∧
    word 0xBFCDA177 = .ok (.vdp4 180 249 (.s 11)) ∧
    word 0x1CAF3187 = .ok (.vdp4n 230 149 (.o 3)) ∧
    word 0xE33FB207 = .ok (.vceq 54 .andnInto 103 (.const 0)) ∧
    word 0x8068A217 = .ok (.vcne 20 .setTo 13 (.q 0)) ∧
    word 0x63FD6A27 = .ok (.vclt 45 .orInto 127 (.o 12)) ∧
    word 0x66576A37 = .ok (.vcle 45 .andnInto 202 (.o 12)) ∧
    word 0x65D01A47 = .ok (.vcltn 3 .setTo 186 (.o 12)) := by
  decide

theorem test_words_vector_2 :
    word 0x3ED89257 = .ok (.vclen 18 .setTo 219 (.o 7)) ∧
    word 0xD3C27267 = .ok (.fceq 14 .andInto 120 (.s 14)) ∧
    word 0x04F10A77 = .ok (.fcne 33 .setTo 158 (.o 0)) ∧
    word 0xB8CBB287 = .ok (.fclt 54 .andInto 25 (.s 11)) ∧
    word 0xCBA1DA97 = .ok (.fcle 59 .setTo 116 (.s 13)) ∧
    word 0x1FE8D2A7 = .ok (.fcun 26 .setTo 253 (.o 3)) ∧
    word 0x8DF6D307 = .ok (.fadd 218 190 (.q 1)) ∧
    word 0x01F42317 = .ok (.fsub 132 62 (.o 0)) ∧
    word 0xD6C74327 = .ok (.fmul 232 216 (.s 14)) ∧
    word 0xD5E48337 = .ok (.ffma 144 188 (.s 14)) ∧
    word 0x486DDB47 = .ok (.ffms 187 13 (.o 9)) ∧
    word 0x97E94B57 = .ok (.fnma 41 253 (.q 2)) ∧
    word 0xA05D1367 = .ok (.fmin 162 11 (.s 8)) ∧
    word 0xD31B3B77 = .ok (.fmax 103 99 (.s 14)) ∧
    word 0x00906387 = .ok (.fabs 12 18) ∧
    word 0x04268B97 = .ok (.fneg 209 132) ∧
    word 0x555093A7 = .ok (.fdiv 18 170 (.o 10)) ∧
    word 0x03B033B7 = .ok (.fsqrt 6 118) ∧
    word 0x070953C7 = .ok (.frcp 42 225) ∧
    word 0x02160BD7 = .ok (.frsq 193 66) ∧
    word 0x03ED43E7 = .ok (.fexp2c 168 125) ∧
    word 0x070DC3F7 = .ok (.frint 184 225) ∧
    word 0x4945F407 = .ok (.fscale 190 40 (.o 9)) ∧
    word 0x3E982C87 = .ok (.hadd2 5 211 (.o 7)) ∧
    word 0x30572C97 = .ok (.hmul2 229 10 (.o 6)) ∧
    word 0xE52CECA7 = .ok (.hfma2 157 165 (.const 0)) ∧
    word 0x604A3CB7 = .ok (.badd2 71 9 (.o 12)) ∧
    word 0xDE9D44C7 = .ok (.bmul2 168 211 (.s 15)) ∧
    word 0xBE0C3CD7 = .ok (.bfma2 135 193 (.s 11)) ∧
    word 0x68185D07 = .ok (.vcvt 11 3 13) := by
  decide

theorem test_words_vector_3 :
    word 0xA751AD17 = .ok (.vpke4 53 234 (.s 8)) ∧
    word 0xA5343527 = .ok (.vpke5 134 166 (.s 8)) ∧
    word 0xCBCB4E07 = .ok (.vshfl 105 121 (.s 13)) ∧
    word 0x24EEB617 = .ok (.vshflx 214 157 (.o 4)) ∧
    word 0x45FB5E27 = .ok (.vshflu 107 191 (.o 8)) ∧
    word 0x3E86A637 = .ok (.vshfld 212 208 (.o 7)) ∧
    word 0x07844647 = .ok (.vpfxadd 136 240) ∧
    word 0x0268FE57 = .ok (.vpfxmax 31 77) ∧
    word 0x06BCA667 = .ok (.vredadd 148 215) ∧
    word 0x0659E677 = .ok (.vredfadd 60 203) ∧
    word 0x04714687 = .ok (.vredmax 40 142) ∧
    word 0x00AC3697 = .ok (.vballot 134 21) ∧
    word 0xF805C6A7 = .ok (.vget 184 0 (.const 3)) ∧
    word 0xD6BCBEB7 = .ok (.vsetl 151 215 (.s 14)) ∧
    word 0x00001EC7 = .ok (.vlid 3) ∧
    word 0x001816D7 = .ok (.vsr 2 3) ∧
    word 0x0157C6E7 = .ok (.vmov 248 42) ∧
    word 0x02805EF7 = .ok (.vmovo 11 80) ∧
    word 0x00000707 = .ok .vlexit ∧
    word 0xA9694F87 = .ok (.pand 41 45 21) ∧
    word 0xF9A16797 = .ok (.por 44 52 31) ∧
    word 0xE15117A7 = .ok (.pxor 34 42 28) ∧
    word 0xF128C7B7 = .ok (.pandn 24 37 30) ∧
    word 0x01E997C7 = .ok (.pnot 50 61) ∧
    word 0xB801A7D7 = .ok (.pset 52 (.s 11)) ∧
    word 0x01FE97E7 = .ok (.ppopc 210 63) ∧
    word 0x01415FF7 = .ok (.pfirst 43 40) := by
  decide

theorem test_words_memory_1 :
    word 0x8EE8A409 = .ok (.ldv8n 41 186 3 4) ∧
    word 0x46486819 = .ok (.ldv8i 26 146 1 2) ∧
    word 0x602DA429 = .ok (.ldv16n 105 11 0 3) ∧
    word 0x8E0D1039 = .ok (.ldv16i 68 131 3 4) ∧
    word 0x3C525049 = .ok (.ldv32 148 20 7 1) ∧
    word 0xA26C2059 = .ok (.ldv64 8 155 0 5) ∧
    word 0xC6CC2069 = .ok (.ldv128 8 179 1 6) ∧
    word 0xC2EB2079 = .ok (.stv8 200 186 0 6) ∧
    word 0x3F28B089 = .ok (.stv16 44 202 7 1) ∧
    word 0xAB038899 = .ok (.stv32 226 192 2 5) ∧
    word 0x9CDD60A9 = .ok (.stv64 88 55 7 4) ∧
    word 0x6236E0B9 = .ok (.stv128 184 141 0 3) ∧
    word 0xCB70BCC9 = .ok (.lds32 47 220 2 6) ∧
    word 0x0404A4D9 = .ok (.lds64 41 1 1 0) ∧
    word 0xC65C44E9 = .ok (.sts32 17 151 1 6) ∧
    word 0x97F050F9 = .ok (.sts64 20 252 5 4) ∧
    word 0x19892909 = .ok (.ldc 74 98 6) ∧
    word 0x19800119 = .ok (.zline 96 6) ∧
    word 0x00000129 = .ok .stdrain ∧
    word 0xA0000139 = .ok (.fence 5) ∧
    word 0x196C0149 = .ok (.pref 91 6) ∧
    word 0xBB4CD969 = .ok (.barinit 54 211 6 5) ∧
    word 0x58187179 = .ok (.barar 28 6 6 2) ∧
    word 0x7850E589 = .ok (.barwait 57 20 6 3) ∧
    word 0x6B58E599 = .ok (.barsync 57 214 2 3) ∧
    word 0xE3AC1DA9 = .ok (.bardrop 7 235 0 7) ∧
    word 0x6AB44209 = .ok (.aadd 16 173 2 3) ∧
    word 0x74E90219 = .ok (.aand 64 58 5 3) ∧
    word 0x75AE0E29 = .ok (.aor 131 107 5 3) ∧
    word 0xDB7D1639 = .ok (.axor 69 223 6 6) := by
  decide

theorem test_words_memory_2 :
    word 0x2FC2C649 = .ok (.amin 177 240 3 1) ∧
    word 0xE6EED259 = .ok (.amax 180 187 1 7) ∧
    word 0xD073E669 = .ok (.aminn 249 28 4 6) ∧
    word 0x1EBFBA79 = .ok (.amaxn 238 175 7 0) ∧
    word 0x433EF689 = .ok (.axchg 189 207 0 2) ∧
    word 0x06654299 = .ok (.acas 80 153 1 0) ∧
    word 0xBFA56EA9 = .ok (.afadd 91 233 7 5) ∧
    word 0xF56D0EB9 = .ok (.abinc 67 91 5 7) ∧
    word 0x0128D6C9 = .ok (.awinc 53 74 0 0) ∧
    word 0x934C7AD9 = .ok (.adecp 30 211 4 4) ∧
    word 0x374AAAE9 = .ok (.aaddl 170 210 5 1) ∧
    word 0x3F8D1309 = .ok (.aadd64 68 227 7 1) ∧
    word 0x35846319 = .ok (.axchg64 24 97 5 1) ∧
    word 0xB1A45329 = .ok (.acas64 20 105 4 5) ∧
    word 0x035F9339 = .ok (.amin64n 228 215 0 0) := by
  decide

theorem test_words_matrix :
    word 0xFE78F80B = .ok (.mma 7 30 17 2 63) ∧
    word 0xFA98801B = .ok (.mmaz 9 0 17 2 62) ∧
    word 0x020C502B = .ok (.mclaim true 20 24) ∧
    word 0x020C283B = .ok (.mrel true 10 24) ∧
    word 0x88E01C4B = .ok (.mldo 7 14 34) ∧
    word 0x2B810C5B = .ok (.msta 3 56 10 2) ∧
    word 0x0003086B = .ok (.mzacc 2 6) ∧
    word 0x0000007B = .ok .mbatonTake ∧
    word 0x0000047B = .ok .mbatonPass ∧
    word 0x3C00087B = .ok (.mbatonQuery 15) ∧
    word 0xA485948B = .ok (.qmv 8 41 11 1 1) ∧
    word 0x7002309B = .ok (.qmva 0 28 4 0 3) ∧
    word 0x373728AB = .ok (.qmvb 51 13 14 2 2) ∧
    word 0x02B04CBB = .ok (.tdset 19 43) ∧
    word 0x00307CCB = .ok (.tdget 31 3) ∧
    word 0x60E56CDB = .ok (.attn 27 10 14 24) ∧
    word 0x19B004EB = .ok (.attnf 1 27 6) ∧
    word 0x00003CFB = .ok (.attnz 15) ∧
    word 0x0C00010B = .ok (.mstat 3) := by
  decide

theorem test_words_agents :
    word 0x5623CC0D = .ok (.cpy 19 7 34 21) ∧
    word 0x66A0001D = .ok (.cpywp 42 25) ∧
    word 0xB8B1942D = .ok (.blkcpy 5 3 11 46) ∧
    word 0xC7303C3D = .ok (.gatherf 15 51 49) ∧
    word 0x7AC0604D = .ok (.scatterf 24 44 30) ∧
    word 0xE22D9C5D = .ok (.launch 7 27 34 56) ∧
    word 0x03B0006D = .ok (.lwait 59) ∧
    word 0xF794D07D = .ok (.spawn 20 9 57 61) ∧
    word 0x000D808D = .ok (.join 27) ∧
    word 0x12DF389D = .ok (.reorder true 30 4 45 6) ∧
    word 0xF7772CAD = .ok (.mreg 11 14 55 61) ∧
    word 0x1B9024BD = .ok (.mreq 9 57 6) ∧
    word 0x001000CD = .ok (.mreply 1) ∧
    word 0x000000DD = .ok .mdone ∧
    word 0x501EC8ED = .ok (.bgrant 18 29 1 20) ∧
    word 0xCEA000FD = .ok (.chsend 42 51) ∧
    word 0x73B0010D = .ok (.chrecv 59 28) ∧
    word 0xB923811D = .ok (.exproute 7 18 46) ∧
    word 0xE0094D2D = .ok (.cfill 19 18 56) := by
  decide

theorem test_words_system :
    word 0x2C2E9C0F = .escape 723879 ∧
    word 0x0000001F = .ok .nop ∧
    word 0x0000002F = .ok .brkpt ∧
    word 0x12B0003F = .ok (.hread 43 4) ∧
    word 0x28B0004F = .ok (.hwrite 11 10) ∧
    word 0x7400005F = .ok (.hpatch 29) ∧
    word 0x0000006F = .ok .hend ∧
    word 0x1000007F = .ok (.hkill 4) ∧
    word 0x0000008F = .ok .hkillt ∧
    word 0x0120789F = .ok (.grow 30 18) ∧
    word 0x000074AF = .ok (.shrink 29) ∧
    word 0x000584BF = .ok (.evsel 1 11) ∧
    word 0x02B000CF = .ok (.evrd 0 43) := by
  decide

/-! ## Statements about the whole machine: their hypotheses can be met -/

theorem test_step_hypotheses :
    let h (w : Nat) : State := ctx (fun c => { c with due := true }) (State.reset.withFetchWord 32 w)
    let c : CtxId := ⟨⟨0, 0, 0⟩, 0⟩
    let half (s : State) (a : DWord) (x : Nat) : Prop := s.fetchHalf c.g a = .half x
    w0.agenda = [.issue c] ∧ ({ w0 with agenda := [] } : State).mayIssue c = true ∧ w0.ctx.due = false ∧
      ({ w0 with agenda := [] } : State).issuedNow c.g = false ∧ (w0.pick c.g).issuedNow c.g = true ∧
      w0.waits .nop = false ∧ w0.me.spent = false ∧ w0.umberNext = none ∧
      (grp (fun g => { g with kind := .laneWave [] [], executed := 4096 }) w0).me.spent = true ∧
      (grp (Group.raiseFlag (some 2)) (h 0xD0505841)).waits (.clauseHeader 1412 0 5 16 true true) = true ∧
      half (h 0xD0505841) (h 0).ctx.pc 0x5841 ∧ half (h 0xD0505841) ((h 0).ctx.pc + 2) 0xD050 ∧
      half w0 w0.ctx.pc 0x1F ∧ half w0 (w0.ctx.pc + 2) 0 ∧ isLong 0x1F = true ∧ decodeWords 0x1F 0 = .ok .nop ∧
      isLong 0x1090 = false ∧ decodeWords 0x1090 0 = .ok (.fadd16 4 (.o 2)) ∧ decodeWords 0x100F 0 = .escape 4 ∧
      decodeWords 0x0253 0xFFFF = .illegal 1 ∧ 0x0253 / 2 % 8 ≠ 2 ∧
      (w0.me.kind = .group ∧ w0.me.handler = none ∧ (h 0x1F).ctx.due = true ∧ isHeader 0x1F = false ∧
        (h 0x11).ctx.due = true ∧ isHeader 0x11 = true) ∧
      (let f := ctx (fun c => { c with pc := 0x40000000 }) w0
       f.fetchHalf c.g f.ctx.pc = .lease ∧ ({ f with agenda := [] } : State).mayIssue c = true) ∧
      ({ w0 with agenda := [.event (.sleepEnd c)] } : State).agenda = [.event (.sleepEnd c)] ∧ State.reset.agenda = [] := by decide

theorem test_round_trip_hypotheses :
    Instr.size (.fadd16 4 (.o 2)) ≠ 0 ∧ Instr.fits (.fadd16 4 (.o 2)) = true ∧ Instr.size (.vcvt 1 2 31) ≠ 0 ∧
      Instr.fits (.vcvt 1 2 31) = true := by decide

theorem test_canonical_memory : MemInv State.reset ∧ MemInv w0 ∧ w0.mem ≠ [] := by
  unfold MemInv; decide

/-- The code page is on its way to another frame. -/
def moved (s : State) : State := s.mapEntries (fun _ e => e ||| 64) (s.leafEntries (s.task s.me.task).asid loadVa)

theorem test_header_hypotheses :
    let s := Tests.code 4 4 0x11 w0
    let save (f : Group → Group) : State := grp f w0
    w0.plain = true ∧ w0.me.handler = none ∧ w0.storeFault w0.cur.g = none ∧ w0.me.engineErrs = [] ∧ w0.me.mordErrs = [] ∧
      s.fetchHalf s.cur.g (s.ctx.pc + 4) = .half 0x11 ∧ isHeader 0x11 = true ∧ w0.fetchHalf w0.cur.g (w0.ctx.pc + 4) = .half 0 ∧ isHeader 0 = false ∧
      (save (fun g => { g with graceDue := true })).me.graceDue = true ∧
      (save (fun g => { g with evicting := true })).me.evicting = true ∧
      (save (fun g => { g with engineErrs := [aTrap] })).me.engineErrs = [aTrap] ∧
      ((save (fun g => { g with mordErrs := [aTrap] })).me.engineErrs = [] ∧
        (save (fun g => { g with mordErrs := [aTrap] })).me.mordErrs = [aTrap]) ∧
      (handling 0 w0).me.handler ≠ none ∧
      (let e := save (fun g => (g.modFlag 2 (fun y => { y with err := some aTrap })).modFlag 5 (fun y => { y with err := some aTrap }))
       (e.me.flag 2).err = some aTrap ∧ (e.me.flag 2).count = 0 ∧ (e.me.flag 5).count = 0 ∧ (24 : BitVec 12).getLsbD 2 = false ∧
         (0x24 : BitVec 12).getLsbD 2 = true ∧ (0x24 : BitVec 12).getLsbD 5 = true) ∧
      ((w0.modCore w0.cur.g.coreRef (fun c => { c with faults := [⟨w0.cur.g, 0, 0, 0, 1, 0, 0⟩] })).storeFault w0.cur.g).isSome = true ∧
      ((save (Group.raiseFlag (some 3))).me.flag 3).count ≠ 0 ∧
      ((handling 1 (contexts 2 w0)).me.handler.map Handler.ctx = some 1 ∧ (handling 1 (contexts 2 w0)).cur.i = 0 ∧
        (grp (fun g => { g with engineErrs := [aTrap] }) (handling 1 (contexts 2 w0))).me.engineErrs = [aTrap]) ∧
      (moved w0).fetchHalf w0.cur.g (w0.ctx.pc + 4) = .moving 0 := by decide

/-! ## Statements about scalar instructions and control flow: their hypotheses can be met -/

theorem test_scalar_hypotheses :
    w0.plain = true ∧ (w0.src (.reg 3) = 0) ∧ (reg 3 0x8000000000000000 w0).sreg 3 = 0x8000000000000000 ∧
      (reg 4 0xFFFFFFFFFFFFFFFF w0).src (.reg 4) = 0xFFFFFFFFFFFFFFFF ∧ (grp (fun g => { g with kind := .laneWave [] [] }) w0).me.kind ≠ .group ∧ w0.src (.imm 63) = 63 ∧ w0.src (.imm 64) = 64 ∧
      (∀ o ∈ w0.me.ops, o.isQmv = false) ∧ sysregAssigned 0x07 = false ∧ sysregAssigned 0x40 = true := by decide

/-- A header 16 bytes on. -/
def w1 : State := code 16 4 0x11 w0

theorem test_branch_hypotheses :
    w1.plain = true ∧ w1.goodTarget (w1.ctx.pc + ((8 : BitVec 16).signExtend 64 <<< 1)) = true ∧ w1.sreg 5 = 0 ∧
      (reg 5 0x8000000000000000 w1).sreg 5 ≠ 0 ∧ (reg 5 0x8000000000000000 w1).sreg 5 ≠ 1 ∧
      ((reg 5 0x8000000000000000 w1).sreg 5).msb = true ∧ ((reg 5 1 w1).sreg 5 = 1) ∧
      w1.me.pred w1.ctx 0 &&& w1.laneSet = w1.laneSet ∧ w1.me.pred w1.ctx 0 &&& w1.laneSet ≠ 0 ∧
      w1.me.pred w1.ctx 1 &&& w1.laneSet = 0 := by decide

theorem test_bad_target_hypotheses :
    w1.fetchFirst w1.cur.g (w1.ctx.pc + ((10 : BitVec 16).signExtend 64 <<< 1)) = .half 0 ∧ isHeader 0 = false ∧
      (reg 63 0x1014 (reg 5 0x1014 w1)).fetchFirst w1.cur.g 0x1014 = .half 0 ∧
      (reg 63 0x1014 w1).sreg 63 = 0x1014 ∧ (reg 5 0x1014 w1).sreg 5 = 0x1014 := by decide

theorem test_call_hypotheses :
    (reg 5 0x1010 w1).goodTarget ((reg 5 0x1010 w1).sreg 5) = true ∧ ((reg 5 0x1011 w1).sreg 5).getLsbD 0 = true ∧
      (reg 63 0x1010 w1).goodTarget ((reg 63 0x1010 w1).sreg 63) = true := by decide

/-- The team has a block in the save pool. -/
def withBlock (s : State) : State :=
  { s with io := { s.io with sapbase := 0x400000, blocks := s.io.blocks.ins (teamBlock s.me.team) (0, 64) } }

/-- p1 holds the lanes of a mask. -/
def withP1 (m : Word) (s : State) : State := grp (fun g => { g with p := g.p.put 0 1 m }) s

theorem test_split_hypotheses :
    let t (s : State) := s.me.pred s.ctx 1 &&& s.laneSet
    let f (s : State) := s.laneSet &&& ~~~(t s)
    let small := withP1 0x1 w1
    let large := withP1 0xFFFFFFFE w1
    let tie := withP1 0xFFFF w1
    t w1 = 0 ∧ (t (withP1 0xFFFFFFFF w1) ≠ 0 ∧ f (withP1 0xFFFFFFFF w1) = 0) ∧
      (small.goodTarget 0x1010 = true ∧ t small ≠ 0 ∧ f small ≠ 0 ∧ small.me.ctxs.look 1 = none ∧
        small.me.ctxs.look 0 ≠ none ∧ countMask (t small) ≤ countMask (f small)) ∧
      countMask (f large) < countMask (t large) ∧ countMask (t tie) ≤ countMask (f tie) ∧
      ((∀ j, j < 4 → (contexts 4 small).me.ctxs.look j ≠ none) ∧ (contexts 4 small).plain = true ∧
        sat64 ((contexts 4 small).team small.me.team).ct = ((contexts 4 small).team small.me.team).ct ∧
        (contexts 4 small).ownBlock small.cur.g = none ∧
        ((withBlock (contexts 4 small)).ownBlock small.cur.g).isSome = true) := by decide

theorem test_merge_exit_hypotheses :
    (w0.me.ctxs = [(w0.cur.i, w0.ctx)] ∧ w0.ctx.p0 ≠ 0 ∧ w0.me.records = [] ∧ w0.me.waiting = []) ∧
      ((contexts 2 w0).plain = true ∧ (contexts 2 w0).me.records = [] ∧ 1 ≠ (contexts 2 w0).cur.i ∧
        ∃ c, (contexts 2 w0).me.ctxs.look 1 = some c ∧ c.p0 ≠ 0 ∧ c.stop = .running) ∧
      (w0.me.kind = .group ∧ w0.me.ops = [] ∧ w0.storeFault w0.cur.g = none ∧ w0.me.engineErrs = [] ∧
        w0.me.flags = []) ∧
      (grp (fun g => { g with kind := .laneWave [] [] }) w0).plain = true := by
  refine ⟨by decide, ⟨by decide, by decide, by decide, ⟨_, rfl, by decide⟩⟩,
    by decide, by decide⟩

/-- Two contexts wait at MERGEs, or one runs beside a record parked at MERGE 3, or a dormant one of its own. -/
theorem test_merge_reunion_hypotheses :
    let beside (q : Nat) := grp (Group.modCtx 1 (fun c => { c with stop := .merge q, p0 := 0xF0 }))
      (ctx (fun c => { c with p0 := 0xF }) (contexts 2 w0))
    let record (t : Option Nat) : Record := ⟨[], 0x1010, 0, 0, 0xF00, t, 0⟩
    let kept (t : Option Nat) := grp (fun g => { g with records := [record t] }) w0
    let waits (q : Nat) : Prop := (beside q).plain = true ∧ (beside q).me.ctxs.keys.Pairwise (· < ·) ∧ (beside q).ctx.p0 ≠ 0 ∧
      ((beside q).fetchRecords (beside q).cur.g).me.records = [] ∧ (beside q).myTeam.yieldPending = false ∧
      (beside q).me.ctxs.map (fun e => (e.1, e.2.p0, e.2.stop)) = [(0, 0xF, .running), (1, 0xF0, .merge q)]
    waits 3 ∧ waits 5 ∧
      (∀ t ∈ [none, some 3], ((kept t).fetchRecords (kept t).cur.g).me.records = [record t]) ∧ (record none).mask ≠ 0 ∧
      ([record none].filter (fun r => decide (r.token = none) && decide (r.owner = (kept none).cur.i))).getLast? = some (record none) ∧
      ((kept (some 3)).me.ctxs = [((kept (some 3)).cur.i, (kept (some 3)).ctx)] ∧ (kept (some 3)).plain = true ∧
        (kept (some 3)).me.ctxs.keys.Pairwise (· < ·) ∧ (record (some 3)).token = some 3) := by
  refine ⟨by decide, by decide, by decide, by decide, by decide, by decide⟩

/-- An operation of the context. -/
def anOp (k : OpKind) (f : Option Nat) (s : State) : Op := ⟨7, s.cur.i, f, 0, s.ctx.pc, s.ctx.clause, s.ctx.idx, k, [], false⟩
def withOp (k : OpKind) (f : Option Nat) (s : State) : State :=
  grp (fun g => { (g.raiseFlag f) with ops := [anOp k f s] }) s

theorem test_exit_waits_hypotheses :
    (withOp (.pref none none) none w0).plain = true := by decide

theorem test_ops_outstanding :
    (withOp (.pref none none) none w0).plain = true ∧
      ∃ o ∈ (withOp (.pref none none) none w0).me.ops, ¬(o.gate = true ∧ o.ctx = (withOp (.pref none none) none w0).cur.i) :=
  ⟨by decide, _, .head _, by decide⟩

theorem test_yield_hypotheses :
    let p := team (fun m => { m with yieldPending := true }) w1
    (p.plain = true ∧ p.me.kind = .group ∧ p.myTeam.yieldPending = true ∧ p.goodTarget 0x1010 = true ∧ p.me.ops = [] ∧
      p.storeFault p.cur.g = none ∧ p.me.engineErrs = [] ∧ p.me.flags = [] ∧ p.ctx.contpc = 0 ∧
      (p.core p.cur.g.coreRef).baton = none ∧ (p.core p.cur.g.coreRef).batonReq = [] ∧ p.me.ctxs = [(p.cur.i, p.ctx)] ∧
      (let o := p.modCore p.cur.g.coreRef (fun c => { c with baton := some p.cur.g, batonReq := [⟨0, 0, 3⟩] })
       (o.core o.cur.g.coreRef).baton = some o.cur.g ∧ ∀ h ∈ (o.core o.cur.g.coreRef).batonReq, h.coreRef = o.cur.g.coreRef)) ∧
      (ctx (fun c => { c with contpc := 0x1010 }) p).ctx.contpc ≠ 0 ∧ ¬(w1.myTeam.yieldPending = true) ∧
      (reg 5 7 w0).sreg 5 ≠ 0 ∧ w0.sreg 5 = 0 ∧ (grp (fun g => { g with evicting := true }) w0).me.evicting = true ∧ (w0.team w0.me.team).yieldPending = false ∧ w0.me.evicting = false ∧
      p.ownBlock p.cur.g = none ∧ ((withBlock p).ownBlock p.cur.g).isSome = true := by decide

theorem test_sleep_end_hypotheses :
    let z (w : Nat) := ctx (fun c => { c with stop := .sleep w }) w0
    (z 0).hasCtx (z 0).cur = true ∧ ((z 0).grp (z 0).cur.g).ctx 0 = (z 0).ctx ∧ (z 0).ctx.stop = .sleep 0 ∧
      0 ≤ (z 0).tick ∧ (z 1).ctx.stop = .sleep 1 ∧ (z 1).tick < 1 := by decide

theorem test_trap_entry_hypotheses :
    let t := task (fun k => { k with l := { k.l with tvec := 0x1010 } }) w0
    t.hasCtx t.cur = true ∧ (t.grp t.cur.g).kind = .group ∧ (t.grp t.cur.g).handler = none ∧
      (t.task (t.grp t.cur.g).task).l.tvec ≠ 0 ∧ t.plain = true ∧ (w0.task (w0.grp w0.cur.g).task).l.tvec = 0 := by decide

theorem test_trap_elsewhere_hypotheses :
    let h1 := handling 1 (contexts 2 w0)
    let h0 := handling 0 w0
    let late := grp (fun g => { (g.modCtx 1 (fun c => { c with p0 := 0x10 })) with trapped := [(1, w0.tick + 1)] }) h1
    (late.me.handler.map (fun h => (h.ctx, h.fresh)) = some (1, true) ∧ late.cur.i = 0 ∧ late.hasCtx ⟨late.cur.g, 1⟩ = true ∧
        (List.range 32).findIdx (inMask (late.me.ctx 0).p0) < (List.range 32).findIdx (inMask (late.me.ctx 1).p0)) ∧
    let wave := grp (fun g => { g with kind := .laneWave [] [] }) w0
    let comb := grp (fun g => { g with kind := .combiner 0 }) w0
    (h1.hasCtx h1.cur = true ∧ h1.me.kind = .group ∧ (h1.me.handler.map Handler.ctx) = some 1 ∧ h1.cur.i = 0) ∧
      (h0.hasCtx h0.cur = true ∧ (h0.me.handler.map Handler.ctx) = some 0 ∧ h0.cur.i = 0) ∧
      (wave.hasCtx wave.cur = true ∧ wave.me.kind = .laneWave [] []) ∧
      (comb.hasCtx comb.cur = true ∧ comb.me.kind = .combiner 0) := by decide

theorem test_return_hypotheses :
    let s := handling 0 w0
    (s.plain = true ∧ s.me.waiting = [] ∧ s.me.handler.map (fun h => (h.ctx, h.trap.ends, h.trap.lanes)) = some (0, false, false)) ∧
      (w0.me.ctxs.look 0).isSome = true ∧ (Group.enterHandler 0 aTrap 0x1010 w0.me).handler.isSome = true ∧
      w0.me.handler = none := by decide

/-! ## Statements about lane instructions: their hypotheses can be met -/

/-- v5 of every lane holds a word. -/
def vreg (r : Nat) (x : Word) (s : State) : State := grp (Group.setLanes r 0xFFFFFFFF (fun _ => x)) s
def trapAll (s : State) : State :=
  grp (fun g => { g with trapnf := 0xF }) (task (fun k => { k with l := { k.l with lanehnd := 0x1010 } }) s)

theorem test_vector_hypotheses :
    w0.plain = true ∧ 255 < w0.me.regalloc ∧ 254 + 2 ≤ w0.me.regalloc ∧ w0.me.trapnf = 0 ∧
      (grp (fun g => { g with regalloc := 8 }) w0).me.regalloc ≤ 8 ∧ w0.active = 0xFFFFFFFF ∧
      (∀ l, l < 32 → inMask w0.laneSet l = true) := by decide

theorem test_pair_selectors : (1 % 2 = 1) ∧ Ob.ofCode 16 = .q 0 ∧ Ob.ofCode 17 = .q 1 ∧ Ob.ofCode 31 = .const 3 := by decide

theorem test_float_values :
    fmt32.val 0x7FC00000 = .nan ∧ fmt32.val 0x7F800000 = .inf false ∧ fmt32.val 0x3F800000 ≠ .nan ∧
      fmtE4.val 0x7F = .nan ∧ (∃ n m e, fmt16.val 0x0001 = .fin n m e) ∧ (∃ n m e, fmt32.val 0x80000001 = .fin n m e) := by
  refine ⟨by decide, by decide, by decide, by decide, ⟨_, _, _, rfl⟩, ⟨_, _, _, rfl⟩⟩

/-- Encodings of the special values of each format that a conversion widens. -/
theorem test_narrow_values :
    fmt32.val 0xFF800000 = .inf true ∧ fmt16.val 0x7E00 = .nan ∧ fmt16.val 0xFC00 = .inf true ∧ fmtB16.val 0x7FC0 = .nan ∧
      fmtB16.val 0x7F80 = .inf false ∧ fmtE5.val 0x7F = .nan ∧ fmtE5.val 0x7C = .inf false ∧
      (∃ n m e, fmtE4.val 0x38 = .fin n m e) ∧ (∃ n m e, fmtB16.val 0x3F80 = .fin n m e) := by
  refine ⟨by decide, by decide, by decide, by decide, by decide, by decide, by decide, ⟨_, _, _, rfl⟩, ⟨_, _, _, rfl⟩⟩

/-- The largest finite FP32 value lies below 2^200 and above 1; 128 and -151 are FEXP2C's limits (04 R62, R77). -/
theorem test_rounding_hypotheses :
    numOf (fmt32.val 0x7F7FFFFF) < |toUlps 0 (numOf (.fin false 1 200)) (200 - 23)| ∧
      |toUlps 3 (numOf (.fin true 1 0)) (0 - 23)| ≤ numOf (fmt32.val 0x7F7FFFFF) ∧
      128 ≤ numOf (fmt32.val 0x43000000) ∧ numOf (fmt32.val 0xC3170000) < -150 ∧
      (-150 ≤ numOf (fmt32.val 0x3F800000) ∧ numOf (fmt32.val 0x3F800000) < 128) ∧ 2 ^ 23 ≤ |numOf (fmt32.val 0x4B000000)| := by
  decide +kernel

/-- A sum, a product and a quotient of numbers other than zero, a sum that is zero, and a root (07 R132, R135). -/
theorem test_rounded_operations_hypotheses :
    let a : FVal := .fin false 3 (-1)
    let b : FVal := .fin true 3 (-1)
    numOf a + numOf a ≠ 0 ∧ numOf a + numOf b = 0 ∧ numOf a - numOf b ≠ 0 ∧ numOf a * numOf b + numOf a ≠ 0 ∧ 3 * 3 ≠ 0 ∧
      fmt32.val 0x3FC00000 = .fin false 12582912 (-23) ∧ 12582912 ≠ 0 := by
  refine ⟨?_, ?_, ?_, ?_, by decide, by decide, by decide⟩ <;> norm_num [numOf]

/-- The levels of a reduction's tree. -/
def level (s : State) (a : Nat) : Nat → Nat → Option FRes
  | 0, l => if inMask s.active l then some ⟨(s.v a l).toNat, 0⟩ else none
  | k + 1, i =>
    match level s a k (2 * i), level s a k (2 * i + 1) with
    | some x, some y =>
      let z := fmt32.add s.me.frm.toNat (fmt32.val x.bits) (fmt32.val y.bits)
      some ⟨z.bits, x.ev ||| y.ev ||| z.ev⟩
    | some x, none => some x
    | none, y => y
theorem test_tree_hypotheses (s : State) (a : Nat) :
    (∀ l, l < 32 → level s a 0 l = if inMask s.active l then some ⟨(s.v a l).toNat, 0⟩ else none) ∧
      (∀ k i, k < 5 → i < 2 ^ (4 - k) → level s a (k + 1) i =
        (match level s a k (2 * i), level s a k (2 * i + 1) with
         | some x, some y =>
           let z := fmt32.add s.me.frm.toNat (fmt32.val x.bits) (fmt32.val y.bits)
           some ⟨z.bits, x.ev ||| y.ev ||| z.ev⟩
         | some x, none => some x
         | none, y => y)) := ⟨fun _ _ => rfl, fun _ _ _ _ => rfl⟩

/-- 1.0 + 1.0 = 2.0, 1.0 / 3.0 to nearest even (04 R67, IEEE 754). -/
theorem test_float_results :
    fmt32.add 0 (fmt32.val 0x3F800000) (fmt32.val 0x3F800000) = ⟨0x40000000, 0⟩ ∧
      (fmt32.div 0 (fmt32.val 0x3F800000) (fmt32.val 0x40400000)).bits = 0x3EAAAAAB := by decide

theorem test_hold_hypotheses :
    let s := trapAll (vreg 5 0x7FC00000 w0)
    (s.plain = true ∧ s.me.kind = .group ∧ s.me.handler = none ∧ s.myTask.l.lanehnd ≠ 0 ∧ 5 < s.me.regalloc) ∧
      (inMask s.active 0 = true ∧
        (nfClass s.me.trapnf (fmt32.add s.me.frm.toNat (v32 (s.v 5 0)) (v32 (s.ob .f32 (.const 1) 0))).ev).isSome = true ∧
        s.me.trapnf.getLsbD 3 = true ∧ ((fmtE4.cvt s.me.frm.toNat (v32 (s.v 5 0))).ev).getLsbD 3 = true ∧
        (fmt32.sqrt s.me.frm.toNat (v32 (s.v 5 0))).ev.getLsbD 3 = true) := by
  decide

/-- A held FADD whose lane 1 trapped and was resolved. -/
def aHeld : Held :=
  ⟨[⟨1, causeNonfinite, 3, 0, 0, true, some [5], false⟩], 3, 5, 1, [(0, 7)], [(0, 1)], 1, false, none, false, 3, 0, 0x1000, 0xFFC, 0⟩

theorem test_completing_hypotheses :
    let s := grp (fun g => { g with held := [(0, aHeld)] }) w0
    (s.hasCtx s.cur = true ∧ (s.grp s.cur.g).held.look 0 = some aHeld ∧ aHeld.op = none ∧ aHeld.whole = false ∧
        aHeld.width = 1 ∧ aHeld.rotate = 1) ∧
      inMask aHeld.active 0 = true ∧ (∀ tr ∈ aHeld.traps, tr.lane ≠ 0) ∧ inMask ((s.grp s.cur.g).ctx 0).p0 0 = true ∧
      ((s.completeHeld s.cur false).grp s.cur.g).vreg 5 0 = 7 ∧
      ((s.completeHeld s.cur false).grp s.cur.g).vreg 5 1 = 5 ∧ (aHeld.events.get 0 0).testBit 0 = true := by decide

/-- A held load of v5 whose lane 1 trapped and was resolved: of the lanes that passed, one is left, or none. -/
def heldLoad (acc : List LaneAcc) : Held × Op :=
  let o : Op := ⟨7, 0, some 0, 0, 0, 0, 0, .load ⟨4, false⟩ 5 acc, [], true⟩
  ({ aHeld with rotate := 0, op := some { o with gate := false } }, o)
theorem test_held_access_hypotheses :
    let s (acc : List LaneAcc) := grp (fun g => { (g.raiseFlag (some 0)) with
      held := [(0, (heldLoad acc).1)], ops := [(heldLoad acc).2] }) w0
    let ok (acc : List LaneAcc) : Prop :=
      (s acc).hasCtx (s acc).cur = true ∧ (s acc).me.held.look 0 = some (heldLoad acc).1 ∧
        (heldLoad acc).1.op = some { (heldLoad acc).2 with gate := false } ∧ (heldLoad acc).2.isM = true ∧
        (heldLoad acc).1.whole = false ∧ (heldLoad acc).1.rotate = 0 ∧ (s acc).me.findOp 7 = some (heldLoad acc).2
    ok [] ∧ ok [⟨0, 0, some 0, [], none⟩] ∧ (heldLoad []).2.kind.pendingLanes = 0 ∧
      (heldLoad [⟨0, 0, some 0, [], none⟩]).2.kind.pendingLanes ≠ 0 := by decide

theorem test_predicate_hypotheses :
    (Ob.const 0).code = 28 ∧ (Ob.q 3).code < 20 ∧ 20 ≤ (Ob.s 8).code ∧ (0 < 63 ∧ 63 < 64) ∧ 255 < w0.me.regalloc := by decide

theorem test_cross_lane_hypotheses :
    let one := withP1 1 (ctx (fun c => { c with pred := 4 }) w0)
    (List.range 32).filter (inMask one.active) = [2] ∧ (List.range 32).filter (inMask w0.active) ≠ [] ∧ 4 < 5 ∧ 5 ≤ 5 := by decide

theorem test_retiring_hypotheses :
    let none_ := ctx (fun c => { c with pred := 0 }) w0
    let half := ctx (fun c => { c with pred := 0xFFFF }) w0
    let all := ctx (fun c => { c with pred := 0xFFFFFFFF }) w0
    let rec1 : Record := ⟨[], 0x2000, 0, 0, 0xF, none, 0⟩
    let barred := team (fun m => { m with barriers := 2 }) half
    let kept := grp (fun g => { g with records := [rec1] }) all
    let two := contexts 2 all
    let merging := grp (Group.modCtx 1 (fun c => { c with stop := .merge 0 })) two
    (all.active = all.laneSet ∧ all.active ≠ 0 ∧ all.ctx.stop = .running ∧ all.me.handler = none ∧ all.me.held.look 0 = none ∧
        0 < barred.myTeam.barriers ∧ barred.active ≠ 0) ∧
      ((kept.fetchRecords kept.cur.g).me.records = [rec1] ∧ rec1.token = none ∧ rec1.owner = 0 ∧ rec1.mask ≠ 0 ∧
        kept.laneSet &&& ~~~kept.active = 0) ∧
      (two.plain = true ∧ (two.fetchRecords two.cur.g).me.records = [] ∧ two.me.ctxs.look 1 = some two.ctx ∧ two.ctx.p0 ≠ 0 ∧
        two.ctx.stop = .running ∧ two.laneSet &&& ~~~two.active = 0) ∧
      (merging.me.ctxs.del 0 = [(1, merging.me.ctx 1)] ∧ (merging.me.ctx 1).p0 ≠ 0 ∧ (merging.me.ctx 1).stop = .merge 0 ∧
        merging.myTeam.yieldPending = false) ∧
      all.me.ctxs = [(0, all.ctx)] ∧
    (w0.me.kind = .group ∧ none_.active = 0) ∧
      (half.active ≠ 0 ∧ half.me.ctxs = [(half.cur.i, half.ctx)] ∧ half.me.records = [] ∧ half.myTeam.barriers = 0 ∧
        half.me.ops = [] ∧ half.me.waiting = [] ∧ half.ctx.stop = .running ∧ half.laneSet &&& ~~~half.active ≠ 0) ∧
      w0.laneSet &&& ~~~w0.active = 0 ∧ (grp (fun g => { g with kind := .laneWave [] [] }) w0).plain = true := by decide

/-! ## Statements about memory: their hypotheses can be met -/

def spw : DWord := 0x007FFFFFFFC00000

/-- A scratchpad of 64 KiB with two barriers, and a base register s54 behind them. -/
def w2 : State :=
  ctx (fun c => { c with setA := 0, setB := 1 }) (reg 54 (spw + 64) (team (fun m => { m with spadSize := 65536, barriers := 2 }) w0))

/-- The lease of the code page is writable data instead, on physical page 0x1000 of its frame. -/
def w3 : State := task (fun k => { k with leases := [⟨loadVa, 4096, true, false, false⟩] }) w2

theorem test_address_hypotheses :
    let g := w3.cur.g
    let ok (s : State) (a : DWord) (n al : Nat) (wr : Bool) (p : Nat) : Bool :=
      match s.checkAcc g 0 a n al wr with
      | .ok l _ => l == p
      | _ => false
    w3.checkAcc g 0 0x0080000000000000 4 4 false = .addr ∧ w3.checkAcc g 0 0xFFFFFFFFFFFFFFFD 4 1 false = .addr ∧
      w3.checkAcc g 0 0x1002 4 4 false = .misalign ∧ w3.checkAcc g 0 (spw + 65536) 4 4 false = .addr ∧
      ok w3 (spw + 65532) 4 4 false (2 ^ 60 + 65532) = true ∧ w3.checkAcc g 0 0x2000 4 4 false = .lease ∧
      ok w3 0x1FFC 4 4 true (loadFrame + 0x1FFC) = true ∧ w2.checkAcc g 0 0x1FFC 4 4 true = .trans 1 ∧
      (task (fun k => { k with asid := 1 }) w3).checkAcc g 0 0x1FFC 4 4 false = .trans 2 := by decide

theorem test_load_hypotheses :
    let acts := (List.range 32).filter (inMask w2.active)
    (w2.plain = true ∧ acts ≠ [] ∧ 252 % 4 = 0 ∧ 252 + 4 ≤ w2.me.regalloc ∧ w2.flagA = some 0 ∧ (w2.me.flag 0).count < 63) ∧
      (∀ l ∈ acts, w2.checkAcc w2.cur.g l (w2.sreg 54 + (w2.v 3 l).signExtend 64) 16 16 false =
        .ok (2 ^ 60 + 64) none) ∧
      w2.checkAcc w2.cur.g 32 (w2.sreg 54 + BitVec.ofNat 64 (1 * 8)) 8 8 false = .ok (2 ^ 60 + 72) none ∧
      w2.checkAcc w2.cur.g 32 (w2.sreg 48 + BitVec.ofNat 64 (0 * 8) + 4) 8 8 false = .misalign ∧
      (reg 54 0x0080000000000000 w2).checkAcc w2.cur.g 32 0x0080000000000000 8 8 false = .addr ∧
      (∀ l ∈ acts, (w2.sreg 48 + (w2.v 3 l).signExtend 64).toNat % 4 = 0 ∧
        (w2.sreg 48 + (w2.v 3 l).signExtend 64).toNat < 131072) ∧
      ((grp (fun g => { g with flags := [(0, ⟨63, none⟩)] }) w2).me.flag 0).count = 63 := by decide

/-- Lane 0 holds what v3 shifts its address by, and the task has a lane handler: one access fails, the others pass. -/
def odd (x : Word) : State :=
  task (fun k => { k with l := { k.l with lanehnd := 0x1010 } }) (grp (fun g => { g with v := g.v.put 0 (32 * 3) x }) w2)

theorem test_held_lanes_hypotheses :
    let idle := ctx (fun c => { c with pred := 0 }) w2
    let acts := (List.range 32).filter (inMask (odd 2).active)
    let at_ (s : State) (k l : Nat) : DWord := s.sreg k + (s.v 3 l).signExtend 64
    (List.range 32).filter (inMask idle.active) = [] ∧
      ((odd 2).plain = true ∧ (odd 2).me.kind = .group ∧ (odd 2).me.handler = none ∧ (odd 2).myTask.l.lanehnd ≠ 0) ∧
      (∀ l ∈ acts, ∀ wr, (odd 2).checkAcc (odd 2).cur.g l (at_ (odd 2) 54 l) 4 4 wr =
        if l = 0 then .misalign else .ok (2 ^ 60 + 64) none) ∧ 0 ∈ acts ∧ 1 ∈ acts ∧
      ((odd 0xFFFFFFC0).hitsBarrier w2.cur.g (at_ (odd 0xFFFFFFC0) 54 0) = true ∧
        (odd 0xFFFFFFC0).checkAcc w2.cur.g 0 (at_ (odd 0xFFFFFFC0) 54 0) 4 4 true = .ok (2 ^ 60) none) ∧
      ((at_ (odd 2) 48 0).toNat % 4 ≠ 0 ∧ 131072 ≤ (at_ (odd 0x20000) 48 0).toNat ∧
        (at_ (odd 0x20000) 48 0).toNat % 4 = 0 ∧ (at_ (odd 0x20000) 48 1).toNat = 0) ∧
      (check123 (w2.window w2.cur.g) (at_ (odd 2) 54 0) 4 4 = some .misalign ∧
        ∀ l ∈ acts, l ≠ 0 → 0x007FFFFFFFC00000 ≤ (at_ (odd 2) 54 l).toNat ∧
          (at_ (odd 2) 54 l).toNat < 0x0080000000000000) := by decide +kernel

/-- One lane's access to scratchpad byte 64. -/
def anAcc (lane : Nat) (data : List Word) : LaneAcc := ⟨lane, spw + 64, some (2 ^ 60 + 64), data, none⟩

/-- Every kind of operation outstanding alone: found, free to perform, in a plain group slot. -/
def stands (k : OpKind) : Bool :=
  let s := withOp k (some 0) w2
  s.hasGrp s.cur.g && s.me.isPlain && decide (s.me.kind = .group) &&
    decide (s.me.ops.find? (fun p => p.id == 7) = some (anOp k (some 0) w2)) && (anOp k (some 0) w2).id == 7 && !(anOp k (some 0) w2).gate && !s.behindAcquire s.cur.g (anOp k (some 0) w2) &&
    decide (s.me.earlier 7 = []) && s.mayPerform s.cur.g (anOp k (some 0) w2) &&
    (s.opSpans s.cur.g (anOp k (some 0) w2)).all (fun x => !s.waveHolds s.cur.g x.loc x.n)

theorem test_memory_operation_hypotheses :
    stands (.load ⟨16, false⟩ 4 [anAcc 0 [], anAcc 31 []]) = true ∧ stands (.load ⟨1, true⟩ 4 [anAcc 0 []]) = true ∧
      stands (.loadS 8 5 (anAcc 32 [])) = true ∧ stands (.ldc 4 [⟨3, 0, none, [], none⟩, ⟨4, 4, some (2 ^ 61 + 4), [], none⟩]) = true ∧
      stands (.store 4 [anAcc 2 [0xA1B2C3D4]] [] []) = true ∧ stands (.store 4 [anAcc 32 [7, 0]] [] []) = true ∧
      stands (.zline (anAcc 32 []) []) = true ∧ stands (.atomic .add64 4 [anAcc 1 [1, 0]] []) = true ∧
      stands (.atomic .cas 4 [anAcc 0 [0, 9]] []) = true ∧ stands (.barrier .sync 1 0xFFFFFFFF 5 0) = true ∧
      stands (.pref none none) = true ∧ stands (.store 4 [] [⟨0, 0x2000, 2, none⟩] []) = true := by decide

/-- A relaxed store of memory: its own slot must see it, another may still read what stood there (23 R350, R353). -/
theorem test_view_hypotheses :
    let p := loadFrame + 0x1FFC
    let h : SlotRef := ⟨0, 0, 4⟩
    w3.histAt p = [] ∧
      (match execStorePerform w3.cur.g 7 0xFFFFFFFF (withOp (.store 4 [⟨2, 0x1FFC, some p, [7], none⟩] [] []) (some 0) w3) with
       | .next s => (s.histAt p).map Prod.snd == [0] && (s.histAt p).all (fun e => !s.mustSee (.slot h) e.1) &&
           (s.histAt p).all (fun e => s.mustSee (.slot w3.cur.g) e.1)
       | _ => false) = true := by decide

/-- A context stalls with its own barrier operation outstanding, of a group that is here or, for a wait, away. -/
theorem test_own_stall_hypotheses :
    let k : OpKind := .barrier .wait 1 0xFFFFFFFF 5 3
    let s := ctx (fun c => { c with stop := .barrier 7 1 none }) (withOp k (some 0) w2)
    s.me.findOp 7 = some (anOp k (some 0) w2) ∧ s.ctx.stop = .barrier 7 1 none ∧ BarKind.wait ∈ [BarKind.wait, .sync] ∧
      BarKind.wait ∈ [BarKind.init, .wait] ∧ (∀ e ∈ s.groups, e.2.isGrace = false) ∧ s.testedNow s.me.team 1 = false ∧
      (3 : BitVec 64).toNat % 256 ≠ (s.barWord s.me.team 1).phase ∧ (256 : BitVec 64).toNat % 256 = (s.barWord s.me.team 1).phase := by
  decide

/-- Two lanes whose bytes stand in one line of memory, and in none. -/
theorem test_joined_hypotheses :
    let joined (x y : Nat) : Bool := decide (x < 2 ^ 60 ∧ x / 64 = y / 64)
    joined 0x1000 0x103C = true ∧ joined 0x1000 0x1040 = false ∧ joined (2 ^ 60) (2 ^ 60 + 4) = false ∧
      stands (.load ⟨4, false⟩ 4 [⟨0, 0x1000, some 0x1000, [], none⟩, ⟨1, 0x103C, some 0x103C, [], none⟩]) = true := by decide

/-- A line of the code page passes PREF's checks; a line beyond the address space does not. -/
theorem test_pref_hypotheses :
    w2.plain = true ∧ w2.full w2.flagA = false ∧
      (∃ l x, w2.checkAcc w2.cur.g 32 0x1000 64 1 false = .ok l (some x)) ∧
      ¬((0x0080000000000000 : DWord).toNat < 2 ^ 55 ∨ 2 ^ 64 - 2 ^ 55 ≤ (0x0080000000000000 : DWord).toNat) :=
  ⟨by decide, by decide, ⟨_, _, rfl⟩, by decide⟩

theorem test_stall_hypotheses :
    let h : SlotRef := ⟨0, 0, 4⟩
    let s : State := { w2 with groups := w2.groups.ins h.key { w2.me with
      gi := 1, ctxs := [(0, { w2.ctx with stop := .barrier 9 1 (some 3) })] } }
    s.hasCtx ⟨h, 0⟩ = true ∧ h.key ≠ s.cur.g.key ∧ (s.grp h).kind = .group ∧ (s.grp h).team = s.me.team ∧
      ((s.grp h).ctx 0).stop = .barrier 9 1 (some 3) ∧ s.me = w2.me := by decide

/-- Stores of three lanes in the window: lanes 2 and 5 write the same line and meet, lane 9 another one. -/
def threeStores : List LaneAcc := [⟨2, spw + 64, none, [1], none⟩, ⟨5, spw + 66, none, [2], none⟩, ⟨9, spw + 256, none, [3], none⟩]
theorem test_store_lanes_hypotheses :
    let k : OpKind := .store 4 threeStores [] []
    let s := withOp k (some 0) w2
    stands k = true ∧ threeStores.Pairwise (fun a b => a.lane < b.lane) ∧
      (∀ a ∈ threeStores, a.lane < 32 ∧ a.loc = none ∧ 0x007FFFFFFFC00000 ≤ a.va.toNat ∧ a.va.toNat < 0x0080000000000000) ∧
      inMask 4 2 = true ∧ inMask 4 5 = false ∧ inMask 4 9 = false ∧
      ((s.team s.me.team).spad 64) / 64 = (s.team s.me.team).spad 66 / 64 ∧
      ((s.team s.me.team).spad 64) / 64 ≠ (s.team s.me.team).spad 256 / 64 := by decide

/-- Atomics of two lanes at one word: named together they may go, the higher alone not. -/
theorem test_atomic_lanes_hypotheses :
    let acc : List LaneAcc := [⟨1, spw + 64, some (2 ^ 60 + 64), [1], none⟩, ⟨4, spw + 64, some (2 ^ 60 + 64), [2], none⟩]
    stands (.atomic .add 4 acc []) = true ∧ acc.Pairwise (fun a b => a.lane < b.lane) ∧
      (∀ a ∈ acc, a.lane < 32 ∧ a.loc = some (2 ^ 60 + 64)) ∧
      acc.filter (fun a => inMask 0x12 a.lane) = acc ∧ (acc.filter (fun a => inMask 0x10 a.lane)).map LaneAcc.lane = [4] ∧
      (acc.filter (fun a => !inMask 0x10 a.lane)).map LaneAcc.lane = [1] ∧
      (acc.filter (fun a => !inMask 2 a.lane)).map LaneAcc.lane = [4] := by decide

theorem test_store_hypotheses :
    (check123 (w2.window w2.cur.g) (spw + 64) 64 64 = none ∧ w2.hitsBarrier w2.cur.g (spw + 64) = false) ∧
      check123 (w2.window w2.cur.g) (spw + 66) 4 4 = some .misalign ∧
      check123 (w2.window w2.cur.g) (spw + 65536) 4 4 = some .addr ∧
      w2.check45 w2.cur.g 2 (spw + 64) 4 true = .ok (2 ^ 60 + 64) none ∧
      w2.check45 w2.cur.g 2 0x1000 4 true = .trans 1 := by decide

theorem test_fence_hypotheses :
    ((grp (fun g => { g with obs := [(7, 0)] }) w2).me.obs.get 0 7 = 0) ∧ (w2.me.obs.get 0 7 ≠ 0) ∧
      (∃ n ∈ (grp (fun g => { g with hold := [7] }) (withOp (.pref none none) none w2)).me.hold,
        ((grp (fun g => { g with hold := [7] }) (withOp (.pref none none) none w2)).me.findOp n).isSome = true) ∧
      (w2.me.ops.all (fun o => !o.isStore) = true ∧ w2.storeFault w2.cur.g = none) ∧
      ((withOp (.store 4 [anAcc 0 [1]] [] []) none w2).me.ops.all Op.isStore = true) ∧
      (let s := ctx (fun c => { c with stop := .stdrain }) w2
       s.hasCtx s.cur = true ∧ s.ctx.stop = .stdrain ∧ s.me.hold = [] ∧ s.storeFault s.cur.g = none) ∧
      (let s := handling 0 (grp (fun g => { g with ops := g.ops.map (fun o => { o with gate := true }) })
          (withOp (.store 4 [anAcc 0 [1]] [] []) none w2))
       s.me.handler.any (fun h => h.ctx = 0) = true ∧ s.me.ops.all (fun o => o.isStore && o.gate && decide (o.ctx = 0)) = true) ∧
      (w2.core w2.cur.g.coreRef).faults.length < 16 := by decide

theorem test_atomic_hypotheses :
    let acts := (List.range 32).filter (inMask w2.active)
    (∀ l ∈ acts, w2.hitsBarrier w2.cur.g (w2.sreg 54 + (w2.v 3 l).signExtend 64) = false ∧
      w2.checkAcc w2.cur.g l (w2.sreg 54 + (w2.v 3 l).signExtend 64) 8 8 true = .ok (2 ^ 60 + 64) none) ∧
      inMask 0xFFFFFFFF 31 = true := by decide

theorem test_barrier_hypotheses :
    let a (s : State) (imm : Nat) := s.sreg 55 + BitVec.ofNat 64 (imm * 8)
    (w2.me.kind = .group ∧ (a w2 1).toNat = 0x007FFFFFFFC00000 + 8 * 1 ∧ 1 < w2.myTeam.barriers) ∧
      ((a w2 2).toNat = 0x007FFFFFFFC00000 + 8 * 2 ∧ w2.myTeam.barriers ≤ 2) ∧
      ((a (reg 55 (spw + 4) w2) 0).toNat < 2 ^ 55 - 8 ∧ (a (reg 55 (spw + 4) w2) 0).toNat % 8 ≠ 0) ∧
      (2 ^ 55 ≤ (a (reg 55 0x0080000000000000 w2) 0).toNat ∧ (a (reg 55 0x0080000000000000 w2) 0).toNat < 2 ^ 63) ∧
      ((w2.teams.look w2.me.team).isSome = true ∧ (w2.me.ctxs.look 0).isSome = true ∧ w2.absent w2.cur.g = false ∧
        w2.testedNow w2.me.team 1 = false) := by decide

/-- Barrier records at their boundaries (10 R191): the last of two arrivals is the phase's end; a drop of one who came. -/
theorem test_barrier_records :
    let b : Bar := ⟨⟨2, 1, 255⟩, [(0, 0)]⟩
    (0, 0) ∈ b.seen ∧ (0, 1) ∉ b.seen ∧ b.w.arrived < b.w.expected ∧
      ((b.arrive [(0, 1)]).test = ⟨⟨2, 0, 0⟩, []⟩) ∧ (b.drop [(0, 0)]).w = ⟨1, 0, 255⟩ := by decide

/-- STV32 of lane 2 and what memory holds then, low byte first (00 R2, 09 R165). -/
theorem test_store_bytes :
    (match execStorePerform w2.cur.g 7 0xFFFFFFFF (withOp (.store 4 [anAcc 2 [0xA1B2C3D4]] [] []) (some 0) w2) with
     | .next t => t.byte (2 ^ 60 + 64) == 0xD4 && t.byte (2 ^ 60 + 67) == 0xA1 && t.byte (2 ^ 60 + 68) == 0
     | _ => false) = true := by decide

/-- AADD wraps and answers the old value; ACAS leaves another value alone (20 R311). -/
theorem test_atomic_results :
    AtomKind.new .add 0xFFFFFFFF 0 [2] = 1 ∧ AtomKind.new .cas 5 0 [4, 9] = 5 ∧ AtomKind.new .cas 5 0 [5, 9] = 9 := by decide

/-! ## Statements about the core: their hypotheses can be met -/

theorem test_descriptor_hypotheses :
    let x (s : State) : Td := s.sreg 7 ++ s.sreg 6 ++ s.sreg 5 ++ s.sreg 4
    ((x w0).extractLsb' 132 6 = 0 ∧ (x w0).extractLsb' 142 30 = 0 ∧ (x w0).extractLsb' 224 32 = 0 ∧
        (x w0).extractLsb' 138 2 ≠ 2 ∧ ((x w0).extractLsb' 128 4).toNat < 10 ∧ ((x w0).extractLsb' 140 2).toNat < 2) ∧
      (x (reg 6 0x10 w0)).extractLsb' 132 6 ≠ 0 ∧ (x (reg 6 0x2000 w0)).extractLsb' 140 2 = 2 ∧
      ((x (reg 4 0x20 (reg 6 0x800 w0))).extractLsb' 138 2 = 2 ∧ (x (reg 4 0x20 (reg 6 0x800 w0))).extractLsb' 5 59 ≠ 0) ∧
      10 ≤ ((x (reg 6 10 w0)).extractLsb' 128 4).toNat ∧ (reg 5 24 w0).sreg 5 = 24 ∧ (reg 5 23 w0).sreg 5 = 23 := by decide

theorem test_promotion_hypotheses :
    let s (n : Nat) := grp (fun g => { g with waited := n }) w0
    (s 1024).hasGrp (s 1024).cur.g = true ∧ 1024 ≤ ((s 1024).grp w0.cur.g).waited ∧
      ((s 1024).grp w0.cur.g).promoted = false ∧ ((s 1023).grp w0.cur.g).waited < 1024 ∧
      (s 0).picked ⟨0, 0⟩ 0 = some (s 0).cur ∧ (s 0).picked ⟨0, 0⟩ 1 = none := by decide

/-- The context waits in GROW n for partition 0 of its core. -/
def growing (n : Nat) : State := grp (fun g => { g with regalloc := 64 }) (ctx (fun c => { c with stop := .grow 5 n 9 }) w0)

/-- Three groups of a partition with 160 registers each wait for 12 granules of the 4 that are free. -/
def crowded : State :=
  let s := grp (fun g => { g with regalloc := 160, placed := 0 }) (growing 12)
  let other (n : Nat) : Group := { s.me with placed := n, gi := n }
  { s with groups := (s.groups.ins (SlotRef.key ⟨0, 0, 4⟩) (other 1)).ins (SlotRef.key ⟨0, 0, 8⟩) (other 2) }

theorem test_granule_hypotheses :
    let out := withOp (.pref none none) none w0
    let full := grp (fun g => { g with regalloc := 64 }) (task (fun k => { k with l := { k.l with cls := 0 } }) (growing 1))
    (w0.me.kind = .group ∧ w0.myTask.l.cls = 4 ∧ 256 < w0.me.regalloc + 8 * 1 ∧ (growing 1).me.regalloc + 8 * 1 ≤ 256 ∧
        w0.me.ops = [] ∧ out.me.ops.all (fun o => o.gate && decide (o.ctx = out.cur.i)) = false) ∧
      (let s := ctx (fun c => { c with stop := .shrink 3 }) w0
       s.hasCtx s.cur = true ∧ ((s.grp s.cur.g).ctx 0).stop = .shrink 3 ∧ (s.grp s.cur.g).ops = []) ∧
      ((growing 1).hasCtx (growing 1).cur = true ∧
        (growing 1).growRequests (growing 1).cur.g.coreRef (growing 1).cur.g.partition = [(9, (growing 1).cur, 1, 5)] ∧
        1 ≤ 64 - (growing 1).granulesUsed (growing 1).cur.g.coreRef 0 ∧ (growing 1).myTeam.yieldPending = false) ∧
      (full.growRequests full.cur.g.coreRef full.cur.g.partition = [(9, full.cur, 1, 5)] ∧ full.myTask.l.cls = 0 ∧
        64 < full.me.regalloc + 8 * 1) := by decide

theorem test_deadlock_hypotheses :
    let s := crowded
    let h : SlotRef := ⟨0, 0, 4⟩
    let g : SlotRef := ⟨0, 0, 8⟩
    s.hasCtx ⟨g, 0⟩ = true ∧ s.groupsOn g.coreRef = [(s.cur.g, s.me), (h, s.grp h), (g, s.grp g)] ∧
      s.me.placed < (s.grp g).placed ∧ (s.grp h).placed < (s.grp g).placed ∧
      (∀ x ∈ [s.cur.g, h, g], (s.grp x).growing = [(9, 0, 5)] ∧ (s.grp x).ctxs = [(0, (s.grp x).ctx 0)] ∧
        s.growGrantable ⟨x, 0⟩ = none) ∧ (∀ x ∈ [s.cur.g, h, g], s.onward x = .running) ∧
      (let y := team (fun m => { m with yieldPending := true }) s
       y.onward g = .entry ∧ (g, y.grp g) ∈ y.groupsOn g.coreRef) := by decide

/-- The core's constant store belongs to the task. -/
def owns (s : State) : State := s.modCore s.cur.g.coreRef (fun c => { c with owner := some s.me.task })

theorem test_fill_hypotheses :
    let s := owns w3
    w3.ownsStores = false ∧ s.ownsStores = true ∧ s.checkRange s.cur.g 0x1000 8 false = .ok ∧
      s.myTeam.cores = [s.cur.g.coreRef] ∧ 131064 + 8 ≤ 131072 ∧ 131072 < 131068 + 8 ∧
      (withOp (.cfill 0x1000 131064 8 0) none w2).behindAcquire w2.cur.g (anOp (.cfill 0x1000 131064 8 0) none w2) = false ∧
      w2.hist = [] ∧ stands (.cfill 0x1000 131064 8 0) = true := by decide

theorem test_handler_hypotheses :
    let h := handling 0 w0
    (w0.inHandler = false ∧ w0.me.isLaneWave = false) ∧
      (h.inHandler = true ∧ (reg 5 0x1FFF h).sreg 5 = 0x1FFF ∧ 255 < h.me.regalloc ∧ 8192 ≤ (reg 5 0x2000 h).sreg 5) ∧
      ((∀ g ∈ h.occupantsOf h.me.team, h.handle g ≠ 0xFFFFFFFFFFFFFFFF) ∧
        h.groupNamed (h.handle h.cur.g) = some h.cur.g ∧ (h.grp h.cur.g).ops = []) ∧
      (h.occupantsOf h.me.team = [h.cur.g] ∧ h.me.ended = false) := by decide

/-- A wave of one lane, of an FADD of a group that is gone. -/
def wave : State :=
  grp (fun g => { g with kind := .laneWave [⟨⟨0, 0, 9⟩, 1, 0, 0, 1, 0, []⟩] [], regalloc := 64 })
    (ctx (fun c => { c with p0 := 1 }) w0)

theorem test_wave_hypotheses :
    wave.plain = true ∧ wave.me.isLaneWave = true ∧ wave.active ≠ 0 ∧ 60 + 4 ≤ wave.me.regalloc ∧
      (∀ o ∈ wave.me.origins, o.width ≤ 4) ∧ wave.me.ctxs = [(wave.cur.i, wave.ctx)] ∧ wave.me.records = [] ∧
      wave.ctx.stop = .running ∧ wave.me.handler = none ∧ wave.laneSet &&& ~~~wave.active = 0 ∧
      (∀ o ∈ wave.me.origins, wave.originTrap o = none) := by decide

/-- The issuing group's handler is at work, and a second group of its team stands in slot 4. -/
def pair : State :=
  let s := handling 0 (team (fun m => { m with slots := [(0, .at ⟨0, 0, 0⟩), (1, .at ⟨0, 0, 4⟩)] }) w2)
  { s with groups := s.groups.ins (SlotRef.key ⟨0, 0, 4⟩) { w2.me with gi := 1 } }
theorem test_kill_team_hypotheses :
    pair.plain = true ∧ pair.inHandler = true ∧ pair.occupantsOf pair.me.team = [⟨0, 0, 0⟩, ⟨0, 0, 4⟩] ∧
      (∀ h ∈ pair.occupantsOf pair.me.team, (pair.grp h).ended = false ∧ (pair.grp h).kind = .group ∧
        (pair.grp h).team = pair.me.team ∧ (pair.grp h).live ≠ 0) ∧ 0 < pair.myTeam.barriers := by decide

/-- The wave's lane is lane 1 of the held FADD of a group in slot 9; a second trap of it, of lane 2, is unresolved or not. -/
def ending (done : Bool) : State :=
  let o : Origin := ⟨⟨0, 0, 9⟩, 0, 0, 1, 1, 0, [5, 6]⟩
  let t (l : Nat) (b : Bool) : LaneTrap := ⟨l, causeNonfinite, 3, 0, 0, b, none, true⟩
  let h : Held := { aHeld with traps := [t 1 false, t 2 done] }
  let s := grp (fun g => { g with kind := .laneWave [o] [] }) wave
  { s with groups := s.groups.ins (SlotRef.key ⟨0, 0, 9⟩) { w0.me with
      gi := 1, ctxs := [(0, { w0.ctx with stop := .laneTrap })], held := [(0, h)] } }
theorem test_wave_end_hypotheses :
    let ok (b : Bool) : Prop :=
      (ending b).plain = true ∧ (ending b).active = 1 ∧ (ending b).me.ctxs = [(0, (ending b).ctx)] ∧
        (ending b).me.records = [] ∧ (ending b).ctx.stop = .running ∧ (ending b).me.handler = none ∧
        (∀ o ∈ (ending b).me.origins, o.g.key ≠ (ending b).cur.g.key ∧ o.width ≤ 4) ∧ (ending b).me.origins.length = 1 ∧
        (∃ o x, (ending b).me.origins[0]? = some o ∧ (ending b).originTrap o = some x ∧
          x.1.traps.map LaneTrap.resolved = [false, b]) ∧
        (((ending b).grp ⟨0, 0, 9⟩).ctx 0).stop = .laneTrap
    ok true ∧ ok false ∧ inMask 1 0 = true := by
  refine ⟨?_, ?_, by decide⟩ <;>
    exact ⟨by decide, by decide, by decide, by decide, by decide, by decide, by decide, by decide, ⟨_, _, rfl, rfl, by decide⟩,
      by decide⟩

def anOrigin : Origin := ⟨⟨0, 0, 0⟩, 0, 0, 1, 1, 0, [5, 6]⟩

/-- A team with one lane collected at cycle 0, and one closed collection; the code page holds a header at LANEHND. -/
def collecting : State :=
  task (fun k => { k with l := { k.l with lanehnd := 0x1010 } })
    (team (fun m => { m with collect := [(0, ⟨[anOrigin], [[anOrigin]]⟩)] }) w1)

theorem test_collection_hypotheses :
    let s := collecting
    ((s.teams.look s.me.team).isSome = true ∧ (s.collection s.me.team 0).lanes = [anOrigin] ∧ s.tick < anOrigin.tick + 256 ∧
        anOrigin.tick + 256 ≤ ({ s with tick := 256 } : State).tick) ∧
      (s.team s.me.team).retired = false ∧ (s.collection s.me.team 0).ready = [[anOrigin]] ∧
      s.waveSlot anOrigin.g = some ⟨0, 0, 48⟩ ∧
      ({ s with groups := s.groups.ins (SlotRef.key ⟨0, 0, 48⟩) { Group.empty with task := s.me.task } } :
        State).headerAt ⟨0, 0, 48⟩ (s.task s.me.task).l.lanehnd = true := by decide

theorem test_patch_hypotheses :
    let h := grp (fun g => { g with held := [(0, aHeld)] }) w0
    h.hasCtx ⟨anOrigin.g, anOrigin.ctx⟩ = true ∧
      h.originTrap anOrigin = some (aHeld, ⟨1, causeNonfinite, 3, 0, 0, true, some [5], false⟩) ∧ aHeld.op = none := by decide

theorem test_wave_limit_hypotheses :
    let w (n : Nat) := grp (fun g => { g with kind := .laneWave [] [], executed := n }) w0
    let still := ctx (fun c => { c with stop := .stdrain }) (w 4096)
    4096 ≤ ((w 4096).grp w0.cur.g).executed ∧ (w 4096).ready w0.cur = true ∧ (w 4096).me.ctxs = [(0, (w 4096).ctx)] ∧
      ((w 4095).grp w0.cur.g).executed < 4096 ∧ still.ready w0.cur = false ∧ still.me.ctxs = [(0, still.ctx)] := by decide

/-- An image of one entry, opcode 4, whose operands are bits 10-13. -/
def anImage : UmberImage := ⟨1, [⟨4, 0x3C00, 3, 0, 0⟩], [], []⟩

theorem test_escape_hypotheses :
    let s := w0.modDie 0 (fun d => { d with umber := some anImage })
    ({ w0 with umberNext := some anImage } : State).umberNext ≠ none ∧ w0.umberNext = none ∧
      (w0.die w0.cur.g.die).umber = none ∧
      ((s.die s.cur.g.die).umber = some anImage ∧
        anImage.entries.find? (fun y => decide (y.opcode = 4)) = some ⟨4, 0x3C00, 3, 0, 0⟩ ∧ w2.flagA = some 0 ∧ (w2.me.flag 0).count < 63 ∧ w0.flagA = none) := by decide

/-- An entry that declares the class LEASE or ADDR: whether the part raises it, one of the two clauses speaks of it. -/
theorem test_escape_class_hypotheses (e : BitVec 22) (n : Nat) :
    (∀ x ∈ [causeLease, causeAddr], ∃ y : UmberEntry, y = ⟨4, 0x3C00, 3, 0, x⟩ ∧ y.fault = x ∧
      (Config.umberFaults 1 e.toNat n = false ∨ Config.umberFaults 1 e.toNat n = true)) ∧
      causeAddr ∈ [causeIllegal, causeBadTarget, causeAddr, causeMisalign, causeCap, causePriv] :=
  ⟨fun x _ => ⟨_, rfl, rfl, by cases Config.umberFaults 1 e.toNat n <;> simp⟩, by decide⟩

/-! ## Statements about the engine, copies, the constant path and REORDER: their hypotheses can be met -/

def mkTd (base rows cols pitch fmt loc valid : Nat) : Td :=
  BitVec.ofNat 256 (base + rows * 2 ^ 64 + cols * 2 ^ 84 + pitch * 2 ^ 104 + fmt * 2 ^ 128 + loc * 2 ^ 138 + valid * 2 ^ 172)

/-- Slots om0-om3 hold BF16, om4 nothing yet read, ac0-ac3 are zeroed; td0 is 2 rows of 64 BF16 in the scratchpad, td1
an operand slot, td2 is 1 row of 8 FP32, td3 is 1 row of 64 BF16. -/
def w4 : State :=
  team (fun m => { m with td :=
      [(0, mkTd 4096 2 64 128 2 1 2), (1, mkTd 1 2 64 0 2 2 2), (2, mkTd 4096 1 8 32 0 1 1), (3, mkTd 4096 1 64 128 2 1 1)] })
    (w2.modCore w2.cur.g.coreRef (fun c =>
      { c with
        om := (List.range 5).map (fun i => (i, ⟨w2.me.team, [], [], if i < 4 then some ⟨2, 0⟩ else none⟩))
        ac := (List.range 4).map (fun i => (i, ⟨w2.me.team, [], [], [], 64⟩)) }))

def engine (xs : List EngineEntry) (s : State) : State := s.modCore s.cur.g.coreRef (fun c => { c with engine := xs })
def baton (b : Option SlotRef) (rs : List SlotRef) (s : State) : State :=
  s.modCore s.cur.g.coreRef (fun c => { c with baton := b, batonReq := rs })

theorem test_claim_hypotheses :
    let k := w4.core w4.cur.g.coreRef
    let other := w4.modCore w4.cur.g.coreRef (fun c => { c with om := c.om.ins 7 ⟨99, [], [], none⟩ })
    let op := withOp (.mzacc 3 1) none (engine [.op ⟨w4.cur.g, 7⟩] w4)
    let wait := ctx (fun c => { c with stop := .mclaim false 8 1 3 }) w4
    (slotOfKey w4.cur.g.key = w4.cur.g ∧ w4.waitingClaims w4.cur.g.coreRef = [] ∧ k.claimed false w4.me.team 3 = true ∧
        (k.slotTeams false).look 5 = none ∧ 3 + 28 + 1 ≤ 32 ∧ 16 < 15 + 1 + 1) ∧
      ((other.core other.cur.g.coreRef).slotTeams false).look 7 = some 99 ∧ 99 ≠ other.me.team ∧ k.engine = [] ∧
      ((op.grp op.cur.g).findOp 7).isSome = true ∧
      (let p := withOp (.mma false 0 1 2 16 16 []) none (engine [.op ⟨w4.cur.g, 7⟩] w4)
       (p.core p.cur.g.coreRef).claimed false p.me.team 1 = true ∧
         1 ∈ (OpKind.mma false 0 1 2 16 16 []).uses.reads ∧ 34 ∉ (OpKind.mma false 0 1 2 16 16 []).uses.reads) ∧
      (wait.hasCtx wait.cur = true ∧ wait.waitingClaims wait.cur.g.coreRef = [⟨3, wait.cur, false, [8, 9]⟩] ∧
        ((wait.core wait.cur.g.coreRef).slotTeams false).look 8 = none ∧ wait.myTeam.yieldPending = false ∧
        (team (fun m => { m with yieldPending := true }) wait).myTeam.yieldPending = true) := by decide

theorem test_baton_hypotheses :
    let g := w4.cur.g
    let h : SlotRef := ⟨0, 0, 5⟩
    let k := fun (s : State) => s.core s.cur.g.coreRef
    (k w4).baton = none ∧ ((k (baton (some h) [] w4)).baton = some h ∧ h ≠ g ∧ g ∉ (k (baton (some h) [] w4)).batonReq) ∧
      g ∈ (k (baton (some h) [g] w4)).batonReq ∧ (k (baton (some g) [] w4)).baton = some g ∧
      ((k (baton (some g) [h, ⟨0, 0, 47⟩] w4)).baton = some g ∧ g.slot < 48 ∧
        (∀ r ∈ [h, ⟨0, 0, 47⟩], r.coreRef = g.coreRef ∧ r.slot < 48) ∧
        (∀ r ∈ [h, ⟨0, 0, 47⟩], r ≠ g → (h.slot + 47 - g.slot) % 48 ≤ (r.slot + 47 - g.slot) % 48)) := by decide

theorem test_engine_issue_hypotheses :
    let s := reg 5 0 (baton (some w4.cur.g) [] w4)
    let t := s.td 0
    let u := s.td 1
    s.plain = true ∧ s.full s.flagA = false ∧ s.claims false [0, 1, 3] = true ∧ s.claims true [0, 3] = true ∧
      s.claims true [4] = false ∧ s.claims false [9] = false ∧
      s.tdFine t (t.badShape [1, 2, 3, 4, 5, 6, 7, 8] || badCol t.fmt (s.col0 5)) false
        (t.touched (t.rect (s.row0 5) 64 (s.col0 5) (slotK t.fmt))) = true ∧
      s.tdFine u (u.badShape [1, 2, 3, 4, 5, 6, 7, 8] || badCol u.fmt 0) false (u.touched (u.rect 0 64 0 (slotK u.fmt))) = true ∧
      (u.loc = 2 ∧ s.claims false [u.base % 32] = true ∧ (mkTd 9 2 64 0 2 2 2).loc = 2 ∧
        s.claims false [(mkTd 9 2 64 0 2 2 2).base % 32] = false) ∧
      s.tdFine t (t.badShape [0, 1, 2, 3, 4, 5, 6, 7, 9]) true (t.touched (t.rect 0 64 0 64)) = true ∧ badMode t.fmt 2 = false ∧ badMode t.fmt 3 = true ∧
      (s.pairTags 0 1 1).isSome = true ∧ s.pairTags 4 1 1 = none ∧ s.claims false [4] = true ∧
      (t.cols = 64 ∧ badTiles t t = false ∧ s.omTag 0 = some ⟨2, 0⟩) ∧ s.badHead 0 = false ∧ s.badHead 4 = true ∧
      s.tdFine t (t.badShape [0, 1, 2, 3, 4] || decide (t.loc = 2)) true (t.touched (t.rect 0 64 0 (s.headAt 0))) = true := by
  decide

/-- An operation alone in the engine's queue. -/
def running (k : OpKind) (s : State) : State := withOp k (some 0) (engine [.op ⟨s.cur.g, 7⟩] s)

theorem test_engine_complete_hypotheses :
    let ok (k : OpKind) : Prop :=
      (running k w4).hasGrp w4.cur.g = true ∧ ((running k w4).grp w4.cur.g).kind = .group ∧
        ((running k w4).grp w4.cur.g).findOp 7 = some (anOp k (some 0) (engine [.op ⟨w4.cur.g, 7⟩] w4)) ∧
        ((running k w4).core w4.cur.g.coreRef).engine = [.op ⟨w4.cur.g, 7⟩] ∧
        (running k w4).behindAcquire w4.cur.g (anOp k (some 0) (engine [.op ⟨w4.cur.g, 7⟩] w4)) = false
    let t := w4.td 0
    ok (.mzacc 0 4) ∧ ok (.mldo 4 t 0 0) ∧ ok (.mma false 0 1 2 64 128 [⟨2, 0⟩, ⟨2, 0⟩, ⟨2, 0⟩]) ∧ ok (.mma false 0 1 2 64 64 [⟨2, 0⟩, ⟨2, 0⟩]) ∧ ok (.msta 0 t 0 0 0 false) ∧
      ok (.attn 0 1 ⟨2, 0⟩ t t) ∧ ok (.attnf 0 t 0 0 64) ∧ ok (.attnz 0 64) ∧
      (1 ≤ t.fmt ∧ t.fmt ≤ 4 ∧ t.loc = 1 ∧ t.cols = 64 ∧ t.swz = 0 ∧ elemSize t.fmt * t.cols ≤ t.pitch ∧
        t.base + t.valid * t.pitch ≤ Config.spwSize ∧ (w4.team (w4.grp w4.cur.g).team).cores = [w4.cur.g.coreRef]) ∧
      pairClass 2 = some 0 ∧ pairClass 5 = some 2 ∧ ((w4.core w4.cur.g.coreRef).ac.look 3).isSome = true ∧
      ((w4.core w4.cur.g.coreRef).om.look 4).isSome = true ∧ ((w4.me.flag 0).err = none) ∧
      (mkTd 0 2 64 128 2 1 0).valid = 0 ∧ 0 < t.valid := by decide

/-- A place in the scratchpad window moves with no write. -/
theorem placeOf_spw (s : State) (g : SlotRef) (a : DWord) (h : inSpw a = true) :
    s.placeOf g a = some ((s.team (s.grp g).team).spad (spwOffset a)) := by simp [State.placeOf, h]

theorem placed_spw {α : Type} (s : State) (g : SlotRef) (mine : α → Prop) (a : α → DWord) (f : α → Nat)
    (hin : ∀ i, mine i → inSpw (a i) = true) (hf : ∀ i, mine i → s.placeOf g (a i) = some (f i))
    (hi : ∀ i j, mine i → mine j → f i = f j → i = j) : s.Placed mine (fun u i => u.placeOf g (a i)) := by
  refine ⟨fun i h => ⟨by simp [hf i h], fun j k e => hi i j h k ?_⟩, fun m _ i h => ?_⟩
  · simpa [hf i h, hf j k] using e
  · simp only [placeOf_spw _ g _ (hin i h)]; rfl

/-- The one row of td2 is laid out in the scratchpad, for a store, an ATTNF and a row copy. -/
theorem test_laid_out_hypotheses :
    let t := w4.td 2
    w4.laidOut w4.cur.g t true (t.rect 0 64 0 8) ∧
      w4.Placed (fun j : Nat => j < 32) (fun u j => u.rowPlace w4.cur.g t 0 j) ∧
      ((w4.td 1).loc = 2 ∧ (w4.td 1).valid ≤ 64 ∧ elemSize (w4.td 1).fmt * (w4.td 1).cols ≤ 256 ∧
        ((w4.core w4.cur.g.coreRef).om.look ((w4.td 1).base % 32)).isSome = true) ∧
      (mkTd 4096 1 64 64 7 1 1).fmt = 7 ∧ (mkTd 4096 1 64 64 7 1 1).cols % 32 = 0 := by
  have spw : ∀ j, j < 32 → inSpw ((w4.td 2).addr ((w4.td 2).offset 0 j)) = true := by decide
  have at_ : ∀ j, j < 32 → w4.placeOf w4.cur.g ((w4.td 2).addr ((w4.td 2).offset 0 j)) = some (2 ^ 60 + 4096 + j) := by decide
  have cols : ∀ k : Nat × Nat, k.1 < ((w4.td 2).rect 0 64 0 8).rows ∧ (w4.td 2).inCols 0 8 k.2 → k.1 = 0 ∧ k.2 < 32 := by
    intro k h
    have r : ((w4.td 2).rect 0 64 0 8).rows = 1 := by decide
    have e : (w4.td 2).fmt = 0 := by decide
    obtain ⟨h1, h2⟩ := h
    unfold Td.inCols at h2
    rw [e] at h2
    simp [elemSize] at h2
    omega
  refine ⟨⟨by decide, by decide, ?_⟩, placed_spw _ _ _ _ (fun j => 2 ^ 60 + 4096 + j) spw at_ (by omega), by decide, by decide,
    by decide⟩
  have zero : ∀ k : Nat × Nat, k.1 = 0 → ((w4.td 2).rect 0 64 0 8).r + k.1 = 0 := by
    intro k h; rw [h]; decide
  refine placed_spw _ _ _ (fun k : Nat × Nat => (w4.td 2).addr ((w4.td 2).offset (((w4.td 2).rect 0 64 0 8).r + k.1) k.2))
    (fun k => 2 ^ 60 + 4096 + k.2) (fun k h => ?_) (fun k h => ?_) (fun i j h k e => ?_)
  · rw [zero k (cols k h).1]; exact spw _ (cols k h).2
  · simp only [zero k (cols k h).1]; exact at_ _ (cols k h).2
  · exact Prod.ext ((cols i h).1.trans (cols j k).1.symm) (by omega)

/-- Values of a block for MSTA to q4: one special, all zero, neither; and products of 04 R78. -/
theorem test_engine_numbers_hypotheses :
    let one : FVal := .fin false 1 0
    NanProduct (.inf true, .fin false 0 0) ∧ InfProduct true (.inf true, one) ∧ ¬NanProduct (one, one) ∧
      (∃ x ∈ one :: List.replicate 31 FVal.nan, x = .nan) ∧ (∀ x ∈ List.replicate 32 (FVal.fin false 0 0), x.isZero = true) ∧
      (¬∃ x ∈ List.replicate 32 one, x = .nan ∨ ∃ n, x = .inf n) ∧ (¬∀ x ∈ List.replicate 32 one, x.isZero = true) ∧
      one.isZero = false ∧ (FVal.fin true 0 5).isZero = true := by
  refine ⟨?_, ?_, ?_, ?_, ?_, ?_, ?_, by decide, by decide⟩ <;>
    simp [NanProduct, InfProduct, FVal.isZero, FVal.isNeg]

/-- Capability 0 is for CPY, 1 a block table of one row of 32 bytes, 2 a gather table of one row owned by die 0. -/
def bytesOf (off n x : Nat) : SMap Byte := SMap.table n 0 off (fun i => byteOf x i)
def capBlk : Cap := ⟨2, 0, 0, bytesOf 8 8 0x1000 ++ bytesOf 16 4 1 ++ bytesOf 20 1 1 ++ bytesOf 22 2 32, 0, 0⟩
def capGat (own : Nat) : Cap :=
  ⟨3, 0, 0, bytesOf 8 8 0x1000 ++ bytesOf 16 4 1 ++ bytesOf 20 2 32 ++ bytesOf 23 1 1 ++ bytesOf 32 2 own, 0, 0⟩
def w5 : State :=
  task (fun k => { k with caps := [(0, ⟨1, 0, 0, [], 0, 0⟩), (1, capBlk), (2, capGat 0), (3, capGat 0x8001)],
                          leases := [⟨loadVa, 4096, true, false, false⟩] })
    (ctx (fun c => { c with pred := 1 }) w4)

theorem test_copy_issue_hypotheses :
    let s := reg 7 32 (reg 6 (spw + 8192) (reg 5 (spw + 4096) w5))
    let t := s.td 2
    let rows := s.rowLanes 9
    (s.plain = true ∧ s.full s.flagB = false ∧ s.capErr 0 [1] = none ∧ s.capErr 9 [1] = some 1 ∧ s.capErr 1 [1] = some 2 ∧
        (cpyChecks (s.sreg 5) (s.sreg 6) 32 s).all (fun x => !x.1) = true ∧
        (cpyChecks (s.sreg 5) (s.sreg 6) 0 s).all (fun x => !x.1) = true) ∧
      (s.capErr 1 [2] = none ∧ rows = [⟨0, 0, 0⟩] ∧ (s.sreg 0).toNat = 0 ∧
        s.tdFine t (t.badShape [0, 1, 2, 3, 4, 5, 6, 7, 8, 9]) true
          (t.touched ⟨0, min t.rows (0 + rows.length * (s.cap 1).bs) - 0, 0, t.cols⟩) = true ∧
        badRows t (s.cap 1).blockRow = false ∧ s.myTask.leased (s.cap 1).table.toNat (8 * (s.cap 1).len) = true) ∧
      (s.capErr 2 [3] = none ∧ badRows t (s.cap 2).gatherRow = false ∧
        s.tdFine t (t.badShape [0, 1, 2, 3, 4, 5, 6, 7, 8, 9]) false (t.touched ⟨0, min t.rows 1, 0, t.cols⟩) = true) ∧
      (ctx (fun c => { c with pred := 0 }) s).rowLanes 9 = [] := by decide

/-- A copy first on channel 0, and its slot's latest there. -/
def copying (key : Nat) (k : OpKind) (s : State) : State :=
  (withOp k (some 1) (grp (fun g => { g with copies := [(key, ⟨7, true, 0, 0, false, false, false, [], false⟩)] }) s)).modCore
    s.cur.g.coreRef (fun c => { c with channels := [(0, [⟨s.cur.g, 7⟩])] })

def aBlk (f : Nat) : BlkOp := ⟨0x1000, 1, 1, 32, mkTd 4096 1 8 32 0 1 1, f, [⟨0, 0, 0⟩], 0, none, []⟩
def aFab (sc : Bool) (own : Nat) : FabOp := ⟨sc, 0x1000, 1, 32, 0, [own], 0, mkTd 4096 1 8 32 0 1 1, [⟨0, 0, 0⟩], 1, [], []⟩

/-- A scatter of two lanes into one row: lane 1 waits for lane 0; the only row of a gather shares no line. -/
theorem test_scatter_order_hypotheses :
    let f : FabOp := { aFab true 0 with rows := [⟨0, 0, 0⟩, ⟨1, 0, 1⟩] }
    (∃ q ∈ f.rows, q.idx = 0 ∧ q.pos < 1) ∧ f.scatter = true ∧ (∀ q ∈ f.rows, q.pos = 1 → q = ⟨1, 0, 1⟩) ∧
      w5.ownLines w5.cur.g ((aFab false 0).shares ⟨0, 0, 0⟩ false) = [] ∧ (aFab true 0).buffer = [] := by decide

theorem test_copy_complete_hypotheses :
    let ready (key : Nat) (k : OpKind) : Prop :=
      let s := copying key k w5
      s.hasGrp s.cur.g = true ∧ s.me.kind = .group ∧ s.me.findOp 7 = some (anOp k (some 1) w5) ∧
        s.me.copies.look key = some ⟨7, true, 0, 0, false, false, false, [], false⟩ ∧
        ((s.core s.cur.g.coreRef).channels.get [] 0).head? = some ⟨s.cur.g, 7⟩ ∧
        s.behindAcquire s.cur.g (anOp k (some 1) w5) = false
    let good := code 0 8 0x1010 w5
    ready 0 (.cpy 0 (spw + 4096) (spw + 8192) 32) ∧ ready 0 (.blkcpy 0 (aBlk 0)) ∧ ready 4 (.fabric 0 (aFab true 0)) ∧
      (w5.team (w5.grp w5.cur.g).team).cores = [w5.cur.g.coreRef] ∧
      (good.vnum good.cur.g 0x1000 8 = 0x1010 ∧ canonical (BitVec.ofNat 64 0x1010) = true ∧ (aBlk 0).rowBytes = 32 ∧
        good.checkRange good.cur.g 0x1000 8 false = .ok ∧ good.checkRange good.cur.g 0x1010 32 false = .ok ∧
        good.myTask.leased 0x1010 32 = true ∧ (aBlk 0).f < (aBlk 0).td.rows ∧ (aBlk 1).td.rows ≤ (aBlk 1).f) ∧
      (code 0 8 0x1008 w5).vnum w5.cur.g 0x1000 8 % 16 ≠ 0 ∧
      (badRange 0x1000 32 = false ∧ w5.myTask.leased 0x1000 32 = true ∧ w5.myTask.writable 0x1000 32 = true ∧
        w5.checkRange w5.cur.g 0x1000 32 true = .ok ∧ w2.myTask.writable 0x1000 32 = false ∧
        (aFab true 0).td.base + 0 * 32 + 32 ≤ Config.spwSize) ∧
      (let s := withOp (.cpywp 5 9 none) (some 1) w5
       s.hasCtx ⟨s.cur.g, 0⟩ = true ∧ (s.grp s.cur.g).findOp 7 = some (anOp (.cpywp 5 9 none) (some 1) w5)) := by decide

/-- A CPY of 32 bytes within the scratchpad: its bytes have places, apart from those it reads. -/
theorem test_copy_places_hypotheses :
    let s := copying 0 (.cpy 0 (spw + 4096) (spw + 8192) 32) w5
    let seen := s.seenBy (copyReader s.cur.g (anOp (.cpy 0 (spw + 4096) (spw + 8192) 32) (some 1) w5))
    s.Placed (fun i : Nat => i < 32) (fun u i => u.placeOf s.cur.g (spw + 8192 + BitVec.ofNat 64 i)) ∧
      (∀ i x, i < 32 → seen.placeOf s.cur.g (spw + 4096 + BitVec.ofNat 64 i) = some x → x = 2 ^ 60 + 4096 + i) ∧
      (∀ b i, i < 32 → ({ s with mem := b } : State).placeOf s.cur.g (spw + 4096 + BitVec.ofNat 64 i) =
        seen.placeOf s.cur.g (spw + 4096 + BitVec.ofNat 64 i)) ∧
      isPhys (2 ^ 60) = false ∧ inSpw (spw + 4096) = true ∧ inSpw (spw + 8192) = true ∧
      ((spw + 4096).toNat % 4 = 0 ∧ (spw + 8192).toNat % 4 = 0) ∧ s.ownedBefore (anOp (.cpy 0 (spw + 4096) (spw + 8192) 32) (some 1) w5) = false := by
  intro s seen
  have src : ∀ i, i < 32 → inSpw (spw + 4096 + BitVec.ofNat 64 i) = true := by decide
  have dst : ∀ i, i < 32 → inSpw (spw + 8192 + BitVec.ofNat 64 i) = true := by decide
  have at_ : ∀ i, i < 32 → s.placeOf s.cur.g (spw + 8192 + BitVec.ofNat 64 i) = some (2 ^ 60 + 8192 + i) := by decide
  have from_ : ∀ i, i < 32 → seen.placeOf s.cur.g (spw + 4096 + BitVec.ofNat 64 i) = some (2 ^ 60 + 4096 + i) := by
    intro i h
    rw [placeOf_spw _ _ _ (src i h)]
    have e : ∀ i, i < 32 → s.placeOf s.cur.g (spw + 4096 + BitVec.ofNat 64 i) = some (2 ^ 60 + 4096 + i) := by decide
    exact (placeOf_spw s _ _ (src i h)).symm.trans (e i h)
  refine ⟨placed_spw _ _ _ _ (fun i => 2 ^ 60 + 8192 + i) dst at_ (by omega), ?_, ?_, by decide, by decide, by decide, by decide, by decide⟩
  · intro i x h e; rw [from_ i h] at e; exact (Option.some.inj e).symm
  · intro b i h; rw [placeOf_spw _ _ _ (src i h), placeOf_spw _ _ _ (src i h)]; rfl

def io (f : IoDie → IoDie) (s : State) : State := { s with io := f s.io }

theorem own_peer : isOwnPeer (0x8FFF % 0x8000) = true := by simp [isOwnPeer]

/-- Whatever id firmware gives the part, peer 1 or peer 2 is another part. -/
theorem other_peer : ∃ n, (n = 1 ∨ n = 2) ∧ isOwnPeer ((0x8000 + n) % 0x8000) = false := by
  by_cases h : ownPeerId = 1
  · exact ⟨2, .inr rfl, by simp [isOwnPeer, h]⟩
  · exact ⟨1, .inl rfl, by simp [isOwnPeer]; omega⟩

/-- A row of a peer: the port to another part is up or down. -/
theorem test_remote_row_hypotheses :
    ∃ n, 3 < 0x8000 + n ∧ isOwnPeer ((0x8000 + n) % 0x8000) = false ∧ w5.portDown (0x8000 + n) = false ∧
      ({ w5 with io := { w5.io with down := [peerPortOf n] } } : State).portDown (0x8000 + n) = true := by
  obtain ⟨n, h, e⟩ := other_peer
  have m : (0x8000 + n) % 0x8000 = n := by omega
  have d : w5.io.down = [] := by decide
  refine ⟨n, by omega, e, ?_, ?_⟩
  · rw [State.portDown, e, m, d]; rfl
  · rw [State.portDown, e, m]; simp

/-- Rows of the part's own windows: window 256 does not exist, and where firmware exports the code page through window 0 a
gather gets its bytes and a scatter may write them; while that page moves neither is answered. -/
theorem test_loopback_hypotheses (h : Config.exportWindow 0 = some ⟨0, 0x1000, 4096, true⟩) :
    let f (sc : Bool) (win : Nat) : FabOp := { aFab sc 0x8FFF with win := win }
    let m := io (fun d => { d with migrations := [⟨3, 0, 0x1000, 4096, loadFrame + 0x1000, 0x20000, [], 0⟩] }) w5
    w5.loopback (f false 256) ⟨0, 0, 0⟩ = some (.refused, []) ∧
      (∃ bs ps, w5.loopback (f false 0) ⟨0, 0, 0⟩ = some (.data bs, ps) ∧ bs.length = 32) ∧
      (∃ ps, w5.loopback (f true 0) ⟨0, 0, 0⟩ = some (.done, ps)) ∧ m.loopback (f false 0) ⟨0, 0, 0⟩ = none ∧
      (f true 0).owner 0 = 0x8FFF ∧ 3 < 0x8FFF := by
  have w : exportWindowOf 0 = some ⟨0, 0x1000, 4096, true⟩ := h
  refine ⟨by rfl, ?_, ?_, ?_, by decide, by decide⟩ <;> simp only [State.loopback, w]
  · exact ⟨((List.range 32).map (fun i => loadFrame + 0x1000 + i)).map w5.byte,
      (List.range 32).map (fun i => loadFrame + 0x1000 + i), by decide +kernel, by decide +kernel⟩
  · exact ⟨(List.range 32).map (fun i => loadFrame + 0x1000 + i), by decide +kernel⟩
  · decide +kernel

/-- A QMV of one output and one input in lanes 0 and 8 or in lane 0, whose source word is x, with all classes enabled. -/
def aQmv (x : Word) (lanes : Word) (quarters : List Nat) : QmvOp :=
  ⟨4, 4, 4, 8, 0, 0, lanes, quarters, [(32 * 8, x)], 15, 8, [], []⟩
theorem test_precise_hypotheses :
    let s (q : QmvOp) := withOp (.qmv q) (some 0) (trapAll (owns w4))
    let ok (q : QmvOp) : Prop := (s q).hasCtx (s q).cur = true ∧
      (s q).me.findOp 7 = some (anOp (.qmv q) (some 0) (trapAll (owns w4))) ∧ q.quarters.Nodup ∧ q.trapnf ≠ 0 ∧
      q.out = [] ∧ q.ev = [] ∧ (s q).me.ended = false ∧ (s q).me.kind = .group ∧ (s q).me.handler = none ∧
      (s q).myTask.l.lanehnd ≠ 0
    let ev (x : Word) : Ev := (fmt32.fma 0 (fmt32.val 0) (fmt32.val x.toNat) (some (fmt32.val 0x80000000))).ev
    ok (aQmv 0 1 [0]) ∧ ok (aQmv 0x7FC00000 1 [0]) ∧ ok (aQmv 0 0x101 [0, 1]) ∧ 1 ≠ 0 ∧ ev 0 = 0 ∧
      (ev 0x7FC00000).getLsbD 3 = true ∧ (15 : BitVec 4).getLsbD 3 = true ∧
      (∀ l, l < 32 → inMask 1 l = true → l / 8 ∈ [0]) := by decide +kernel

/-- A held QMV of four outputs whose lane 1 was patched. -/
theorem test_patched_hypotheses :
    let q : QmvOp := aQmv 0 3 []
    let o : Op := ⟨7, 0, some 0, 0, 0, 0, 0, .qmv q, [], true⟩
    let tr : LaneTrap := ⟨1, causeNonfinite, 3, 0, 2, true, some [1, 2, 3, 4], true⟩
    let h : Held := { aHeld with traps := [tr], dest := 4, width := 4, rotate := 0, op := some o }
    let s := grp (fun g => { (g.raiseFlag (some 0)) with held := [(0, h)], ops := [o] }) w0
    s.hasCtx s.cur = true ∧ s.me.held.look 0 = some h ∧ h.op = some o ∧ q.quarters = [] ∧ h.whole = false ∧
      inMask h.active 0 = true ∧ inMask h.active 1 = true ∧ h.traps.find? (fun x => x.lane = 1) = some tr ∧
      tr.b.toNat / 4 * 4 + 4 ≤ h.width := by decide

theorem test_constant_hypotheses :
    let s := reg 5 (131072 - 64) (owns w4)
    let q : QmvOp := ⟨4, 4, 4, 8, 0, 1, 1, [0], [], 0, 0, [], []⟩
    s.plain = true ∧ s.vAll [⟨4, 4, 4⟩, ⟨8, 4, 4⟩] = true ∧ (grp (fun g => { g with regalloc := 8 }) s).vAll [⟨8, 4, 4⟩] = false ∧
      (s.sreg 5).toNat + 4 * 4 * 4 ≤ 131072 ∧ 131072 < ((reg 5 131056 s).sreg 5).toNat + 4 * 4 * 4 ∧
      ((reg 5 2 s).sreg 5).toNat % 4 ≠ 0 ∧ s.me.trapnf = 0 ∧ s.active ≠ 0 ∧
      (ctx (fun c => { c with pred := 0 }) s).active = 0 ∧ q.quarters.Nodup ∧
      (withOp (.qmv q) (some 0) s).me.findOp 7 = some (anOp (.qmv q) (some 0) s) := by decide

/-- The only group of its team has arrived at a REORDER of v4 with v8. -/
def arrived (b : Bool) (s : State) : State :=
  task (fun k => { k with l := { k.l with quota := 32 } }) (ctx (fun c => { c with stop := .reorder ⟨4, 8, 1, 5, false⟩ b }) s)

theorem test_reorder_hypotheses :
    let s := arrived true w0
    let d := arrived false w0
    let k := s.me.team
    (w0.vAll [⟨4, 1, 1⟩, ⟨8, 1, 1⟩] = true ∧ w0.me.kind = .group ∧ w0.inHandler = false ∧ (handling 0 w0).inHandler = true ∧ w0.me.ctxs.length = 1 ∧ w0.me.records = [] ∧
        (contexts 2 w0).me.ctxs.length ≠ 1 ∧ w0.arrivedBars w0.me.team = 0 ∧ w0.me.ops = []) ∧
      ((d.grp d.cur.g).ctx 0 = d.ctx ∧ d.ctx.stop = .reorder ⟨4, 8, 1, 5, false⟩ false ∧ d.plain = true) ∧
      ((s.teams.look k).isSome = true ∧ (s.team k).yieldPending = false ∧ (s.team k).reordering = false ∧
        (s.team k).slots = [(0, .at ⟨0, 0, 0⟩)] ∧ (s.grp ⟨0, 0, 0⟩).arrival = some (0, ⟨4, 8, 1, 5, false⟩) ∧
        (s.grp ⟨0, 0, 0⟩).live ≠ 0 ∧ (s.grp ⟨0, 0, 0⟩).ended = false ∧
        s.teams.keys = [k] ∧ countMask (s.grp ⟨0, 0, 0⟩).live ≤ (s.task (s.team k).task).l.quota ∧
        s.madderUsed (s.team k).clusterOf + min (countMask (s.grp ⟨0, 0, 0⟩).live) 32 * 12 ≤ 524288) ∧
      (let r := team (fun m => { m with reordering := true }) s
       (r.team k).reordering = true ∧ (r.members k).length = (r.memberSlots k).length ∧
         ((r.memberSlots k).map SlotRef.key).Nodup ∧ r.memberSlots k = [⟨0, 0, 0⟩] ∧
         (r.grp ⟨0, 0, 0⟩).arrival.map (fun x => (x.2.align, x.2.n)) = some (false, 1)) := by decide

/-- Two groups of one team have arrived at REORDERs of different payload; the task has a group handler. -/
def unlike : State :=
  let s := task (fun j => { j with l := { j.l with tvec := 0x1010 } })
    (team (fun m => { m with slots := [(0, .at ⟨0, 0, 0⟩), (1, .at ⟨0, 0, 4⟩)] }) (arrived true w0))
  { s with groups := s.groups.ins (SlotRef.key ⟨0, 0, 4⟩) { s.me with
      gi := 1, ctxs := [(0, { s.ctx with stop := .reorder ⟨4, 9, 1, 5, false⟩ true })] } }
theorem test_unlike_hypotheses :
    let s := unlike
    let k := s.me.team
    s.memberSlots k = [⟨0, 0, 0⟩, ⟨0, 0, 4⟩] ∧ (s.members k).length = 2 ∧ (s.team k).yieldPending = false ∧ (s.team k).reordering = false ∧
      (s.grp ⟨0, 0, 0⟩).arrival = some (0, ⟨4, 8, 1, 5, false⟩) ∧ (s.grp ⟨0, 0, 4⟩).arrival = some (0, ⟨4, 9, 1, 5, false⟩) ∧
      s.teams.keys = [k] ∧ s.madderUsed (s.team k).clusterOf + s.madderNeed k ≤ 524288 ∧
      (∀ g ∈ s.memberSlots k, slotOfKey g.key = g ∧ (s.grp g).kind = .group ∧ (s.grp g).handler = none ∧
        (s.task (s.grp g).task).l.tvec ≠ 0) ∧ ((s.memberSlots k).map SlotRef.key).Nodup := by decide

/-! ## Statements about launches, Mordant objects, channels, budgets and saves: their hypotheses can be met -/

def queue (f : Queue → Queue) (s : State) : State := { s with io := { s.io with queues := s.io.queues.put Queue.empty 1 (f (s.queue 1)) } }

/-- A record at 0x1100 of one group of eight registers, a descriptor at 0x1200, one with too large a quota at 0x1240 and
a SPAWN descriptor at 0x1260; the task may have eight children, s5, s6, s7 hold the descriptors and a counter of the
scratchpad, and queue 1 is live with the first descriptor pending. -/
def w6 : State :=
  queue (fun x => { x with qctl := 0x401, qbase := 0x1200, qtail := 1 })
    (reg 7 (spw + 64) (reg 6 0x1260 (reg 5 0x1200 (task (fun k => { k with d := { k.d with quota := 8 } })
      (code 0x270 1 1 (code 0x260 8 0x1000 (code 0x256 2 0xFFFF (code 0x240 8 0x1100 (code 0x200 8 0x1100
        (code 0x12A 2 1 (code 0x120 4 0x101 (code 0x100 2 4 w2))))))))))))

theorem test_launch_hypotheses :
    let s := w6
    s.plain = true ∧ s.full s.flagB = false ∧ s.me.kind = .group ∧ s.me.gi = 0 ∧ (grp (fun g => { g with gi := 1 }) s).me.gi ≠ 0 ∧
      s.sreg 5 % 64 = 0 ∧ s.sreg 6 % 64 ≠ 0 ∧ s.sreg 6 % 32 = 0 ∧ (s.sreg 7).toNat % 64 = 0 ∧
      s.checkRange s.cur.g (s.sreg 5) 64 false = .ok ∧ s.checkRange s.cur.g (s.sreg 6) 32 false = .ok ∧
      s.badCounter (s.sreg 6) = true ∧ s.badCounter (s.sreg 7) = false ∧
      s.readN (s.myTeam.spad 64) 4 = 0 ∧ (s.writeN (s.myTeam.spad 64) 4 1).readN (s.myTeam.spad 64) 4 ≠ 0 ∧
      (withOp (.launch 0 0 0 0) none s).released s.cur.g (anOp (.launch 0 0 0 0) none s) = true ∧
      s.me.findOp s.serial = none ∧ s.hasCtx ⟨s.cur.g, 0⟩ = true ∧ s.dead (s.grp s.cur.g).task = false := by decide

theorem test_children_hypotheses :
    let child := { w6 with tasks := w6.tasks.ins 7 { w6.myTask with parent := some w6.me.task, phase := .accepted } }
    let s := child.modDie 0 (fun d => { d with pool := [(3, 7)], poolGen := [(3, 1)] })
    let h : DWord := 0x100000003
    s.taskOfHandle 0 = none ∧ s.taskOfHandle h = some 7 ∧ (s.task 7).parent = some s.me.task ∧
      s.grantTarget 1 h = some 7 ∧ s.grantTarget 1 0 = none ∧ s.teamsOf 7 = [] ∧ s.myTeam.task ≠ 7 ∧
      (s.tasks.look 7).isSome = true ∧ s.childEntries 0 s.me.task = 1 := by decide

def capGrant (scope : Nat) : Cap := ⟨5, 0, 0, bytesOf 8 1 scope, 10, 10⟩

theorem test_grant_hypotheses :
    let s := task (fun k => { k with caps := [(0, capGrant 0), (1, capGrant 1)] }) w0
    let l := withOp (.grant w2.me.task 3 4) (some 1) w2
    (l.hasGrp l.cur.g = true ∧ l.me.findOp 7 = some (anOp (.grant w2.me.task 3 4) (some 1) w2) ∧
        (l.tasks.look w2.me.task).isSome = true) ∧
      s.capErr 9 [5] = some 1 ∧ s.capErr 0 [5] = none ∧ s.capErr 1 [5] = none ∧ (s.cap 0).scope = 0 ∧ (s.cap 1).scope = 1 ∧
      (s.cap 0).ins = 10 ∧ (s.cap 0).bytesLeft = 10 := by decide

/-- A descriptor with a translation, and one without, on a flag that holds no error. -/
theorem test_gone_hypotheses :
    let s := withOp (.launch 0 0x40000000 0 0) (some 1) w6
    s.readable s.cur.g 0x1200 64 = true ∧ s.readable s.cur.g 0x40000000 64 = false ∧ s.readable s.cur.g 0x40000000 32 = false ∧
      (anOp (.launch 0 0x40000000 0 0) (some 1) w6).flag = some 1 ∧ (s.me.flag 1).err = none ∧
      s.asidMoves (s.task s.me.task).asid 0x40000000 64 = false := by decide

def bytes (n : Nat) (f : Nat → Byte) : List Byte := (List.range n).map f
def recordBytes : List Byte := bytes 128 (fun i => if i = 0 then 4 else if i = 32 ∨ i = 33 ∨ i = 42 then 1 else 0)
def descBytes : List Byte := bytes 64 (fun i => if i = 1 then 0x11 else 0)
def badBytes : List Byte := bytes 32 (fun i => if i = 1 then 0x11 else if i = 22 ∨ i = 23 then 0xFF else 0)
def spawnBytes : List Byte := bytes 32 (fun i => if i = 1 then 0x10 else if i = 16 then 1 else 0)
theorem record_bytes : w6.asidBytes 0 0x1100 128 = some recordBytes := by decide +kernel
theorem desc_bytes : w6.vbytes w6.cur.g 0x1200 64 = descBytes := by decide +kernel
theorem bad_bytes : w6.vbytes w6.cur.g 0x1240 64 = badBytes ++ spawnBytes := by decide +kernel

theorem test_launch_descriptor_hypotheses :
    let d := descriptorOf (w6.vbytes w6.cur.g 0x1200 64)
    let bad := descriptorOf (w6.vbytes w6.cur.g 0x1240 64)
    w6.recordMoves 0 d.krec = false ∧ w6.recordMoves 0 bad.krec = false ∧ (w6.checkDescriptor 0 d).isSome = true ∧
      w6.checkDescriptor 0 bad = none := by
  have hm : w6.recordMoves 0 0x1100 = false := by simp only [State.recordMoves, record_bytes]; decide
  have hr : (w6.launchRecord 0 0x1100).isSome = true := by simp only [State.launchRecord, record_bytes]; decide
  simp only [desc_bytes, bad_bytes]
  have k : (descriptorOf descBytes).krec = 0x1100 ∧ (descriptorOf (badBytes ++ spawnBytes)).krec = 0x1100 ∧
    (descriptorOf descBytes).clean = true ∧ ¬4096 < (descriptorOf descBytes).quota ∧
    4096 < (descriptorOf (badBytes ++ spawnBytes)).quota := by decide +kernel
  refine ⟨k.1 ▸ hm, k.2.1 ▸ hm, ?_, ?_⟩
  · rw [State.checkDescriptor, if_neg (by simp [k.2.2.1, k.2.2.2.1]), k.1]
    exact hr
  · rw [State.checkDescriptor, if_pos (Or.inr k.2.2.2.2)]

theorem test_child_hypotheses :
    let s := w6
    let j := s.task s.me.task
    s.asidMoves j.asid 0x1200 64 = false ∧ j.asid = 0 ∧ j.depth ≠ 10 ∧ s.childEntries s.cur.g.die s.me.task < j.d.quota ∧
      (s.teams.look s.me.team).isSome = true ∧ (s.team s.me.team).task ≠ s.serial ∧ s.asidMoves j.asid 0x1260 32 = false ∧
      s.badSpawn s.me.task (spawnOf spawnBytes) = false ∧ s.badSpawn s.me.task (spawnOf badBytes) = true ∧
      (s.taskQueues.get [] 0).length < 256 := by decide

/-- Lanes 32 bytes on: the SPAWN descriptor's bytes. -/
theorem test_spawn_bytes : w6.vbytes w6.cur.g 0x1260 32 = spawnBytes := by decide +kernel
theorem test_full_task_queue : 256 ≤ (SMap.get ([(0, List.range 256)] : SMap (List Nat)) [] 0).length := by
  simp [SMap.get, SMap.look]

theorem none_held (n : Nat) (h : 0 < n) : (List.range n).filter (fun i => (SMap.look ([] : SMap Nat) i).isNone) ≠ [] :=
  fun e => List.filter_eq_nil_iff.mp e 0 (List.mem_range.mpr h) rfl

theorem free_entry_of (s : State) (d : Nat) (h : (s.die d).pool = []) : ∃ e, s.freeEntry d = some e := by
  have n := none_held 4096 (by omega)
  unfold State.freeEntry
  simp only [h, if_neg n]
  exact ⟨_, List.getElem?_eq_getElem (Nat.mod_lt _ (List.length_pos_of_ne_nil n))⟩

/-- A pool with an entry that nothing holds has an entry to take, whichever the free value takes. -/
theorem test_free_entry : ∃ e, w6.freeEntry w6.cur.g.die = some e := free_entry_of _ _ (by decide)

theorem held_of_mem (i : Nat) : ∀ l : List Nat, i ∈ l → (SMap.look (l.map (fun i => (i, 0))) i).isNone = false
  | a :: r, h => by
    by_cases e : a = i
    · simp [SMap.look, e]
    · simp [SMap.look, e, held_of_mem i r ((List.mem_cons.mp h).resolve_left (Ne.symm e))]

/-- A pool of 4096 entries that are all held has none. -/
def fullPool : State := w6.modDie 0 (fun d => { d with pool := (List.range 4096).map (fun i => (i, 0)) })
theorem test_no_free_entry : fullPool.freeEntry 0 = none := by
  have h : (List.range 4096).filter (fun i => ((fullPool.die 0).pool.look i).isNone) = [] := by
    refine List.filter_eq_nil_iff.mpr (fun i hi => ?_)
    simp [fullPool, State.die_modDie, held_of_mem i _ hi]
  simp only [State.freeEntry, if_pos h]

def capMor : Cap := ⟨4, 0, 0, bytesOf 8 1 64, 0, 0⟩
def w7 : State :=
  reg 9 0x8000 (reg 8 0x1010 (reg 7 0x301 (reg 6 0x40 (reg 5 0x1000
    (task (fun k => { k with caps := [(0, capMor)], leases := [⟨loadVa, 4096, true, false, true⟩] }) (code 16 4 0x11 w2))))))

/-- A request of another group, and an object at the first line of the code page. -/
def aReq : MReq := ⟨⟨0, 0, 9⟩, 7, 0, 5, 0⟩
def anObject : Mordant :=
  { va := 0x1000, task := w7.me.task, cap := 0, method := 0x1000, lines := 1, aw64 := false, rw64 := false, reg := (0, 0),
    poisoned := false, releasing := false, opened := [], since := 0, closed := [], wave := none,
    batch := ⟨[], 0, 1, false, false⟩, heldLines := [], held := [], zeros := [], replies := [] }
def objectKey : Nat := loadFrame + loadVa
def objects (m : Mordant) (s : State) : State := { s with mordant := [(objectKey, m)] }

theorem test_mordant_hypotheses :
    let s := w7
    let hit := s.xplain s.cur.g (va56 0x1000)
    s.plain = true ∧ s.capErr 0 [4] = none ∧ s.capErr 1 [4] = some 1 ∧ s.sreg 6 &&& ~~~(0x833F : DWord) ≠ 0 ∧
      s.sreg 7 &&& ~~~(0x833F : DWord) = 0 ∧ s.sreg 9 &&& ~~~(0x833F : DWord) = 0 ∧ (s.sreg 9).getLsbD 15 = true ∧
      (s.sreg 7).getLsbD 15 = false ∧ (s.sreg 5).toNat % 64 = 0 ∧ (s.sreg 8).toNat % 64 ≠ 0 ∧
      s.checkRange s.cur.g (s.sreg 5) (64 * ((s.sreg 7).toNat % 64 + 1)) true = .ok ∧
      s.myTask.writable (s.sreg 5).toNat (64 * ((s.sreg 7).toNat % 64 + 1)) = true ∧
      (match hit with | .hit x => decide (x.phys (va56 0x1000) = objectKey) | _ => false) = true ∧
      s.checkTarget (s.sreg 8) = .ok ∧ s.vAll [⟨4, 4, 1⟩] = true ∧
      (grp (fun g => { g with regalloc := 8 }) s).vAll [⟨6, 4, 1⟩] = false ∧ s.active ≠ 0 ∧
      (ctx (fun c => { c with pred := 0 }) s).active = 0 := by decide

theorem test_slice_hypotheses :
    let s := withOp (.mreg 0x1000 0x1000 1 0 objectKey) (some 1) w7
    let t := objects { anObject with task := 9 } s
    s.hasGrp s.cur.g = true ∧ s.me.findOp 7 = some (anOp (.mreg 0x1000 0x1000 1 0 objectKey) (some 1) w7) ∧
      s.objectOf s.me.task 0x1000 = none ∧ (objects anObject s).objectOf s.me.task 0x1000 = some objectKey ∧
      (objects anObject s).mordant.look objectKey = some anObject ∧ s.mordant.look objectKey = none ∧
      s.sliceFailure s.me.task 0 objectKey = none ∧ t.sliceFailure s.me.task 0 objectKey = some 2 ∧
      (s.me.flag 1).err = none ∧ (0x8000 : DWord).getLsbD 15 = true ∧ (1 : DWord).getLsbD 15 = false := by decide

theorem test_request_hypotheses :
    let k : OpKind := .mreq 1 4 0x1000 [(0, 5)] 1 0
    let s := withOp k (some 1) w7
    let full := { anObject with opened := (List.range 31).map (fun l => { aReq with lane := l }) }
    s.hasGrp s.cur.g = true ∧ s.me.findOp 7 = some (anOp k (some 1) w7) ∧ inMask 1 0 = true ∧ inMask 0 0 = false ∧
      s.released s.cur.g (anOp k (some 1) w7) = true ∧ s.mreqBefore s.cur.g (anOp k (some 1) w7) 0x1000 = false ∧
      canonical 0x1000 = true ∧ s.xplain s.cur.g (va56 0x40000000) = .missing ∧ s.mordant.look objectKey = none ∧
      (objects anObject s).buffered objectKey < 1024 ∧ (objects full s).buffered objectKey < 1024 ∧
      full.opened.length = 31 ∧ (0 * 2 / 3 + 64 ≤ ({ s with tick := 96 } : State).tick * 2 / 3) ∧
      s.tick * 2 / 3 < 0 * 2 / 3 + 64 ∧
      ({ anObject with opened := List.replicate 32 aReq } : Mordant).opened.length = 32 ∧ anObject.opened.length < 32 ∧
      0 * 2 / 3 < anObject.since * 2 / 3 + 64 := by decide

theorem test_combiner_hypotheses :
    let b : Batch := ⟨[aReq], 0x1000, 1, false, false⟩
    let s := objects { anObject with closed := [b] } w7
    let w := grp (fun g => { g with kind := .combiner objectKey, regalloc := 64 }) w7
    let v := objects { anObject with wave := some w7.cur.g, batch := b, held := [(objectKey, 1), (objectKey + 1, 2)] } w
    let k : OpKind := .mreq 1 4 0x1000 [(0, 5)] 1 1
    let r := { v with groups := v.groups.ins (SlotRef.key ⟨0, 0, 9⟩) { v.me with kind := .group, ops := [anOp k none w7] } }
    s.combinerSlot objectKey ≠ none ∧ s.extentLines (s.task w7.me.task).asid 0x1000 1 = some [objectKey / 64] ∧
      s.lineOwned (objectKey / 64) = false ∧ s.lineHeld (objectKey / 64) = false ∧ s.dead w7.me.task = false ∧ b.reqs.length ≤ 32 ∧
      (v.here = true ∧ v.me.kind = .combiner objectKey ∧ v.vAll [⟨4, 1, 1⟩] = true ∧ v.full v.flagB = false) ∧
      (v.me.drained v.cur.i false = true ∧ v.storeFault v.cur.g = none ∧ v.me.engineErrs = [] ∧ (∀ f, f < 12 → (v.me.flag f).err = none) ∧
        [objectKey, objectKey + 1].Nodup ∧ aReq.g.key ≠ v.cur.g.key ∧ r.hasGrp aReq.g = true ∧
        (r.grp aReq.g).findOp aReq.op = some (anOp k none w7)) ∧
      (v.grp v.cur.g).executed < 4096 ∧ ((grp (fun g => { g with executed := 4096 }) v).grp v.cur.g).executed = 4096 ∧
      (grp (fun g => { g with executed := 4096 }) v).ready v.cur = true ∧ v.me.ctxs = [(0, v.ctx)] := by
  decide

/-- The wave of an object whose registering group and one requester stand in slot 9; the fault ring has room or not. -/
theorem test_abort_hypotheses :
    let b : Batch := ⟨[aReq], 0x1000, 1, false, false⟩
    let m : Mordant := { anObject with wave := some w7.cur.g, batch := b, held := [(objectKey, 1)], reg := (w7.me.team, 0) }
    let k : OpKind := .mreq 1 4 0x1000 [(0, 5)] 1 1
    let w := team (fun t => { t with slots := [(0, .at ⟨0, 0, 9⟩)] })
      (grp (fun g => { g with kind := .combiner objectKey, regalloc := 64 }) (objects m w7))
    let s := { w with groups := w.groups.ins (SlotRef.key ⟨0, 0, 9⟩) { w.me with kind := .group, ops := [anOp k none w7] } }
    let open_ : State := { s with io := { s.io with fault := { s.io.fault with ctl := 0x401, base := 0x40000000 } } }
    s.mordant.look objectKey = some m ∧ m.releasing = false ∧ m.closed = [] ∧ m.opened = [] ∧ s.hasGrp aReq.g = true ∧
      aReq.g.key ≠ w7.cur.g.key ∧ aReq.lane < 32 ∧ (s.grp aReq.g).findOp aReq.op = some (anOp k none w7) ∧ inMask 1 aReq.lane = true ∧
      ((s.team m.reg.1).slots.look m.reg.2 = some (.at ⟨0, 0, 9⟩)) ∧
      open_.ringOpen open_.io.fault = true ∧ open_.io.fault.held = [] := by decide

def capChan (dir : Nat) : Cap := ⟨6, 0, 0, bytesOf 8 2 4095 ++ bytesOf 11 1 dir ++ bytesOf 12 1 1, 0, 0⟩
def capPeer (n : Nat) : Cap := ⟨6, 0, 0, bytesOf 8 2 n ++ bytesOf 11 1 1 ++ bytesOf 12 1 1, 0, 0⟩
def capRoute : Cap := ⟨7, 0, 0, bytesOf 10 2 4, 0, 0⟩
def w8 : State := task (fun k => { k with caps := [(0, capChan 0), (1, capChan 1), (2, capRoute), (3, capPeer 3)] }) w2
def aMsg : ChanMsg := ⟨[1, 2], 3⟩

theorem test_channel_hypotheses :
    let s := w8
    let send : OpKind := .chsend 0 [1, 2] 3
    let recv : OpKind := .chrecv 1 4 3
    let key := 256 * 4095
    let t := withOp send (some 1) s
    let u := { withOp recv (some 1) s with channels := [(key, [aMsg])] }
    (s.plain = true ∧ s.full s.flagB = false ∧ s.vAll [⟨4, 2, 1⟩] = true ∧ s.capErr 0 [6] = none ∧ s.capErr 9 [6] = some 1 ∧
        (s.cap 0).dir = 0 ∧ (s.cap 1).dir = 1 ∧ s.capErr 1 [6] = none) ∧
      (s.capErr 2 [7] = none ∧ (s.cap 2).routeLen = 4 ∧ (s.cap 2).routeBase = 0) ∧
      (t.hasGrp t.cur.g = true ∧ t.me.findOp 7 = some (anOp send (some 1) s) ∧ t.released t.cur.g (anOp send (some 1) s) = true ∧
        t.sendTurn key 7 = true ∧ (t.cap 0).peer = 4095 ∧ 256 * (t.cap 0).peer + (t.cap 0).chan = key ∧ (t.cap 0).depth = 1 ∧
        (t.channels.get [] key).length < 1 ∧ 1 ≤ (({ t with channels := [(key, [aMsg])] } : State).channels.get [] key).length) ∧
      (u.me.findOp 7 = some (anOp recv (some 1) s) ∧ u.channels.get [] key = [aMsg] ∧
        u.recvsBefore key u.cur.g (anOp recv (some 1) s) = false ∧ u.absentSaved u.cur.g = false ∧
        (ctx (fun c => { c with stop := .saved none }) u).absentSaved u.cur.g = true) ∧
      ((s.cap 3).kind = 6 ∧ (s.cap 3).dir = 1 ∧ (s.cap 3).peer = 3 ∧ s.io.down = [] ∧ (s.cap 3).depth = 1 ∧
        (t.me.flag 1).err = none) := by decide

theorem test_full_flag_hypotheses :
    let s := ctx (fun c => { c with setB := 1 }) (grp (fun g => { g with flags := [(1, ⟨63, none⟩)] }) w0)
    s.plain = true ∧ s.full s.flagB = true ∧ w0.full w0.flagB = false := by decide

/-- A send that a save carries, of a team without and with a save block. -/
theorem test_carried_hypotheses :
    let t := withOp (.chsend 0 [1, 2] 3) (some 1) w8
    let u : State := { team (fun m => { m with slots := [(0, .image t.me t.cur.g)] }) t with groups := [] }
    let v := { u with io := { u.io with blocks := [(teamBlock t.me.team, (0, 1024))] } }
    (u.grp t.cur.g).findOp 7 = none ∧
      u.carried 7 = some ⟨t.me.team, 0, t.me, anOp (.chsend 0 [1, 2] 3) (some 1) w8⟩ ∧ u.sendTurn (256 * 4095) 7 = true ∧
      (u.channels.get [] (256 * 4095)).length < ((u.task t.me.task).cap 0).depth ∧ u.teams.keys.Nodup ∧
      (u.team t.me.team).slots.keys.Nodup ∧ ((u.task t.me.task).cap 0).peer = 4095 ∧ u.groupBlock t.me.team 0 = none ∧
      (v.groupBlock t.me.team 0).isSome = true := by decide
theorem test_own_channel : isOwnPeer 4095 = true := by simp [isOwnPeer]

/-- A row that a peer behind a port owns. -/
theorem test_port_hypotheses :
    ∃ n, let f := aFab false (0x8000 + n)
      let s := copying 4 (.fabric 0 f) w5
      let p := peerPortOf n
      p < 12 ∧ p ∉ s.io.down ∧ slotOfKey s.cur.g.key = s.cur.g ∧ s.groups.keys = [s.cur.g.key] ∧
        s.me.ops = [anOp (.fabric 0 f) (some 1) w5] ∧ f.rows = [⟨0, 0, 0⟩] ∧ f.behind p = [⟨0, 0, 0⟩] := by
  obtain ⟨n, h, e⟩ := other_peer
  refine ⟨n, Nat.mod_lt _ (by decide), List.not_mem_nil, ?_, by rfl, by rfl, by rfl, ?_⟩
  · show slotOfKey w5.cur.g.key = w5.cur.g
    decide
  have o : (aFab false (0x8000 + n)).owner 0 = 0x8000 + n := by simp [FabOp.owner, aFab]
  have m : (0x8000 + n) % 0x8000 = n := by omega
  have l : (aFab false (0x8000 + n)).isLocal 0 = false := by simp only [FabOp.isLocal, o]; exact decide_eq_false (by omega)
  have k : (aFab false (0x8000 + n)).isLoop 0 = false := by rw [FabOp.isLoop, l, o, e]; rfl
  have r : (aFab false (0x8000 + n)).rows = [⟨0, 0, 0⟩] := rfl
  have x : decide (0 < (aFab false (0x8000 + n)).len) = true := rfl
  have y : decide (0 < (aFab false (0x8000 + n)).td.rows) = true := by
    show decide (0 < (mkTd 4096 1 8 32 0 1 1).rows) = true; decide
  simp [FabOp.behind, r, l, k, o, m, x, y]

/-- A send to another part behind a port that is down, or up. -/
theorem test_send_down_hypotheses :
    ∃ n, let s := task (fun k => { k with caps := [(3, capPeer n)] }) (withOp (.chsend 3 [1] 1) (some 1) w8)
      let t := { s with io := { s.io with down := [peerPortOf n] } }
      (s.cap 3).peer = n ∧ isOwnPeer (t.cap 3).peer = false ∧ peerPortOf (t.cap 3).peer ∈ t.io.down ∧
        peerPortOf (s.cap 3).peer ∉ s.io.down := by
  obtain ⟨n, h, e⟩ := other_peer
  have m : (0x8000 + n) % 0x8000 = n := by omega
  rw [m] at e
  have d (x : State) : (task (fun k => { k with caps := [(3, capPeer n)] }) x).io = x.io := rfl
  refine ⟨n, ?_⟩
  rcases h with rfl | rfl
  all_goals
    refine ⟨by decide, ?_, ?_, by rw [d]; exact List.not_mem_nil⟩
    · exact e
    · exact List.mem_cons_self

/-- An armed entry whose count reaches HOTTHR, and one that is not armed. -/
theorem test_hot_hypotheses :
    let e (x : Nat) : Nat := (BitVec.ofNat 64 x).toNat
    e (2 ^ 63 + 2 ^ 60 + 5) / 2 ^ 60 % 2 = 1 ∧ e (2 ^ 63 + 2 ^ 60 + 5) / 2 ^ 61 % 4 < 3 ∧ e (2 ^ 63 + 5) / 2 ^ 60 % 2 ≠ 1 ∧
      (w8.modDie 0 (fun d => { d with hotthr := 1 })).die 0 ≠ w8.die 0 ∧
      ((w8.modDie 0 (fun d => { d with hotthr := 1 })).die 0).hotthr ≤ 1 := by decide

/-- Whichever weights firmware names, w8 leaves them idle; a wave that holds their line, where they are those, does not. -/
theorem test_idle_hypotheses :
    (∀ a n, w8.rangeBusy a n = false ∧ w8.moving a n = false) ∧
      (let m := objects { anObject with wave := some w7.cur.g, heldLines := [64] } w8
       m.rangeBusy 4096 64 = true ∧ m.rangeBusy 8192 64 = false) := by
  refine ⟨fun a n => ⟨?_, ?_⟩, by decide⟩
  · have m : w8.mordant = [] := by decide
    have o : w8.groups.all (fun e => e.2.ops.isEmpty) = true := by decide
    have g : w8.groups.any (fun e => e.2.ops.any (fun o => o.own.any (fun x => decide (64 * x < a + n) && decide (a < 64 * x + 64)))) = false := by
      refine List.any_eq_false.mpr (fun e h => ?_)
      have e' := List.all_eq_true.mp o e h
      rw [List.isEmpty_iff] at e'
      simp [e']
    rw [State.rangeBusy, m, g]; rfl
  · have m : w8.io.migrations = [] := by decide
    rw [State.moving, m]; rfl

set_option maxRecDepth 4096 in
theorem test_route_hypotheses :
    let s := w8.modDie 0 (fun d => { d with expert := [(0, 2 ^ 63 + 5)], replicas := [0], hotthr := 9 })
    let hit := ctx (fun c => { c with pred := 1 }) s
    lanesOf hit.active = [0] ∧ (s.me.vreg 4 0).toNat < (s.cap 2).routeLen ∧ 2 ^ 63 ≤ ((s.die 0).expert.get 0 0).toNat ∧
      ((s.die 0).expert.get 0 1).toNat < 2 ^ 63 ∧ 1 < (s.die 0).hotthr ∧ 0 ∈ (s.die 0).replicas ∧ 1 ∉ (s.die 0).replicas ∧
      ((s.die 0).expert.get 0 0).toNat / 2 ^ 61 % 4 + 1 ≤ 3 ∧ Memory.wf s.mem = true ∧
      (withOp (.exproute 4 [⟨0, some 0, 0⟩] [(0, 2 ^ 63 + 5)]) (some 1) s).me.findOp 7 =
        some (anOp (.exproute 4 [⟨0, some 0, 0⟩] [(0, 2 ^ 63 + 5)]) (some 1) s) ∧
      SMap.look ([(0, 2 ^ 63 + 5)] : SMap DWord) 0 = some ((s.die 0).expert.get 0 0) ∧ 2 ∈ ({ s.io with down := [2] } : IoDie).down ∧ 2 ∉ s.io.down := by
  decide

theorem test_budget_hypotheses :
    let s := team (fun m => { m with topI := some 5 }) w2
    let low (n : Int) := task (fun k => { k with pi := 0 }) (team (fun m => { m with ci := n, ct := n }) w2)
    let r := task (fun k => k) (team (fun m => { m with retired := true, topI := some 5 }) w2)
    let t := s.me.team
    (s.teams.look t).isSome = true ∧ (w2.team t).topI = none ∧ (s.team t).topI = some 5 ∧ (s.team t).retired = false ∧
      (w2.team t).evicted = false ∧ (0 < (low 1).myTeam.ci ∧ 0 < (low 1).myTeam.ct) ∧
      ((low 0).myTeam.ci ≤ 0 ∧ (low 0).myTask.pi ≤ 0 ∧ (low 0).myTeam.topI = none) ∧
      ((r.team t).retired = true ∧ (r.tasks.look (r.team t).task).isSome = true) := by decide

/-- A team that draws a top-up of both counters, one with a top-up in flight, and one whose pool is empty. -/
theorem test_topup_start_hypotheses :
    let s := task (fun k => { k with pi := 10, pt := 10, unplaced := 2 }) (team (fun m => { m with ci := 0, ct := -3 }) w2)
    let t := s.me.team
    let f := team (fun m => { m with topI := some 5 }) s
    s.teams.keys.Pairwise (fun a b => a < b) ∧ (s.teams.look t).isSome = true ∧ (s.team t).retired = false ∧ (s.team t).evicted = false ∧
      (s.tasks.look (s.team t).task).isSome = true ∧ (s.team t).ci ≤ 0 ∧ (s.team t).ct ≤ 0 ∧ (s.team t).topI = none ∧
      (s.team t).topT = none ∧ 0 < (s.task (s.team t).task).pi ∧ 0 < (s.task (s.team t).task).pt ∧
      (∀ e ∈ s.teams, ¬e.1 < t) ∧ (f.team t).topI.isSome = true ∧ (task (fun k => { k with pi := 0 }) s).myTask.pi ≤ 0 := by decide

/-- A top-up of a team that is out, with its save block. -/
theorem test_evicted_topup_hypotheses :
    let s := withBlock (team (fun m => { m with topI := some 5, evicted := true }) w2)
    let t := s.me.team
    (s.teams.look t).isSome = true ∧ (s.team t).topI = some 5 ∧ (s.team t).retired = false ∧ (s.team t).evicted = true ∧
      (s.blockAddr (teamBlock t)).isSome = true := by decide

/-- A group of eight registers whose team has a save block, and one whose forced save is due. -/
def small (s : State) : State := withBlock (grp (fun g => { g with regalloc := 8 }) s)
def forced : State :=
  ctx (fun c => { c with due := true }) (team (fun m => { m with yieldPending := true })
    (grp (fun g => { g with graceDue := true }) (small (code 0 4 0x11 w2))))
def aBlock : Nat := 0x400000 + 0xB100

/-- The frame of context 0 in the block names the header that stands at 0x1010. -/
def framed (s : State) : State := s.writeN (aBlock + 0x100 + 512) 8 0x1010

/-- A context of these lanes saved by YIELD with no register kept, and its lane set in the block. -/
def yielded (m : Word) : State :=
  (framed (ctx (fun c => { c with stop := .saved (some 0), p0 := m }) (small (code 16 4 0x11 w2)))).writeN
    (aBlock + 0x100 + 520) 4 m.toNat

/-- A group after a forced save, with its allocation, its context, its stop and its lanes in the block. -/
def graced : State :=
  ((((framed (ctx (fun c => { c with stop := .graceSaved .running }) (small (code 16 4 0x11 w2)))).writeN (aBlock + 10) 2 8).writeN (aBlock + 121) 1 1).writeN
    (aBlock + 0x100 + 520) 4 0xFFFFFFFF).writeN (aBlock + 0x100 + 545) 1 15

theorem test_save_hypotheses :
    let s := yielded 0xFFFFFFFF
    let d := forced
    let bad := yielded 0
    s.hasCtx ⟨s.cur.g, 0⟩ = true ∧ (s.grp s.cur.g).kind = .group ∧ (s.team s.me.team).yieldPending = false ∧
      (team (fun m => { m with yieldPending := true }) s).myTeam.yieldPending = true ∧ s.groupBlock s.me.team 0 = some aBlock ∧
      (s.ctx.stop = .saved (some 0) ∧ s.readN (aBlock + 0x100 + 520) 4 = s.ctx.p0.toNat ∧
        bad.readN (aBlock + 0x100 + 520) 4 = bad.ctx.p0.toNat) ∧
      (d.savable d.cur.g = true ∧ d.storeFault d.cur.g = none ∧ d.me.engineErrs = [] ∧ d.me.graceDue = true ∧
        d.myTeam.yieldPending = true ∧ (d.me.ctxs.filter (fun e => !e.2.stop.asSaved)).length ≠ 0 ∧ d.me.records = [] ∧
        d.me.ctxs = [(0, d.ctx)] ∧ d.groupBlock d.me.team d.me.gi = some aBlock ∧ w2.me.graceDue = false) := by decide

theorem test_restore_hypotheses :
    let s := yielded 0xFFFFFFFF
    let bad := yielded 0
    (s.modGrp s.cur.g (s.readSaved aBlock 0 (some 0))).restorable s.cur.g [0] false = true ∧
      (bad.modGrp bad.cur.g (bad.readSaved aBlock 0 (some 0))).restorable bad.cur.g [0] false = false := by decide +kernel

theorem test_graced_hypotheses :
    let e := graced
    e.ctx.stop = .graceSaved .running ∧ e.myTeam.yieldPending = false ∧ e.groupBlock e.me.team e.me.gi = some aBlock ∧
      (e.readN (aBlock + 121) 1).testBit 0 = true ∧
      (e.modGrp e.cur.g (fun h => (e.readGroup aBlock h).clearPages 0xFFFFFFFF)).restorable e.cur.g [0] true = true ∧
      (((e.modGrp e.cur.g (fun h => (e.readGroup aBlock h).clearPages 0xFFFFFFFF)).grp e.cur.g).ctx 0).stop =
        .graceSaved .running := by
  decide +kernel

/-- A group that is to be evicted beside another of its team, and its image when it is out; its team has a save block. -/
def leaving : State :=
  ctx (fun c => { c with due := true }) (grp (fun g => { g with evicting := true })
    (team (fun m => { m with slots := [(0, .at ⟨0, 0, 0⟩), (1, .at ⟨0, 0, 4⟩)] })
      { w2 with io := { w2.io with blocks := [(teamBlock w2.me.team, (0, 1024))] } }))
def aContext : Context := { w2.ctx with due := false }
def imaged : State :=
  team (fun m => { m with slots := [(0, .image { leaving.me with ctxs := [(0, aContext)], evicting := false } ⟨0, 0, 0⟩)] }) leaving
theorem test_evict_hypotheses :
    let s := leaving
    let t := { imaged with groups := imaged.groups.del (SlotRef.key ⟨0, 0, 0⟩) }
    let k := s.me.team
    s.savable s.cur.g = true ∧ s.storeFault s.cur.g = none ∧ (s.groupBlock k 0).isSome = true ∧ s.me.evicting = true ∧
      s.dropping s.cur.g = false ∧
      (s.team k).slots = [(0, .at ⟨0, 0, 0⟩), (1, .at ⟨0, 0, 4⟩)] ∧
      (t.team k).evicted = false ∧ (t.team k).retired = false ∧ t.switchedOut (t.team k).task = false ∧
      leaving.me.regalloc / 8 ≤ t.granulesFree ⟨0, 0⟩ 0 ∧ t.freeSlots ⟨0, 0⟩ 0 ≠ [] ∧ (t.groupBlock k 0).isSome = true ∧
      aContext.p0 ≠ 0 ∧ aContext.due = false ∧ leaving.me.records = [] := by decide

/-! ## Statements about grids and teams: their hypotheses can be met -/

theorem head_bytes : w6.asidBytes 0 0x1200 64 = some descBytes := by decide +kernel

/-- The head command of queue 1 is the descriptor of the last part; with QBASE elsewhere it is the bad one, or no
memory at all. -/
theorem test_command_hypotheses :
    let s := w6
    let x := s.queue 1
    let away := queue (fun x => { x with qbase := 0x40000000 }) s
    let bad := queue (fun x => { x with qbase := 0x1240 }) s
    x.live = true ∧ x.pending ≠ 0 ∧ x.head = none ∧ (s.queue 2).qctl.getLsbD 0 = false ∧ x.asid = 0 ∧ x.headAddr = 0x1200 ∧
      s.asidMoves x.asid x.headAddr 64 = false ∧
      away.asidMoves x.asid (away.queue 1).headAddr 64 = false ∧ away.asidBytes x.asid (away.queue 1).headAddr 64 = none ∧
      (bad.queue 1).headAddr = 0x1240 ∧ bad.mem = s.mem ∧ bad.io.astbase = s.io.astbase := by decide

/-- A second task of two teams on two dies, below the first, in a phase, and head of queue 1. -/
def second (p : TaskPhase) (s : State) : State :=
  queue (fun x => { x with head := some 7, qctl := 0x401, qtail := 1 })
    { s with io := { s.io with sapsize := 0x10000000 }, tasks := s.tasks.ins 7 { s.myTask with
        phase := p, parent := some s.me.task, issuer := some s.me.team, unplaced := 2, unretired := 0, refill := [(0, [])],
        shares := [(0, [0, 2]), (1, [1])], pool := some (0, 3),
        l := { s.myTask.l with cores := BitVec.ofNat 64 (2 ^ 64 - 1), regs := 8 }
        d := { s.myTask.d with dies := [0, 1], teams := 3, sen := some 4 } } }

theorem test_accept_hypotheses :
    let s := second .resident w6
    let x := s.queue 1
    x.live = true ∧ x.pending ≠ 0 ∧ x.head = some 7 ∧ (s.tasks.look 7).isSome = true ∧
      (s.carve (taskBlock 7) 1).isSome = true ∧ (s.task 7).d.ser = false ∧ (s.task 7).phase = .resident ∧ s.dead 7 = false ∧
      (s.task 7).d.wait = none ∧ (s.task 7).parent.isSome = true ∧ (s.task 7).spawn = false ∧ (s.task 7).d.dies.Nodup ∧
      x.started = none ∧ (∀ e ∈ s.io.queues, e.2.started ≠ some (l2Cycle s.tick)) ∧ (s.io.queues.look 1).isSome = true ∧
      (∀ e ∈ s.io.queues, e.1 ≠ 1 → s.startable e.1 = false) := by decide

theorem test_queue_turn_hypotheses :
    let s := second .resident w6
    let t := { s with io := { s.io with queues := s.io.queues.ins 2 { s.queue 1 with qctl := 0x421 } } }
    let u := queue (fun x => { x with started := some 0 }) s
    (t.queue 1).head.isSome = true ∧ (t.io.queues.look 2).isSome = true ∧ t.startable 2 = true ∧
      (t.startable 1 = true ∧ (t.queue 1).pri < (t.queue 2).pri ∧ (t.queue 2).head = some 7 ∧ (t.tasks.look 7).isSome = true ∧
        t.io.served < 64 ∧ (∀ e ∈ t.io.queues, e.1 < 64 ∧ (e.1 = 1 ∨ e.1 = 2) ∧ e.2.started ≠ some (l2Cycle t.tick)) ∧
        t.io.queues.keys.Nodup) ∧ (∃ e ∈ u.io.queues, e.2.started = some (l2Cycle u.tick)) ∧ (u.queue 1).started = some (l2Cycle u.tick) ∧ (u.queue 1).live = true ∧
      (u.queue 1).pending ≠ 0 := by decide

theorem test_walk_hypotheses :
    let s := second .created w6
    let t := { s with tasks := s.tasks.upd 7 (fun k => { k with leases := [⟨0x40000000, 4096, true, false, false⟩] }) }
    (s.task 7).phase = .created ∧ (s.task 7).blocked = false ∧ s.failingPage 7 = none ∧ t.failingPage 7 = some 0x40000000 := by
  decide

theorem test_retire_hypotheses :
    let s := second .accepted w6
    let sp := { s with tasks := s.tasks.upd 7 (fun k => { k with spawn := true, join := some (s.me.team, 64) }) }
    let e := grp (fun g => { g with ended := true }) w6
    s.idleTask 7 = true ∧ s.descendantsRetired 7 = true ∧ (s.task 7).pool = some (0, 3) ∧ (s.task 7).d.sen = some 4 ∧
      (s.team s.me.team).retired = false ∧ (s.team s.me.team).evicted = false ∧ (s.teams.look s.me.team).isSome = true ∧
      (sp.idleTask 7 = true ∧ sp.descendantsRetired 7 = true ∧ (sp.task 7).join = some (s.me.team, 64)) ∧
      (e.me.ended = true ∧ e.me.ops = [] ∧ e.dropping e.cur.g = false ∧
        (team (fun m => { m with drops := [⟨0, 0, 0, e.cur.g, []⟩] }) e).dropping e.cur.g = true ∧ (e.team e.me.team).slots = [(e.me.gi, .at e.cur.g)] ∧
        (e.tasks.look (e.team e.me.team).task).isSome = true ∧ (e.tasks.all (fun k => decide (k.2.report = []))) = true) := by decide

/-- The last resident group of a team whose other group is an image has ended. -/
theorem test_image_left_hypotheses :
    let s := team (fun m => { m with slots := [(0, .at ⟨0, 0, 0⟩), (1, .image Group.empty ⟨0, 0, 4⟩)] })
      (grp (fun g => { g with ended := true }) (withBlock w2))
    let t := s.me.team
    s.hasGrp s.cur.g = true ∧ s.me.kind = .group ∧ s.me.ended = true ∧ s.me.ops = [] ∧ s.dropping s.cur.g = false ∧ s.me.gi = 0 ∧
      (s.team t).slots.Pairwise (fun a b => a.1 < b.1) ∧ (s.team t).slots.any (fun e => e.2.isImage) = true ∧
      (s.team t).slots.all (fun e => decide (e.1 = 0) || e.2.isImage) = true ∧ (s.blockAddr (teamBlock t)).isSome = true ∧
      (s.team t).slots.look 0 = some (.at s.cur.g) ∧ (s.team t).retired = false ∧ (s.team t).evicted = false := by decide

theorem test_place_hypotheses :
    let s := second .accepted w6
    let fits (s : State) (cs : List CoreRef) : Option (List Nat) := (s.fitItem 7 (.new_ 0) cs).map (fun fs => fs.map (fun f => f.slots.length))
    let seven (f : Task → Task) : State := { s with tasks := s.tasks.upd 7 f }
    let listed := seven (fun k => { k with refill := [(0, [5, 0])], l := { k.l with cores := 1 } })
    let wide := seven (fun k => { k with l := { k.l with wide := 2, groups := 2 } })
    s.evictedTeams 7 0 = [] ∧ (s.task 7).shares.get [] 0 = [0, 2] ∧ (s.task 7).spawn = false ∧ (s.task 7).l.wide = 0 ∧
      (s.task 7).l.groups = 1 ∧ (s.task 7).l.regs ≠ 0 ∧ (s.task 7).refill.get [] 0 = [] ∧ (s.task 7).evictOn.look 0 = none ∧
      (s.die 0).placedAt ≠ some (l2Cycle s.tick) ∧ (s.fromPointer 7 0).head? = some ⟨0, 0⟩ ∧ fits s [⟨0, 0⟩] = some [1] ∧
      (s.carve (teamBlock s.serial) (teamBlockGranules (s.task 7).l.spad 1)).isSome = true ∧
      ((listed.task 7).refill.get [] 0 = [5] ++ 0 :: [] ∧ (listed.task 7).l.cores.getLsbD 5 = false ∧
        (listed.task 7).l.cores.getLsbD 0 = true ∧ fits listed [⟨0, 0⟩] = some [1] ∧ (listed.task 7).evictOn.look 0 = none) ∧
      ((wide.task 7).l.wide ≠ 0 ∧ (wide.task 7).l.groups = (wide.task 7).l.wide ∧
        wide.wideSets 7 0 = [] ++ [⟨0, 0⟩, ⟨0, 1⟩] :: (wide.wideSets 7 0).tail ∧ fits wide [⟨0, 0⟩, ⟨0, 1⟩] = some [1, 1]) := by
  decide +kernel

/-- A grid of a higher priority that may use core 0 alone, whose teams have 15 barriers beside the 2 that the core has given. -/
def pressing : State :=
  let s := second .accepted w6
  { s with tasks := s.tasks.upd 7 (fun k => { k with pri := k.pri + 1, l := { k.l with cores := 1, barriers := 15 } }) }
theorem test_evict_place_hypotheses :
    let s := pressing
    let going : State := grp (fun g => { g with evicting := true })
      { s with tasks := s.tasks.upd 7 (fun k => { k with evictOn := [(0, [⟨0, 0⟩])] }) }
    s.fromPointer 7 0 = [⟨0, 0⟩] ∧ s.fitItem 7 (.new_ 0) [⟨0, 0⟩] = none ∧ (s.task 7).evictOn.look 0 = none ∧
      s.hasGrp ⟨0, 0, 0⟩ = true ∧ (s.task s.me.task).pri < (s.task 7).pri ∧
      ((going.task 7).evictOn.look 0 = some [⟨0, 0⟩] ∧ going.fitItem 7 (.new_ 0) [⟨0, 0⟩] = none ∧
        ∃ e ∈ [(⟨0, 0⟩ : CoreRef)].flatMap going.groupsOn, e.2.evicting = true) ∧
      (going.without [⟨0, 0, 0⟩]).fitItem 7 (.new_ 0) [⟨0, 0⟩] ≠ none := by decide +kernel
theorem test_evict_set : pressing.evictSet 7 (.new_ 0) [⟨0, 0⟩] = some [⟨0, 0, 0⟩] := by decide +kernel
/-- Where the grid's priority is no higher, nothing is evicted. -/
theorem test_no_evict_set :
    ({ pressing with tasks := pressing.tasks.upd 7 (fun k => { k with pri := 0 }) } : State).evictSet 7 (.new_ 0) [⟨0, 0⟩] = none := by
  decide +kernel
/-- The place that was made free is taken: the same grid with the group gone. -/
theorem test_evict_on_hypotheses :
    let s := { second .accepted w6 with tasks := (second .accepted w6).tasks.upd 7 (fun k => { k with evictOn := [(0, [⟨0, 0⟩])] }) }
    (s.task 7).evictOn.look 0 = some [⟨0, 0⟩] ∧
      (s.fitItem 7 (.new_ 0) [⟨0, 0⟩]).map (fun fs => fs.map (fun f => f.slots.length)) = some [1] ∧
      (s.modDie 0 (fun d => { d with placedAt := some (l2Cycle s.tick) })).die 0 ≠ s.die 0 := by decide +kernel

theorem test_active_hypotheses : (second .accepted w6).activeGrids 0 = [7] := by
  have h : ((second .accepted w6).tasks.filter (fun e => decide (e.2.phase = .accepted) && e.2.cause.isNone &&
      !(second .accepted w6).switchedOut e.1 && ((second .accepted w6).item e.1 0).isSome)).map (·.1) = [7] := by decide
  simp only [State.activeGrids, h, List.mergeSort_singleton]

theorem test_steal_hypotheses :
    let m : Steal := ⟨3, 7, 1, 0, none⟩
    let s := { second .accepted w6 with steals := [m] }
    let t := { second .accepted w6 with steals := [{ m with teams := some [2] }, ⟨4, 7, 1, 0, some []⟩] }
    let u := s.modDie 0 (fun d => { d with stolen := some (s.tick, 2) })
    s.takesSteal m = true ∧ u.takesSteal m = false ∧
      s.steals.find? (fun x => decide (x.id = 3)) = some m ∧ (s.tasks.look 7).isSome = true ∧ (s.task 7).cause = none ∧
      t.steals.find? (fun x => decide (x.id = 3)) = some { m with teams := some [2] } ∧
      t.steals.find? (fun x => decide (x.id = 4)) = some ⟨4, 7, 1, 0, some []⟩ := by decide

theorem test_queue_place_hypotheses :
    let s := { second .resident w6 with taskQueues := [(0, [7])] }
    let p := { second .accepted w6 with taskQueues := [(0, [7])] }
    ((p.taskQueues.get [] (0 * 8 + 0)).head? = some 7 ∧ (p.task 7).phase ≠ .resident) ∧
    (s.headCore 0 0).map (fun f => (f.1, f.2.slots.length)) = some (7, 1) ∧ s.switchedOut 7 = false ∧
      ((s.carve (taskBlock 7) 1).bind (fun s1 => s1.carve (teamBlock s.serial) (teamBlockGranules (s.task 7).l.spad 1))).isSome = true := by
  decide

/-! ## Statements about the I/O die, pages, errors and the outside: their hypotheses can be met -/


theorem test_register_hypotheses :
    let out := queue (fun x => { x with qsw := 1 }) w2
    let mine := task (fun k => { k with queue := some 1, gridId := 5 }) w2
    (w2.queue 1).qsw.getLsbD 0 = false ∧ (out.queue 1).qsw = 1 ∧ (out.queue 1).qsw.getLsbD 0 = true ∧ out.allSaved 1 = true ∧
      mine.allSaved 1 = false ∧
      (mine.hasGrp mine.cur.g = true ∧ (mine.task (mine.grp mine.cur.g).task).queue = some 1 ∧
        (mine.task (mine.grp mine.cur.g).task).phase ≠ .retired ∧ (mine.tasks.look (mine.grp mine.cur.g).task).isSome = true ∧
        (mine.grp mine.cur.g).kind = .group) ∧
      (mine.gridOfId 9 = none ∧ (1 : DWord).getLsbD 0 = true) ∧
      (let t := io (fun d => { d with gtask := 5 }) (second .accepted w6)
       let u := { t with tasks := t.tasks.upd 7 (fun k => { k with gridId := 5 }) }
       u.gridOfId u.io.gtask = some 7 ∧ (u.tasks.look 7).isSome = true) ∧
      w2.hasCtx w2.cur = true ∧ (out.queue 1).qsave = 0 ∧ frameExists 0 64 = true ∧ frameExists (2 ^ 50) 64 = false ∧
      w2.io.blocks = [] ∧ (io (fun d => { d with blocks := [(0, (0, 1))] }) w2).io.blocks ≠ [] := by decide

/-- The event ring takes the record of a switch-out, or holds it. -/
theorem test_switched_out_hypotheses :
    let out := queue (fun x => { x with qsw := 1 }) w2
    let ring := io (fun d => { d with event := { d.event with ctl := 0x401, base := 0x40000000 } }) out
    (ring.queue 1).qsw = 1 ∧ ring.allSaved 1 = true ∧ ring.ringOpen ring.io.event = true ∧ ring.io.event.held = [] ∧
      out.ringOpen out.io.event = false ∧ out.io.event.held.length < 256 := by decide

/-- An invalidate queue with one command at 0x40002000: ASID 3, with a completion event 4; or a reserved bit. -/
def sweeping (x : Nat) : State :=
  io (fun d => { d with iqctl := 0x401, iqtail := 1, iqbase := 0x40002000 }) (w2.writeN 0x40002000 32 x)
def aSweep : Nat := 2 ^ 12 * 2 ^ 64 + 3 * 2 ^ 128 + 2 ^ 148 + 4 * 2 ^ 160
theorem test_invalidate_hypotheses :
    let s := sweeping aSweep
    w2.io.iqLive = false ∧ s.io.iqLive = true ∧ s.iqCommand = aSweep ∧ badInvalidate aSweep = false ∧
      s.inUse (sweepOf aSweep) = false ∧ aSweep / 2 ^ 148 % 2 = 1 ∧ (aSweep - 2 ^ 148) / 2 ^ 148 % 2 = 0 ∧
      badInvalidate (aSweep - 2 ^ 148) = false ∧ badInvalidate (2 ^ 150) = true ∧ (sweeping (2 ^ 150)).iqCommand = 2 ^ 150 ∧
      s.io.swept = none ∧ s.splitBy (sweepOf aSweep) = false ∧ s.users (sweepOf aSweep) = [] ∧
      s.waveUsers (sweepOf aSweep) = [] := by
  decide

/-- A command for address space 0, of which a load has used a translation, and a store has performed one lane of two. -/
theorem test_sweep_hypotheses :
    let c := aSweep - 3 * 2 ^ 128
    let at_ (k : OpKind) : State :=
      let s := withOp k none w3
      io (fun d => { d with iqctl := 0x401, iqtail := 1, iqbase := 0x40002000 }) (s.writeN 0x40002000 32 c)
    let used := at_ (.load ⟨4, false⟩ 4 [⟨0, 0x100, some objectKey, [], some (0, 2 ^ 30)⟩])
    let split := at_ (.store 4 [⟨3, 0x100, none, [1], none⟩] [] [7])
    let after (s : State) : State := io (fun d => { d with swept := some (c, s.users (sweepOf c), s.waveUsers (sweepOf c)) }) s
    used.iqCommand = c ∧ badInvalidate c = false ∧ used.io.iqLive = true ∧ used.splitBy (sweepOf c) = false ∧
      used.users (sweepOf c) ≠ [] ∧ split.splitBy (sweepOf c) = true ∧ split.iqCommand = c ∧ split.io.iqLive = true ∧
      (after used).stillUses (sweepOf c) (used.users (sweepOf c)) [] = true ∧
      (grp (fun g => { g with ops := [] }) (after used)).stillUses (sweepOf c) (used.users (sweepOf c)) [] = false := by decide

/-- The code page's lease permits migration, whichever frames of the slow tier exist. -/
def movable : State := task (fun k => { k with leases := [⟨loadVa, 4096, true, true, true⟩] }) w2
theorem test_migration_hypotheses (h : ∀ n, Config.slowTierPresent n = true) :
    let s := movable
    let l : Leaf := ⟨0, 2 ^ 30, loadFrame, true, true, false⟩
    s.walk 0 (va56 0x1000) = some l ∧ (s.migratable 0 0 (2 ^ 30)).isSome = true ∧ canonical 0x1000 = true ∧
      Config.slowBase % 2 ^ 30 = 0 ∧ frameExists Config.slowBase (2 ^ 30) = true ∧
      isSlow Config.slowBase ≠ isSlow loadFrame ∧ s.inUse ⟨false, 0, 0, 2 ^ 30, 0⟩ = false ∧
      s.rangeBusy loadFrame (2 ^ 30) = false ∧ s.moving loadFrame (2 ^ 30) = false ∧
      (s.leafEntries 0 (va56 0x1000)).length = 1 ∧ s.walk 0 (va56 0x40000000) = none := by
  have f : frameExists Config.slowBase (2 ^ 30) = true := by
    have e : (List.range ((Config.slowBase % 4096 + 2 ^ 30 + 4095) / 4096)).all (fun i => Config.slowTierPresent (Config.slowBase / 4096 + i)) = true :=
      List.all_eq_true.mpr (fun i _ => h _)
    rw [frameExists, e]
    decide
  have m : (movable.migratable 0 0 (2 ^ 30)).isSome = true := by
    have k : SMap.keys ((movable.tasks.filter (fun e => decide (e.2.asid = 0) && decide (e.2.phase = .accepted))).filter
        (fun e => e.2.leases.any (fun l => l.overPage 0 (2 ^ 30)))) = [movable.me.task] := by decide
    have n : (movable.tasks.filter (fun e => decide (e.2.asid = 0) && decide (e.2.phase = .accepted))).any
        (fun e => e.2.leases.any (fun l => l.overPage 0 (2 ^ 30) && !l.migr)) = false := by decide
    simp only [State.migratable, k, n]
    simp [Nat.mod_one]
  exact ⟨by decide, m, by decide, by decide, f, by decide, by decide, by decide, by decide, by decide, by decide⟩

/-- A page of 4096 bytes moves from 0x10000 to 0x20000; its leaf stands at 0x30000. A context waits for it. -/
def aMove : Migration := ⟨3, 0, 0x7000, 4096, 0x10000, 0x20000, [0x30000], 0⟩
theorem test_move_hypotheses :
    let s := io (fun d => { d with migrations := [aMove] }) (ctx (fun c => { c with stop := .replay 0x7008 }) w0)
    MemInv s ∧ s.io.migrations.find? (fun x => decide (x.id = 3)) = some aMove ∧ aMove.old + aMove.size ≤ aMove.new_ ∧
      aMove.new_ + aMove.size ≤ 0x30000 ∧ aMove.new_ % 4096 = 0 ∧ aMove.new_ < 2 ^ 52 ∧
      ((s.task (s.grp s.cur.g).task).asid = aMove.asid ∧ s.hasCtx s.cur = true ∧
        ((s.grp s.cur.g).ctx s.cur.i).stop = .replay 0x7008) := by
  unfold MemInv; decide

theorem test_storage_hypotheses :
    let own := w4.modCore ⟨0, 0⟩ (fun c => { c with owner := some w4.me.task })
    let k : OpKind := .load ⟨4, false⟩ 4 [⟨0, 0x1000, some objectKey, [], none⟩]
    w4.hasGrp ⟨0, 0, 0⟩ = true ∧ (w4.team w4.me.team).retired = false ∧ ⟨0, 0⟩ ∈ (w4.team w4.me.team).cores ∧
      (w4.core ⟨0, 0⟩).owner = none ∧ (own.core ⟨0, 0⟩).owner = some w4.me.task ∧
      ((w4.core ⟨0, 0⟩).slotTeams false).look 9 = none ∧ ((w4.core ⟨0, 0⟩).slotTeams false).look 0 = some w4.me.team ∧
      w4.me.team < 2 ^ 64 ∧ (w4.tasks.look w4.me.task).isSome = true ∧
      ((withOp k none w4).me.findOp 7 = some (anOp k none w4) ∧ (anOp k none w4).isStore = false ∧
        (withOp k none w4).opOnLine w4.cur.g (anOp k none w4) (objectKey / 64) = true) := by decide

/-- An access of a line in each way that meets an error. -/
theorem test_memory_error_hypotheses :
    let line := objectKey / 64
    let st : OpKind := .store 4 [⟨2, 0x1000, some objectKey, [1], none⟩, ⟨3, 0x1100, some (objectKey + 256), [1], none⟩] [] []
    let ld : OpKind := .load ⟨4, false⟩ 4 [⟨0, 0x1000, some objectKey, [], none⟩]
    let en : OpKind := .cpy 0 0x1000 0x1100 32
    let comb (k : OpKind) : State := grp (fun g => { g with kind := .combiner objectKey }) (withOp k none w3)
    let m := objects { anObject with wave := some w7.cur.g, heldLines := [line] } w7
    let on (k : OpKind) (s : State) : Prop := s.me.findOp 7 = some (anOp k none w3) ∧ s.opOnLine s.cur.g (anOp k none w3) line = true
    (on st (withOp st none w3) ∧ (withOp st none w3).me.kind = .group ∧ (anOp st none w3).isStore = true) ∧
      (on st (comb st) ∧ on ld (comb ld) ∧ (comb ld).me.kind = .combiner objectKey ∧ (anOp ld none w3).isStore = false) ∧
      ((withOp en none w3).me.findOp 7 = some (anOp en none w3) ∧ (anOp en none w3).reads = true) ∧
      w0.mayIssue w0.cur = true ∧ w0.me.kind = .group ∧
      (m.mordant.look objectKey = some { anObject with wave := some w7.cur.g, heldLines := [line] } ∧ line ∈ [line]) := by
  decide

/-- The digest of "abc" (FIPS 180-4). -/
theorem test_sha256 :
    sha256 [0x61, 0x62, 0x63] = [0xba, 0x78, 0x16, 0xbf, 0x8f, 0x01, 0xcf, 0xea, 0x41, 0x41, 0x40, 0xde, 0x5d, 0xae, 0x22, 0x23,
      0xb0, 0x03, 0x61, 0xa3, 0x96, 0x17, 0x7a, 0x9c, 0xb4, 0x10, 0xff, 0x61, 0xf2, 0x00, 0x15, 0xad] := by decide +kernel

theorem test_boot_hypotheses :
    let z := State.reset
    let failed := io (fun d => { d with boot := { d.boot with failed := some 0 } }) z
    z.io.boot.booted = false ∧ z.io.boot.failed = none ∧ w0.io.boot.booted = true ∧ failed.io.boot.failed ≠ none ∧ w0.umberNext = none ∧
      ({ w0 with umberNext := some anImage } : State).umberNext = some anImage ∧ (List.replicate 32 (0 : Byte)).length = 32 := by
  decide

/-- An image with one entry of opcode 4 is well formed; one with no magic number is not. -/
def imageBytes : List Byte :=
  [0x55, 0x4D, 0x42, 0x52, 0, 0, 0, 0, 1, 0, 0, 0, 0, 0, 0, 0]
theorem test_image_hypotheses : (umberOf ⟨imageBytes, []⟩).isSome = true ∧ umberOf ⟨[], []⟩ = none := by decide

/-- Where the controller's verifier accepts three signatures and no others, those images boot the part and the third is an
Umber image; where it refuses the second, that fails. -/
theorem test_verified_hypotheses (h : ∀ b, Config.signatureValid b [1] = true) (n : ∀ b, Config.signatureValid b [] = false) :
    let a : FirmwareImage := ⟨[0], [1]⟩
    let u : FirmwareImage := ⟨imageBytes, [1]⟩
    Config.signatureValid a.bytes a.signature = true ∧
      [u].filter (fun z => Config.signatureValid z.bytes z.signature && (umberOf z).isSome) = [u] ∧
      [a, u].filter (fun z => Config.signatureValid z.bytes z.signature && (umberOf z).isSome) = [u] ∧
      Config.signatureValid [0] [] = false := by
  have x : (umberOf ⟨imageBytes, [1]⟩).isSome = true := by decide
  have y : (umberOf ⟨[0], [1]⟩).isSome = false := by decide
  refine ⟨h _, ?_, ?_, n _⟩ <;> simp only [List.filter, h, x, y, Bool.true_and]

theorem test_host_hypotheses :
    let s : State := { w0 with atomicLines := [(3, [0x2000 / 64, 9])] }
    frameExists 0x2000 2 = true ∧ frameExists (2 ^ 50) 2 = false ∧ s.placesBusy [0x2000, 0x2001] = false ∧
      w0.placesBusy ((List.range [(1 : Byte), 2].length).map (fun i => 0x2000 + i)) = false := by decide

/-- Whichever windows firmware exports, those are 256 (27 R390). -/
theorem test_window_hypotheses : exportWindowOf 256 = none ∧ exportWindowOf 255 = Config.exportWindow 255 := ⟨rfl, rfl⟩

/-- Whichever windows firmware exports: the code page's four bytes have places, and a window over them takes them. -/
theorem test_peer_hypotheses :
    let w : Config.ExportWindow := ⟨0, 0x1000, 4096, true⟩
    let r : Config.ExportWindow := ⟨0, 0x1000, 4096, false⟩
    w0.peerPlaces w.asid 0x1000 4 = some ([objectKey, objectKey + 1, objectKey + 2, objectKey + 3], true) ∧
      [objectKey, objectKey + 1, objectKey + 2, objectKey + 3].Nodup ∧ inWindow w 0x1000 4 true = true ∧
      inWindow r 0x1000 4 true = false ∧ (0x1000 : DWord).toNat % 4 = 0 ∧
      w0.placesBusy [objectKey, objectKey + 1, objectKey + 2, objectKey + 3] = false := by decide

end Sys2Proof.Tests
end

/-! # What leaves memory as it is (obligation O5)

`step` takes a next state with canonical memory because each of its operations either leaves `State.mem` alone or writes it
through `writeN`, `setByte` and their like, which keep the form. First the operations of the first kind, one lemma each. They
are proved `by rfl` and not marked as definitional: `simp` rewrites the whole `mem` and does not unfold the state. -/

namespace Sys2Proof.Machine

@[simp] theorem ite_mem_same (c : Prop) [Decidable c] (a b : State) (m : List Host.Cell) (ha : a.mem = m) (hb : b.mem = m) :
    (if c then a else b).mem = m := by split <;> assumption

@[simp] theorem foldl_mem {α : Type} (f : State → α → State) (h : ∀ s x, (f s x).mem = s.mem) (l : List α) (s : State) :
    (l.foldl f s).mem = s.mem := foldl_keeps State.mem f h l s

@[simp] theorem State.zeroLine_mem (line : Nat) (s : State) : (s.zeroLine line).mem = s.mem := by rfl

@[simp] theorem State.recallPlaces_mem (keep : Option Nat) (ps : List Nat) (s : State) :
    (s.recallPlaces keep ps).mem = s.mem := by
  unfold State.recallPlaces
  simp

@[simp] theorem State.recallRead_mem (g : SlotRef) (core : Bool) (ps : List Nat) (s : State) :
    (s.recallRead g core ps).mem = s.mem := by
  unfold State.recallRead
  simp

@[simp] theorem State.modCopy_mem (g : SlotRef) (key op : Nat) (f : CopyProg → CopyProg) (s : State) :
    (s.modCopy g key op f).mem = s.mem := by rfl

@[simp] theorem State.opStep_mem (g : SlotRef) (o : Op) (k : Option OpKind) (s : State) : (s.opStep g o k).mem = s.mem := by
  unfold State.opStep
  split <;> simp

@[simp] theorem State.copyEnd_mem (g : SlotRef) (o : Op) (ch : Nat) (s : State) : (s.copyEnd g o ch).mem = s.mem := by rfl

@[simp] theorem State.giveBaton_mem (g : SlotRef) (s : State) : (s.giveBaton g).mem = s.mem := by rfl

@[simp] theorem State.passBaton_mem (g : SlotRef) (s : State) : (s.passBaton g).mem = s.mem := by
  unfold State.passBaton
  simp only
  split <;> (try split) <;> simp

@[simp] theorem State.leaveEngine_mem (g : SlotRef) (s : State) : (s.leaveEngine g).mem = s.mem := by
  unfold State.leaveEngine
  simp

@[simp] theorem State.modMordant_mem (k : Nat) (f : Mordant → Mordant) (s : State) : (s.modMordant k f).mem = s.mem := by rfl

@[simp] theorem State.endWave_mem (k : Nat) (g : SlotRef) (s : State) : (s.endWave k g).mem = s.mem := by
  unfold State.endWave
  simp only
  split <;> simp

@[simp] theorem State.markWrites_mem (f : Write → List Reach) (s : State) : (s.markWrites f).mem = s.mem := by rfl

@[simp] theorem State.signalAt_mem (g : SlotRef) (flag : Option Nat) (s : State) : (s.signalAt g flag).mem = s.mem := by
  unfold State.signalAt
  split <;> simp

@[simp] theorem State.answer_mem (r : MReq) (ok : Bool) (w : Option (Bool × Bool)) (x : DWord) (s : State) :
    (s.answer r ok w x).mem = s.mem := by
  unfold State.answer
  split <;> (try split) <;> simp

@[simp] theorem State.refuse_mem (rs : List MReq) (w : Bool × Bool) (s : State) : (s.refuse rs w).mem = s.mem := by
  unfold State.refuse
  simp

@[simp] theorem State.flushObject_mem (k : Nat) (s : State) : (s.flushObject k).mem = s.mem := by
  unfold State.flushObject
  split <;> simp

@[simp] theorem State.modRecq_mem (fault : Bool) (f : RecQueue → RecQueue) (s : State) : (s.modRecq fault f).mem = s.mem := by
  unfold State.modRecq
  simp

@[simp] theorem State.dropThreads_mem (g : SlotRef) (t : Nat) (ts : List (Nat × Nat)) (s : State) :
    (s.dropThreads g t ts).mem = s.mem := by rfl

@[simp] theorem State.endGroup_mem (g : SlotRef) (s : State) : (s.endGroup g).mem = s.mem := by
  unfold State.endGroup
  simp only
  split <;> simp

@[simp] theorem State.addPool_mem (k : Nat) (ni nt : Int) (s : State) : (s.addPool k ni nt).mem = s.mem := by rfl

@[simp] theorem State.freeBlock_mem (b : Nat) (s : State) : (s.freeBlock b).mem = s.mem := by rfl

@[simp] theorem State.dropOwner_mem (c : CoreRef) (s : State) : (s.dropOwner c).mem = s.mem := by
  unfold State.dropOwner
  split <;> (try split) <;> simp

@[simp] theorem State.leaveCores_mem (t : Nat) (cs : List CoreRef) (s : State) : (s.leaveCores t cs).mem = s.mem := by
  unfold State.leaveCores
  simp

@[simp] theorem State.teamRetire_mem (t : Nat) (s : State) : (s.teamRetire t).mem = s.mem := by
  unfold State.teamRetire
  simp

@[simp] theorem State.chargePool_mem (k : Nat) (ni nt : Int) (s : State) : (s.chargePool k ni nt).mem = s.mem := by rfl

@[simp] theorem State.chargeTeam_mem (t : Nat) (ni nt : Int) (s : State) : (s.chargeTeam t ni nt).mem = s.mem := by rfl

@[simp] theorem State.chargeAt_mem (g : SlotRef) (ni nt : Int) (s : State) : (s.chargeAt g ni nt).mem = s.mem := by
  unfold State.chargeAt
  split <;> (try split) <;> simp

@[simp] theorem State.chargeSeen_mem (g : SlotRef) (seen : List Nat) (wr : Nat) (ls : List Nat) (s : State) :
    (s.chargeSeen g seen wr ls).mem = s.mem := by
  unfold State.chargeSeen
  simp

@[simp] theorem State.drawRead_mem (s : State) : (s.drawRead).mem = s.mem := by
  unfold State.drawRead
  split <;> simp

@[simp] theorem State.publish_mem (s : State) (w : Write) (s0 : State) (ps : List Nat) : (s.publish w s0 ps).mem = s.mem := by
  unfold State.publish
  simp

@[simp] theorem State.publishLines_mem (s : State) (w : Write) (s0 : State) (ps : List Nat) :
    (s.publishLines w s0 ps).mem = s.mem := by
  unfold State.publishLines
  simp

@[simp] theorem State.engineWrote_mem (s : State) (g : SlotRef) (o : Op) (s0 : State) (ps : List Nat) :
    (s.engineWrote g o s0 ps).mem = s.mem := by
  unfold State.engineWrote
  simp

@[simp] theorem State.zeroWritten_mem (g : SlotRef) (ls : List Nat) (s : State) : (s.zeroWritten g ls).mem = s.mem := by
  unfold State.zeroWritten
  simp

@[simp] theorem State.holdWrite_mem (obj a n x : Nat) (s : State) : (s.holdWrite obj a n x).mem = s.mem := by rfl

@[simp] theorem State.shrinkApply_mem (c : CtxId) (s : State) : (s.shrinkApply c).mem = s.mem := by
  unfold State.shrinkApply
  split <;> simp

@[simp] theorem State.growAnswer_mem (c : CtxId) (d : Nat) (v : DWord) (s : State) : (s.growAnswer c d v).mem = s.mem := by rfl

@[simp] theorem State.grantClaim_mem (c : CtxId) (s : State) : (s.grantClaim c).mem = s.mem := by
  unfold State.grantClaim
  split <;> simp

@[simp] theorem State.askBaton_mem (g : SlotRef) (s : State) : (s.askBaton g).mem = s.mem := by
  unfold State.askBaton
  simp only
  split <;> (try split) <;> simp

@[simp] theorem State.batonBack_mem (g : SlotRef) (s : State) : (s.batonBack g).mem = s.mem := by
  unfold State.batonBack
  simp

@[simp] theorem State.acquireFrom_mem (g : SlotRef) (n : Nat) (s : State) : (s.acquireFrom g n).mem = s.mem := by rfl

@[simp] theorem State.acquireAt_mem (g : SlotRef) (s : State) : (s.acquireAt g).mem = s.mem := by rfl

@[simp] theorem State.resumeStalls_mem (g : SlotRef) (s : State) : (s.resumeStalls g).mem = s.mem := by
  unfold State.resumeStalls
  simp

@[simp] theorem State.dropFault_mem (g : SlotRef) (s : State) : (s.dropFault g).mem = s.mem := by rfl

@[simp] theorem State.pollJoin_mem (w : Stop) (c : CtxId) (s : State) : (s.pollJoin w c).mem = s.mem := by
  unfold State.pollJoin
  (repeat' split) <;> simp

@[simp] theorem State.goto_mem (t : DWord) (s : State) : (s.goto t).mem = s.mem := by rfl

@[simp] theorem State.park_mem (page : Nat) (s : State) : (s.park page).mem = s.mem := by rfl

@[simp] theorem State.countIssue_mem (s : State) : (s.countIssue).mem = s.mem := by rfl

@[simp] theorem State.charge_mem (n : Nat) (s : State) : (s.charge n).mem = s.mem := by
  unfold State.charge
  simp

@[simp] theorem scalarOp_mem (cost : Nat) (f : DWord → DWord → DWord) (d a : Nat) (x : SSrc) (s : State) :
    (scalarOp cost f d a x s).mem = s.mem := by
  unfold scalarOp
  simp

@[simp] theorem State.collectLanes_mem (c : CtxId) (h : Held) (s : State) : (s.collectLanes c h).mem = s.mem := by rfl

@[simp] theorem State.measure_mem (bytes : List Byte) (s : State) : (s.measure bytes).mem = s.mem := by rfl

@[simp] theorem State.fillUmber_mem (im : UmberImage) (s : State) : (s.fillUmber im).mem = s.mem := by rfl

@[simp] theorem State.bootFails_mem (i : Nat) (s : State) : (s.bootFails i).mem = s.mem := by rfl

@[simp] theorem State.freeSlot_mem (g : SlotRef) (s : State) : (s.freeSlot g).mem = s.mem := by
  unfold State.freeSlot
  simp

@[simp] theorem State.startCopy_mem (ch key : Nat) (blk : Bool) (op : Nat) (done : Bool) (s : State) :
    (s.startCopy ch key blk op done).mem = s.mem := by
  unfold State.startCopy
  split <;> simp

@[simp] theorem State.issueOp_mem (o : Op) (s : State) : (s.issueOp o).mem = s.mem := by rfl

@[simp] theorem State.takeLine_mem (line : Nat) (s : State) : (s.takeLine line).mem = s.mem := by
  unfold State.takeLine
  simp

@[simp] theorem State.issueOwn_mem (o : Op) (s : State) : (s.issueOwn o).mem = s.mem := by
  unfold State.issueOwn
  simp

@[simp] theorem State.waitAcquire_mem (g : SlotRef) (flags : List Nat) (s : State) : (s.waitAcquire g flags).mem = s.mem := by
  unfold State.waitAcquire
  simp

@[simp] theorem State.signalCopy_mem (g : SlotRef) (op n : Nat) (flags : List Nat) (s : State) :
    (s.signalCopy g op n flags).mem = s.mem := by rfl

@[simp] theorem State.knowCopy_mem (g : SlotRef) (op : Nat) (s : State) : (s.knowCopy g op).mem = s.mem := by rfl

@[simp] theorem State.copyShown_mem (g : SlotRef) (o : Op) (s : State) : (s.copyShown g o).mem = s.mem := by
  unfold State.copyShown
  split <;> simp

@[simp] theorem State.engineRelease_mem (g : SlotRef) (o : Op) (s : State) : (s.engineRelease g o).mem = s.mem := by rfl

@[simp] theorem State.copyDone_mem (g : SlotRef) (o : Op) (ch key : Nat) (s : State) : (s.copyDone g o ch key).mem = s.mem := by
  unfold State.copyDone
  simp

@[simp] theorem State.fabSettle_mem (g : SlotRef) (o : Op) (ch : Nat) (f : FabOp) (r : RowLane) (e : RowEnd) (bad : Bool) (seen : List Nat) (s : State) :
    (s.fabSettle g o ch f r e bad seen).mem = s.mem := by
  unfold State.fabSettle
  simp

@[simp] theorem State.storeDone_mem (g : SlotRef) (o : Op) (s : State) : (s.storeDone g o).mem = s.mem := by rfl

@[simp] theorem State.storeEnd_mem (g : SlotRef) (o : Op) (s : State) : (s.storeEnd g o).mem = s.mem := by rfl

@[simp] theorem State.gateOp_mem (o : Op) (s : State) : (s.gateOp o).mem = s.mem := by rfl

@[simp] theorem State.modAc_mem (c : CoreRef) (n : Nat) (f : AcSlot → AcSlot) (s : State) : (s.modAc c n f).mem = s.mem := by rfl

@[simp] theorem State.settleRels_mem (c : CoreRef) (s : State) : (s.settleRels c).mem = s.mem := by rfl

@[simp] theorem State.dequeue_mem (g : SlotRef) (n : Nat) (s : State) : (s.dequeue g n).mem = s.mem := by rfl

@[simp] theorem State.engineDone_mem (g : SlotRef) (o : Op) (s : State) : (s.engineDone g o).mem = s.mem := by rfl

@[simp] theorem State.loadLine_mem (line : Nat) (s : State) : (s.loadLine line).mem = s.mem := by
  unfold State.loadLine
  split <;> simp

@[simp] theorem State.remember_mem (g : SlotRef) (lane : Nat) (a : DWord) (x : Xlat) (s : State) :
    (s.remember g lane a x).mem = s.mem := by
  unfold State.remember
  simp only
  split <;> (try split) <;> simp

@[simp] theorem State.lookup_mem (g : SlotRef) (lane : Nat) (a : DWord) (s : State) : (s.lookup g lane a).mem = s.mem := by
  unfold State.lookup
  split <;> simp

@[simp] theorem State.releaseAt_mem (g : SlotRef) (obs : BitVec 7) (s : State) : (s.releaseAt g obs).mem = s.mem := by rfl

@[simp] theorem State.putMsg_mem (key : Nat) (m : ChanMsg) (s : State) : (s.putMsg key m).mem = s.mem := by rfl

@[simp] theorem State.modImage_mem (t gi : Nat) (f : Group → Group) (s : State) : (s.modImage t gi f).mem = s.mem := by rfl

@[simp] theorem State.performAt_mem (g : SlotRef) (obs : BitVec 7) (s : State) : (s.performAt g obs).mem = s.mem := by rfl

@[simp] theorem State.fenceAt_mem (g : SlotRef) (obs : BitVec 7) (s : State) : (s.fenceAt g obs).mem = s.mem := by rfl

@[simp] theorem State.finishS_mem (g : SlotRef) (o : Op) (c : Nat) (v : DWord) (s : State) :
    (s.finishS g o c v).mem = s.mem := by rfl

@[simp] theorem State.addTeam_mem (t : Nat) (ni nt : Int) (s : State) : (s.addTeam t ni nt).mem = s.mem := by rfl

@[simp] theorem State.promote_mem (g : SlotRef) (s : State) : (s.promote g).mem = s.mem := by
  unfold State.promote
  simp

@[simp] theorem State.issueEngine_mem (ni nt : Nat) (own : List Nat) (k : OpKind) (s : State) :
    (s.issueEngine ni nt own k).mem = s.mem := by
  unfold State.issueEngine
  simp

@[simp] theorem State.issueA_mem (cost : Nat) (k : OpKind) (s : State) : (s.issueA cost k).mem = s.mem := by
  unfold State.issueA
  simp

@[simp] theorem State.touchRange_mem (a n : Nat) (s : State) : (s.touchRange a n).mem = s.mem := by rfl

@[simp] theorem State.recallAsid_mem (asid : Nat) (a : DWord) (n : Nat) (s : State) : (s.recallAsid asid a n).mem = s.mem := by
  unfold State.recallAsid
  simp

@[simp] theorem State.recallLaunch_mem (asid : Nat) (desc krec : DWord) (s : State) :
    (s.recallLaunch asid desc krec).mem = s.mem := by
  unfold State.recallLaunch
  split <;> simp

@[simp] theorem State.startHead_mem (q k : Nat) (s1 : State) : (s1.startHead q k).mem = s1.mem := by rfl

@[simp] theorem State.engineFail_mem (g : SlotRef) (o : Op) (t : Trap) (s : State) : (s.engineFail g o t).mem = s.mem := by rfl

@[simp] theorem State.parkBaton_mem (g : SlotRef) (s : State) : (s.parkBaton g).mem = s.mem := by
  unfold State.parkBaton
  simp

@[simp] theorem State.modOm_mem (c : CoreRef) (n : Nat) (f : OmSlot → OmSlot) (s : State) : (s.modOm c n f).mem = s.mem := by rfl

@[simp] theorem State.acquired_mem (g : SlotRef) (o : Op) (s : State) : (s.acquired g o).mem = s.mem := by
  unfold State.acquired
  simp

@[simp] theorem State.chargeAtomic_mem (g : SlotRef) (obs : BitVec 7) (paid now : List Nat) (s : State) :
    (s.chargeAtomic g obs paid now).mem = s.mem := by
  unfold State.chargeAtomic
  split <;> simp

@[simp] theorem State.takeBaton_mem (s : State) : (s.takeBaton).mem = s.mem := by
  unfold State.takeBaton
  simp

@[simp] theorem State.takeOver_mem (c : CtxId) (r : Record) (s : State) : (s.takeOver c r).mem = s.mem := by
  unfold State.takeOver
  simp

@[simp] theorem State.reunite_mem (g : SlotRef) (at_ k : Nat) (s : State) : (s.reunite g at_ k).mem = s.mem := by
  unfold State.reunite
  simp only
  split <;> simp

@[simp] theorem State.resolve_mem (g : SlotRef) (at_ : Nat) (s : State) : (s.resolve g at_).mem = s.mem := by
  unfold State.resolve
  simp only
  split <;> simp

@[simp] theorem State.fetchRecords_mem (g : SlotRef) (s : State) : (s.fetchRecords g).mem = s.mem := by
  unfold State.fetchRecords
  split <;> simp

@[simp] theorem State.occupy_mem (g : SlotRef) (h : Group) (s : State) : (s.occupy g h).mem = s.mem := by rfl

@[simp] theorem scalarPut_mem (n d : Nat) (i : BitVec 16) (s : State) : (scalarPut n d i s).mem = s.mem := by
  unfold scalarPut
  simp

@[simp] theorem chanIssue_mem (obs : BitVec 7) (k : OpKind) (s : State) : (chanIssue obs k s).mem = s.mem := by
  unfold chanIssue
  simp

@[simp] theorem State.completeHeld_mem (c : CtxId) (viaGroup : Bool) (s : State) : (s.completeHeld c viaGroup).mem = s.mem := by
  unfold State.completeHeld
  split <;> simp

@[simp] theorem State.resolveOrigin_mem (o : Origin) (p : Option (List Word)) (s : State) :
    (s.resolveOrigin o p).mem = s.mem := by
  unfold State.resolveOrigin
  simp only
  (repeat' split) <;> simp

@[simp] theorem State.markEvict_mem (g : SlotRef) (s : State) : (s.markEvict g).mem = s.mem := by rfl

@[simp] theorem State.entryHold_mem (t : Nat) (s : State) : (s.entryHold t).mem = s.mem := by
  unfold State.entryHold
  simp

@[simp] theorem State.yieldTest_mem (t : Nat) (s : State) : (s.yieldTest t).mem = s.mem := by
  unfold State.yieldTest
  simp

@[simp] theorem State.moveViews_mem (h g : SlotRef) (s : State) : (s.moveViews h g).mem = s.mem := by rfl

@[simp] theorem State.restoreSlots_mem (m : Team) (i : Nat) (c : CoreRef) (s : State) :
    (s.restoreSlots m i c).mem = s.mem := by rfl

@[simp] theorem State.moveObjects_mem (m : Migration) (s : State) : (s.moveObjects m).mem = s.mem := by rfl

@[simp] theorem State.wakeParked_mem (m : Migration) (s : State) : (s.wakeParked m).mem = s.mem := by rfl

@[simp] theorem State.countPromotion_mem (m : Migration) (s : State) : (s.countPromotion m).mem = s.mem := by
  unfold State.countPromotion
  split <;> (try split) <;> simp

@[simp] theorem State.sweep_mem (w : Sweep) (s : State) : (s.sweep w).mem = s.mem := by rfl

@[simp] theorem State.chargeLines_mem (g : SlotRef) (old new : List Nat) (s : State) : (s.chargeLines g old new).mem = s.mem := by
  unfold State.chargeLines
  simp

@[simp] theorem State.storeZero_mem (g : SlotRef) (line : Nat) (s : State) : (s.storeZero g line).mem = s.mem := by
  unfold State.storeZero
  split <;> simp

@[simp] theorem State.barDone_mem (r : OpRef) (o : Op) (phase : Nat) (s : State) : (s.barDone r o phase).mem = s.mem := by
  unfold State.barDone
  (repeat' split) <;> simp

@[simp] theorem State.unstall_mem (t k : Nat) (s : State) : (s.unstall t k).mem = s.mem := by
  unfold State.unstall
  simp

@[simp] theorem State.returnBudget_mem (k : Nat) (s : State) : (s.returnBudget k).mem = s.mem := by
  unfold State.returnBudget
  simp only
  split <;> simp

@[simp] theorem State.releaseAll_mem (k : Nat) (s : State) : (s.releaseAll k).mem = s.mem := by rfl

@[simp] theorem State.releaseObject_mem (k : Nat) (s : State) : (s.releaseObject k).mem = s.mem := by
  unfold State.releaseObject
  simp only
  split <;> simp

@[simp] theorem State.releaseObjects_mem (k : Nat) (s : State) : (s.releaseObjects k).mem = s.mem := by
  unfold State.releaseObjects
  simp

@[simp] theorem State.releaseTask_mem (k : Nat) (s : State) : (s.releaseTask k).mem = s.mem := by
  unfold State.releaseTask
  split <;> simp

@[simp] theorem State.launchDecide_mem (g : SlotRef) (o : Op) (c : Nat) (desc ins bytes : DWord) (s : State) :
    (s.launchDecide g o c desc ins bytes).mem = s.mem := by
  unfold State.launchDecide
  simp only
  (repeat' split) <;> simp

@[simp] theorem State.switchIn_mem (q : Nat) (s : State) : (s.switchIn q).mem = s.mem := by
  unfold State.switchIn
  simp

@[simp] theorem State.failLanes_mem (g : SlotRef) (o : Op) (line : Nat) (s : State) : (s.failLanes g o line).mem = s.mem := by
  unfold State.failLanes
  split <;> simp

@[simp] theorem State.invalidated_mem (c : Nat) (s : State) : (s.invalidated c).mem = s.mem := by rfl

@[simp] theorem State.endInvalidate_mem (s : State) : (s.endInvalidate).mem = s.mem := by
  unfold State.endInvalidate
  split <;> simp

@[simp] theorem State.joinSlots_mem (gs : List SlotRef) (s : State) : (s.joinSlots gs).mem = s.mem := by rfl

@[simp] theorem State.setTd_mem (k : Nat) (x : Td) (s : State) : (s.setTd k x).mem = s.mem := by
  unfold State.setTd
  split <;> simp

@[simp] theorem State.noteRead_mem (g : SlotRef) (o : Op) (a n : Nat) (s0 s : State) :
    (s0.noteRead g o a n s).mem = s.mem := by rfl

@[simp] theorem State.afterRead_mem (s : State) (g : SlotRef) (o : Op) (ls : List Nat) (n : Nat) (s0 : State) :
    (s.afterRead g o ls n s0).mem = s.mem := by
  unfold State.afterRead
  simp

@[simp] theorem State.showCopy_mem (g : SlotRef) (o : Op) (copy : Option Nat) (s : State) :
    (s.showCopy g o copy).mem = s.mem := by
  unfold State.showCopy
  split <;> simp

@[simp] theorem State.dropMsg_mem (key : Nat) (s : State) : (s.dropMsg key).mem = s.mem := by rfl

@[simp] theorem State.putAttn_mem (c : CoreRef) (b h : Nat) (rs : List AttnRow) (s : State) :
    (s.putAttn c b h rs).mem = s.mem := by
  unfold State.putAttn
  simp

@[simp] theorem State.pollJoins_mem (t : Nat) (s : State) : (s.pollJoins t).mem = s.mem := by
  unfold State.pollJoins
  simp

@[simp] theorem State.pick_mem (g : SlotRef) (s : State) : (s.pick g).mem = s.mem := by
  unfold State.pick
  simp

@[simp] theorem State.bare_mem (s : State) : (s.bare).mem = s.mem := by rfl

@[simp] theorem State.holdAwaiting_mem (s : State) : (s.holdAwaiting).mem = s.mem := by rfl

@[simp] theorem State.landGrant_mem (g : SlotRef) (o : Op) (s : State) : (s.landGrant g o).mem = s.mem := by
  unfold State.landGrant
  split <;> simp

@[simp] theorem State.landRoute_mem (g : SlotRef) (o : Op) (s : State) : (s.landRoute g o).mem = s.mem := by
  unfold State.landRoute
  split <;> simp

@[simp] theorem State.markReady_mem (s : State) : (s.markReady).mem = s.mem := by rfl

@[simp] theorem State.parkSlots_mem (s : State) : (s.parkSlots).mem = s.mem := by
  unfold State.parkSlots
  simp

@[simp] theorem State.startTopups_mem (t : Nat) (s : State) : (s.startTopups t).mem = s.mem := by
  unfold State.startTopups
  simp

@[simp] theorem State.settle_mem (s : State) : (s.settle).mem = s.mem := by
  unfold State.settle
  simp

@[simp] theorem State.without_mem (gs : List SlotRef) (s : State) : (s.without gs).mem = s.mem := by rfl

end Sys2Proof.Machine

/-! ## What writes memory keeps its canonical form -/

namespace Sys2Proof.Machine

/-- The outcome is a next state with canonical memory. -/
def NextWf (r : Host.Outcome State Fault Refusal) : Prop := ∃ t, r = .next t ∧ Memory.wf t.mem

@[simp] theorem nextWf_next (t : State) : NextWf (.next t) ↔ Memory.wf t.mem := by simp [NextWf]

@[simp] theorem ite_wf (c : Prop) [Decidable c] (a b : State) :
    Memory.wf (if c then a else b).mem ↔ (c → Memory.wf a.mem) ∧ (¬c → Memory.wf b.mem) := by
  by_cases h : c <;> simp [h]

@[simp] theorem foldl_wf {α : Type} (f : State → α → State) (l : List α) (s : State)
    (h : ∀ s x, Memory.wf s.mem → Memory.wf (f s x).mem) (hs : Memory.wf s.mem) :
    Memory.wf (l.foldl f s).mem :=
  Keeps.foldl (fun x s => h s x) l s hs

@[simp] theorem guarded_cons_wf (b : Bool) (a eff : Act) (r : List (Bool × Act)) (s : State) :
    Memory.wf (guarded ((b, a) :: r) eff s).mem ↔ (b = true → Memory.wf (a s).mem) ∧ (b = false → Memory.wf (guarded r eff s).mem) := by
  cases b <;> simp [guarded]

theorem guarded_wf (checks : List (Bool × Act)) (eff : Act) (s : State) (hc : ∀ c ∈ checks, Memory.wf (c.2 s).mem)
    (he : Memory.wf (eff s).mem) : Memory.wf (guarded checks eff s).mem := guarded_keeps (fun t => Memory.wf t.mem) checks eff s hc he

@[simp] theorem State.writeN_wf (a n x : Nat) (s : State) (hs : Memory.wf s.mem) :
    Memory.wf (s.writeN a n x).mem := keeps_writeN a n x s hs

@[simp] theorem State.setByte_wf (a : Nat) (b : Byte) (s : State) (hs : Memory.wf s.mem) :
    Memory.wf (s.setByte a b).mem := keeps_setByte a b s hs

@[simp] theorem State.writeQuads_wf (a : Nat) (ws : List DWord) (s : State) (hs : Memory.wf s.mem) :
    Memory.wf (s.writeQuads a ws).mem := keeps_writeQuads a ws s hs

@[simp] theorem State.fillStore_wf (off : Nat) (bs : List Byte) (c : CoreRef) (s : State) (hs : Memory.wf s.mem) :
    Memory.wf (s.fillStore off bs c).mem := keeps_fillStore off bs c s hs

@[simp] theorem State.mapEntries_wf (f : Nat → Nat → Nat) (as : List Nat) (s : State) (hs : Memory.wf s.mem) :
    Memory.wf (s.mapEntries f as).mem := keeps_mapEntries f as s hs

@[simp] theorem State.copyRange_wf (a b n : Nat) (s : State) (hs : Memory.wf s.mem) :
    Memory.wf (s.copyRange a b n).mem := keeps_copyRange a b n s hs

@[simp] theorem State.record_wf (fault : Bool) (ws : List DWord) (s : State) (hs : Memory.wf s.mem) :
    Memory.wf (s.record fault ws).mem := keeps_record fault ws s hs

@[simp] theorem State.countBanks_mem (xs : List Span) (s : State) : (s.countBanks xs).mem = s.mem := by
  unfold State.countBanks
  refine foldl_mem _ (fun s k => ?_) _ _
  by_cases h : bankCycles ((bankChunks xs).filter (fun c => decide ((16 * c - 2 ^ 60) / 2 ^ 20 = k))) ≤ 1
  · rw [if_pos h]
  · rw [if_neg h]; rfl

@[simp] theorem State.rememberAll_mem (g : SlotRef) (cs : List LaneCheck) (s : State) : (s.rememberAll g cs).mem = s.mem := by
  unfold State.rememberAll
  exact foldl_mem _ (fun s k => by split <;> simp) _ _

@[simp] theorem State.sendSteals_mem (die : Nat) (s : State) : (s.sendSteals die).mem = s.mem := by
  unfold State.sendSteals
  exact foldl_mem _ (fun s k => by split <;> rfl) _ _

@[simp] theorem State.ringPut_wf (fault : Bool) (ws : List DWord) (s : State) (hs : Memory.wf s.mem) :
    Memory.wf (s.ringPut fault ws).mem := by
  unfold State.ringPut
  simp [hs]

@[simp] theorem State.abortWave_wf (k sub : Nat) (s : State) (hs : Memory.wf s.mem) :
    Memory.wf (s.abortWave k sub).mem := by
  unfold State.abortWave
  (repeat' split) <;> simp [hs]

@[simp] theorem State.abortWaves_wf (k : Nat) (s : State) (hs : Memory.wf s.mem) :
    Memory.wf (s.abortWaves k).mem := by
  unfold State.abortWaves
  simp +contextual [hs]

@[simp] theorem State.endWork_wf (k : Nat) (s : State) (hs : Memory.wf s.mem) :
    Memory.wf (s.endWork k).mem := by
  unfold State.endWork
  simp [hs]

@[simp] theorem State.sendReports_wf (s : State) (hs : Memory.wf s.mem) :
    Memory.wf (s.sendReports).mem := by
  unfold State.sendReports
  refine foldl_wf _ _ _ (fun s x h => ?_) (by simp [hs])
  (repeat' split) <;> simp +contextual [*]

@[simp] theorem State.endTaskWith_wf (k cause sub : Nat) (addr handle clause : DWord) (idx : Nat) (detail : DWord) (s : State)
    (hs : Memory.wf s.mem) :
    Memory.wf (s.endTaskWith k cause sub addr handle clause idx detail).mem := by
  have h : Memory.wf ((s.family k).foldl (fun s j => s.endWork j) s).mem := foldl_wf _ _ _ (fun s j h => by simp [h]) hs
  simp [State.endTaskWith, h]

@[simp] theorem State.endTask_wf (k cause sub : Nat) (addr handle clause : DWord) (idx : Nat) (s : State) (hs : Memory.wf s.mem) :
    Memory.wf (s.endTask k cause sub addr handle clause idx).mem := by
  unfold State.endTask
  simp [hs]

@[simp] theorem State.removedEnd_wf (g : SlotRef) (o : Op) (va : Nat) (s : State) (hs : Memory.wf s.mem) :
    Memory.wf (s.removedEnd g o va).mem := by
  unfold State.removedEnd
  simp [hs]

@[simp] theorem BlkRun.skip_mem (g : SlotRef) (o : Op) (ch lane : Nat) (bad : Bool) (x : BlkRun) :
    (x.skip g o ch lane bad).s.mem = x.s.mem := by
  simp [BlkRun.skip]

@[simp] theorem BlkRun.settled_mem (g : SlotRef) (o : Op) (ch : Nat) (t : Bool) (x : BlkRun) :
    (x.settled g o ch t).s.mem = x.s.mem := by
  simp [BlkRun.settled]

theorem BlkRun.stop_wf (g : SlotRef) (o : Op) (ch : Nat) (f : State → State) (x : BlkRun)
    (hf : ∀ t, Memory.wf t.mem → Memory.wf (f t).mem) (hx : Memory.wf x.s.mem) : Memory.wf (x.stop g o ch f).s.mem :=
  hf _ (by simpa using hx)

@[simp] theorem BlkRun.entry_wf (g : SlotRef) (o : Op) (ch : Nat) (r : RowLane) (x : BlkRun) (hx : Memory.wf x.s.mem) :
    Memory.wf (x.entry g o ch r).s.mem := by
  unfold BlkRun.entry
  split
  · simpa using hx
  · simp only
    split
    · exact hx
    · exact BlkRun.stop_wf _ _ _ _ _ (fun t h => State.removedEnd_wf _ _ _ t h) hx
    · split <;> simpa using hx

@[simp] theorem State.engineStore_wf (g : SlotRef) (a n x : Nat) (s : State) (hs : Memory.wf s.mem) :
    Memory.wf (s.engineStore g a n x).mem := by
  unfold State.engineStore
  split <;> simp [hs]

@[simp] theorem State.vwrite_wf (g : SlotRef) (a : DWord) (bs : List Byte) (s : State) (hs : Memory.wf s.mem) :
    Memory.wf (s.vwrite g a bs).mem := by
  induction bs generalizing a s with
  | nil => exact hs
  | cons b r ih =>
    refine ih _ _ ?_
    split <;> simp [hs]

@[simp] theorem State.writeRuns_wf (g : SlotRef) (d : Td) (o : Nat) (bs : List Byte) (xs : List Run) (s : State) (hs : Memory.wf s.mem) :
    Memory.wf (s.writeRuns g d o bs xs).mem := by
  unfold State.writeRuns
  simp +contextual [hs]

@[simp] theorem BlkRun.row_wf (g : SlotRef) (o : Op) (ch : Nat) (a : DWord) (x : BlkRun) (hx : Memory.wf x.s.mem) :
    Memory.wf (x.row g o ch a).s.mem := by
  unfold BlkRun.row
  simp only
  split
  · simpa using hx
  · split
    · exact BlkRun.stop_wf _ _ _ _ _ (fun t h => by simp [h]) hx
    · split
      · exact BlkRun.stop_wf _ _ _ _ _ (fun t h => State.removedEnd_wf _ _ _ t h) hx
      · exact BlkRun.stop_wf _ _ _ _ _ (fun t h => State.removedEnd_wf _ _ _ t h) hx
      · exact hx
      · exact hx
      · simp only [BlkRun.settled_mem, State.modGrp_mem, State.zeroWritten_mem]
        split <;> simp [hx]

@[simp] theorem BlkRun.next_wf (g : SlotRef) (o : Op) (ch : Nat) (x : BlkRun) (hx : Memory.wf x.s.mem) :
    Memory.wf (x.next g o ch).s.mem := by
  unfold BlkRun.next
  split
  · exact hx
  · split
    · exact hx
    · split
      · exact BlkRun.row_wf _ _ _ _ _ hx
      · simp only
        split
        · split
          · exact BlkRun.entry_wf _ _ _ _ _ hx
          · exact BlkRun.row_wf _ _ _ _ _ (BlkRun.entry_wf _ _ _ _ _ hx)
        · exact BlkRun.entry_wf _ _ _ _ _ hx

@[simp] theorem State.endTaskAt_wf (c : CtxId) (cause sub : Nat) (addr : DWord) (s : State) (hs : Memory.wf s.mem) :
    Memory.wf (s.endTaskAt c cause sub addr).mem := by
  unfold State.endTaskAt
  simp [hs]

@[simp] theorem State.badRestore_wf (g : SlotRef) (s : State) (hs : Memory.wf s.mem) :
    Memory.wf (s.badRestore g).mem := by
  unfold State.badRestore
  simp [hs]

@[simp] theorem State.checkRestore_wf (g : SlotRef) (is : List Nat) (records : Bool) (eff : State → State) (s : State) (he : ∀ t, Memory.wf t.mem → Memory.wf (eff t).mem) (hs : Memory.wf s.mem) :
    Memory.wf (s.checkRestore g is records eff).mem := by
  unfold State.checkRestore
  simp [hs, he]

@[simp] theorem State.checkGroup_wf (g : SlotRef) (eff : State → State) (s : State) (he : ∀ t, Memory.wf t.mem → Memory.wf (eff t).mem) (hs : Memory.wf s.mem) :
    Memory.wf (s.checkGroup g eff).mem := by
  unfold State.checkGroup
  simp +contextual [hs, he]

@[simp] theorem State.restoreGrace_wf (g : SlotRef) (s : State) (hs : Memory.wf s.mem) :
    Memory.wf (s.restoreGrace g).mem := by
  unfold State.restoreGrace
  split <;> simp [hs]

@[simp] theorem State.restoreSaved_wf (c : CtxId) (map : Option DWord) (s : State) (hs : Memory.wf s.mem) :
    Memory.wf (s.restoreSaved c map).mem := by
  unfold State.restoreSaved
  split <;> simp [hs]

@[simp] theorem State.deliver_wf (c : CtxId) (t : Trap) (s : State) (hs : Memory.wf s.mem) :
    Memory.wf (s.deliver c t).mem := by
  unfold State.deliver
  simp only
  split <;> (try split) <;> simp [hs]

@[simp] theorem State.stdrainResolve_wf (c : CtxId) (s : State) (hs : Memory.wf s.mem) :
    Memory.wf (s.stdrainResolve c).mem := by
  unfold State.stdrainResolve
  simp only
  split <;> (try split) <;> simp [hs]

@[simp] theorem fetchFault_wf (s : State) (hs : Memory.wf s.mem) :
    Memory.wf (fetchFault s).mem := by
  unfold fetchFault
  split <;> simp [hs]

@[simp] theorem State.writeCells_wf (cs : List ImageCell) (s : State) (hs : Memory.wf s.mem) :
    Memory.wf (s.writeCells cs).mem := by
  unfold State.writeCells
  simp +contextual [hs]

@[simp] theorem State.syncAway_wf (s0 s : State) (hs : Memory.wf s.mem) :
    Memory.wf (s0.syncAway s).mem := by
  refine foldl_wf _ _ _ (fun t x ht => ?_) hs
  split <;> simp [ht]

@[simp] theorem State.illegalHeader_wf (pc : DWord) (sub : Nat) (s : State) (hs : Memory.wf s.mem) :
    Memory.wf (s.illegalHeader pc sub).mem := by
  unfold State.illegalHeader
  simp [hs]

@[simp] theorem State.raiseB_wf (cause : Nat) (info addr : DWord) (s : State) (hs : Memory.wf s.mem) :
    Memory.wf (s.raiseB cause info addr).mem := by
  unfold State.raiseB
  simp [hs]

@[simp] theorem State.raise_wf (n cause : Nat) (info addr : DWord) (s : State) (hs : Memory.wf s.mem) :
    Memory.wf (s.raise n cause info addr).mem := by
  unfold State.raise
  simp [hs]

@[simp] theorem State.illegal_wf (n sub : Nat) (s : State) (hs : Memory.wf s.mem) :
    Memory.wf (s.illegal n sub).mem := by
  unfold State.illegal
  simp [hs]

@[simp] theorem illegalWord_wf (long : Bool) (cls sub : Nat) (s : State) (hs : Memory.wf s.mem) :
    Memory.wf (illegalWord long cls sub s).mem := by
  unfold illegalWord
  simp [hs]

@[simp] theorem toTarget_wf (t : DWord) (eff : Act) (s : State) (he : ∀ t, Memory.wf t.mem → Memory.wf (eff t).mem) (hs : Memory.wf s.mem) :
    Memory.wf (toTarget t eff s).mem := by
  unfold toTarget
  split <;> simp [hs, he]

@[simp] theorem condBranch_wf (taken : Bool) (t : BitVec 16) (s : State) (hs : Memory.wf s.mem) :
    Memory.wf (condBranch taken t s).mem := by
  unfold condBranch
  simp [hs]

@[simp] theorem compareOp_wf (ty : ObTy) (rel : Word → Word → Bool) (d : Nat) (m : CMode) (a : Nat) (b : Ob) (s : State) (hs : Memory.wf s.mem) :
    Memory.wf (compareOp ty rel d m a b s).mem := by
  unfold compareOp
  simp [hs]

@[simp] theorem State.holdLanes_wf (h : Held) (s : State) (hs : Memory.wf s.mem) :
    Memory.wf (s.holdLanes h).mem := by
  unfold State.holdLanes
  simp [hs]

@[simp] theorem laneOp_wf (f : LaneForm) (res : State → Nat → LaneRes) (src : State → Nat → LaneSrc) (s : State) (hs : Memory.wf s.mem) :
    Memory.wf (laneOp f res src s).mem := by
  unfold laneOp
  simp [hs]

@[simp] theorem vArith_wf (op cost : Nat) (ty : ObTy) (f : Nat → Word → Word → Word → LaneRes) (d a : Nat) (b : Ob) (s : State) (hs : Memory.wf s.mem) :
    Memory.wf (vArith op cost ty f d a b s).mem := by
  unfold vArith
  simp [hs]

@[simp] theorem State.rejectUmber_wf (x : FirmwareImage) (s : State) (hs : Memory.wf s.mem) :
    Memory.wf (s.rejectUmber x).mem := by
  unfold State.rejectUmber
  simp [hs]

@[simp] theorem State.bootUmber_wf (images : List FirmwareImage) (s : State) (hs : Memory.wf s.mem) :
    Memory.wf (s.bootUmber images).mem := by
  unfold State.bootUmber
  refine foldl_wf _ _ _ (fun s x h => ?_) (by simp [hs])
  (repeat' split) <;> simp [*]

@[simp] theorem handlerOp_wf (eff : Act) (s : State) (he : ∀ t, Memory.wf t.mem → Memory.wf (eff t).mem) (hs : Memory.wf s.mem) :
    Memory.wf (handlerOp eff s).mem := by
  unfold handlerOp
  simp [hs, he]

@[simp] theorem State.deliverAt_wf (c : CtxId) (t : Trap) (s : State) (hs : Memory.wf s.mem) :
    Memory.wf (s.deliverAt c t).mem := by
  unfold State.deliverAt
  simp [hs]

@[simp] theorem State.saveDrain_wf (g : SlotRef) (eff : Act) (s : State) (he : ∀ t, Memory.wf t.mem → Memory.wf (eff t).mem) (hs : Memory.wf s.mem) :
    Memory.wf (s.saveDrain g eff).mem := by
  unfold State.saveDrain
  (repeat' split) <;> simp [hs, he]

@[simp] theorem State.saveTask_wf (k : Nat) (s : State) (hs : Memory.wf s.mem) :
    Memory.wf (s.saveTask k).mem := by
  unfold State.saveTask
  split <;> simp [hs]

@[simp] theorem State.evictTeam_wf (t : Nat) (s : State) (hs : Memory.wf s.mem) :
    Memory.wf (s.evictTeam t).mem := by
  unfold State.evictTeam
  split <;> simp [hs]

@[simp] theorem vWord_wf (op : Nat) (f : State → Nat → Word) (d : Nat) (s : State) (hs : Memory.wf s.mem) :
    Memory.wf (vWord op f d s).mem := by
  unfold vWord
  simp [hs]

@[simp] theorem hArith_wf (op : Nat) (ty : ObTy) (f : Nat → Word → Word → Word → LaneRes) (d : Nat) (b : Ob) (s : State) (hs : Memory.wf s.mem) :
    Memory.wf (hArith op ty f d b s).mem := by
  unfold hArith
  simp [hs]

@[simp] theorem crossOp_wf (op : Nat) (f : State → Nat → Word) (d a : Nat) (s : State) (hs : Memory.wf s.mem) :
    Memory.wf (crossOp op f d a s).mem := by
  unfold crossOp
  simp [hs]

@[simp] theorem inExtent_wf (ls : List Nat) (eff : Act) (s : State) (he : ∀ t, Memory.wf t.mem → Memory.wf (eff t).mem) (hs : Memory.wf s.mem) :
    Memory.wf (inExtent ls eff s).mem := by
  unfold inExtent
  split <;> simp [hs, he]

@[simp] theorem State.removedAtIssue_wf (va : Nat) (s : State) (hs : Memory.wf s.mem) :
    Memory.wf (s.removedAtIssue va).mem := by
  unfold State.removedAtIssue
  simp [hs]

@[simp] theorem State.addrTrap_wf (sub : Nat) (a : DWord) (s : State) (hs : Memory.wf s.mem) :
    Memory.wf (s.addrTrap sub a).mem := by
  unfold State.addrTrap
  simp [hs]

@[simp] theorem State.misTrap_wf (sub : Nat) (a : DWord) (s : State) (hs : Memory.wf s.mem) :
    Memory.wf (s.misTrap sub a).mem := by
  unfold State.misTrap
  simp [hs]

theorem cpyChecks_wf (src dst : DWord) (n : Nat) (s t : State) (ht : Memory.wf t.mem) : ∀ c ∈ cpyChecks src dst n s, Memory.wf (c.2 t).mem := by
  simp [cpyChecks, ht]

@[simp] theorem State.capTrap_wf (sub : Nat) (s : State) (hs : Memory.wf s.mem) :
    Memory.wf (s.capTrap sub).mem := by
  unfold State.capTrap
  simp [hs]

@[simp] theorem withCap_wf (k : Nat) (kinds : List Nat) (eff : Act) (s : State) (he : ∀ t, Memory.wf t.mem → Memory.wf (eff t).mem) (hs : Memory.wf s.mem) :
    Memory.wf (withCap k kinds eff s).mem := by
  unfold withCap
  split <;> simp [hs, he]

@[simp] theorem vUnary_wf (op cost : Nat) (f : Nat → Word → LaneRes) (d a : Nat) (s : State) (hs : Memory.wf s.mem) :
    Memory.wf (vUnary op cost f d a s).mem := by
  unfold vUnary
  simp [hs]

@[simp] theorem State.raiseHere_wf (t : Trap) (s : State) (hs : Memory.wf s.mem) :
    Memory.wf (s.raiseHere t).mem := by
  unfold State.raiseHere
  simp [hs]

@[simp] theorem deliverFlagErr_wf (f : Nat) (t : Trap) (s : State) (hs : Memory.wf s.mem) :
    Memory.wf (deliverFlagErr f t s).mem := by
  unfold deliverFlagErr
  simp [hs]

@[simp] theorem State.copyWords_wf (g : SlotRef) (o : Op) (src dst : DWord) (n : Nat) (s : State) (hs : Memory.wf s.mem) :
    Memory.wf (s.copyWords g o src dst n).mem := by
  induction n generalizing src dst s with
  | zero => exact hs
  | succ n ih => exact ih _ _ _ (State.vwrite_wf _ _ _ _ hs)

@[simp] theorem State.cpyStep_wf (g : SlotRef) (o : Op) (ch : Nat) (src dst : DWord) (len n : Nat) (s : State) (hs : Memory.wf s.mem) :
    Memory.wf (s.cpyStep g o ch src dst len n).mem := by
  unfold State.cpyStep
  simp only
  split <;> (try split) <;> simp [hs]

theorem BlkRun.foldl_next_wf (g : SlotRef) (o : Op) (ch : Nat) (l : List Nat) (x : BlkRun) (hx : Memory.wf x.s.mem) :
    Memory.wf (l.foldl (fun (x : BlkRun) _ => x.next g o ch) x).s.mem := by
  induction l generalizing x with
  | nil => exact hx
  | cons _ r ih => exact ih _ (BlkRun.next_wf g o ch x hx)

@[simp] theorem State.blkStep_wf (g : SlotRef) (o : Op) (ch : Nat) (b : BlkOp) (n : Nat) (s : State) (hs : Memory.wf s.mem) :
    Memory.wf (s.blkStep g o ch b n).mem := by
  unfold State.blkStep
  simp only [ite_wf, State.copyDone_mem, State.engineWrote_mem, State.opStep_mem]
  simp [hs, BlkRun.foldl_next_wf]

@[simp] theorem State.writePlaces_wf (ps : List Nat) (bs : List Byte) (s : State) (hs : Memory.wf s.mem) :
    Memory.wf (s.writePlaces ps bs).mem := by
  unfold State.writePlaces
  simp +contextual [hs]

@[simp] theorem State.fabWrite_wf (g : SlotRef) (o : Op) (f : FabOp) (r : RowLane) (xs : List (Nat × Byte)) (s : State)
    (hs : Memory.wf s.mem) :
    Memory.wf (s.fabWrite g o f r xs).1.mem := by
  simp only [State.fabWrite, State.modGrp_mem, State.zeroWritten_mem, State.engineWrote_mem]
  exact foldl_wf _ _ _ (fun t x h => State.engineStore_wf _ _ _ _ _ h) hs

@[simp] theorem State.fabEnd_wf (g : SlotRef) (o : Op) (ch : Nat) (f : FabOp) (r : RowLane) (e : RowEnd) (bad : Bool) (seen : List Nat) (xs : List (Nat × Byte)) (s : State) (hs : Memory.wf s.mem) :
    Memory.wf (s.fabEnd g o ch f r e bad seen xs).mem := by
  unfold State.fabEnd
  simp [hs]

@[simp] theorem State.fabStep_wf (g : SlotRef) (o : Op) (ch : Nat) (f : FabOp) (p : Nat) (answers : List PeerAnswer) (s : State)
    (hs : Memory.wf s.mem) :
    Memory.wf (s.fabStep g o ch f p answers).mem := by
  have hend : ∀ r e bad seen xs, Memory.wf (s.fabEnd g o ch f r e bad seen xs).mem :=
    fun r e bad seen xs => State.fabEnd_wf _ _ _ _ _ _ _ _ _ _ hs
  have hrem : ∀ va, Memory.wf ((s.copyEnd g o ch).removedEnd g o va).mem :=
    fun va => State.removedEnd_wf _ _ _ _ (by simpa using hs)
  unfold State.fabStep
  split
  · exact hs
  · extract_lets n rs here k tdLines ls rd wr from_ near bs ps loop looped sent far
    split
    · exact hs
    split
    · exact hend _ _ _ _ _
    split
    · exact hend _ _ _ _ _
    split
    · exact hs
    split
    · exact hrem _
    · exact hs
    · split
      · split
        · exact State.endTask_wf _ _ _ _ _ _ _ _ (by simpa using hs)
        split
        · exact hend _ _ _ _ _
        split
        · exact hrem _
        · exact hs
        · exact State.fabEnd_wf _ _ _ _ _ _ _ _ _ _ (by simpa [near] using hs)
      · split
        · exact hend _ _ _ _ _
        · split
          · exact hs
          · refine State.fabEnd_wf _ _ _ _ _ _ _ _ _ _ ?_
            simp only [State.chargeSeen_mem, State.chargeAt_mem, looped]
            split <;> simpa using hs
        · split
          · exact State.abortWave_wf _ _ _ hs
          · split
            · refine State.fabEnd_wf _ _ _ _ _ _ _ _ _ _ ?_
              simp only [State.chargeSeen_mem, State.chargeAt_mem, State.drawRead_mem, State.recallRead_mem, far]
              split <;> simp [hs]
            · exact hs
        · exact hs

theorem State.tdChecks_wf (d : Td) (shape wr : Bool) (xs : List Run) (s t : State) (ht : Memory.wf t.mem) :
    ∀ c ∈ s.tdChecks d shape wr xs, Memory.wf (c.2 t).mem := by
  simp [State.tdChecks, ht]

@[simp] theorem fabricIssue_wf (scatter : Bool) (a c d : Nat) (s : State) (hs : Memory.wf s.mem) :
    Memory.wf (fabricIssue scatter a c d s).mem := by
  unfold fabricIssue
  extract_lets k t rows xs f ls
  refine guarded_wf _ _ _ (by simp [hs]) (withCap_wf _ _ _ _ (fun t ht => ?_) hs)
  refine guarded_wf _ _ _ (fun c hc => ?_) (inExtent_wf _ _ _ (fun u hu => by simp [hu]) ht)
  rcases List.mem_append.mp hc with hc | hc
  · exact State.tdChecks_wf _ _ _ _ _ _ ht c hc
  · simp at hc
    simp [hc, ht]

@[simp] theorem issueOrHold_wf (o : Op) (traps : List LaneTrap) (dest width code : Nat) (s : State) (hs : Memory.wf s.mem) :
    Memory.wf (issueOrHold o traps dest width code s).mem := by
  unfold issueOrHold
  simp [hs]

@[simp] theorem vstore_wf (size code n t vx b obs : Nat) (s : State) (hs : Memory.wf s.mem) :
    Memory.wf (vstore size code n t vx b obs s).mem := by
  unfold vstore
  simp only
  refine guarded_wf _ _ _ (by simp [hs]) ?_
  (repeat' split) <;> simp [hs]

@[simp] theorem State.waveLimit_wf (g : SlotRef) (s : State) (hs : Memory.wf s.mem) :
    Memory.wf (s.waveLimit g).mem := by
  unfold State.waveLimit
  split <;> simp [hs]

@[simp] theorem scalarFail_wf (a : DWord) (r : AccRes) (s : State) (hs : Memory.wf s.mem) :
    Memory.wf (scalarFail a r s).mem := by
  unfold scalarFail
  split <;> simp [hs]

@[simp] theorem predOp_wf (f : State → Word) (d : Nat) (s : State) (hs : Memory.wf s.mem) :
    Memory.wf (predOp f d s).mem := by
  unfold predOp
  simp [hs]

@[simp] theorem vload_wf (k : LoadKind) (code n t vx b obs : Nat) (s : State) (hs : Memory.wf s.mem) :
    Memory.wf (vload k code n t vx b obs s).mem := by
  unfold vload
  simp only
  refine guarded_wf _ _ _ (by simp [hs]) ?_
  (repeat' split) <;> simp [hs]

@[simp] theorem descriptorCheck_wf (sub n al : Nat) (a : DWord) (eff : Act) (s : State) (he : ∀ t, Memory.wf t.mem → Memory.wf (eff t).mem) (hs : Memory.wf s.mem) :
    Memory.wf (descriptorCheck sub n al a eff s).mem := by
  unfold descriptorCheck
  split <;> (try split) <;> simp [hs, he]

@[simp] theorem vatomic_wf (k : AtomKind) (code t vx b obs : Nat) (s : State) (hs : Memory.wf s.mem) :
    Memory.wf (vatomic k code t vx b obs s).mem := by
  unfold vatomic
  simp only
  refine guarded_wf _ _ _ (by simp [hs]) ?_
  (repeat' split) <;> simp [hs]

@[simp] theorem State.incCounter_wf (t off : Nat) (s : State) (hs : Memory.wf s.mem) :
    Memory.wf (s.incCounter t off).mem := by
  unfold State.incCounter
  simp [hs]

@[simp] theorem State.saveCounters_wf (t : Nat) (s : State) (hs : Memory.wf s.mem) :
    Memory.wf (s.saveCounters t).mem := by
  unfold State.saveCounters
  split <;> simp [hs]

@[simp] theorem sstore_wf (size st imm b obs : Nat) (s : State) (hs : Memory.wf s.mem) :
    Memory.wf (sstore size st imm b obs s).mem := by
  unfold sstore
  refine guarded_wf _ _ _ (by simp [hs]) ?_
  (repeat' split) <;> simp [hs]

@[simp] theorem barOp_wf (k : BarKind) (st imm b obs : Nat) (s : State) (hs : Memory.wf s.mem) :
    Memory.wf (barOp k st imm b obs s).mem := by
  unfold barOp
  split <;> simp [hs]

@[simp] theorem mregExtent_wf (obj method flags : DWord) (eff : Nat → Act) (s : State) (he : ∀ p t, Memory.wf t.mem → Memory.wf (eff p t).mem) (hs : Memory.wf s.mem) :
    Memory.wf (mregExtent obj method flags eff s).mem := by
  unfold mregExtent
  (repeat' split) <;> simp [hs, he]

@[simp] theorem State.zeroBytes_wf (a n : Nat) (s : State) (hs : Memory.wf s.mem) :
    Memory.wf (s.zeroBytes a n).mem := keeps_zeroBytes a n s hs

@[simp] theorem State.haltQueue_wf (q : Nat) (s : State) (hs : Memory.wf s.mem) :
    Memory.wf (s.haltQueue q).mem := by
  unfold State.haltQueue
  simp [hs]

@[simp] theorem State.examineHead_wf (q : Nat) (s : State) (hs : Memory.wf s.mem) :
    Memory.wf (s.examineHead q).mem := by
  unfold State.examineHead
  simp only
  (repeat' split) <;> simp [hs]

theorem State.carve_mem {b n : Nat} {s t : State} (h : s.carve b n = some t) : t.mem = s.mem := by
  unfold State.carve at h
  simp only at h
  split at h
  · cases h
  · cases h; rfl

theorem State.acceptGrid_wf {k : Nat} {s t : State} (hs : Memory.wf s.mem) (h : s.acceptGrid k = some t) : Memory.wf t.mem := by
  unfold State.acceptGrid at h
  simp only at h
  split at h
  · cases h
  · obtain ⟨s0, hc, rfl⟩ := Option.map_eq_some_iff.mp h
    exact State.saveTask_wf k s0 (by rw [State.carve_mem hc]; exact hs)

@[simp] theorem State.startQueue_wf (q : Nat) (s : State) (hs : Memory.wf s.mem) :
    Memory.wf (s.startQueue q).mem := by
  unfold State.startQueue
  split
  · exact hs
  · split
    · exact hs
    · split
      · exact hs
      · rename_i h
        simp [State.acceptGrid_wf hs h]

@[simp] theorem State.startHeads_wf (s : State) (hs : Memory.wf s.mem) :
    Memory.wf (s.startHeads).mem := by
  unfold State.startHeads
  simp +contextual [hs]

@[simp] theorem State.writeSaved_wf (c : CtxId) (map : Option DWord) (s : State) (hs : Memory.wf s.mem) :
    Memory.wf (s.writeSaved c map).mem := by
  unfold State.writeSaved
  split <;> simp [hs]

@[simp] theorem State.saveCtx_wf (map : Option DWord) (resume : DWord) (s : State) (hs : Memory.wf s.mem) :
    Memory.wf (s.saveCtx map resume).mem := by
  unfold State.saveCtx
  simp [hs]

@[simp] theorem State.atDrain_wf (eff : Act) (s : State) (he : ∀ t, Memory.wf t.mem → Memory.wf (eff t).mem) (hs : Memory.wf s.mem) :
    Memory.wf (s.atDrain eff).mem := by
  unfold State.atDrain
  (repeat' split) <;> simp [hs, he]

@[simp] theorem drainPoint_wf (save : Bool) (eff : Act) (s : State) (he : ∀ t, Memory.wf t.mem → Memory.wf (eff t).mem) (hs : Memory.wf s.mem) :
    Memory.wf (drainPoint save eff s).mem := by
  unfold drainPoint
  simp +contextual [hs, he]

@[simp] theorem State.writeRow_wf (g : SlotRef) (t : Td) (x : Rect) (r : Nat) (p : RowPart) (s : State) (hs : Memory.wf s.mem) :
    Memory.wf (s.writeRow g t x r p).mem := by
  unfold State.writeRow
  simp [hs]

@[simp] theorem State.slotStore_wf (g : SlotRef) (w : Write) (a n x : Nat) (s : State) (hs : Memory.wf s.mem) :
    Memory.wf (s.slotStore g w a n x).mem := by
  unfold State.slotStore
  split <;> simp [hs]

@[simp] theorem State.atomLane_wf (g : SlotRef) (w : Write) (k : AtomKind) (t : Nat) (a : LaneAcc) (s : State) (hs : Memory.wf s.mem) :
    Memory.wf (s.atomLane g w k t a).mem := by
  unfold State.atomLane
  simp [hs]

@[simp] theorem State.retireGroup_wf (g : SlotRef) (s : State) (hs : Memory.wf s.mem) :
    Memory.wf (s.retireGroup g).mem := by
  unfold State.retireGroup
  simp [hs]

@[simp] theorem withBaton_wf (eff : Act) (s : State) (he : ∀ t, Memory.wf t.mem → Memory.wf (eff t).mem) (hs : Memory.wf s.mem) :
    Memory.wf (withBaton eff s).mem := by
  unfold withBaton
  simp [hs, he]

@[simp] theorem mmaIssue_wf (zero : Bool) (c a b mc d : Nat) (s : State) (hs : Memory.wf s.mem) :
    Memory.wf (mmaIssue zero c a b mc d s).mem := by
  unfold mmaIssue
  simp [hs]

@[simp] theorem State.saveQueue_wf (q : Nat) (s : State) (hs : Memory.wf s.mem) :
    Memory.wf (s.saveQueue q).mem := by
  unfold State.saveQueue
  simp [hs]

@[simp] theorem qmvIssue_wf (code form c d b ni no : Nat) (s : State) (hs : Memory.wf s.mem) :
    Memory.wf (qmvIssue code form c d b ni no s).mem := by
  unfold qmvIssue
  simp [hs]

@[simp] theorem qArith_wf (op : Nat) (ty : ObTy) (f : Nat → Word → Word → Word → LaneRes) (d : Nat) (b : Ob) (s : State) (hs : Memory.wf s.mem) :
    Memory.wf (qArith op ty f d b s).mem := by
  unfold qArith
  simp [hs]

@[simp] theorem State.storeRecords_wf (g : SlotRef) (s : State) (hs : Memory.wf s.mem) :
    Memory.wf (s.storeRecords g).mem := by
  unfold State.storeRecords
  split <;> simp [hs]

@[simp] theorem withRecords_wf (g : SlotRef) (eff : State → State) (s : State) (he : ∀ t, Memory.wf t.mem → Memory.wf (eff t).mem) (hs : Memory.wf s.mem) :
    Memory.wf (withRecords g eff s).mem := by
  unfold withRecords
  simp [hs, he]

@[simp] theorem State.arriveMerge_wf (k : Nat) (s : State) (hs : Memory.wf s.mem) :
    Memory.wf (s.arriveMerge k).mem := by
  refine withRecords_wf _ _ _ (fun t ht => ?_) hs
  rw [State.resolve_mem]
  split <;> simpa using ht

@[simp] theorem State.peerAtomic_wf (k : AtomKind) (a : Nat) (ws : List Word) (s : State) (hs : Memory.wf s.mem) :
    Memory.wf (s.peerAtomic k a ws).mem := by
  unfold State.peerAtomic
  simp [hs]

@[simp] theorem State.reorderTrap_wf (c : CtxId) (cause info : Nat) (s : State) (hs : Memory.wf s.mem) :
    Memory.wf (s.reorderTrap c cause info).mem := by
  unfold State.reorderTrap
  simp [hs]

@[simp] theorem State.cancelArrivals_wf (t cause info : Nat) (s : State) (hs : Memory.wf s.mem) :
    Memory.wf (s.cancelArrivals t cause info).mem := by
  refine State.syncAway_wf _ _ (foldl_wf _ _ _ (fun u e hu => ?_) hs)
  split
  · split <;> simp [hu]
  · split <;> exact hu
  · exact hu

@[simp] theorem State.chargeSpill_wf (t n : Nat) (s : State) (hs : Memory.wf s.mem) :
    Memory.wf (s.chargeSpill t n).mem := by
  unfold State.chargeSpill
  simp only
  (repeat' split) <;> simp +contextual [hs]

@[simp] theorem State.startCollective_wf (t : Nat) (s : State) (hs : Memory.wf s.mem) :
    Memory.wf (s.startCollective t).mem := by
  unfold State.startCollective
  simp [hs]

@[simp] theorem State.arriveReorder_wf (a : ReorderArgs) (s : State) (hs : Memory.wf s.mem) :
    Memory.wf (s.arriveReorder a).mem := by
  unfold State.arriveReorder
  split
  · exact hs
  · refine State.atDrain_wf _ _ (fun t _ => ?_) (by simpa using hs)
    simp only
    split
    · simp [hs]
    · split <;> simp [hs]

@[simp] theorem chanChecked_wf (dir c d n : Nat) (eff : Act) (s : State) (he : ∀ t, Memory.wf t.mem → Memory.wf (eff t).mem) (hs : Memory.wf s.mem) :
    Memory.wf (chanChecked dir c d n eff s).mem := by
  unfold chanChecked
  simp +contextual [hs, he]

@[simp] theorem State.nextWaiting_wf (g : SlotRef) (s : State) (hs : Memory.wf s.mem) :
    Memory.wf (s.nextWaiting g).mem := by
  unfold State.nextWaiting
  split <;> simp [hs]

@[simp] theorem State.retire_wf (c : CtxId) (lanes : Word) (s : State) (hs : Memory.wf s.mem) :
    Memory.wf (s.retire c lanes).mem := by
  unfold State.retire
  extract_lets g gone left s1 s2 s3 s4
  have h2 : Memory.wf s2.mem := by simp only [s2, s1]; split <;> simpa using hs
  split
  · exact withRecords_wf _ _ _ (fun t ht => by simpa using ht) h2
  · have h4 : Memory.wf s4.mem := by
      refine withRecords_wf _ _ _ (fun t ht => ?_) (by simpa [s3] using h2)
      split
      · simpa using ht
      · simp only
        split <;> simpa using ht
    split
    · exact State.nextWaiting_wf _ _ h4
    · exact h4

@[simp] theorem State.leaveWave_wf (c : CtxId) (lanes : Word) (s : State) (hs : Memory.wf s.mem) :
    Memory.wf (s.leaveWave c lanes).mem := by
  unfold State.leaveWave
  simp [hs]

theorem State.evictFor_mem {k die : Nat} {x : Item} {s t : State} (h : s.evictFor k die x = some t) : t.mem = s.mem := by
  obtain ⟨e, _, rfl⟩ := Option.map_eq_some_iff.mp h
  exact foldl_mem _ (fun u g => State.markEvict_mem g u) _ _

@[simp] theorem State.initBarriers_wf (t : Nat) (s : State) (hs : Memory.wf s.mem) :
    Memory.wf (s.initBarriers t).mem := by
  unfold State.initBarriers
  simp +contextual [hs]

@[simp] theorem State.loadConst_wf (c : CoreRef) (k : Nat) (s : State) (hs : Memory.wf s.mem) :
    Memory.wf (s.loadConst c k).mem := by
  unfold State.loadConst
  simp only
  split
  · exact State.fillStore_wf _ _ _ _ (State.zeroBytes_wf _ _ _ (by simp [hs]))
  · exact hs

@[simp] theorem State.takeCore_wf (k : Nat) (f : Fit) (s : State) (hs : Memory.wf s.mem) :
    Memory.wf (s.takeCore k f).mem :=
  State.loadConst_wf _ _ _ (State.zeroBytes_wf _ _ _ hs)

theorem State.placeTeam_wf {k teamId : Nat} {fs : List Fit} {s t : State} (hs : Memory.wf s.mem) (h : s.placeTeam k teamId fs = some t) :
    Memory.wf t.mem := by
  unfold State.placeTeam at h
  extract_lets j i regs ai at_ slots base team at h
  split at h
  · cases h
  · rename_i s0 hc
    extract_lets s1 s1f s2 s3 s4 at h
    cases h
    have h1 : Memory.wf s1.mem := foldl_wf _ _ _ (fun u f hu => State.takeCore_wf _ _ _ hu) (by rw [State.carve_mem hc]; exact hs)
    have h4 : s4.mem = s1.mem := foldl_mem _ (fun u e => by simp) _ _
    rw [State.entryHold_mem, State.yieldTest_mem]
    exact State.initBarriers_wf _ _ (h4 ▸ h1)

@[simp] theorem State.readBars_wf (t a : Nat) (s : State) (hs : Memory.wf s.mem) :
    Memory.wf (s.readBars t a).mem := by
  unfold State.readBars
  simp +contextual [hs]

@[simp] theorem State.returnGroup_wf (t gi : Nat) (im : Group) (from_ g : SlotRef) (s : State) (hs : Memory.wf s.mem) :
    Memory.wf (s.returnGroup t gi im from_ g).mem := by
  unfold State.returnGroup
  simp [hs]

@[simp] theorem State.decCounter_wf (t off : Nat) (s : State) (hs : Memory.wf s.mem) :
    Memory.wf (s.decCounter t off).mem := by
  unfold State.decCounter
  simp [hs]

@[simp] theorem State.readSpad_wf (t a : Nat) (s : State) (hs : Memory.wf s.mem) :
    Memory.wf (s.readSpad t a).mem := by
  unfold State.readSpad
  simp +contextual [hs]

@[simp] theorem State.returnTeam_wf (t : Nat) (fs : List Fit) (s : State) (hs : Memory.wf s.mem) :
    Memory.wf (s.returnTeam t fs).mem := by
  unfold State.returnTeam
  extract_lets a m slots s1 s2 s3 s5
  have h1 : Memory.wf s1.mem := foldl_wf _ _ _ (fun u f hu => State.takeCore_wf _ _ _ hu) hs
  have h3 : s3.mem = s1.mem := (foldl_mem _ (fun u i => by split <;> rfl) _ _).trans rfl
  have h5 : Memory.wf s5.mem := by
    refine foldl_wf _ _ _ (fun u off hu => State.decCounter_wf _ _ _ hu) (State.readBars_wf _ _ _ (State.readSpad_wf _ _ _ ?_))
    rw [h3]
    exact h1
  split
  · simp [hs]
  · refine foldl_wf _ _ _ (fun u e hu => ?_) h5
    split
    · split
      · exact hu
      · exact State.returnGroup_wf _ _ _ _ _ _ hu
    · exact hu

theorem State.putItem_wf {k die : Nat} {x : Item} {fs : List Fit} {s t : State} (hs : Memory.wf s.mem) (h : s.putItem k die x fs = some t) :
    Memory.wf t.mem := by
  unfold State.putItem at h
  obtain ⟨u, hu, rfl⟩ := Option.map_eq_some_iff.mp h
  rw [State.modTask_mem]
  cases x with
  | back b => cases hu; exact State.returnTeam_wf _ _ _ hs
  | new_ id =>
    obtain ⟨v, hv, rfl⟩ := Option.map_eq_some_iff.mp hu
    rw [State.modTask_mem]
    exact State.placeTeam_wf hs hv

@[simp] theorem State.placeItem_wf (k die : Nat) (x : Item) (s : State) (hs : Memory.wf s.mem) :
    Memory.wf (s.placeItem k die x).1.mem := by
  unfold State.placeItem
  split
  · split
    · rename_i h
      obtain ⟨fs, _, h⟩ := Option.bind_eq_some_iff.mp h
      exact State.putItem_wf hs h
    · split
      · rename_i h
        rw [State.evictFor_mem h]
        exact hs
      · exact hs
  · extract_lets l r s1
    have h1 : Memory.wf s1.mem := hs
    split
    · rename_i h
      obtain ⟨fs, _, h⟩ := Option.bind_eq_some_iff.mp h
      exact State.putItem_wf h1 h
    · split
      · split
        · rename_i h
          rw [State.modTask_mem]
          exact State.putItem_wf h1 h
        · exact hs
      · split
        · rename_i h
          rw [State.evictFor_mem h]
          exact h1
        · exact hs

@[simp] theorem State.tryGrid_wf (k die : Nat) (s : State) (hs : Memory.wf s.mem) :
    Memory.wf (s.tryGrid k die).1.mem := by
  unfold State.tryGrid
  split
  · exact hs
  · split
    · exact hs
    · split
      · split
        · rename_i h
          obtain ⟨fs, _, h⟩ := Option.bind_eq_some_iff.mp h
          exact State.putItem_wf hs h
        · split
          · exact hs
          · exact State.placeItem_wf _ _ _ _ hs
      · exact State.placeItem_wf _ _ _ _ hs

@[simp] theorem State.placeFirst_wf (die : Nat) (ks : List Nat) (s : State) (hs : Memory.wf s.mem) :
    Memory.wf (s.placeFirst die ks).mem := by
  induction ks generalizing s with
  | nil => exact hs
  | cons k r ih =>
    unfold State.placeFirst
    have h := State.tryGrid_wf k die s hs
    simp only
    split
    · exact h
    · exact ih _ h

@[simp] theorem vPair_wf (op : Nat) (f : DWord → DWord → DWord) (d a : Nat) (b : Ob) (s : State) (hs : Memory.wf s.mem) :
    Memory.wf (vPair op f d a b s).mem := by
  unfold vPair
  simp [hs]

theorem storeLane_wf (g : SlotRef) (w : Write) (size : Nat) (t : StoreStep) (a : LaneAcc) (ht : Memory.wf t.s.mem) :
    Memory.wf (storeLane g w size t a).s.mem := by
  unfold storeLane
  split
  · simp only
    refine State.slotStore_wf _ _ _ _ _ _ ?_
    split <;> simp [ht]
  · simpa using ht
  · exact ht

@[simp] theorem State.setBar_wf (t k : Nat) (b : Bar) (s : State) (hs : Memory.wf s.mem) :
    Memory.wf (s.setBar t k b).mem := by
  unfold State.setBar
  rw [State.modTeam_mem]
  exact State.writeN_wf _ _ _ _ hs

@[simp] theorem State.barApply_wf (t k : Nat) (ops : List (OpRef × Op)) (s : State) (hs : Memory.wf s.mem) :
    Memory.wf (s.barApply t k ops).mem := by
  unfold State.barApply
  simp only [State.unstall_mem]
  refine foldl_wf _ _ _ (fun s x h => by simpa using h) ?_
  rw [State.modTeam_mem]
  exact State.setBar_wf _ _ _ s hs

@[simp] theorem sload_wf (size st imm b obs : Nat) (s : State) (hs : Memory.wf s.mem) :
    Memory.wf (sload size st imm b obs s).mem := by
  unfold sload
  refine guarded_wf _ _ _ (by simp [hs]) ?_
  (repeat' split) <;> simp [hs]

@[simp] theorem State.announce_wf (k : Nat) (s : State) (hs : Memory.wf s.mem) :
    Memory.wf (s.announce k).mem := by
  unfold State.announce
  simp only
  (repeat' split) <;> simp [hs]

@[simp] theorem State.finishLwaits_wf (k : Nat) (s0 : State) (hs : Memory.wf s0.mem) :
    Memory.wf (s0.finishLwaits k).mem := by
  unfold State.finishLwaits
  simp [hs]

theorem cfillChecks_wf (off n : Nat) (s : State) (hs : Memory.wf s.mem) : ∀ c ∈ cfillChecks off n s, Memory.wf (c.2 s).mem := by
  simp [cfillChecks, hs]

@[simp] theorem splitAt_wf (p : Nat) (t : DWord) (s : State) (hs : Memory.wf s.mem) :
    Memory.wf (splitAt p t s).mem := by
  unfold splitAt
  simp [hs]

@[simp] theorem State.lineRecord_wf (line : Nat) (s : State) (hs : Memory.wf s.mem) :
    Memory.wf (s.lineRecord line).mem := by
  unfold State.lineRecord
  simp [hs]

@[simp] theorem State.readError_wf (g : SlotRef) (clause : DWord) (idx line : Nat) (s : State) (hs : Memory.wf s.mem) :
    Memory.wf (s.readError g clause idx line).mem := by
  unfold State.readError
  split <;> simp [hs]

@[simp] theorem State.qmvEnd_wf (g : SlotRef) (o : Op) (q : QmvOp) (s : State) (hs : Memory.wf s.mem) :
    Memory.wf (s.qmvEnd g o q).mem := by
  unfold State.qmvEnd
  simp [hs]

@[simp] theorem State.qmvRun_wf (s : State) (p : QmvPart) (hs : Memory.wf s.mem) :
    Memory.wf (s.qmvRun p).mem := by
  unfold State.qmvRun
  split <;> simp [hs]

@[simp] theorem State.deliverBehind_wf (c : CtxId) (t : Trap) (s : State) (hs : Memory.wf s.mem) :
    Memory.wf (s.deliverBehind c t).mem := by
  unfold State.deliverBehind
  simp [hs]

@[simp] theorem State.endStopped_wf (s : State) (hs : Memory.wf s.mem) :
    Memory.wf (s.endStopped).mem := by
  unfold State.endStopped
  (repeat' split) <;> simp [hs]

@[simp] theorem State.flushRecords_wf (fault : Bool) (n : Nat) (s : State) (hs : Memory.wf s.mem) :
    Memory.wf (s.flushRecords fault n).mem := by
  induction n generalizing s with
  | zero => exact hs
  | succ n ih =>
    unfold State.flushRecords
    split
    · exact hs
    · split
      · exact ih _ (by simp [hs])
      · exact hs

@[simp] theorem State.drainRecords_wf (fault : Bool) (s : State) (hs : Memory.wf s.mem) :
    Memory.wf (s.drainRecords fault).mem := by
  unfold State.drainRecords
  simp [hs]

@[simp] theorem State.switchOut_wf (q : Nat) (s : State) (hs : Memory.wf s.mem) :
    Memory.wf (s.switchOut q).mem := by
  unfold State.switchOut
  simp [hs]

@[simp] theorem State.commitWave_wf (k : Nat) (s : State) (hs : Memory.wf s.mem) :
    Memory.wf (s.commitWave k).mem := by
  unfold State.commitWave
  split
  · exact hs
  · split
    · exact hs
    · simp only [State.endWave_mem]
      refine foldl_wf _ _ _ (fun t i ht => ?_) ?_
      · split <;> simpa using ht
      · rw [foldl_mem (fun s l => State.zeroLine l s) (fun _ _ => rfl), State.releaseAt_mem]
        exact foldl_wf _ _ _ (fun t e ht => by simp [ht]) hs

@[simp] theorem State.refuseRows_wf (port : Nat) (r : OpRef) (s : State) (hs : Memory.wf s.mem) :
    Memory.wf (s.refuseRows port r).mem := by
  unfold State.refuseRows
  split
  · exact hs
  · split
    · split
      · refine foldl_wf _ _ _ (fun t x ht => ?_) hs
        split
        · split
          · simp [ht]
          · exact ht
        · exact ht
      · exact hs
    · exact hs

@[simp] theorem umberWrite_wf (c : CtxId) (u : UmberOp) (s : State) (w : Nat × DWord) (hs : Memory.wf s.mem) :
    Memory.wf (umberWrite c u s w).mem := by
  unfold umberWrite
  split <;> simp [hs]

@[simp] theorem umberBody_wf (c : CtxId) (u : UmberOp) (s : State) (hs : Memory.wf s.mem) :
    Memory.wf (umberBody c u s).mem := by
  unfold umberBody
  simp +contextual [hs]

@[simp] theorem State.umberFault_wf (g : SlotRef) (o : Op) (t : Trap) (s : State) (hs : Memory.wf s.mem) :
    Memory.wf (s.umberFault g o t).mem := by
  unfold State.umberFault
  simp [hs]

@[simp] theorem State.landUmber_wf (g : SlotRef) (o : Op) (s : State) (hs : Memory.wf s.mem) :
    Memory.wf (s.landUmber g o).mem := by
  unfold State.landUmber
  simp only
  (repeat' split) <;> simp [hs]

@[simp] theorem escEntry_wf (im : UmberImage) (x : UmberEntry) (e : Nat) (s : State) (hs : Memory.wf s.mem) :
    Memory.wf (escEntry im x e s).mem := by
  unfold escEntry
  simp [hs]

@[simp] theorem State.dropJoin_wf (k : Nat) (s : State) (hs : Memory.wf s.mem) :
    Memory.wf (s.dropJoin k).mem := by
  unfold State.dropJoin
  split <;> simp [hs]

@[simp] theorem State.endDrops_wf (s : State) (hs : Memory.wf s.mem) :
    Memory.wf (s.endDrops).mem := by
  unfold State.endDrops
  exact foldl_wf _ _ _ (fun s x h => by simp +contextual [*]) (by simp [hs])

@[simp] theorem State.landOp_wf (r : OpRef) (s : State) (hs : Memory.wf s.mem) :
    Memory.wf (s.landOp r).mem := by
  unfold State.landOp
  split <;> simp [hs]

@[simp] theorem State.landOps_wf (s : State) (hs : Memory.wf s.mem) :
    Memory.wf (s.landOps).mem := by
  unfold State.landOps
  simp +contextual [hs]

@[simp] theorem State.passCycle_wf (s0 : State) (hs : Memory.wf s0.mem) : Memory.wf (s0.passCycle).mem := by
  have h1 : Memory.wf (if decide (l2Cycle (s0.tick + 1) ≠ l2Cycle s0.tick) then s0.startHeads else s0).mem := by
    simp [hs]
  unfold State.passCycle
  refine State.syncAway_wf _ _ (State.flushRecords_wf _ _ _ (State.flushRecords_wf _ _ _ ?_))
  rw [foldl_mem _ (fun t k => by simp), foldl_mem _ (fun t k => by simp)]
  simp only [State.markReady_mem, State.parkSlots_mem, State.holdAwaiting_mem, State.settle_mem]
  exact State.endDrops_wf _ (State.landOps_wf _ h1)

@[simp] theorem State.passTime_wf (n : Nat) (s : State) (hs : Memory.wf s.mem) :
    Memory.wf (s.passTime n).mem := by
  induction n generalizing s with
  | zero => exact hs
  | succ n ih =>
    unfold State.passTime
    split
    · exact ih _ (State.passCycle_wf s hs)
    · exact hs

end Sys2Proof.Machine

/-! ## Each instruction and event keeps the canonical form

An instruction whose meaning is only a row of guards, updates and the operations above needs no lemma of its own: `exec_wf` closes it by `simp`. -/

namespace Sys2Proof.Machine

theorem guarded_append_wf (a b : List (Bool × Act)) (eff : Act) (s : State) (ha : ∀ c ∈ a, Memory.wf (c.2 s).mem)
    (hb : Memory.wf (guarded b eff s).mem) : Memory.wf (guarded (a ++ b) eff s).mem := by
  induction a with
  | nil => exact hb
  | cons c r ih =>
    obtain ⟨p, act⟩ := c
    simp only [List.cons_append, guarded_cons_wf]
    exact ⟨fun _ => ha _ (List.mem_cons_self ..), fun _ => ih (fun x hx => ha x (List.mem_cons_of_mem _ hx))⟩

theorem State.headerDelivery_mem {s : State} {t : Trap} {take : Act} (h : s.headerDelivery = some (t, take)) :
    (take s).mem = s.mem := by
  unfold State.headerDelivery at h
  split at h
  · cases h
  · split at h
    · cases h; simp
    · split at h
      · cases h; rfl
      · split at h
        · cases h; rfl
        · cases h

theorem State.sendOn_mem (s : State) (task : Nat) (o : Op) (ready : Bool) (put : (Group → Group) → State → State)
    (hp : ∀ f t, (put f t).mem = t.mem) : (s.sendOn task o ready put).mem = s.mem := by
  unfold State.sendOn
  split
  · simp only
    split
    · exact hp _ _
    · split
      · rfl
      · split
        · split <;> simp [hp]
        · exact hp _ _
  · rfl

theorem foldl_storeLane_wf (g : SlotRef) (w : Write) (size : Nat) (as : List LaneAcc) (t : StoreStep) (ht : Memory.wf t.s.mem) :
    Memory.wf (as.foldl (storeLane g w size) t).s.mem := by
  induction as generalizing t with
  | nil => exact ht
  | cons a r ih => exact ih _ (storeLane_wf g w size t a ht)

@[simp] theorem execGrowGrant_wf (c : CtxId) (s : State) (hs : Memory.wf s.mem) :
    NextWf (execGrowGrant c s) := by
  unfold execGrowGrant
  split <;> simp [hs]

@[simp] theorem execContextRestore_wf (c : CtxId) (s : State) (hs : Memory.wf s.mem) :
    NextWf (execContextRestore c s) := by
  unfold execContextRestore
  simp only
  split <;> (try split) <;> simp [hs]

@[simp] theorem execSleepEnd_wf (c : CtxId) (s : State) (hs : Memory.wf s.mem) :
    NextWf (execSleepEnd c s) := by
  unfold execSleepEnd
  split <;> simp [hs]

@[simp] theorem execBootVerify_wf (images : List FirmwareImage) (s : State) (hs : Memory.wf s.mem) :
    NextWf (execBootVerify images s) := by
  unfold execBootVerify
  split <;> (try split) <;> simp [hs]

theorem execHread_wf (c d : Nat) (s : State) (hs : Memory.wf s.mem) : NextWf (execHread c d s) := by
  refine (nextWf_next _).mpr (handlerOp_wf _ _ (fun t ht => ?_) hs)
  split <;> simp [ht]

theorem execGroupEvictSave_wf (g : SlotRef) (s : State) (hs : Memory.wf s.mem) : NextWf (execGroupEvictSave g s) := by
  refine (nextWf_next _).mpr ?_
  split
  · exact hs
  · split
    · refine State.saveDrain_wf _ _ _ (fun t ht => ?_) hs
      refine State.evictTeam_wf _ _ ?_
      simp [ht]
    · exact hs

theorem execHkill_wf (d : Nat) (s : State) (hs : Memory.wf s.mem) : NextWf (execHkill d s) := by
  refine (nextWf_next _).mpr (handlerOp_wf _ _ (fun t ht => ?_) hs)
  split <;> simp [ht]

@[simp] theorem execLeaseResidencyWalk_wf (k : Nat) (s : State) (hs : Memory.wf s.mem) :
    NextWf (execLeaseResidencyWalk k s) := by
  unfold execLeaseResidencyWalk
  split <;> simp [hs]

theorem execCpy_wf (a b c d : Nat) (s : State) (hs : Memory.wf s.mem) : NextWf (execCpy a b c d s) := by
  refine (nextWf_next _).mpr (guarded_wf _ _ _ (by simp [hs]) (withCap_wf _ _ _ _ (fun t ht => ?_) hs))
  exact guarded_wf _ _ _ (cpyChecks_wf _ _ _ _ _ ht) (inExtent_wf _ _ _ (fun u hu => by simp [hu]) ht)

theorem execClauseHeader_wf (wait : BitVec 12) (setA setB pidx : Nat) (neg en : Bool) (s : State) (hs : Memory.wf s.mem) :
    NextWf (execClauseHeader wait setA setB pidx neg en s) := by
  refine (nextWf_next _).mpr ?_
  split
  · rename_i t take h
    exact State.raiseHere_wf _ _ (by rw [State.headerDelivery_mem h]; exact hs)
  · refine guarded_wf _ _ _ (by simp [hs]) ?_
    split <;> simp [hs]

@[simp] theorem execCopyComplete_wf (g : SlotRef) (op n : Nat) (answers : List PeerAnswer) (s : State) (hs : Memory.wf s.mem) :
    NextWf (execCopyComplete g op n answers s) := by
  unfold execCopyComplete
  split <;> (try split) <;> simp [hs]

@[simp] theorem execStealMessage_wf (n : Nat) (s : State) (hs : Memory.wf s.mem) :
    NextWf (execStealMessage n s) := by
  unfold execStealMessage
  split <;> simp [hs]

@[simp] theorem execStoreFaultRecord_wf (g : SlotRef) (op : Nat) (s : State) (hs : Memory.wf s.mem) :
    NextWf (execStoreFaultRecord g op s) := by
  unfold execStoreFaultRecord
  simp only
  split <;> (try split) <;> simp [hs]

theorem execPackageReset_wf (s : State) (hs : Memory.wf s.mem) : NextWf (execPackageReset s) :=
  (nextWf_next _).mpr (SMap.wf_filter s.mem 0 _ hs)

@[simp] theorem execMzaccComplete_wf (g : SlotRef) (op : Nat) (s : State) (hs : Memory.wf s.mem) :
    NextWf (execMzaccComplete g op s) := by
  unfold execMzaccComplete
  split <;> (try split) <;> simp [hs]

theorem execZline_wf (imm k : Nat) (s : State) (hs : Memory.wf s.mem) : NextWf (execZline imm k s) := by
  refine (nextWf_next _).mpr (guarded_wf _ _ _ (by simp [hs]) ?_)
  split <;> simp [hs]

@[simp] theorem execStealTeamsArrive_wf (n : Nat) (s : State) (hs : Memory.wf s.mem) :
    NextWf (execStealTeamsArrive n s) := by
  unfold execStealTeamsArrive
  split <;> (try split) <;> simp [hs]

@[simp] theorem execSpawn_wf (a b c d : Nat) (s : State) (hs : Memory.wf s.mem) :
    NextWf (execSpawn a b c d s) := by
  unfold execSpawn
  simp +contextual [hs]

@[simp] theorem execMordantBatchClose_wf (obj : Nat) (s : State) (hs : Memory.wf s.mem) :
    NextWf (execMordantBatchClose obj s) := by
  unfold execMordantBatchClose
  split <;> simp [hs]

@[simp] theorem execUmberImageLoad_wf (image : FirmwareImage) (s : State) (hs : Memory.wf s.mem) :
    NextWf (execUmberImageLoad image s) := by
  unfold execUmberImageLoad
  split <;> (try split) <;> simp [hs]

theorem execChsendAccept_wf (g : SlotRef) (op : Nat) (s : State) (hs : Memory.wf s.mem) : NextWf (execChsendAccept g op s) := by
  refine (nextWf_next _).mpr ?_
  split
  · exact State.syncAway_wf _ _ (by rw [State.sendOn_mem _ _ _ _ _ (fun f t => by simp)]; exact hs)
  · split
    · exact State.syncAway_wf _ _ (by rw [State.sendOn_mem _ _ _ _ _ (fun f t => by simp)]; exact hs)
    · exact hs

@[simp] theorem execSpawnComplete_wf (g : SlotRef) (op : Nat) (s : State) (hs : Memory.wf s.mem) :
    NextWf (execSpawnComplete g op s) := by
  unfold execSpawnComplete
  split <;> (try split) <;> simp [hs]

@[simp] theorem execTopupLand_wf (t : Nat) (ins : Bool) (s : State) (hs : Memory.wf s.mem) :
    NextWf (execTopupLand t ins s) := by
  unfold execTopupLand
  simp only
  split <;> simp [hs]

@[simp] theorem execIqtailWrite_wf (v : DWord) (s : State) (hs : Memory.wf s.mem) :
    NextWf (execIqtailWrite v s) := by
  unfold execIqtailWrite
  simp [hs]

@[simp] theorem execMreg_wf (a b c d : Nat) (s : State) (hs : Memory.wf s.mem) :
    NextWf (execMreg a b c d s) := by
  unfold execMreg
  simp +contextual [hs]

@[simp] theorem execExpertReplicaCommit_wf (die i : Nat) (s : State) (hs : Memory.wf s.mem) :
    NextWf (execExpertReplicaCommit die i s) := by
  unfold execExpertReplicaCommit
  split <;> simp [hs]

@[simp] theorem execLaunchCommandStart_wf (q : Nat) (s : State) (hs : Memory.wf s.mem) :
    NextWf (execLaunchCommandStart q s) := by
  unfold execLaunchCommandStart
  simp only
  split <;> (try split) <;> simp [hs]

theorem execLwait_wf (c : Nat) (s : State) (hs : Memory.wf s.mem) : NextWf (execLwait c s) := by
  refine (nextWf_next _).mpr (guarded_wf _ _ _ (by simp [hs]) ?_)
  split <;> simp [hs]

@[simp] theorem execMmaComplete_wf (g : SlotRef) (op rerun : Nat) (bad : List Nat) (s : State) (hs : Memory.wf s.mem) :
    NextWf (execMmaComplete g op rerun bad s) := by
  unfold execMmaComplete
  split <;> (try split) <;> simp [hs]

@[simp] theorem execTdget_wf (a c : Nat) (s : State) (hs : Memory.wf s.mem) :
    NextWf (execTdget a c s) := by
  unfold execTdget
  simp +contextual [hs]

@[simp] theorem execYield_wf (s : State) (hs : Memory.wf s.mem) :
    NextWf (execYield s) := by
  unfold execYield
  simp +contextual [hs]

theorem execMldo_wf (a c d : Nat) (s : State) (hs : Memory.wf s.mem) : NextWf (execMldo a c d s) := by
  refine (nextWf_next _).mpr (guarded_append_wf _ _ _ _ (by simp [hs]) ?_)
  exact guarded_wf _ _ _ (State.tdChecks_wf _ _ _ _ _ _ hs) (by simp [hs])

@[simp] theorem execMstaComplete_wf (g : SlotRef) (op : Nat) (s : State) (hs : Memory.wf s.mem) :
    NextWf (execMstaComplete g op s) := by
  unfold execMstaComplete
  simp only
  (repeat' split) <;> simp +contextual [hs]

@[simp] theorem execAtomicPerform_wf (g : SlotRef) (op : Nat) (lanes : Word) (s : State) (hs : Memory.wf s.mem) :
    NextWf (execAtomicPerform g op lanes s) := by
  unfold execAtomicPerform
  (repeat' split) <;> simp +contextual [hs]

@[simp] theorem execQtailWrite_wf (q : Nat) (v : DWord) (s : State) (hs : Memory.wf s.mem) :
    NextWf (execQtailWrite q v s) := by
  unfold execQtailWrite
  simp [hs]

@[simp] theorem execCombinerWaveStart_wf (obj : Nat) (s : State) (hs : Memory.wf s.mem) :
    NextWf (execCombinerWaveStart obj s) := by
  unfold execCombinerWaveStart
  (repeat' split) <;> simp [hs]

@[simp] theorem execPeerRequest_wf (req : PeerRequest) (s : State) (hs : Memory.wf s.mem) :
    NextWf (execPeerRequest req s) := by
  unfold execPeerRequest
  (repeat' split) <;> simp [hs]

theorem execAttnf_wf (a c d : Nat) (s : State) (hs : Memory.wf s.mem) : NextWf (execAttnf a c d s) := by
  refine (nextWf_next _).mpr (guarded_append_wf _ _ _ _ (by simp [hs]) ?_)
  exact guarded_wf _ _ _ (State.tdChecks_wf _ _ _ _ _ _ hs) (inExtent_wf _ _ _ (fun u hu => by simp [hu]) hs)

theorem execMsta_wf (a c d mode : Nat) (s : State) (hs : Memory.wf s.mem) : NextWf (execMsta a c d mode s) := by
  refine (nextWf_next _).mpr ?_
  rw [List.append_assoc]
  refine guarded_append_wf _ _ _ _ (by simp [hs]) (guarded_append_wf _ _ _ _ (State.tdChecks_wf _ _ _ _ _ _ hs) ?_)
  refine guarded_wf _ _ _ (by simp [hs]) (inExtent_wf _ _ _ (fun u hu => ?_) hs)
  simp only [State.issueEngine_mem]
  split <;> simpa using hu

theorem execHend_wf (s : State) (hs : Memory.wf s.mem) : NextWf (execHend s) := by
  refine (nextWf_next _).mpr (guarded_wf _ _ _ (by simp [hs]) ?_)
  extract_lets act s1 s2
  have h2 : Memory.wf s2.mem := by
    refine foldl_wf _ _ _ (fun t l ht => ?_) (by simpa [s1] using hs)
    split <;> simpa using ht
  split
  · exact h2
  · exact State.leaveWave_wf _ _ _ h2

@[simp] theorem execMldoComplete_wf (g : SlotRef) (op : Nat) (s : State) (hs : Memory.wf s.mem) :
    NextWf (execMldoComplete g op s) := by
  unfold execMldoComplete
  simp only
  (repeat' split) <;> simp [hs]

theorem execBgrant_wf (a b c d : Nat) (s : State) (hs : Memory.wf s.mem) : NextWf (execBgrant a b c d s) := by
  refine (nextWf_next _).mpr (guarded_wf _ _ _ (by simp [hs]) (withCap_wf _ _ _ _ (fun t ht => ?_) hs))
  refine guarded_wf _ _ _ (by simp [ht]) ?_
  simp only [State.advance_mem, State.charge_mem]
  split <;> simpa using ht

theorem execHwrite_wf (c d : Nat) (s : State) (hs : Memory.wf s.mem) : NextWf (execHwrite c d s) := by
  refine (nextWf_next _).mpr (handlerOp_wf _ _ (fun t ht => ?_) hs)
  split <;> simp [ht]

@[simp] theorem execPageMigrationEnd_wf (n : Nat) (s : State) (hs : Memory.wf s.mem) :
    NextWf (execPageMigrationEnd n s) := by
  unfold execPageMigrationEnd
  split <;> simp [hs]

@[simp] theorem execAttnzComplete_wf (g : SlotRef) (op : Nat) (s : State) (hs : Memory.wf s.mem) :
    NextWf (execAttnzComplete g op s) := by
  unfold execAttnzComplete
  split <;> (try split) <;> simp [hs]

@[simp] theorem execGrowDeadlockFail_wf (core : CoreRef) (s : State) (hs : Memory.wf s.mem) :
    NextWf (execGrowDeadlockFail core s) := by
  unfold execGrowDeadlockFail
  simp only
  (repeat' split) <;> simp [hs]

@[simp] theorem execGgo_wf (v : DWord) (s : State) (hs : Memory.wf s.mem) :
    NextWf (execGgo v s) := by
  unfold execGgo
  split <;> (try split) <;> simp [hs]

@[simp] theorem execPageMigrationStart_wf (asid : Nat) (va : DWord) (frame : Nat) (s : State) (hs : Memory.wf s.mem) :
    NextWf (execPageMigrationStart asid va frame s) := by
  unfold execPageMigrationStart
  split <;> (try split) <;> simp [hs]

theorem execStorePerform_wf (g : SlotRef) (op : Nat) (lanes : Word) (s : State) (hs : Memory.wf s.mem) :
    NextWf (execStorePerform g op lanes s) := by
  refine (nextWf_next _).mpr ?_
  split
  · exact hs
  · rename_i o _
    split
    · simp only
      split
      · exact hs
      split
      · simp [hs]
      split
      · simp [hs]
      split
      · simp [hs]
      · have h := fun w n l (t : StoreStep) ht => foldl_storeLane_wf g w n l t ht
        split <;> simp [h, hs]
    · rename_i a failed _
      split
      · exact hs
      split
      · simp [hs]
      split
      · simp [hs]
      split
      · rename_i l x _
        cases x <;> simp only [State.storeEnd_mem] <;> split <;> simp [hs]
      · simp [hs]
      · simp [hs]
      · exact hs
    · exact hs

theorem execTaskQueuePlace_wf (die cluster : Nat) (s : State) (hs : Memory.wf s.mem) : NextWf (execTaskQueuePlace die cluster s) := by
  refine (nextWf_next _).mpr ?_
  split
  · exact hs
  · split
    · exact hs
    · split
      · exact hs
      · rename_i h
        obtain ⟨u, hu, h⟩ := Option.bind_eq_some_iff.mp h
        have hv := fun k => State.saveTask_wf k u (by rw [State.carve_mem hu]; exact hs)
        have ht := State.placeTeam_wf (by rw [State.modTask_mem]; exact hv _) h
        exact ht

@[simp] theorem execHostMemoryAccess_wf (acc : HostAccess) (s : State) (hs : Memory.wf s.mem) :
    NextWf (execHostMemoryAccess acc s) := by
  unfold execHostMemoryAccess
  split <;> simp [hs]

@[simp] theorem execLaunchComplete_wf (g : SlotRef) (op : Nat) (s : State) (hs : Memory.wf s.mem) :
    NextWf (execLaunchComplete g op s) := by
  unfold execLaunchComplete
  split <;> (try split) <;> simp [hs]

theorem execAttn_wf (a b c d : Nat) (s : State) (hs : Memory.wf s.mem) : NextWf (execAttn a b c d s) := by
  refine (nextWf_next _).mpr ?_
  rw [List.append_assoc, List.append_assoc]
  refine guarded_append_wf _ _ _ _ (by simp [hs]) (guarded_append_wf _ _ _ _ (State.tdChecks_wf _ _ _ _ _ _ hs)
    (guarded_append_wf _ _ _ _ (State.tdChecks_wf _ _ _ _ _ _ hs) ?_))
  exact guarded_wf _ _ _ (by simp [hs]) (withBaton_wf _ _ (fun u hu => by simp [hu]) hs)

theorem execCfill_wf (a b d : Nat) (s : State) (hs : Memory.wf s.mem) : NextWf (execCfill a b d s) := by
  refine (nextWf_next _).mpr (guarded_wf _ _ _ (cfillChecks_wf _ _ _ hs) ?_)
  split
  · simp [hs]
  · simp [hs]
  · simp [hs]
  · split <;> simp [hs]

@[simp] theorem execSplit_wf (p : Nat) (t : BitVec 16) (s : State) (hs : Memory.wf s.mem) :
    NextWf (execSplit p t s) := by
  unfold execSplit
  simp +contextual [hs]

@[simp] theorem execPrefComplete_wf (g : SlotRef) (op : Nat) (s : State) (hs : Memory.wf s.mem) :
    NextWf (execPrefComplete g op s) := by
  unfold execPrefComplete
  split <;> (try split) <;> simp [hs]

@[simp] theorem execEngineStorageUncorrectable_wf (core : CoreRef) (acc : Bool) (slot : Nat) (s : State) (hs : Memory.wf s.mem) :
    NextWf (execEngineStorageUncorrectable core acc slot s) := by
  unfold execEngineStorageUncorrectable
  split <;> simp [hs]

@[simp] theorem execQueueSwitchIn_wf (q : Nat) (s : State) (hs : Memory.wf s.mem) :
    NextWf (execQueueSwitchIn q s) := by
  unfold execQueueSwitchIn
  simp [hs]

@[simp] theorem execMemoryUncorrectable_wf (path : ErrorPath) (s : State) (hs : Memory.wf s.mem) :
    NextWf (execMemoryUncorrectable path s) := by
  unfold execMemoryUncorrectable
  (repeat' split) <;> simp [hs]

@[simp] theorem execQmvQuarterComplete_wf (parts : List QmvPart) (s : State) (hs : Memory.wf s.mem) :
    NextWf (execQmvQuarterComplete parts s) := by
  unfold execQmvQuarterComplete
  simp only
  (repeat' split) <;> simp +contextual [hs]

@[simp] theorem execExit_wf (s : State) (hs : Memory.wf s.mem) :
    NextWf (execExit s) := by
  unfold execExit
  simp +contextual [hs]

theorem execBlkcpy_wf (a b c d : Nat) (s : State) (hs : Memory.wf s.mem) : NextWf (execBlkcpy a b c d s) := by
  refine (nextWf_next _).mpr (guarded_wf _ _ _ (by simp [hs]) (withCap_wf _ _ _ _ (fun t ht => ?_) hs))
  refine guarded_append_wf _ _ _ _ (State.tdChecks_wf _ _ _ _ _ _ ht) (guarded_wf _ _ _ (by simp [ht]) ?_)
  exact inExtent_wf _ _ _ (fun u hu => by simp [hu]) ht

@[simp] theorem execHandlerWaveStart_wf (t cluster : Nat) (s : State) (hs : Memory.wf s.mem) :
    NextWf (execHandlerWaveStart t cluster s) := by
  unfold execHandlerWaveStart
  simp only
  (repeat' split) <;> simp +contextual [hs]

@[simp] theorem execHkillt_wf (s : State) (hs : Memory.wf s.mem) :
    NextWf (execHkillt s) := by
  unfold execHkillt
  simp +contextual [hs]

@[simp] theorem execCfillComplete_wf (g : SlotRef) (op n : Nat) (s : State) (hs : Memory.wf s.mem) :
    NextWf (execCfillComplete g op n s) := by
  unfold execCfillComplete
  simp only
  (repeat' split) <;> simp +contextual [hs]

theorem execChildGridAccept_wf (k : Nat) (s : State) (hs : Memory.wf s.mem) : NextWf (execChildGridAccept k s) := by
  refine (nextWf_next _).mpr ?_
  split
  · exact hs
  · cases h : s.acceptGrid k with
    | none => exact hs
    | some t => exact State.acceptGrid_wf hs h

@[simp] theorem execAttnfComplete_wf (g : SlotRef) (op : Nat) (s : State) (hs : Memory.wf s.mem) :
    NextWf (execAttnfComplete g op s) := by
  unfold execAttnfComplete
  simp only
  (repeat' split) <;> simp +contextual [hs]

@[simp] theorem execCoreStorageUncorrectable_wf (core : CoreRef) (where_ : CoreStore) (s : State) (hs : Memory.wf s.mem) :
    NextWf (execCoreStorageUncorrectable core where_ s) := by
  unfold execCoreStorageUncorrectable
  split <;> (try split) <;> simp [hs]

@[simp] theorem execUmberReplaceComplete_wf (s : State) (hs : Memory.wf s.mem) :
    NextWf (execUmberReplaceComplete s) := by
  unfold execUmberReplaceComplete
  split <;> simp [hs]

@[simp] theorem execIqctlWrite_wf (v : DWord) (s : State) (hs : Memory.wf s.mem) :
    NextWf (execIqctlWrite v s) := by
  unfold execIqctlWrite
  simp [hs]

@[simp] theorem execQctlWrite_wf (q : Nat) (v : DWord) (s : State) (hs : Memory.wf s.mem) :
    NextWf (execQctlWrite q v s) := by
  unfold execQctlWrite
  simp [hs]

theorem execRett_wf (s : State) (hs : Memory.wf s.mem) : NextWf (execRett s) := by
  refine (nextWf_next _).mpr (guarded_wf _ _ _ (by simp [hs]) ?_)
  split
  · exact hs
  · split
    · exact hs
    · extract_lets s1 s2
      have h2 : Memory.wf s2.mem := by simp only [s2, s1]; split <;> simpa using hs
      split
      · exact State.endStopped_wf _ h2
      · exact State.nextWaiting_wf _ _ h2

@[simp] theorem execRqheadWrite_wf (rq : Nat) (v : DWord) (s : State) (hs : Memory.wf s.mem) :
    NextWf (execRqheadWrite rq v s) := by
  unfold execRqheadWrite
  simp [hs]

theorem execReorderCollectiveComplete_wf (t : Nat) (s : State) (hs : Memory.wf s.mem) : NextWf (execReorderCollectiveComplete t s) := by
  unfold execReorderCollectiveComplete
  extract_lets ms align out s1
  refine (nextWf_next _).mpr ?_
  split
  · exact hs
  · have h1 : Memory.wf s1.mem := by
      rw [State.modTeam_mem, State.joinSlots_mem]
      exact hs
    refine foldl_wf _ _ _ (fun u x hu => ?_) h1
    simp only
    split
    · exact hu
    · split
      · exact State.retireGroup_wf _ _ hu
      · exact hu

theorem execGraceForcedSave_wf (g : SlotRef) (s : State) (hs : Memory.wf s.mem) : NextWf (execGraceForcedSave g s) := by
  refine (nextWf_next _).mpr ?_
  split
  · refine State.saveDrain_wf _ _ _ (fun t ht => ?_) hs
    refine State.record_wf _ _ _ ?_
    simp only [State.chargeAt_mem, State.parkBaton_mem]
    split
    · exact State.writeCells_wf _ _ ht
    · exact ht
  · exact hs

@[simp] theorem execQueueSwitchOut_wf (q : Nat) (s : State) (hs : Memory.wf s.mem) :
    NextWf (execQueueSwitchOut q s) := by
  unfold execQueueSwitchOut
  simp [hs]

@[simp] theorem State.writeQueueReg_wf (q off : Nat) (v : DWord) (s : State) (hs : Memory.wf s.mem) :
    NextWf (s.writeQueueReg q off v) := by
  unfold State.writeQueueReg
  split <;> (try split) <;> simp [hs]

@[simp] theorem State.writeRecReg_wf (fault : Bool) (off : Nat) (v : DWord) (s : State) (hs : Memory.wf s.mem) :
    NextWf (s.writeRecReg fault off v) := by
  unfold State.writeRecReg
  split <;> simp [hs]

@[simp] theorem State.writeControlReg_wf (off : Nat) (v : DWord) (s : State) (hs : Memory.wf s.mem) :
    NextWf (s.writeControlReg off v) := by
  unfold State.writeControlReg
  split <;> simp [hs]

@[simp] theorem execRegisterWrite_wf (agent : Agent) (off : Nat) (v : DWord) (s : State) (hs : Memory.wf s.mem) :
    NextWf (execRegisterWrite agent off v s) := by
  unfold execRegisterWrite
  split <;> (try split) <;> simp [hs]

theorem execCont_wf (a : Nat) (t : BitVec 16) (s : State) (hs : Memory.wf s.mem) : NextWf (execCont a t s) := by
  refine (nextWf_next _).mpr (toTarget_wf _ _ _ (fun u hu => ?_) hs)
  split
  · exact drainPoint_wf _ _ _ (fun v hv => State.saveCtx_wf _ _ _ (by simpa using hv)) hu
  · simpa using hu

theorem execMdone_wf (s : State) (hs : Memory.wf s.mem) : NextWf (execMdone s) := by
  refine (nextWf_next _).mpr (guarded_wf _ _ _ (by simp [hs]) ?_)
  split
  · simp [hs]
  · split
    · exact hs
    · split <;> simp [hs]

theorem execMreq_wf (a c d : Nat) (s : State) (hs : Memory.wf s.mem) : NextWf (execMreq a c d s) := by
  refine (nextWf_next _).mpr (guarded_wf _ _ _ (by simp [hs]) ?_)
  split
  · simp [hs]
  · simp only
    split <;> simp [hs]

@[simp] theorem execMreqArrive_wf (g : SlotRef) (op lane : Nat) (s : State) (hs : Memory.wf s.mem) :
    NextWf (execMreqArrive g op lane s) := by
  unfold execMreqArrive
  simp only
  (repeat' split) <;> simp [hs]

@[simp] theorem execLoadDataReturn_wf (g : SlotRef) (op : Nat) (lanes : Word) (s : State) (hs : Memory.wf s.mem) :
    NextWf (execLoadDataReturn g op lanes s) := by
  unfold execLoadDataReturn
  split <;> (try split) <;> simp [hs]

@[simp] theorem execCpywpResult_wf (g : SlotRef) (op : Nat) (s : State) (hs : Memory.wf s.mem) :
    NextWf (execCpywpResult g op s) := by
  unfold execCpywpResult
  split <;> (try split) <;> simp [hs]

theorem execPortDown_wf (port : Nat) (s : State) (hs : Memory.wf s.mem) : NextWf (execPortDown port s) := by
  refine (nextWf_next _).mpr ?_
  split
  · exact hs
  · extract_lets refs u
    have hu : Memory.wf u.mem := foldl_wf _ _ _ (fun u r hu => State.refuseRows_wf _ _ _ hu) hs
    exact State.record_wf _ _ _ (State.syncAway_wf _ _ hu)

@[simp] theorem execEsc_wf (e : BitVec 22) (s : State) (hs : Memory.wf s.mem) :
    NextWf (execEsc e s) := by
  unfold execEsc
  split <;> (try split) <;> simp [hs]

theorem execMreply_wf (c : Nat) (s : State) (hs : Memory.wf s.mem) : NextWf (execMreply c s) := by
  refine (nextWf_next _).mpr (guarded_wf _ _ _ (by simp [hs]) ?_)
  split <;> simp [hs]

@[simp] theorem execReorderArrive_wf (c : CtxId) (s : State) (hs : Memory.wf s.mem) :
    NextWf (execReorderArrive c s) := by
  unfold execReorderArrive
  split <;> simp [hs]

@[simp] theorem execEvictedGroupReturn_wf (t gi : Nat) (s : State) (hs : Memory.wf s.mem) :
    NextWf (execEvictedGroupReturn t gi s) := by
  unfold execEvictedGroupReturn
  simp only
  (repeat' split) <;> simp [hs]

@[simp] theorem execMregSliceResult_wf (g : SlotRef) (op : Nat) (s : State) (hs : Memory.wf s.mem) :
    NextWf (execMregSliceResult g op s) := by
  unfold execMregSliceResult
  simp only
  (repeat' split) <;> simp [hs]

@[simp] theorem execChrecvDeliver_wf (g : SlotRef) (op : Nat) (s : State) (hs : Memory.wf s.mem) :
    NextWf (execChrecvDeliver g op s) := by
  unfold execChrecvDeliver
  simp only
  (repeat' split) <;> simp [hs]

@[simp] theorem execAttnComplete_wf (g : SlotRef) (op : Nat) (rerun bad : Bool) (s : State) (hs : Memory.wf s.mem) :
    NextWf (execAttnComplete g op rerun bad s) := by
  unfold execAttnComplete
  split <;> (try split) <;> simp [hs]

theorem nextWf_of {t : State} (h : Memory.wf t.mem) : NextWf (.next t) := (nextWf_next t).mpr h

theorem exec_wf (i : Instr) (s : State) (hs : Memory.wf s.mem) : NextWf (exec i s) := by
  cases i with
  | clauseHeader _ _ _ _ _ _ => exact execClauseHeader_wf _ _ _ _ _ _ s hs
  | split _ _ => exact execSplit_wf _ _ s hs
  | cont _ _ => exact execCont_wf _ _ s hs
  | zline _ _ => exact execZline_wf _ _ s hs
  | mldo _ _ _ => exact execMldo_wf _ _ _ s hs
  | msta _ _ _ _ => exact execMsta_wf _ _ _ _ s hs
  | tdget _ _ => exact execTdget_wf _ _ s hs
  | attn _ _ _ _ => exact execAttn_wf _ _ _ _ s hs
  | attnf _ _ _ => exact execAttnf_wf _ _ _ s hs
  | cpy _ _ _ _ => exact execCpy_wf _ _ _ _ s hs
  | blkcpy _ _ _ _ => exact execBlkcpy_wf _ _ _ _ s hs
  | lwait _ => exact execLwait_wf _ s hs
  | spawn _ _ _ _ => exact execSpawn_wf _ _ _ _ s hs
  | mreg _ _ _ _ => exact execMreg_wf _ _ _ _ s hs
  | mreq _ _ _ => exact execMreq_wf _ _ _ s hs
  | mreply _ => exact execMreply_wf _ s hs
  | bgrant _ _ _ _ => exact execBgrant_wf _ _ _ _ s hs
  | cfill _ _ _ => exact execCfill_wf _ _ _ s hs
  | hread _ _ => exact execHread_wf _ _ s hs
  | hwrite _ _ => exact execHwrite_wf _ _ s hs
  | hkill _ => exact execHkill_wf _ s hs
  | yield => exact execYield_wf s hs
  | exit => exact execExit_wf s hs
  | rett => exact execRett_wf s hs
  | mdone => exact execMdone_wf s hs
  | hend => exact execHend_wf s hs
  | hkillt => exact execHkillt_wf s hs
  | esc _ => exact execEsc_wf _ s hs
  | sleepEnd _ => exact execSleepEnd_wf _ s hs
  | loadDataReturn _ _ _ => exact execLoadDataReturn_wf _ _ _ s hs
  | storePerform _ _ _ => exact execStorePerform_wf _ _ _ s hs
  | storeFaultRecord _ _ => exact execStoreFaultRecord_wf _ _ s hs
  | atomicPerform _ _ _ => exact execAtomicPerform_wf _ _ _ s hs
  | prefComplete _ _ => exact execPrefComplete_wf _ _ s hs
  | qmvQuarterComplete _ => exact execQmvQuarterComplete_wf _ s hs
  | mldoComplete _ _ => exact execMldoComplete_wf _ _ s hs
  | mmaComplete _ _ _ _ => exact execMmaComplete_wf _ _ _ _ s hs
  | mstaComplete _ _ => exact execMstaComplete_wf _ _ s hs
  | mzaccComplete _ _ => exact execMzaccComplete_wf _ _ s hs
  | attnComplete _ _ _ _ => exact execAttnComplete_wf _ _ _ _ s hs
  | attnfComplete _ _ => exact execAttnfComplete_wf _ _ s hs
  | attnzComplete _ _ => exact execAttnzComplete_wf _ _ s hs
  | cpywpResult _ _ => exact execCpywpResult_wf _ _ s hs
  | copyComplete _ _ _ _ => exact execCopyComplete_wf _ _ _ _ s hs
  | launchComplete _ _ => exact execLaunchComplete_wf _ _ s hs
  | spawnComplete _ _ => exact execSpawnComplete_wf _ _ s hs
  | reorderArrive _ => exact execReorderArrive_wf _ s hs
  | reorderCollectiveComplete _ => exact execReorderCollectiveComplete_wf _ s hs
  | mregSliceResult _ _ => exact execMregSliceResult_wf _ _ s hs
  | mreqArrive _ _ _ => exact execMreqArrive_wf _ _ _ s hs
  | mordantBatchClose _ => exact execMordantBatchClose_wf _ s hs
  | combinerWaveStart _ => exact execCombinerWaveStart_wf _ s hs
  | chsendAccept _ _ => exact execChsendAccept_wf _ _ s hs
  | chrecvDeliver _ _ => exact execChrecvDeliver_wf _ _ s hs
  | expertReplicaCommit _ _ => exact execExpertReplicaCommit_wf _ _ s hs
  | cfillComplete _ _ _ => exact execCfillComplete_wf _ _ _ s hs
  | growGrant _ => exact execGrowGrant_wf _ s hs
  | growDeadlockFail _ => exact execGrowDeadlockFail_wf _ s hs
  | handlerWaveStart _ _ => exact execHandlerWaveStart_wf _ _ s hs
  | graceForcedSave _ => exact execGraceForcedSave_wf _ s hs
  | topupLand _ _ => exact execTopupLand_wf _ _ s hs
  | contextRestore _ => exact execContextRestore_wf _ s hs
  | groupEvictSave _ => exact execGroupEvictSave_wf _ s hs
  | evictedGroupReturn _ _ => exact execEvictedGroupReturn_wf _ _ s hs
  | launchCommandStart _ => exact execLaunchCommandStart_wf _ s hs
  | leaseResidencyWalk _ => exact execLeaseResidencyWalk_wf _ s hs
  | childGridAccept _ => exact execChildGridAccept_wf _ s hs
  | stealMessage _ => exact execStealMessage_wf _ s hs
  | stealTeamsArrive _ => exact execStealTeamsArrive_wf _ s hs
  | taskQueuePlace _ _ => exact execTaskQueuePlace_wf _ _ s hs
  | ggo _ => exact execGgo_wf _ s hs
  | registerWrite _ _ _ => exact execRegisterWrite_wf _ _ _ s hs
  | pageMigrationStart _ _ _ => exact execPageMigrationStart_wf _ _ _ s hs
  | pageMigrationEnd _ => exact execPageMigrationEnd_wf _ s hs
  | coreStorageUncorrectable _ _ => exact execCoreStorageUncorrectable_wf _ _ s hs
  | engineStorageUncorrectable _ _ _ => exact execEngineStorageUncorrectable_wf _ _ _ s hs
  | memoryUncorrectable _ => exact execMemoryUncorrectable_wf _ s hs
  | packageReset => exact execPackageReset_wf s hs
  | bootVerify _ => exact execBootVerify_wf _ s hs
  | umberImageLoad _ => exact execUmberImageLoad_wf _ s hs
  | umberReplaceComplete => exact execUmberReplaceComplete_wf s hs
  | portDown _ => exact execPortDown_wf _ s hs
  | peerRequest _ => exact execPeerRequest_wf _ s hs
  | hostMemoryAccess _ => exact execHostMemoryAccess_wf _ s hs
  | _ => exact nextWf_of (by simp [hs])

end Sys2Proof.Machine

/-! ## Each turn and each act of the machine keeps the canonical form -/

namespace Sys2Proof.Machine

/-- Something the machine does by itself takes a next state and keeps the form. -/
def ActWf (f : OwnAct) : Prop := ∀ s, Memory.wf s.mem → NextWf (f s)

theorem actWf_exec (i : Instr) : ActWf (exec i) := fun s hs => exec_wf i s hs

@[simp] theorem issueTurn_wf (c : CtxId) (s : State) (hs : Memory.wf s.mem) : NextWf (issueTurn c s) := by
  unfold issueTurn
  split
  · extract_lets s1
    have h1 : Memory.wf s1.mem := by simpa [s1] using hs
    split
    · exact nextWf_of (State.waveLimit_wf _ _ h1)
    · split
      · exact nextWf_of h1
      · exact nextWf_of (State.endTaskAt_wf _ _ _ _ _ h1)
      · exact nextWf_of (fetchFault_wf _ h1)
      · exact nextWf_of (State.illegalHeader_wf _ _ _ h1)
      · exact exec_wf _ _ h1
      · exact execEsc_wf _ _ h1
      · exact nextWf_of (illegalWord_wf _ _ _ _ h1)
  · split
    · exact nextWf_of hs
    · exact nextWf_of (by simp [hs])

theorem turn_wf (t : Turn) (s : State) (hs : Memory.wf s.mem) : NextWf (turn t s) := by
  cases t with
  | issue c =>
    simp only [turn]
    split
    · exact issueTurn_wf c s hs
    · exact nextWf_of hs
  | event i =>
    simp only [turn]
    split
    · exact exec_wf i s hs
    · exact nextWf_of hs
  | tick n => exact nextWf_of (State.passTime_wf n s hs)

theorem Op.acts_wf (g : SlotRef) (team : Nat) (o : Op) : ∀ f ∈ o.acts g team, ActWf f := by
  have e := actWf_exec
  unfold Op.acts
  split <;> simp only [List.forall_mem_cons, List.forall_mem_map, List.not_mem_nil, false_implies, implies_true, and_true]
  · exact e (.loadDataReturn g o.id allLanes)
  · exact e (.loadDataReturn g o.id allLanes)
  · exact e (.loadDataReturn g o.id allLanes)
  · exact ⟨e (.storePerform g o.id allLanes), e (.storeFaultRecord g o.id)⟩
  · exact ⟨e (.storePerform g o.id allLanes), e (.storeFaultRecord g o.id)⟩
  · exact e (.prefComplete g o.id)
  · exact e (.atomicPerform g o.id allLanes)
  · exact e (.barrierApply team _ [⟨g, o.id⟩])
  · exact e (.qmvQuarterComplete [⟨⟨g, o.id⟩, _⟩])
  · exact e (.launchComplete g o.id)
  · exact e (.spawnComplete g o.id)
  · exact e (.chsendAccept g o.id)
  · exact e (.chrecvDeliver g o.id)
  · exact e (.cfillComplete g o.id _)
  · exact e (.mregSliceResult g o.id)
  · exact fun l _ => e (.mreqArrive g o.id l)
  · exact e (.mldoComplete g o.id)
  · exact e (.mmaComplete g o.id 0 [])
  · exact e (.mstaComplete g o.id)
  · exact e (.mzaccComplete g o.id)
  · exact e (.attnComplete g o.id false false)
  · exact e (.attnfComplete g o.id)
  · exact e (.attnzComplete g o.id)
  · exact e (.copyComplete g o.id _ [])
  · exact e (.copyComplete g o.id _ [])
  · exact fun r _ => e (.copyComplete g o.id r.pos [])
  · exact e (.cpywpResult g o.id)

theorem Context.acts_wf (c : CtxId) (x : Context) : ∀ f ∈ x.acts c, ActWf f := by
  have e := actWf_exec
  unfold Context.acts
  split <;> simp only [List.forall_mem_cons, List.not_mem_nil, false_implies, implies_true, and_true]
  · exact fun s hs => issueTurn_wf c s hs
  · exact e (.sleepEnd c)
  · exact e (.growGrant c)
  · exact e (.shrinkApply c)
  · exact e (.mclaimGrant c)
  · exact e (.stdrainResolve c)
  · exact e (.reorderArrive c)
  · exact e (.contextRestore c)
  · exact e (.contextRestore c)
  · exact e (.contextRestore c)

theorem Group.acts_wf (g : SlotRef) (x : Group) : ∀ f ∈ x.acts g, ActWf f := by
  have e := actWf_exec
  unfold Group.acts
  split <;> simp only [List.forall_mem_cons, List.not_mem_nil, false_implies, implies_true, and_true]
  · exact ⟨e (.groupRetire g), e (.slotPromotion g), e (.graceForcedSave g), e (.groupEvictSave g)⟩
  · exact ⟨e (.groupRetire g), e (.laneWaveLimit g)⟩
  · exact ⟨e (.groupRetire g), e (.combinerWaveLimit g)⟩

theorem Team.acts_wf (t : Nat) (m : Team) : ∀ f ∈ m.acts t, ActWf f := by
  have e := actWf_exec
  intro f hf
  simp only [Team.acts, List.mem_append, List.mem_cons, List.not_mem_nil, or_false, List.mem_flatMap, List.mem_filterMap] at hf
  rcases hf with ((rfl | rfl | rfl | rfl) | ⟨x, _, rfl | rfl⟩) | ⟨x, _, hx⟩
  · exact e (.topupLand t true)
  · exact e (.topupLand t false)
  · exact e (.reorderCollectiveStart t)
  · exact e (.reorderCollectiveComplete t)
  · exact e (.laneCollectionClose t x.1)
  · exact e (.handlerWaveStart t x.1)
  · split at hx
    · cases hx
      exact e (.evictedGroupReturn t x.1)
    · cases hx

theorem Task.acts_wf (k : Nat) (j : Task) : ∀ f ∈ j.acts k, ActWf f := by
  have e := actWf_exec
  have hr : ActWf (if j.spawn then execSpawnTaskRetire k else execGridRetire k) := by
    split
    · exact e (.spawnTaskRetire k)
    · exact e (.gridRetire k)
  unfold Task.acts
  simp only
  split
  · simpa using ⟨e (.leaseResidencyWalk k), hr⟩
  · simpa using ⟨e (.childGridAccept k), hr⟩
  · simpa using hr
  · split
    · intro f hf
      obtain rfl := List.mem_singleton.mp hf
      exact e (.spawnTaskRetire k)
    · simp

theorem dieActs_wf (d : Nat) (x : Die) : ∀ f ∈ dieActs d x, ActWf f := by
  have e := actWf_exec
  intro f hf
  simp only [dieActs, List.mem_append, List.mem_cons, List.mem_map] at hf
  rcases hf with (rfl | ⟨c, _, rfl⟩) | ⟨i, _, rfl⟩
  · exact e (.teamPlace d)
  · exact e (.taskQueuePlace d c)
  · exact e (.expertReplicaCommit d i)

theorem IoDie.acts_wf (io : IoDie) : ∀ f ∈ io.acts, ActWf f := by
  have e := actWf_exec
  intro f hf
  simp only [IoDie.acts, List.mem_append, List.mem_flatMap, List.mem_cons, List.not_mem_nil, or_false, List.mem_map] at hf
  rcases hf with (⟨q, _, rfl | rfl⟩ | rfl) | ⟨m, _, rfl⟩
  · exact e (.launchCommandStart q.1)
  · exact e (.queueSwitchOutDone q.1)
  · exact e .invalidateCommand
  · exact e (.pageMigrationEnd m.id)

theorem rounds_wf {sort key : Nat} {as : List OwnAct} (h : ∀ f ∈ as, ActWf f) : ∀ x ∈ rounds sort key as, ActWf x.2 := by
  intro x hx
  obtain ⟨a, ha, rfl⟩ := List.mem_map.mp hx
  exact h _ (List.fst_mem_of_mem_zipIdx ha)

theorem State.acts_wf (s : State) : ∀ x ∈ s.acts, ActWf x.2 := by
  have e := actWf_exec
  intro x hx
  simp only [State.acts, List.mem_append, List.mem_flatMap] at hx
  rcases hx with (⟨k, _, p, _, hx⟩ | ⟨g, _, (⟨c, _, hx⟩ | ⟨o, _, hx⟩) | hx⟩) |
    (((((⟨t, _, hx⟩ | ⟨j, _, hx⟩) | ⟨c, _, hx⟩) | ⟨d, _, hx⟩) | ⟨m, _, hx⟩) | ⟨o, _, hx⟩) | hx
  · refine rounds_wf (fun f hf => ?_) x hx
    obtain ⟨c, _, rfl⟩ := Option.map_eq_some_iff.mp (Option.mem_toList.mp hf)
    exact fun s hs => issueTurn_wf c s hs
  · exact rounds_wf (Context.acts_wf _ _) x hx
  · exact rounds_wf (Op.acts_wf _ _ _) x hx
  · exact rounds_wf (Group.acts_wf _ _) x hx
  · exact rounds_wf (Team.acts_wf _ _) x hx
  · exact rounds_wf (Task.acts_wf _ _) x hx
  · refine rounds_wf (fun f hf => ?_) x hx
    obtain rfl := List.mem_singleton.mp hf
    exact e (.growDeadlockFail _)
  · exact rounds_wf (dieActs_wf _ _) x hx
  · exact rounds_wf (by simpa using ⟨e (.stealMessage m.id), e (.stealTeamsArrive m.id)⟩) x hx
  · exact rounds_wf (by simpa using ⟨e (.mordantBatchClose o.1), e (.combinerWaveStart o.1)⟩) x hx
  · refine rounds_wf (fun f hf => ?_) x hx
    rcases List.mem_append.mp hf with hf | hf
    · exact IoDie.acts_wf _ f hf
    · obtain rfl := List.mem_singleton.mp hf
      exact e .umberReplaceComplete

/-- A fold that at each entry keeps what it has or takes the entry ends with an entry of the list, or with what it began with. -/
theorem mem_of_foldl_pick {α : Type} {f : Option α → α → Option α} (h : ∀ b a, f b a = b ∨ f b a = some a) {l : List α} {x : α}
    {b : Option α} (hx : l.foldl f b = some x) : x ∈ l ∨ b = some x := by
  induction l generalizing b with
  | nil => exact .inr hx
  | cons a r ih =>
    rcases ih hx with hr | hb
    · exact .inl (List.mem_cons_of_mem _ hr)
    · rcases h b a with e | e
      · exact .inr (e ▸ hb)
      · rw [e] at hb
        cases hb
        exact .inl (List.mem_cons_self ..)

theorem State.nextAct_wf (s : State) (hs : Memory.wf s.mem) : NextWf s.nextAct := by
  unfold State.nextAct
  extract_lets due
  split
  · rename_i n a h
    have hd : (n, a) ∈ due := by
      refine (mem_of_foldl_pick (fun b a => ?_) h).resolve_right (by simp)
      cases b with
      | none => exact .inr rfl
      | some y =>
        simp only
        split
        · exact .inr rfl
        · exact .inl rfl
    have ha : (n, a) ∈ s.acts := by
      simp only [due] at hd
      split at hd
      · exact List.mem_of_mem_filter hd
      · cases hd
    exact State.acts_wf s _ ha _ hs
  · exact nextWf_of (State.passTime_wf 1 _ hs)

theorem step_wf (s : State) (hs : Memory.wf s.mem) : NextWf (step s) := by
  unfold step
  split
  · exact State.nextAct_wf s hs
  · exact turn_wf _ _ hs

/-- Settles O5: every meaning is made of operations that keep the canonical form of memory. -/
theorem memoryKept : Obligations.MemoryKept := step_wf

end Sys2Proof.Machine

/-! # Decoding what was encoded (obligation O3)

A word of 16 or 32 bits is `ReadsAs` an instruction when its low bit gives its width and the class decoders answer the
instruction. One lemma per layout of operands (02 R32-R41), named after an instruction that has it, reads the operands back
from a word; the arms of `readsTo_word` name the layout of each instruction and the arm of the decoder that reads it. -/

namespace Sys2Proof

open Laws

/-- The word holds n bytes, its low bit says so, and the decoder of that width answers d for it (02 R14). -/
def ReadsDecoded (n w : Nat) (d : Decoded) : Prop :=
  n = 2 ∧ w % 2 = 0 ∧ w < 65536 ∧ decode16 w = d ∨ n = 4 ∧ w % 2 = 1 ∧ w < 4294967296 ∧ decode32 w = d

/-- The n-byte word reads as the instruction. -/
def ReadsAs (n w : Nat) (i : Instr) : Prop := ReadsDecoded n w (.ok i)

/-- The n-byte word reads as the instruction or, for ESC, as its extended opcode. -/
def ReadsTo (n w : Nat) (i : Instr) : Prop := ∃ d, ReadsDecoded n w d ∧ d.instr = some i

theorem ReadsAs.readsTo {n w : Nat} {i : Instr} (h : ReadsAs n w i) : ReadsTo n w i := ⟨_, h, rfl⟩

theorem ReadsAs.short {w : Nat} {i : Instr} (hw : w < 65536) (ho : w % 2 = 0) (h : decode16 w = .ok i) :
    ReadsAs 2 w i :=
  .inl ⟨rfl, ho, hw, h⟩

theorem ReadsAs.long {w c : Nat} {i : Instr} {D : Nat → Decoded}
    (hD : ∀ w, w / 2 % 8 = c → decode32 w = D w)
    (hw : w < 4294967296) (ho : w % 2 = 1) (hc : w / 2 % 8 = c) (h : D w = .ok i) :
    ReadsAs 4 w i :=
  .inr ⟨rfl, ho, hw, (hD w hc).trans h⟩

/-- The low half of a byte pair, reassembled. -/
theorem ofNat8_pair (x : Nat) : (BitVec.ofNat 8 x).toNat + 256 * (BitVec.ofNat 8 (x / 256)).toNat = x % 65536 := by
  simp only [BitVec.toNat_ofNat]
  omega

/-- The bytes of a word that reads as d decode to d, and the bytes behind them are left. -/
theorem decode_bytes {n w : Nat} {d : Decoded} (h : ReadsDecoded n w d) (r : List Byte) :
    decode ((List.range n).map (fun k => BitVec.ofNat 8 (w / 2 ^ (8 * k))) ++ r) = some (d, r) := by
  obtain ⟨rfl, ho, hw, rfl⟩ | ⟨rfl, ho, hw, rfl⟩ := h
  · have hl : (BitVec.ofNat 8 w).toNat + 256 * (BitVec.ofNat 8 (w / 256)).toNat = w := by
      rw [ofNat8_pair, Nat.mod_eq_of_lt hw]
    simp only [List.range_succ, List.range_zero, List.nil_append, List.cons_append, List.map_cons, List.map_nil, Nat.reduceMul, Nat.reducePow,
      Nat.mul_zero, Nat.pow_zero, Nat.div_one, decode, hl, decodeWords, isLong, ho, Nat.zero_ne_one, decide_false, Bool.false_eq_true, if_false]
  · have hl := ofNat8_pair w
    have hh : (BitVec.ofNat 8 (w / 65536)).toNat + 256 * (BitVec.ofNat 8 (w / 16777216)).toNat = w / 65536 := by
      have := ofNat8_pair (w / 65536)
      rw [Nat.div_div_eq_div_mul] at this
      exact this.trans (Nat.mod_eq_of_lt (by omega))
    have ho' : w % 65536 % 2 = 1 := by omega
    have hs : w % 65536 + 65536 * (w / 65536) = w := by omega
    simp only [List.range_succ, List.range_zero, List.nil_append, List.cons_append, List.map_cons, List.map_nil, Nat.reduceMul, Nat.reducePow,
      Nat.mul_zero, Nat.pow_zero, Nat.div_one, decode, hl, hh, decodeWords, isLong, ho', hs, decide_true, if_true]

/-! ## The fields of a word -/

theorem zeros_ok {c : Bool} {i : Instr} (h : c = true) : zeros c i = .ok i := if_pos h

theorem decide_toNat_eq_one (b : Bool) : decide (b.toNat = 1) = b := by cases b <;> rfl

theorem Ob.ofCode_code {b : Ob} (h : b.wf = true) : Ob.ofCode b.code = b := by
  cases b <;> simp only [Ob.wf, Bool.and_eq_true, decide_eq_true_eq] at h
  case o k =>
    show Ob.ofCode k = _
    rw [Ob.ofCode, if_pos h]
  case q k =>
    show Ob.ofCode (16 + k) = _
    rw [Ob.ofCode, if_neg (by omega), if_pos (by omega), Nat.add_sub_cancel_left]
  case s r =>
    show Ob.ofCode (12 + r) = _
    rw [Ob.ofCode, if_neg (by omega), if_neg (by omega), if_pos (by omega), Nat.add_sub_cancel_left]
  case const c =>
    show Ob.ofCode (28 + c) = _
    rw [Ob.ofCode, if_neg (by omega), if_neg (by omega), if_neg (by omega), Nat.add_sub_cancel_left]

theorem CMode.ofCode_code (m : CMode) : CMode.ofCode m.code = m := by cases m <;> rfl

theorem decodeSSrc_of {x : SSrc} {w : Nat} (hx : x.wf = true) (h : w / 4194304 = x.code) : decodeSSrc w = x := by
  have hw : w / 8388608 = x.code / 2 := by rw [← h, Nat.div_div_eq_div_mul]
  cases x with
  | reg r =>
    simp only [SSrc.wf, decide_eq_true_eq] at hx
    simp only [SSrc.code] at h hw
    rw [decodeSSrc, if_neg (by omega), hw, show 2 * r / 2 % 64 = r by omega]
  | imm i =>
    simp only [SSrc.code] at h hw
    rw [decodeSSrc, if_pos (by omega), hw, show (1 + 2 * i.toNat) / 2 = i.toNat by omega, BitVec.ofNat_toNat, BitVec.setWidth_eq]

theorem ssrcZero_of {x : SSrc} {w : Nat} (hx : x.wf = true) (h : w / 4194304 = x.code) : ssrcZero w = true := by
  simp only [ssrcZero, Bool.or_eq_true, decide_eq_true_eq]
  cases x with
  | reg r =>
    simp only [SSrc.wf, decide_eq_true_eq] at hx
    simp only [SSrc.code] at h
    exact .inr (by omega)
  | imm i =>
    simp only [SSrc.code] at h
    exact .inl (by omega)

theorem decode32_S (w : Nat) (h : w / 2 % 8 = 1) : decode32 w = decodeS w := by simp only [decode32, h]
theorem decode32_B (w : Nat) (h : w / 2 % 8 = 2) : decode32 w = decodeB w := by simp only [decode32, h]
theorem decode32_V (w : Nat) (h : w / 2 % 8 = 3) : decode32 w = decodeV w := by simp only [decode32, h]
theorem decode32_M (w : Nat) (h : w / 2 % 8 = 4) : decode32 w = decodeM w := by simp only [decode32, h]
theorem decode32_X (w : Nat) (h : w / 2 % 8 = 5) : decode32 w = decodeX w := by simp only [decode32, h]
theorem decode32_A (w : Nat) (h : w / 2 % 8 = 6) : decode32 w = decodeA w := by simp only [decode32, h]
theorem decode32_Z (w : Nat) (h : w / 2 % 8 = 7) : decode32 w = decodeZ w := by simp only [decode32, h]

/-! ## The layouts of operands -/

theorem reads_clauseHeader {wait : BitVec 12} {setA setB pidx : Nat} {neg en : Bool}
    (h : (decide (setA < 16) && decide (setB < 16) && decide (pidx < 64)) = true) :
    ReadsAs 4 (Instr.word (.clauseHeader wait setA setB pidx neg en)) (.clauseHeader wait setA setB pidx neg en) := by
  simp only [Bool.and_eq_true, decide_eq_true_eq] at h
  have hwait := wait.isLt
  have hneg := bool_toNat_lt neg
  have hen := bool_toNat_lt en
  delta Instr.word
  simp only
  generalize hv : 1 + wait.toNat * 16 + setA * 65536 + setB * 1048576 + pidx * 16777216 + neg.toNat * 1073741824 + en.toNat * 2147483648 = v
  have hb : BitVec.ofNat 12 (v / 16) = wait := BitVec.eq_of_toNat_eq (by simp only [BitVec.toNat_ofNat]; omega)
  refine ReadsAs.long (D := decodeHeader) (c := 0) (fun w hw => by simp only [decode32, hw]) (by omega) (by omega) (by omega) ?_
  rw [decodeHeader, hb, show v / 65536 % 16 = setA by omega, show v / 1048576 % 16 = setB by omega, show v / 16777216 % 64 = pidx by omega,
    show v / 1073741824 % 2 = neg.toNat by omega, show v / 2147483648 % 2 = en.toNat by omega, decide_toNat_eq_one, decide_toNat_eq_one]

theorem reads_esc (e : BitVec 22) : ReadsTo 4 (15 + e.toNat * 1024) (.esc e) := by
  have he := e.isLt
  generalize hv : 15 + e.toNat * 1024 = v
  refine ⟨.escape e, .inr ⟨rfl, by omega, by omega, ?_⟩, rfl⟩
  have hz : decodeZ v = .escape (BitVec.ofNat 22 (v / 1024)) := by simp only [decodeZ, show v / 16 % 64 = 0 by omega]
  rw [decode32_Z v (by omega), hz, show v / 1024 = e.toNat by omega, BitVec.ofNat_toNat, BitVec.setWidth_eq]

theorem reads_vadd16 {op : Nat} {d : Nat} {b : Ob} {f : Nat → Ob → Instr} (h : (decide (d < 64) && b.wf) = true)
    (hop : op < 32 ∧ op % 2 = 0)
    (hf : ∀ w, w / 2 % 16 = op / 2 → decode16 w = .ok (f (w / 32 % 64) (Ob.ofCode (w / 2048 % 32)))) :
    ReadsAs 2 (op + d * 32 + b.code * 2048) (f d b) := by
  simp only [Bool.and_eq_true, decide_eq_true_eq] at h
  obtain ⟨h, hw⟩ := h
  have hlt := ob_code_lt b hw
  generalize hv : op + d * 32 + b.code * 2048 = v
  refine ReadsAs.short (by omega) (by omega) ?_
  rw [hf v (by omega), show v / 32 % 64 = d by omega, show v / 2048 % 32 = b.code by omega, Ob.ofCode_code hw]

theorem reads_sadd {D : Nat → Decoded} {cls op : Nat} {d a : Nat} {x : SSrc} {f : Nat → Nat → SSrc → Instr}
    (hD : ∀ w, w / 2 % 8 = cls → decode32 w = D w)
    (h : (decide (d < 64) && decide (a < 64) && x.wf) = true)
    (hop : op < 1024 ∧ op % 2 = 1 ∧ op / 2 % 8 = cls)
    (hf : ∀ w, w / 16 % 64 = op / 16 → D w = zeros (ssrcZero w) (f (w / 1024 % 64) (w / 65536 % 64) (decodeSSrc w))) :
    ReadsAs 4 (op + d * 1024 + a * 65536 + x.code * 4194304) (f d a x) := by
  simp only [Bool.and_eq_true, decide_eq_true_eq] at h
  obtain ⟨h, hw⟩ := h
  have hlt := ssrc_code_lt x hw
  generalize hv : op + d * 1024 + a * 65536 + x.code * 4194304 = v
  refine ReadsAs.long hD (by omega) (by omega) (by omega) ?_
  rw [hf v (by omega), zeros_ok (ssrcZero_of hw (show v / 4194304 = x.code by omega)), show v / 1024 % 64 = d by omega,
    show v / 65536 % 64 = a by omega, decodeSSrc_of hw (show v / 4194304 = x.code by omega)]

theorem reads_sclz {D : Nat → Decoded} {cls op : Nat} {d a : Nat} {f : Nat → Nat → Instr}
    (hD : ∀ w, w / 2 % 8 = cls → decode32 w = D w)
    (h : (decide (d < 64) && decide (a < 64)) = true)
    (hop : op < 1024 ∧ op % 2 = 1 ∧ op / 2 % 8 = cls)
    (hf : ∀ w, w / 16 % 64 = op / 16 → D w = zeros (decide (w / 4194304 % 1024 = 0)) (f (w / 1024 % 64) (w / 65536 % 64))) :
    ReadsAs 4 (op + d * 1024 + a * 65536) (f d a) := by
  simp only [Bool.and_eq_true, decide_eq_true_eq] at h
  generalize hv : op + d * 1024 + a * 65536 = v
  refine ReadsAs.long hD (by omega) (by omega) (by omega) ?_
  rw [hf v (by omega), zeros_ok (decide_eq_true (by omega)), show v / 1024 % 64 = d by omega, show v / 65536 % 64 = a by omega]

theorem reads_sli {D : Nat → Decoded} {cls op : Nat} {d : Nat} {imm : BitVec 16} {f : Nat → BitVec 16 → Instr}
    (hD : ∀ w, w / 2 % 8 = cls → decode32 w = D w)
    (h : (decide (d < 64)) = true)
    (hop : op < 1024 ∧ op % 2 = 1 ∧ op / 2 % 8 = cls)
    (hf : ∀ w, w / 16 % 64 = op / 16 → D w = .ok (f (w / 1024 % 64) (BitVec.ofNat 16 (w / 65536)))) :
    ReadsAs 4 (op + d * 1024 + imm.toNat * 65536) (f d imm) := by
  rw [decide_eq_true_eq] at h
  have ht := imm.isLt
  generalize hv : op + d * 1024 + imm.toNat * 65536 = v
  refine ReadsAs.long hD (by omega) (by omega) (by omega) ?_
  rw [hf v (by omega), show v / 1024 % 64 = d by omega, show v / 65536 = imm.toNat by omega,
    BitVec.ofNat_toNat, BitVec.setWidth_eq]

theorem reads_srsr {D : Nat → Decoded} {cls op : Nat} {d n : Nat} {f : Nat → Nat → Instr}
    (hD : ∀ w, w / 2 % 8 = cls → decode32 w = D w)
    (h : (decide (d < 64) && decide (n < 512)) = true)
    (hop : op / 1024 = 4096 ∧ op % 2 = 1 ∧ op / 2 % 8 = cls)
    (hf : ∀ w, w / 16 % 64 = op / 16 % 64 → D w = zeros (decide (w / 65536 % 128 = 64)) (f (w / 1024 % 64) (w / 8388608 % 512))) :
    ReadsAs 4 (op + d * 1024 + n * 8388608) (f d n) := by
  simp only [Bool.and_eq_true, decide_eq_true_eq] at h
  generalize hv : op + d * 1024 + n * 8388608 = v
  refine ReadsAs.long hD (by omega) (by omega) (by omega) ?_
  rw [hf v (by omega), zeros_ok (decide_eq_true (by omega)), show v / 1024 % 64 = d by omega, show v / 8388608 % 512 = n by omega]

theorem reads_swsr {D : Nat → Decoded} {cls op : Nat} {n a : Nat} {f : Nat → Nat → Instr}
    (hD : ∀ w, w / 2 % 8 = cls → decode32 w = D w)
    (h : (decide (n < 512) && decide (a < 64)) = true)
    (hop : op / 1024 = 4096 ∧ op % 2 = 1 ∧ op / 2 % 8 = cls)
    (hf : ∀ w, w / 16 % 64 = op / 16 % 64 →
      D w = zeros (decide (w / 1024 % 64 = 0) && decide (w / 4194304 % 2 = 1)) (f (w / 8388608 % 512) (w / 65536 % 64))) :
    ReadsAs 4 (op + n * 8388608 + a * 65536) (f n a) := by
  simp only [Bool.and_eq_true, decide_eq_true_eq] at h
  generalize hv : op + n * 8388608 + a * 65536 = v
  refine ReadsAs.long hD (by omega) (by omega) (by omega) ?_
  rw [hf v (by omega), zeros_ok (by simp only [Bool.and_eq_true, decide_eq_true_eq]; omega),
    show v / 8388608 % 512 = n by omega, show v / 65536 % 64 = a by omega]

theorem reads_bra {D : Nat → Decoded} {cls op : Nat} {t : BitVec 16} {f : BitVec 16 → Instr}
    (hD : ∀ w, w / 2 % 8 = cls → decode32 w = D w)
    (hop : op < 1024 ∧ op % 2 = 1 ∧ op / 2 % 8 = cls)
    (hf : ∀ w, w / 16 % 64 = op / 16 → D w = zeros (decide (w / 1024 % 64 = 0)) (f (BitVec.ofNat 16 (w / 65536)))) :
    ReadsAs 4 (op + t.toNat * 65536) (f t) := by
  have ht := t.isLt
  generalize hv : op + t.toNat * 65536 = v
  refine ReadsAs.long hD (by omega) (by omega) (by omega) ?_
  rw [hf v (by omega), zeros_ok (decide_eq_true (by omega)), show v / 65536 = t.toNat by omega,
    BitVec.ofNat_toNat, BitVec.setWidth_eq]

theorem reads_callr {D : Nat → Decoded} {cls op : Nat} {r : Nat} {f : Nat → Instr}
    (hD : ∀ w, w / 2 % 8 = cls → decode32 w = D w)
    (h : (decide (r < 64)) = true)
    (hop : op < 1024 ∧ op % 2 = 1 ∧ op / 2 % 8 = cls)
    (hf : ∀ w, w / 16 % 64 = op / 16 → D w = zeros (decide (w / 65536 % 65536 = 0)) (f (w / 1024 % 64))) :
    ReadsAs 4 (op + r * 1024) (f r) := by
  rw [decide_eq_true_eq] at h
  generalize hv : op + r * 1024 = v
  refine ReadsAs.long hD (by omega) (by omega) (by omega) ?_
  rw [hf v (by omega), zeros_ok (decide_eq_true (by omega)), show v / 1024 % 64 = r by omega]

theorem reads_merge {D : Nat → Decoded} {cls op : Nat} {k : Nat} {f : Nat → Instr}
    (hD : ∀ w, w / 2 % 8 = cls → decode32 w = D w)
    (h : (decide (k < 256)) = true)
    (hop : op < 1024 ∧ op % 2 = 1 ∧ op / 2 % 8 = cls)
    (hf : ∀ w, w / 16 % 64 = op / 16 →
      D w = zeros (decide (w / 1024 % 64 = 0) && decide (w / 16777216 % 256 = 0)) (f (w / 65536 % 256))) :
    ReadsAs 4 (op + k * 65536) (f k) := by
  rw [decide_eq_true_eq] at h
  generalize hv : op + k * 65536 = v
  refine ReadsAs.long hD (by omega) (by omega) (by omega) ?_
  rw [hf v (by omega), zeros_ok (by simp only [Bool.and_eq_true, decide_eq_true_eq]; omega), show v / 65536 % 256 = k by omega]

theorem reads_vadd {D : Nat → Decoded} {cls op : Nat} {d a : Nat} {b : Ob} {f : Nat → Nat → Ob → Instr}
    (hD : ∀ w, w / 2 % 8 = cls → decode32 w = D w)
    (h : (decide (d < 256) && decide (a < 256) && b.wf) = true)
    (hop : op < 2048 ∧ op % 2 = 1 ∧ op / 2 % 8 = cls)
    (hf : ∀ w, w / 16 % 128 = op / 16 → D w = .ok (f (w / 2048 % 256) (w / 524288 % 256) (Ob.ofCode (w / 134217728 % 32)))) :
    ReadsAs 4 (op + d * 2048 + a * 524288 + b.code * 134217728) (f d a b) := by
  simp only [Bool.and_eq_true, decide_eq_true_eq] at h
  obtain ⟨h, hw⟩ := h
  have hlt := ob_code_lt b hw
  generalize hv : op + d * 2048 + a * 524288 + b.code * 134217728 = v
  refine ReadsAs.long hD (by omega) (by omega) (by omega) ?_
  rw [hf v (by omega), show v / 2048 % 256 = d by omega, show v / 524288 % 256 = a by omega,
    show v / 134217728 % 32 = b.code by omega, Ob.ofCode_code hw]

theorem reads_vabs {D : Nat → Decoded} {cls op : Nat} {d a : Nat} {f : Nat → Nat → Instr}
    (hD : ∀ w, w / 2 % 8 = cls → decode32 w = D w)
    (h : (decide (d < 256) && decide (a < 256)) = true)
    (hop : op < 2048 ∧ op % 2 = 1 ∧ op / 2 % 8 = cls)
    (hf : ∀ w, w / 16 % 128 = op / 16 → D w = zeros (decide (w / 134217728 % 32 = 0)) (f (w / 2048 % 256) (w / 524288 % 256))) :
    ReadsAs 4 (op + d * 2048 + a * 524288) (f d a) := by
  simp only [Bool.and_eq_true, decide_eq_true_eq] at h
  generalize hv : op + d * 2048 + a * 524288 = v
  refine ReadsAs.long hD (by omega) (by omega) (by omega) ?_
  rw [hf v (by omega), zeros_ok (decide_eq_true (by omega)), show v / 2048 % 256 = d by omega, show v / 524288 % 256 = a by omega]

theorem reads_vceq {D : Nat → Decoded} {cls op : Nat} {d : Nat} {m : CMode} {a : Nat} {b : Ob} {f : Nat → CMode → Nat → Ob → Instr}
    (hD : ∀ w, w / 2 % 8 = cls → decode32 w = D w)
    (h : (decide (d < 64) && decide (a < 256) && b.wf) = true)
    (hop : op < 2048 ∧ op % 2 = 1 ∧ op / 2 % 8 = cls)
    (hf : ∀ w, w / 16 % 128 = op / 16 → D w = .ok (f (w / 2048 % 64) (CMode.ofCode (w / 131072 % 4)) (w / 524288 % 256) (Ob.ofCode (w / 134217728 % 32)))) :
    ReadsAs 4 (op + d * 2048 + m.code * 131072 + a * 524288 + b.code * 134217728) (f d m a b) := by
  simp only [Bool.and_eq_true, decide_eq_true_eq] at h
  obtain ⟨h, hw⟩ := h
  have hlt := ob_code_lt b hw
  have hm := cmode_code_lt m
  generalize hv : op + d * 2048 + m.code * 131072 + a * 524288 + b.code * 134217728 = v
  refine ReadsAs.long hD (by omega) (by omega) (by omega) ?_
  rw [hf v (by omega), show v / 2048 % 64 = d by omega, show v / 131072 % 4 = m.code by omega, CMode.ofCode_code,
    show v / 524288 % 256 = a by omega, show v / 134217728 % 32 = b.code by omega, Ob.ofCode_code hw]

theorem reads_vcvt {D : Nat → Decoded} {cls op : Nat} {d a c : Nat} {f : Nat → Nat → Nat → Instr}
    (hD : ∀ w, w / 2 % 8 = cls → decode32 w = D w)
    (h : (decide (d < 256) && decide (a < 256) && decide (c < 32)) = true)
    (hop : op < 2048 ∧ op % 2 = 1 ∧ op / 2 % 8 = cls)
    (hf : ∀ w, w / 16 % 128 = op / 16 → D w = .ok (f (w / 2048 % 256) (w / 524288 % 256) (w / 134217728 % 32))) :
    ReadsAs 4 (op + d * 2048 + a * 524288 + c * 134217728) (f d a c) := by
  simp only [Bool.and_eq_true, decide_eq_true_eq] at h
  generalize hv : op + d * 2048 + a * 524288 + c * 134217728 = v
  refine ReadsAs.long hD (by omega) (by omega) (by omega) ?_
  rw [hf v (by omega), show v / 2048 % 256 = d by omega, show v / 524288 % 256 = a by omega, show v / 134217728 % 32 = c by omega]

theorem reads_vballot {D : Nat → Decoded} {cls op : Nat} {d a : Nat} {f : Nat → Nat → Instr}
    (hD : ∀ w, w / 2 % 8 = cls → decode32 w = D w)
    (h : (decide (d < 256) && decide (a < 64)) = true)
    (hop : op < 2048 ∧ op % 2 = 1 ∧ op / 2 % 8 = cls)
    (hf : ∀ w, w / 16 % 128 = op / 16 → D w = zeros (decide (w / 33554432 % 128 = 0)) (f (w / 2048 % 256) (w / 524288 % 64))) :
    ReadsAs 4 (op + d * 2048 + a * 524288) (f d a) := by
  simp only [Bool.and_eq_true, decide_eq_true_eq] at h
  generalize hv : op + d * 2048 + a * 524288 = v
  refine ReadsAs.long hD (by omega) (by omega) (by omega) ?_
  rw [hf v (by omega), zeros_ok (decide_eq_true (by omega)), show v / 2048 % 256 = d by omega, show v / 524288 % 64 = a by omega]

theorem reads_vlid {D : Nat → Decoded} {cls op : Nat} {d : Nat} {f : Nat → Instr}
    (hD : ∀ w, w / 2 % 8 = cls → decode32 w = D w)
    (h : (decide (d < 256)) = true)
    (hop : op < 2048 ∧ op % 2 = 1 ∧ op / 2 % 8 = cls)
    (hf : ∀ w, w / 16 % 128 = op / 16 → D w = zeros (decide (w / 524288 % 8192 = 0)) (f (w / 2048 % 256))) :
    ReadsAs 4 (op + d * 2048) (f d) := by
  rw [decide_eq_true_eq] at h
  generalize hv : op + d * 2048 = v
  refine ReadsAs.long hD (by omega) (by omega) (by omega) ?_
  rw [hf v (by omega), zeros_ok (decide_eq_true (by omega)), show v / 2048 % 256 = d by omega]

theorem reads_vmovo {D : Nat → Decoded} {cls op : Nat} {k a : Nat} {f : Nat → Nat → Instr}
    (hD : ∀ w, w / 2 % 8 = cls → decode32 w = D w)
    (h : (decide (k < 16) && decide (a < 256)) = true)
    (hop : op < 2048 ∧ op % 2 = 1 ∧ op / 2 % 8 = cls)
    (hf : ∀ w, w / 16 % 128 = op / 16 →
      D w = zeros (decide (w / 32768 % 16 = 0) && decide (w / 134217728 % 32 = 0)) (f (w / 2048 % 16) (w / 524288 % 256))) :
    ReadsAs 4 (op + k * 2048 + a * 524288) (f k a) := by
  simp only [Bool.and_eq_true, decide_eq_true_eq] at h
  generalize hv : op + k * 2048 + a * 524288 = v
  refine ReadsAs.long hD (by omega) (by omega) (by omega) ?_
  rw [hf v (by omega), zeros_ok (by simp only [Bool.and_eq_true, decide_eq_true_eq]; omega), show v / 2048 % 16 = k by omega,
    show v / 524288 % 256 = a by omega]

theorem reads_pand {D : Nat → Decoded} {cls op : Nat} {d a b : Nat} {f : Nat → Nat → Nat → Instr}
    (hD : ∀ w, w / 2 % 8 = cls → decode32 w = D w)
    (h : (decide (d < 64) && decide (a < 64) && decide (b < 32)) = true)
    (hop : op < 2048 ∧ op % 2 = 1 ∧ op / 2 % 8 = cls)
    (hf : ∀ w, w / 16 % 128 = op / 16 →
      D w = zeros (decide (w / 131072 % 4 = 0) && decide (w / 33554432 % 4 = 0)) (f (w / 2048 % 64) (w / 524288 % 64) (w / 134217728 % 32))) :
    ReadsAs 4 (op + d * 2048 + a * 524288 + b * 134217728) (f d a b) := by
  simp only [Bool.and_eq_true, decide_eq_true_eq] at h
  generalize hv : op + d * 2048 + a * 524288 + b * 134217728 = v
  refine ReadsAs.long hD (by omega) (by omega) (by omega) ?_
  rw [hf v (by omega), zeros_ok (by simp only [Bool.and_eq_true, decide_eq_true_eq]; omega), show v / 2048 % 64 = d by omega,
    show v / 524288 % 64 = a by omega, show v / 134217728 % 32 = b by omega]

theorem reads_pnot {D : Nat → Decoded} {cls op : Nat} {d a : Nat} {f : Nat → Nat → Instr}
    (hD : ∀ w, w / 2 % 8 = cls → decode32 w = D w)
    (h : (decide (d < 64) && decide (a < 64)) = true)
    (hop : op < 2048 ∧ op % 2 = 1 ∧ op / 2 % 8 = cls)
    (hf : ∀ w, w / 16 % 128 = op / 16 →
      D w = zeros (decide (w / 131072 % 4 = 0) && decide (w / 33554432 % 128 = 0)) (f (w / 2048 % 64) (w / 524288 % 64))) :
    ReadsAs 4 (op + d * 2048 + a * 524288) (f d a) := by
  simp only [Bool.and_eq_true, decide_eq_true_eq] at h
  generalize hv : op + d * 2048 + a * 524288 = v
  refine ReadsAs.long hD (by omega) (by omega) (by omega) ?_
  rw [hf v (by omega), zeros_ok (by simp only [Bool.and_eq_true, decide_eq_true_eq]; omega), show v / 2048 % 64 = d by omega,
    show v / 524288 % 64 = a by omega]

theorem reads_pset {D : Nat → Decoded} {cls op : Nat} {d : Nat} {b : Ob} {f : Nat → Ob → Instr}
    (hD : ∀ w, w / 2 % 8 = cls → decode32 w = D w)
    (h : (decide (d < 64) && b.wf) = true)
    (hop : op < 2048 ∧ op % 2 = 1 ∧ op / 2 % 8 = cls)
    (hf : ∀ w, w / 16 % 128 = op / 16 → D w = zeros (decide (w / 131072 % 1024 = 0)) (f (w / 2048 % 64) (Ob.ofCode (w / 134217728 % 32)))) :
    ReadsAs 4 (op + d * 2048 + b.code * 134217728) (f d b) := by
  simp only [Bool.and_eq_true, decide_eq_true_eq] at h
  obtain ⟨h, hw⟩ := h
  have hlt := ob_code_lt b hw
  generalize hv : op + d * 2048 + b.code * 134217728 = v
  refine ReadsAs.long hD (by omega) (by omega) (by omega) ?_
  rw [hf v (by omega), zeros_ok (decide_eq_true (by omega)), show v / 2048 % 64 = d by omega,
    show v / 134217728 % 32 = b.code by omega, Ob.ofCode_code hw]

theorem reads_ldv8n {D : Nat → Decoded} {cls op : Nat} {t vx k obs : Nat} {f : Nat → Nat → Nat → Nat → Instr}
    (hD : ∀ w, w / 2 % 8 = cls → decode32 w = D w)
    (h : (decide (t < 256) && decide (vx < 256) && decide (k < 8) && decide (obs < 8)) = true)
    (hop : op < 1024 ∧ op % 2 = 1 ∧ op / 2 % 8 = cls)
    (hf : ∀ w, w / 16 % 64 = op / 16 → D w = .ok (f (w / 1024 % 256) (w / 262144 % 256) (w / 67108864 % 8) (w / 536870912 % 8))) :
    ReadsAs 4 (op + t * 1024 + vx * 262144 + k * 67108864 + obs * 536870912) (f t vx k obs) := by
  simp only [Bool.and_eq_true, decide_eq_true_eq] at h
  generalize hv : op + t * 1024 + vx * 262144 + k * 67108864 + obs * 536870912 = v
  refine ReadsAs.long hD (by omega) (by omega) (by omega) ?_
  rw [hf v (by omega), show v / 1024 % 256 = t by omega, show v / 262144 % 256 = vx by omega,
    show v / 67108864 % 8 = k by omega, show v / 536870912 % 8 = obs by omega]

theorem reads_lds32 {D : Nat → Decoded} {cls op : Nat} {r imm k obs : Nat} {f : Nat → Nat → Nat → Nat → Instr}
    (hD : ∀ w, w / 2 % 8 = cls → decode32 w = D w)
    (h : (decide (r < 64) && decide (imm < 256) && decide (k < 8) && decide (obs < 8)) = true)
    (hop : op < 1024 ∧ op % 2 = 1 ∧ op / 2 % 8 = cls)
    (hf : ∀ w, w / 16 % 64 = op / 16 → D w = zeros (decide (w / 65536 % 4 = 0)) (f (w / 1024 % 64) (w / 262144 % 256) (w / 67108864 % 8) (w / 536870912 % 8))) :
    ReadsAs 4 (op + r * 1024 + imm * 262144 + k * 67108864 + obs * 536870912) (f r imm k obs) := by
  simp only [Bool.and_eq_true, decide_eq_true_eq] at h
  generalize hv : op + r * 1024 + imm * 262144 + k * 67108864 + obs * 536870912 = v
  refine ReadsAs.long hD (by omega) (by omega) (by omega) ?_
  rw [hf v (by omega), zeros_ok (decide_eq_true (by omega)), show v / 1024 % 64 = r by omega,
    show v / 262144 % 256 = imm by omega, show v / 67108864 % 8 = k by omega, show v / 536870912 % 8 = obs by omega]

theorem reads_ldc {D : Nat → Decoded} {cls op : Nat} {t vx k : Nat} {f : Nat → Nat → Nat → Instr}
    (hD : ∀ w, w / 2 % 8 = cls → decode32 w = D w)
    (h : (decide (t < 256) && decide (vx < 256) && decide (k < 8)) = true)
    (hop : op < 1024 ∧ op % 2 = 1 ∧ op / 2 % 8 = cls)
    (hf : ∀ w, w / 16 % 64 = op / 16 → D w = zeros (decide (w / 536870912 % 8 = 0)) (f (w / 1024 % 256) (w / 262144 % 256) (w / 67108864 % 8))) :
    ReadsAs 4 (op + t * 1024 + vx * 262144 + k * 67108864) (f t vx k) := by
  simp only [Bool.and_eq_true, decide_eq_true_eq] at h
  generalize hv : op + t * 1024 + vx * 262144 + k * 67108864 = v
  refine ReadsAs.long hD (by omega) (by omega) (by omega) ?_
  rw [hf v (by omega), zeros_ok (decide_eq_true (by omega)), show v / 1024 % 256 = t by omega,
    show v / 262144 % 256 = vx by omega, show v / 67108864 % 8 = k by omega]

theorem reads_zline {D : Nat → Decoded} {cls op : Nat} {imm k : Nat} {f : Nat → Nat → Instr}
    (hD : ∀ w, w / 2 % 8 = cls → decode32 w = D w)
    (h : (decide (imm < 256) && decide (k < 8)) = true)
    (hop : op < 1024 ∧ op % 2 = 1 ∧ op / 2 % 8 = cls)
    (hf : ∀ w, w / 16 % 64 = op / 16 →
      D w = zeros (decide (w / 1024 % 256 = 0) && decide (w / 536870912 % 8 = 0)) (f (w / 262144 % 256) (w / 67108864 % 8))) :
    ReadsAs 4 (op + imm * 262144 + k * 67108864) (f imm k) := by
  simp only [Bool.and_eq_true, decide_eq_true_eq] at h
  generalize hv : op + imm * 262144 + k * 67108864 = v
  refine ReadsAs.long hD (by omega) (by omega) (by omega) ?_
  rw [hf v (by omega), zeros_ok (by simp only [Bool.and_eq_true, decide_eq_true_eq]; omega),
    show v / 262144 % 256 = imm by omega, show v / 67108864 % 8 = k by omega]

theorem reads_fence {D : Nat → Decoded} {cls op : Nat} {obs : Nat} {f : Nat → Instr}
    (hD : ∀ w, w / 2 % 8 = cls → decode32 w = D w)
    (h : (decide (obs < 8)) = true)
    (hop : op < 1024 ∧ op % 2 = 1 ∧ op / 2 % 8 = cls)
    (hf : ∀ w, w / 16 % 64 = op / 16 → D w = zeros (decide (w / 1024 % 524288 = 0)) (f (w / 536870912 % 8))) :
    ReadsAs 4 (op + obs * 536870912) (f obs) := by
  rw [decide_eq_true_eq] at h
  generalize hv : op + obs * 536870912 = v
  refine ReadsAs.long hD (by omega) (by omega) (by omega) ?_
  rw [hf v (by omega), zeros_ok (decide_eq_true (by omega)), show v / 536870912 % 8 = obs by omega]

theorem reads_mma {D : Nat → Decoded} {cls op : Nat} {c a b m d : Nat} {f : Nat → Nat → Nat → Nat → Nat → Instr}
    (hD : ∀ w, w / 2 % 8 = cls → decode32 w = D w)
    (h : (decide (c < 16) && decide (a < 32) && decide (b < 32) && decide (m < 4) && decide (d < 64)) = true)
    (hop : op < 1024 ∧ op % 2 = 1 ∧ op / 2 % 8 = cls)
    (hf : ∀ w, w / 16 % 64 = op / 16 → D w = .ok (f (w / 1048576 % 16) (w / 1024 % 32) (w / 32768 % 32) (w / 16777216 % 4) (w / 67108864 % 64))) :
    ReadsAs 4 (op + c * 1048576 + a * 1024 + b * 32768 + m * 16777216 + d * 67108864) (f c a b m d) := by
  simp only [Bool.and_eq_true, decide_eq_true_eq] at h
  generalize hv : op + c * 1048576 + a * 1024 + b * 32768 + m * 16777216 + d * 67108864 = v
  refine ReadsAs.long hD (by omega) (by omega) (by omega) ?_
  rw [hf v (by omega), show v / 1048576 % 16 = c by omega, show v / 1024 % 32 = a by omega, show v / 32768 % 32 = b by omega,
    show v / 16777216 % 4 = m by omega, show v / 67108864 % 64 = d by omega]

theorem reads_mclaim {D : Nat → Decoded} {cls op : Nat} {acc : Bool} {a n : Nat} {f : Bool → Nat → Nat → Instr}
    (hD : ∀ w, w / 2 % 8 = cls → decode32 w = D w)
    (h : (decide (a < 32) && decide (n < 32)) = true)
    (hop : op < 1024 ∧ op % 2 = 1 ∧ op / 2 % 8 = cls)
    (hf : ∀ w, w / 16 % 64 = op / 16 →
      D w = zeros (decide (w / 1048576 % 32 = 0) && decide (w / 67108864 % 64 = 0)) (f (decide (w / 33554432 % 2 = 1)) (w / 1024 % 32) (w / 32768 % 32))) :
    ReadsAs 4 (op + acc.toNat * 33554432 + a * 1024 + n * 32768) (f acc a n) := by
  simp only [Bool.and_eq_true, decide_eq_true_eq] at h
  have hb := bool_toNat_lt acc
  generalize hv : op + acc.toNat * 33554432 + a * 1024 + n * 32768 = v
  refine ReadsAs.long hD (by omega) (by omega) (by omega) ?_
  rw [hf v (by omega), zeros_ok (by simp only [Bool.and_eq_true, decide_eq_true_eq]; omega),
    show v / 33554432 % 2 = acc.toNat by omega, decide_toNat_eq_one, show v / 1024 % 32 = a by omega,
    show v / 32768 % 32 = n by omega]

theorem reads_mldo {D : Nat → Decoded} {cls op : Nat} {a c d : Nat} {f : Nat → Nat → Nat → Instr}
    (hD : ∀ w, w / 2 % 8 = cls → decode32 w = D w)
    (h : (decide (a < 32) && decide (c < 64) && decide (d < 64)) = true)
    (hop : op < 1024 ∧ op % 2 = 1 ∧ op / 2 % 8 = cls)
    (hf : ∀ w, w / 16 % 64 = op / 16 → D w = zeros (decide (w / 32768 % 32 = 0)) (f (w / 1024 % 32) (w / 1048576 % 64) (w / 67108864 % 64))) :
    ReadsAs 4 (op + a * 1024 + c * 1048576 + d * 67108864) (f a c d) := by
  simp only [Bool.and_eq_true, decide_eq_true_eq] at h
  generalize hv : op + a * 1024 + c * 1048576 + d * 67108864 = v
  refine ReadsAs.long hD (by omega) (by omega) (by omega) ?_
  rw [hf v (by omega), zeros_ok (decide_eq_true (by omega)), show v / 1024 % 32 = a by omega,
    show v / 1048576 % 64 = c by omega, show v / 67108864 % 64 = d by omega]

theorem reads_msta {D : Nat → Decoded} {cls op : Nat} {a c d m : Nat} {f : Nat → Nat → Nat → Nat → Instr}
    (hD : ∀ w, w / 2 % 8 = cls → decode32 w = D w)
    (h : (decide (a < 16) && decide (c < 64) && decide (d < 64) && decide (m < 4)) = true)
    (hop : op < 1024 ∧ op % 2 = 1 ∧ op / 2 % 8 = cls)
    (hf : ∀ w, w / 16 % 64 = op / 16 →
      D w = zeros (decide (w / 16384 % 2 = 0) && decide (w / 131072 % 8 = 0)) (f (w / 1024 % 16) (w / 1048576 % 64) (w / 67108864 % 64) (w / 32768 % 4))) :
    ReadsAs 4 (op + a * 1024 + c * 1048576 + d * 67108864 + m * 32768) (f a c d m) := by
  simp only [Bool.and_eq_true, decide_eq_true_eq] at h
  generalize hv : op + a * 1024 + c * 1048576 + d * 67108864 + m * 32768 = v
  refine ReadsAs.long hD (by omega) (by omega) (by omega) ?_
  rw [hf v (by omega), zeros_ok (by simp only [Bool.and_eq_true, decide_eq_true_eq]; omega), show v / 1024 % 16 = a by omega,
    show v / 1048576 % 64 = c by omega, show v / 67108864 % 64 = d by omega, show v / 32768 % 4 = m by omega]

theorem reads_mzacc {D : Nat → Decoded} {cls op : Nat} {a b : Nat} {f : Nat → Nat → Instr}
    (hD : ∀ w, w / 2 % 8 = cls → decode32 w = D w)
    (h : (decide (a < 16) && decide (b < 32)) = true)
    (hop : op < 1024 ∧ op % 2 = 1 ∧ op / 2 % 8 = cls)
    (hf : ∀ w, w / 16 % 64 = op / 16 →
      D w = zeros (decide (w / 16384 % 2 = 0) && decide (w / 1048576 % 4096 = 0)) (f (w / 1024 % 16) (w / 32768 % 32))) :
    ReadsAs 4 (op + a * 1024 + b * 32768) (f a b) := by
  simp only [Bool.and_eq_true, decide_eq_true_eq] at h
  generalize hv : op + a * 1024 + b * 32768 = v
  refine ReadsAs.long hD (by omega) (by omega) (by omega) ?_
  rw [hf v (by omega), zeros_ok (by simp only [Bool.and_eq_true, decide_eq_true_eq]; omega), show v / 1024 % 16 = a by omega,
    show v / 32768 % 32 = b by omega]

theorem reads_mbatonQuery {D : Nat → Decoded} {cls op : Nat} {d : Nat} {f : Nat → Instr}
    (hD : ∀ w, w / 2 % 8 = cls → decode32 w = D w)
    (h : (decide (d < 64)) = true)
    (hop : op < 32768 ∧ op % 2 = 1 ∧ op / 2 % 8 = cls ∧ op / 16 % 64 = 7)
    (hf : ∀ w, w / 16 % 64 = 7 → w / 1024 % 32 = op / 1024 → D w = zeros (decide (w / 32768 % 2048 = 0)) (f (w / 67108864 % 64))) :
    ReadsAs 4 (op + d * 67108864) (f d) := by
  rw [decide_eq_true_eq] at h
  generalize hv : op + d * 67108864 = v
  refine ReadsAs.long hD (by omega) (by omega) (by omega) ?_
  rw [hf v (by omega) (by omega), zeros_ok (decide_eq_true (by omega)), show v / 67108864 % 64 = d by omega]

theorem reads_qmv {D : Nat → Decoded} {cls op : Nat} {c d b ni no : Nat} {f : Nat → Nat → Nat → Nat → Nat → Instr}
    (hD : ∀ w, w / 2 % 8 = cls → decode32 w = D w)
    (h : (decide (c < 64) && decide (d < 64) && decide (b < 32) && decide (ni < 4) && decide (no < 4)) = true)
    (hop : op < 1024 ∧ op % 2 = 1 ∧ op / 2 % 8 = cls)
    (hf : ∀ w, w / 16 % 64 = op / 16 → D w = zeros (decide (w / 16384 % 2 = 0)) (f (w / 1048576 % 64) (w / 67108864 % 64) (w / 32768 % 32) (w / 1024 % 4) (w / 4096 % 4))) :
    ReadsAs 4 (op + c * 1048576 + d * 67108864 + b * 32768 + ni * 1024 + no * 4096) (f c d b ni no) := by
  simp only [Bool.and_eq_true, decide_eq_true_eq] at h
  generalize hv : op + c * 1048576 + d * 67108864 + b * 32768 + ni * 1024 + no * 4096 = v
  refine ReadsAs.long hD (by omega) (by omega) (by omega) ?_
  rw [hf v (by omega), zeros_ok (decide_eq_true (by omega)), show v / 1048576 % 64 = c by omega,
    show v / 67108864 % 64 = d by omega, show v / 32768 % 32 = b by omega, show v / 1024 % 4 = ni by omega,
    show v / 4096 % 4 = no by omega]

theorem reads_tdset {D : Nat → Decoded} {cls op : Nat} {a c : Nat} {f : Nat → Nat → Instr}
    (hD : ∀ w, w / 2 % 8 = cls → decode32 w = D w)
    (h : (decide (a < 32) && decide (c < 64)) = true)
    (hop : op < 1024 ∧ op % 2 = 1 ∧ op / 2 % 8 = cls)
    (hf : ∀ w, w / 16 % 64 = op / 16 →
      D w = zeros (decide (w / 32768 % 32 = 0) && decide (w / 67108864 % 64 = 0)) (f (w / 1024 % 32) (w / 1048576 % 64))) :
    ReadsAs 4 (op + a * 1024 + c * 1048576) (f a c) := by
  simp only [Bool.and_eq_true, decide_eq_true_eq] at h
  generalize hv : op + a * 1024 + c * 1048576 = v
  refine ReadsAs.long hD (by omega) (by omega) (by omega) ?_
  rw [hf v (by omega), zeros_ok (by simp only [Bool.and_eq_true, decide_eq_true_eq]; omega), show v / 1024 % 32 = a by omega,
    show v / 1048576 % 64 = c by omega]

theorem reads_attn {D : Nat → Decoded} {cls op : Nat} {a b c d : Nat} {f : Nat → Nat → Nat → Nat → Instr}
    (hD : ∀ w, w / 2 % 8 = cls → decode32 w = D w)
    (h : (decide (a < 32) && decide (b < 16) && decide (c < 64) && decide (d < 64)) = true)
    (hop : op < 1024 ∧ op % 2 = 1 ∧ op / 2 % 8 = cls)
    (hf : ∀ w, w / 16 % 64 = op / 16 → D w = zeros (decide (w / 524288 % 2 = 0)) (f (w / 1024 % 32) (w / 32768 % 16) (w / 1048576 % 64) (w / 67108864 % 64))) :
    ReadsAs 4 (op + a * 1024 + b * 32768 + c * 1048576 + d * 67108864) (f a b c d) := by
  simp only [Bool.and_eq_true, decide_eq_true_eq] at h
  generalize hv : op + a * 1024 + b * 32768 + c * 1048576 + d * 67108864 = v
  refine ReadsAs.long hD (by omega) (by omega) (by omega) ?_
  rw [hf v (by omega), zeros_ok (decide_eq_true (by omega)), show v / 1024 % 32 = a by omega,
    show v / 32768 % 16 = b by omega, show v / 1048576 % 64 = c by omega, show v / 67108864 % 64 = d by omega]

theorem reads_attnf {D : Nat → Decoded} {cls op : Nat} {a c d : Nat} {f : Nat → Nat → Nat → Instr}
    (hD : ∀ w, w / 2 % 8 = cls → decode32 w = D w)
    (h : (decide (a < 16) && decide (c < 64) && decide (d < 64)) = true)
    (hop : op < 1024 ∧ op % 2 = 1 ∧ op / 2 % 8 = cls)
    (hf : ∀ w, w / 16 % 64 = op / 16 → D w = zeros (decide (w / 16384 % 64 = 0)) (f (w / 1024 % 16) (w / 1048576 % 64) (w / 67108864 % 64))) :
    ReadsAs 4 (op + a * 1024 + c * 1048576 + d * 67108864) (f a c d) := by
  simp only [Bool.and_eq_true, decide_eq_true_eq] at h
  generalize hv : op + a * 1024 + c * 1048576 + d * 67108864 = v
  refine ReadsAs.long hD (by omega) (by omega) (by omega) ?_
  rw [hf v (by omega), zeros_ok (decide_eq_true (by omega)), show v / 1024 % 16 = a by omega,
    show v / 1048576 % 64 = c by omega, show v / 67108864 % 64 = d by omega]

theorem reads_attnz {D : Nat → Decoded} {cls op : Nat} {a : Nat} {f : Nat → Instr}
    (hD : ∀ w, w / 2 % 8 = cls → decode32 w = D w)
    (h : (decide (a < 16)) = true)
    (hop : op < 1024 ∧ op % 2 = 1 ∧ op / 2 % 8 = cls)
    (hf : ∀ w, w / 16 % 64 = op / 16 → D w = zeros (decide (w / 16384 % 262144 = 0)) (f (w / 1024 % 16))) :
    ReadsAs 4 (op + a * 1024) (f a) := by
  rw [decide_eq_true_eq] at h
  generalize hv : op + a * 1024 = v
  refine ReadsAs.long hD (by omega) (by omega) (by omega) ?_
  rw [hf v (by omega), zeros_ok (decide_eq_true (by omega)), show v / 1024 % 16 = a by omega]

theorem reads_mstat {D : Nat → Decoded} {cls op : Nat} {d : Nat} {f : Nat → Instr}
    (hD : ∀ w, w / 2 % 8 = cls → decode32 w = D w)
    (h : (decide (d < 64)) = true)
    (hop : op < 1024 ∧ op % 2 = 1 ∧ op / 2 % 8 = cls)
    (hf : ∀ w, w / 16 % 64 = op / 16 → D w = zeros (decide (w / 1024 % 65536 = 0)) (f (w / 67108864 % 64))) :
    ReadsAs 4 (op + d * 67108864) (f d) := by
  rw [decide_eq_true_eq] at h
  generalize hv : op + d * 67108864 = v
  refine ReadsAs.long hD (by omega) (by omega) (by omega) ?_
  rw [hf v (by omega), zeros_ok (decide_eq_true (by omega)), show v / 67108864 % 64 = d by omega]

theorem reads_cpy {D : Nat → Decoded} {cls op : Nat} {a b c d : Nat} {f : Nat → Nat → Nat → Nat → Instr}
    (hD : ∀ w, w / 2 % 8 = cls → decode32 w = D w)
    (h : (decide (a < 32) && decide (b < 32) && decide (c < 64) && decide (d < 64)) = true)
    (hop : op < 1024 ∧ op % 2 = 1 ∧ op / 2 % 8 = cls)
    (hf : ∀ w, w / 16 % 64 = op / 16 → D w = .ok (f (w / 1024 % 32) (w / 32768 % 32) (w / 1048576 % 64) (w / 67108864 % 64))) :
    ReadsAs 4 (op + a * 1024 + b * 32768 + c * 1048576 + d * 67108864) (f a b c d) := by
  simp only [Bool.and_eq_true, decide_eq_true_eq] at h
  generalize hv : op + a * 1024 + b * 32768 + c * 1048576 + d * 67108864 = v
  refine ReadsAs.long hD (by omega) (by omega) (by omega) ?_
  rw [hf v (by omega), show v / 1024 % 32 = a by omega, show v / 32768 % 32 = b by omega, show v / 1048576 % 64 = c by omega,
    show v / 67108864 % 64 = d by omega]

theorem reads_cpywp {D : Nat → Decoded} {cls op : Nat} {c d : Nat} {f : Nat → Nat → Instr}
    (hD : ∀ w, w / 2 % 8 = cls → decode32 w = D w)
    (h : (decide (c < 64) && decide (d < 64)) = true)
    (hop : op < 1024 ∧ op % 2 = 1 ∧ op / 2 % 8 = cls)
    (hf : ∀ w, w / 16 % 64 = op / 16 → D w = zeros (decide (w / 1024 % 1024 = 0)) (f (w / 1048576 % 64) (w / 67108864 % 64))) :
    ReadsAs 4 (op + c * 1048576 + d * 67108864) (f c d) := by
  simp only [Bool.and_eq_true, decide_eq_true_eq] at h
  generalize hv : op + c * 1048576 + d * 67108864 = v
  refine ReadsAs.long hD (by omega) (by omega) (by omega) ?_
  rw [hf v (by omega), zeros_ok (decide_eq_true (by omega)), show v / 1048576 % 64 = c by omega,
    show v / 67108864 % 64 = d by omega]

theorem reads_lwait {D : Nat → Decoded} {cls op : Nat} {c : Nat} {f : Nat → Instr}
    (hD : ∀ w, w / 2 % 8 = cls → decode32 w = D w)
    (h : (decide (c < 64)) = true)
    (hop : op < 1024 ∧ op % 2 = 1 ∧ op / 2 % 8 = cls)
    (hf : ∀ w, w / 16 % 64 = op / 16 →
      D w = zeros (decide (w / 1024 % 1024 = 0) && decide (w / 67108864 % 64 = 0)) (f (w / 1048576 % 64))) :
    ReadsAs 4 (op + c * 1048576) (f c) := by
  rw [decide_eq_true_eq] at h
  generalize hv : op + c * 1048576 = v
  refine ReadsAs.long hD (by omega) (by omega) (by omega) ?_
  rw [hf v (by omega), zeros_ok (by simp only [Bool.and_eq_true, decide_eq_true_eq]; omega), show v / 1048576 % 64 = c by omega]

theorem reads_join {D : Nat → Decoded} {cls op : Nat} {b : Nat} {f : Nat → Instr}
    (hD : ∀ w, w / 2 % 8 = cls → decode32 w = D w)
    (h : (decide (b < 32)) = true)
    (hop : op < 1024 ∧ op % 2 = 1 ∧ op / 2 % 8 = cls)
    (hf : ∀ w, w / 16 % 64 = op / 16 →
      D w = zeros (decide (w / 1024 % 32 = 0) && decide (w / 1048576 % 4096 = 0)) (f (w / 32768 % 32))) :
    ReadsAs 4 (op + b * 32768) (f b) := by
  rw [decide_eq_true_eq] at h
  generalize hv : op + b * 32768 = v
  refine ReadsAs.long hD (by omega) (by omega) (by omega) ?_
  rw [hf v (by omega), zeros_ok (by simp only [Bool.and_eq_true, decide_eq_true_eq]; omega), show v / 32768 % 32 = b by omega]

theorem reads_reorder {D : Nat → Decoded} {cls op : Nat} {align : Bool} {d k p n : Nat} {f : Bool → Nat → Nat → Nat → Nat → Instr}
    (hD : ∀ w, w / 2 % 8 = cls → decode32 w = D w)
    (h : (decide (d < 32) && decide (k < 64) && decide (p < 64) && decide (n < 8)) = true)
    (hop : op < 1024 ∧ op % 2 = 1 ∧ op / 2 % 8 = cls)
    (hf : ∀ w, w / 16 % 64 = op / 16 → D w = zeros (decide (w / 16384 % 2 = 0)) (f (decide (w / 8192 % 2 = 1)) (w / 32768 % 32) (w / 67108864 % 64) (w / 1048576 % 64) (w / 1024 % 8))) :
    ReadsAs 4 (op + align.toNat * 8192 + d * 32768 + k * 67108864 + p * 1048576 + n * 1024) (f align d k p n) := by
  simp only [Bool.and_eq_true, decide_eq_true_eq] at h
  have hb := bool_toNat_lt align
  generalize hv : op + align.toNat * 8192 + d * 32768 + k * 67108864 + p * 1048576 + n * 1024 = v
  refine ReadsAs.long hD (by omega) (by omega) (by omega) ?_
  rw [hf v (by omega), zeros_ok (decide_eq_true (by omega)), show v / 8192 % 2 = align.toNat by omega, decide_toNat_eq_one,
    show v / 32768 % 32 = d by omega, show v / 67108864 % 64 = k by omega, show v / 1048576 % 64 = p by omega,
    show v / 1024 % 8 = n by omega]

theorem reads_exproute {D : Nat → Decoded} {cls op : Nat} {b c d : Nat} {f : Nat → Nat → Nat → Instr}
    (hD : ∀ w, w / 2 % 8 = cls → decode32 w = D w)
    (h : (decide (b < 32) && decide (c < 64) && decide (d < 64)) = true)
    (hop : op < 1024 ∧ op % 2 = 1 ∧ op / 2 % 8 = cls)
    (hf : ∀ w, w / 16 % 64 = op / 16 → D w = zeros (decide (w / 1024 % 32 = 0)) (f (w / 32768 % 32) (w / 1048576 % 64) (w / 67108864 % 64))) :
    ReadsAs 4 (op + b * 32768 + c * 1048576 + d * 67108864) (f b c d) := by
  simp only [Bool.and_eq_true, decide_eq_true_eq] at h
  generalize hv : op + b * 32768 + c * 1048576 + d * 67108864 = v
  refine ReadsAs.long hD (by omega) (by omega) (by omega) ?_
  rw [hf v (by omega), zeros_ok (decide_eq_true (by omega)), show v / 32768 % 32 = b by omega,
    show v / 1048576 % 64 = c by omega, show v / 67108864 % 64 = d by omega]

theorem reads_cfill {D : Nat → Decoded} {cls op : Nat} {a b d : Nat} {f : Nat → Nat → Nat → Instr}
    (hD : ∀ w, w / 2 % 8 = cls → decode32 w = D w)
    (h : (decide (a < 32) && decide (b < 32) && decide (d < 64)) = true)
    (hop : op < 1024 ∧ op % 2 = 1 ∧ op / 2 % 8 = cls)
    (hf : ∀ w, w / 16 % 64 = op / 16 → D w = zeros (decide (w / 1048576 % 64 = 0)) (f (w / 1024 % 32) (w / 32768 % 32) (w / 67108864 % 64))) :
    ReadsAs 4 (op + a * 1024 + b * 32768 + d * 67108864) (f a b d) := by
  simp only [Bool.and_eq_true, decide_eq_true_eq] at h
  generalize hv : op + a * 1024 + b * 32768 + d * 67108864 = v
  refine ReadsAs.long hD (by omega) (by omega) (by omega) ?_
  rw [hf v (by omega), zeros_ok (decide_eq_true (by omega)), show v / 1024 % 32 = a by omega,
    show v / 32768 % 32 = b by omega, show v / 67108864 % 64 = d by omega]

theorem reads_shrink {D : Nat → Decoded} {cls op : Nat} {a : Nat} {f : Nat → Instr}
    (hD : ∀ w, w / 2 % 8 = cls → decode32 w = D w)
    (h : (decide (a < 32)) = true)
    (hop : op < 1024 ∧ op % 2 = 1 ∧ op / 2 % 8 = cls)
    (hf : ∀ w, w / 16 % 64 = op / 16 → D w = zeros (decide (w / 32768 % 131072 = 0)) (f (w / 1024 % 32))) :
    ReadsAs 4 (op + a * 1024) (f a) := by
  rw [decide_eq_true_eq] at h
  generalize hv : op + a * 1024 = v
  refine ReadsAs.long hD (by omega) (by omega) (by omega) ?_
  rw [hf v (by omega), zeros_ok (decide_eq_true (by omega)), show v / 1024 % 32 = a by omega]

theorem reads_evsel {D : Nat → Decoded} {cls op : Nat} {a b : Nat} {f : Nat → Nat → Instr}
    (hD : ∀ w, w / 2 % 8 = cls → decode32 w = D w)
    (h : (decide (a < 8) && decide (b < 32)) = true)
    (hop : op < 1024 ∧ op % 2 = 1 ∧ op / 2 % 8 = cls)
    (hf : ∀ w, w / 16 % 64 = op / 16 →
      D w = zeros (decide (w / 8192 % 4 = 0) && decide (w / 1048576 % 4096 = 0)) (f (w / 1024 % 8) (w / 32768 % 32))) :
    ReadsAs 4 (op + a * 1024 + b * 32768) (f a b) := by
  simp only [Bool.and_eq_true, decide_eq_true_eq] at h
  generalize hv : op + a * 1024 + b * 32768 = v
  refine ReadsAs.long hD (by omega) (by omega) (by omega) ?_
  rw [hf v (by omega), zeros_ok (by simp only [Bool.and_eq_true, decide_eq_true_eq]; omega), show v / 1024 % 8 = a by omega,
    show v / 32768 % 32 = b by omega]

theorem reads_evrd {D : Nat → Decoded} {cls op : Nat} {a c : Nat} {f : Nat → Nat → Instr}
    (hD : ∀ w, w / 2 % 8 = cls → decode32 w = D w)
    (h : (decide (a < 8) && decide (c < 64)) = true)
    (hop : op < 1024 ∧ op % 2 = 1 ∧ op / 2 % 8 = cls)
    (hf : ∀ w, w / 16 % 64 = op / 16 →
      D w = zeros (decide (w / 8192 % 128 = 0) && decide (w / 67108864 % 64 = 0)) (f (w / 1024 % 8) (w / 1048576 % 64))) :
    ReadsAs 4 (op + a * 1024 + c * 1048576) (f a c) := by
  simp only [Bool.and_eq_true, decide_eq_true_eq] at h
  generalize hv : op + a * 1024 + c * 1048576 = v
  refine ReadsAs.long hD (by omega) (by omega) (by omega) ?_
  rw [hf v (by omega), zeros_ok (by simp only [Bool.and_eq_true, decide_eq_true_eq]; omega), show v / 1024 % 8 = a by omega,
    show v / 1048576 % 64 = c by omega]

theorem reads_ret {D : Nat → Decoded} {cls op : Nat} {f : Instr}
    (hD : ∀ w, w / 2 % 8 = cls → decode32 w = D w)
    (hop : op < 1024 ∧ op % 2 = 1 ∧ op / 2 % 8 = cls)
    (hf : ∀ w, w / 16 % 64 = op / 16 → D w = zeros (decide (w / 1024 % 4194304 = 0)) f) :
    ReadsAs 4 (op) (f) := by
  generalize hv : op = v
  refine ReadsAs.long hD (by omega) (by omega) (by omega) ?_
  rw [hf v (by omega), zeros_ok (decide_eq_true (by omega))]

theorem reads_vlexit {D : Nat → Decoded} {cls op : Nat} {f : Instr}
    (hD : ∀ w, w / 2 % 8 = cls → decode32 w = D w)
    (hop : op < 2048 ∧ op % 2 = 1 ∧ op / 2 % 8 = cls)
    (hf : ∀ w, w / 16 % 128 = op / 16 → D w = zeros (decide (w / 2048 % 2097152 = 0)) f) :
    ReadsAs 4 (op) (f) := by
  generalize hv : op = v
  refine ReadsAs.long hD (by omega) (by omega) (by omega) ?_
  rw [hf v (by omega), zeros_ok (decide_eq_true (by omega))]

theorem reads_mbatonTake {D : Nat → Decoded} {cls op : Nat} {f : Instr}
    (hD : ∀ w, w / 2 % 8 = cls → decode32 w = D w)
    (hop : op < 32768 ∧ op % 2 = 1 ∧ op / 2 % 8 = cls ∧ op / 16 % 64 = 7)
    (hf : ∀ w, w / 16 % 64 = 7 → w / 1024 % 32 = op / 1024 → D w = zeros (decide (w / 32768 % 131072 = 0)) f) :
    ReadsAs 4 (op) (f) := by
  generalize hv : op = v
  refine ReadsAs.long hD (by omega) (by omega) (by omega) ?_
  rw [hf v (by omega) (by omega), zeros_ok (decide_eq_true (by omega))]

/-! ## Every instruction -/

/-- The word of an instruction whose operands fit reads as that instruction. -/
theorem readsTo_word (i : Instr) (hs : i.size ≠ 0) (h : i.fits = true) : ReadsTo i.size i.word i := by
  cases i with
  | clauseHeader wait setA setB pidx neg en => exact (reads_clauseHeader h).readsTo
  | vadd16 _ _ => exact (reads_vadd16 h (by decide) (fun w hw => by rw [decode16, hw]; rfl)).readsTo
  | vsub16 _ _ => exact (reads_vadd16 h (by decide) (fun w hw => by rw [decode16, hw]; rfl)).readsTo
  | vand16 _ _ => exact (reads_vadd16 h (by decide) (fun w hw => by rw [decode16, hw]; rfl)).readsTo
  | vor16 _ _ => exact (reads_vadd16 h (by decide) (fun w hw => by rw [decode16, hw]; rfl)).readsTo
  | vxor16 _ _ => exact (reads_vadd16 h (by decide) (fun w hw => by rw [decode16, hw]; rfl)).readsTo
  | vshl16 _ _ => exact (reads_vadd16 h (by decide) (fun w hw => by rw [decode16, hw]; rfl)).readsTo
  | vshr16 _ _ => exact (reads_vadd16 h (by decide) (fun w hw => by rw [decode16, hw]; rfl)).readsTo
  | vmin16 _ _ => exact (reads_vadd16 h (by decide) (fun w hw => by rw [decode16, hw]; rfl)).readsTo
  | fadd16 _ _ => exact (reads_vadd16 h (by decide) (fun w hw => by rw [decode16, hw]; rfl)).readsTo
  | fsub16 _ _ => exact (reads_vadd16 h (by decide) (fun w hw => by rw [decode16, hw]; rfl)).readsTo
  | fmul16 _ _ => exact (reads_vadd16 h (by decide) (fun w hw => by rw [decode16, hw]; rfl)).readsTo
  | ffmaq _ _ => exact (reads_vadd16 h (by decide) (fun w hw => by rw [decode16, hw]; rfl)).readsTo
  | fmax16 _ _ => exact (reads_vadd16 h (by decide) (fun w hw => by rw [decode16, hw]; rfl)).readsTo
  | fmin16 _ _ => exact (reads_vadd16 h (by decide) (fun w hw => by rw [decode16, hw]; rfl)).readsTo
  | vmov16 _ _ => exact (reads_vadd16 h (by decide) (fun w hw => by rw [decode16, hw]; rfl)).readsTo
  | vmadq _ _ => exact (reads_vadd16 h (by decide) (fun w hw => by rw [decode16, hw]; rfl)).readsTo
  | sadd _ _ _ => exact (reads_sadd decode32_S h (by decide) (fun w hw => by rw [decodeS, hw]; rfl)).readsTo
  | ssub _ _ _ => exact (reads_sadd decode32_S h (by decide) (fun w hw => by rw [decodeS, hw]; rfl)).readsTo
  | smul _ _ _ => exact (reads_sadd decode32_S h (by decide) (fun w hw => by rw [decodeS, hw]; rfl)).readsTo
  | smulh _ _ _ => exact (reads_sadd decode32_S h (by decide) (fun w hw => by rw [decodeS, hw]; rfl)).readsTo
  | smulhn _ _ _ => exact (reads_sadd decode32_S h (by decide) (fun w hw => by rw [decodeS, hw]; rfl)).readsTo
  | sdiv _ _ _ => exact (reads_sadd decode32_S h (by decide) (fun w hw => by rw [decodeS, hw]; rfl)).readsTo
  | sdivn _ _ _ => exact (reads_sadd decode32_S h (by decide) (fun w hw => by rw [decodeS, hw]; rfl)).readsTo
  | srem _ _ _ => exact (reads_sadd decode32_S h (by decide) (fun w hw => by rw [decodeS, hw]; rfl)).readsTo
  | sremn _ _ _ => exact (reads_sadd decode32_S h (by decide) (fun w hw => by rw [decodeS, hw]; rfl)).readsTo
  | sand _ _ _ => exact (reads_sadd decode32_S h (by decide) (fun w hw => by rw [decodeS, hw]; rfl)).readsTo
  | sor _ _ _ => exact (reads_sadd decode32_S h (by decide) (fun w hw => by rw [decodeS, hw]; rfl)).readsTo
  | sxor _ _ _ => exact (reads_sadd decode32_S h (by decide) (fun w hw => by rw [decodeS, hw]; rfl)).readsTo
  | sandn _ _ _ => exact (reads_sadd decode32_S h (by decide) (fun w hw => by rw [decodeS, hw]; rfl)).readsTo
  | sshl _ _ _ => exact (reads_sadd decode32_S h (by decide) (fun w hw => by rw [decodeS, hw]; rfl)).readsTo
  | sshr _ _ _ => exact (reads_sadd decode32_S h (by decide) (fun w hw => by rw [decodeS, hw]; rfl)).readsTo
  | ssar _ _ _ => exact (reads_sadd decode32_S h (by decide) (fun w hw => by rw [decodeS, hw]; rfl)).readsTo
  | smin _ _ _ => exact (reads_sadd decode32_S h (by decide) (fun w hw => by rw [decodeS, hw]; rfl)).readsTo
  | smax _ _ _ => exact (reads_sadd decode32_S h (by decide) (fun w hw => by rw [decodeS, hw]; rfl)).readsTo
  | sminn _ _ _ => exact (reads_sadd decode32_S h (by decide) (fun w hw => by rw [decodeS, hw]; rfl)).readsTo
  | smaxn _ _ _ => exact (reads_sadd decode32_S h (by decide) (fun w hw => by rw [decodeS, hw]; rfl)).readsTo
  | sseq _ _ _ => exact (reads_sadd decode32_S h (by decide) (fun w hw => by rw [decodeS, hw]; rfl)).readsTo
  | ssne _ _ _ => exact (reads_sadd decode32_S h (by decide) (fun w hw => by rw [decodeS, hw]; rfl)).readsTo
  | sslt _ _ _ => exact (reads_sadd decode32_S h (by decide) (fun w hw => by rw [decodeS, hw]; rfl)).readsTo
  | ssle _ _ _ => exact (reads_sadd decode32_S h (by decide) (fun w hw => by rw [decodeS, hw]; rfl)).readsTo
  | ssltn _ _ _ => exact (reads_sadd decode32_S h (by decide) (fun w hw => by rw [decodeS, hw]; rfl)).readsTo
  | sslen _ _ _ => exact (reads_sadd decode32_S h (by decide) (fun w hw => by rw [decodeS, hw]; rfl)).readsTo
  | sclz _ _ => exact (reads_sclz decode32_S h (by decide) (fun w hw => by rw [decodeS, hw]; rfl)).readsTo
  | spopc _ _ => exact (reads_sclz decode32_S h (by decide) (fun w hw => by rw [decodeS, hw]; rfl)).readsTo
  | ssext _ _ _ => exact (reads_sadd decode32_S h (by decide) (fun w hw => by rw [decodeS, hw]; rfl)).readsTo
  | szext _ _ _ => exact (reads_sadd decode32_S h (by decide) (fun w hw => by rw [decodeS, hw]; rfl)).readsTo
  | sli _ _ => exact (reads_sli decode32_S h (by decide) (fun w hw => by rw [decodeS, hw]; rfl)).readsTo
  | slk1 _ _ => exact (reads_sli decode32_S h (by decide) (fun w hw => by rw [decodeS, hw]; rfl)).readsTo
  | slk2 _ _ => exact (reads_sli decode32_S h (by decide) (fun w hw => by rw [decodeS, hw]; rfl)).readsTo
  | slk3 _ _ => exact (reads_sli decode32_S h (by decide) (fun w hw => by rw [decodeS, hw]; rfl)).readsTo
  | srsr _ _ => exact (reads_srsr decode32_S h (by decide) (fun w hw => by rw [decodeS, hw]; rfl)).readsTo
  | swsr _ _ => exact (reads_swsr decode32_S h (by decide) (fun w hw => by rw [decodeS, hw]; rfl)).readsTo
  | sadr _ _ _ => exact (reads_sadd decode32_S h (by decide) (fun w hw => by rw [decodeS, hw]; rfl)).readsTo
  | bra _ => exact (reads_bra decode32_B (by decide) (fun w hw => by rw [decodeB, hw]; rfl)).readsTo
  | bz _ _ => exact (reads_sli decode32_B h (by decide) (fun w hw => by rw [decodeB, hw]; rfl)).readsTo
  | bnz _ _ => exact (reads_sli decode32_B h (by decide) (fun w hw => by rw [decodeB, hw]; rfl)).readsTo
  | bneg _ _ => exact (reads_sli decode32_B h (by decide) (fun w hw => by rw [decodeB, hw]; rfl)).readsTo
  | bnneg _ _ => exact (reads_sli decode32_B h (by decide) (fun w hw => by rw [decodeB, hw]; rfl)).readsTo
  | ball _ _ => exact (reads_sli decode32_B h (by decide) (fun w hw => by rw [decodeB, hw]; rfl)).readsTo
  | bany _ _ => exact (reads_sli decode32_B h (by decide) (fun w hw => by rw [decodeB, hw]; rfl)).readsTo
  | bnone _ _ => exact (reads_sli decode32_B h (by decide) (fun w hw => by rw [decodeB, hw]; rfl)).readsTo
  | loop _ _ => exact (reads_sli decode32_B h (by decide) (fun w hw => by rw [decodeB, hw]; rfl)).readsTo
  | call _ => exact (reads_bra decode32_B (by decide) (fun w hw => by rw [decodeB, hw]; rfl)).readsTo
  | callr _ => exact (reads_callr decode32_B h (by decide) (fun w hw => by rw [decodeB, hw]; rfl)).readsTo
  | jmpr _ => exact (reads_callr decode32_B h (by decide) (fun w hw => by rw [decodeB, hw]; rfl)).readsTo
  | split _ _ => exact (reads_sli decode32_B h (by decide) (fun w hw => by rw [decodeB, hw]; rfl)).readsTo
  | merge _ => exact (reads_merge decode32_B h (by decide) (fun w hw => by rw [decodeB, hw]; rfl)).readsTo
  | cont _ _ => exact (reads_sli decode32_B h (by decide) (fun w hw => by rw [decodeB, hw]; rfl)).readsTo
  | trap _ => exact (reads_merge decode32_B h (by decide) (fun w hw => by rw [decodeB, hw]; rfl)).readsTo
  | sleep _ => exact (reads_callr decode32_B h (by decide) (fun w hw => by rw [decodeB, hw]; rfl)).readsTo
  | vadd _ _ _ => exact (reads_vadd decode32_V h (by decide) (fun w hw => by rw [decodeV, hw]; rfl)).readsTo
  | vsub _ _ _ => exact (reads_vadd decode32_V h (by decide) (fun w hw => by rw [decodeV, hw]; rfl)).readsTo
  | vmullo _ _ _ => exact (reads_vadd decode32_V h (by decide) (fun w hw => by rw [decodeV, hw]; rfl)).readsTo
  | vmulhi _ _ _ => exact (reads_vadd decode32_V h (by decide) (fun w hw => by rw [decodeV, hw]; rfl)).readsTo
  | vmulhin _ _ _ => exact (reads_vadd decode32_V h (by decide) (fun w hw => by rw [decodeV, hw]; rfl)).readsTo
  | vmad _ _ _ => exact (reads_vadd decode32_V h (by decide) (fun w hw => by rw [decodeV, hw]; rfl)).readsTo
  | vand _ _ _ => exact (reads_vadd decode32_V h (by decide) (fun w hw => by rw [decodeV, hw]; rfl)).readsTo
  | vor _ _ _ => exact (reads_vadd decode32_V h (by decide) (fun w hw => by rw [decodeV, hw]; rfl)).readsTo
  | vxor _ _ _ => exact (reads_vadd decode32_V h (by decide) (fun w hw => by rw [decodeV, hw]; rfl)).readsTo
  | vandn _ _ _ => exact (reads_vadd decode32_V h (by decide) (fun w hw => by rw [decodeV, hw]; rfl)).readsTo
  | vshl _ _ _ => exact (reads_vadd decode32_V h (by decide) (fun w hw => by rw [decodeV, hw]; rfl)).readsTo
  | vshr _ _ _ => exact (reads_vadd decode32_V h (by decide) (fun w hw => by rw [decodeV, hw]; rfl)).readsTo
  | vsar _ _ _ => exact (reads_vadd decode32_V h (by decide) (fun w hw => by rw [decodeV, hw]; rfl)).readsTo
  | vmin _ _ _ => exact (reads_vadd decode32_V h (by decide) (fun w hw => by rw [decodeV, hw]; rfl)).readsTo
  | vmax _ _ _ => exact (reads_vadd decode32_V h (by decide) (fun w hw => by rw [decodeV, hw]; rfl)).readsTo
  | vminn _ _ _ => exact (reads_vadd decode32_V h (by decide) (fun w hw => by rw [decodeV, hw]; rfl)).readsTo
  | vmaxn _ _ _ => exact (reads_vadd decode32_V h (by decide) (fun w hw => by rw [decodeV, hw]; rfl)).readsTo
  | vabs _ _ => exact (reads_vabs decode32_V h (by decide) (fun w hw => by rw [decodeV, hw]; rfl)).readsTo
  | vclz _ _ => exact (reads_vabs decode32_V h (by decide) (fun w hw => by rw [decodeV, hw]; rfl)).readsTo
  | vpopc _ _ => exact (reads_vabs decode32_V h (by decide) (fun w hw => by rw [decodeV, hw]; rfl)).readsTo
  | vadd64 _ _ _ => exact (reads_vadd decode32_V h (by decide) (fun w hw => by rw [decodeV, hw]; rfl)).readsTo
  | vsub64 _ _ _ => exact (reads_vadd decode32_V h (by decide) (fun w hw => by rw [decodeV, hw]; rfl)).readsTo
  | vaddsat _ _ _ => exact (reads_vadd decode32_V h (by decide) (fun w hw => by rw [decodeV, hw]; rfl)).readsTo
  | vdp4 _ _ _ => exact (reads_vadd decode32_V h (by decide) (fun w hw => by rw [decodeV, hw]; rfl)).readsTo
  | vdp4n _ _ _ => exact (reads_vadd decode32_V h (by decide) (fun w hw => by rw [decodeV, hw]; rfl)).readsTo
  | vceq _ _ _ _ => exact (reads_vceq decode32_V h (by decide) (fun w hw => by rw [decodeV, hw]; rfl)).readsTo
  | vcne _ _ _ _ => exact (reads_vceq decode32_V h (by decide) (fun w hw => by rw [decodeV, hw]; rfl)).readsTo
  | vclt _ _ _ _ => exact (reads_vceq decode32_V h (by decide) (fun w hw => by rw [decodeV, hw]; rfl)).readsTo
  | vcle _ _ _ _ => exact (reads_vceq decode32_V h (by decide) (fun w hw => by rw [decodeV, hw]; rfl)).readsTo
  | vcltn _ _ _ _ => exact (reads_vceq decode32_V h (by decide) (fun w hw => by rw [decodeV, hw]; rfl)).readsTo
  | vclen _ _ _ _ => exact (reads_vceq decode32_V h (by decide) (fun w hw => by rw [decodeV, hw]; rfl)).readsTo
  | fceq _ _ _ _ => exact (reads_vceq decode32_V h (by decide) (fun w hw => by rw [decodeV, hw]; rfl)).readsTo
  | fcne _ _ _ _ => exact (reads_vceq decode32_V h (by decide) (fun w hw => by rw [decodeV, hw]; rfl)).readsTo
  | fclt _ _ _ _ => exact (reads_vceq decode32_V h (by decide) (fun w hw => by rw [decodeV, hw]; rfl)).readsTo
  | fcle _ _ _ _ => exact (reads_vceq decode32_V h (by decide) (fun w hw => by rw [decodeV, hw]; rfl)).readsTo
  | fcun _ _ _ _ => exact (reads_vceq decode32_V h (by decide) (fun w hw => by rw [decodeV, hw]; rfl)).readsTo
  | fadd _ _ _ => exact (reads_vadd decode32_V h (by decide) (fun w hw => by rw [decodeV, hw]; rfl)).readsTo
  | fsub _ _ _ => exact (reads_vadd decode32_V h (by decide) (fun w hw => by rw [decodeV, hw]; rfl)).readsTo
  | fmul _ _ _ => exact (reads_vadd decode32_V h (by decide) (fun w hw => by rw [decodeV, hw]; rfl)).readsTo
  | ffma _ _ _ => exact (reads_vadd decode32_V h (by decide) (fun w hw => by rw [decodeV, hw]; rfl)).readsTo
  | ffms _ _ _ => exact (reads_vadd decode32_V h (by decide) (fun w hw => by rw [decodeV, hw]; rfl)).readsTo
  | fnma _ _ _ => exact (reads_vadd decode32_V h (by decide) (fun w hw => by rw [decodeV, hw]; rfl)).readsTo
  | fmin _ _ _ => exact (reads_vadd decode32_V h (by decide) (fun w hw => by rw [decodeV, hw]; rfl)).readsTo
  | fmax _ _ _ => exact (reads_vadd decode32_V h (by decide) (fun w hw => by rw [decodeV, hw]; rfl)).readsTo
  | fabs _ _ => exact (reads_vabs decode32_V h (by decide) (fun w hw => by rw [decodeV, hw]; rfl)).readsTo
  | fneg _ _ => exact (reads_vabs decode32_V h (by decide) (fun w hw => by rw [decodeV, hw]; rfl)).readsTo
  | fdiv _ _ _ => exact (reads_vadd decode32_V h (by decide) (fun w hw => by rw [decodeV, hw]; rfl)).readsTo
  | fsqrt _ _ => exact (reads_vabs decode32_V h (by decide) (fun w hw => by rw [decodeV, hw]; rfl)).readsTo
  | frcp _ _ => exact (reads_vabs decode32_V h (by decide) (fun w hw => by rw [decodeV, hw]; rfl)).readsTo
  | frsq _ _ => exact (reads_vabs decode32_V h (by decide) (fun w hw => by rw [decodeV, hw]; rfl)).readsTo
  | fexp2c _ _ => exact (reads_vabs decode32_V h (by decide) (fun w hw => by rw [decodeV, hw]; rfl)).readsTo
  | frint _ _ => exact (reads_vabs decode32_V h (by decide) (fun w hw => by rw [decodeV, hw]; rfl)).readsTo
  | fscale _ _ _ => exact (reads_vadd decode32_V h (by decide) (fun w hw => by rw [decodeV, hw]; rfl)).readsTo
  | hadd2 _ _ _ => exact (reads_vadd decode32_V h (by decide) (fun w hw => by rw [decodeV, hw]; rfl)).readsTo
  | hmul2 _ _ _ => exact (reads_vadd decode32_V h (by decide) (fun w hw => by rw [decodeV, hw]; rfl)).readsTo
  | hfma2 _ _ _ => exact (reads_vadd decode32_V h (by decide) (fun w hw => by rw [decodeV, hw]; rfl)).readsTo
  | badd2 _ _ _ => exact (reads_vadd decode32_V h (by decide) (fun w hw => by rw [decodeV, hw]; rfl)).readsTo
  | bmul2 _ _ _ => exact (reads_vadd decode32_V h (by decide) (fun w hw => by rw [decodeV, hw]; rfl)).readsTo
  | bfma2 _ _ _ => exact (reads_vadd decode32_V h (by decide) (fun w hw => by rw [decodeV, hw]; rfl)).readsTo
  | vcvt _ _ _ => exact (reads_vcvt decode32_V h (by decide) (fun w hw => by rw [decodeV, hw]; rfl)).readsTo
  | vpke4 _ _ _ => exact (reads_vadd decode32_V h (by decide) (fun w hw => by rw [decodeV, hw]; rfl)).readsTo
  | vpke5 _ _ _ => exact (reads_vadd decode32_V h (by decide) (fun w hw => by rw [decodeV, hw]; rfl)).readsTo
  | vshfl _ _ _ => exact (reads_vadd decode32_V h (by decide) (fun w hw => by rw [decodeV, hw]; rfl)).readsTo
  | vshflx _ _ _ => exact (reads_vadd decode32_V h (by decide) (fun w hw => by rw [decodeV, hw]; rfl)).readsTo
  | vshflu _ _ _ => exact (reads_vadd decode32_V h (by decide) (fun w hw => by rw [decodeV, hw]; rfl)).readsTo
  | vshfld _ _ _ => exact (reads_vadd decode32_V h (by decide) (fun w hw => by rw [decodeV, hw]; rfl)).readsTo
  | vpfxadd _ _ => exact (reads_vabs decode32_V h (by decide) (fun w hw => by rw [decodeV, hw]; rfl)).readsTo
  | vpfxmax _ _ => exact (reads_vabs decode32_V h (by decide) (fun w hw => by rw [decodeV, hw]; rfl)).readsTo
  | vredadd _ _ => exact (reads_vabs decode32_V h (by decide) (fun w hw => by rw [decodeV, hw]; rfl)).readsTo
  | vredfadd _ _ => exact (reads_vabs decode32_V h (by decide) (fun w hw => by rw [decodeV, hw]; rfl)).readsTo
  | vredmax _ _ => exact (reads_vabs decode32_V h (by decide) (fun w hw => by rw [decodeV, hw]; rfl)).readsTo
  | vballot _ _ => exact (reads_vballot decode32_V h (by decide) (fun w hw => by rw [decodeV, hw]; rfl)).readsTo
  | vget _ _ _ => exact (reads_vadd decode32_V h (by decide) (fun w hw => by rw [decodeV, hw]; rfl)).readsTo
  | vsetl _ _ _ => exact (reads_vadd decode32_V h (by decide) (fun w hw => by rw [decodeV, hw]; rfl)).readsTo
  | vlid _ => exact (reads_vlid decode32_V h (by decide) (fun w hw => by rw [decodeV, hw]; rfl)).readsTo
  | vsr _ _ => exact (reads_vabs decode32_V h (by decide) (fun w hw => by rw [decodeV, hw]; rfl)).readsTo
  | vmov _ _ => exact (reads_vabs decode32_V h (by decide) (fun w hw => by rw [decodeV, hw]; rfl)).readsTo
  | vmovo _ _ => exact (reads_vmovo decode32_V h (by decide) (fun w hw => by rw [decodeV, hw]; rfl)).readsTo
  | pand _ _ _ => exact (reads_pand decode32_V h (by decide) (fun w hw => by rw [decodeV, hw]; rfl)).readsTo
  | por _ _ _ => exact (reads_pand decode32_V h (by decide) (fun w hw => by rw [decodeV, hw]; rfl)).readsTo
  | pxor _ _ _ => exact (reads_pand decode32_V h (by decide) (fun w hw => by rw [decodeV, hw]; rfl)).readsTo
  | pandn _ _ _ => exact (reads_pand decode32_V h (by decide) (fun w hw => by rw [decodeV, hw]; rfl)).readsTo
  | pnot _ _ => exact (reads_pnot decode32_V h (by decide) (fun w hw => by rw [decodeV, hw]; rfl)).readsTo
  | pset _ _ => exact (reads_pset decode32_V h (by decide) (fun w hw => by rw [decodeV, hw]; rfl)).readsTo
  | ppopc _ _ => exact (reads_vballot decode32_V h (by decide) (fun w hw => by rw [decodeV, hw]; rfl)).readsTo
  | pfirst _ _ => exact (reads_pnot decode32_V h (by decide) (fun w hw => by rw [decodeV, hw]; rfl)).readsTo
  | ldv8n _ _ _ _ => exact (reads_ldv8n decode32_M h (by decide) (fun w hw => by rw [decodeM, hw]; rfl)).readsTo
  | ldv8i _ _ _ _ => exact (reads_ldv8n decode32_M h (by decide) (fun w hw => by rw [decodeM, hw]; rfl)).readsTo
  | ldv16n _ _ _ _ => exact (reads_ldv8n decode32_M h (by decide) (fun w hw => by rw [decodeM, hw]; rfl)).readsTo
  | ldv16i _ _ _ _ => exact (reads_ldv8n decode32_M h (by decide) (fun w hw => by rw [decodeM, hw]; rfl)).readsTo
  | ldv32 _ _ _ _ => exact (reads_ldv8n decode32_M h (by decide) (fun w hw => by rw [decodeM, hw]; rfl)).readsTo
  | ldv64 _ _ _ _ => exact (reads_ldv8n decode32_M h (by decide) (fun w hw => by rw [decodeM, hw]; rfl)).readsTo
  | ldv128 _ _ _ _ => exact (reads_ldv8n decode32_M h (by decide) (fun w hw => by rw [decodeM, hw]; rfl)).readsTo
  | stv8 _ _ _ _ => exact (reads_ldv8n decode32_M h (by decide) (fun w hw => by rw [decodeM, hw]; rfl)).readsTo
  | stv16 _ _ _ _ => exact (reads_ldv8n decode32_M h (by decide) (fun w hw => by rw [decodeM, hw]; rfl)).readsTo
  | stv32 _ _ _ _ => exact (reads_ldv8n decode32_M h (by decide) (fun w hw => by rw [decodeM, hw]; rfl)).readsTo
  | stv64 _ _ _ _ => exact (reads_ldv8n decode32_M h (by decide) (fun w hw => by rw [decodeM, hw]; rfl)).readsTo
  | stv128 _ _ _ _ => exact (reads_ldv8n decode32_M h (by decide) (fun w hw => by rw [decodeM, hw]; rfl)).readsTo
  | lds32 _ _ _ _ => exact (reads_lds32 decode32_M h (by decide) (fun w hw => by rw [decodeM, hw]; rfl)).readsTo
  | lds64 _ _ _ _ => exact (reads_lds32 decode32_M h (by decide) (fun w hw => by rw [decodeM, hw]; rfl)).readsTo
  | sts32 _ _ _ _ => exact (reads_lds32 decode32_M h (by decide) (fun w hw => by rw [decodeM, hw]; rfl)).readsTo
  | sts64 _ _ _ _ => exact (reads_lds32 decode32_M h (by decide) (fun w hw => by rw [decodeM, hw]; rfl)).readsTo
  | ldc _ _ _ => exact (reads_ldc decode32_M h (by decide) (fun w hw => by rw [decodeM, hw]; rfl)).readsTo
  | zline _ _ => exact (reads_zline decode32_M h (by decide) (fun w hw => by rw [decodeM, hw]; rfl)).readsTo
  | fence _ => exact (reads_fence decode32_M h (by decide) (fun w hw => by rw [decodeM, hw]; rfl)).readsTo
  | pref _ _ => exact (reads_zline decode32_M h (by decide) (fun w hw => by rw [decodeM, hw]; rfl)).readsTo
  | barinit _ _ _ _ => exact (reads_lds32 decode32_M h (by decide) (fun w hw => by rw [decodeM, hw]; rfl)).readsTo
  | barar _ _ _ _ => exact (reads_lds32 decode32_M h (by decide) (fun w hw => by rw [decodeM, hw]; rfl)).readsTo
  | barwait _ _ _ _ => exact (reads_lds32 decode32_M h (by decide) (fun w hw => by rw [decodeM, hw]; rfl)).readsTo
  | barsync _ _ _ _ => exact (reads_lds32 decode32_M h (by decide) (fun w hw => by rw [decodeM, hw]; rfl)).readsTo
  | bardrop _ _ _ _ => exact (reads_lds32 decode32_M h (by decide) (fun w hw => by rw [decodeM, hw]; rfl)).readsTo
  | aadd _ _ _ _ => exact (reads_ldv8n decode32_M h (by decide) (fun w hw => by rw [decodeM, hw]; rfl)).readsTo
  | aand _ _ _ _ => exact (reads_ldv8n decode32_M h (by decide) (fun w hw => by rw [decodeM, hw]; rfl)).readsTo
  | aor _ _ _ _ => exact (reads_ldv8n decode32_M h (by decide) (fun w hw => by rw [decodeM, hw]; rfl)).readsTo
  | axor _ _ _ _ => exact (reads_ldv8n decode32_M h (by decide) (fun w hw => by rw [decodeM, hw]; rfl)).readsTo
  | amin _ _ _ _ => exact (reads_ldv8n decode32_M h (by decide) (fun w hw => by rw [decodeM, hw]; rfl)).readsTo
  | amax _ _ _ _ => exact (reads_ldv8n decode32_M h (by decide) (fun w hw => by rw [decodeM, hw]; rfl)).readsTo
  | aminn _ _ _ _ => exact (reads_ldv8n decode32_M h (by decide) (fun w hw => by rw [decodeM, hw]; rfl)).readsTo
  | amaxn _ _ _ _ => exact (reads_ldv8n decode32_M h (by decide) (fun w hw => by rw [decodeM, hw]; rfl)).readsTo
  | axchg _ _ _ _ => exact (reads_ldv8n decode32_M h (by decide) (fun w hw => by rw [decodeM, hw]; rfl)).readsTo
  | acas _ _ _ _ => exact (reads_ldv8n decode32_M h (by decide) (fun w hw => by rw [decodeM, hw]; rfl)).readsTo
  | afadd _ _ _ _ => exact (reads_ldv8n decode32_M h (by decide) (fun w hw => by rw [decodeM, hw]; rfl)).readsTo
  | abinc _ _ _ _ => exact (reads_ldv8n decode32_M h (by decide) (fun w hw => by rw [decodeM, hw]; rfl)).readsTo
  | awinc _ _ _ _ => exact (reads_ldv8n decode32_M h (by decide) (fun w hw => by rw [decodeM, hw]; rfl)).readsTo
  | adecp _ _ _ _ => exact (reads_ldv8n decode32_M h (by decide) (fun w hw => by rw [decodeM, hw]; rfl)).readsTo
  | aaddl _ _ _ _ => exact (reads_ldv8n decode32_M h (by decide) (fun w hw => by rw [decodeM, hw]; rfl)).readsTo
  | aadd64 _ _ _ _ => exact (reads_ldv8n decode32_M h (by decide) (fun w hw => by rw [decodeM, hw]; rfl)).readsTo
  | axchg64 _ _ _ _ => exact (reads_ldv8n decode32_M h (by decide) (fun w hw => by rw [decodeM, hw]; rfl)).readsTo
  | acas64 _ _ _ _ => exact (reads_ldv8n decode32_M h (by decide) (fun w hw => by rw [decodeM, hw]; rfl)).readsTo
  | amin64n _ _ _ _ => exact (reads_ldv8n decode32_M h (by decide) (fun w hw => by rw [decodeM, hw]; rfl)).readsTo
  | mma _ _ _ _ _ => exact (reads_mma decode32_X h (by decide) (fun w hw => by rw [decodeX, hw]; rfl)).readsTo
  | mmaz _ _ _ _ _ => exact (reads_mma decode32_X h (by decide) (fun w hw => by rw [decodeX, hw]; rfl)).readsTo
  | mclaim _ _ _ => exact (reads_mclaim decode32_X h (by decide) (fun w hw => by rw [decodeX, hw]; rfl)).readsTo
  | mrel _ _ _ => exact (reads_mclaim decode32_X h (by decide) (fun w hw => by rw [decodeX, hw]; rfl)).readsTo
  | mldo _ _ _ => exact (reads_mldo decode32_X h (by decide) (fun w hw => by rw [decodeX, hw]; rfl)).readsTo
  | msta _ _ _ _ => exact (reads_msta decode32_X h (by decide) (fun w hw => by rw [decodeX, hw]; rfl)).readsTo
  | mzacc _ _ => exact (reads_mzacc decode32_X h (by decide) (fun w hw => by rw [decodeX, hw]; rfl)).readsTo
  | mbatonQuery _ => exact (reads_mbatonQuery decode32_X h (by decide) (fun w h7 hw => by rw [decodeX, h7]; simp only; rw [decodeMbaton, hw]; rfl)).readsTo
  | qmv _ _ _ _ _ => exact (reads_qmv decode32_X h (by decide) (fun w hw => by rw [decodeX, hw]; rfl)).readsTo
  | qmva _ _ _ _ _ => exact (reads_qmv decode32_X h (by decide) (fun w hw => by rw [decodeX, hw]; rfl)).readsTo
  | qmvb _ _ _ _ _ => exact (reads_qmv decode32_X h (by decide) (fun w hw => by rw [decodeX, hw]; rfl)).readsTo
  | tdset _ _ => exact (reads_tdset decode32_X h (by decide) (fun w hw => by rw [decodeX, hw]; rfl)).readsTo
  | tdget _ _ => exact (reads_tdset decode32_X h (by decide) (fun w hw => by rw [decodeX, hw]; rfl)).readsTo
  | attn _ _ _ _ => exact (reads_attn decode32_X h (by decide) (fun w hw => by rw [decodeX, hw]; rfl)).readsTo
  | attnf _ _ _ => exact (reads_attnf decode32_X h (by decide) (fun w hw => by rw [decodeX, hw]; rfl)).readsTo
  | attnz _ => exact (reads_attnz decode32_X h (by decide) (fun w hw => by rw [decodeX, hw]; rfl)).readsTo
  | mstat _ => exact (reads_mstat decode32_X h (by decide) (fun w hw => by rw [decodeX, hw]; rfl)).readsTo
  | cpy _ _ _ _ => exact (reads_cpy decode32_A h (by decide) (fun w hw => by rw [decodeA, hw]; rfl)).readsTo
  | cpywp _ _ => exact (reads_cpywp decode32_A h (by decide) (fun w hw => by rw [decodeA, hw]; rfl)).readsTo
  | blkcpy _ _ _ _ => exact (reads_cpy decode32_A h (by decide) (fun w hw => by rw [decodeA, hw]; rfl)).readsTo
  | gatherf _ _ _ => exact (reads_mldo decode32_A h (by decide) (fun w hw => by rw [decodeA, hw]; rfl)).readsTo
  | scatterf _ _ _ => exact (reads_mldo decode32_A h (by decide) (fun w hw => by rw [decodeA, hw]; rfl)).readsTo
  | launch _ _ _ _ => exact (reads_cpy decode32_A h (by decide) (fun w hw => by rw [decodeA, hw]; rfl)).readsTo
  | lwait _ => exact (reads_lwait decode32_A h (by decide) (fun w hw => by rw [decodeA, hw]; rfl)).readsTo
  | spawn _ _ _ _ => exact (reads_cpy decode32_A h (by decide) (fun w hw => by rw [decodeA, hw]; rfl)).readsTo
  | join _ => exact (reads_join decode32_A h (by decide) (fun w hw => by rw [decodeA, hw]; rfl)).readsTo
  | reorder _ _ _ _ _ => exact (reads_reorder decode32_A h (by decide) (fun w hw => by rw [decodeA, hw]; rfl)).readsTo
  | mreg _ _ _ _ => exact (reads_cpy decode32_A h (by decide) (fun w hw => by rw [decodeA, hw]; rfl)).readsTo
  | mreq _ _ _ => exact (reads_mldo decode32_A h (by decide) (fun w hw => by rw [decodeA, hw]; rfl)).readsTo
  | mreply _ => exact (reads_lwait decode32_A h (by decide) (fun w hw => by rw [decodeA, hw]; rfl)).readsTo
  | bgrant _ _ _ _ => exact (reads_cpy decode32_A h (by decide) (fun w hw => by rw [decodeA, hw]; rfl)).readsTo
  | chsend _ _ => exact (reads_cpywp decode32_A h (by decide) (fun w hw => by rw [decodeA, hw]; rfl)).readsTo
  | chrecv _ _ => exact (reads_cpywp decode32_A h (by decide) (fun w hw => by rw [decodeA, hw]; rfl)).readsTo
  | exproute _ _ _ => exact (reads_exproute decode32_A h (by decide) (fun w hw => by rw [decodeA, hw]; rfl)).readsTo
  | cfill _ _ _ => exact (reads_cfill decode32_A h (by decide) (fun w hw => by rw [decodeA, hw]; rfl)).readsTo
  | hread _ _ => exact (reads_cpywp decode32_Z h (by decide) (fun w hw => by rw [decodeZ, hw]; rfl)).readsTo
  | hwrite _ _ => exact (reads_cpywp decode32_Z h (by decide) (fun w hw => by rw [decodeZ, hw]; rfl)).readsTo
  | hpatch _ => exact (reads_mstat decode32_Z h (by decide) (fun w hw => by rw [decodeZ, hw]; rfl)).readsTo
  | hkill _ => exact (reads_mstat decode32_Z h (by decide) (fun w hw => by rw [decodeZ, hw]; rfl)).readsTo
  | grow _ _ => exact (reads_tdset decode32_Z h (by decide) (fun w hw => by rw [decodeZ, hw]; rfl)).readsTo
  | shrink _ => exact (reads_shrink decode32_Z h (by decide) (fun w hw => by rw [decodeZ, hw]; rfl)).readsTo
  | evsel _ _ => exact (reads_evsel decode32_Z h (by decide) (fun w hw => by rw [decodeZ, hw]; rfl)).readsTo
  | evrd _ _ => exact (reads_evrd decode32_Z h (by decide) (fun w hw => by rw [decodeZ, hw]; rfl)).readsTo
  | ret => exact (reads_ret decode32_B (by decide) (fun w hw => by rw [decodeB, hw]; rfl)).readsTo
  | yield => exact (reads_ret decode32_B (by decide) (fun w hw => by rw [decodeB, hw]; rfl)).readsTo
  | exit => exact (reads_ret decode32_B (by decide) (fun w hw => by rw [decodeB, hw]; rfl)).readsTo
  | rett => exact (reads_ret decode32_B (by decide) (fun w hw => by rw [decodeB, hw]; rfl)).readsTo
  | vlexit => exact (reads_vlexit decode32_V (by decide) (fun w hw => by rw [decodeV, hw]; rfl)).readsTo
  | stdrain => exact (reads_ret decode32_M (by decide) (fun w hw => by rw [decodeM, hw]; rfl)).readsTo
  | mbatonTake => exact (reads_mbatonTake decode32_X (by decide) (fun w h7 hw => by rw [decodeX, h7]; simp only; rw [decodeMbaton, hw]; rfl)).readsTo
  | mbatonPass => exact (reads_mbatonTake decode32_X (by decide) (fun w h7 hw => by rw [decodeX, h7]; simp only; rw [decodeMbaton, hw]; rfl)).readsTo
  | mdone => exact (reads_ret decode32_A (by decide) (fun w hw => by rw [decodeA, hw]; rfl)).readsTo
  | nop => exact (reads_ret decode32_Z (by decide) (fun w hw => by rw [decodeZ, hw]; rfl)).readsTo
  | brkpt => exact (reads_ret decode32_Z (by decide) (fun w hw => by rw [decodeZ, hw]; rfl)).readsTo
  | hend => exact (reads_ret decode32_Z (by decide) (fun w hw => by rw [decodeZ, hw]; rfl)).readsTo
  | hkillt => exact (reads_ret decode32_Z (by decide) (fun w hw => by rw [decodeZ, hw]; rfl)).readsTo
  | esc e => exact reads_esc e
  | _ => exact absurd rfl hs

/-- Settles O3: the bytes of an instruction hold its word, and the word reads as the instruction. -/
theorem roundTrip : Obligations.RoundTrip := by
  intro i r hs hf
  obtain ⟨d, hd, hi⟩ := readsTo_word i hs hf
  exact ⟨d, decode_bytes hd r, hi⟩

end Sys2Proof

/-! # The state after reset (obligation O4) -/

namespace Sys2Proof.Machine

/-- Settles O4: every map of the state after reset is empty, so each entry reads its default. -/
theorem resetState : Obligations.ResetState := by
  refine ⟨rfl, rfl, rfl, rfl, rfl, rfl, fun _ => rfl, fun _ => ⟨rfl, rfl, fun _ => rfl⟩, fun _ => ⟨rfl, rfl, rfl, rfl, rfl, rfl⟩,
    fun b => ?_, rfl, rfl, rfl, rfl, rfl, rfl, rfl, rfl, rfl, rfl, rfl, fun _ => rfl⟩
  cases b <;> exact ⟨rfl, rfl, rfl, rfl⟩

end Sys2Proof.Machine

/-! # What reaches the part from outside (obligation O60) -/

namespace Sys2Proof.Machine

/-! ## What a record, a recall and a write of single places leave unchanged -/

theorem SMap.look_filter_key {α : Type} (m : SMap α) (f : Nat → Bool) (i : Nat) :
    SMap.look (m.filter (fun e => f e.1)) i = if f i = true then m.look i else none := by
  induction m with
  | nil => simp [SMap.look]
  | cons e r ih =>
    obtain ⟨k, w⟩ := e
    by_cases hk : k = i
    · subst hk
      by_cases hf : f k = true <;> simp [SMap.look, hf, ih]
    · by_cases hf : f k = true <;> simp [SMap.look, hf, hk, ih]

theorem State.writeQuads_keeps {β : Type} (v : State → β) (h : ∀ s b a n x, v (State.store b a n x s) = v s) (a : Nat) (ws : List DWord)
    (s : State) : v (s.writeQuads a ws) = v s := by
  induction ws generalizing a s with
  | nil => rfl
  | cons w r ih => exact (ih _ _).trans (h _ _ _ _ _)

/-- A record changes memory and the record queues; every view that these leave alone it leaves alone. -/
theorem State.record_keeps {β : Type} (v : State → β) (h : ∀ s b a n x, v (State.store b a n x s) = v s)
    (hq : ∀ s fault f, v (State.modRecq fault f s) = v s) (fault : Bool) (ws : List DWord) (s : State) : v (s.record fault ws) = v s := by
  unfold State.record State.ringPut
  simp only
  split
  · exact (hq _ _ _).trans (State.writeQuads_keeps v h _ _ _)
  · split <;> exact hq _ _ _

theorem State.touchLine_dies (s : State) (b : Option CoreRef) (l : Nat) : (s.touchLine b l).dies = s.dies := by
  unfold State.touchLine State.recallLine State.zeroBack State.zeroLine
  simp only
  split
  · split <;> rfl
  · rfl

theorem State.touchLine_umberNext (s : State) (b : Option CoreRef) (l : Nat) : (s.touchLine b l).umberNext = s.umberNext := by
  unfold State.touchLine State.recallLine State.zeroBack State.zeroLine
  simp only
  split
  · split <;> rfl
  · rfl

theorem State.store_dies (s : State) (b : Option CoreRef) (a n x : Nat) : (s.store b a n x).dies = s.dies :=
  State.store_keeps State.dies (fun _ _ _ => rfl) (fun _ _ => rfl) State.touchLine_dies s b a n x

theorem State.store_umberNext (s : State) (b : Option CoreRef) (a n x : Nat) : (s.store b a n x).umberNext = s.umberNext :=
  State.store_keeps State.umberNext (fun _ _ _ => rfl) (fun _ _ => rfl) State.touchLine_umberNext s b a n x

@[simp] theorem State.record_groups (fault : Bool) (ws : List DWord) (s : State) : (s.record fault ws).groups = s.groups :=
  State.record_keeps State.groups (fun s => State.store_groups s) (fun _ fault _ => by cases fault <;> rfl) fault ws s
@[simp] theorem State.record_dies (fault : Bool) (ws : List DWord) (s : State) : (s.record fault ws).dies = s.dies :=
  State.record_keeps State.dies State.store_dies (fun _ fault _ => by cases fault <;> rfl) fault ws s
@[simp] theorem State.record_umberNext (fault : Bool) (ws : List DWord) (s : State) : (s.record fault ws).umberNext = s.umberNext :=
  State.record_keeps State.umberNext State.store_umberNext (fun _ fault _ => by cases fault <;> rfl) fault ws s
@[simp] theorem State.record_boot (fault : Bool) (ws : List DWord) (s : State) : (s.record fault ws).io.boot = s.io.boot :=
  State.record_keeps (fun s => s.io.boot) (fun s b a n x => by rw [State.store_io]) (fun _ fault _ => by cases fault <;> rfl) fault ws s

@[simp] theorem State.recallPlaces_groups (keep : Option Nat) (ps : List Nat) (s : State) : (s.recallPlaces keep ps).groups = s.groups :=
  foldl_keeps State.groups _ (fun s l => State.recallLine_groups s keep l) _ s
@[simp] theorem State.recallPlaces_io (keep : Option Nat) (ps : List Nat) (s : State) : (s.recallPlaces keep ps).io = s.io :=
  foldl_keeps State.io _ (fun s l => State.recallLine_io s keep l) _ s

theorem State.recallLine_atomicLines (s : State) (line : Nat) :
    (s.recallLine none line).atomicLines = s.atomicLines.map (fun e => (e.1, e.2.filter (fun x => x != line))) := by
  unfold State.recallLine State.zeroBack State.zeroLine
  simp only
  split
  · split <;> simp
  · simp

/-- Once lines have been recalled for every unit, no unit holds one of them. -/
theorem State.foldl_recallLine_atomicLines (lines : List Nat) (s : State) (e : Nat × List Nat) (l : Nat)
    (he : e ∈ (lines.foldl (fun s l => s.recallLine none l) s).atomicLines) (hl : l ∈ lines ∨ ∀ e ∈ s.atomicLines, l ∉ e.2) : l ∉ e.2 := by
  induction lines generalizing s with
  | nil => exact hl.resolve_left (by simp) e he
  | cons a r ih =>
    refine ih _ he ?_
    by_cases hr : l ∈ r
    · exact .inl hr
    · refine .inr (fun x hx => ?_)
      rw [State.recallLine_atomicLines] at hx
      obtain ⟨y, hy, rfl⟩ := List.mem_map.mp hx
      rcases hl with hl | hl
      · have : l = a := (List.mem_cons.mp hl).resolve_right hr
        simp [this]
      · simp only [List.mem_filter, not_and]
        exact fun h => absurd h (hl y hy)

@[simp] theorem State.writePlaces_groups (ps : List Nat) (bs : List Byte) (s : State) : (s.writePlaces ps bs).groups = s.groups :=
  foldl_keeps State.groups _ (fun s _ => State.store_groups s _ _ _ _) _ s
@[simp] theorem State.writePlaces_io (ps : List Nat) (bs : List Byte) (s : State) : (s.writePlaces ps bs).io = s.io :=
  foldl_keeps State.io _ (fun s _ => State.store_io s _ _ _ _) _ s

theorem State.byte_store_one (s : State) (a p : Nat) (b : Byte) : (s.store none a 1 b.toNat).byte p = if p = a then b else s.byte p := by
  rw [State.byte_store]
  by_cases h : p = a
  · subst h
    simp [byteOf]
  · rw [if_neg (by omega), if_neg h]

/-- A byte at none of the places written stands. -/
theorem State.byte_writePlaces_ne {ps : List Nat} {p : Nat} (h : p ∉ ps) (bs : List Byte) (s : State) : (s.writePlaces ps bs).byte p = s.byte p := by
  induction ps generalizing bs s with
  | nil => rfl
  | cons a r ih =>
    cases bs with
    | nil => rfl
    | cons b bs =>
      obtain ⟨ha, hr⟩ := not_or.mp (List.mem_cons.not.mp h)
      exact (ih hr bs _).trans ((State.byte_store_one s a p b).trans (if_neg ha))

/-- The byte at each of several different places written is the byte given for it. -/
theorem State.byte_writePlaces {ps : List Nat} (hd : ps.Nodup) (bs : List Byte) (s : State) {i : Nat} (hp : i < ps.length) (hb : i < bs.length) :
    (s.writePlaces ps bs).byte (ps.getD i 0) = bs.getD i 0 := by
  induction ps generalizing bs s i with
  | nil => exact absurd hp (Nat.not_lt_zero i)
  | cons a r ih =>
    obtain ⟨ha, hr⟩ := List.nodup_cons.mp hd
    cases bs with
    | nil => exact absurd hb (Nat.not_lt_zero i)
    | cons b bs =>
      cases i with
      | zero => exact (State.byte_writePlaces_ne ha bs _).trans ((State.byte_store_one s a a b).trans (if_pos rfl))
      | succ i => exact ih hr bs _ (Nat.lt_of_succ_lt_succ hp) (Nat.lt_of_succ_lt_succ hb)

theorem length_of_mapM {α β : Type} {f : α → Option β} {l : List α} {r : List β} (h : l.mapM f = some r) : r.length = l.length := by
  induction l generalizing r with
  | nil => cases h; rfl
  | cons a l ih =>
    rw [List.mapM_cons] at h
    obtain ⟨b, -, h⟩ := Option.bind_eq_some_iff.mp h
    obtain ⟨r, hr, h⟩ := Option.bind_eq_some_iff.mp h
    cases h
    simp [ih hr]

theorem State.length_peerPlaces {s : State} {asid : Nat} {va : DWord} {n : Nat} {ps : List Nat} {w : Bool}
    (h : s.peerPlaces asid va n = some (ps, w)) : ps.length = n := by
  unfold State.peerPlaces at h
  simp only at h
  split at h
  · cases h
  · rename_i hm
    cases h
    simpa using length_of_mapM hm

/-! ## The arms of the dispatch -/

theorem exec_bootVerify (xs : List FirmwareImage) (s : State) : exec (.bootVerify xs) s = execBootVerify xs s := rfl
theorem exec_umberImageLoad (x : FirmwareImage) (s : State) : exec (.umberImageLoad x) s = execUmberImageLoad x s := rfl
theorem exec_umberReplaceComplete (s : State) : exec .umberReplaceComplete s = execUmberReplaceComplete s := rfl
theorem exec_attestationReport (nonce : List Byte) (s : State) :
    exec (.attestationReport nonce) s = execAttestationReport nonce s := rfl
theorem exec_hostMemoryAccess (a : HostAccess) (s : State) : exec (.hostMemoryAccess a) s = execHostMemoryAccess a s := rfl
theorem exec_peerRequest (r : PeerRequest) (s : State) : exec (.peerRequest r) s = execPeerRequest r s := rfl

/-! ## Reset and boot (00 R6, 27 R399) -/

theorem packageReset_byte (s : State) : ∃ u, exec .packageReset s = .next u ∧ u.groups = [] ∧ u.teams = [] ∧ u.tasks = [] ∧ u.cores = [] ∧
    u.dies = [] ∧ u.io = IoDie.empty ∧ u.mordant = [] ∧ u.channels = [] ∧ u.taskQueues = [] ∧ u.tick = 0 ∧
    ∀ p, u.byte p = if p < 2 ^ 60 then s.byte p else 0 := by
  refine ⟨_, rfl, rfl, rfl, rfl, rfl, rfl, rfl, rfl, rfl, rfl, rfl, fun p => ?_⟩
  show (SMap.look (s.mem.filter (fun c => isPhys c.1)) p).getD 0 = _
  rw [SMap.look_filter_key, isPhys]
  by_cases hp : p < 2 ^ 60
  · rw [if_pos (decide_eq_true hp), if_pos hp, State.byte, SMap.get]
  · rw [if_neg (by simpa using hp), if_neg hp, Option.getD_none]

theorem umberOf_bytes {x : FirmwareImage} {im : UmberImage} (h : umberOf x = some im) : im.bytes = x.bytes := by
  unfold umberOf at h
  simp only at h
  split at h
  · cases h
  · split at h
    · cases h
    · split at h
      · cases h; rfl
      · cases h

/-- Each die of a list takes an image, and the others keep what they have. -/
theorem State.die_foldl_umber (im : UmberImage) (ds : List Nat) (s : State) (d : Nat) :
    (ds.foldl (fun s d => s.modDie d (fun x => { x with umber := some im })) s).die d =
      if d ∈ ds then { s.die d with umber := some im } else s.die d := by
  induction ds generalizing s with
  | nil => rfl
  | cons a r ih =>
    rw [List.foldl_cons, ih, State.die_modDie]
    by_cases hr : d ∈ r <;> by_cases ha : d = a <;> simp [hr, ha]

theorem State.die_fillUmber (im : UmberImage) (s : State) (d : Nat) :
    (s.fillUmber im).die d = if d < 4 then { s.die d with umber := some im } else s.die d := by
  have h : (d ∈ [0, 1, 2, 3]) ↔ d < 4 := by simp; omega
  refine (State.die_foldl_umber im [0, 1, 2, 3] s d).trans ?_
  simp only [h]

@[simp] theorem State.fillUmber_log (im : UmberImage) (s : State) : (s.fillUmber im).io.boot.log = s.io.boot.log ++ [sha256 im.bytes] := rfl
@[simp] theorem State.rejectUmber_boot (x : FirmwareImage) (s : State) : (s.rejectUmber x).io.boot = s.io.boot := State.record_boot _ _ s
@[simp] theorem State.rejectUmber_dies (x : FirmwareImage) (s : State) : (s.rejectUmber x).dies = s.dies := State.record_dies _ _ s
theorem State.rejectUmber_die (x : FirmwareImage) (s : State) (d : Nat) : (s.rejectUmber x).die d = s.die d := by
  rw [State.die, State.rejectUmber_dies, State.die]

/-- One image of a boot: loaded where it is good, rejected where not. -/
def State.bootOne (s : State) (x : FirmwareImage) : State :=
  match goodUmber x with
  | some im => s.fillUmber im
  | none => s.rejectUmber x

theorem State.bootUmber_cons (x : FirmwareImage) (r : List FirmwareImage) (s : State) :
    s.bootUmber (x :: r) = (s.bootOne x).bootUmber r := rfl

theorem goodUmber_isSome (x : FirmwareImage) : (goodUmber x).isSome = (Config.signatureValid x.bytes x.signature && (umberOf x).isSome) := by
  unfold goodUmber imageValid
  cases Config.signatureValid x.bytes x.signature <;> rfl

theorem umberOf_of_goodUmber {x : FirmwareImage} {im : UmberImage} (h : goodUmber x = some im) : umberOf x = some im := by
  unfold goodUmber at h
  split at h
  · exact h
  · cases h

theorem State.bootOne_good {x : FirmwareImage} {im : UmberImage} (h : goodUmber x = some im) (s : State) : s.bootOne x = s.fillUmber im := by
  rw [State.bootOne, h]

theorem State.bootOne_bad {x : FirmwareImage} (h : goodUmber x = none) (s : State) : s.bootOne x = s.rejectUmber x := by
  rw [State.bootOne, h]

/-- What a row of Umber images does at boot: the good ones are measured and the last of them stands in every die. -/
theorem State.bootUmber_spec (r : List FirmwareImage) (s : State) :
    let good := r.filter (fun z => (goodUmber z).isSome)
    (s.bootUmber r).io.boot.failed = s.io.boot.failed ∧
      (s.bootUmber r).io.boot.log = s.io.boot.log ++ good.map (fun z => sha256 z.bytes) ∧
      (∀ z im d, good.getLast? = some z → umberOf z = some im → d < 4 → ((s.bootUmber r).die d).umber = some im) ∧
      (good = [] → (s.bootUmber r).dies = s.dies) ∧ (good = r → (s.bootUmber r).mem = s.mem) := by
  induction r generalizing s with
  | nil => exact ⟨rfl, by simp [State.bootUmber], by simp, fun _ => rfl, fun _ => rfl⟩
  | cons x r ih =>
    obtain ⟨h1, h2, h3, h4, h5⟩ := ih (s.bootOne x)
    rw [State.bootUmber_cons]
    cases hx : goodUmber x with
    | none =>
      simp only [List.filter_cons, hx, Option.isSome_none, Bool.false_eq_true, if_false]
      rw [State.bootOne_bad hx] at h1 h2 h3 h4 h5 ⊢
      refine ⟨by simpa using h1, by simpa using h2, h3, fun h => by simpa using h4 h, fun h => ?_⟩
      have := List.length_filter_le (fun z => (goodUmber z).isSome) r
      rw [h, List.length_cons] at this
      omega
    | some im =>
      simp only [List.filter_cons, hx, Option.isSome_some, if_true]
      rw [State.bootOne_good hx] at h1 h2 h3 h4 h5 ⊢
      have hb := umberOf_bytes (umberOf_of_goodUmber hx)
      refine ⟨h1, ?_, fun z jm d hz hj hd => ?_, fun h => absurd h (List.cons_ne_nil _ _), fun h => ?_⟩
      · rw [h2]
        simp [hb]
      · rw [List.getLast?_cons] at hz
        cases hg : (r.filter (fun z => (goodUmber z).isSome)).getLast? with
        | some y =>
          rw [hg, Option.getD_some] at hz
          exact h3 z jm d (hz ▸ hg) hj hd
        | none =>
          rw [hg, Option.getD_none] at hz
          cases hz
          rw [umberOf_of_goodUmber hx] at hj
          cases hj
          rw [State.die, h4 (List.getLast?_eq_none_iff.mp hg), ← State.die, State.die_fillUmber, if_pos hd]
      · exact (h5 (List.cons.inj h).2).trans (State.fillUmber_mem im s)

theorem bootVerify_stays (s : State) (xs : List FirmwareImage)
    (h : s.io.boot.booted = true ∨ s.io.boot.failed ≠ none ∨ xs.length < 2) : exec (.bootVerify xs) s = .next s := by
  rw [exec_bootVerify]
  unfold execBootVerify
  rcases h with h | h | h
  · rw [if_pos (.inl h)]
  · rw [if_pos (.inr (Option.isSome_iff_ne_none.mpr h))]
  · split
    · rfl
    · split
      · simp only [List.length_cons] at h
        omega
      · rfl

/-- A boot that neither succeeded nor failed before takes its images in turn. -/
theorem bootVerify_runs (s : State) (x y : FirmwareImage) (r : List FirmwareImage) (hb : s.io.boot.booted = false)
    (hf : s.io.boot.failed = none) : exec (.bootVerify (x :: y :: r)) s = .next (
      if imageValid x = false then s.bootFails 0
      else if imageValid y = false then (s.measure x.bytes).bootFails 1
      else
        let s1 := ((s.measure x.bytes).measure y.bytes).bootUmber r
        { s1 with io := { s1.io with boot := { s1.io.boot with booted := true } } }) := by
  rw [exec_bootVerify]
  unfold execBootVerify
  rw [if_neg (by simp [hb, hf])]
  simp

theorem bootVerify_good (s : State) (x y : FirmwareImage) (r : List FirmwareImage) (hb : s.io.boot.booted = false)
    (hf : s.io.boot.failed = none) (hx : Config.signatureValid x.bytes x.signature = true)
    (hy : Config.signatureValid y.bytes y.signature = true) :
    let good := r.filter (fun z => Config.signatureValid z.bytes z.signature && (umberOf z).isSome)
    ∃ u, exec (.bootVerify (x :: y :: r)) s = .next u ∧ u.io.boot.booted = true ∧ u.io.boot.failed = none ∧
      u.io.boot.log = s.io.boot.log ++ (x :: y :: good).map (fun z => sha256 z.bytes) ∧
      (∀ z im d, good.getLast? = some z → umberOf z = some im → d < 4 → (u.die d).umber = some im) ∧
      (good = [] → u.dies = s.dies) ∧ (good = r → u.mem = s.mem) := by
  have hg : (fun z => Config.signatureValid z.bytes z.signature && (umberOf z).isSome) = fun z => (goodUmber z).isSome :=
    funext (fun z => (goodUmber_isSome z).symm)
  rw [hg]
  obtain ⟨h1, h2, h3, h4, h5⟩ := State.bootUmber_spec r ((s.measure x.bytes).measure y.bytes)
  refine ⟨_, bootVerify_runs s x y r hb hf, ?_⟩
  rw [if_neg (by simp [imageValid, hx]), if_neg (by simp [imageValid, hy])]
  refine ⟨rfl, h1.trans hf, ?_, h3, h4, h5⟩
  refine h2.trans ?_
  simp [State.measure]

theorem bootVerify_bad_first (s : State) (x : FirmwareImage) (r : List FirmwareImage) (hb : s.io.boot.booted = false)
    (hf : s.io.boot.failed = none) (hl : 2 ≤ (x :: r).length) (hx : Config.signatureValid x.bytes x.signature = false) :
    ∃ u, exec (.bootVerify (x :: r)) s = .next u ∧ u.io.boot.booted = false ∧ u.io.boot.failed = some 0 ∧ u.mem = s.mem := by
  cases r with
  | nil => simp at hl
  | cons y r =>
    refine ⟨_, bootVerify_runs s x y r hb hf, ?_⟩
    rw [if_pos (by simp [imageValid, hx])]
    exact ⟨hb, rfl, rfl⟩

theorem bootVerify_bad_second (s : State) (x y : FirmwareImage) (r : List FirmwareImage) (hb : s.io.boot.booted = false)
    (hf : s.io.boot.failed = none) (hx : Config.signatureValid x.bytes x.signature = true)
    (hy : Config.signatureValid y.bytes y.signature = false) :
    ∃ u, exec (.bootVerify (x :: y :: r)) s = .next u ∧ u.io.boot.booted = false ∧ u.io.boot.failed = some 1 ∧
      u.io.boot.log = s.io.boot.log ++ [sha256 x.bytes] ∧ u.mem = s.mem := by
  refine ⟨_, bootVerify_runs s x y r hb hf, ?_⟩
  rw [if_neg (by simp [imageValid, hx]), if_pos (by simp [imageValid, hy])]
  exact ⟨hb, rfl, rfl, rfl⟩

/-! ## Umber images and attestation (25 R382, R383, 27 R399) -/

theorem umberImageLoad_good (s : State) (x : FirmwareImage) (im : UmberImage) (hn : s.umberNext = none)
    (hx : Config.signatureValid x.bytes x.signature = true) (him : umberOf x = some im) :
    exec (.umberImageLoad x) s = .next { s with umberNext := some im } := by
  rw [exec_umberImageLoad]
  simp [execUmberImageLoad, goodUmber, imageValid, hn, hx, him]

theorem umberImageLoad_bad (s : State) (x : FirmwareImage) (hn : s.umberNext = none)
    (hx : Config.signatureValid x.bytes x.signature = false ∨ umberOf x = none) :
    ∃ u, exec (.umberImageLoad x) s = .next u ∧ u.umberNext = none ∧ u.dies = s.dies ∧ u.groups = s.groups := by
  have hg : goodUmber x = none := by
    have h := goodUmber_isSome x
    rcases hx with hx | hx <;> simpa [hx] using h
  refine ⟨s.rejectUmber x, ?_, (State.record_umberNext _ _ s).trans hn, State.record_dies _ _ s, State.record_groups _ _ s⟩
  rw [exec_umberImageLoad]
  simp [execUmberImageLoad, hn, hg]

theorem umberReplaceComplete_done (s : State) (im : UmberImage) (hn : s.umberNext = some im) :
    ∃ u, exec .umberReplaceComplete s = .next u ∧ u.umberNext = none ∧ (∀ d, d < 4 → (u.die d).umber = some im) ∧
      (∀ d, (u.die d).expert = (s.die d).expert) ∧ u.mem = s.mem ∧ u.io.boot.log = s.io.boot.log ++ [sha256 im.bytes] := by
  refine ⟨({ s with umberNext := none } : State).fillUmber im, ?_, rfl, fun d hd => ?_, fun d => ?_,
    State.fillUmber_mem im _, State.fillUmber_log im _⟩
  · rw [exec_umberReplaceComplete]
    simp [execUmberReplaceComplete, hn]
  · rw [State.die_fillUmber, if_pos hd]
  · rw [State.die_fillUmber]
    split <;> rfl

theorem attestationReport_signed (s : State) (nonce : List Byte) (h : nonce.length = 32) :
    ∃ u, exec (.attestationReport nonce) s = .next u ∧ u.mem = s.mem ∧ u.groups = s.groups ∧
      u.io.boot.report = some (nonce, Config.serialNumber, s.io.boot.log,
        Config.sign (nonce ++ (List.range 8).map (byteOf Config.serialNumber.toNat) ++ s.io.boot.log.flatten)) := by
  rw [exec_attestationReport]
  simp only [execAttestationReport, if_pos h]
  exact ⟨_, rfl, rfl, rfl, rfl⟩

theorem attestationReport_refused (s : State) (nonce : List Byte) (h : nonce.length ≠ 32) :
    exec (.attestationReport nonce) s = .next s := by
  rw [exec_attestationReport]
  simp [execAttestationReport, h]

/-! ## Hosts and peers (23 R349, 27 R390, R395) -/

theorem isPhys_of_frameExists {a n i : Nat} (h : frameExists a n = true) (hi : i < n) : isPhys (a + i) = true := by
  simp only [frameExists, Bool.or_eq_true, Bool.and_eq_true, decide_eq_true_eq] at h
  simp only [isPhys, decide_eq_true_eq]
  simp only [Config.deviceBytes, Config.slowBase, Config.slowBytes] at h
  omega

/-- A read of memory changes nothing but the lines that the cluster atomic units hold. -/
theorem hostMemoryAccess_read_keeps (s : State) (pa n : Nat) : ∃ u, exec (.hostMemoryAccess (.read pa n)) s = .next u ∧ u.mem = s.mem ∧
    u.groups = s.groups ∧ u.io = s.io ∧
    (frameExists pa n = true → s.placesBusy ((List.range n).map (fun i => pa + i)) = false →
      ∀ k ls i, (k, ls) ∈ u.atomicLines → i < n → (pa + i) / 64 ∉ ls) := by
  refine ⟨_, rfl, ?_⟩
  simp only
  split
  · refine ⟨State.recallPlaces_mem _ _ s, State.recallPlaces_groups _ _ s, State.recallPlaces_io _ _ s, fun hf _ k ls i hk hi => ?_⟩
    refine State.foldl_recallLine_atomicLines _ s (k, ls) _ hk (.inl ?_)
    rw [placeLines, List.mem_eraseDups]
    exact List.mem_map.mpr ⟨pa + i, List.mem_filter.mpr ⟨List.mem_map.mpr ⟨i, List.mem_range.mpr hi, rfl⟩, isPhys_of_frameExists hf hi⟩, rfl⟩
  · rename_i h
    refine ⟨rfl, rfl, rfl, fun hf hb => absurd ⟨hf, by simp [hb]⟩ h⟩

theorem hostMemoryAccess_write_outside (s : State) (pa : Nat) (bs : List Byte) (h : frameExists pa bs.length = false) :
    exec (.hostMemoryAccess (.write pa bs)) s = .next s := by
  rw [exec_hostMemoryAccess]
  simp [execHostMemoryAccess, h]

theorem getD_map_range_add (pa n i : Nat) (h : i < n) : ((List.range n).map (fun i => pa + i)).getD i 0 = pa + i := by
  simp [h]

theorem hostMemoryAccess_write_bytes (s : State) (pa : Nat) (bs : List Byte) (h : frameExists pa bs.length = true)
    (hb : s.placesBusy ((List.range bs.length).map (fun i => pa + i)) = false) :
    ∃ u, exec (.hostMemoryAccess (.write pa bs)) s = .next u ∧ u.groups = s.groups ∧ u.io = s.io ∧
      (∀ i, i < bs.length → u.byte (pa + i) = bs.getD i 0) ∧
      (∀ p, p < pa ∨ pa + bs.length ≤ p → u.byte p = s.byte p) := by
  have hd : ((List.range bs.length).map (fun i => pa + i)).Nodup := List.Nodup.map (fun _ _ h => Nat.add_left_cancel h) List.nodup_range
  refine ⟨s.writePlaces ((List.range bs.length).map (fun i => pa + i)) bs, ?_, State.writePlaces_groups _ _ s, State.writePlaces_io _ _ s,
    fun i hi => ?_, fun p hp => ?_⟩
  · rw [exec_hostMemoryAccess]
    simp [execHostMemoryAccess, h, hb]
  · have := State.byte_writePlaces hd bs s (i := i) (by simpa using hi) hi
    rwa [getD_map_range_add _ _ _ hi] at this
  · refine State.byte_writePlaces_ne (fun hm => ?_) bs s
    obtain ⟨i, hi, rfl⟩ := List.mem_map.mp hm
    have := List.mem_range.mp hi
    omega

theorem peerRequest_read_keeps (s : State) (peer win n : Nat) (va : DWord) : ∃ u, exec (.peerRequest (.read peer win va n)) s = .next u ∧
    u.mem = s.mem ∧ u.groups = s.groups ∧ u.io = s.io := by
  refine ⟨_, rfl, ?_⟩
  simp only
  split
  · exact ⟨rfl, rfl, rfl⟩
  · split
    · split
      · exact ⟨State.recallPlaces_mem _ _ s, State.recallPlaces_groups _ _ s, State.recallPlaces_io _ _ s⟩
      · exact ⟨rfl, rfl, rfl⟩
    · exact ⟨rfl, rfl, rfl⟩

theorem peerRequest_write_noWindow (s : State) (peer win : Nat) (va : DWord) (bs : List Byte) (h : exportWindowOf win = none) :
    exec (.peerRequest (.write peer win va bs)) s = .next s := by
  rw [exec_peerRequest]
  simp [execPeerRequest, h]

theorem peerRequest_atomic_noWindow (s : State) (peer win : Nat) (va : DWord) (code : Nat) (ws : List Word) (h : exportWindowOf win = none) :
    exec (.peerRequest (.atomic peer win va code ws)) s = .next s := by
  rw [exec_peerRequest]
  simp [execPeerRequest, h]

theorem peerRequest_write_outside (s : State) (peer win : Nat) (va : DWord) (bs : List Byte) (w : Config.ExportWindow) (ps : List Nat)
    (hw : exportWindowOf win = some w) (hp : s.peerPlaces w.asid va bs.length = some (ps, true))
    (hi : inWindow w va bs.length true = false) : exec (.peerRequest (.write peer win va bs)) s = .next s := by
  rw [exec_peerRequest]
  simp [execPeerRequest, hw, hp, hi]

theorem peerRequest_write_bytes (s : State) (peer win : Nat) (va : DWord) (bs : List Byte) (w : Config.ExportWindow) (ps : List Nat)
    (hw : exportWindowOf win = some w) (hp : s.peerPlaces w.asid va bs.length = some (ps, true)) (hd : ps.Nodup)
    (hi : inWindow w va bs.length true = true) (hb : s.placesBusy ps = false) :
    ∃ u, exec (.peerRequest (.write peer win va bs)) s = .next u ∧ u.groups = s.groups ∧
      (∀ i, i < bs.length → u.byte (ps.getD i 0) = bs.getD i 0) ∧ (∀ p, p ∉ ps → u.byte p = s.byte p) := by
  refine ⟨s.writePlaces ps bs, ?_, State.writePlaces_groups _ _ s, fun i hi => ?_, fun p hp => State.byte_writePlaces_ne hp bs s⟩
  · rw [exec_peerRequest]
    simp [execPeerRequest, hw, hp, hi, hb]
  · exact State.byte_writePlaces hd bs s (State.length_peerPlaces hp ▸ hi) hi

theorem peerRequest_add (s : State) (peer win : Nat) (va : DWord) (w : Config.ExportWindow) (a : Nat) (r : List Nat) (x : Word)
    (hw : exportWindowOf win = some w) (hp : s.peerPlaces w.asid va 4 = some (a :: r, true)) (hi : inWindow w va 4 true = true)
    (ha : va.toNat % 4 = 0) (hb : s.placesBusy (a :: r) = false) :
    ∃ u, exec (.peerRequest (.atomic peer win va 0x20 [x])) s = .next u ∧ u.readN a 4 = (s.readN a 4 + x.toNat) % 2 ^ 32 ∧
      (∀ p, p < a ∨ a + 4 ≤ p → u.byte p = s.byte p) := by
  refine ⟨s.peerAtomic .add a [x], ?_, ?_, fun p h => ?_⟩
  · rw [exec_peerRequest]
    simp [execPeerRequest, atomOf, AtomKind.extent, AtomKind.size, hw, hp, hi, ha, hb]
  · refine (State.readN_store s none a 4 _).trans ?_
    exact Nat.mod_mod _ _
  · exact (State.byte_store s none a 4 _ p).trans (if_neg (by omega))

/-- Settles O60: one lemma for each event of the outside, above. -/
theorem outsideEvents : Obligations.OutsideEvents := by
  refine ⟨packageReset_byte, fun s xs => ⟨bootVerify_stays s xs, fun hb hf hl => ⟨?_, ?_, ?_⟩⟩,
    fun s x hn => ⟨fun im => umberImageLoad_good s x im hn, umberImageLoad_bad s x hn⟩,
    fun s => ⟨fun hn => ?_, umberReplaceComplete_done s⟩,
    fun s nonce => ⟨attestationReport_signed s nonce, attestationReport_refused s nonce⟩, fun _ _ => rfl,
    fun s pa n bs => ⟨hostMemoryAccess_read_keeps s pa n, hostMemoryAccess_write_outside s pa bs, hostMemoryAccess_write_bytes s pa bs⟩,
    fun s peer win n va bs code ws => ⟨peerRequest_read_keeps s peer win n va,
      fun h => ⟨peerRequest_write_noWindow s peer win va bs h, peerRequest_atomic_noWindow s peer win va code ws h⟩,
      fun w ps hw hp hd => ⟨peerRequest_write_outside s peer win va bs w ps hw hp, peerRequest_write_bytes s peer win va bs w ps hw hp hd⟩, ?_⟩⟩
  · rintro x y r rfl hx hy
    exact bootVerify_good s x y r hb hf hx hy
  · rintro x r rfl hx
    exact bootVerify_bad_first s x r hb hf hl hx
  · rintro x y r rfl hx hy
    exact bootVerify_bad_second s x y r hb hf hx hy
  · rw [exec_umberReplaceComplete]
    simp [execUmberReplaceComplete, hn]
  · rintro w a r x hw hp hi ha hb rfl
    exact peerRequest_add s peer win va w a r x hw hp hi ha hb

end Sys2Proof.Machine

/-! # The registers of the I/O die and the invalidate queue (obligation O58) -/

namespace Sys2Proof.Machine

/-! ## The bits of a control register (00 R4, 16 R266, 22 R347) -/

theorem log2Size_eq (hi : Nat) (v : DWord) :
    log2Size hi v = if 4 ≤ v.toNat / 256 % 32 ∧ v.toNat / 256 % 32 ≤ hi then v.toNat / 256 % 32 else 4 := by
  simp [log2Size, within]

theorem log2Size_lt (hi : Nat) (v : DWord) : log2Size hi v < 32 := by
  rw [log2Size_eq]
  split <;> omega

theorem getLsbD_w1c (old v : DWord) {b : Nat} (hb : b < 64) :
    (w1c old v).getLsbD b = (decide (b = 1) && old.getLsbD b && !v.getLsbD b) := by
  have h2 : ∀ b < 64, (2 : DWord).getLsbD b = decide (b = 1) := by decide
  rw [w1c, BitVec.getLsbD_and, BitVec.getLsbD_and, BitVec.getLsbD_not, h2 b hb, decide_eq_true hb, Bool.true_and,
    Bool.and_comm (old.getLsbD b)]

theorem getLsbD_sizeField {n b : Nat} (hb : b < 64) : (BitVec.ofNat 64 (256 * n)).getLsbD b = (decide (8 ≤ b) && n.testBit (b - 8)) := by
  rw [BitVec.getLsbD_ofNat, show 256 = 2 ^ 8 from rfl, Nat.testBit_two_pow_mul]
  simp [hb]

/-- A number whose bits 8 to 12 are those of n holds n in that field. -/
theorem field_eq_of_bits {c : DWord} {n : Nat} (hn : n < 32) (h : ∀ i, i < 5 → c.getLsbD (8 + i) = n.testBit i) : c.toNat / 256 % 32 = n := by
  refine Nat.eq_of_testBit_eq (fun i => ?_)
  rw [show 256 = 2 ^ 8 from rfl, show 32 = 2 ^ 5 from rfl, Nat.testBit_mod_two_pow, Nat.testBit_div_two_pow]
  by_cases hi : i < 5
  · rw [decide_eq_true hi, Bool.true_and, Nat.add_comm]
    exact h i hi
  · have : n < 2 ^ i := Nat.lt_of_lt_of_le hn (Nat.pow_le_pow_right (by omega) (by omega) : 2 ^ 5 ≤ 2 ^ i)
    simp [hi, Nat.testBit_lt_two_pow this]

/-- The bits of a control register after a write: the writable ones, the one cleared by a 1, and the size. -/
theorem getLsbD_ctlWrite (m old v : DWord) {n b : Nat} (hb : b < 64) :
    ((v &&& m) ||| w1c old v ||| BitVec.ofNat 64 (256 * n)).getLsbD b =
      ((v.getLsbD b && m.getLsbD b) || (decide (b = 1) && old.getLsbD b && !v.getLsbD b) || (decide (8 ≤ b) && n.testBit (b - 8))) := by
  rw [BitVec.getLsbD_or, BitVec.getLsbD_or, BitVec.getLsbD_and, getLsbD_w1c old v hb, getLsbD_sizeField hb]

/-- A control register whose writable bits leave out 1 and 8 to 12 takes HALT and LOG2SIZE as its rules say. -/
theorem ctlWrite_fields (m old v : DWord) (hi : Nat) (h1 : m.getLsbD 1 = false) (hs : ∀ i, i < 5 → m.getLsbD (8 + i) = false) :
    let c := (v &&& m) ||| w1c old v ||| BitVec.ofNat 64 (256 * log2Size hi v)
    c.getLsbD 1 = (old.getLsbD 1 && !v.getLsbD 1) ∧ c.toNat / 256 % 32 =
      if 4 ≤ v.toNat / 256 % 32 ∧ v.toNat / 256 % 32 ≤ hi then v.toNat / 256 % 32 else 4 := by
  refine ⟨?_, ?_⟩
  · rw [getLsbD_ctlWrite m old v (by omega)]
    simp only [h1, Bool.and_false, Bool.false_or, decide_true, Bool.true_and, Nat.reduceLeDiff, decide_false, Bool.false_and, Bool.or_false]
  · rw [← log2Size_eq]
    refine field_eq_of_bits (log2Size_lt hi v) (fun i hi => ?_)
    rw [getLsbD_ctlWrite m old v (by omega), hs i hi]
    have h : ¬(8 + i = 1) := by omega
    simp [h]

theorem qctlMask_bits : ∀ b < 64, (0xFFFF0000000000E1 : DWord).getLsbD b = decide (b = 0 ∨ (5 ≤ b ∧ b ≤ 7) ∨ 48 ≤ b) := by decide

theorem qctlWrite_written (old v : DWord) (b : Nat) (hb : b < 64) (h : b = 0 ∨ (5 ≤ b ∧ b ≤ 7) ∨ 48 ≤ b) :
    (qctlWrite old v).getLsbD b = v.getLsbD b := by
  have hn : 40 ≤ b - 8 → (log2Size 16 v).testBit (b - 8) = false := fun h =>
    Nat.testBit_lt_two_pow (Nat.lt_of_lt_of_le (log2Size_lt 16 v) (Nat.pow_le_pow_right (by omega) (by omega) : 2 ^ 5 ≤ 2 ^ (b - 8)))
  have h1 : b ≠ 1 := by omega
  rw [qctlWrite, getLsbD_ctlWrite _ old v hb, qctlMask_bits b hb, decide_eq_true h]
  by_cases h8 : 8 ≤ b
  · simp [h1, hn (by omega)]
  · simp [h1, h8]

theorem qctlWrite_zero (old v : DWord) (b : Nat) (h : (2 ≤ b ∧ b < 5) ∨ (13 ≤ b ∧ b < 48)) : (qctlWrite old v).getLsbD b = false := by
  have hn : 5 ≤ b - 8 → (log2Size 16 v).testBit (b - 8) = false := fun h =>
    Nat.testBit_lt_two_pow (Nat.lt_of_lt_of_le (log2Size_lt 16 v) (Nat.pow_le_pow_right (by omega) h : 2 ^ 5 ≤ 2 ^ (b - 8)))
  have h1 : b ≠ 1 := by omega
  rw [qctlWrite, getLsbD_ctlWrite _ old v (by omega), qctlMask_bits b (by omega), decide_eq_false (by omega)]
  by_cases h8 : 8 ≤ b
  · simp [h1, hn (by omega)]
  · simp [h1, h8]

theorem qctlWrite_fields (old v : DWord) : (qctlWrite old v).getLsbD 1 = (old.getLsbD 1 && !v.getLsbD 1) ∧
    (qctlWrite old v).toNat / 256 % 32 =
      if 4 ≤ v.toNat / 256 % 32 ∧ v.toNat / 256 % 32 ≤ 16 then v.toNat / 256 % 32 else 4 :=
  ctlWrite_fields _ old v 16 (by decide) (by decide)

theorem iqctlWrite_fields (old v : DWord) : (iqctlWrite old v).getLsbD 0 = v.getLsbD 0 ∧
    (iqctlWrite old v).getLsbD 1 = (old.getLsbD 1 && !v.getLsbD 1) ∧
    (iqctlWrite old v).toNat / 256 % 32 =
      if 4 ≤ v.toNat / 256 % 32 ∧ v.toNat / 256 % 32 ≤ 12 then v.toNat / 256 % 32 else 4 := by
  refine ⟨?_, ctlWrite_fields 1 old v 12 (by decide) (by decide)⟩
  rw [iqctlWrite, getLsbD_ctlWrite 1 old v (by omega)]
  simp

/-- HALT of a queue that is out: cleared by a 1, and every other bit stands. -/
theorem getLsbD_haltWrite (old v : DWord) {b : Nat} (hb : b < 64) :
    ((old &&& ~~~2) ||| w1c old v).getLsbD b = if b = 1 then old.getLsbD 1 && !v.getLsbD 1 else old.getLsbD b := by
  have h2 : ∀ b < 64, (2 : DWord).getLsbD b = decide (b = 1) := by decide
  rw [BitVec.getLsbD_or, BitVec.getLsbD_and, BitVec.getLsbD_not, getLsbD_w1c old v hb, h2 b hb]
  by_cases h : b = 1 <;> simp [h, hb]

/-! ## The save block of a queue (24 R371, R372) -/

@[simp] theorem State.saveQueue_io (q : Nat) (s : State) : (s.saveQueue q).io = s.io := by
  unfold State.saveQueue
  simp only
  split
  · rw [State.store_io, State.store_io]
  · rfl
@[simp] theorem State.saveQueue_groups (q : Nat) (s : State) : (s.saveQueue q).groups = s.groups := by
  unfold State.saveQueue
  simp only
  split
  · rw [State.store_groups, State.store_groups]
  · rfl
@[simp] theorem State.saveQueue_tasks (q : Nat) (s : State) : (s.saveQueue q).tasks = s.tasks := by
  unfold State.saveQueue
  simp only
  split
  · rw [State.store_tasks, State.store_tasks]
  · rfl

theorem State.saveQueue_queue (q p : Nat) (s : State) : (s.saveQueue q).queue p = s.queue p := by
  rw [State.queue, State.saveQueue_io, State.queue]

/-- A save writes the 16 bytes of its block, where the block exists. -/
theorem State.byte_saveQueue_ne (q p : Nat) (s : State) (h : p < (s.queue q).qsave.toNat ∨ (s.queue q).qsave.toNat + 16 ≤ p) :
    (s.saveQueue q).byte p = s.byte p := by
  unfold State.saveQueue
  simp only
  split
  · rw [State.byte_store, if_neg (by omega), State.byte_store, if_neg (by omega)]
  · rfl

theorem State.readN_saveQueue (q : Nat) (s : State) (h : frameExists (s.queue q).qsave.toNat 64 = true) :
    (s.saveQueue q).readN (s.queue q).qsave.toNat 8 = (s.queue q).qprog.toNat ∧
      (s.saveQueue q).readN ((s.queue q).qsave.toNat + 8) 8 = (s.queue q).qtail.toNat := by
  have hp := (s.queue q).qprog.isLt
  have ht := (s.queue q).qtail.isLt
  unfold State.saveQueue
  simp only [if_pos h]
  refine ⟨?_, ?_⟩
  · rw [State.readN_congr (s.store none (s.queue q).qsave.toNat 8 (s.queue q).qprog.toNat) _ _ 8
      (fun p _ _ => (State.byte_store _ none _ 8 _ p).trans (if_neg (by omega))), State.readN_store]
    omega
  · rw [State.readN_store]
    omega

end Sys2Proof.Machine

namespace Sys2Proof.Machine

/-! ## Writes of a launch queue's registers (16 R266, 24 R371, R372) -/

theorem exec_qtailWrite (q : Nat) (v : DWord) (s : State) : exec (.qtailWrite q v) s = execQtailWrite q v s := rfl
theorem exec_qctlWrite (q : Nat) (v : DWord) (s : State) : exec (.qctlWrite q v) s = execQctlWrite q v s := rfl
theorem exec_queueSwitchOut (q : Nat) (s : State) : exec (.queueSwitchOut q) s = .next (if q < 64 then s.switchOut q else s) := rfl
theorem exec_queueSwitchIn (q : Nat) (s : State) : exec (.queueSwitchIn q) s = .next (if q < 64 then s.switchIn q else s) := rfl
theorem exec_queueSwitchOutDone (q : Nat) (s : State) : exec (.queueSwitchOutDone q) s = execQueueSwitchOutDone q s := rfl

theorem State.queue_modQueue_self (s : State) (q : Nat) (f : Queue → Queue) : (s.modQueue q f).queue q = f (s.queue q) := by
  rw [State.queue_modQueue, if_pos rfl]
theorem State.queue_modQueue_ne (s : State) {q p : Nat} (f : Queue → Queue) (h : p ≠ q) : (s.modQueue q f).queue p = s.queue p := by
  rw [State.queue_modQueue, if_neg h]

/-- There are 64 launch queues. -/
theorem noQueue_stays (s : State) (q : Nat) (v : DWord) (h : 64 ≤ q) : exec (.qtailWrite q v) s = .next s ∧
    exec (.qctlWrite q v) s = .next s ∧ exec (.queueSwitchOut q) s = .next s ∧ exec (.queueSwitchIn q) s = .next s :=
  ⟨congrArg Host.Outcome.next (if_pos h), congrArg Host.Outcome.next (if_pos h),
    congrArg Host.Outcome.next (if_neg (Nat.not_lt.mpr h)), congrArg Host.Outcome.next (if_neg (Nat.not_lt.mpr h))⟩

theorem qtailWrite_takes {s : State} {q : Nat} {x : Queue} (v : DWord) (hq : q < 64) (hx : s.queue q = x) :
    ∃ u, exec (.qtailWrite q v) s = .next u ∧ u.queue q = { x with qtail := v.setWidth 32 } ∧
      (∀ p, p ≠ q → u.queue p = s.queue p) ∧ u.groups = s.groups ∧ u.tasks = s.tasks ∧
      (x.qsw.getLsbD 0 = false → u.mem = s.mem) ∧
      (x.qsw.getLsbD 0 = true → frameExists x.qsave.toNat 64 = true →
        u.readN (x.qsave.toNat + 8) 8 = v.toNat % 2 ^ 32 ∧ u.readN x.qsave.toNat 8 = x.qprog.toNat ∧
        (∀ p, p < x.qsave.toNat ∨ x.qsave.toNat + 16 ≤ p → u.byte p = s.byte p)) := by
  rw [exec_qtailWrite]
  simp only [execQtailWrite, if_neg (Nat.not_le.mpr hq), Queue.out, hx]
  generalize h1 : s.modQueue q (fun x => { x with qtail := v.setWidth 32 }) = t
  have hself : t.queue q = { x with qtail := v.setWidth 32 } := by rw [← h1, State.queue_modQueue_self, hx]
  have hne : ∀ p, p ≠ q → t.queue p = s.queue p := fun p hp => by rw [← h1, State.queue_modQueue_ne s _ hp]
  have hmem : t.mem = s.mem := by rw [← h1, State.modQueue_mem]
  have hg : t.groups = s.groups := by rw [← h1, State.modQueue_groups]
  have ht : t.tasks = s.tasks := by rw [← h1, State.modQueue_tasks]
  cases ho : x.qsw.getLsbD 0 with
  | false => exact ⟨t, rfl, hself, hne, hg, ht, fun _ => hmem, fun h => absurd h Bool.false_ne_true⟩
  | true =>
    have hr := State.readN_saveQueue q t
    have hb := fun p => State.byte_saveQueue_ne q p t
    simp only [hself] at hr hb
    refine ⟨t.saveQueue q, rfl, (State.saveQueue_queue q q t).trans hself, fun p hp => (State.saveQueue_queue q p t).trans (hne p hp),
      (State.saveQueue_groups q t).trans hg, (State.saveQueue_tasks q t).trans ht, fun h => absurd h.symm Bool.false_ne_true, fun _ hf => ?_⟩
    obtain ⟨hp, htl⟩ := hr hf
    exact ⟨htl.trans (BitVec.toNat_setWidth 32 v), hp, fun p h => (hb p h).trans (by rw [State.byte, hmem, State.byte])⟩

theorem qctlWrite_takes {s : State} {q : Nat} {x : Queue} (v : DWord) (hq : q < 64) (hx : s.queue q = x) :
    ∃ u, exec (.qctlWrite q v) s = .next u ∧ (u.queue q).qprog = x.qprog ∧ (u.queue q).qbase = x.qbase ∧
      (∀ p, p ≠ q → u.queue p = s.queue p) ∧ u.mem = s.mem ∧ u.groups = s.groups ∧
      let c := (u.queue q).qctl
      c.getLsbD 1 = (x.qctl.getLsbD 1 && !v.getLsbD 1) ∧
      (x.qsw.getLsbD 0 = true → ∀ b, b < 64 → b ≠ 1 → c.getLsbD b = x.qctl.getLsbD b) ∧
      (x.qsw.getLsbD 0 = false →
        (∀ b, b < 64 → b = 0 ∨ (5 ≤ b ∧ b ≤ 7) ∨ 48 ≤ b → c.getLsbD b = v.getLsbD b) ∧
        (∀ b, (2 ≤ b ∧ b < 5) ∨ (13 ≤ b ∧ b < 48) → c.getLsbD b = false) ∧
        c.toNat / 256 % 32 =
          (if 4 ≤ v.toNat / 256 % 32 ∧ v.toNat / 256 % 32 ≤ 16 then v.toNat / 256 % 32 else 4)) := by
  rw [exec_qctlWrite]
  simp only [execQctlWrite, if_neg (Nat.not_le.mpr hq)]
  refine ⟨_, rfl, ?_⟩
  simp only [State.queue_modQueue_self, Queue.out, hx]
  refine ⟨trivial, trivial, fun p hp => State.queue_modQueue_ne s _ hp, rfl, rfl, ?_⟩
  cases ho : x.qsw.getLsbD 0 with
  | false =>
    exact ⟨(qctlWrite_fields _ v).1, fun h => absurd h Bool.false_ne_true,
      fun _ => ⟨qctlWrite_written _ v, qctlWrite_zero _ v, (qctlWrite_fields _ v).2⟩⟩
  | true =>
    refine ⟨getLsbD_haltWrite _ v (by omega), fun _ b hb h1 => (getLsbD_haltWrite _ v hb).trans (if_neg h1), fun h => ?_⟩
    exact absurd h.symm Bool.false_ne_true

/-! ## Switch-out and switch-in (24 R371, R372) -/

theorem State.switchOut_out {s : State} {q : Nat} (h : (s.queue q).qsw.getLsbD 0 = true) : s.switchOut q = s := if_pos h

/-- The groups that a switch-out marks. -/
def State.groupsOfQueue (s : State) (q : Nat) : List SlotRef :=
  ((s.tasksOfQueue q).flatMap s.groupsOfTask).filter (fun g => decide ((s.grp g).kind = .group))

theorem key_slotOfKey (k : Nat) : (slotOfKey k).key = k := by
  simp only [slotOfKey, SlotRef.key]
  omega

theorem mem_of_look {α : Type} {m : SMap α} {k : Nat} {v : α} (h : m.look k = some v) : (k, v) ∈ m := by
  induction m with
  | nil => cases h
  | cons e r ih =>
    obtain ⟨j, w⟩ := e
    rw [SMap.look] at h
    split at h
    · rename_i hj
      cases h
      exact hj ▸ List.mem_cons_self ..
    · exact List.mem_cons_of_mem _ (ih h)

theorem State.look_of_hasGrp {s : State} {g : SlotRef} (h : s.hasGrp g = true) : s.groups.look g.key = some (s.grp g) := by
  obtain ⟨x, hx⟩ := Option.isSome_iff_exists.mp h
  rw [State.grp, SMap.get, hx, Option.getD_some]

theorem State.mem_groupsOfQueue {s : State} {q : Nat} {g : SlotRef} (hg : s.hasGrp g = true)
    (hq : (s.task (s.grp g).task).queue = some q) (hp : (s.task (s.grp g).task).phase ≠ .retired)
    (ht : (s.tasks.look (s.grp g).task).isSome = true) (hk : (s.grp g).kind = .group) : slotOfKey g.key ∈ s.groupsOfQueue q := by
  have hl := State.look_of_hasGrp hg
  have hsame : s.grp (slotOfKey g.key) = s.grp g := by rw [State.grp, key_slotOfKey, State.grp]
  refine List.mem_filter.mpr ⟨List.mem_flatMap.mpr ⟨(s.grp g).task, ?_, ?_⟩, by simp [hsame, hk]⟩
  · refine List.mem_filter.mpr ⟨?_, by simp [hq, hp]⟩
    obtain ⟨j, hj⟩ := Option.isSome_iff_exists.mp ht
    exact List.mem_map.mpr ⟨_, mem_of_look hj, rfl⟩
  · exact List.mem_filterMap.mpr ⟨(g.key, s.grp g), mem_of_look hl, by simp⟩

@[simp] theorem State.hasGrp_markEvict (h g : SlotRef) (s : State) : (s.markEvict h).hasGrp g = s.hasGrp g := by
  unfold State.hasGrp State.markEvict State.modGrp
  simp only [SMap.look_upd]
  split <;> simp

/-- A marked group stays marked, and the group named is marked. -/
theorem State.evicting_markEvict {s : State} (h g : SlotRef) (hg : s.hasGrp g = true)
    (hm : h.key = g.key ∨ (s.grp g).evicting = true) : ((s.markEvict h).grp g).evicting = true := by
  have hl : s.hasGrp h = true ∨ h.key ≠ g.key := by
    by_cases e : h.key = g.key
    · exact .inl (by rwa [State.hasGrp, e])
    · exact .inr e
  by_cases e : g.key = h.key
  · have hh : s.hasGrp h = true := by rwa [State.hasGrp, ← e]
    rw [State.markEvict, State.grp_modGrp s h g _ hh, if_pos e]
  · have hne := hm.resolve_left (fun h => e h.symm)
    rw [State.markEvict, State.grp, State.modGrp, SMap.get, SMap.look_upd_ne _ _ _ _ e]
    exact hne

theorem State.evicting_foldl_markEvict (gs : List SlotRef) {s : State} {g : SlotRef} (hg : s.hasGrp g = true)
    (hm : (∃ h ∈ gs, h.key = g.key) ∨ (s.grp g).evicting = true) : ((gs.foldl (fun s g => s.markEvict g) s).grp g).evicting = true := by
  induction gs generalizing s with
  | nil => exact hm.resolve_left (by simp)
  | cons a r ih =>
    refine ih (by simpa using hg) ?_
    rcases hm with ⟨h, hh, he⟩ | hm
    · rcases List.mem_cons.mp hh with rfl | hh
      · exact .inr (State.evicting_markEvict _ g hg (.inl he))
      · exact .inl ⟨h, hh, he⟩
    · exact .inr (State.evicting_markEvict _ g hg (.inr hm))

@[simp] theorem State.markEvict_io (g : SlotRef) (s : State) : (s.markEvict g).io = s.io := rfl

theorem State.switchOut_eq {s : State} {q : Nat} (h : (s.queue q).qsw.getLsbD 0 = false) : s.switchOut q =
    (((s.modQueue q (fun x => { x with qsw := 1 })).saveQueue q).groupsOfQueue q).foldl (fun s g => s.markEvict g)
      ((s.modQueue q (fun x => { x with qsw := 1 })).saveQueue q) :=
  if_neg (by rw [Queue.out, h]; exact Bool.false_ne_true)

theorem queueSwitchOut_saves {s : State} {q : Nat} {x : Queue} (hq : q < 64) (hx : s.queue q = x) (ho : x.qsw.getLsbD 0 = false) :
    ∃ u, exec (.queueSwitchOut q) s = .next u ∧ (u.queue q).qsw = 1 ∧
      (frameExists x.qsave.toNat 64 = true →
        u.readN x.qsave.toNat 8 = x.qprog.toNat ∧ u.readN (x.qsave.toNat + 8) 8 = x.qtail.toNat) ∧
      (∀ p, p < x.qsave.toNat ∨ x.qsave.toNat + 16 ≤ p → u.byte p = s.byte p) ∧
      (∀ g, s.hasGrp g = true → (s.task (s.grp g).task).queue = some q → (s.task (s.grp g).task).phase ≠ .retired →
        (s.tasks.look (s.grp g).task).isSome = true → (s.grp g).kind = .group → (u.grp g).evicting = true) := by
  rw [exec_queueSwitchOut, if_pos hq, State.switchOut_eq (hx ▸ ho)]
  generalize h1 : s.modQueue q (fun x => { x with qsw := 1 }) = t
  have hself : t.queue q = { x with qsw := 1 } := by rw [← h1, State.queue_modQueue_self, hx]
  have hmem : t.mem = s.mem := by rw [← h1, State.modQueue_mem]
  have hgs : (t.saveQueue q).groups = s.groups := by rw [State.saveQueue_groups, ← h1, State.modQueue_groups]
  have hts : (t.saveQueue q).tasks = s.tasks := by rw [State.saveQueue_tasks, ← h1, State.modQueue_tasks]
  have hr := State.readN_saveQueue q t
  have hb := fun p => State.byte_saveQueue_ne q p t
  simp only [hself] at hr hb
  have hq1 : (t.saveQueue q).queue q = { x with qsw := 1 } := (State.saveQueue_queue q q t).trans hself
  generalize t.saveQueue q = w at *
  generalize hu : (w.groupsOfQueue q).foldl (fun s g => s.markEvict g) w = u
  have humem : u.mem = w.mem := hu ▸ foldl_keeps State.mem (fun s g => s.markEvict g) (fun _ _ => rfl) _ w
  have huio : u.io = w.io := hu ▸ foldl_keeps State.io (fun s g => s.markEvict g) (fun _ _ => rfl) _ w
  have hread : ∀ a n, u.readN a n = w.readN a n := fun a n =>
    State.readN_congr w u a n (fun p _ _ => by rw [State.byte, humem, State.byte])
  have hgrp : ∀ g, w.grp g = s.grp g := fun g => by rw [State.grp, hgs, State.grp]
  have htask : ∀ k, w.task k = s.task k := fun k => by rw [State.task, hts, State.task]
  refine ⟨u, rfl, ?_, fun hf => ?_, fun p hp => ?_, fun g hg hgq hgp hgt hgk => ?_⟩
  · rw [State.queue, huio, ← State.queue, hq1]
  · rw [hread, hread]
    exact hr hf
  · rw [State.byte, humem, ← State.byte, hb p hp, State.byte, hmem, State.byte]
  · have hwg : w.hasGrp g = true := by rwa [State.hasGrp, hgs]
    rw [← hu]
    refine State.evicting_foldl_markEvict _ hwg (.inl ⟨slotOfKey g.key, State.mem_groupsOfQueue hwg ?_ ?_ ?_ ?_, key_slotOfKey _⟩)
    · rw [hgrp, htask, hgq]
    · rwa [hgrp, htask]
    · rwa [hgrp, hts]
    · rw [hgrp, hgk]

theorem State.switchIn_in {s : State} {q : Nat} (h : (s.queue q).qsw.getLsbD 0 = false) : s.switchIn q = s :=
  if_neg (by rw [Queue.out, h]; exact Bool.false_ne_true)

theorem queueSwitchIn_restores {s : State} {q : Nat} {x : Queue} (hq : q < 64) (hx : s.queue q = x) (ho : x.qsw.getLsbD 0 = true) :
    ∃ u, exec (.queueSwitchIn q) s = .next u ∧ u.groups = s.groups ∧ u.mem = s.mem ∧
      (∀ p, p ≠ q → u.queue p = s.queue p) ∧
      (frameExists x.qsave.toNat 64 = true → u.queue q = { x with
        qsw := 0
        qprog := BitVec.ofNat 32 (s.readN x.qsave.toNat 4)
        qtail := BitVec.ofNat 32 (s.readN (x.qsave.toNat + 8) 4) }) ∧
      (frameExists x.qsave.toNat 64 = false → u.queue q = { x with qsw := 0 }) := by
  rw [exec_queueSwitchIn, if_pos hq, State.switchIn, if_pos (by rw [Queue.out, hx, ho]), hx]
  refine ⟨_, rfl, rfl, rfl, fun p hp => State.queue_modQueue_ne s _ hp, fun hf => ?_, fun hf => ?_⟩
  · rw [State.queue_modQueue_self, hx, if_pos hf, if_pos hf]
  · rw [State.queue_modQueue_self, hx, if_neg (by simp [hf]), if_neg (by simp [hf])]

/-! ## The event of a switch-out (24 R371, R373) -/

@[simp] theorem State.record_tasks (fault : Bool) (ws : List DWord) (s : State) : (s.record fault ws).tasks = s.tasks :=
  State.record_keeps State.tasks (fun s => State.store_tasks s) (fun _ fault _ => by cases fault <;> rfl) fault ws s
@[simp] theorem State.record_queues (fault : Bool) (ws : List DWord) (s : State) : (s.record fault ws).io.queues = s.io.queues :=
  State.record_keeps (fun s => s.io.queues) (fun s b a n x => by rw [State.store_io]) (fun _ fault _ => by cases fault <;> rfl) fault ws s

@[simp] theorem State.writeQuads_io (a : Nat) (ws : List DWord) (s : State) : (s.writeQuads a ws).io = s.io :=
  State.writeQuads_keeps State.io (fun s => State.store_io s) a ws s

theorem State.byte_writeQuads_ne (a p : Nat) (ws : List DWord) (s : State) (h : p < a ∨ a + 8 * ws.length ≤ p) :
    (s.writeQuads a ws).byte p = s.byte p := by
  induction ws generalizing a s with
  | nil => rfl
  | cons w r ih =>
    rw [List.length_cons] at h
    exact (ih (a + 8) _ (by omega)).trans ((State.byte_store s none a 8 _ p).trans (if_neg (by omega)))

theorem State.readN_writeQuads (a : Nat) (ws : List DWord) (s : State) (i : Nat) (hi : i < ws.length) :
    (s.writeQuads a ws).readN (a + 8 * i) 8 = (ws.getD i 0).toNat := by
  induction ws generalizing a s i with
  | nil => exact absurd hi (Nat.not_lt_zero i)
  | cons w r ih =>
    cases i with
    | zero =>
      have hw := w.isLt
      refine (State.readN_congr (s.store none a 8 w.toNat) _ a 8 (fun p _ hp => ?_)).trans ((State.readN_store s none a 8 w.toNat).trans ?_)
      · exact State.byte_writeQuads_ne (a + 8) p r _ (.inl (by omega))
      · rw [List.getD_cons_zero]
        omega
    | succ i =>
      rw [List.getD_cons_succ, ← ih (a + 8) (s.store none a 8 w.toNat) i (Nat.lt_of_succ_lt_succ hi)]
      rw [show a + 8 * (i + 1) = a + 8 + 8 * i by omega]
      rfl

/-- A record goes to a ring with room behind no held record. -/
theorem State.record_open {s : State} {fault : Bool} {r : RecQueue} (hr : s.io.recq fault = r) (ho : s.ringOpen r = true) (hh : r.held = [])
    (ws : List DWord) : s.record fault ws = (s.writeQuads r.next ws).modRecq fault (fun q => { q with tail := q.tail + 1 }) := by
  rw [State.record, hr]
  exact (if_pos ⟨ho, hh⟩).trans (by rw [State.ringPut, hr])

/-- Without room, or behind held ones, a record is held. -/
theorem State.record_held {s : State} {fault : Bool} {r : RecQueue} (hr : s.io.recq fault = r) (ho : s.ringOpen r = false ∨ r.held ≠ [])
    (hl : r.held.length < 256) (ws : List DWord) :
    s.record fault ws = s.modRecq fault (fun q => { q with held := q.held ++ [ws] }) := by
  rw [State.record, hr]
  refine (if_neg ?_).trans (if_pos hl)
  rintro ⟨h1, h2⟩
  exact ho.elim (fun h => Bool.false_ne_true (h.symm.trans h1)) (fun h => h h2)

theorem queueSwitchOutDone_stays {s : State} {q : Nat} (h : (s.queue q).qsw.getLsbD 0 = false ∨ s.allSaved q = false) :
    exec (.queueSwitchOutDone q) s = .next s := by
  refine congrArg Host.Outcome.next (if_neg ?_)
  rintro ⟨-, ho, -, ha⟩
  exact h.elim (fun h => Bool.false_ne_true (h.symm.trans ho)) (fun h => Bool.false_ne_true (h.symm.trans ha))

theorem recordWords_switchOut (x : Queue) (q : Nat) : recordWords 0x42 0 0 x.asid 0 0 0 0 (BitVec.ofNat 64 q) 0 =
    [BitVec.ofNat 64 (0x42 + x.qctl.toNat / 2 ^ 48 * 2 ^ 32), 0, 0, 0, 0, BitVec.ofNat 64 q, 0, 0] := by
  have h : x.qctl.toNat / 2 ^ 48 % 65536 = x.qctl.toNat / 2 ^ 48 := by
    have := x.qctl.isLt
    omega
  simp only [recordWords, Queue.asid, h]
  rfl

theorem queueSwitchOutDone_records {s : State} {q : Nat} {x : Queue} {r : RecQueue} (hq : q < 64) (hx : s.queue q = x) (hsw : x.qsw = 1)
    (hs : s.allSaved q = true) (hr : s.io.event = r) :
    ∃ u, exec (.queueSwitchOutDone q) s = .next u ∧ (u.queue q).qsw = 3 ∧ u.groups = s.groups ∧ u.tasks = s.tasks ∧
      let ws : List DWord := [BitVec.ofNat 64 (0x42 + x.qctl.toNat / 2 ^ 48 * 2 ^ 32), 0, 0, 0, 0, BitVec.ofNat 64 q, 0, 0]
      (s.ringOpen r = true → r.held = [] → u.io.event = { r with tail := r.tail + 1 } ∧
        (∀ i, i < 8 → u.readN (r.next + 8 * i) 8 = (ws.getD i 0).toNat) ∧
        (∀ p, p < r.next ∨ r.next + 64 ≤ p → u.byte p = s.byte p)) ∧
      (s.ringOpen r = false ∨ r.held ≠ [] → r.held.length < 256 →
        u.io.event = { r with held := r.held ++ [ws] } ∧ u.mem = s.mem) := by
  have hu : exec (.queueSwitchOutDone q) s = .next ((s.modQueue q (fun x => { x with qsw := 3 })).record false
      [BitVec.ofNat 64 (0x42 + x.qctl.toNat / 2 ^ 48 * 2 ^ 32), 0, 0, 0, 0, BitVec.ofNat 64 q, 0, 0]) := by
    rw [exec_queueSwitchOutDone]
    simp only [execQueueSwitchOutDone, hx, recordWords_switchOut]
    rw [if_pos ⟨hq, by simp [Queue.out, hsw], by simp [hsw], hs⟩]
  generalize hws : [BitVec.ofNat 64 (0x42 + x.qctl.toNat / 2 ^ 48 * 2 ^ 32), 0, 0, 0, 0, BitVec.ofNat 64 q, 0, 0] = ws at hu ⊢
  have hlen : ws.length = 8 := hws ▸ rfl
  have hsw3 : ((s.modQueue q (fun x => { x with qsw := 3 })).queue q).qsw = 3 := by rw [State.queue_modQueue_self]
  have hr' : (s.modQueue q (fun x => { x with qsw := 3 })).io.recq false = r := hr
  have hopen : (s.modQueue q (fun x => { x with qsw := 3 })).ringOpen r = s.ringOpen r := rfl
  refine ⟨_, hu, ?_, State.record_groups _ _ _, State.record_tasks _ _ _, fun ho hh => ?_, fun ho hl => ?_⟩
  · rw [State.queue, State.record_queues]
    exact hsw3
  · rw [State.record_open hr' (hopen.trans ho) hh]
    refine ⟨?_, fun i hi => ?_, fun p hp => ?_⟩
    · show ({ ((s.modQueue q _).writeQuads r.next ws).io.event with tail := _ } : RecQueue) = _
      rw [State.writeQuads_io]
      simp only [← hr]
      rfl
    · exact State.readN_writeQuads r.next ws _ i (hlen ▸ hi)
    · exact State.byte_writeQuads_ne r.next p ws _ (by rw [hlen]; omega)
  · rw [State.record_held hr' (by rwa [hopen]) hl]
    exact ⟨by rw [← hr]; rfl, rfl⟩

end Sys2Proof.Machine

namespace Sys2Proof.Machine

/-! ## Record queues, events, grants and the plain registers (16 R267, R268, 24 R373, 27 R398) -/

theorem State.recq_modRecq_same (fault : Bool) (f : RecQueue → RecQueue) (s : State) :
    (s.modRecq fault f).io.recq fault = f (s.io.recq fault) := by
  cases fault <;> rfl

theorem State.recq_modRecq_other (fault : Bool) (f : RecQueue → RecQueue) (s : State) :
    (s.modRecq fault f).io.recq (!fault) = s.io.recq (!fault) := by
  cases fault <;> rfl

@[simp] theorem State.modRecq_groups (fault : Bool) (f : RecQueue → RecQueue) (s : State) :
    (s.modRecq fault f).groups = s.groups := by
  cases fault <;> rfl

/-- Writing held records moves a queue's tail; its head, the other queue and the groups stand. -/
theorem State.flushRecords_keeps (fault : Bool) (n : Nat) (s : State) : ((s.flushRecords fault n).io.recq fault).head = (s.io.recq fault).head ∧
    (s.flushRecords fault n).io.recq (!fault) = s.io.recq (!fault) ∧ (s.flushRecords fault n).groups = s.groups := by
  induction n generalizing s with
  | zero => exact ⟨rfl, rfl, rfl⟩
  | succ n ih =>
    unfold State.flushRecords
    split
    · exact ⟨rfl, rfl, rfl⟩
    · split
      · rename_i ws r _ _
        have h1 : ((s.ringPut fault ws).io.recq fault).head = (s.io.recq fault).head := by
          unfold State.ringPut
          rw [State.recq_modRecq_same, State.writeQuads_io]
        have h2 : (s.ringPut fault ws).io.recq (!fault) = s.io.recq (!fault) := by
          unfold State.ringPut
          rw [State.recq_modRecq_other, State.writeQuads_io]
        have h3 : (s.ringPut fault ws).groups = s.groups := by
          unfold State.ringPut
          rw [State.modRecq_groups]
          exact State.writeQuads_keeps State.groups (fun s => State.store_groups s) _ _ s
        obtain ⟨e1, e2, e3⟩ := ih ((s.ringPut fault ws).modRecq fault (fun q => { q with held := r }))
        rw [State.recq_modRecq_same] at e1
        rw [State.recq_modRecq_other] at e2
        rw [State.modRecq_groups] at e3
        exact ⟨e1.trans h1, e2.trans h2, e3.trans h3⟩
      · exact ⟨rfl, rfl, rfl⟩

/-- RQHEAD of a record queue takes its value, and held records are written as room appears. -/
theorem rqheadWrite_takes (s : State) (fault : Bool) (v : DWord) :
    ∃ u, exec (.rqheadWrite (if fault then 0 else 1) v) s = .next u ∧ (u.io.recq fault).head = v ∧
      u.io.recq (!fault) = s.io.recq (!fault) ∧ u.groups = s.groups := by
  obtain ⟨h1, h2, h3⟩ := State.flushRecords_keeps fault 256 (s.modRecq fault (fun q => { q with head := v }))
  rw [State.recq_modRecq_same] at h1
  rw [State.recq_modRecq_other] at h2
  rw [State.modRecq_groups] at h3
  refine ⟨_, ?_, h1, h2, h3⟩
  cases fault <;> rfl

theorem eventCountWrite_takes (s : State) (v : DWord) (e : Nat) (he : e < 4096) : ∃ u, exec (.eventCountWrite e v) s = .next u ∧
    u.io.events.get 0 e = v ∧ (∀ f, f ≠ e → u.io.events.get 0 f = s.io.events.get 0 f) ∧ u.mem = s.mem ∧ u.groups = s.groups :=
  ⟨_, congrArg Host.Outcome.next (if_pos he), SMap.get_put_self _ _ _ _, fun _ hf => SMap.get_put_ne _ _ _ _ _ hf, rfl, rfl⟩

theorem ggo_noGrid (s : State) (v : DWord) (hv : v.getLsbD 0 = true) (hg : s.gridOfId s.io.gtask = none) :
    ∃ u, exec (.ggo v) s = .next u ∧ u.io.gctl = 2 ∧ u.tasks = s.tasks ∧ u.mem = s.mem := by
  show ∃ u, execGgo v s = .next u ∧ _
  simp only [execGgo, if_pos hv, hg]
  exact ⟨_, rfl, rfl, rfl, rfl⟩

theorem ggo_grants (s : State) (v : DWord) (k : Nat) (hv : v.getLsbD 0 = true) (hg : s.gridOfId s.io.gtask = some k)
    (hk : (s.tasks.look k).isSome = true) : ∃ u, exec (.ggo v) s = .next u ∧ u.io.gctl = (s.io.gctl &&& 2 &&& ~~~v) ∧ u.mem = s.mem ∧
      (u.task k).pi = sat64 ((s.task k).pi + s.io.gins.toNat) ∧ (u.task k).pt = sat64 ((s.task k).pt + s.io.gbytes.toNat) := by
  show ∃ u, execGgo v s = .next u ∧ _
  simp only [execGgo, if_pos hv, hg]
  refine ⟨_, rfl, rfl, rfl, ?_⟩
  have h := State.task_modTask { s with io := { s.io with gctl := w1c s.io.gctl v } } k k
    (fun j => { j with pi := sat64 (j.pi + s.io.gins.toNat), pt := sat64 (j.pt + s.io.gbytes.toNat) }) hk
  rw [if_pos rfl] at h
  rw [State.addPool, h]
  exact ⟨rfl, rfl⟩

theorem registerWrite_thread (s : State) (v : DWord) (c : CtxId) (off : Nat) (h : s.hasCtx c = true) :
    exec (.registerWrite (.thread c) off v) s = .next (({ s with cur := c } : State).raise 4 causePriv 0 0) :=
  congrArg Host.Outcome.next (if_pos h)

theorem registerRead_qprog (s : State) (q : Nat) (h : q < 64) : s.registerRead (64 * q + 0x18) = ((s.queue q).qprog).setWidth 64 := by
  unfold State.registerRead
  rw [if_pos (by omega), show (64 * q + 0x18) / 64 = q by omega, show (64 * q + 0x18) % 64 = 0x18 by omega]
  rfl

/-- No register stands at 0x1128 or above. -/
theorem registerRead_none (s : State) (off : Nat) (h : 0x1128 ≤ off) : s.registerRead off = 0 := by
  unfold State.registerRead
  rw [if_neg (by omega), if_neg (by omega), if_neg (by omega)]
  split <;> simp_all

theorem registerWrite_none (s : State) (v : DWord) (off : Nat) (h : 0x1128 ≤ off) : exec (.registerWrite .app off v) s = .next s := by
  show (if off < 0x1000 then _ else s.writeControlReg off v) = _
  rw [if_neg (by omega)]
  unfold State.writeControlReg
  split <;> simp_all

theorem registerWrite_sapbase (s : State) (v : DWord) :
    (s.io.blocks = [] → exec (.registerWrite .app 0x1040 v) s = .next { s with io := { s.io with sapbase := v } }) ∧
      (s.io.blocks ≠ [] → exec (.registerWrite .app 0x1040 v) s = .next s) :=
  ⟨fun h => congrArg Host.Outcome.next (if_pos h), fun h => congrArg Host.Outcome.next (if_neg h)⟩

/-! ## The invalidate queue (22 R347, R348) -/

/-- Removing entries by their value from a map: the entries that stay are found as before. -/
theorem SMap.look_filter_of_look {α : Type} {m : SMap α} {f : α → Bool} {k : Nat} {x : α} (h : m.look k = some x) (hf : f x = true) :
    SMap.look (m.filter (fun e => f e.2)) k = some x := by
  induction m with
  | nil => cases h
  | cons e r ih =>
    obtain ⟨j, w⟩ := e
    rw [SMap.look] at h
    by_cases hj : j = k
    · rw [if_pos hj] at h
      cases h
      simp [hf, hj, SMap.look]
    · rw [if_neg hj] at h
      by_cases hw : f w = true
      · simp [hw, hj, SMap.look, ih h]
      · simp [hw, ih h]

theorem SMap.get_mapVals {α : Type} (m : SMap α) {f : α → α} {d : α} (hd : f d = d) (k : Nat) :
    SMap.get (m.map (fun e => (e.1, f e.2))) d k = f (m.get d k) := by
  rw [SMap.get, SMap.look_mapVals m (fun _ => f), SMap.get]
  cases m.look k with
  | none => exact hd.symm
  | some x => rfl

theorem State.grp_sweep (w : Sweep) (s : State) (g : SlotRef) :
    (s.sweep w).grp g = { s.grp g with pages := (s.grp g).pages.filter (fun p => !w.hits p.2.x) } :=
  SMap.get_mapVals s.groups (f := fun x => { x with pages := x.pages.filter (fun p => !w.hits p.2.x) }) rfl g.key

theorem State.core_sweep (w : Sweep) (s : State) (c : CoreRef) :
    (s.sweep w).core c = { s.core c with tlb := (s.core c).tlb.filter (fun x => !w.hits x) } :=
  SMap.get_mapVals s.cores (f := fun x => { x with tlb := x.tlb.filter (fun x => !w.hits x) }) rfl c.key

theorem State.die_sweep (w : Sweep) (s : State) (d : Nat) :
    (s.sweep w).die d = { s.die d with tlb := (s.die d).tlb.filter (fun x => !w.hits x) } :=
  SMap.get_mapVals s.dies (f := fun x => { x with tlb := x.tlb.filter (fun x => !w.hits x) }) rfl d

/-- What a task's phase does not enter: its address space and its leases. -/
theorem State.task_sweep (w : Sweep) (s : State) (k : Nat) :
    ((s.sweep w).task k).asid = (s.task k).asid ∧ ((s.sweep w).task k).leases = (s.task k).leases := by
  have h : (s.sweep w).task k =
      (fun (j : Task) => if j.phase = .resident ∧ w.space j.asid then { j with phase := .created } else j) (s.task k) := by
    refine Eq.trans ?_ (SMap.get_mapVals s.tasks
      (f := fun (j : Task) => if j.phase = .resident ∧ w.space j.asid then { j with phase := .created } else j) ?_ k)
    · refine congrArg (fun m => SMap.get m Task.empty k) (List.map_congr_left (fun e _ => ?_))
      split <;> simp_all
    · simp [Task.empty]
  rw [h]
  simp only
  split <;> exact ⟨rfl, rfl⟩

theorem State.scatterLines_congr {s t : State} (h : t.myTask.leases = s.myTask.leases) (f : FabOp) : t.scatterLines f = s.scatterLines f := by
  have hw : ∀ a n, t.myTask.writable a n = s.myTask.writable a n := fun a n => by rw [Task.writable, h, Task.writable]
  simp only [State.scatterLines, hw]

/-- The state of an INVALIDATE_COMMAND whose sweep has been made. -/
def State.sweptWith (s : State) (w : Sweep) (x : Option (Nat × List OpRef × List Nat)) : State :=
  { s.sweep w with io := { s.io with swept := x } }

theorem State.engineLines_sweptWith (w : Sweep) (x : Option (Nat × List OpRef × List Nat)) (s : State) (g : SlotRef) (o : Op) :
    (s.sweptWith w x).engineLines g o = s.engineLines g o := by
  unfold State.engineLines
  split
  case h_3 =>
    refine if_congr Iff.rfl (State.scatterLines_congr ?_ _) rfl
    show (((s.sweep w).task ((s.sweep w).grp g).task)).leases = ((s.task (s.grp g).task)).leases
    rw [State.grp_sweep, (State.task_sweep w s _).2]
  all_goals rfl

/-- A sweep leaves the operations that used the translations it removes as they were (22 R348 step 3). -/
theorem State.users_sweptWith (w v : Sweep) (x : Option (Nat × List OpRef × List Nat)) (s : State) :
    (s.sweptWith w x).users v = s.users v := by
  show ((s.groups.map _).flatMap _) = _
  rw [List.flatMap_map]
  refine List.flatMap_congr (fun e _ => ?_)
  show (if v.space ((s.sweep w).task e.2.task).asid = true then _ else _) = _
  rw [(State.task_sweep w s _).1]
  simp only [State.engineUses, State.engineLines_sweptWith]

theorem State.waveUsers_sweptWith (w v : Sweep) (x : Option (Nat × List OpRef × List Nat)) (s : State) :
    (s.sweptWith w x).waveUsers v = s.waveUsers v := by
  have h : ∀ k, ((s.sweptWith w x).task k).asid = (s.task k).asid := fun k => (State.task_sweep w s k).1
  simp only [State.waveUsers, h]
  rfl

/-- What used the removed translations is still outstanding right after the sweep, where there is any. -/
theorem State.stillUses_sweptWith (w : Sweep) (x : Option (Nat × List OpRef × List Nat)) (s : State) :
    (s.sweptWith w x).stillUses w (s.users w) (s.waveUsers w) = !((s.users w).isEmpty && (s.waveUsers w).isEmpty) := by
  rw [State.stillUses, State.users_sweptWith, State.waveUsers_sweptWith]
  have h : ∀ {α : Type} [DecidableEq α] (l : List α), l.any l.elem = !l.isEmpty := by
    intro α _ l
    cases l <;> simp
  rw [h, h, Bool.not_and]

theorem State.invalidated_events (c : Nat) (s : State) : (s.invalidated c).io.events =
    if c / 2 ^ 148 % 2 = 1 then s.io.events.put 0 (c / 2 ^ 160 % 2 ^ 12) (s.io.events.get 0 (c / 2 ^ 160 % 2 ^ 12) + 1)
    else s.io.events := by
  simp only [State.invalidated, bitsAt, Nat.testBit_eq_decide_div_mod_eq, decide_eq_true_eq]

theorem exec_invalidateCommand (s : State) : exec .invalidateCommand s = execInvalidateCommand s := rfl

theorem invalidateCommand_idle {s : State} (h : s.io.iqLive = false) : exec .invalidateCommand s = .next s := by
  rw [exec_invalidateCommand, execInvalidateCommand, if_pos (by rw [h]; rfl)]

theorem invalidateCommand_first {s : State} (hl : s.io.iqLive = true) (hs : s.io.swept = none) : exec .invalidateCommand s = .next (
    if badInvalidate s.iqCommand = true then { s with io := { s.io with iqctl := s.io.iqctl ||| 2 } }
    else if s.splitBy (sweepOf s.iqCommand) = true then s
    else (s.sweptWith (sweepOf s.iqCommand) (some (s.iqCommand, s.users (sweepOf s.iqCommand), s.waveUsers (sweepOf s.iqCommand)))).endInvalidate) := by
  rw [exec_invalidateCommand, execInvalidateCommand, if_neg (by rw [hl]; exact Bool.false_ne_true), if_neg (by rw [hs]; exact Bool.false_ne_true)]
  rfl

theorem invalidateCommand_waits {s : State} {d : Nat} {rs : List OpRef} {objs : List Nat} (hl : s.io.iqLive = true)
    (hs : s.io.swept = some (d, rs, objs)) : exec .invalidateCommand s = .next (
      if s.stillUses (sweepOf d) rs objs = true then s else ({ s with io := { s.io with swept := none } } : State).invalidated d) := by
  rw [exec_invalidateCommand, execInvalidateCommand, if_neg (by rw [hl]; exact Bool.false_ne_true), if_pos (by rw [hs]; rfl),
    State.endInvalidate, hs]

theorem invalidateCommand_sweeps {s : State} {c : Nat} {w : Sweep} (hc : s.iqCommand = c) (hw : sweepOf c = w) (hl : s.io.iqLive = true)
    (hs : s.io.swept = none) (hb : badInvalidate c = false) (hsp : s.splitBy w = false) :
    ∃ u, exec .invalidateCommand s = .next u ∧ u.mem = s.mem ∧
      (∀ g k x, (u.grp g).pages.look k = some x → w.hits x.x = false) ∧
      (∀ g k x, (s.grp g).pages.look k = some x → w.hits x.x = false → (u.grp g).pages.look k = some x) ∧
      (∀ d x, x ∈ (u.core d).tlb ↔ x ∈ (s.core d).tlb ∧ w.hits x = false) ∧
      (∀ d x, x ∈ (u.die d).tlb ↔ x ∈ (s.die d).tlb ∧ w.hits x = false) ∧
      (s.users w = [] → s.waveUsers w = [] → u.io.iqhead = s.io.iqhead + 1 ∧ u.io.swept = none ∧
        u.io.events = if c / 2 ^ 148 % 2 = 1 then
          s.io.events.put 0 (c / 2 ^ 160 % 2 ^ 12) (s.io.events.get 0 (c / 2 ^ 160 % 2 ^ 12) + 1) else s.io.events) ∧
      (s.users w ≠ [] ∨ s.waveUsers w ≠ [] → u.io = { s.io with swept := some (c, s.users w, s.waveUsers w) }) := by
  have he : exec .invalidateCommand s = .next ((s.sweptWith w (some (c, s.users w, s.waveUsers w))).endInvalidate) := by
    rw [invalidateCommand_first hl hs, hc, hw, if_neg (by rw [hb]; exact Bool.false_ne_true), if_neg (by rw [hsp]; exact Bool.false_ne_true)]
  have hend : (s.sweptWith w (some (c, s.users w, s.waveUsers w))).endInvalidate =
      if (!((s.users w).isEmpty && (s.waveUsers w).isEmpty)) = true then s.sweptWith w (some (c, s.users w, s.waveUsers w))
      else (s.sweptWith w none).invalidated c := by
    rw [← State.stillUses_sweptWith w (some (c, s.users w, s.waveUsers w)), ← hw]
    rfl
  rw [he, hend]
  generalize hu : (if (!((s.users w).isEmpty && (s.waveUsers w).isEmpty)) = true then s.sweptWith w (some (c, s.users w, s.waveUsers w))
      else (s.sweptWith w none).invalidated c) = u
  have hgrp : ∀ g, u.grp g = (s.sweep w).grp g := by intro g; rw [← hu]; split <;> rfl
  have hcore : ∀ d, u.core d = (s.sweep w).core d := by intro d; rw [← hu]; split <;> rfl
  have hdie : ∀ d, u.die d = (s.sweep w).die d := by intro d; rw [← hu]; split <;> rfl
  have hmem : u.mem = s.mem := by rw [← hu]; split <;> rfl
  refine ⟨u, rfl, hmem, fun g k x hx => ?_, fun g k x hx hh => ?_, fun d x => ?_, fun d x => ?_, fun h1 h2 => ?_, fun h => ?_⟩
  · rw [hgrp, State.grp_sweep] at hx
    simpa using (List.mem_filter.mp (mem_of_look hx)).2
  · rw [hgrp, State.grp_sweep]
    exact SMap.look_filter_of_look (f := fun x => !w.hits x.x) hx (by rw [hh]; rfl)
  · rw [hcore, State.core_sweep]
    simp [List.mem_filter]
  · rw [hdie, State.die_sweep]
    simp [List.mem_filter]
  · rw [if_neg (by simp [h1, h2])] at hu
    subst hu
    exact ⟨rfl, rfl, State.invalidated_events c _⟩
  · have hne : ((s.users w).isEmpty && (s.waveUsers w).isEmpty) = false := by
      rcases h with h | h <;> simp [h]
    rw [hne, Bool.not_false, if_pos rfl] at hu
    subst hu
    rfl

theorem invalidateCommand_ends {s : State} {d : Nat} {rs : List OpRef} {objs : List Nat} (hl : s.io.iqLive = true)
    (hs : s.io.swept = some (d, rs, objs)) (hu : s.stillUses (sweepOf d) rs objs = false) : ∃ u, exec .invalidateCommand s = .next u ∧
      u.mem = s.mem ∧ u.groups = s.groups ∧ u.io.iqhead = s.io.iqhead + 1 ∧ u.io.swept = none ∧
      u.io.events = if d / 2 ^ 148 % 2 = 1 then
        s.io.events.put 0 (d / 2 ^ 160 % 2 ^ 12) (s.io.events.get 0 (d / 2 ^ 160 % 2 ^ 12) + 1) else s.io.events := by
  rw [invalidateCommand_waits hl hs, if_neg (by rw [hu]; exact Bool.false_ne_true)]
  exact ⟨_, rfl, rfl, rfl, rfl, rfl, State.invalidated_events d _⟩

/-- Settles O58: the lemmas above, one for each register and event of the I/O die. -/
theorem ioRegisters : Obligations.IoRegisters := by
  refine ⟨fun s q v => ⟨noQueue_stays s q v, fun hq => ⟨qtailWrite_takes v hq rfl, qctlWrite_takes v hq rfl, fun h => ?_,
      fun h => queueSwitchOut_saves hq rfl h, fun h => ?_, fun h => queueSwitchIn_restores hq rfl h,
      fun h1 h2 => queueSwitchOutDone_records hq rfl h1 h2 rfl, queueSwitchOutDone_stays⟩⟩,
    fun s v e => ⟨⟨_, rfl, rfl, rfl, rfl⟩, ⟨_, rfl, rfl, rfl, iqctlWrite_fields s.io.iqctl v⟩, rqheadWrite_takes s true v, rqheadWrite_takes s false v,
      eventCountWrite_takes s v e, fun h => congrArg Host.Outcome.next (if_neg (Nat.not_lt.mpr h)), ggo_noGrid s v, ggo_grants s v,
      fun _ => rfl, registerWrite_thread s v, rfl, rfl, registerRead_qprog s, registerRead_none s, rfl, rfl, rfl, rfl, rfl, rfl,
      (registerWrite_sapbase s v).1, (registerWrite_sapbase s v).2, registerWrite_none s v⟩,
    fun s => ⟨invalidateCommand_idle, fun hl hs hb => ?_, fun hl hs hb hp => ?_, invalidateCommand_sweeps rfl rfl,
      fun d rs objs hl hs => ⟨fun h => ?_, invalidateCommand_ends hl hs⟩⟩⟩
  · rw [exec_queueSwitchOut, if_pos hq, State.switchOut_out h]
  · rw [exec_queueSwitchIn, if_pos hq, State.switchIn_in h]
  · rw [invalidateCommand_first hl hs, if_pos hb]
  · rw [invalidateCommand_first hl hs, if_neg (by rw [hb]; exact Bool.false_ne_true), if_pos hp]
  · rw [invalidateCommand_waits hl hs, if_pos h]

end Sys2Proof.Machine

/-! # Bytes and numbers, lane registers and marks: what accesses are performed with -/

namespace Sys2Proof.Machine

/-! ## A number and its bytes (00 R2) -/

/-- The number that n bytes stand for, low byte first. -/
def bytesNum (b : Nat → Byte) (n : Nat) : Nat := (List.range n).foldl (fun x i => x + (b i).toNat * 256 ^ i) 0

theorem bytesNum_succ (b : Nat → Byte) (n : Nat) : bytesNum b (n + 1) = bytesNum b n + (b n).toNat * 256 ^ n := by
  unfold bytesNum
  rw [List.range_succ, List.foldl_append]
  rfl

theorem bytesNum_lt (b : Nat → Byte) (n : Nat) : bytesNum b n < 256 ^ n := by
  induction n with
  | zero => exact Nat.one_pos
  | succ n ih =>
    have hb : (b n).toNat * 256 ^ n ≤ 255 * 256 ^ n := Nat.mul_le_mul_right _ (by have := (b n).isLt; omega)
    rw [bytesNum_succ, Nat.pow_succ]
    omega

/-- The bytes of the number are the bytes it was made of. -/
theorem byteOf_bytesNum (b : Nat → Byte) {n i : Nat} (h : i < n) : byteOf (bytesNum b n) i = b i := by
  induction n with
  | zero => omega
  | succ n ih =>
    rw [bytesNum_succ]
    apply BitVec.eq_of_toNat_eq
    rw [byteOf_toNat]
    by_cases hi : i = n
    · subst hi
      rw [Nat.add_mul_div_right _ _ (Nat.pow_pos (by decide)), Nat.div_eq_of_lt (bytesNum_lt b i), Nat.zero_add,
        Nat.mod_eq_of_lt (b i).isLt]
    · have hin : i < n := by omega
      rw [← ih hin, byteOf_toNat]
      obtain ⟨k, rfl⟩ : ∃ k, n = i + 1 + k := ⟨n - (i + 1), by omega⟩
      have hp : (b (i + 1 + k)).toNat * 256 ^ (i + 1 + k) = (b (i + 1 + k)).toNat * 256 ^ k * 256 * 256 ^ i := by
        rw [Nat.pow_add, Nat.pow_succ]; ring
      rw [hp, Nat.add_mul_div_right _ _ (Nat.pow_pos (by decide)), Nat.add_mul_mod_self_right]

theorem State.readN_eq_bytesNum (s : State) (a n : Nat) : s.readN a n = bytesNum (fun i => s.byte (a + i)) n := by
  rw [State.readN_bytes s a n (bytesNum (fun i => s.byte (a + i)) n)
    (fun i hi => (byteOf_bytesNum (fun i => s.byte (a + i)) hi).symm), Nat.mod_eq_of_lt (bytesNum_lt _ _)]

theorem byteOf_div (x i j : Nat) : byteOf (x / 256 ^ i) j = byteOf x (i + j) := by
  unfold byteOf
  rw [Nat.div_div_eq_div_mul, ← Nat.pow_add]

/-- Byte i of a number of n bytes, which the number modulo 256^n has too. -/
theorem byteOf_mod (x : Nat) {i n : Nat} (h : i < n) : byteOf (x % 256 ^ n) i = byteOf x i := by
  apply BitVec.eq_of_toNat_eq
  rw [byteOf_toNat, byteOf_toNat]
  obtain ⟨k, rfl⟩ : ∃ k, n = i + (k + 1) := ⟨n - (i + 1), by omega⟩
  rw [Nat.pow_add, Nat.mod_mul_right_div_self, Nat.pow_succ, Nat.mod_mul_left_mod]

/-- A bit of a byte of a number. -/
theorem getLsbD_byteOf (x i j : Nat) : (byteOf x i).getLsbD j = (decide (j < 8) && x.testBit (8 * i + j)) := by
  unfold byteOf
  rw [BitVec.getLsbD_ofNat, show (256 : Nat) = 2 ^ 8 from rfl, ← Nat.pow_mul, Nat.testBit_div_two_pow, Nat.add_comm j]

/-- A piece of a number's word is a byte of the number. -/
theorem extractLsb'_ofNat (w x i : Nat) (h : 8 * i + 8 ≤ w) : (BitVec.ofNat w x).extractLsb' (8 * i) 8 = byteOf x i := by
  apply BitVec.eq_of_getLsbD_eq
  intro j hj
  rw [BitVec.getLsbD_extractLsb', BitVec.getLsbD_ofNat, getLsbD_byteOf]
  simp [hj, show 8 * i + j < w by omega]

/-- A word by its four bytes. -/
theorem word_eq_bytes (x : Nat) : BitVec.ofNat 32 x = byteOf x 3 ++ byteOf x 2 ++ byteOf x 1 ++ byteOf x 0 := by
  apply BitVec.eq_of_getLsbD_eq
  intro j hj
  simp only [BitVec.getLsbD_append, getLsbD_byteOf, BitVec.getLsbD_ofNat]
  rcases (by omega : j < 8 ∨ (8 ≤ j ∧ j < 16) ∨ (16 ≤ j ∧ j < 24) ∨ (24 ≤ j ∧ j < 32)) with h | h | h | h
  · simp [h, show j < 32 by omega]
  · simp [show ¬j < 8 by omega, show j - 8 < 8 by omega, show 8 + (j - 8) = j by omega, hj]
  · simp [show ¬j < 8 by omega, show ¬j - 8 < 8 by omega, show j - 8 - 8 < 8 by omega,
      show 16 + (j - 8 - 8) = j by omega, hj]
  · simp [show ¬j < 8 by omega, show ¬j - 8 < 8 by omega, show ¬j - 8 - 8 < 8 by omega, show j - 8 - 8 - 8 < 8 by omega,
      show 24 + (j - 8 - 8 - 8) = j by omega, hj]

/-- Word j of the number that n bytes stand for. -/
theorem word_bytesNum (b : Nat → Byte) {n j : Nat} (h : 4 * j + 4 ≤ n) :
    BitVec.ofNat 32 (bytesNum b n / 2 ^ (32 * j)) = b (4 * j + 3) ++ b (4 * j + 2) ++ b (4 * j + 1) ++ b (4 * j) := by
  have hp : 2 ^ (32 * j) = 256 ^ (4 * j) := by
    rw [show (256 : Nat) = 2 ^ 8 from rfl, ← Nat.pow_mul]
    congr 1
    omega
  rw [word_eq_bytes, hp, byteOf_div, byteOf_div, byteOf_div, byteOf_div, byteOf_bytesNum b (by omega),
    byteOf_bytesNum b (by omega), byteOf_bytesNum b (by omega), byteOf_bytesNum b (by omega)]
  rfl

/-! ## Lane registers -/

theorem laneKey_inj {r k l m : Nat} (hl : l < 32) (hm : m < 32) : laneKey r l = laneKey k m ↔ r = k ∧ l = m := by
  unfold laneKey
  omega

theorem Group.vreg_setV (g : Group) (r k l m : Nat) (x : Word) (hl : l < 32) (hm : m < 32) :
    (g.setV r l x).vreg k m = if k = r ∧ m = l then x else g.vreg k m := by
  unfold Group.vreg Group.setV
  simp only [SMap.get_put, laneKey_inj hm hl]

/-- What the words of a lane's result leave in the lane registers. -/
theorem Group.vreg_setWords (d l : Nat) (ws : List Word) (g : Group) (k m : Nat) (hl : l < 32) (hm : m < 32) :
    (g.setWords d l ws).vreg k m = if (d ≤ k ∧ k < d + ws.length) ∧ m = l then ws.getD (k - d) 0 else g.vreg k m := by
  unfold Group.setWords
  generalize ws.length = n
  induction n with
  | zero => rw [if_neg (by omega)]; rfl
  | succ n ih =>
    rw [List.range_succ, List.foldl_append, List.foldl_cons, List.foldl_nil, Group.vreg_setV _ _ _ _ _ _ hl hm, ih]
    by_cases h : k = d + n ∧ m = l
    · rw [if_pos h, if_pos ⟨by omega, h.2⟩, h.1, Nat.add_sub_cancel_left]
    · rw [if_neg h]
      by_cases h1 : (d ≤ k ∧ k < d + n) ∧ m = l
      · rw [if_pos h1, if_pos ⟨by omega, h1.2⟩]
      · rw [if_neg h1, if_neg (by omega)]

/-- Only the lane registers have changed. -/
def OnlyV (g h : Group) : Prop := ∃ v, h = { g with v := v }

theorem OnlyV.refl (g : Group) : OnlyV g g := ⟨g.v, rfl⟩

theorem OnlyV.trans {a b c : Group} (x : OnlyV a b) (y : OnlyV b c) : OnlyV a c := by
  obtain ⟨v, rfl⟩ := x
  obtain ⟨w, rfl⟩ := y
  exact ⟨w, rfl⟩

theorem OnlyV.foldl {α : Type} {f : Group → α → Group} (h : ∀ g x, OnlyV g (f g x)) (xs : List α) (g : Group) :
    OnlyV g (xs.foldl f g) := by
  induction xs generalizing g with
  | nil => exact OnlyV.refl g
  | cons x xs ih => exact (h g x).trans (ih (f g x))

theorem onlyV_setWords (d l : Nat) (ws : List Word) (g : Group) : OnlyV g (g.setWords d l ws) :=
  OnlyV.foldl (fun _ _ => ⟨_, rfl⟩) _ g

/-- The results of lanes, written one lane after another. -/
def Group.landLanes (d : Nat) (f : LaneAcc → List Word) (now : List LaneAcc) (g : Group) : Group :=
  now.foldl (fun h a => h.setWords d a.lane (f a)) g

theorem onlyV_landLanes (d : Nat) (f : LaneAcc → List Word) (now : List LaneAcc) (g : Group) :
    OnlyV g (g.landLanes d f now) := 
  OnlyV.foldl (fun h (a : LaneAcc) => onlyV_setWords d a.lane (f a) h) now g

/-- A register of no lane's result keeps its value. -/
theorem Group.vreg_landLanes_of_not (d : Nat) (f : LaneAcc → List Word) (now : List LaneAcc) (g : Group) (k m : Nat)
    (hl : ∀ a ∈ now, a.lane < 32) (hm : m < 32)
    (h : ∀ a ∈ now, ¬((d ≤ k ∧ k < d + (f a).length) ∧ m = a.lane)) : (g.landLanes d f now).vreg k m = g.vreg k m := by
  unfold Group.landLanes
  induction now generalizing g with
  | nil => rfl
  | cons a now ih =>
    rw [List.foldl_cons, ih _ (fun b hb => hl b (List.mem_cons_of_mem _ hb)) (fun b hb => h b (List.mem_cons_of_mem _ hb)),
      Group.vreg_setWords d a.lane (f a) g k m (hl a (List.mem_cons_self ..)) hm, if_neg (h a (List.mem_cons_self ..))]

/-- Each lane's result stands in its registers. -/
theorem Group.vreg_landLanes_of_mem (d : Nat) (f : LaneAcc → List Word) (now : List LaneAcc) (g : Group) (j : Nat)
    (hn : (now.map LaneAcc.lane).Nodup) (hl : ∀ a ∈ now, a.lane < 32) {a : LaneAcc} (ha : a ∈ now) (hj : j < (f a).length) :
    (g.landLanes d f now).vreg (d + j) a.lane = (f a).getD j 0 := by
  unfold Group.landLanes
  induction now generalizing g with
  | nil => cases ha
  | cons b now ih =>
    obtain ⟨hb, hn'⟩ := List.nodup_cons.mp hn
    have hl' : ∀ a ∈ now, a.lane < 32 := fun x hx => hl x (List.mem_cons_of_mem _ hx)
    rw [List.foldl_cons]
    rcases List.mem_cons.mp ha with rfl | hmem
    · have hout := Group.vreg_landLanes_of_not d f now (g.setWords d a.lane (f a)) (d + j) a.lane hl' (hl a ha)
        (fun x hx hc => hb (by rw [hc.2]; exact List.mem_map_of_mem hx))
      rw [Group.landLanes] at hout
      rw [hout, Group.vreg_setWords d a.lane (f a) g _ _ (hl a ha) (hl a ha), if_pos ⟨⟨by omega, by omega⟩, rfl⟩,
        Nat.add_sub_cancel_left]
    · exact ih _ hn' hl' hmem

/-! ## Marks on writes: they touch nothing else (23 R350-R353) -/

/-- Nothing has changed but what is marked of writes, and the free values drawn. -/
def OnlyMarks (s t : State) : Prop := ∃ w f, t = { s with writes := w, free := f }

theorem OnlyMarks.refl (s : State) : OnlyMarks s s := ⟨s.writes, s.free, rfl⟩

theorem OnlyMarks.trans {s t u : State} (a : OnlyMarks s t) (b : OnlyMarks t u) : OnlyMarks s u := by
  obtain ⟨w, f, rfl⟩ := a
  obtain ⟨w', f', rfl⟩ := b
  exact ⟨w', f', rfl⟩

theorem OnlyMarks.foldl {α : Type} {f : State → α → State} (h : ∀ s x, OnlyMarks s (f s x)) (xs : List α) (s : State) :
    OnlyMarks s (xs.foldl f s) := by
  induction xs generalizing s with
  | nil => exact OnlyMarks.refl s
  | cons x xs ih => exact (h s x).trans (ih (f s x))

theorem onlyMarks_markWrites (f : Write → List Reach) (s : State) : OnlyMarks s (s.markWrites f) := ⟨_, s.free, rfl⟩

theorem onlyMarks_releaseAt (g : SlotRef) (obs : BitVec 7) (s : State) : OnlyMarks s (s.releaseAt g obs) :=
  ⟨_, s.free, rfl⟩

theorem onlyMarks_storeDone (g : SlotRef) (o : Op) (s : State) : OnlyMarks s (s.storeDone g o) := ⟨_, s.free, rfl⟩

theorem onlyMarks_acquired (g : SlotRef) (o : Op) (s : State) : OnlyMarks s (s.acquired g o) := by
  unfold State.acquired
  split
  · exact OnlyMarks.refl s
  · exact ⟨_, s.free, rfl⟩

theorem onlyMarks_drawRead (s : State) : OnlyMarks s s.drawRead := by
  unfold State.drawRead
  split
  · exact OnlyMarks.refl s
  · exact ⟨s.writes, _, rfl⟩

theorem onlyMarks_noteRead (g : SlotRef) (o : Op) (a n : Nat) (s0 s : State) : OnlyMarks s (State.noteRead g o a n s0 s) :=
  ⟨_, s.free, rfl⟩

theorem onlyMarks_afterRead (s : State) (g : SlotRef) (o : Op) (ls : List Nat) (n : Nat) (s0 : State) :
    OnlyMarks s (s.afterRead g o ls n s0) :=
  ((OnlyMarks.foldl (fun t l => onlyMarks_noteRead g o l n s0 t) ls s).trans (onlyMarks_drawRead _)).trans
    (onlyMarks_acquired g o _)

/-! ## The end of an operation's step -/

/-- A group after a step of an operation: it goes on as a kind, or completes. -/
def Group.stepOp (o : Op) (k : Option OpKind) (g : Group) : Group :=
  match k with
  | some k => g.setOpKind o.id k
  | none => g.finishOp o

theorem State.opStep_eq (g : SlotRef) (o : Op) (k : Option OpKind) (s : State) :
    s.opStep g o k = s.modGrp g (Group.stepOp o k) := by
  cases k <;> rfl

theorem Group.clearFlag_keeps (g : Group) (f : Option Nat) :
    (g.clearFlag f).v = g.v ∧ (g.clearFlag f).o = g.o ∧ (g.clearFlag f).q = g.q ∧ (g.clearFlag f).p = g.p ∧
      (g.clearFlag f).ctxs = g.ctxs := by
  cases f <;> exact ⟨rfl, rfl, rfl, rfl, rfl⟩

/-- A step of an operation leaves the registers, predicates and contexts alone. -/
theorem Group.stepOp_keeps (o : Op) (k : Option OpKind) (g : Group) :
    (g.stepOp o k).v = g.v ∧ (g.stepOp o k).o = g.o ∧ (g.stepOp o k).q = g.q ∧ (g.stepOp o k).p = g.p ∧
      (g.stepOp o k).ctxs = g.ctxs := by
  cases k with
  | some k => exact ⟨rfl, rfl, rfl, rfl, rfl⟩
  | none => exact g.clearFlag_keeps o.flag

/-- The flag of an operation counts one less when it completes, and the same while it goes on. -/
theorem Group.flag_stepOp (o : Op) (k : Option OpKind) (g : Group) {f : Nat} (h : o.flag = some f) :
    ((g.stepOp o k).flag f).count = (g.flag f).count - if k.isSome then 0 else 1 := by
  cases k with
  | some k => rfl
  | none =>
    have hc : (g.stepOp o none).flag f = (g.modFlag f (fun x => { x with count := x.count - 1 })).flag f := by
      unfold Group.stepOp Group.finishOp
      rw [h]
      rfl
    rw [hc, Group.flag_modFlag, if_pos rfl]
    rfl

end Sys2Proof.Machine

/-! # Data returned to loads (obligation O31) -/

namespace Sys2Proof.Machine

/-! ## What an access observes (23 R350, R353) -/

/-- A byte read is the newest, or one that a write not observed replaced. -/
theorem pastByte_cases (f : Nat → Bool) (b : Byte) (h : List (Nat × Byte)) :
    pastByte f b h = b ∨ ∃ e ∈ h, f e.1 = true ∧ pastByte f b h = e.2 := by
  induction h generalizing b with
  | nil => exact .inl rfl
  | cons e r ih =>
    obtain ⟨n, old⟩ := e
    unfold pastByte
    split
    · rename_i hf
      rcases ih old with h | ⟨e, he, h1, h2⟩
      · exact .inr ⟨(n, old), List.mem_cons_self .., hf, h⟩
      · exact .inr ⟨e, List.mem_cons_of_mem _ he, h1, h2⟩
    · exact .inl rfl

theorem foldl_max_ge (xs : List Nat) (k : Nat) : k ≤ xs.foldl max k := by
  induction xs generalizing k with
  | nil => exact Nat.le_refl k
  | cons x xs ih => exact (Nat.le_max_left k x).trans (ih _)

theorem le_foldl_max (xs : List Nat) (k : Nat) {n : Nat} (h : n ∈ xs) : n ≤ xs.foldl max k := by
  induction xs generalizing k with
  | nil => cases h
  | cons x xs ih =>
    rcases List.mem_cons.mp h with rfl | h
    · exact (Nat.le_max_right k n).trans (foldl_max_ge xs _)
    · exact ih _ h

theorem foldl_min_le (xs : List Nat) (k : Nat) : xs.foldl min k ≤ k := by
  induction xs generalizing k with
  | nil => exact Nat.le_refl k
  | cons x xs ih => exact (ih _).trans (Nat.min_le_left k x)

/-- An access observes each write of its places that it must see. -/
theorem State.le_sight (s : State) (x : Reader) (key : Nat) (ps : List Nat) {p : Nat} {e : Nat × Byte} (hp : p ∈ ps)
    (he : e ∈ s.histAt p) (h : s.mustSee x e.1 = true) : e.1 ≤ s.sight x key ps := by
  refine Nat.le_trans ?_ (Nat.le_max_right _ _)
  exact le_foldl_max _ 0 (List.mem_filter.mpr ⟨List.mem_flatMap.mpr ⟨p, hp, List.mem_map_of_mem he⟩, h⟩)

theorem mem_unitOf (n p : Nat) (h : 0 < n) : p ∈ unitOf n p :=
  List.mem_map.mpr ⟨p % n, List.mem_range.mpr (Nat.mod_lt p h), Nat.div_add_mod p n⟩

theorem State.firstOf_le (s : State) (w : Write) (n : Nat) (ps : List Nat) : s.firstOf w n ps ≤ n := foldl_min_le _ n

/-- A write that an agent must see hides behind no engine's write of its line. -/
theorem State.lineHides_of_mustSee (s : State) (x : Reader) {p : Nat} {e : Nat × Byte} (he : e ∈ s.histAt p)
    (h : s.mustSee x e.1 = true) : s.lineHides x p e.1 = false := by
  have hs : e.1 ≤ s.lineSight x p := s.le_sight x _ _ (mem_unitOf 64 p (by decide)) he h
  unfold State.lineHides
  rw [Bool.and_eq_false_iff]
  refine .inr (List.any_eq_false.mpr (fun m _ hc => ?_))
  split at hc
  · cases hc
  · simp only [Bool.and_eq_true, decide_eq_true_eq] at hc
    omega

/-- A write that an agent must see is never unobserved. -/
theorem State.unseenOf_of_mustSee (s : State) (x : Reader) (key : Nat) (ps : List Nat) {p : Nat} {e : Nat × Byte}
    (hp : p ∈ ps) (he : e ∈ s.histAt p) (h : s.mustSee x e.1 = true) : s.unseenOf x key ps p e.1 = false := by
  have hs := s.le_sight x (2 * key) ps hp he h
  have hl : e.1 ≤ s.lineSight x p := s.le_sight x _ _ (mem_unitOf 64 p (by decide)) he h
  unfold State.unseenOf
  split
  · rfl
  · rename_i w _
    split
    · rfl
    · split
      · have hf := s.firstOf_le w e.1 (unitOf 64 p)
        simp only [decide_eq_false_iff_not]
        omega
      · rw [s.lineHides_of_mustSee x he h]
        simp only [Bool.or_false, decide_eq_false_iff_not]
        omega

theorem Group.isPlain_kind {g : Group} (h : g.isPlain = true) (obj : Nat) : g.kind ≠ .combiner obj := by
  intro hk
  unfold Group.isPlain at h
  rw [hk] at h
  cases h

theorem State.waveObj_plain {s : State} {g : SlotRef} (h : (s.grp g).isPlain = true) : s.waveObj g = none := by
  unfold State.waveObj
  split
  · rename_i hk
    exact absurd hk (Group.isPlain_kind h _)
  · rfl

/-- No write is held for a group or lane-handler wave. -/
theorem State.heldByte_plain {s : State} {g : SlotRef} (h : (s.grp g).isPlain = true) (p : Nat) : s.heldByte g p = none := by
  unfold State.heldByte
  rw [State.waveObj_plain h]
  rfl

theorem State.viewByte_plain {s : State} {g : SlotRef} (h : (s.grp g).isPlain = true) (a n p : Nat) :
    s.viewByte g a n p = pastByte (s.slotUnseen g a n p) (s.byte p) (s.histAt p) := by
  unfold State.viewByte
  rw [State.heldByte_plain h]
  rfl

theorem State.baseByte_plain {s : State} {g : SlotRef} (h : (s.grp g).isPlain = true) (p : Nat) : s.baseByte g p = s.byte p := by
  unfold State.baseByte
  rw [State.heldByte_plain h]
  rfl

/-- What a slot's access of n bytes at p observes of byte i: the newest byte, or one that a write replaced which the slot
need not see. -/
theorem State.viewByte_cases {s : State} {g : SlotRef} (h : (s.grp g).isPlain = true) (p n i : Nat) (hi : i < n) :
    s.viewByte g p n (p + i) = s.byte (p + i) ∨
      ∃ e ∈ s.histAt (p + i), s.mustSee (.slot g) e.1 = false ∧ s.viewByte g p n (p + i) = e.2 := by
  rw [State.viewByte_plain h]
  rcases pastByte_cases (s.slotUnseen g p n (p + i)) (s.byte (p + i)) (s.histAt (p + i)) with h1 | ⟨e, he, hf, h2⟩
  · exact .inl h1
  · refine .inr ⟨e, he, Bool.eq_false_iff.mpr (fun hm => ?_), h2⟩
    have hp : p + i ∈ (List.range n).map (fun j => p + j) := List.mem_map.mpr ⟨i, List.mem_range.mpr hi, rfl⟩
    have hu := s.unseenOf_of_mustSee (.slot g) p _ hp he hm
    exact Bool.false_ne_true (hu.symm.trans hf)

/-- Where nothing of the slot stands before an operation, it reads what an access of its places observes. -/
theorem State.opRead_first {s : State} {g : SlotRef} {o : Op} (h : (s.grp g).earlier o.id = []) (a n : Nat) :
    s.opRead g o a n = bytesNum (fun i => s.viewByte g a n (a + i)) n := by
  unfold State.opRead
  rw [h]
  rfl

/-! ## Which lanes return together (09 R162) -/

theorem LaneAcc.joins_eq (a b : LaneAcc) :
    a.joins b = (decide (a.loc = b.loc) || match a.loc, b.loc with
      | some x, some y => decide (x < 2 ^ 60 ∧ x / 64 = y / 64)
      | _, _ => false) := by
  unfold LaneAcc.joins isPhys lineOf
  cases a.loc with
  | none => cases b.loc <;> simp
  | some x => cases b.loc <;> simp

theorem together_eq (acc : List LaneAcc) (lanes : Word) (a : LaneAcc) :
    together acc lanes a = acc.any (fun b => inMask lanes b.lane && b.joins a) := by
  unfold together
  rw [List.any_filter]

/-! ## What the return of data leaves alone -/

/-- The return of data to a group's registers leaves all but the group as it was. -/
def ReadQuiet (g : SlotRef) (s t : State) : Prop :=
  t.mem = s.mem ∧ t.names = s.names ∧ t.teams = s.teams ∧ t.tasks = s.tasks ∧ t.cores = s.cores ∧
    (∀ h : SlotRef, h.key ≠ g.key → t.grp h = s.grp h) ∧ (t.grp g).q = (s.grp g).q ∧ (t.grp g).o = (s.grp g).o ∧
    (t.grp g).p = (s.grp g).p

theorem State.names_modGrp (s : State) (g : SlotRef) (f : Group → Group) : (s.modGrp g f).names = s.names := by
  simp [State.names, State.modGrp, keys_upd]

theorem State.hasGrp_modGrp (s : State) (g h : SlotRef) (f : Group → Group) : (s.modGrp g f).hasGrp h = s.hasGrp h := by
  unfold State.hasGrp
  rw [look_isSome, look_isSome]
  simp [State.modGrp, keys_upd]

/-- Registers written and writes marked: then a step of the operation ends it or not. -/
theorem readStep {s t : State} {g : SlotRef} {F : Group → Group} (hg : s.hasGrp g = true)
    (hm : OnlyMarks (s.modGrp g F) t) (o : Op) (k : Option OpKind) :
    (t.opStep g o k).grp g = (F (s.grp g)).stepOp o k ∧
      ((F (s.grp g)).q = (s.grp g).q → (F (s.grp g)).o = (s.grp g).o → (F (s.grp g)).p = (s.grp g).p →
        ReadQuiet g s (t.opStep g o k)) := by
  obtain ⟨w, f, rfl⟩ := hm
  rw [State.opStep_eq]
  have ht : ({ s.modGrp g F with writes := w, free := f } : State).hasGrp g = true :=
    (s.hasGrp_modGrp g g F).trans hg
  have hgrp : ∀ h : SlotRef, ({ s.modGrp g F with writes := w, free := f } : State).grp h = (s.modGrp g F).grp h := fun _ => rfl
  have hhere : (({ s.modGrp g F with writes := w, free := f } : State).modGrp g (Group.stepOp o k)).grp g =
      (F (s.grp g)).stepOp o k := by
    rw [State.grp_modGrp _ _ _ _ ht, if_pos rfl, hgrp, State.grp_modGrp _ _ _ _ hg, if_pos rfl]
  refine ⟨hhere, fun hq ho hp => ?_⟩
  obtain ⟨-, h_o, h_q, h_p, -⟩ := Group.stepOp_keeps o k (F (s.grp g))
  refine ⟨rfl, (State.names_modGrp _ _ _).trans (State.names_modGrp s g F), rfl, rfl, rfl, fun h hne => ?_, ?_, ?_, ?_⟩
  · rw [State.grp_modGrp _ _ _ _ ht, if_neg hne, hgrp, State.grp_modGrp _ _ _ _ hg, if_neg hne]
  · rw [hhere, h_q, hq]
  · rw [hhere, h_o, ho]
  · rw [hhere, h_p, hp]

/-- Words landed in lanes: what the group shows behind the step. -/
theorem landed {s t : State} {g : SlotRef} {d : Nat} {f : LaneAcc → List Word} {acc : List LaneAcc} {lanes : Word}
    (hg : s.hasGrp g = true) (hn : (acc.map LaneAcc.lane).Nodup) (hl : ∀ a ∈ acc, a.lane < 32) (o : Op) (k : OpKind)
    (hm : OnlyMarks (s.modGrp g (Group.landLanes d f (acc.filter (together acc lanes)))) t)
    {u : State} (hu : u = t.opStep g o
      (if acc.filter (fun a => !together acc lanes a) = [] then none else some k)) :
    ReadQuiet g s u ∧ (u.grp g).ctxs = (s.grp g).ctxs ∧
      (∀ c, o.flag = some c → ((u.grp g).flag c).count = ((s.grp g).flag c).count -
        if acc.any (fun a => !together acc lanes a) then 0 else 1) ∧
      (∀ a ∈ acc, together acc lanes a = true → ∀ j, j < (f a).length → (u.grp g).vreg (d + j) a.lane = (f a).getD j 0) ∧
      (∀ r l, l < 32 → (∀ a ∈ acc, together acc lanes a = true → ¬((d ≤ r ∧ r < d + (f a).length) ∧ l = a.lane)) →
        (u.grp g).vreg r l = (s.grp g).vreg r l) := by
  subst hu
  obtain ⟨hhere, hquiet⟩ := readStep hg hm o (if acc.filter (fun a => !together acc lanes a) = [] then none else some k)
  obtain ⟨v, hv⟩ := onlyV_landLanes d f (acc.filter (together acc lanes)) (s.grp g)
  obtain ⟨h_v, -, -, -, h_ctx⟩ := Group.stepOp_keeps o
    (if acc.filter (fun a => !together acc lanes a) = [] then none else some k)
    (Group.landLanes d f (acc.filter (together acc lanes)) (s.grp g))
  have hvreg : ∀ r l, ((Group.landLanes d f (acc.filter (together acc lanes)) (s.grp g)).stepOp o
      (if acc.filter (fun a => !together acc lanes a) = [] then none else some k)).vreg r l =
      (Group.landLanes d f (acc.filter (together acc lanes)) (s.grp g)).vreg r l := fun r l => by
    unfold Group.vreg
    rw [h_v]
  have hl' : ∀ a ∈ acc.filter (together acc lanes), a.lane < 32 := fun a ha => hl a (List.mem_filter.mp ha).1
  refine ⟨hquiet (by rw [hv]) (by rw [hv]) (by rw [hv]), ?_, fun c hc => ?_, fun a ha hta j hj => ?_, fun r l hr hout => ?_⟩
  · rw [hhere, h_ctx, hv]
  · rw [hhere, Group.flag_stepOp o _ _ hc, hv]
    have hany : (acc.filter (fun a => !together acc lanes a) = []) ↔ ¬(acc.any (fun a => !together acc lanes a) = true) := by
      simp [List.filter_eq_nil_iff]
    by_cases hr : acc.filter (fun a => !together acc lanes a) = []
    · rw [if_pos hr, if_neg (hany.mp hr)]
      rfl
    · rw [if_neg hr, if_pos Option.isSome_some, if_pos (by rwa [hany, not_not] at hr)]
      rfl
  · rw [hhere, hvreg]
    exact Group.vreg_landLanes_of_mem d f _ _ j (hn.sublist (List.filter_sublist.map _)) hl'
      (List.mem_filter.mpr ⟨ha, hta⟩) hj
  · rw [hhere, hvreg]
    exact Group.vreg_landLanes_of_not d f _ _ r l hl' hr
      (fun a ha => hout a (List.mem_filter.mp ha).1 (List.mem_filter.mp ha).2)

/-! ## The three kinds of loads -/

/-- An operation that comes first in its slot, waits for no trap and meets no held line may be performed. -/
theorem State.mayPerform_first {s : State} {g : SlotRef} {o : Op} (hp : (s.grp g).earlier o.id = []) (hgate : o.gate = false)
    (hw : ∀ x ∈ s.opSpans g o, s.waveHolds g x.loc x.n = false)
    (ho : (o.isLoad || !(s.grp g).isPlain || !(s.opSpans g o).any s.spanOwned) = true) : s.mayPerform g o = true := by
  have hany : (s.opSpans g o).any (fun x => s.waveHolds g x.loc x.n) = false :=
    List.any_eq_false.mpr (fun x hx => Bool.eq_false_iff.mp (hw x hx))
  unfold State.mayPerform
  simp only [hp, hgate, hany, ho, List.any_nil, Bool.and_false, Bool.not_false, Bool.and_self]

theorem execLoad_eq {s : State} {g : SlotRef} {n : Nat} {lanes : Word} {o : Op} {k : LoadKind} {d : Nat} {acc : List LaneAcc}
    (hf : (s.grp g).findOp n = some o) (hk : o.kind = .load k d acc) (hm : s.mayPerform g o = true) :
    exec (.loadDataReturn g n lanes) s = .next (((s.modGrp g (Group.landLanes d
      (fun a => loadWords k (s.opRead g o (a.loc.getD 0) k.size)) (acc.filter (together acc lanes)))).afterRead g o
        ((acc.filter (together acc lanes)).map (fun a => a.loc.getD 0)) k.size s).opStep g o
          (if acc.filter (fun a => !together acc lanes a) = [] then none
           else some (.load k d (acc.filter (fun a => !together acc lanes a))))) := by
  have e : exec (.loadDataReturn g n lanes) s = execLoadDataReturn g n lanes s := rfl
  rw [e]
  unfold execLoadDataReturn
  simp only [hf, hk, hm, Bool.not_true, Bool.false_eq_true, if_false]
  rfl

theorem execLoadS_eq {s : State} {g : SlotRef} {n : Nat} {lanes : Word} {o : Op} {size d : Nat} {a : LaneAcc}
    (hf : (s.grp g).findOp n = some o) (hk : o.kind = .loadS size d a) (hm : s.mayPerform g o = true) :
    exec (.loadDataReturn g n lanes) s = .next (((s.modGrp g (Group.modCtx o.ctx (Context.setS d
      (BitVec.ofNat 64 (s.opRead g o (a.loc.getD 0) size))))).afterRead g o [a.loc.getD 0] size s).opStep g o none) := by
  have e : exec (.loadDataReturn g n lanes) s = execLoadDataReturn g n lanes s := rfl
  rw [e]
  unfold execLoadDataReturn
  simp only [hf, hk, hm, Bool.not_true, Bool.false_eq_true, if_false]
  rfl

/-- The word that a lane of LDC reads: 0 without ownership (09 R168). -/
def State.constWord (s : State) (a : LaneAcc) : Word :=
  match a.loc with
  | some p => BitVec.ofNat 32 (s.readN p 4)
  | none => 0

theorem execLdc_eq {s : State} {g : SlotRef} {n : Nat} {lanes : Word} {o : Op} {d : Nat} {acc : List LaneAcc}
    (hf : (s.grp g).findOp n = some o) (hk : o.kind = .ldc d acc) (hm : s.mayPerform g o = true) :
    exec (.loadDataReturn g n lanes) s = .next ((s.modGrp g (Group.landLanes d (fun a => [s.constWord a])
      (acc.filter (together acc lanes)))).opStep g o
        (if acc.filter (fun a => !together acc lanes a) = [] then none
         else some (.ldc d (acc.filter (fun a => !together acc lanes a))))) := by
  have e : exec (.loadDataReturn g n lanes) s = execLoadDataReturn g n lanes s := rfl
  rw [e]
  unfold execLoadDataReturn
  simp only [hf, hk, hm, Bool.not_true, Bool.false_eq_true, if_false]
  rfl

/-! ## The words of a load (09 R157) -/

theorem loadWords_byte (sgn : Bool) (b : Nat → Byte) :
    loadWords ⟨1, sgn⟩ (bytesNum b 1) = [if sgn then (b 0).signExtend 32 else (b 0).setWidth 32] := by
  have hx : bytesNum b 1 = (b 0).toNat := by simp [bytesNum]
  unfold loadWords
  simp only [hx, BitVec.ofNat_toNat, BitVec.setWidth_eq]

theorem loadWords_half (sgn : Bool) (b : Nat → Byte) :
    loadWords ⟨2, sgn⟩ (bytesNum b 2) = [if sgn then (b 1 ++ b 0).signExtend 32 else (b 1 ++ b 0).setWidth 32] := by
  have hx : bytesNum b 2 = (b 1 ++ b 0).toNat := by
    rw [BitVec.toNat_append, ← Nat.shiftLeft_add_eq_or_of_lt (b 0).isLt, Nat.shiftLeft_eq, bytesNum_succ, bytesNum_succ]
    simp [bytesNum]
    omega
  unfold loadWords
  simp only [hx, BitVec.ofNat_toNat, BitVec.setWidth_eq]

/-- From four bytes on a load fills one register per word. -/
theorem loadWords_words (sgn : Bool) (b : Nat → Byte) {size : Nat} (hs : size ∈ [4, 8, 16]) :
    (loadWords ⟨size, sgn⟩ (bytesNum b size)).length = size / 4 ∧ ∀ j, 4 * j + 4 ≤ size →
      (loadWords ⟨size, sgn⟩ (bytesNum b size)).getD j 0 = b (4 * j + 3) ++ b (4 * j + 2) ++ b (4 * j + 1) ++ b (4 * j) := by
  have hw := fun j (h : 4 * j + 4 ≤ size) => word_bytesNum b h
  simp only [List.mem_cons, List.not_mem_nil, or_false] at hs
  rcases hs with rfl | rfl | rfl
  · refine ⟨rfl, fun j hj => ?_⟩
    rw [← hw j hj]
    obtain rfl : j = 0 := by omega
    exact congrArg (BitVec.ofNat 32) (Nat.div_one _).symm
  · refine ⟨rfl, fun j hj => ?_⟩
    rw [← hw j hj]
    rcases (by omega : j = 0 ∨ j = 1) with rfl | rfl
    · exact congrArg (BitVec.ofNat 32) (Nat.div_one _).symm
    · rfl
  · refine ⟨rfl, fun j hj => ?_⟩
    rw [← hw j hj]
    rcases (by omega : j = 0 ∨ j = 1 ∨ j = 2 ∨ j = 3) with rfl | rfl | rfl | rfl
    · exact congrArg (BitVec.ofNat 32) (Nat.div_one _).symm
    · rfl
    · rfl
    · rfl

theorem loadWords_length (sgn : Bool) (x : Nat) {size : Nat} (hs : size ∈ [1, 2, 4, 8, 16]) :
    (loadWords ⟨size, sgn⟩ x).length = (size + 3) / 4 := by
  simp only [List.mem_cons, List.not_mem_nil, or_false] at hs
  rcases hs with rfl | rfl | rfl | rfl | rfl <;> rfl

end Sys2Proof.Machine

namespace Sys2Proof.Machine

/-! ## The statement -/

/-- What the return of lanes' data shows: all but the group as before, its contexts, the count of the operation's flag, and
the lane registers. -/
def LanesReturned (g : SlotRef) (o : Op) (lanes : Word) (acc : List LaneAcc) (d : Nat) (f : LaneAcc → List Word)
    (s t : State) : Prop :=
  ReadQuiet g s t ∧ (t.grp g).ctxs = (s.grp g).ctxs ∧
    (∀ c, o.flag = some c → ((t.grp g).flag c).count = ((s.grp g).flag c).count -
      if acc.any (fun a => !together acc lanes a) then 0 else 1) ∧
    (∀ a ∈ acc, together acc lanes a = true → ∀ j, j < (f a).length → (t.grp g).vreg (d + j) a.lane = (f a).getD j 0) ∧
    (∀ r l, l < 32 → (∀ a ∈ acc, together acc lanes a = true → ¬((d ≤ r ∧ r < d + (f a).length) ∧ l = a.lane)) →
      (t.grp g).vreg r l = (s.grp g).vreg r l)

/-- A vector load's data return. -/
theorem load_returns {s : State} {g : SlotRef} {n : Nat} {lanes : Word} {o : Op} {k : LoadKind} {d : Nat}
    {acc : List LaneAcc} (hg : s.hasGrp g = true) (hf : (s.grp g).findOp n = some o) (hm : s.mayPerform g o = true)
    (hk : o.kind = .load k d acc) (hn : (acc.map LaneAcc.lane).Nodup) (hl : ∀ a ∈ acc, a.lane < 32)
    (hfirst : (s.grp g).earlier o.id = []) :
    ∃ t, exec (.loadDataReturn g n lanes) s = .next t ∧ LanesReturned g o lanes acc d (fun a => loadWords k
      (bytesNum (fun i => s.viewByte g (a.loc.getD 0) k.size (a.loc.getD 0 + i)) k.size)) s t := by
  refine ⟨_, execLoad_eq hf hk hm, ?_⟩
  simp only [State.opRead_first hfirst]
  exact landed hg hn hl o _ (onlyMarks_afterRead _ _ _ _ _ _) rfl

/-- The data of an LDC return. -/
theorem ldc_returns {s : State} {g : SlotRef} {n : Nat} {lanes : Word} {o : Op} {d : Nat} {acc : List LaneAcc}
    (hg : s.hasGrp g = true) (hf : (s.grp g).findOp n = some o) (hm : s.mayPerform g o = true)
    (hk : o.kind = .ldc d acc) (hn : (acc.map LaneAcc.lane).Nodup) (hl : ∀ a ∈ acc, a.lane < 32) :
    ∃ t, exec (.loadDataReturn g n lanes) s = .next t ∧
      LanesReturned g o lanes acc d (fun a => [s.constWord a]) s t :=
  ⟨_, execLdc_eq hf hk hm, landed hg hn hl o _ (OnlyMarks.refl _) rfl⟩

theorem Context.sreg_setS_ne (c : Context) {r k : Nat} (v : DWord) (h : k ≠ r) : (c.setS r v).sreg k = c.sreg k := by
  by_cases hk : k = 0
  · subst hk
    rfl
  · rw [Context.sreg_setS c r k v hk, if_neg h]

theorem Group.ctx_modCtx (g : Group) (i : Nat) (f : Context → Context) :
    ((g.modCtx i f).ctx i) = if g.ctxs.look i = none then Context.empty else f (g.ctx i) := by
  unfold Group.ctx Group.modCtx SMap.get
  rw [SMap.look_upd_self]
  cases g.ctxs.look i <;> rfl

/-- A scalar load's data return to the register of the context that then bears the number (02 R28). -/
theorem loadS_returns {s : State} {g : SlotRef} {n : Nat} {lanes : Word} {o : Op} {size d p : Nat} {a : LaneAcc}
    (hg : s.hasGrp g = true) (hf : (s.grp g).findOp n = some o) (hm : s.mayPerform g o = true)
    (hk : o.kind = .loadS size d a) (hp : a.loc = some p) (hfirst : (s.grp g).earlier o.id = []) :
    ∃ t, exec (.loadDataReturn g n lanes) s = .next t ∧ ReadQuiet g s t ∧ (t.grp g).v = (s.grp g).v ∧
      (∀ f, o.flag = some f → ((t.grp g).flag f).count = ((s.grp g).flag f).count - 1) ∧
      (t.grp g).ctx o.ctx = (Group.modCtx o.ctx (Context.setS d
        (BitVec.ofNat 64 (bytesNum (fun i => s.viewByte g p size (p + i)) size))) (s.grp g)).ctx o.ctx := by
  refine ⟨_, execLoadS_eq hf hk hm, ?_⟩
  simp only [State.opRead_first hfirst, hp, Option.getD_some]
  obtain ⟨hhere, hquiet⟩ := readStep hg (onlyMarks_afterRead (s.modGrp g (Group.modCtx o.ctx (Context.setS d
    (BitVec.ofNat 64 (bytesNum (fun i => s.viewByte g p size (p + i)) size))))) g o [p] size s) o none
  obtain ⟨h_v, -, -, -, h_ctx⟩ := Group.stepOp_keeps o none (Group.modCtx o.ctx (Context.setS d
    (BitVec.ofNat 64 (bytesNum (fun i => s.viewByte g p size (p + i)) size))) (s.grp g))
  refine ⟨hquiet rfl rfl rfl, ?_, fun f hflag => ?_, ?_⟩
  · rw [hhere, h_v]
    rfl
  · rw [hhere, Group.flag_stepOp o none _ hflag]
    rfl
  · rw [hhere]
    unfold Group.ctx
    rw [h_ctx]

/-- Settles O31: data come back through one inversion per kind of load (`load_returns`, `loadS_returns`, `ldc_returns`), and
what an access observes is `State.viewByte_cases`. That a scalar load's data go to the register of the context then bearing
the number, and to the handler's bank while a handler runs, is the model's choice (logs 112, 133). -/
theorem loadsReturn : Obligations.LoadsReturn := by
  unfold Obligations.LoadsReturn
  intro s g n lanes o hg hplain hfind hearlier hid hgate hheld see u quiet count joined takes
  have hf : (s.grp g).findOp n = some o := hfind
  have hfirst : (s.grp g).earlier o.id = [] := by rw [hid]; exact hearlier
  have htakes : takes = fun acc a => together acc lanes a := by
    funext acc a
    rw [together_eq]
    simp only [LaneAcc.joins_eq]
    rfl
  rw [htakes]
  refine ⟨fun k p i hi => ⟨State.viewByte_cases hplain p k i hi, fun hall => ?_⟩, ?_, ?_, ?_⟩
  · rcases State.viewByte_cases hplain p k i hi with h | ⟨e, he, hno, -⟩
    · exact h
    · exact absurd (hno.symm.trans (hall i hi e he)) Bool.false_ne_true
  · intro size sgn d acc hk hn hacc hsize
    have hm : s.mayPerform g o = true :=
      State.mayPerform_first hfirst hgate hheld (by simp [Op.isLoad, hk])
    obtain ⟨t, ht, hquiet, hctx, hcount, hin, hout⟩ :=
      load_returns (lanes := lanes) hg hf hm hk hn (fun a ha => (hacc a ha).1) hfirst
    refine ⟨t, ht, hquiet, hctx, hcount, fun a ha hta p hp => ?_, fun r l hl hno => hout r l hl (fun a ha hta hc => ?_)⟩
    · have hword := hin a ha hta
      simp only [hp, Option.getD_some] at hword
      refine ⟨fun h1 => ?_, fun h2 => ?_, fun j hj h4 => ?_⟩
      · subst h1
        rw [loadWords_byte] at hword
        exact hword 0 Nat.one_pos
      · subst h2
        rw [loadWords_half] at hword
        exact hword 0 Nat.one_pos
      · have hs : size ∈ [4, 8, 16] := by
          simp only [List.mem_cons, List.not_mem_nil, or_false] at hsize ⊢
          omega
        obtain ⟨hlen, hval⟩ := loadWords_words sgn (fun i => s.viewByte g p size (p + i)) hs
        exact (hword j (by rw [hlen]; omega)).trans (hval j hj)
    · rw [loadWords_length sgn _ hsize] at hc
      exact hno ⟨hc.1.1, by omega, a, ha, hc.2.symm, hta⟩
  · intro size d a p hk hp hsize
    have hm : s.mayPerform g o = true :=
      State.mayPerform_first hfirst hgate hheld (by simp [Op.isLoad, hk])
    obtain ⟨t, ht, hquiet, h_v, hcount, hctx⟩ := loadS_returns (lanes := lanes) hg hf hm hk hp hfirst
    have hreg := fun r => congrArg (fun c => Context.sreg c r) hctx
    simp only [Group.ctx_modCtx] at hreg
    refine ⟨t, ht, hquiet, h_v, hcount, fun hd hlook => ?_, fun r hr => (hreg r).trans ?_⟩
    · have hval := hreg d
      rw [if_neg hlook, Context.sreg_setS _ _ _ _ (by omega), if_pos rfl] at hval
      have hle : size ≤ 8 := by
        simp only [List.mem_cons, List.not_mem_nil, or_false] at hsize
        omega
      refine ⟨?_, fun i hi => ?_⟩
      · rw [hval, BitVec.toNat_ofNat]
        exact Nat.lt_of_le_of_lt (Nat.mod_le _ _) (bytesNum_lt _ size)
      · rw [hval, extractLsb'_ofNat 64 _ i (by omega), byteOf_bytesNum _ hi]
    · split
      · rename_i hnone
        simp [Group.ctx, SMap.get, hnone]
      · exact Context.sreg_setS_ne _ _ hr
  · intro d acc hk hn hl
    have hm : s.mayPerform g o = true :=
      State.mayPerform_first hfirst hgate hheld (by simp [State.opSpans, hk])
    obtain ⟨t, ht, hquiet, hctx, hcount, hin, hout⟩ := ldc_returns (lanes := lanes) hg hf hm hk hn hl
    refine ⟨t, ht, hquiet, hctx, hcount, fun a ha hta => hin a ha hta 0 Nat.one_pos,
      fun r l hl hno => hout r l hl (fun a ha hta hc => hno ⟨?_, a, ha, hc.2.symm, hta⟩)⟩
    exact Nat.le_antisymm (Nat.le_of_lt_succ hc.1.2) hc.1.1

end Sys2Proof.Machine

/-! # Performing an access: what its steps keep of the groups, and the bytes it writes -/

namespace Sys2Proof.Machine

/-! ## What the steps keep of the groups -/

/-- A group as the views show it, without the last pages of its lanes. -/
def Group.file (g : Group) : Group := { g.bare with pages := [] }

/-- A step of an operation of a slot keeps every group as the views show it, but for the last pages of the slot's own. -/
structure Kept (g : SlotRef) (s t : State) : Prop where
  has : t.hasGrp g = s.hasGrp g
  here : (t.grp g).file = (s.grp g).file
  others : ∀ h : SlotRef, h.key ≠ g.key → (t.grp h).bare = (s.grp h).bare

theorem Kept.refl (g : SlotRef) (s : State) : Kept g s s := ⟨rfl, rfl, fun _ _ => rfl⟩

theorem Kept.trans {g : SlotRef} {s t u : State} (a : Kept g s t) (b : Kept g t u) : Kept g s u :=
  ⟨b.has.trans a.has, b.here.trans a.here, fun h hne => (b.others h hne).trans (a.others h hne)⟩

theorem Kept.of_groups {g : SlotRef} {s t : State} (h : t.groups = s.groups) : Kept g s t := by
  have hgrp : ∀ k, t.grp k = s.grp k := fun k => by unfold State.grp; rw [h]
  exact ⟨by unfold State.hasGrp; rw [h], by rw [hgrp], fun k _ => by rw [hgrp]⟩

theorem Kept.of_quiet {g : SlotRef} {s t : State} (h : Quiet s t) : Kept g s t :=
  ⟨h.hasGrp g, congrArg (fun x : Group => { x with pages := [] }) (h.groups g), fun k _ => h.groups k⟩

theorem Kept.of_marks {g : SlotRef} {s t : State} (h : OnlyMarks s t) : Kept g s t := by
  obtain ⟨w, f, rfl⟩ := h
  exact Kept.of_groups rfl

theorem kept_remember (g : SlotRef) (lane : Nat) (a : DWord) (x : Xlat) (s : State) : Kept g s (s.remember g lane a x) := by
  have hpages : ∀ p, Kept g s (s.modGrp g (fun h => { h with pages := h.pages.ins lane p })) := fun p =>
    ⟨State.hasGrp_modGrp _ _ _ _, get_upd_view s.groups Group.empty g.key g.key _ Group.file (fun _ => rfl),
      fun k hne => by simp [State.grp, State.modGrp, SMap.get, SMap.look_upd_ne _ _ _ _ hne]⟩
  unfold State.remember
  simp only
  split
  · exact (hpages _).trans (Kept.of_groups rfl)
  · split
    · exact (hpages _).trans (Kept.of_groups rfl)
    · exact (hpages _).trans (Kept.of_groups rfl)

theorem kept_lookup (g : SlotRef) (lane : Nat) (a : DWord) (s : State) : Kept g s (s.lookup g lane a) := by
  unfold State.lookup
  split
  · exact kept_remember g lane a _ s
  · exact Kept.refl g s

@[simp] theorem State.publish_groups (s : State) (w : Write) (s0 : State) (ps : List Nat) :
    (s.publish w s0 ps).groups = s.groups := by
  unfold State.publish
  simp only
  split <;> rfl

@[simp] theorem State.publish_teams (s : State) (w : Write) (s0 : State) (ps : List Nat) :
    (s.publish w s0 ps).teams = s.teams := by
  unfold State.publish
  simp only
  split <;> rfl

/-! ## The group itself -/

/-- What a group's view shows is the same in two groups of one view. -/
theorem Group.eq_of_file {β : Type} (f : Group → β) (hf : ∀ x : Group, f x.file = f x) {g h : Group}
    (e : h.file = g.file) : f h = f g := by
  rw [← hf h, e, hf g]

theorem Kept.isPlain {g : SlotRef} {s t : State} (h : Kept g s t) : (t.grp g).isPlain = (s.grp g).isPlain := by
  have hk : (t.grp g).kind = (s.grp g).kind := Group.eq_of_file Group.kind (fun _ => rfl) h.here
  unfold Group.isPlain
  rw [hk]

theorem get_map_bare (a : SMap Context) (i : Nat) :
    (SMap.get (a.map (fun e => (e.1, e.2.bare))) Context.empty i).s = (SMap.get a Context.empty i).s := by
  induction a with
  | nil => rfl
  | cons e r ih =>
    obtain ⟨k, c⟩ := e
    simp only [List.map_cons, SMap.get, SMap.look] at ih ⊢
    split
    · rfl
    · exact ih

/-- The scalar registers of a group's contexts stand in its view. -/
theorem ctx_s_of_file {g h : Group} (e : h.file = g.file) (i : Nat) : (h.ctx i).s = (g.ctx i).s := by
  have hc : h.ctxs.map (fun e => (e.1, e.2.bare)) = g.ctxs.map (fun e => (e.1, e.2.bare)) := congrArg Group.ctxs e
  unfold Group.ctx
  rw [← get_map_bare h.ctxs, ← get_map_bare g.ctxs, hc]

/-- Registers, predicates, the scalar registers of the contexts and the other groups are as before. -/
def StoreSame (g : SlotRef) (s t : State) : Prop :=
  (t.grp g).v = (s.grp g).v ∧ (t.grp g).q = (s.grp g).q ∧ (t.grp g).o = (s.grp g).o ∧ (t.grp g).p = (s.grp g).p ∧
    (∀ i, ((t.grp g).ctx i).s = ((s.grp g).ctx i).s) ∧
    (∀ h : SlotRef, h.key ≠ g.key → (t.grp h).bare = (s.grp h).bare)

theorem State.grp_opStep {s : State} {g : SlotRef} (hg : s.hasGrp g = true) (o : Op) (k : Option OpKind) (h : SlotRef) :
    (s.opStep g o k).grp h = if h.key = g.key then (s.grp g).stepOp o k else s.grp h := by
  rw [State.opStep_eq, State.grp_modGrp s g h _ hg]

theorem Kept.same {g : SlotRef} {s t : State} (h : Kept g s t) (hg : s.hasGrp g = true) (o : Op) (k : Option OpKind) :
    StoreSame g s (t.opStep g o k) := by
  have ht : t.hasGrp g = true := h.has.trans hg
  obtain ⟨h_v, h_o, h_q, h_p, h_c⟩ := Group.stepOp_keeps o k (t.grp g)
  unfold StoreSame
  rw [State.grp_opStep ht, if_pos rfl, h_v, h_q, h_o, h_p]
  refine ⟨Group.eq_of_file Group.v (fun _ => rfl) h.here, Group.eq_of_file Group.q (fun _ => rfl) h.here, Group.eq_of_file Group.o (fun _ => rfl) h.here, Group.eq_of_file Group.p (fun _ => rfl) h.here,
    fun i => ?_, fun k' hne => ?_⟩
  · rw [← ctx_s_of_file h.here i]
    unfold Group.ctx
    rw [h_c]
  · rw [State.grp_opStep ht, if_neg hne]
    exact h.others k' hne

/-- An operation that completed is no longer outstanding. -/
theorem Group.findOp_stepOp_none (g : Group) (o : Op) : (g.stepOp o none).findOp o.id = none := by
  unfold Group.stepOp Group.findOp Group.finishOp
  simp

/-- An operation that goes on stands with its new kind. -/
theorem Group.findOp_stepOp_some {g : Group} {o : Op} {n : Nat} (hf : g.findOp n = some o) (hid : o.id = n) (k : OpKind) :
    (g.stepOp o (some k)).findOp n = some { o with kind := k } := by
  have hids : ((fun p : Op => p.id == n) ∘ fun p : Op => if p.id = n then { p with kind := k } else p) = fun p => p.id == n := by
    funext p
    simp only [Function.comp]
    split <;> rfl
  unfold Group.findOp at hf
  unfold Group.stepOp Group.findOp Group.setOpKind
  rw [List.find?_map, hid, hids, hf]
  simp [hid]

/-- An operation that completed is no longer outstanding, and its flag counts one less. -/
theorem Kept.done {g : SlotRef} {s t : State} (h : Kept g s t) (hg : s.hasGrp g = true) (o : Op) :
    ((t.opStep g o none).grp g).findOp o.id = none ∧
      ∀ f, o.flag = some f → (((t.opStep g o none).grp g).flag f).count = ((s.grp g).flag f).count - 1 := by
  have hflag : ∀ f, (t.grp g).flag f = (s.grp g).flag f := fun f =>
    Group.eq_of_file (fun x => Group.flag x f) (fun _ => rfl) h.here
  rw [State.grp_opStep (h.has.trans hg), if_pos rfl]
  exact ⟨Group.findOp_stepOp_none _ o, fun f hf => by rw [Group.flag_stepOp o none _ hf, hflag]; rfl⟩

theorem Kept.goesOn {g : SlotRef} {s t : State} (h : Kept g s t) (hg : s.hasGrp g = true) {o : Op} {n : Nat}
    (hf : (s.grp g).findOp n = some o) (hid : o.id = n) (k : OpKind) :
    ((t.opStep g o (some k)).grp g).findOp n = some { o with kind := k } := by
  have hfind : (t.grp g).findOp n = (s.grp g).findOp n :=
    Group.eq_of_file (fun x => Group.findOp x n) (fun _ => rfl) h.here
  rw [State.grp_opStep (h.has.trans hg), if_pos rfl]
  exact Group.findOp_stepOp_some (hfind.trans hf) hid k

/-! ## The words of a lane's data as bytes (00 R2) -/

/-- Byte i of the words of a lane's data. -/
def dataByte (ws : List Word) (i : Nat) : Byte := ((ws.getD (i / 4) 0) >>> (8 * (i % 4))).setWidth 8

theorem dataByte_toNat (ws : List Word) (k j : Nat) (hj : j < 4) :
    (dataByte ws (4 * k + j)).toNat = (ws.getD k 0).toNat / 2 ^ (8 * j) % 256 := by
  unfold dataByte
  rw [show (4 * k + j) / 4 = k by omega, show (4 * k + j) % 4 = j by omega, BitVec.toNat_setWidth,
    BitVec.toNat_ushiftRight, Nat.shiftRight_eq_div_pow]

/-- The first k words of data are the number that their bytes stand for. -/
theorem words_eq_bytesNum (ws : List Word) (k : Nat) :
    (List.range k).foldl (fun x i => x + (ws.getD i 0).toNat * 2 ^ (32 * i)) 0 = bytesNum (dataByte ws) (4 * k) := by
  induction k with
  | zero => rfl
  | succ k ih =>
    rw [List.range_succ, List.foldl_append, List.foldl_cons, List.foldl_nil, ih, show 4 * (k + 1) = 4 * k + 1 + 1 + 1 + 1 from rfl,
      bytesNum_succ, bytesNum_succ, bytesNum_succ, bytesNum_succ]
    have h0 := dataByte_toNat ws k 0 (by omega)
    have h1 := dataByte_toNat ws k 1 (by omega)
    have h2 := dataByte_toNat ws k 2 (by omega)
    have h3 := dataByte_toNat ws k 3 (by omega)
    have hp : (2 : Nat) ^ (32 * k) = 256 ^ (4 * k) := by
      rw [show (256 : Nat) = 2 ^ 8 from rfl, ← Nat.pow_mul]
      congr 1
      omega
    have hw : (ws.getD k 0).toNat = (dataByte ws (4 * k)).toNat + (dataByte ws (4 * k + 1)).toNat * 256 +
        (dataByte ws (4 * k + 2)).toNat * 65536 + (dataByte ws (4 * k + 3)).toNat * 16777216 := by
      have hlt := (ws.getD k 0).isLt
      rw [Nat.add_zero] at h0
      rw [h0, h1, h2, h3]
      omega
    rw [hp, hw]
    ring

/-- A byte of a lane's data. -/
theorem byteOf_num (a : LaneAcc) (i : Nat) : byteOf a.num i = dataByte a.data i := by
  have hn : a.num = bytesNum (dataByte a.data) (4 * a.data.length) := words_eq_bytesNum a.data a.data.length
  rw [hn]
  by_cases hi : i < 4 * a.data.length
  · exact byteOf_bytesNum _ hi
  · have hlt : bytesNum (dataByte a.data) (4 * a.data.length) < 256 ^ i :=
      Nat.lt_of_lt_of_le (bytesNum_lt _ _) (Nat.pow_le_pow_right (by decide) (by omega))
    unfold byteOf
    rw [Nat.div_eq_of_lt hlt, dataByte, List.getD_eq_default _ _ (by omega)]
    simp

/-! ## A slot's write -/

theorem State.slotStore_plain {s : State} {g : SlotRef} (h : (s.grp g).isPlain = true) (w : Write) (a n x : Nat) :
    s.slotStore g w a n x =
      (s.store (some g.coreRef) a n x).publish w s ((List.range n).map (fun i => a + i)) := by
  unfold State.slotStore
  split
  · rename_i hk
    exact absurd hk (Group.isPlain_kind h _)
  · rfl

theorem State.slotStore_groups {s : State} {g : SlotRef} (h : (s.grp g).isPlain = true) (w : Write) (a n x : Nat) :
    (s.slotStore g w a n x).groups = s.groups := by
  rw [State.slotStore_plain h, State.publish_groups, State.store_groups]

theorem State.slotStore_teams {s : State} {g : SlotRef} (h : (s.grp g).isPlain = true) (w : Write) (a n x : Nat) :
    (s.slotStore g w a n x).teams = s.teams := by
  rw [State.slotStore_plain h, State.publish_teams, State.store_teams]

/-- A group's or lane-handler wave's write changes its bytes and no other. -/
theorem State.byte_slotStore {s : State} {g : SlotRef} (h : (s.grp g).isPlain = true) (w : Write) (a n x p : Nat) :
    (s.slotStore g w a n x).byte p = if a ≤ p ∧ p < a + n then byteOf x (p - a) else s.byte p := by
  rw [State.slotStore_plain h, ← State.byte_store s (some g.coreRef) a n x p]
  unfold State.byte
  rw [State.publish_mem]

theorem State.byte_of_mem {s t : State} (h : t.mem = s.mem) (p : Nat) : t.byte p = s.byte p := by
  unfold State.byte
  rw [h]

end Sys2Proof.Machine

/-! # Performed stores (obligation O33) -/

namespace Sys2Proof.Machine

/-! ## Marks do not move a place -/

theorem State.readN_writes (s : State) (w : SMap Write) (a n : Nat) : ({ s with writes := w } : State).readN a n = s.readN a n :=
  State.readN_congr s { s with writes := w } a n (fun _ _ _ => rfl)

theorem State.leafOf_writes (s : State) (w : SMap Write) (level table idx va : Nat) :
    ({ s with writes := w } : State).leafOf level table idx va = s.leafOf level table idx va := by
  unfold State.leafOf State.cEntry
  simp only [State.readN_writes]

theorem State.walkFrom_writes (s : State) (w : SMap Write) (va level table : Nat) :
    ({ s with writes := w } : State).walkFrom va level table = s.walkFrom va level table := by
  induction level generalizing table with
  | zero => exact s.leafOf_writes w _ _ _ _
  | succ level ih => simp only [State.walkFrom, State.readN_writes, State.leafOf_writes, ih]

theorem State.xlate_writes (s : State) (w : SMap Write) (g : SlotRef) (lane va : Nat) :
    ({ s with writes := w } : State).xlate g lane va = s.xlate g lane va := by
  have hroot : ∀ asid, ({ s with writes := w } : State).rootOf asid = s.rootOf asid := fun asid => by
    unfold State.rootOf
    simp only [State.readN_writes]
  have hwalk : ∀ asid, ({ s with writes := w } : State).xwalk asid va = s.xwalk asid va := fun asid => by
    unfold State.xwalk State.walk
    rw [hroot]
    simp only [State.walkFrom_writes]
  unfold State.xlate
  simp only [hwalk]
  rfl

/-- Checks 4 and 5 do not depend on what is marked of writes. -/
theorem State.check45_writes (s : State) (w : SMap Write) (g : SlotRef) (lane : Nat) (a : DWord) (n : Nat) (wr : Bool) :
    ({ s with writes := w } : State).check45 g lane a n wr = s.check45 g lane a n wr := by
  unfold State.check45
  simp only [State.xlate_writes]
  rfl

theorem State.check45_releaseAt (s : State) (g : SlotRef) (obs : BitVec 7) (h : SlotRef) (lane : Nat) (a : DWord) (n : Nat)
    (wr : Bool) : (s.releaseAt g obs).check45 h lane a n wr = s.check45 h lane a n wr := State.check45_writes _ _ _ _ _ _ _

/-! ## STORE_PERFORM of a store in a group or lane-handler wave -/

/-- What the lanes performed with those named leave of a store. -/
def State.storeNow (s : State) (g : SlotRef) (o : Op) (size : Nat) (acc : List LaneAcc) (failed : List LaneFail)
    (lines : List Nat) (lanes : Word) : StoreStep :=
  (acc.filter (s.withLines g size acc lanes)).foldl (storeLane g (s.slotWrite g o) size) ⟨s.releaseAt g o.obs, [], failed, lines⟩

/-- The lanes of a store that are left. -/
def State.storeLeft (s : State) (g : SlotRef) (size : Nat) (acc : List LaneAcc) (lanes : Word) (r : StoreStep) : List LaneAcc :=
  acc.filter (fun a => (acc.filter (fun a => !s.withLines g size acc lanes a)).elem a || r.left.elem a)

/-- A store goes on with the lanes left, or ends. -/
def StoreStep.close (r : StoreStep) (g : SlotRef) (o : Op) (size : Nat) (lines : List Nat) (left : List LaneAcc) : State :=
  if left = [] ∧ r.failed = [] then (r.s.chargeLines g lines r.lines).storeEnd g o
  else (r.s.chargeLines g lines r.lines).opStep g o (some (.store size left r.failed r.lines))

theorem State.waveOut_plain {s : State} {g : SlotRef} (h : (s.grp g).isPlain = true) (n : Nat) (acc : List LaneAcc) :
    s.waveOut g n acc = none := if_pos h

theorem State.strays_plain {s : State} {g : SlotRef} (h : (s.grp g).isPlain = true) (n : Nat) (acc : List LaneAcc) :
    s.strays g n acc = none := by
  unfold State.strays
  split
  · rename_i hk
    exact absurd hk (Group.isPlain_kind h _)
  · rfl

theorem State.storeOut_none {s : State} {g : SlotRef} {n : Nat} {acc : List LaneAcc}
    (h : ∀ a ∈ acc, s.check45 g a.lane a.va n true ≠ .lease) : s.storeOut g n acc = none := by
  unfold State.storeOut
  rw [List.find?_eq_none.mpr (fun a ha => by simpa using h a ha)]
  rfl

theorem execStore_eq {s : State} {g : SlotRef} {n : Nat} {lanes : Word} {o : Op} {size : Nat} {acc : List LaneAcc}
    {failed : List LaneFail} {lines : List Nat} (hf : (s.grp g).findOp n = some o) (hp : (s.grp g).isPlain = true)
    (hm : s.mayPerform g o = true) (hk : o.kind = .store size acc failed lines)
    (hnow : acc.filter (s.withLines g size acc lanes) ≠ []) (hout : s.storeOut g size acc = none) :
    exec (.storePerform g n lanes) s = .next ((s.storeNow g o size acc failed lines lanes).close g o size lines
      (s.storeLeft g size acc lanes (s.storeNow g o size acc failed lines lanes))) := by
  have e : exec (.storePerform g n lanes) s = execStorePerform g n lanes s := rfl
  rw [e]
  unfold execStorePerform
  simp only [hf, hk, hm, hnow, hout, State.waveOut_plain hp, State.strays_plain hp, Bool.not_true, Bool.false_eq_true,
    false_or, if_false]
  rfl

theorem kept_chargeLines (g : SlotRef) (old new : List Nat) (s : State) : Kept g s (s.chargeLines g old new) :=
  Kept.of_quiet (quiet_chargeAt s g 0 _)

/-- The end of a store that is done: it is gone, and nothing but memory has changed. -/
theorem storeEnd_same {s t : State} {g : SlotRef} (h : Kept g s t) (hg : s.hasGrp g = true) (o : Op) :
    StoreSame g s (t.storeEnd g o) ∧ ((t.storeEnd g o).grp g).findOp o.id = none ∧
      ∀ f, o.flag = some f → (((t.storeEnd g o).grp g).flag f).count = ((s.grp g).flag f).count - 1 := by
  have hk : Kept g s (t.storeDone g o) := h.trans (Kept.of_marks (onlyMarks_storeDone g o t))
  exact ⟨hk.same hg o none, hk.done hg o⟩

/-- How a store's step ends: what stands of its groups and its bytes. -/
theorem StoreStep.close_spec {s : State} {g : SlotRef} {o : Op} {n : Nat} (r : StoreStep) (hr : Kept g s r.s)
    (hg : s.hasGrp g = true) (hf : (s.grp g).findOp n = some o) (hid : o.id = n) (size : Nat) (lines : List Nat)
    (left : List LaneAcc) :
    StoreSame g s (r.close g o size lines left) ∧ (r.close g o size lines left).mem = r.s.mem ∧
      (left = [] → r.failed = [] → ((r.close g o size lines left).grp g).findOp n = none ∧
        ∀ f, o.flag = some f → (((r.close g o size lines left).grp g).flag f).count = ((s.grp g).flag f).count - 1) ∧
      (¬(left = [] ∧ r.failed = []) → ((r.close g o size lines left).grp g).findOp n =
        some { o with kind := .store size left r.failed r.lines }) := by
  have hk : Kept g s (r.s.chargeLines g lines r.lines) := hr.trans (kept_chargeLines g lines r.lines r.s)
  unfold StoreStep.close
  by_cases hc : left = [] ∧ r.failed = []
  · rw [if_pos hc]
    obtain ⟨hsame, hdone⟩ := storeEnd_same hk hg o
    rw [hid] at hdone
    exact ⟨hsame, by simp, fun _ _ => hdone, fun h => absurd hc h⟩
  · rw [if_neg hc]
    exact ⟨hk.same hg o _, by simp, fun h1 h2 => absurd ⟨h1, h2⟩ hc, fun _ => hk.goesOn hg hf hid _⟩

/-! ## One lane -/

/-- The single lane of a store is performed with itself. -/
theorem withLines_single {s : State} {g : SlotRef} {size : Nat} {a : LaneAcc} {lanes : Word}
    (h : inMask lanes a.lane = true ∨ a.lane = 32) : s.withLines g size [a] lanes a = true := by
  unfold State.withLines
  rcases h with h | h <;> simp [h]

theorem storeNow_single {s : State} {g : SlotRef} {o : Op} {size : Nat} {a : LaneAcc} {failed : List LaneFail}
    {lines : List Nat} {lanes : Word} (h : inMask lanes a.lane = true ∨ a.lane = 32) :
    s.storeNow g o size [a] failed lines lanes =
      storeLane g (s.slotWrite g o) size ⟨s.releaseAt g o.obs, [], failed, lines⟩ a := by
  unfold State.storeNow
  rw [List.filter_cons_of_pos (withLines_single h)]
  rfl

theorem storeLeft_single {s : State} {g : SlotRef} {size : Nat} {a : LaneAcc} {lanes : Word} {r : StoreStep}
    (h : inMask lanes a.lane = true ∨ a.lane = 32) (hr : r.left = []) : s.storeLeft g size [a] lanes r = [] := by
  unfold State.storeLeft
  simp [withLines_single h, hr]

/-- A translation that checks 4 and 5 used is kept (09 R174), or none was. -/
def State.rememberHit (g : SlotRef) (lane : Nat) (a : DWord) (x : Option Xlat) (s : State) : State :=
  match x with
  | some y => s.remember g lane a y
  | none => s

theorem kept_rememberHit (g : SlotRef) (lane : Nat) (a : DWord) (x : Option Xlat) (s : State) :
    Kept g s (s.rememberHit g lane a x) := by
  cases x with
  | some y => exact kept_remember g lane a y s
  | none => exact Kept.refl g s

@[simp] theorem State.rememberHit_mem (g : SlotRef) (lane : Nat) (a : DWord) (x : Option Xlat) (s : State) :
    (s.rememberHit g lane a x).mem = s.mem := by
  cases x with
  | some y => exact State.remember_mem g lane a y s
  | none => rfl

/-- A lane that passes checks 4 and 5 is written. -/
theorem storeLane_ok {g : SlotRef} {w : Write} {size l : Nat} {t : StoreStep} {a : LaneAcc} {x : Option Xlat}
    (h : t.s.check45 g a.lane a.va size true = .ok l x) :
    storeLane g w size t a =
      { t with
        s := (t.s.rememberHit g a.lane a.va x).slotStore g w l size (a.num % 256 ^ size)
        lines := (t.lines ++ spanLines [⟨l, size⟩]).eraseDups } := by
  unfold storeLane
  rw [h]
  rfl

/-- A lane without permission or translation is kept as failed (09 R175). -/
theorem storeLane_trans {g : SlotRef} {w : Write} {size sub : Nat} {t : StoreStep} {a : LaneAcc}
    (h : t.s.check45 g a.lane a.va size true = .trans sub) :
    storeLane g w size t a =
      { t with
        s := t.s.lookup g a.lane a.va
        failed := t.failed ++ [⟨a.lane, a.va, sub, t.s.pageAt g a.lane a.va⟩] } := by
  unfold storeLane
  rw [h]

/-- A slot's write where the translation was kept: the groups, and the bytes. -/
theorem rememberedStore {s t : State} {g : SlotRef} (hk : Kept g s t) (hp : (s.grp g).isPlain = true) (w : Write)
    (lane : Nat) (a : DWord) (x : Option Xlat) (l size num : Nat) :
    Kept g s ((t.rememberHit g lane a x).slotStore g w l size num) ∧
      ∀ p, ((t.rememberHit g lane a x).slotStore g w l size num).byte p =
        if l ≤ p ∧ p < l + size then byteOf num (p - l) else t.byte p := by
  have hr : Kept g s (t.rememberHit g lane a x) := hk.trans (kept_rememberHit g lane a x t)
  have hp' : ((t.rememberHit g lane a x).grp g).isPlain = true := hr.isPlain.trans hp
  refine ⟨hr.trans (Kept.of_groups (State.slotStore_groups hp' w l size num)), fun p => ?_⟩
  rw [State.byte_slotStore hp', State.byte_of_mem (State.rememberHit_mem g lane a x t)]

/-! ## ZLINE -/

/-- A zeroed line that lies in memory is flagged and charged (09 R169, 22 R335). -/
def State.zeroed (g : SlotRef) (l : Nat) (s : State) : State :=
  if isPhys l then (s.storeZero g (lineOf l)).chargeAt g 0 64 else s

theorem kept_storeZero {g : SlotRef} {s : State} (hp : (s.grp g).isPlain = true) (line : Nat) :
    Kept g s (s.storeZero g line) := by
  unfold State.storeZero
  split
  · rename_i hk
    exact absurd hk (Group.isPlain_kind hp _)
  · exact Kept.of_groups rfl

theorem kept_zeroed {g : SlotRef} {s : State} (hp : (s.grp g).isPlain = true) (l : Nat) : Kept g s (s.zeroed g l) := by
  unfold State.zeroed
  split
  · exact (kept_storeZero hp _).trans (Kept.of_quiet (quiet_chargeAt _ g 0 64))
  · exact Kept.refl g s

@[simp] theorem State.zeroed_mem (g : SlotRef) (l : Nat) (s : State) : (s.zeroed g l).mem = s.mem := by
  unfold State.zeroed
  split <;> simp

theorem execZline_eq {s : State} {g : SlotRef} {n : Nat} {lanes : Word} {o : Op} {a : LaneAcc} {l : Nat} {x : Option Xlat}
    (hf : (s.grp g).findOp n = some o) (hp : (s.grp g).isPlain = true) (hm : s.mayPerform g o = true)
    (hk : o.kind = .zline a []) (hc : s.check45 g a.lane a.va 64 true = .ok l x) :
    exec (.storePerform g n lanes) s = .next
      ((((s.rememberHit g a.lane a.va x).slotStore g (s.slotWrite g o) l 64 0).zeroed g l).storeEnd g o) := by
  have e : exec (.storePerform g n lanes) s = execStorePerform g n lanes s := rfl
  rw [e]
  unfold execStorePerform
  simp only [hf, hk, hm, hc, State.waveOut_plain hp, State.strays_plain hp, Bool.not_true, Bool.false_eq_true, ne_eq,
    not_true_eq_false, or_self, if_false]
  unfold State.zeroed State.rememberHit
  by_cases hl : isPhys l = true
  · simp only [hl, if_true] <;> rfl
  · simp only [Bool.eq_false_iff.mpr hl, Bool.false_eq_true, if_false] <;> rfl

end Sys2Proof.Machine

namespace Sys2Proof.Machine

/-! ## Lanes in the scratchpad window (10 R183) -/

/-- What a lane's store leaves of the bytes. -/
def putLane (size : Nat) (place : LaneAcc → Nat) (m : Nat → Byte) (a : LaneAcc) (p : Nat) : Byte :=
  if place a ≤ p ∧ p < place a + size then dataByte a.data (p - place a) else m p

/-- A byte that no lane writes keeps its value. -/
theorem putLanes_of_not {size : Nat} {place : LaneAcc → Nat} (now : List LaneAcc) (m : Nat → Byte) {p : Nat}
    (h : ∀ a ∈ now, ¬(place a ≤ p ∧ p < place a + size)) : now.foldl (putLane size place) m p = m p := by
  induction now generalizing m with
  | nil => rfl
  | cons a now ih =>
    rw [List.foldl_cons, ih _ (fun b hb => h b (List.mem_cons_of_mem _ hb)), putLane, if_neg (h a (List.mem_cons_self ..))]

/-- A byte that several lanes write takes the highest lane's value (09 R165). -/
theorem putLanes_of_top {size : Nat} {place : LaneAcc → Nat} (now : List LaneAcc) (m : Nat → Byte) {p : Nat} {a : LaneAcc}
    (hs : now.Pairwise (fun a b => a.lane < b.lane)) (ha : a ∈ now) (hp : place a ≤ p ∧ p < place a + size)
    (htop : ∀ b ∈ now, place b ≤ p ∧ p < place b + size → b.lane ≤ a.lane) :
    now.foldl (putLane size place) m p = dataByte a.data (p - place a) := by
  induction now generalizing m with
  | nil => cases ha
  | cons b now ih =>
    obtain ⟨hb, hs'⟩ := List.pairwise_cons.mp hs
    rw [List.foldl_cons]
    rcases List.mem_cons.mp ha with rfl | hmem
    · rw [putLanes_of_not now _ (fun c hc hcov =>
        absurd (htop c (List.mem_cons_of_mem _ hc) hcov) (Nat.not_le_of_lt (hb c hc))), putLane, if_pos hp]
    · exact ih _ hs' hmem (fun c hc => htop c (List.mem_cons_of_mem _ hc))

theorem State.check45_window (s : State) (g : SlotRef) (lane : Nat) {a : DWord} (n : Nat) (wr : Bool)
    (h : 0x007FFFFFFFC00000 ≤ a.toNat ∧ a.toNat < 0x0080000000000000) :
    s.check45 g lane a n wr = .ok ((s.team (s.grp g).team).spad (a.toNat - 0x007FFFFFFFC00000)) none := by
  have hin : inSpw a = true := by
    unfold inSpw
    rw [Bool.and_eq_true, decide_eq_true_eq, decide_eq_true_eq]
    exact ⟨h.1, h.2⟩
  unfold State.check45
  rw [if_pos hin]
  rfl

/-- The place of a lane's access in the scratchpad window. -/
def State.spadPlace (s : State) (g : SlotRef) (a : LaneAcc) : Nat :=
  (s.team (s.grp g).team).spad (a.va.toNat - 0x007FFFFFFFC00000)

/-- Lanes in the window are all written, one after another, at the places that the team gives them. -/
theorem storeLanes_window {s : State} {g : SlotRef} (hp : (s.grp g).isPlain = true) (w : Write) (size : Nat)
    (now : List LaneAcc) (r : StoreStep) (hgr : r.s.groups = s.groups) (htm : r.s.teams = s.teams) (hl : r.left = [])
    (hfl : r.failed = []) (hw : ∀ a ∈ now, 0x007FFFFFFFC00000 ≤ a.va.toNat ∧ a.va.toNat < 0x0080000000000000) :
    (now.foldl (storeLane g w size) r).s.groups = s.groups ∧ (now.foldl (storeLane g w size) r).left = [] ∧
      (now.foldl (storeLane g w size) r).failed = [] ∧
      ∀ p, (now.foldl (storeLane g w size) r).s.byte p = now.foldl (putLane size (s.spadPlace g)) r.s.byte p := by
  induction now generalizing r with
  | nil => exact ⟨hgr, hl, hfl, fun _ => rfl⟩
  | cons a now ih =>
    have hgrp : r.s.grp g = s.grp g := by unfold State.grp; rw [hgr]
    have hteam : ∀ t, r.s.team t = s.team t := fun t => by unfold State.team; rw [htm]
    have hpr : (r.s.grp g).isPlain = true := by rw [hgrp]; exact hp
    have hc : r.s.check45 g a.lane a.va size true = .ok (s.spadPlace g a) none := by
      rw [State.check45_window r.s g a.lane size true (hw a (List.mem_cons_self ..)), hgrp, hteam]
      rfl
    have hbyte : (r.s.slotStore g w (s.spadPlace g a) size (a.num % 256 ^ size)).byte = putLane size (s.spadPlace g) r.s.byte a := by
      funext p
      rw [State.byte_slotStore hpr, putLane]
      split
      · rw [byteOf_mod _ (by omega), byteOf_num]
      · rfl
    rw [List.foldl_cons, List.foldl_cons, storeLane_ok hc, ← hbyte]
    exact ih _ ((State.slotStore_groups hpr ..).trans hgr) ((State.slotStore_teams hpr ..).trans htm) hl hfl
      (fun b hb => hw b (List.mem_cons_of_mem _ hb))

/-- Which lanes in the window are performed: those named, and those on a line of theirs (11 R213). -/
theorem withLines_window {s : State} {g : SlotRef} {size : Nat} {acc : List LaneAcc} {lanes : Word}
    (hacc : ∀ a ∈ acc, a.lane < 32 ∧ a.loc = none ∧ 0x007FFFFFFFC00000 ≤ a.va.toNat ∧ a.va.toNat < 0x0080000000000000)
    {a : LaneAcc} (ha : a ∈ acc) :
    s.withLines g size acc lanes a = (inMask lanes a.lane ||
      acc.any (fun b => inMask lanes b.lane && s.spadPlace g a / 64 == s.spadPlace g b / 64)) := by
  have hloc : ∀ b ∈ acc, s.accLoc g true size b = some (s.spadPlace g b) := fun b hb => by
    obtain ⟨-, hnone, hva⟩ := hacc b hb
    unfold State.accLoc
    rw [hnone]
    simp only [State.check45_window s g b.lane size true hva]
    rfl
  have hnamed : ∀ b ∈ acc, (inMask lanes b.lane || decide (b.lane = 32)) = inMask lanes b.lane := fun b hb => by
    rw [decide_eq_false (Nat.ne_of_lt (hacc b hb).1), Bool.or_false]
  unfold State.withLines
  simp only [hnamed a ha, hloc a ha]
  congr 1
  rw [Bool.eq_iff_iff, List.any_eq_true, List.any_eq_true]
  refine exists_congr (fun b => and_congr_right (fun hb => ?_))
  rw [hnamed b hb, hloc b hb]
  simp only [Bool.and_eq_true, decide_eq_true_eq, beq_iff_eq]
  exact Iff.rfl

/-! ## What STORE_PERFORM does in each case -/

/-- An operation is no longer outstanding, and its flag counts one less. -/
def OpDone (g : SlotRef) (o : Op) (n : Nat) (s t : State) : Prop :=
  (t.grp g).findOp n = none ∧ ∀ f, o.flag = some f → ((t.grp g).flag f).count = ((s.grp g).flag f).count - 1

section
variable {s : State} {g : SlotRef} {n : Nat} {lanes : Word} {o : Op}

theorem storeOut_single {size : Nat} {a : LaneAcc} (h : s.check45 g a.lane a.va size true ≠ .lease) :
    s.storeOut g size [a] = none := State.storeOut_none (fun b hb => by rw [List.mem_singleton.mp hb]; exact h)

theorem filter_withLines_single {size : Nat} {a : LaneAcc} (h : inMask lanes a.lane = true ∨ a.lane = 32) :
    [a].filter (s.withLines g size [a] lanes) ≠ [] := by
  rw [List.filter_cons_of_pos (withLines_single h)]
  exact List.cons_ne_nil _ _

theorem kept_releaseAt (g : SlotRef) (obs : BitVec 7) (s : State) : Kept g s (s.releaseAt g obs) :=
  Kept.of_marks (onlyMarks_releaseAt g obs s)

variable (hg : s.hasGrp g = true) (hp : (s.grp g).isPlain = true) (hf : (s.grp g).findOp n = some o) (hid : o.id = n)
  (hm : s.mayPerform g o = true)
include hg hp hf hid hm

/-- A single lane that passes checks 4 and 5: its bytes are written, and the store completes. -/
theorem storePerform_ok {size l : Nat} {a : LaneAcc} {lines : List Nat} {x : Option Xlat}
    (hk : o.kind = .store size [a] [] lines) (hlane : inMask lanes a.lane = true ∨ a.lane = 32)
    (hc : s.check45 g a.lane a.va size true = .ok l x) :
    ∃ t, exec (.storePerform g n lanes) s = .next t ∧ StoreSame g s t ∧ OpDone g o n s t ∧
      ∀ p, t.byte p = if l ≤ p ∧ p < l + size then dataByte a.data (p - l) else s.byte p := by
  have hout : s.storeOut g size [a] = none := storeOut_single (by rw [hc]; exact AccRes.noConfusion)
  have hstep := storeLane_ok (w := s.slotWrite g o) (t := ⟨s.releaseAt g o.obs, [], [], lines⟩)
    ((s.check45_releaseAt g o.obs g a.lane a.va size true).trans hc)
  obtain ⟨hkept, hbytes⟩ :=
    rememberedStore (kept_releaseAt g o.obs s) hp (s.slotWrite g o) a.lane a.va x l size (a.num % 256 ^ size)
  refine ⟨_, execStore_eq hf hp hm hk (filter_withLines_single hlane) hout, ?_⟩
  rw [storeNow_single hlane, hstep, storeLeft_single hlane rfl]
  obtain ⟨hsame, hmem, hdone, -⟩ := StoreStep.close_spec ⟨_, [], [], (lines ++ spanLines [⟨l, size⟩]).eraseDups⟩ hkept hg hf
    hid size lines []
  refine ⟨hsame, hdone rfl rfl, fun p => (State.byte_of_mem hmem p).trans ((hbytes p).trans ?_)⟩
  split
  · rw [byteOf_mod _ (by omega), byteOf_num]
  · rfl

/-- A single lane without permission or translation: it is kept as failed. -/
theorem storePerform_trans {size sub : Nat} {a : LaneAcc} {lines : List Nat}
    (hk : o.kind = .store size [a] [] lines) (hlane : inMask lanes a.lane = true ∨ a.lane = 32)
    (hc : s.check45 g a.lane a.va size true = .trans sub) :
    ∃ t, exec (.storePerform g n lanes) s = .next t ∧ StoreSame g s t ∧ t.mem = s.mem ∧
      ∃ o' page, (t.grp g).findOp n = some o' ∧ o'.kind = .store size [] [⟨a.lane, a.va, sub, page⟩] lines := by
  have hout : s.storeOut g size [a] = none := storeOut_single (by rw [hc]; exact AccRes.noConfusion)
  have hstep := storeLane_trans (w := s.slotWrite g o) (t := ⟨s.releaseAt g o.obs, [], [], lines⟩)
    ((s.check45_releaseAt g o.obs g a.lane a.va size true).trans hc)
  have hkept := (kept_releaseAt g o.obs s).trans (kept_lookup g a.lane a.va _)
  refine ⟨_, execStore_eq hf hp hm hk (filter_withLines_single hlane) hout, ?_⟩
  rw [storeNow_single hlane, hstep, storeLeft_single hlane rfl]
  obtain ⟨hsame, hmem, -, hgoes⟩ := StoreStep.close_spec ⟨_, [], _, lines⟩ hkept hg hf hid size lines []
  exact ⟨hsame, hmem.trans (State.lookup_mem ..), _, _, hgoes (fun h => List.cons_ne_nil _ _ h.2), rfl⟩

/-- ZLINE writes 64 zeros. -/
theorem zlinePerform_ok {l : Nat} {a : LaneAcc} {x : Option Xlat} (hk : o.kind = .zline a [])
    (hc : s.check45 g a.lane a.va 64 true = .ok l x) :
    ∃ t, exec (.storePerform g n lanes) s = .next t ∧ StoreSame g s t ∧ OpDone g o n s t ∧
      ∀ p, t.byte p = if l ≤ p ∧ p < l + 64 then 0 else s.byte p := by
  obtain ⟨hkept, hbytes⟩ := rememberedStore (Kept.refl g s) hp (s.slotWrite g o) a.lane a.va x l 64 0
  obtain ⟨hsame, hdone⟩ := storeEnd_same (hkept.trans (kept_zeroed (hkept.isPlain.trans hp) l)) hg o
  rw [hid] at hdone
  refine ⟨_, execZline_eq hf hp hm hk hc, hsame, hdone, fun p => ?_⟩
  rw [State.byte_of_mem (State.storeEnd_mem ..), State.byte_of_mem (State.zeroed_mem ..), hbytes]
  simp [byteOf]

/-- Lanes in the scratchpad window: those performed are written in order, and the store goes on with the others. -/
theorem storePerform_window {size : Nat} {acc : List LaneAcc} {lines : List Nat} {now : LaneAcc → Bool}
    (hk : o.kind = .store size acc [] lines)
    (hacc : ∀ a ∈ acc, a.lane < 32 ∧ a.loc = none ∧ 0x007FFFFFFFC00000 ≤ a.va.toNat ∧ a.va.toNat < 0x0080000000000000)
    (hnow : ∀ a ∈ acc, s.withLines g size acc lanes a = now a) (hsome : ∃ a ∈ acc, now a = true) :
    ∃ t, exec (.storePerform g n lanes) s = .next t ∧ StoreSame g s t ∧
      (∀ p, t.byte p = (acc.filter now).foldl (putLane size (s.spadPlace g)) s.byte p) ∧
      (acc.filter (fun a => !now a) = [] → OpDone g o n s t) ∧
      (acc.filter (fun a => !now a) ≠ [] → ∃ o' ls, (t.grp g).findOp n = some o' ∧
        o'.kind = .store size (acc.filter (fun a => !now a)) [] ls) := by
  have hfilter : acc.filter (s.withLines g size acc lanes) = acc.filter now := List.filter_congr hnow
  have hne : acc.filter (s.withLines g size acc lanes) ≠ [] := by
    obtain ⟨a, ha, hna⟩ := hsome
    rw [hfilter]
    exact List.ne_nil_of_mem (List.mem_filter.mpr ⟨ha, hna⟩)
  have hout : s.storeOut g size acc = none := State.storeOut_none (fun a ha => by
    rw [State.check45_window s g a.lane size true (hacc a ha).2.2]
    exact AccRes.noConfusion)
  obtain ⟨hgroups, hl, hfl, hbytes⟩ := storeLanes_window hp (s.slotWrite g o) size (acc.filter now)
    ⟨s.releaseAt g o.obs, [], [], lines⟩ rfl rfl rfl rfl (fun a ha => (hacc a (List.mem_filter.mp ha).1).2.2)
  have hr : s.storeNow g o size acc [] lines lanes =
      (acc.filter now).foldl (storeLane g (s.slotWrite g o) size) ⟨s.releaseAt g o.obs, [], [], lines⟩ := by
    unfold State.storeNow
    rw [hfilter]
  rw [← hr] at hgroups hl hfl hbytes
  have hleft : s.storeLeft g size acc lanes (s.storeNow g o size acc [] lines lanes) = acc.filter (fun a => !now a) := by
    unfold State.storeLeft
    refine List.filter_congr (fun a ha => ?_)
    rw [hl, Bool.eq_iff_iff]
    simp [hnow a ha, ha]
  obtain ⟨hsame, hmem, hdone, hgoes⟩ := StoreStep.close_spec (s.storeNow g o size acc [] lines lanes)
    (Kept.of_groups hgroups) hg hf hid size lines (acc.filter (fun a => !now a))
  refine ⟨_, execStore_eq hf hp hm hk hne hout, ?_⟩
  rw [hleft]
  refine ⟨hsame, fun p => (State.byte_of_mem hmem p).trans (hbytes p), fun h => hdone h hfl,
    fun h => ⟨_, (s.storeNow g o size acc [] lines lanes).lines, hgoes (fun hc => h hc.1), ?_⟩⟩
  rw [hfl]

end

/-! ## The statement -/

/-- Settles O33: one lemma per case of STORE_PERFORM, and `putLanes_of_top` for the byte that several lanes write. -/
theorem storesPerform : Obligations.StoresPerform := by
  unfold Obligations.StoresPerform
  intro s g n lanes o hg hp hfind hid hm u same done
  have hf : (s.grp g).findOp n = some o := hfind
  refine ⟨fun size a lines l x hk hsize hlane hc => ?_,
    fun size a lines sub hk hlane hc => storePerform_trans hg hp hf hid hm hk hlane hc, fun a l x hk hc => ?_, ?_⟩
  · obtain ⟨t, ht, hsame, hdone, hbyte⟩ := storePerform_ok hg hp hf hid hm hk hlane hc
    refine ⟨t, ht, hsame, hdone, fun i hi => ?_, fun p hout => ?_⟩
    · rw [hbyte, if_pos ⟨by omega, by omega⟩, Nat.add_sub_cancel_left]
      rfl
    · rw [hbyte, if_neg (by omega)]
  · obtain ⟨t, ht, hsame, hdone, hbyte⟩ := zlinePerform_ok (lanes := lanes) hg hp hf hid hm hk hc
    refine ⟨t, ht, hsame, hdone, fun i hi => ?_, fun p hout => ?_⟩
    · rw [hbyte, if_pos ⟨by omega, by omega⟩]
    · rw [hbyte, if_neg (by omega)]
  · intro size acc lines hk hsize hsorted hacc hnamed place now writes
    have hsome : ∃ a ∈ acc, now a = true := by
      obtain ⟨a, ha, hmask⟩ := hnamed
      exact ⟨a, ha, by simp only [now, hmask, Bool.true_or]⟩
    have hmem : ∀ a p, a ∈ acc.filter now → place a ≤ p ∧ p < place a + size → writes a p := fun a p ha hcov =>
      ⟨(List.mem_filter.mp ha).1, (List.mem_filter.mp ha).2, hcov⟩
    obtain ⟨t, ht, hsame, hbyte, hdone, hgoes⟩ :=
      storePerform_window hg hp hf hid hm hk hacc (fun a ha => withLines_window hacc ha) hsome
    refine ⟨t, ht, hsame, fun p hno => ?_, fun a p hwrites htop => ?_, fun hall => hdone ?_, fun hrest => hgoes ?_⟩
    · rw [hbyte]
      exact putLanes_of_not _ _ (fun a ha hcov => hno a (hmem a p ha hcov))
    · obtain ⟨ha, hna, hcov⟩ := hwrites
      rw [hbyte]
      exact putLanes_of_top _ _ (hsorted.sublist List.filter_sublist) (List.mem_filter.mpr ⟨ha, hna⟩) hcov
        (fun b hb hcb => htop b (hmem b p hb hcb))
    · exact List.filter_eq_nil_iff.mpr (fun a ha hc =>
        Bool.false_ne_true (((Bool.not_eq_true' (now a)).mp hc).symm.trans (hall a ha)))
    · obtain ⟨a, ha, hna⟩ := hrest
      exact List.ne_nil_of_mem (List.mem_filter.mpr ⟨ha, (Bool.not_eq_true' (now a)).mpr hna⟩)

end Sys2Proof.Machine

/-! # Performed atomics (obligation O36) -/

namespace Sys2Proof.Machine

/-! ## Eight bytes as a double word -/

/-- The eight bytes at a place, low byte first. -/
def dwordAt (m : Nat → Byte) (p : Nat) : DWord :=
  m (p + 7) ++ m (p + 6) ++ m (p + 5) ++ m (p + 4) ++ m (p + 3) ++ m (p + 2) ++ m (p + 1) ++ m p

theorem toNat_append_byte {w : Nat} (x : BitVec w) (b : Byte) : (x ++ b).toNat = x.toNat * 256 + b.toNat := by
  rw [BitVec.toNat_append, ← Nat.shiftLeft_add_eq_or_of_lt b.isLt, Nat.shiftLeft_eq]

theorem dwordAt_toNat (m : Nat → Byte) (p : Nat) : (dwordAt m p).toNat = bytesNum (fun i => m (p + i)) 8 := by
  unfold dwordAt
  simp only [toNat_append_byte, bytesNum_succ]
  simp only [bytesNum, List.range_zero, List.foldl_nil, Nat.add_zero]
  omega

theorem bytesNum_add (b : Nat → Byte) (m n : Nat) :
    bytesNum b (m + n) = bytesNum b m + 256 ^ m * bytesNum (fun i => b (m + i)) n := by
  induction n with
  | zero => rfl
  | succ n ih =>
    rw [← Nat.add_assoc, bytesNum_succ, ih, bytesNum_succ, Nat.pow_add]
    ring

/-- The low word of eight bytes. -/
theorem dwordAt_low (m : Nat → Byte) (p : Nat) :
    ((dwordAt m p).setWidth 32).toNat = bytesNum (fun i => m (p + i)) 4 := by
  have hlt := bytesNum_lt (fun i => m (p + i)) 4
  rw [BitVec.toNat_setWidth, dwordAt_toNat, bytesNum_add (fun i => m (p + i)) 4 4]
  omega

/-- The high word of eight bytes. -/
theorem dwordAt_high (m : Nat → Byte) (p : Nat) :
    (dwordAt m p).toNat / 2 ^ 32 = bytesNum (fun i => m (p + 4 + i)) 4 := by
  have hlt := bytesNum_lt (fun i => m (p + i)) 4
  rw [dwordAt_toNat, bytesNum_add (fun i => m (p + i)) 4 4]
  simp only [Nat.add_assoc]
  omega

/-! ## The table of new values (20 R309) -/

/-- The new word of a 32-bit atomic. -/
def AtomKind.next32 (k : AtomKind) (w : Word) (limit : Nat) (data : List Word) : Word :=
  let x := data.getD 0 0
  match k with
  | .add => w + x
  | .and_ => w &&& x
  | .or_ => w ||| x
  | .xor_ => w ^^^ x
  | .min => if x.slt w then x else w
  | .max => if w.slt x then x else w
  | .minn => if x.ult w then x else w
  | .maxn => if w.ult x then x else w
  | .xchg => x
  | .cas => if w = x then data.getD 1 0 else w
  | .fadd => BitVec.ofNat 32 (fmt32.add 0 (fmt32.val w.toNat) (fmt32.val x.toNat)).bits
  | .binc => if w.ult x then w + 1 else w
  | .winc => if x.ule w then 0 else w + 1
  | .decp => if (0 : Word).slt w then w - 1 else w
  | .addl => if w.toNat + x.toNat ≤ limit then w + x else w
  | _ => 0

/-- The new double word of a 64-bit atomic. -/
def AtomKind.next64 (k : AtomKind) (w : DWord) (data : List Word) : DWord :=
  let x : DWord := data.getD 1 0 ++ data.getD 0 0
  let y : DWord := data.getD 3 0 ++ data.getD 2 0
  match k with
  | .add64 => w + x
  | .xchg64 => x
  | .cas64 => if w = x then y else w
  | .min64n => if x.ult w then x else w
  | _ => 0

theorem int32_toNat (x : Word) : int32 x.toNat = x.toInt := by
  unfold int32
  rw [BitVec.ofNat_toNat, BitVec.setWidth_eq]

theorem ofNat_toNat_word (x : Word) : BitVec.ofNat 32 x.toNat = x := by
  rw [BitVec.ofNat_toNat, BitVec.setWidth_eq]

/-- The model's new value of a 32-bit atomic is the table's. -/
theorem AtomKind.new_eq_next32 {k : AtomKind} (h : k.size = 4) (w : Word) (limit : Nat) (data : List Word) :
    BitVec.ofNat 32 (k.new w.toNat limit data) = k.next32 w limit data := by
  unfold AtomKind.new AtomKind.next32 word
  generalize data.getD 0 0 = x
  generalize data.getD 1 0 = y
  have hif : ∀ (c : Prop) (b : Bool) (m n : Word) [Decidable c], (c ↔ b = true) →
      BitVec.ofNat 32 (if c then m.toNat else n.toNat) = if b then m else n := by
    intro c b m n _ hc
    by_cases h : c
    · rw [if_pos h, if_pos (hc.mp h), ofNat_toNat_word]
    · rw [if_neg h, if_neg (fun hb => h (hc.mpr hb)), ofNat_toNat_word]
  have hslt : ∀ m n : Word, int32 m.toNat < int32 n.toNat ↔ m.slt n = true := fun m n => by
    rw [int32_toNat, int32_toNat, BitVec.slt_iff_toInt_lt]
  have hult : ∀ m n : Word, m.toNat < n.toNat ↔ m.ult n = true := fun m n => by
    rw [BitVec.ult_iff_toNat_lt]
  cases k with
  | add => exact BitVec.eq_of_toNat_eq (by simp [BitVec.toNat_add])
  | and_ => exact BitVec.eq_of_toNat_eq (by simp)
  | or_ => exact BitVec.eq_of_toNat_eq (by simp)
  | xor_ => exact BitVec.eq_of_toNat_eq (by simp)
  | min => exact hif _ _ x w (hslt x w)
  | max => exact hif _ _ x w (hslt w x)
  | minn => exact hif _ _ x w (hult x w)
  | maxn => exact hif _ _ x w (hult w x)
  | xchg => exact ofNat_toNat_word x
  | cas =>
    simp only [BitVec.toNat_inj]
    split
    · exact ofNat_toNat_word y
    · exact ofNat_toNat_word w
  | fadd => rfl
  | binc =>
    simp only [hult]
    split
    · simp [BitVec.ofNat_add]
    · exact ofNat_toNat_word w
  | winc =>
    simp only [← BitVec.ule_iff_toNat_le]
    split
    · rfl
    · simp [BitVec.ofNat_add]
  | decp =>
    have hpos : 0 < int32 w.toNat ↔ (0 : Word).slt w = true := by
      rw [int32_toNat, BitVec.slt_iff_toInt_lt]
      rfl
    simp only [hpos]
    split
    · rename_i h0
      have hne : w ≠ 0 := fun hz => by subst hz; exact Bool.false_ne_true h0
      bv_omega
    · exact ofNat_toNat_word w
  | addl =>
    simp only
    split
    · simp [BitVec.ofNat_add]
    · exact ofNat_toNat_word w
  | add64 => cases h
  | xchg64 => cases h
  | cas64 => cases h
  | min64n => cases h

theorem pair_toNat (data : List Word) (i : Nat) :
    pair data i = (data.getD (i + 1) 0 ++ data.getD i 0 : DWord).toNat := by
  unfold pair word
  rw [BitVec.toNat_append, ← Nat.shiftLeft_add_eq_or_of_lt (data.getD i 0).isLt, Nat.shiftLeft_eq]
  omega

/-- The model's new value of a 64-bit atomic is the table's. -/
theorem AtomKind.new_eq_next64 {k : AtomKind} (h : k.size = 8) (w : DWord) (limit : Nat) (data : List Word) :
    BitVec.ofNat 64 (k.new w.toNat limit data) = k.next64 w data := by
  have hw : ∀ x : DWord, BitVec.ofNat 64 x.toNat = x := fun x => by rw [BitVec.ofNat_toNat, BitVec.setWidth_eq]
  unfold AtomKind.new AtomKind.next64
  simp only [pair_toNat]
  cases k with
  | add64 => exact BitVec.eq_of_toNat_eq (by simp [BitVec.toNat_add])
  | xchg64 => exact hw _
  | cas64 =>
    simp only [BitVec.toNat_inj]
    split
    · exact hw _
    · exact hw _
  | min64n =>
    simp only [← BitVec.ult_iff_toNat_lt]
    split
    · exact hw _
    · exact hw _
  | _ => cases h

end Sys2Proof.Machine

namespace Sys2Proof.Machine

/-! ## One lane's access (20 R310-R312) -/

/-- The value that an atomic finds at a place. -/
def AtomKind.oldAt (k : AtomKind) (m : Nat → Byte) (l : Nat) : Nat := bytesNum (fun i => m (l + i)) k.size

/-- The limit that AADDL finds behind its word. -/
def AtomKind.limitAt (k : AtomKind) (m : Nat → Byte) (l : Nat) : Nat :=
  if k = .addl then bytesNum (fun i => m (l + 4 + i)) 4 else 0

/-- The result words of an atomic. -/
def AtomKind.oldWords (k : AtomKind) (old : Nat) : List Word :=
  if k.size = 8 then [BitVec.ofNat 32 old, BitVec.ofNat 32 (old / 2 ^ 32)] else [BitVec.ofNat 32 old]

/-- What a lane's access leaves of the bytes. -/
def AtomKind.put (k : AtomKind) (m : Nat → Byte) (a : LaneAcc) (p : Nat) : Byte :=
  if a.loc.getD 0 ≤ p ∧ p < a.loc.getD 0 + k.size then
    byteOf (k.new (k.oldAt m (a.loc.getD 0)) (k.limitAt m (a.loc.getD 0)) a.data) (p - a.loc.getD 0)
  else m p

theorem AtomKind.size_cases (k : AtomKind) : k.size = 4 ∨ k.size = 8 := by
  cases k <;> decide

theorem AtomKind.length_oldWords (k : AtomKind) (old : Nat) : (k.oldWords old).length = k.size / 4 := by
  unfold AtomKind.oldWords
  rcases k.size_cases with h | h
  · rw [h]
    rfl
  · rw [h]
    rfl

/-- A lane's access of a group or lane-handler wave: the old value in its registers, the new one in memory. -/
theorem atomLane_eq {s : State} {g : SlotRef} (hp : (s.grp g).isPlain = true) (w : Write) (k : AtomKind) (d : Nat)
    (a : LaneAcc) :
    s.atomLane g w k d a = (s.slotStore g w (a.loc.getD 0) k.size (k.new (k.oldAt s.byte (a.loc.getD 0))
      (k.limitAt s.byte (a.loc.getD 0)) a.data)).modGrp g
        (Group.setWords d a.lane (k.oldWords (k.oldAt s.byte (a.loc.getD 0)))) := by
  unfold State.atomLane
  simp only [State.baseByte_plain hp]
  rfl

/-- A group that stands, is no combiner wave, and has changed in its lane registers only. -/
structure LaneStep (g : SlotRef) (s t : State) : Prop where
  has : t.hasGrp g = s.hasGrp g
  here : OnlyV (s.grp g) (t.grp g)

theorem LaneStep.refl (g : SlotRef) (s : State) : LaneStep g s s := ⟨rfl, OnlyV.refl _⟩

theorem LaneStep.trans {g : SlotRef} {s t u : State} (a : LaneStep g s t) (b : LaneStep g t u) : LaneStep g s u :=
  ⟨b.has.trans a.has, a.here.trans b.here⟩

theorem LaneStep.isPlain {g : SlotRef} {s t : State} (h : LaneStep g s t) : (t.grp g).isPlain = (s.grp g).isPlain := by
  obtain ⟨v, hv⟩ := h.here
  rw [hv]
  rfl

theorem atomLane_spec {s : State} {g : SlotRef} (hg : s.hasGrp g = true) (hp : (s.grp g).isPlain = true) (w : Write)
    (k : AtomKind) (d : Nat) (a : LaneAcc) :
    LaneStep g s (s.atomLane g w k d a) ∧ (s.atomLane g w k d a).byte = k.put s.byte a ∧
      (s.atomLane g w k d a).grp g =
        (s.grp g).setWords d a.lane (k.oldWords (k.oldAt s.byte (a.loc.getD 0))) := by
  rw [atomLane_eq hp]
  have hgroups := State.slotStore_groups hp w (a.loc.getD 0) k.size (k.new (k.oldAt s.byte (a.loc.getD 0))
    (k.limitAt s.byte (a.loc.getD 0)) a.data)
  have hkept := Kept.of_groups (g := g) hgroups
  have hgrp : ∀ h, State.grp _ h = s.grp h := fun h => by
    unfold State.grp
    rw [hgroups]
  have hhere := State.grp_modGrp _ g g (Group.setWords d a.lane (k.oldWords (k.oldAt s.byte (a.loc.getD 0))))
    (hkept.has.trans hg)
  rw [if_pos rfl, hgrp] at hhere
  refine ⟨⟨(State.hasGrp_modGrp _ _ _ _).trans hkept.has, ?_⟩, ?_, hhere⟩
  · rw [hhere]
    exact onlyV_setWords _ _ _ _
  · funext p
    exact State.byte_slotStore hp w (a.loc.getD 0) k.size _ p

/-! ## Lanes in ascending order -/

/-- The accesses of lanes, one after another. -/
def State.atomLanes (g : SlotRef) (o : Op) (k : AtomKind) (d : Nat) (now : List LaneAcc) (s : State) : State :=
  now.foldl (fun s a => s.atomLane g (s.atomWrite g o) k d a) s

/-- The bytes that a lane's access finds: what the lanes below it left. -/
def AtomKind.before (k : AtomKind) (now : List LaneAcc) (m : Nat → Byte) (a : LaneAcc) : Nat → Byte :=
  (now.filter (fun b => b.lane < a.lane)).foldl k.put m

/-- The old words of a lane's access. -/
def AtomKind.found (k : AtomKind) (now : List LaneAcc) (m : Nat → Byte) (a : LaneAcc) : List Word :=
  k.oldWords (k.oldAt (k.before now m a) (a.loc.getD 0))

theorem atomLanes_step {s : State} {g : SlotRef} (o : Op) (k : AtomKind) (d : Nat) (now : List LaneAcc)
    (hg : s.hasGrp g = true) (hp : (s.grp g).isPlain = true) :
    LaneStep g s (s.atomLanes g o k d now) ∧ (s.atomLanes g o k d now).byte = now.foldl k.put s.byte := by
  unfold State.atomLanes
  induction now generalizing s with
  | nil => exact ⟨LaneStep.refl g s, rfl⟩
  | cons a now ih =>
    obtain ⟨hstep, hbyte, -⟩ := atomLane_spec hg hp (s.atomWrite g o) k d a
    obtain ⟨hstep', hbyte'⟩ := ih (hstep.has.trans hg) (hstep.isPlain.trans hp)
    rw [List.foldl_cons, List.foldl_cons, ← hbyte]
    exact ⟨hstep.trans hstep', hbyte'⟩

/-- A lane register that no lane's result names keeps its value. -/
theorem atomLanes_vreg_of_not {s : State} {g : SlotRef} (o : Op) (k : AtomKind) (d : Nat) (now : List LaneAcc)
    (hg : s.hasGrp g = true) (hp : (s.grp g).isPlain = true) (hl : ∀ a ∈ now, a.lane < 32) (r m : Nat) (hm : m < 32)
    (h : ∀ a ∈ now, ¬((d ≤ r ∧ r < d + k.size / 4) ∧ m = a.lane)) :
    ((s.atomLanes g o k d now).grp g).vreg r m = (s.grp g).vreg r m := by
  unfold State.atomLanes
  induction now generalizing s with
  | nil => rfl
  | cons a now ih =>
    obtain ⟨hstep, -, hgrp⟩ := atomLane_spec hg hp (s.atomWrite g o) k d a
    rw [List.foldl_cons, ih (hstep.has.trans hg) (hstep.isPlain.trans hp) (fun b hb => hl b (List.mem_cons_of_mem _ hb))
      (fun b hb => h b (List.mem_cons_of_mem _ hb)), hgrp, Group.vreg_setWords _ _ _ _ _ _ (hl a (List.mem_cons_self ..)) hm,
      AtomKind.length_oldWords, if_neg (h a (List.mem_cons_self ..))]

/-- Each lane's registers take what its access found. -/
theorem atomLanes_vreg {s : State} {g : SlotRef} (o : Op) (k : AtomKind) (d : Nat) (now : List LaneAcc)
    (hg : s.hasGrp g = true) (hp : (s.grp g).isPlain = true) (hl : ∀ a ∈ now, a.lane < 32)
    (hs : now.Pairwise (fun a b => a.lane < b.lane)) {a : LaneAcc} (ha : a ∈ now) (j : Nat) (hj : j < k.size / 4) :
    ((s.atomLanes g o k d now).grp g).vreg (d + j) a.lane = (k.found now s.byte a).getD j 0 := by
  unfold State.atomLanes
  induction now generalizing s with
  | nil => cases ha
  | cons b now ih =>
    obtain ⟨hb, hs'⟩ := List.pairwise_cons.mp hs
    obtain ⟨hstep, hbyte, hgrp⟩ := atomLane_spec hg hp (s.atomWrite g o) k d b
    have hl' : ∀ x ∈ now, x.lane < 32 := fun x hx => hl x (List.mem_cons_of_mem _ hx)
    rw [List.foldl_cons]
    rcases List.mem_cons.mp ha with rfl | hmem
    · have hbelow : k.before (a :: now) s.byte a = s.byte := by
        unfold AtomKind.before
        rw [List.filter_eq_nil_iff.mpr]
        · rfl
        · intro x hx
          rw [decide_eq_true_eq]
          rcases List.mem_cons.mp hx with rfl | hx
          · exact Nat.lt_irrefl _
          · exact Nat.not_lt_of_lt (hb x hx)
      have hout := atomLanes_vreg_of_not (s := s.atomLane g (s.atomWrite g o) k d a) o k d now (hstep.has.trans hg)
        (hstep.isPlain.trans hp) hl' (d + j) a.lane (hl a ha) (fun x hx hc => absurd hc.2 (Nat.ne_of_lt (hb x hx)))
      unfold State.atomLanes at hout
      rw [hout, hgrp, Group.vreg_setWords _ _ _ _ _ _ (hl a ha) (hl a ha), AtomKind.length_oldWords,
        if_pos ⟨⟨by omega, by omega⟩, rfl⟩, Nat.add_sub_cancel_left, AtomKind.found, hbelow]
    · have hbelow : k.before (b :: now) s.byte a = k.before now (s.atomLane g (s.atomWrite g o) k d b).byte a := by
        unfold AtomKind.before
        rw [List.filter_cons_of_pos (by rw [decide_eq_true_eq]; exact hb a hmem), List.foldl_cons, hbyte]
      rw [ih (hstep.has.trans hg) (hstep.isPlain.trans hp) hl' hs' hmem, AtomKind.found, AtomKind.found, hbelow]

/-! ## ATOMIC_PERFORM -/

theorem State.chargeAt_groups (g : SlotRef) (ni nt : Int) (s : State) : (s.chargeAt g ni nt).groups = s.groups := by
  unfold State.chargeAt
  simp only [State.count_groups]
  split
  · split <;> rfl
  · rfl

theorem State.takeLine_groups (line : Nat) (s : State) : (s.takeLine line).groups = s.groups :=
  State.recallLine_groups s none line

/-- The charge of an atomic's lines leaves the groups alone. -/
theorem State.chargeAtomic_groups (g : SlotRef) (obs : BitVec 7) (paid now : List Nat) (s : State) :
    (s.chargeAtomic g obs paid now).groups = s.groups := by
  unfold State.chargeAtomic
  simp only
  rw [State.chargeAt_groups]
  split
  · exact foldl_keeps State.groups (fun s x => s.zeroBack x) (fun s x => State.zeroBack_groups s x) _ _
  · refine foldl_keeps State.groups (fun t x => if s.atPort g obs then t.takeLine x else t.recallLine none x)
      (fun t x => ?_) _ _
    split
    · exact State.takeLine_groups x t
    · exact State.recallLine_groups t none x

/-- The state before the last step of ATOMIC_PERFORM: the accesses made, and their lines charged. -/
def State.atomNow (g : SlotRef) (o : Op) (k : AtomKind) (d : Nat) (now : List LaneAcc) (lines : List Nat) (s : State) :
    State :=
  (((s.releaseAt g o.obs).atomLanes g o k d now).chargeAtomic g o.obs lines
    (spanLines (now.map (fun a => ⟨a.loc.getD 0, k.size⟩)))).acquired g o

section
variable {s : State} {g : SlotRef} {n : Nat} {lanes : Word} {o : Op} {k : AtomKind} {d : Nat} {acc : List LaneAcc}
  {lines : List Nat} (hf : (s.grp g).findOp n = some o) (hk : o.kind = .atomic k d acc lines)
include hf hk

/-- While a lower lane that is not named touches a named lane's bytes, nothing happens (20 R312). -/
theorem execAtomic_blocked
    (hb : (acc.filter (fun a => inMask lanes a.lane)).any
      (laneBlocked s g k.extent (acc.filter (fun a => !inMask lanes a.lane))) = true) :
    exec (.atomicPerform g n lanes) s = .next s := by
  have e : exec (.atomicPerform g n lanes) s = execAtomicPerform g n lanes s := rfl
  rw [e]
  unfold execAtomicPerform
  simp only [hf, hk, hb, or_true, if_true]

theorem execAtomic_eq (hp : (s.grp g).isPlain = true) (hm : s.mayPerform g o = true)
    (hb : (acc.filter (fun a => inMask lanes a.lane)).any
      (laneBlocked s g k.extent (acc.filter (fun a => !inMask lanes a.lane))) = false) :
    exec (.atomicPerform g n lanes) s = .next (
      if acc.filter (fun a => !inMask lanes a.lane) = [] then
        (s.atomNow g o k d (acc.filter (fun a => inMask lanes a.lane)) lines).storeEnd g o
      else (s.atomNow g o k d (acc.filter (fun a => inMask lanes a.lane)) lines).opStep g o
        (some (.atomic k d (acc.filter (fun a => !inMask lanes a.lane)) (lines ++
          ((s.releaseAt g o.obs).atomLanes g o k d (acc.filter (fun a => inMask lanes a.lane))).atomicPays g o.obs lines
            (spanLines ((acc.filter (fun a => inMask lanes a.lane)).map (fun a => ⟨a.loc.getD 0, k.size⟩))))))) := by
  have e : exec (.atomicPerform g n lanes) s = execAtomicPerform g n lanes s := rfl
  rw [e]
  unfold execAtomicPerform
  simp only [hf, hk, hm, hb, State.strays_plain hp, Bool.not_true, Bool.false_eq_true, or_self, if_false]
  rfl

end

/-- What stands before the last step: the group with the old values in its registers, and the bytes. -/
theorem atomNow_spec {s : State} {g : SlotRef} (o : Op) (k : AtomKind) (d : Nat) (now : List LaneAcc) (lines : List Nat)
    (hg : s.hasGrp g = true) (hp : (s.grp g).isPlain = true) :
    LaneStep g s (s.atomNow g o k d now lines) ∧ (s.atomNow g o k d now lines).byte = now.foldl k.put s.byte ∧
      (s.atomNow g o k d now lines).grp g = ((s.releaseAt g o.obs).atomLanes g o k d now).grp g := by
  obtain ⟨hstep, hbyte⟩ := atomLanes_step (s := s.releaseAt g o.obs) o k d now hg hp
  have hgroups : (s.atomNow g o k d now lines).groups = ((s.releaseAt g o.obs).atomLanes g o k d now).groups := by
    unfold State.atomNow
    obtain ⟨w, f, hw⟩ := onlyMarks_acquired g o (((s.releaseAt g o.obs).atomLanes g o k d now).chargeAtomic g o.obs lines
      (spanLines (now.map (fun a => ⟨a.loc.getD 0, k.size⟩))))
    rw [hw]
    exact State.chargeAtomic_groups _ _ _ _ _
  have hmem : (s.atomNow g o k d now lines).mem = ((s.releaseAt g o.obs).atomLanes g o k d now).mem := by
    unfold State.atomNow
    simp
  have hgrp : (s.atomNow g o k d now lines).grp g = ((s.releaseAt g o.obs).atomLanes g o k d now).grp g := by
    unfold State.grp
    rw [hgroups]
  refine ⟨⟨?_, ?_⟩, ?_, hgrp⟩
  · exact (Kept.of_groups (g := g) hgroups).has.trans hstep.has
  · rw [hgrp]
    exact hstep.here
  · funext p
    rw [State.byte_of_mem hmem, hbyte]
    rfl

end Sys2Proof.Machine

namespace Sys2Proof.Machine

/-! ## The model's accesses by the table -/

/-- The new value of an atomic from the eight bytes at its place. -/
def AtomKind.next (k : AtomKind) (w : DWord) (data : List Word) : DWord :=
  if k.size = 8 then k.next64 w data else (k.next32 (w.setWidth 32) (w.toNat / 2 ^ 32) data).setWidth 64

/-- Only AADDL asks for a limit. -/
theorem AtomKind.next32_limit {k : AtomKind} (h : k ≠ .addl) (w : Word) (m n : Nat) (data : List Word) :
    k.next32 w m data = k.next32 w n data := by
  cases k with
  | addl => exact absurd rfl h
  | _ => rfl

theorem byteOf_of_word {x i : Nat} {w : Word} (h : BitVec.ofNat 32 x = w) (hi : i < 4) :
    byteOf x i = (w.setWidth 64 >>> (8 * i)).setWidth 8 := by
  subst h
  apply BitVec.eq_of_getLsbD_eq
  intro j hj
  rw [getLsbD_byteOf, BitVec.getLsbD_setWidth, BitVec.getLsbD_ushiftRight, BitVec.getLsbD_setWidth, BitVec.getLsbD_ofNat]
  simp [show 8 * i + j < 32 by omega, show 8 * i + j < 64 by omega]

theorem byteOf_of_dword {x i : Nat} {w : DWord} (h : BitVec.ofNat 64 x = w) (hi : i < 8) :
    byteOf x i = (w >>> (8 * i)).setWidth 8 := by
  subst h
  apply BitVec.eq_of_getLsbD_eq
  intro j hj
  rw [getLsbD_byteOf, BitVec.getLsbD_setWidth, BitVec.getLsbD_ushiftRight, BitVec.getLsbD_ofNat]
  simp [show 8 * i + j < 64 by omega]

theorem AtomKind.oldAt_narrow {k : AtomKind} (h : k.size = 4) (m : Nat → Byte) (l : Nat) :
    k.oldAt m l = ((dwordAt m l).setWidth 32).toNat := by
  rw [AtomKind.oldAt, h, dwordAt_low]

theorem AtomKind.oldAt_wide {k : AtomKind} (h : k.size = 8) (m : Nat → Byte) (l : Nat) :
    k.oldAt m l = (dwordAt m l).toNat := by
  rw [AtomKind.oldAt, h, dwordAt_toNat]

/-- A byte of the new value is the table's. -/
theorem AtomKind.byteOf_new (k : AtomKind) (m : Nat → Byte) (l : Nat) (data : List Word) {i : Nat} (hi : i < k.size) :
    byteOf (k.new (k.oldAt m l) (k.limitAt m l) data) i = (k.next (dwordAt m l) data >>> (8 * i)).setWidth 8 := by
  unfold AtomKind.next
  rcases k.size_cases with h | h
  · have hlimit : k.next32 ((dwordAt m l).setWidth 32) (k.limitAt m l) data =
        k.next32 ((dwordAt m l).setWidth 32) ((dwordAt m l).toNat / 2 ^ 32) data := by
      by_cases ha : k = .addl
      · rw [AtomKind.limitAt, if_pos ha, dwordAt_high]
      · exact AtomKind.next32_limit ha _ _ _ _
    rw [if_neg (by rw [h]; decide), ← hlimit, AtomKind.oldAt_narrow h]
    exact byteOf_of_word (AtomKind.new_eq_next32 h _ _ _) (by rwa [h] at hi)
  · rw [if_pos h, AtomKind.oldAt_wide h]
    exact byteOf_of_dword (AtomKind.new_eq_next64 h _ _ _) (by rwa [h] at hi)

/-- The first result word is the low word of the bytes found. -/
theorem AtomKind.oldWords_low (k : AtomKind) (m : Nat → Byte) (l : Nat) :
    (k.oldWords (k.oldAt m l)).getD 0 0 = (dwordAt m l).setWidth 32 := by
  unfold AtomKind.oldWords
  rcases k.size_cases with h | h
  · rw [if_neg (by rw [h]; decide), AtomKind.oldAt_narrow h]
    exact ofNat_toNat_word _
  · rw [if_pos h, AtomKind.oldAt_wide h]
    exact BitVec.ofNat_toNat 32 _

/-- The second result word of a 64-bit atomic is the high word. -/
theorem AtomKind.oldWords_high {k : AtomKind} (h : k.size = 8) (m : Nat → Byte) (l : Nat) :
    (k.oldWords (k.oldAt m l)).getD 1 0 = (dwordAt m l).extractLsb' 32 32 := by
  unfold AtomKind.oldWords
  rw [if_pos h, AtomKind.oldAt_wide h]
  apply BitVec.eq_of_toNat_eq
  simp [BitVec.extractLsb'_toNat, Nat.shiftRight_eq_div_pow]

theorem AtomKind.put_eq (k : AtomKind) (m : Nat → Byte) {a : LaneAcc} {l : Nat} (h : a.loc = some l) (p : Nat) :
    k.put m a p = if l ≤ p ∧ p < l + k.size then (k.next (dwordAt m l) a.data >>> (8 * (p - l))).setWidth 8 else m p := by
  unfold AtomKind.put
  rw [h, Option.getD_some]
  split
  · exact k.byteOf_new m l a.data (by omega)
  · rfl

/-- A named lane waits for a lower lane that is not named and touches one of its bytes (20 R312). -/
theorem laneBlocked_iff {s : State} {g : SlotRef} {size : Nat} {rest : List LaneAcc} {a : LaneAcc} {place : Nat → Nat}
    (ha : a.loc = some (place a.lane)) (hr : ∀ b ∈ rest, b.loc = some (place b.lane)) :
    laneBlocked s g size rest a = true ↔
      ∃ b ∈ rest, b.lane < a.lane ∧ place a.lane < place b.lane + size ∧ place b.lane < place a.lane + size := by
  have hspan : ∀ b : LaneAcc, b.loc = some (place b.lane) → s.accSpans g true size [b] = [⟨place b.lane, size⟩] := fun b hb => by
    unfold State.accSpans State.accLoc
    simp [hb]
  unfold laneBlocked
  rw [List.any_eq_true]
  refine exists_congr (fun b => and_congr_right (fun hb => ?_))
  rw [hspan a ha, hspan b (hr b hb)]
  simp only [List.any_cons, List.any_nil, Bool.or_false, Span.meets, Bool.and_eq_true, decide_eq_true_eq]
  exact and_congr_right (fun _ => and_comm)

/-! ## What ATOMIC_PERFORM does -/

/-- The lane registers behind accesses: what each found, and every other register as it was. -/
def LanesFound (g : SlotRef) (k : AtomKind) (d : Nat) (now : List LaneAcc) (s t : State) : Prop :=
  (∀ a ∈ now, ∀ j, j < k.size / 4 → (t.grp g).vreg (d + j) a.lane = (k.found now s.byte a).getD j 0) ∧
    ∀ r m, m < 32 → (∀ a ∈ now, ¬((d ≤ r ∧ r < d + k.size / 4) ∧ m = a.lane)) → (t.grp g).vreg r m = (s.grp g).vreg r m

theorem OnlyMarks.grp {s t : State} (h : OnlyMarks s t) (g : SlotRef) : t.grp g = s.grp g := by
  obtain ⟨w, f, rfl⟩ := h
  rfl

theorem OnlyMarks.mem {s t : State} (h : OnlyMarks s t) : t.mem = s.mem := by
  obtain ⟨w, f, rfl⟩ := h
  rfl

/-- The last step, which ends the operation or not, of a state that stands as the accesses left it. -/
theorem atomEnd_spec {s t : State} {g : SlotRef} {o : Op} {k : AtomKind} {d : Nat} {now : List LaneAcc} {lines : List Nat}
    (hg : s.hasGrp g = true) (hp : (s.grp g).isPlain = true) (hl : ∀ a ∈ now, a.lane < 32)
    (hs : now.Pairwise (fun a b => a.lane < b.lane)) (hm : OnlyMarks (s.atomNow g o k d now lines) t) (x : Option OpKind) :
    (t.opStep g o x).byte = now.foldl k.put s.byte ∧ LanesFound g k d now s (t.opStep g o x) ∧
      ∃ h : Group, OnlyV (s.grp g) h ∧ (t.opStep g o x).grp g = h.stepOp o x := by
  obtain ⟨hstep, hbyte, hgrp⟩ := atomNow_spec o k d now lines hg hp
  have hhere : (t.opStep g o x).grp g = ((s.atomNow g o k d now lines).grp g).stepOp o x := by
    rw [State.grp_opStep ((Kept.of_marks hm).has.trans (hstep.has.trans hg)), if_pos rfl, hm.grp]
  have hvreg : ∀ r m, ((t.opStep g o x).grp g).vreg r m = (((s.releaseAt g o.obs).atomLanes g o k d now).grp g).vreg r m := by
    intro r m
    unfold Group.vreg
    rw [hhere, (Group.stepOp_keeps o x _).1, hgrp]
  refine ⟨?_, ⟨fun a ha j hj => ?_, fun r m hm hout => ?_⟩, _, hstep.here, hhere⟩
  · funext p
    rw [State.byte_of_mem ((State.opStep_mem g o x t).trans hm.mem), hbyte]
  · rw [hvreg]
    exact atomLanes_vreg (s := s.releaseAt g o.obs) o k d now hg hp hl hs ha j hj
  · rw [hvreg]
    exact atomLanes_vreg_of_not (s := s.releaseAt g o.obs) o k d now hg hp hl r m hm hout

/-- The q, o and predicate registers are as they were. -/
def FileSame (g : SlotRef) (s t : State) : Prop :=
  (t.grp g).q = (s.grp g).q ∧ (t.grp g).o = (s.grp g).o ∧ (t.grp g).p = (s.grp g).p

theorem OnlyV.fileSame {s t : State} {g : SlotRef} {h : Group} (hv : OnlyV (s.grp g) h) {o : Op} {x : Option OpKind}
    (ht : t.grp g = h.stepOp o x) : FileSame g s t := by
  obtain ⟨-, h_o, h_q, h_p, -⟩ := Group.stepOp_keeps o x h
  obtain ⟨v, rfl⟩ := hv
  exact ⟨by rw [ht, h_q], by rw [ht, h_o], by rw [ht, h_p]⟩

/-- The lanes named are performed: bytes, registers, predicates, and how the operation goes on. -/
theorem atomicPerform_spec {s : State} {g : SlotRef} {n : Nat} {lanes : Word} {o : Op} {k : AtomKind} {d : Nat}
    {acc now rest : List LaneAcc} {lines : List Nat} (hg : s.hasGrp g = true) (hp : (s.grp g).isPlain = true)
    (hf : (s.grp g).findOp n = some o) (hid : o.id = n) (hm : s.mayPerform g o = true)
    (hk : o.kind = .atomic k d acc lines) (hs : acc.Pairwise (fun a b => a.lane < b.lane)) (hl : ∀ a ∈ acc, a.lane < 32)
    (hnow : acc.filter (fun a => inMask lanes a.lane) = now) (hrest : acc.filter (fun a => !inMask lanes a.lane) = rest)
    (hb : now.any (laneBlocked s g k.extent rest) = false) :
    ∃ t, exec (.atomicPerform g n lanes) s = .next t ∧ t.byte = now.foldl k.put s.byte ∧ LanesFound g k d now s t ∧
      (rest = [] → OpDone g o n s t) ∧
      (rest ≠ [] → ∃ o' ls, (t.grp g).findOp n = some o' ∧ o'.kind = .atomic k d rest ls) ∧ FileSame g s t := by
  have hl' : ∀ a ∈ now, a.lane < 32 := fun a ha => hl a (List.mem_filter.mp (hnow ▸ ha)).1
  have hs' : now.Pairwise (fun a b => a.lane < b.lane) := hnow ▸ hs.sublist List.filter_sublist
  have hexec := execAtomic_eq (lanes := lanes) hf hk hp hm (by rw [hnow, hrest]; exact hb)
  rw [hnow, hrest] at hexec
  refine ⟨_, hexec, ?_⟩
  by_cases hr : rest = []
  · rw [if_pos hr]
    obtain ⟨hbyte, hfound, h, hv, hgrp⟩ :=
      atomEnd_spec hg hp hl' hs' (onlyMarks_storeDone g o (s.atomNow g o k d now lines)) none
    refine ⟨hbyte, hfound, fun _ => ⟨?_, fun f hflag => ?_⟩, fun hne => absurd hr hne, hv.fileSame hgrp⟩
    · rw [← hid]
      exact (congrArg (fun x : Group => x.findOp o.id) hgrp).trans (Group.findOp_stepOp_none h o)
    · refine (congrArg (fun x : Group => (x.flag f).count) hgrp).trans ((Group.flag_stepOp o none h hflag).trans ?_)
      obtain ⟨v, rfl⟩ := hv
      rfl
  · rw [if_neg hr]
    obtain ⟨hbyte, hfound, h, hv, hgrp⟩ :=
      atomEnd_spec hg hp hl' hs' (OnlyMarks.refl (s.atomNow g o k d now lines)) (some (.atomic k d rest _))
    have hfind : h.findOp n = some o := by
      obtain ⟨v, rfl⟩ := hv
      exact hf
    exact ⟨hbyte, hfound, fun he => absurd he hr, fun _ => ⟨_, _,
      (congrArg (fun x : Group => x.findOp n) hgrp).trans (Group.findOp_stepOp_some hfind hid _), rfl⟩, hv.fileSame hgrp⟩

/-- Settles O36: `atomicPerform_spec` says what the named lanes leave, `AtomKind.put_eq` that each writes R309's new value, and
`laneBlocked_iff` when nothing happens. -/
theorem atomicsPerform : Obligations.AtomicsPerform := by
  unfold Obligations.AtomicsPerform
  intro s g n lanes o kind d acc place lines hg hp hfind hid hm hk hs hacc wide size extent next dword step now rest meets
  have hf : (s.grp g).findOp n = some o := hfind
  have hwide : wide = true ↔ kind.size = 8 := by
    cases kind <;> decide
  have hsize : size = kind.size := by
    cases kind <;> rfl
  have hextent : extent = kind.extent := by
    cases kind <;> rfl
  have hnext : ∀ w data, next w data = kind.next w data := by
    intro w data
    cases kind <;> rfl
  have hmem : ∀ a ∈ now, a ∈ acc := fun a ha => (List.mem_filter.mp ha).1
  have hstep : ∀ xs : List LaneAcc, (∀ a ∈ xs, a ∈ acc) → ∀ m, xs.foldl step m = xs.foldl kind.put m := by
    intro xs hxs m
    refine List.foldl_ext _ _ _ (fun m a ha => ?_)
    funext p
    rw [kind.put_eq m (hacc a (hxs a ha)).2, ← hsize, ← hnext]
    rfl
  have hblocked : now.any (laneBlocked s g kind.extent rest) = true ↔ ∃ a ∈ now, ∃ b ∈ rest, meets a b := by
    rw [List.any_eq_true, ← hextent]
    exact exists_congr (fun a => and_congr_right (fun ha => laneBlocked_iff (hacc a (hmem a ha)).2
      (fun b hb => (hacc b (List.mem_filter.mp hb).1).2)))
  refine ⟨fun hex => execAtomic_blocked hf hk (hblocked.mpr hex), fun hno => ?_⟩
  have hb : now.any (laneBlocked s g kind.extent rest) = false := Bool.eq_false_iff.mpr (fun h => by
    obtain ⟨a, ha, b, hb, hab⟩ := hblocked.mp h
    exact hno a ha b hb hab)
  obtain ⟨t, ht, hbyte, ⟨hin, hout⟩, hdone, hgoes, hsame⟩ :=
    atomicPerform_spec hg hp hf hid hm hk hs (fun a ha => (hacc a ha).1) rfl rfl hb
  have hfound : ∀ a ∈ now, kind.found now s.byte a = kind.oldWords (kind.oldAt
      ((now.filter (fun b => b.lane < a.lane)).foldl step s.byte) (place a.lane)) := fun a ha => by
    rw [hstep _ (fun b hb => hmem b (List.mem_filter.mp hb).1), AtomKind.found, (hacc a (hmem a ha)).2]
    rfl
  refine ⟨t, ht, fun p => ?_, fun a ha => ⟨?_, fun hw => ?_⟩, fun r m hm hnot => hout r m hm (fun a ha hc => ?_),
    hdone, hgoes, hsame⟩
  · rw [hstep now hmem]
    exact congrFun hbyte p
  · have h0 := hin a ha 0 (by rcases kind.size_cases with h | h <;> omega)
    rw [hfound a ha, AtomKind.oldWords_low] at h0
    exact h0
  · have h1 := hin a ha 1 (by rw [hwide.mp hw]; decide)
    rw [hfound a ha, AtomKind.oldWords_high (hwide.mp hw)] at h1
    exact h1
  · refine hnot ⟨⟨a, ha, hc.2.symm⟩, ?_⟩
    rw [hwide]
    rcases kind.size_cases with h | h
    · exact .inl (by omega)
    · exact (by omega : r = d ∨ r = d + 1).imp id (fun hr => ⟨h, hr⟩)

end Sys2Proof.Machine


/-! # What an instruction that issues leaves: the charge, its change of the group, and the way on -/

namespace Sys2Proof.Machine

theorem plain_hasGrp {s : State} (h : s.plain = true) : s.hasGrp s.cur.g = true := hasGrp_of_here (plain_here h)

/-- An operation on groups that the view commutes with respects it. -/
theorem Respects.of_comm {f : Group → Group} (h : ∀ g, (f g).bare = f g.bare) : Respects f :=
  fun x y e => by rw [h x, h y, e]

theorem State.me_modMe {s : State} (h : s.hasGrp s.cur.g = true) (f : Group → Group) : (s.modMe f).me = f s.me := by
  show (s.modGrp s.cur.g f).grp s.cur.g = _
  rw [State.grp_modGrp s _ _ f h, if_pos rfl]
  rfl

/-- A context that has issued an instruction of n bytes in cycle k. -/
def Context.issued (n k : Nat) (c : Context) : Context := { c.advance n false with lastIssue := k + 1 }

theorem State.advance_eq (s : State) (n : Nat) : s.advance n = s.modMe (Group.modCtx s.cur.i (Context.issued n s.tick)) := rfl

/-- The group of the context that issues, once it goes on. -/
theorem State.me_advance {s : State} (h : s.hasGrp s.cur.g = true) (n : Nat) :
    (s.advance n).me = s.me.modCtx s.cur.i (Context.issued n s.tick) :=
  State.me_modMe h _

theorem charge_cur (s : State) (n : Nat) : (s.charge n).cur = s.cur := (quiet_charge s n).cur

theorem charge_hasGrp (s : State) (n : Nat) (g : SlotRef) : (s.charge n).hasGrp g = s.hasGrp g :=
  (quiet_charge s n).hasGrp g

/-- The groups after a charge: the issue is counted, and nothing else of them changes. -/
theorem charge_groups (s : State) (n : Nat) : (s.charge n).groups = s.countIssue.groups := by
  unfold State.charge State.chargeAt
  simp only
  split
  · split <;> rfl
  · rfl

/-- What a charge leaves of a group, by any view that its counts of instructions do not show in. -/
theorem charge_grp_view {β : Type} (v : Group → β) (h : ∀ (g : Group) a b c, v { g with executed := a, graceCount := b, graceDue := c } = v g)
    (s : State) (n : Nat) (g : SlotRef) : v ((s.charge n).grp g) = v (s.grp g) := by
  unfold State.grp
  rw [charge_groups]
  exact get_upd_view s.groups Group.empty s.cur.g.key g.key _ v (fun x => h x _ _ _)

/-- An instruction that is charged n units in s1, changes its group by f and goes on k bytes, where s1 is s but for the
cores' counts. -/
theorem runs_after {s s1 : State} (n k : Nat) {f : Group → Group} (hf : Respects f)
    (hstop : ∀ g : Group, ((f g).ctx s.cur.i).stop = (g.ctx s.cur.i).stop) (hp : s.plain = true)
    (hq : Quiet s s1) (hg : s1.groups = s.groups) (ht : s1.teams = s.teams) (hk : s1.tasks = s.tasks) :
    OnlyGroup s.cur.g (fun g => (f g).goOn s.cur.i k) s (((s1.charge n).modMe f).advance k) ∧
      Paid n 0 s (((s1.charge n).modMe f).advance k) ∧ RunsOn s (((s1.charge n).modMe f).advance k) := by
  have hgrp : ∀ g, s1.grp g = s.grp g := fun g => by unfold State.grp; rw [hg]
  have hme : s1.me = s.me := by unfold State.me; rw [hq.cur, hgrp]
  have hp1 : s1.plain = true := by
    unfold State.plain State.placed State.here State.hasCtx at hp ⊢
    rw [hme, hq.cur, hgrp, ht, hk]
    exact hp
  obtain ⟨honly, hpaid⟩ := charged_runs s1 n k f hf hp1
  have hteam : ∀ u, s1.team u = s.team u := fun u => by unfold State.team; rw [ht]
  unfold Paid at hpaid ⊢
  rw [hme, hteam] at hpaid
  rw [hq.cur] at honly
  refine ⟨hq.only (Respects.comp hf (Respects.goOn _ _)) honly, hpaid, fun hr => ?_⟩
  have hc : (s1.charge n).cur = s.cur := (charge_cur s1 n).trans hq.cur
  have hg1 : (s1.charge n).hasGrp (s1.charge n).cur.g = true := by
    rw [charge_hasGrp, charge_cur]
    exact plain_hasGrp hp1
  have hg2 : ((s1.charge n).modMe f).hasGrp ((s1.charge n).modMe f).cur.g = true :=
    (State.hasGrp_modGrp _ _ _ _).trans hg1
  have hview := State.me_advance hg2 k
  rw [State.me_modMe hg1] at hview
  have hme1 : ∀ t : State, t.cur = s.cur → t.grp s.cur.g = t.me := fun t e => by unfold State.me; rw [e]
  have hctx : ((s1.charge n).grp s.cur.g).ctx s.cur.i = (s1.grp s.cur.g).ctx s.cur.i :=
    charge_grp_view (fun g => g.ctx s.cur.i) (fun _ _ _ _ => rfl) s1 n s.cur.g
  rw [hme1 (((s1.charge n).modMe f).advance k) hc, hview, State.modMe_cur, hc, stop_modCtx _ _ _ (Context.issued k _) (fun _ => rfl), hstop,
    ← hme1 _ hc, hctx, hgrp]
  exact hr

/-- The same, straight from s. -/
theorem runs_charged {s : State} (n k : Nat) {f : Group → Group} (hf : Respects f)
    (hstop : ∀ g : Group, ((f g).ctx s.cur.i).stop = (g.ctx s.cur.i).stop) (hp : s.plain = true) :
    OnlyGroup s.cur.g (fun g => (f g).goOn s.cur.i k) s (((s.charge n).modMe f).advance k) ∧
      Paid n 0 s (((s.charge n).modMe f).advance k) ∧ RunsOn s (((s.charge n).modMe f).advance k) :=
  runs_after n k hf hstop hp (Quiet.refl s) rfl rfl rfl

/-- The group of the context that issues, after a charge and a change of it. -/
theorem me_charged {s : State} (h : s.hasGrp s.cur.g = true) (n : Nat) (f : Group → Group) :
    (((s.charge n).modMe f)).me = f (s.charge n).me :=
  State.me_modMe (by rw [charge_hasGrp, charge_cur]; exact h) f

end Sys2Proof.Machine

/-! # The 16-bit forms (obligation O22) -/

namespace Sys2Proof.Machine

/-! ## What a lane instruction writes (07 R126) -/

theorem mem_lanesOf {m : Word} {l : Nat} : l ∈ lanesOf m ↔ l < 32 ∧ inMask m l = true := by
  simp [lanesOf]

theorem lanesOf_nodup (m : Word) : (lanesOf m).Nodup := List.nodup_range.filter _

theorem Group.qreg_setQ (g : Group) (r k l m : Nat) (x : Word) (hl : l < 32) (hm : m < 32) :
    (g.setQ r l x).qreg k m = if k = r ∧ m = l then x else g.qreg k m := by
  unfold Group.qreg Group.setQ
  simp only [SMap.get_put, laneKey_inj hm hl]

/-- Each lane's one word stands in its register, and every other register of every lane stands. -/
theorem Group.vreg_foldl_setWords (d : Nat) (x : Nat → Word) (ls : List Nat) (g : Group) (r m : Nat)
    (hl : ∀ l ∈ ls, l < 32) (hm : m < 32) :
    (ls.foldl (fun g l => g.setWords d l [x l]) g).vreg r m = if r = d ∧ m ∈ ls then x m else g.vreg r m := by
  induction ls generalizing g with
  | nil => simp
  | cons l ls ih =>
    rw [List.foldl_cons, ih _ (fun k hk => hl k (List.mem_cons_of_mem _ hk)),
      Group.vreg_setWords d l [x l] g r m (hl l (List.mem_cons_self ..)) hm]
    by_cases h : r = d ∧ m ∈ ls
    · rw [if_pos h, if_pos ⟨h.1, List.mem_cons_of_mem _ h.2⟩]
    · rw [if_neg h]
      by_cases hml : r = d ∧ m = l
      · obtain ⟨rfl, rfl⟩ := hml
        simp
      · rw [if_neg (by simp only [List.length_singleton]; omega), if_neg (by rw [List.mem_cons]; tauto)]

/-- Only the q registers have changed. -/
def OnlyQ (g h : Group) : Prop := ∃ q, h = { g with q := q }

theorem OnlyQ.refl (g : Group) : OnlyQ g g := ⟨g.q, rfl⟩

theorem OnlyQ.trans {a b c : Group} (x : OnlyQ a b) (y : OnlyQ b c) : OnlyQ a c := by
  obtain ⟨v, rfl⟩ := x
  obtain ⟨w, rfl⟩ := y
  exact ⟨w, rfl⟩

theorem OnlyQ.foldl {α : Type} {f : Group → α → Group} (h : ∀ g x, OnlyQ g (f g x)) (xs : List α) (g : Group) :
    OnlyQ g (xs.foldl f g) := by
  induction xs generalizing g with
  | nil => exact OnlyQ.refl g
  | cons x xs ih => exact (h g x).trans (ih (f g x))

theorem onlyQ_setQ (r l : Nat) (x : Word) (g : Group) : OnlyQ g (g.setQ r l x) := ⟨_, rfl⟩

theorem onlyQ_rotateLane (d l : Nat) (g : Group) : OnlyQ g (g.rotateLane d l) :=
  (((onlyQ_setQ 3 l _ g).trans (onlyQ_setQ 2 l _ _)).trans (onlyQ_setQ 1 l _ _)).trans (onlyQ_setQ 0 l _ _)

theorem onlyQ_rotate (d : Nat) (m : Word) (g : Group) : OnlyQ g (g.rotate d m) :=
  OnlyQ.foldl (fun g l => onlyQ_rotateLane d l g) _ g

theorem OnlyQ.v {g h : Group} (x : OnlyQ g h) : h.v = g.v := by
  obtain ⟨q, rfl⟩ := x
  rfl

/-- One lane's q after its rotation, and every other lane's (05 R86). -/
theorem Group.qreg_rotateLane (d l : Nat) (g : Group) (k m : Nat) (hl : l < 32) (hm : m < 32) :
    (g.rotateLane d l).qreg k m =
      if m = l ∧ k < 4 then (if k = 0 then g.vreg d l else g.qreg (k - 1) l) else g.qreg k m := by
  have hv : (((g.setQ 3 l (g.qreg 2 l)).setQ 2 l (g.qreg 1 l)).setQ 1 l (g.qreg 0 l)).vreg d l = g.vreg d l := rfl
  unfold Group.rotateLane
  simp only [Group.qreg_setQ _ _ _ _ _ _ hl hm]
  by_cases h : m = l
  · subst h
    match k with
    | 0 => simp
    | 1 => simp
    | 2 => simp
    | 3 => simp
    | k + 4 => simp
  · simp [h]

/-- q after a rotation in every lane of a mask (05 R86). -/
theorem Group.qreg_rotate (d : Nat) (p : Word) (g : Group) (k m : Nat) (hm : m < 32) :
    (g.rotate d p).qreg k m =
      if inMask p m = true ∧ k < 4 then (if k = 0 then g.vreg d m else g.qreg (k - 1) m) else g.qreg k m := by
  have key : ∀ (ls : List Nat) (g : Group), (∀ l ∈ ls, l < 32) → ls.Nodup →
      (ls.foldl (fun g l => g.rotateLane d l) g).qreg k m =
        if m ∈ ls ∧ k < 4 then (if k = 0 then g.vreg d m else g.qreg (k - 1) m) else g.qreg k m := by
    intro ls
    induction ls with
    | nil => intro g _ _; simp
    | cons l ls ih =>
      intro g hl hn
      obtain ⟨hnot, hn⟩ := List.nodup_cons.mp hn
      have hl32 := hl l (List.mem_cons_self ..)
      have hq : ∀ j, (g.rotateLane d l).qreg j m = _ := fun j => Group.qreg_rotateLane d l g j m hl32 hm
      have hv : (g.rotateLane d l).vreg d m = g.vreg d m := rfl
      rw [List.foldl_cons, ih _ (fun j hj => hl j (List.mem_cons_of_mem _ hj)) hn, hq, hq, hv]
      by_cases h : m = l
      · subst h
        simp [hnot]
      · simp [h]
  unfold Group.rotate
  rw [key (lanesOf p) g (fun l h => (mem_lanesOf.mp h).1) (lanesOf_nodup p)]
  simp [mem_lanesOf, hm]

/-- A group whose lane registers are v and q and in which these events are raised. -/
def Group.withLanes (v q : SMap Word) (ev : Ev) (g : Group) : Group :=
  { g with v := v, q := q, fpflags := g.fpflags ||| ev, fpnow := g.fpnow ||| ev }

theorem withLanes_of {g a c : Group} {ev : Ev} (ha : OnlyV g a) (hc : OnlyQ (a.raiseEv ev) c) : c = g.withLanes c.v c.q ev := by
  obtain ⟨v, rfl⟩ := ha
  obtain ⟨q, rfl⟩ := hc
  rfl

/-- The lanes' results, written. -/
def Group.writeLanes (d : Nat) (act : Word) (res : Nat → LaneRes) (g : Group) : Group :=
  (lanesOf act).foldl (fun g l => g.setWords d l (res l).words) g

/-- The events of the lanes of a mask. -/
def lanesEv (act : Word) (res : Nat → LaneRes) : Ev := (lanesOf act).foldl (fun e l => e ||| (res l).ev) 0

theorem onlyV_writeLanes (d : Nat) (act : Word) (res : Nat → LaneRes) (g : Group) : OnlyV g (g.writeLanes d act res) :=
  OnlyV.foldl (fun h l => onlyV_setWords d l (res l).words h) _ g

/-- A lane instruction with one destination register: results, events, one rotation. -/
theorem Group.laneWrite_one {f : LaneForm} (hw : f.width = 1) (act p : Word) (res : Nat → LaneRes) (g : Group) :
    g.laneWrite f act p res = ((g.writeLanes f.dest act res).raiseEv (lanesEv act res)).rotate f.dest p := by
  unfold Group.laneWrite Group.rotateN
  rw [hw]
  rfl

/-- A lane instruction changes v, q and the events of its group, and nothing else. -/
theorem Group.laneWrite_eq {f : LaneForm} (hw : f.width = 1) (act p : Word) (res : Nat → LaneRes) (g : Group) :
    g.laneWrite f act p res = g.withLanes (g.laneWrite f act p res).v (g.laneWrite f act p res).q (lanesEv act res) := by
  refine withLanes_of (onlyV_writeLanes f.dest act res g) ?_
  rw [Group.laneWrite_one hw]
  exact onlyQ_rotate _ _ _

theorem bare_setWords (d l : Nat) (ws : List Word) (g : Group) : (g.setWords d l ws).bare = g.bare.setWords d l ws :=
  (List.foldl_hom Group.bare (g₂ := fun g i => g.setV (d + i) l (ws.getD i 0)) (fun _ _ => rfl)).symm

theorem bare_writeLanes (d : Nat) (act : Word) (res : Nat → LaneRes) (g : Group) :
    (g.writeLanes d act res).bare = g.bare.writeLanes d act res :=
  (List.foldl_hom Group.bare (g₂ := fun g l => g.setWords d l (res l).words) (fun g l => (bare_setWords d l _ g).symm)).symm

theorem respects_laneWrite {f : LaneForm} (hw : f.width = 1) (act p : Word) (res : Nat → LaneRes) :
    Respects (Group.laneWrite f act p res) := by
  refine Respects.of_comm (fun g => ?_)
  rw [Group.laneWrite_one hw, Group.laneWrite_one hw]
  rw [← bare_writeLanes]
  exact (List.foldl_hom Group.bare (g₂ := fun g l => g.rotateLane f.dest l) (fun _ _ => rfl)).symm

/-- v after a lane instruction (07 R126). -/
theorem Group.vreg_laneWrite {f : LaneForm} (hw : f.width = 1) (act p : Word) {res : Nat → LaneRes} {x : Nat → Word}
    (hx : ∀ l, (res l).words = [x l]) (g : Group) (r l : Nat) (hl : l < 32) :
    (g.laneWrite f act p res).vreg r l = if r = f.dest ∧ inMask act l = true then x l else g.vreg r l := by
  have hv : (g.laneWrite f act p res).vreg r l = (g.writeLanes f.dest act res).vreg r l := by
    rw [Group.laneWrite_one hw]
    unfold Group.vreg
    rw [(onlyQ_rotate f.dest p _).v]
    rfl
  rw [hv]
  unfold Group.writeLanes
  simp only [hx]
  rw [Group.vreg_foldl_setWords f.dest x (lanesOf act) g r l (fun _ h => (mem_lanesOf.mp h).1) hl]
  simp only [mem_lanesOf, hl, true_and]

/-- q after a lane instruction: one rotation in every lane of the lane set (05 R86). -/
theorem Group.qreg_laneWrite {f : LaneForm} (hw : f.width = 1) (act p : Word) (res : Nat → LaneRes) (g : Group) (k l : Nat) (hl : l < 32) :
    (g.laneWrite f act p res).qreg k l = if inMask p l = true ∧ k < 4 then
      (if k = 0 then (g.laneWrite f act p res).vreg f.dest l else g.qreg (k - 1) l) else g.qreg k l := by
  obtain ⟨v, hv⟩ := onlyV_writeLanes f.dest act res g
  have hq : ∀ j, ((g.writeLanes f.dest act res).raiseEv (lanesEv act res)).qreg j l = g.qreg j l := fun j => by rw [hv]; rfl
  have hvr : (((g.writeLanes f.dest act res).raiseEv (lanesEv act res)).rotate f.dest p).vreg f.dest l =
      ((g.writeLanes f.dest act res).raiseEv (lanesEv act res)).vreg f.dest l := by
    unfold Group.vreg
    rw [(onlyQ_rotate f.dest p _).v]
  rw [Group.laneWrite_one hw, Group.qreg_rotate f.dest p _ k l hl, hq, hq, hvr]

/-! ## A lane instruction with one destination register -/

theorem OnlyGroup.congr {g : SlotRef} {f h : Group → Group} {s t : State} (a : OnlyGroup g f s t)
    (e : (f (s.grp g)).bare = (h (s.grp g)).bare) : OnlyGroup g h s t := { a with here := a.here.trans e }

theorem nfTraps_nil {trapnf : BitVec 4} {act : Word} {res : Nat → LaneRes} {src : Nat → LaneSrc}
    (h : ∀ l, nfClass trapnf (res l).ev = none) : nfTraps trapnf act res src = [] := by
  unfold nfTraps
  simp [h]

theorem nfClass_zero_events (m : BitVec 4) : nfClass m 0 = none := by simp [nfClass]

theorem nfClass_no_class (e : Ev) : nfClass 0 e = none := by simp [nfClass]

/-- A lane instruction whose registers are in range and of which no lane traps (07 R126). -/
theorem laneOp_writes {s : State} {i : Instr} {f : LaneForm} {res : State → Nat → LaneRes} {src : State → Nat → LaneSrc}
    {x : Nat → Word} (hp : s.plain = true) (hw : f.width = 1) (hr : s.vAll f.ranges = true)
    (hx : ∀ l, (res s l).words = [x l]) (hnf : ∀ l, nfClass s.me.trapnf (res s l).ev = none)
    (he : exec i s = .next (laneOp f res src s)) :
    WritesV f.cost f.size i f.dest x (lanesEv s.active (res s)) s := by
  have hrun := runs_charged f.cost f.size (respects_laneWrite hw s.active s.laneSet (res s)) (fun g => by
    rw [Group.laneWrite_eq hw]; rfl) hp
  have hop : laneOp f res src s = ((s.charge f.cost).modMe (Group.laneWrite f s.active s.laneSet (res s))).advance f.size := by
    unfold laneOp
    rw [guarded_passes _ _ _ _ (by rw [hr]; rfl), guarded_nil, nfTraps_nil hnf]
    rfl
  rw [hop] at he
  generalize hT : ((s.charge f.cost).modMe (Group.laneWrite f s.active s.laneSet (res s))).advance f.size = t at he hrun
  obtain ⟨honly, hpaid, hruns⟩ := hrun
  have hv : (t.grp s.cur.g).v = (s.me.laneWrite f s.active s.laneSet (res s)).v := (congrArg Group.v honly.here :)
  have hq : (t.grp s.cur.g).q = (s.me.laneWrite f s.active s.laneSet (res s)).q := (congrArg Group.q honly.here :)
  have hvr : ∀ r l, (t.grp s.cur.g).vreg r l = (s.me.laneWrite f s.active s.laneSet (res s)).vreg r l := fun r l => by
    unfold Group.vreg; rw [hv]
  have hqr : ∀ r l, (t.grp s.cur.g).qreg r l = (s.me.laneWrite f s.active s.laneSet (res s)).qreg r l := fun r l => by
    unfold Group.qreg; rw [hq]
  refine ⟨t, he, hpaid, hruns, honly.congr ?_, fun r l hl => ?_, fun l hl hin => ?_, fun k l hl hk => ?_⟩
  · show (Group.goOn s.cur.i f.size (s.me.laneWrite f s.active s.laneSet (res s))).bare =
      (Group.goOn s.cur.i f.size (s.me.withLanes (t.grp s.cur.g).v (t.grp s.cur.g).q (lanesEv s.active (res s)))).bare
    rw [hv, hq, ← Group.laneWrite_eq hw]
  · rw [hvr, Group.vreg_laneWrite hw _ _ hx _ _ _ hl]
  · simp only [hqr, hvr, Group.qreg_laneWrite hw _ _ _ _ _ _ hl, hin]
    simp
  · rw [hqr, Group.qreg_laneWrite hw _ _ _ _ _ _ hl, if_neg]
    rcases hk with h | h
    · omega
    · simp [h]

end Sys2Proof.Machine


namespace Sys2Proof.Machine

/-! ## The sixteen 16-bit forms (02 R32, 07 R143) -/

/-- An instruction that answers ILLEGAL with a subcode traps so (02 R42). -/
theorem traps_illegal {i : Instr} {s : State} {n k : Nat} (he : exec i s = .next (s.illegal n k)) :
    Traps i causeIllegal (BitVec.ofNat 64 k) 0 n s := he

theorem State.vOk_one {s : State} {r : Nat} (h : r < s.me.regalloc) (h256 : r < 256) : s.vOk r 1 1 = true := by
  simp [State.vOk, Nat.mod_one]
  omega

theorem State.vOk_one_false {s : State} {r : Nat} (h : s.me.regalloc ≤ r) : s.vOk r 1 1 = false := by
  have h1 : ¬r + 1 ≤ s.me.regalloc := by omega
  simp [State.vOk, h1]

/-- A range that is not at hand traps ILLEGAL 3 before anything else of the instruction (02 R40). -/
theorem laneOp_illegal {s : State} {f : LaneForm} (res : State → Nat → LaneRes) (src : State → Nat → LaneSrc)
    (h : s.vAll f.ranges = false) : laneOp f res src s = s.illegal f.size 3 :=
  guarded_fails _ _ _ _ (by rw [h]; rfl)

theorem lanesEv_const_zero {act : Word} {res : Nat → LaneRes} (h : ∀ l, (res l).ev = 0) : lanesEv act res = 0 := by
  unfold lanesEv
  simp only [h]
  generalize lanesOf act = ls
  induction ls with
  | nil => rfl
  | cons _ _ ih => exact ih

section
variable {s : State} {d : Nat} {b : Ob} {i : Instr} {op : Nat} (hp : s.plain = true)
include hp

/-- A form of 16 bits that raises no event. -/
theorem short_writesV {res : State → Nat → LaneRes} {src : State → Nat → LaneSrc} {x : Nat → Word}
    (hd : d < s.me.regalloc) (h256 : d < 256) (hx : ∀ l, res s l = word1 (x l))
    (he : exec i s = .next (laneOp (hForm op d) res src s)) : WritesV 1 2 i d x 0 s := by
  have h := laneOp_writes (f := hForm op d) hp rfl (by simp [State.vAll, hForm, State.vOk_one hd h256])
    (fun l => by rw [hx]; rfl) (fun l => by rw [hx]; exact nfClass_zero_events _) he
  rw [lanesEv_const_zero (fun l => by rw [hx]; rfl)] at h
  exact h

/-- A form of 16 bits with a floating result, where no class traps (04 R71). -/
theorem short_writesF {res : State → Nat → LaneRes} {src : State → Nat → LaneSrc} {x : Nat → FRes}
    (hd : d < s.me.regalloc) (h256 : d < 256) (hnf : s.me.trapnf = 0) (hx : ∀ l, res s l = fres (x l))
    (he : exec i s = .next (laneOp (hForm op d) res src s)) : WritesF 1 2 i d x s := by
  have h := laneOp_writes (f := hForm op d) hp rfl (by simp [State.vAll, hForm, State.vOk_one hd h256])
    (fun l => by rw [hx]; rfl) (fun l => by rw [hnf]; exact nfClass_no_class _) he
  unfold lanesEv at h
  simp only [hx] at h
  exact h

/-- An integer form: it writes f of vd and ob, and traps where vd is not allocated. -/
theorem short_int {F f : Word → Word → Word} (hf : ∀ x y, F x y = f x y)
    (he : exec i s = .next (hArith op .int (int2 F) d b s)) :
    (d < s.me.regalloc → d < 256 → WritesV 1 2 i d (fun l => f (s.v d l) (s.ob .int b l)) 0 s) ∧
      (s.me.regalloc ≤ d → Traps i causeIllegal 3 0 2 s) := by
  refine ⟨fun hd h256 => short_writesV hp hd h256 (fun l => congrArg word1 (hf _ _)) he, fun hd => traps_illegal (k := 3) ?_⟩
  rw [he, hArith, laneOp_illegal _ _ (by simp [State.vAll, hForm, State.vOk_one_false hd])]
  rfl

end

theorem shiftCount_eq (y : Word) : y.toNat % 32 = (y.extractLsb' 0 5).toNat := by
  rw [BitVec.extractLsb'_toNat, Nat.shiftRight_zero]

theorem pick_slt (x y : Word) : pick (decide (x.toInt < y.toInt)) x y = if x.slt y then x else y := by
  unfold pick BitVec.slt
  rfl

/-! ### The arms of the dispatch for the instructions whose registers are refused -/

theorem exec_vadd (d a : Nat) (b : Ob) (s : State) : exec (.vadd d a b) s = execVadd d a b s := rfl
theorem exec_fadd (d a : Nat) (b : Ob) (s : State) : exec (.fadd d a b) s = execFadd d a b s := rfl
theorem exec_fsqrt (d a : Nat) (s : State) : exec (.fsqrt d a) s = execFsqrt d a s := rfl
theorem exec_vshfl (d a : Nat) (b : Ob) (s : State) : exec (.vshfl d a b) s = execVshfl d a b s := rfl
theorem exec_vmov (d a : Nat) (s : State) : exec (.vmov d a) s = execVmov d a s := rfl
theorem exec_vmovo (d a : Nat) (s : State) : exec (.vmovo d a) s = execVmovo d a s := rfl
theorem exec_vlid (d : Nat) (s : State) : exec (.vlid d) s = execVlid d s := rfl
theorem exec_fadd16 (d : Nat) (b : Ob) (s : State) : exec (.fadd16 d b) s = execFadd16 d b s := rfl
theorem exec_vceq (d : Nat) (m : CMode) (a : Nat) (b : Ob) (s : State) : exec (.vceq d m a b) s = execVceq d m a b s := rfl

/-- A lane instruction that names a v register which is not allocated traps ILLEGAL 3 (02 R40). -/
theorem lane_illegal {s : State} {i : Instr} {f : LaneForm} {res : State → Nat → LaneRes} {src : State → Nat → LaneSrc} {a n : Nat}
    (ha : s.me.regalloc ≤ a) (he : exec i s = .next (laneOp f res src s)) (hm : (⟨a, 1, 1⟩ : VRange) ∈ f.ranges) (hn : f.size = n) :
    Traps i causeIllegal 3 0 n s := by
  subst hn
  refine traps_illegal (k := 3) ?_
  rw [he, laneOp_illegal]
  exact List.all_eq_false.mpr ⟨_, hm, by simp [State.vOk_one_false ha]⟩

/-- Settles O22: a 16-bit form is `laneOp` of `hForm`, which `laneOp_writes` describes, and every form refuses a register that
is not allocated before it does anything else. -/
theorem shortForms : Obligations.ShortForms := by
  unfold Obligations.ShortForms
  refine ⟨fun s d b hp => ?_, fun s d a m b ha => ?_⟩
  · intro int flt
    refine ⟨short_int hp (fun _ _ => rfl) rfl, short_int hp (fun _ _ => rfl) rfl, short_int hp (fun _ _ => rfl) rfl,
      short_int hp (fun _ _ => rfl) rfl, short_int hp (fun _ _ => rfl) rfl,
      short_int hp (fun x y => congrArg (x <<< ·) (shiftCount_eq y)) rfl,
      short_int hp (fun x y => congrArg (x >>> ·) (shiftCount_eq y)) rfl, short_int hp pick_slt rfl,
      short_int (F := fun _ y => y) hp (fun _ _ => rfl) rfl, fun hd h h0 => short_writesF hp hd h h0 (fun _ => rfl) rfl,
      fun hd h h0 => short_writesF hp hd h h0 (fun _ => rfl) rfl, fun hd h h0 => short_writesF hp hd h h0 (fun _ => rfl) rfl,
      fun hd h => short_writesV hp hd h (fun _ => rfl) rfl, fun hd h h0 =>
        ⟨short_writesF hp hd h h0 (fun _ => rfl) rfl, short_writesF hp hd h h0 (fun _ => rfl) rfl,
          short_writesF hp hd h h0 (fun _ => rfl) rfl⟩⟩
  · have hno : s.vOk a 1 1 = false := State.vOk_one_false ha
    refine ⟨lane_illegal ha (exec_vadd d a b s) (by simp [vForm]) rfl, lane_illegal ha (exec_vadd a d b s) (by simp [vForm]) rfl,
      lane_illegal ha (exec_fadd d a b s) (by simp [vForm]) rfl, lane_illegal ha (exec_fsqrt d a s) (by simp [vForm]) rfl,
      lane_illegal ha (exec_vshfl d a b s) (by simp [vForm]) rfl, lane_illegal ha (exec_vmov d a s) (by simp [vForm]) rfl, ?_,
      lane_illegal ha (exec_vlid a s) (by simp [vForm]) rfl, lane_illegal ha (exec_fadd16 a b s) (by simp [hForm]) rfl,
      fun hd => ?_, ?_⟩
    · rw [Traps, exec_vmovo]
      exact congrArg Host.Outcome.next (guarded_fails _ _ _ _ (by rw [hno]; rfl))
    · rw [Traps, exec_vceq]
      refine congrArg Host.Outcome.next ?_
      exact (guarded_passes _ _ _ _ (decide_eq_false hd)).trans (guarded_fails _ _ _ _ (by rw [hno]; rfl))
    · rw [Traps, exec_vceq]
      rfl

end Sys2Proof.Machine


/-! # Words and their decoding (obligation O2) -/

namespace Sys2Proof.Machine

/-! ## The unassigned ops of each class (02 R41) -/

theorem decodeS_unassigned {w : Nat} (h : 37 ≤ w / 16 % 64) : decodeS w = .illegal 1 := by
  unfold decodeS
  obtain ⟨n, hn⟩ := Nat.exists_eq_add_of_le' h
  rw [hn]
  rfl

theorem decodeB_unassigned {w : Nat} (h : 21 ≤ w / 16 % 64) : decodeB w = .illegal 1 := by
  unfold decodeB
  obtain ⟨n, hn⟩ := Nat.exists_eq_add_of_le' h
  rw [hn]
  rfl

theorem decodeX_unassigned {w : Nat} (h : 17 ≤ w / 16 % 64) : decodeX w = .illegal 1 := by
  unfold decodeX
  obtain ⟨n, hn⟩ := Nat.exists_eq_add_of_le' h
  rw [hn]
  rfl

theorem decodeA_unassigned {w : Nat} (h : 19 ≤ w / 16 % 64) : decodeA w = .illegal 1 := by
  unfold decodeA
  obtain ⟨n, hn⟩ := Nat.exists_eq_add_of_le' h
  rw [hn]
  rfl

theorem decodeZ_unassigned {w : Nat} (h : 13 ≤ w / 16 % 64) : decodeZ w = .illegal 1 := by
  unfold decodeZ
  obtain ⟨n, hn⟩ := Nat.exists_eq_add_of_le' h
  rw [hn]
  rfl

theorem decodeM_unassigned {w : Nat}
    (h : w / 16 % 64 = 21 ∨ (27 ≤ w / 16 % 64 ∧ w / 16 % 64 < 32) ∨ w / 16 % 64 = 47 ∨ 52 ≤ w / 16 % 64) :
    decodeM w = .illegal 1 := by
  unfold decodeM
  rcases h with h | ⟨lo, hi⟩ | h | h
  · rw [h]
    rfl
  · generalize w / 16 % 64 = op at *
    interval_cases op <;> rfl
  · rw [h]
    rfl
  · obtain ⟨n, hn⟩ := Nat.exists_eq_add_of_le' h
    rw [hn]
    rfl

theorem decodeV_unassigned {w : Nat}
    (h : w / 16 % 128 ∈ [25, 26, 27, 28, 29, 30, 31, 43, 44, 45, 46, 47, 65, 66, 67, 68, 69, 70, 71, 78, 79] ∨
      (83 ≤ w / 16 % 128 ∧ w / 16 % 128 < 96) ∨ (113 ≤ w / 16 % 128 ∧ w / 16 % 128 < 120)) :
    decodeV w = .illegal 1 := by
  unfold decodeV
  generalize w / 16 % 128 = op at *
  rcases h with h | ⟨lo, hi⟩ | ⟨lo, hi⟩
  · fin_cases h <;> rfl
  · interval_cases op <;> rfl
  · interval_cases op <;> rfl

/-- A 32-bit word decodes by its class. -/
theorem decodeWords_long {w : Nat} (h : w % 2 = 1) : decodeWords (w % 65536) (w / 65536) = decode32 w := by
  have hl : isLong (w % 65536) = true := decide_eq_true (by omega)
  rw [decodeWords, hl, if_pos rfl, Nat.mod_add_div]

theorem zeros_false (i : Instr) : zeros false i = .illegal 2 := rfl

/-! ## The words of four encodings whose required-zero fields are not 0 (02 R41) -/

theorem decodeS_sclz_zeros {w : Nat} (hop : w / 16 % 64 = 26) (h : w / 4194304 % 1024 ≠ 0) : decodeS w = .illegal 2 := by
  unfold decodeS
  rw [hop]
  simp only [h, decide_false, zeros_false]

theorem decodeB_ret_zeros {w : Nat} (hop : w / 16 % 64 = 12) (h : w / 1024 % 4194304 ≠ 0) : decodeB w = .illegal 2 := by
  unfold decodeB
  rw [hop]
  simp only [h, decide_false, zeros_false]

theorem decodeV_vabs_zeros {w : Nat} (hop : w / 16 % 128 = 17) (h : w / 134217728 % 32 ≠ 0) : decodeV w = .illegal 2 := by
  unfold decodeV
  rw [hop]
  simp only [h, decide_false, zeros_false]

theorem decodeZ_hend_zeros {w : Nat} (hop : w / 16 % 64 = 6) (h : w / 1024 % 4194304 ≠ 0) : decodeZ w = .illegal 2 := by
  unfold decodeZ
  rw [hop]
  simp only [h, decide_false, zeros_false]

/-- Settles O2: the twelve words by evaluation, the refusals class by class. -/
theorem wordsDecode : Obligations.WordsDecode := by
  unfold Obligations.WordsDecode
  refine ⟨by decide, fun w hw hodd => ?_⟩
  simp only [decodeWords_long hodd]
  refine ⟨fun hc h => ?_, fun hc h => ?_, fun hc h => ?_, fun hc h => ?_, fun hc h => ?_, fun hc h => ?_, fun hc h => ?_,
    fun he h => ?_, fun he h => ?_, fun he h => ?_, fun he h => ?_⟩
  · rw [decode32_S w hc, decodeS_unassigned h]
  · rw [decode32_B w hc, decodeB_unassigned h]
  · rw [decode32_V w hc, decodeV_unassigned h]
  · rw [decode32_M w hc, decodeM_unassigned h]
  · rw [decode32_X w hc, decodeX_unassigned h]
  · rw [decode32_A w hc, decodeA_unassigned h]
  · rw [decode32_Z w hc, decodeZ_unassigned h]
  · rw [decode32_S w (by omega), decodeS_sclz_zeros (by omega) (by omega)]
  · rw [decode32_B w (by omega), decodeB_ret_zeros (by omega) (by omega)]
  · rw [decode32_V w (by omega), decodeV_vabs_zeros (by omega) (by omega)]
  · rw [decode32_Z w (by omega), decodeZ_hend_zeros (by omega) (by omega)]

end Sys2Proof.Machine


/-! # An instruction that issues one operation (02 R24) -/

namespace Sys2Proof.Machine

theorem quiet_fresh (s : State) : Quiet s s.fresh :=
  ⟨rfl, fun _ => rfl, fun _ => rfl, fun _ => rfl, fun _ => rfl, rfl⟩

theorem bare_addOp (o : Op) (g : Group) : (g.addOp o).bare = g.bare.addOp o := by
  unfold Group.addOp Group.raiseFlag
  cases o.flag <;> rfl

theorem respects_addOp (o : Op) : Respects (Group.addOp o) := Respects.of_comm (bare_addOp o)

theorem ctxs_addOp (o : Op) (g : Group) : (g.addOp o).ctxs = g.ctxs := by
  unfold Group.addOp Group.raiseFlag
  cases o.flag <;> rfl

theorem ctx_addOp (o : Op) (g : Group) (i : Nat) : (g.addOp o).ctx i = g.ctx i := by
  unfold Group.ctx
  rw [ctxs_addOp]

/-- An operation with something to do is outstanding from its issue on. -/
theorem startOp_raiseFlag {o : Op} (h : o.kind.pendingLanes ≠ 0) (g : Group) : (g.raiseFlag o.flag).startOp o = g.addOp o := by
  unfold Group.startOp Group.addOp Group.raiseFlag
  rw [if_neg h]
  cases o.flag <;> rfl

theorem State.issueOp_adds {o : Op} (h : o.kind.pendingLanes ≠ 0) (s : State) : s.issueOp o = (s.modMe (Group.addOp o)).fresh := by
  unfold State.issueOp
  rw [show (fun g => (g.raiseFlag o.flag).startOp o) = Group.addOp o from funext (startOp_raiseFlag h)]

theorem State.advance_fresh (s : State) (n : Nat) : s.fresh.advance n = (s.advance n).fresh := rfl

/-- An operation is issued in s1, which is s but for the cores' counts. -/
theorem issueOp_after {s s1 : State} {n : Nat} {o : Op} (hp : s.plain = true) (hq : Quiet s s1)
    (hg : s1.groups = s.groups) (ht : s1.teams = s.teams) (hk : s1.tasks = s.tasks) (ho : o.kind.pendingLanes ≠ 0) :
    OnlyGroup s.cur.g (fun g => (g.addOp o).goOn s.cur.i 4) s (((s1.charge n).issueOp o).advance 4) ∧
      Paid n 0 s (((s1.charge n).issueOp o).advance 4) ∧ RunsOn s (((s1.charge n).issueOp o).advance 4) := by
  rw [State.issueOp_adds ho, State.advance_fresh]
  obtain ⟨honly, hpaid, hruns⟩ := runs_after n 4 (respects_addOp o) (fun g => by rw [ctx_addOp]) hp hq hg ht hk
  exact ⟨only_quiet honly (quiet_fresh _), hpaid, hruns⟩

/-- The same, straight from s. -/
theorem issueOp_charged {s : State} (n : Nat) {o : Op} (hp : s.plain = true) (ho : o.kind.pendingLanes ≠ 0) :
    OnlyGroup s.cur.g (fun g => (g.addOp o).goOn s.cur.i 4) s (((s.charge n).issueOp o).advance 4) ∧
      Paid n 0 s (((s.charge n).issueOp o).advance 4) ∧ RunsOn s (((s.charge n).issueOp o).advance 4) :=
  issueOp_after hp (Quiet.refl s) rfl rfl rfl ho

/-- Groups of one view have the same contexts. -/
theorem look_ctx_of_bare {x y : Group} (e : x.bare = y.bare) (i : Nat) : (x.ctxs.look i).isSome = (y.ctxs.look i).isSome := by
  have view : ∀ g : Group, (g.bare.ctxs.look i).isSome = (g.ctxs.look i).isSome := fun g =>
    (congrArg Option.isSome (SMap.look_mapVals g.ctxs (fun _ c => c.bare) i)).trans (by simp)
  rw [← view x, ← view y, e]

theorem look_ctx_modCtx (g : Group) (i j : Nat) (f : Context → Context) :
    ((g.modCtx i f).ctxs.look j).isSome = (g.ctxs.look j).isSome := by
  unfold Group.modCtx
  rw [SMap.look_upd]
  split <;> simp

/-- An update of contexts shows in the views as one of which every context's view says the same. -/
theorem bare_modCtx_congr {F F' : Context → Context} (e : ∀ c, (F c).bare = (F' c).bare) (g : Group) (i : Nat) :
    (g.modCtx i F).bare = (g.modCtx i F').bare := by
  have key : ∀ m : SMap Context, (m.upd i F).map (fun x => (x.1, x.2.bare)) = (m.upd i F').map (fun x => (x.1, x.2.bare)) := by
    intro m
    induction m with
    | nil => rfl
    | cons x r ih =>
      simp only [SMap.upd]
      split
      · simp [e]
        exact ih
      · simp [ih]
  simp [Group.modCtx, Group.bare, key]

section
variable {s t : State} {f : Group → Group} {F F' : Context → Context} {w : Stop}

/-- Behind an instruction, its context is changed besides, by F, of which the views show what they show of F', and stops for w. -/
theorem OnlyGroup.stops (hp : s.plain = true) (a : OnlyGroup s.cur.g f s t) (hin : ∀ g : Group, ∀ i, ((f g).ctxs.look i).isSome = (g.ctxs.look i).isSome)
    (hF : ∀ c d : Context, c.bare = d.bare → (F' c).bare = (F' d).bare) (e : ∀ c, (F c).bare = (F' c).bare)
    (hw : ∀ c, (F c).stop = w) :
    OnlyGroup s.cur.g (fun g => (f g).modCtx s.cur.i F') s (t.modCtx F) ∧ (((t.modCtx F).grp s.cur.g).ctx s.cur.i).stop = w := by
  have hc : t.cur = s.cur := (congrArg State.cur a.rest :)
  have hg : t.hasGrp s.cur.g = true := by
    have hs := plain_hasGrp hp
    unfold State.hasGrp at hs ⊢
    rw [look_isSome] at hs ⊢
    rw [show t.groups.keys = s.groups.keys from congrArg Prod.fst a.names]
    exact hs
  have hctx : ((t.grp s.cur.g).ctxs.look s.cur.i).isSome = true :=
    (look_ctx_of_bare a.here _).trans ((hin _ _).trans (plain_here hp))
  have hmod : t.modCtx F = t.modGrp s.cur.g (Group.modCtx s.cur.i F) := by
    unfold State.modCtx State.modMe
    rw [hc]
  rw [hmod]
  refine ⟨only_comp a (Respects.modCtx hF) ((only_modGrp t s.cur.g _ hg).congr (bare_modCtx_congr e _ _)), ?_⟩
  rw [State.grp_modGrp t _ _ _ hg, if_pos rfl, Group.ctx_modCtx, if_neg (fun h => by rw [h] at hctx; simp at hctx), hw]

end

end Sys2Proof.Machine

/-! # Barrier instructions (obligation O37) -/

namespace Sys2Proof.Machine

/-- The place of a barrier instruction's operation in its group (10 R193). -/
theorem inSpw_offset {a : DWord} {n : Nat} (ha : a.toNat = 0x007FFFFFFFC00000 + 8 * n) (hn : n < 65536) :
    inSpw a = true ∧ spwOffset a = 8 * n := by
  unfold inSpw spwOffset Config.spwBase Config.spwSize
  rw [ha]
  simp
  omega

theorem barAt_of {m : Team} {a : DWord} {n : Nat} (ha : a.toNat = 0x007FFFFFFFC00000 + 8 * n) (hn : n < 65536) :
    m.barAt a = if n < m.barriers then some n else none := by
  obtain ⟨hin, hoff⟩ := inSpw_offset ha hn
  unfold Team.barAt
  rw [hin, hoff]
  simp

theorem canonical_low {a : DWord} (h : a.toNat < 2 ^ 55) : canonical a = true := by
  unfold canonical
  rw [Nat.div_eq_of_lt h]
  rfl

theorem word_canonical {a : DWord} (h : a.toNat + 7 < 2 ^ 55) :
    (decide (2 ^ 64 ≤ a.toNat + 7) || !canonical a || !canonical (a + 7)) = false := by
  rw [canonical_low (by omega), canonical_low (by bv_omega)]
  simp
  omega

theorem not_canonical {a : DWord} (h : 2 ^ 55 ≤ a.toNat) (h' : a.toNat < 2 ^ 63) : canonical a = false := by
  unfold canonical
  simp
  omega

/-- The flag that a clause names counts less than 63 (02 R25). -/
theorem not_full {s : State} {f : Option Nat} (h : ∀ k, f = some k → (s.me.flag k).count < 63) : s.full f = false := by
  unfold State.full Group.flagFull
  cases f with
  | none => rfl
  | some k => exact decide_eq_false (by have := h k rfl; omega)

/-- A barrier instruction that passes its checks (10 R193). -/
theorem barOp_passes {s : State} {k : BarKind} {st imm b obs n : Nat} (hf : s.full s.flagA = false)
    (ha : (s.saddr b imm 8).toNat = 0x007FFFFFFFC00000 + 8 * n) (hn : n < 65536) (hb : n < s.myTeam.barriers) (hk : s.me.kind = .group) :
    barOp k st imm b obs s =
      let o := s.newOp s.flagA (s.obsSet obs) (.barrier k n s.active st (s.sreg st))
      let s1 := ((s.charge 1).issueOp o).advance 4
      if k = .wait ∨ k = .sync then s1.modCtx (fun c => { c with stop := .barrier o.id n none, stall := s.obsSet obs }) else s1 := by
  have hat : s.myTeam.barAt (s.saddr b imm 8) = some n := by rw [barAt_of ha hn, if_pos hb]
  unfold barOp
  rw [guarded_passes _ _ _ _ hf, guarded_passes _ _ _ _ (word_canonical (by omega)), guarded_passes _ _ _ _ (decide_eq_false (by omega)),
    guarded_passes _ _ _ _ (by rw [hat, hk]; rfl), guarded_nil, hat]
  cases k <;> rfl

/-- Past its checks a barrier instruction issues its operation; BARWAIT and BARSYNC stop. -/
theorem barOp_runs {s : State} {i : Instr} {k : BarKind} {st imm b obs n : Nat} (hp : s.plain = true) (hf : s.full s.flagA = false)
    (ha : (s.saddr b imm 8).toNat = 0x007FFFFFFFC00000 + 8 * n) (hn : n < 65536) (hb : n < s.myTeam.barriers) (hk : s.me.kind = .group)
    (he : exec i s = .next (barOp k st imm b obs s)) :
    let issued (g : Group) : Group :=
      (g.addOp (s.newOp s.flagA (s.obsSet obs) (.barrier k n s.active st (s.sreg st)))).goOn s.cur.i 4
    (¬(k = .wait ∨ k = .sync) → Runs i 1 0 issued s) ∧
      ((k = .wait ∨ k = .sync) → RunsInto (.barrier s.serial n none) i 1 0
        (fun g => (issued g).modCtx s.cur.i (fun c => { c with stall := s.obsSet obs })) s) := by
  intro issued
  rw [barOp_passes hf ha hn hb hk] at he
  obtain ⟨honly, hpaid, hruns⟩ :=
    issueOp_charged 1 (o := s.newOp s.flagA (s.obsSet obs) (.barrier k n s.active st (s.sreg st))) hp Nat.one_ne_zero
  refine ⟨fun h => ?_, fun h => ?_⟩
  · rw [if_neg h] at he
    exact ⟨_, he, honly, hpaid, hruns⟩
  · rw [if_pos h] at he
    obtain ⟨honly', hstop⟩ := honly.stops (F := fun c => { c with stop := .barrier s.serial n none, stall := s.obsSet obs })
      (F' := fun c => { c with stall := s.obsSet obs }) hp (fun g j => by rw [Group.goOn, look_ctx_modCtx, ctxs_addOp])
      (fun c d h => congrArg (fun c : Context => { c with stall := s.obsSet obs }) h) (fun _ => rfl) (fun _ => rfl)
    exact ⟨_, he, honly', hpaid, hstop⟩

/-- What stands between a barrier instruction and its barrier (10 R190). -/
theorem barOp_traps {s : State} {i : Instr} {k : BarKind} {st imm b obs n : Nat} (hf : s.full s.flagA = false)
    (he : exec i s = .next (barOp k st imm b obs s)) :
    let a := s.saddr b imm 8
    (a.toNat = 0x007FFFFFFFC00000 + 8 * n → s.myTeam.barriers ≤ n → n < 65536 → Traps i causeAddr 2 a 4 s) ∧
      (a.toNat < 2 ^ 55 - 8 → a.toNat % 8 ≠ 0 → Traps i causeMisalign 1 a 4 s) ∧
      (2 ^ 55 ≤ a.toNat → a.toNat < 2 ^ 63 → Traps i causeAddr 1 a 4 s) := by
  have traps : ∀ {cause : Nat} {info addr : DWord}, barOp k st imm b obs s = s.raise 4 cause info addr → Traps i cause info addr 4 s :=
    fun h => he.trans (congrArg Host.Outcome.next h)
  dsimp only
  unfold barOp at traps
  refine ⟨fun ha hb hn => traps ?_, fun ha hal => traps ?_, fun ha ha' => traps ?_⟩
  · have hat : s.myTeam.barAt (s.saddr b imm 8) = none := by rw [barAt_of ha hn, if_neg (by omega)]
    rw [guarded_passes _ _ _ _ hf, guarded_passes _ _ _ _ (word_canonical (by omega)), guarded_passes _ _ _ _ (decide_eq_false (by omega)),
      guarded_fails _ _ _ _ (by rw [hat]; rfl)]
    rfl
  · rw [guarded_passes _ _ _ _ hf, guarded_passes _ _ _ _ (word_canonical (by omega)), guarded_fails _ _ _ _ (decide_eq_true hal)]
    rfl
  · rw [guarded_passes _ _ _ _ hf, guarded_fails _ _ _ _ (by rw [not_canonical ha ha']; simp)]
    rfl

/-- Settles O37: the five instructions are `barOp` of their kind, whose outcomes `barOp_runs` and `barOp_traps` tell. -/
theorem barriersIssue : Obligations.BarriersIssue := by
  unfold Obligations.BarriersIssue
  intro s r imm k obs n hp hk set a open_ bar
  have key : ∀ (i : Instr) (kind : BarKind) (stops : Bool), exec i s = .next (barOp kind r imm k obs s) →
      (stops = true ↔ kind = .wait ∨ kind = .sync) → bar i kind stops := by
    intro i kind stops he hst
    refine ⟨fun hf ha hb hn => ?_, fun hf => (barOp_traps (not_full hf) he).1, fun hf => (barOp_traps (n := n) (not_full hf) he).2.1,
      fun hf => (barOp_traps (n := n) (not_full hf) he).2.2⟩
    obtain ⟨hgo, hstop⟩ := barOp_runs hp (not_full hf) ha hn hb hk he
    exact ⟨fun h => hgo (by rw [← hst, h]; simp), fun h => hstop (hst.mp h)⟩
  exact ⟨key _ _ _ rfl (by decide), key _ _ _ rfl (by decide), key _ _ _ rfl (by decide), key _ _ _ rfl (by decide),
    key _ _ _ rfl (by decide)⟩

end Sys2Proof.Machine


/-! # Core registers, event counters, and the choice of what issues (obligation O39) -/

namespace Sys2Proof.Machine

/-! ## Updates that follow one another -/

theorem SMap.upd_upd {α : Type} (m : SMap α) (i : Nat) (f h : α → α) : (m.upd i f).upd i h = m.upd i (fun x => h (f x)) := by
  induction m with
  | nil => rfl
  | cons e r ih =>
    by_cases hk : e.1 = i <;> simp [SMap.upd, hk, ih]

theorem SMap.upd_self {α : Type} (m : SMap α) (i : Nat) : m.upd i (fun x => x) = m := by
  induction m with
  | nil => rfl
  | cons e r ih =>
    simp only [SMap.upd, ih]
    split <;> rfl

theorem State.modMe_self (s : State) : s.modMe (fun g => g) = s := by
  unfold State.modMe State.modGrp
  rw [SMap.upd_self]

theorem State.modMe_modMe (s : State) (f h : Group → Group) : (s.modMe f).modMe h = s.modMe (fun g => h (f g)) := by
  show ({ s with groups := (s.groups.upd s.cur.g.key f).upd s.cur.g.key h } : State) = _
  rw [SMap.upd_upd]
  rfl

theorem Group.modCtx_modCtx (g : Group) (i : Nat) (f h : Context → Context) :
    (g.modCtx i f).modCtx i h = g.modCtx i (fun c => h (f c)) := by
  unfold Group.modCtx
  simp only [SMap.upd_upd]

theorem State.modCtx_modCtx (s : State) (f h : Context → Context) : (s.modCtx f).modCtx h = s.modCtx (fun c => h (f c)) := by
  unfold State.modCtx
  rw [State.modMe_modMe, State.modMe_cur]
  simp only [Group.modCtx_modCtx]

theorem stop_setS (d : Nat) (v : DWord) (c : Context) : (c.setS d v).stop = c.stop := by
  unfold Context.setS
  split <;> rfl

theorem bare_setS (d : Nat) (v : DWord) (c : Context) : (c.setS d v).bare = c.bare.setS d v := by
  unfold Context.setS
  split <;> rfl

/-- What follows an instruction that is charged and goes on, if its group does not become anything else. -/
theorem runs_on {s : State} {i : Instr} (n k : Nat) (hp : s.plain = true) (he : exec i s = .next ((s.charge n).advance k)) :
    Runs i n 0 (fun g => g.goOn s.cur.i k) s := by
  obtain ⟨honly, hpaid, hruns⟩ := runs_charged n k (f := fun g => g) (fun _ _ e => e) (fun _ => rfl) hp
  rw [State.modMe_self] at honly hpaid hruns
  exact ⟨_, he, honly, hpaid, hruns⟩

/-! ## Tensor descriptors (11 R205) -/

theorem bitsAt_eq {w : Nat} (x : BitVec w) (lo n : Nat) : bitsAt x.toNat lo n = (x.extractLsb' lo n).toNat := by
  rw [bitsAt, BitVec.extractLsb'_toNat, Nat.shiftRight_eq_div_pow]

/-- The reserved fields of a descriptor, and the offset of one in accumulators. -/
theorem Td.reserved_or_iff (x : Td) : (x.reserved || (decide (x.loc = 2) && decide (x.base / 32 ≠ 0))) = true ↔
    x.extractLsb' 132 6 ≠ 0 ∨ x.extractLsb' 142 30 ≠ 0 ∨ x.extractLsb' 224 32 ≠ 0 ∨
      (x.extractLsb' 138 2 = 2 ∧ x.extractLsb' 5 59 ≠ 0) := by
  have hbase : x.base / 32 = (x.extractLsb' 5 59).toNat := by
    rw [Td.base, bitsAt, BitVec.extractLsb'_toNat, Nat.shiftRight_eq_div_pow]
    omega
  unfold Td.reserved Td.loc
  rw [hbase]
  simp only [bitsAt_eq, ← BitVec.toNat_inj (y := 0), ← BitVec.toNat_inj (y := 2), ne_eq, Bool.or_eq_true, Bool.and_eq_true,
    decide_eq_true_eq, or_assoc]
  rfl

theorem Td.bad_iff (x : Td) : (10 ≤ x.fmt ∨ x.loc = 3 ∨ 2 ≤ x.swz) ↔
    (10 ≤ (x.extractLsb' 128 4).toNat ∨ x.extractLsb' 138 2 = 3 ∨ 2 ≤ (x.extractLsb' 140 2).toNat) := by
  unfold Td.fmt Td.loc Td.swz
  simp only [bitsAt_eq, ← BitVec.toNat_inj (y := 3)]
  rfl

/-! ### Teams beside what an instruction changes -/

/-- A change of one team that shows through the views in the same way. -/
theorem OnlyGroup.modTeam {g : SlotRef} {f : Group → Group} {s t : State} (a : OnlyGroup g f s t) (k : Nat) {F : Team → Team}
    (hF : ∀ m n : Team, m.bare = n.bare → (F m).bare = (F n).bare) : OnlyGroup g f (s.modTeam k F) (t.modTeam k F) := by
  have hkeys : t.teams.keys = s.teams.keys := congrArg (·.2.1) a.names
  refine { a with names := ?_, teams := fun j => ?_, here := a.here, others := a.others, tasks := a.tasks, cores := a.cores, rest := a.rest }
  · have h1 : t.groups.keys = s.groups.keys := congrArg (·.1) a.names
    have h3 : t.tasks.keys = s.tasks.keys := congrArg (·.2.2) a.names
    simp [State.names, State.modTeam, keys_upd, hkeys, h1, h3]
  · have hteam := a.teams j
    have hsome : (t.teams.look j).isSome = (s.teams.look j).isSome := by rw [look_isSome, look_isSome, hkeys]
    unfold State.team SMap.get State.modTeam at *
    simp only [SMap.look_upd]
    split
    · cases hs : s.teams.look j <;> cases ht : t.teams.look j
      · rfl
      · simp [hs, ht] at hsome
      · simp [hs, ht] at hsome
      · rw [hs, ht] at hteam
        exact hF _ _ hteam
    · exact hteam

theorem plain_team {s : State} (h : s.plain = true) : (s.teams.look s.me.team).isSome = true := by
  simp only [State.plain, State.placed, Bool.and_eq_true] at h
  exact h.1.1.2

theorem plain_isPlain {s : State} (h : s.plain = true) : s.me.isPlain = true := by
  simp only [State.plain, Bool.and_eq_true] at h
  exact h.2

/-- The group that issues, after a charge, by any view that its counts of instructions do not show in. -/
theorem charge_me_view {β : Type} (v : Group → β) (h : ∀ (g : Group) a b c, v { g with executed := a, graceCount := b, graceDue := c } = v g)
    (s : State) (n : Nat) : v (s.charge n).me = v s.me := by
  unfold State.me
  rw [charge_cur]
  exact charge_grp_view v h s n s.cur.g

theorem setTd_charged {s : State} (hp : s.plain = true) (n c : Nat) (x : Td) :
    (s.charge n).setTd c x = (s.charge n).modTeam s.me.team (fun m => { m with td := m.td.put 0 c x }) := by
  have hk : (s.charge n).me.kind = s.me.kind := charge_me_view Group.kind (fun _ _ _ _ => rfl) s n
  have ht : (s.charge n).me.team = s.me.team := charge_me_view Group.team (fun _ _ _ _ => rfl) s n
  unfold State.setTd
  rw [hk, ht]
  split
  · rename_i hc
    exact absurd hc (Group.isPlain_kind (plain_isPlain hp) _)
  · rfl

theorem td_plain {s : State} (hp : s.plain = true) (c : Nat) : s.td c = s.myTeam.td.get 0 c := by
  unfold State.td
  split
  · rename_i hc
    exact absurd hc (Group.isPlain_kind (plain_isPlain hp) _)
  · rfl

/-- TDSET of a permitted value (11 R205). -/
theorem tdset_writes {s : State} {a c : Nat} (hp : s.plain = true) (ha : a ≤ 28) (hx : (s.tdValue a).refused = none) :
    ∃ t, exec (.tdset a c) s = .next t ∧ Paid 1 0 s t ∧
      OnlyGroup s.cur.g (fun g => g.goOn s.cur.i 4)
        (s.modTeam s.me.team (fun m => { m with td := m.td.put 0 c (s.tdValue a) })) t := by
  have he : exec (.tdset a c) s = .next (((s.charge 1).setTd c (s.tdValue a)).advance 4) := by
    refine congrArg Host.Outcome.next ?_
    rw [guarded_passes _ _ _ _ (decide_eq_false (by omega)), guarded_passes _ _ _ _ (by rw [hx]; rfl)]
    rfl
  rw [setTd_charged hp] at he
  obtain ⟨u, hu, honly, hpaid, -⟩ := runs_on (i := .nop) 1 4 hp rfl
  obtain rfl : (s.charge 1).advance 4 = u := Host.Outcome.next.inj hu
  refine ⟨_, he, ?_, honly.modTeam s.me.team (fun m n h => congrArg (fun m : Team => { m with td := m.td.put 0 c (s.tdValue a) }) h)⟩
  obtain ⟨hci, hct⟩ := hpaid
  obtain ⟨hci', hct'⟩ := same_modTeam ((s.charge 1).advance 4) s.me.team (fun m => { m with td := m.td.put 0 c (s.tdValue a) })
    (fun _ => rfl) (fun _ => rfl) s.me.team
  exact ⟨hci'.trans hci, hct'.trans hct⟩

/-- TDGET (11 R205). -/
theorem tdget_runs {s : State} {a c : Nat} (hp : s.plain = true) (ha : a ≤ 28) :
    Runs (.tdget a c) 1 0 (fun g => (g.modCtx s.cur.i (fun y =>
      ((((y.setS a ((s.myTeam.td.get 0 c).extractLsb' 0 64)).setS (a + 1) ((s.myTeam.td.get 0 c).extractLsb' 64 64)).setS
        (a + 2) ((s.myTeam.td.get 0 c).extractLsb' 128 64)).setS (a + 3) ((s.myTeam.td.get 0 c).extractLsb' 192 64)))).goOn
        s.cur.i 4) s := by
  rw [← td_plain hp c]
  generalize hF : (fun y : Context => (((y.setS a ((s.td c).extractLsb' 0 64)).setS (a + 1) ((s.td c).extractLsb' 64 64)).setS
        (a + 2) ((s.td c).extractLsb' 128 64)).setS (a + 3) ((s.td c).extractLsb' 192 64)) = F
  have he : exec (.tdget a c) s = .next (((s.charge 1).modMe (Group.modCtx s.cur.i F)).advance 4) := by
    refine congrArg Host.Outcome.next ?_
    rw [guarded_passes _ _ _ _ (decide_eq_false (by omega)), guarded_nil]
    show ((((((s.charge 1).modCtx _).modCtx _).modCtx _).modCtx _)).advance 4 = _
    simp only [State.modCtx_modCtx]
    rw [← hF, State.modCtx, charge_cur]
    rfl
  have hresp : Respects (Group.modCtx s.cur.i F) := by
    refine Respects.modCtx (fun y z h => ?_)
    have hbare : ∀ y, (F y).bare = F y.bare := fun y => by rw [← hF]; simp only [bare_setS]
    rw [hbare, hbare, h]
  obtain ⟨honly, hpaid, hruns⟩ := runs_charged 1 4 hresp (fun g => stop_modCtx _ _ _ _ (fun y => by rw [← hF]; simp only [stop_setS])) hp
  exact ⟨_, he, honly, hpaid, hruns⟩

/-! ## Event counters (10 R200) -/

theorem evsel_writes {s : State} {a b : Nat} (hp : s.plain = true) (hb : (s.sreg b).toNat ≤ 23) :
    ∃ t, exec (.evsel a b) s = .next t ∧ Paid 1 0 s t ∧
      (t.core s.cur.g.coreRef).sources.get 0 a = (s.sreg b).toNat ∧ (t.core s.cur.g.coreRef).counters.get 0 a = 0 ∧
      (∀ j, j ≠ a → (t.core s.cur.g.coreRef).sources.get 0 j = (s.core s.cur.g.coreRef).sources.get 0 j) ∧
      (t.grp s.cur.g).bare = (s.me.goOn s.cur.i 4).bare ∧ t.mem = s.mem := by
  obtain ⟨u, hu, honly, hpaid, -⟩ := runs_on (i := .nop) 1 4 hp rfl
  have he : exec (.evsel a b) s = .next (u.modCore s.cur.g.coreRef (Core.selectSource a (s.sreg b).toNat)) := by
    rw [← Host.Outcome.next.inj hu]
    exact congrArg Host.Outcome.next (guarded_passes _ _ _ _ (decide_eq_false (by omega)))
  have hcore : (u.modCore s.cur.g.coreRef (Core.selectSource a (s.sreg b).toNat)).core s.cur.g.coreRef =
      Core.selectSource a (s.sreg b).toNat (u.core s.cur.g.coreRef) := by
    rw [State.core_modCore, if_pos rfl]
  have hsrc : (u.core s.cur.g.coreRef).sources = (s.core s.cur.g.coreRef).sources :=
    (congrArg Core.sources (honly.cores s.cur.g.coreRef) :)
  refine ⟨_, he, hpaid, ?_, ?_, fun j hj => ?_, honly.here, (congrArg State.mem honly.rest :)⟩
  · rw [hcore]
    simp [Core.selectSource]
  · rw [hcore]
    simp [Core.selectSource]
  · rw [hcore, ← hsrc]
    simp [Core.selectSource, hj]

theorem evrd_writes {s : State} {a c : Nat} (hp : s.plain = true) :
    ∃ t v, exec (.evrd a c) s = .next t ∧ Paid 1 0 s t ∧ t.mem = s.mem ∧
      (t.grp s.cur.g).bare = ((s.me.modCtx s.cur.i (Context.setS c v)).goOn s.cur.i 4).bare ∧
      ∃ lag : Nat, lag ≤ (s.core s.cur.g.coreRef).recentOf a s.tick ∧
        v = (s.core s.cur.g.coreRef).counters.get 0 a - BitVec.ofNat 64 lag := by
  obtain ⟨lag, hlag⟩ : ∃ lag, lag = Config.freeNat s.free % ((s.core s.cur.g.coreRef).recentOf a s.tick + 1) := ⟨_, rfl⟩
  obtain ⟨v, hv⟩ : ∃ v, v = (s.core s.cur.g.coreRef).counters.get 0 a - BitVec.ofNat 64 lag := ⟨_, rfl⟩
  have he : exec (.evrd a c) s = .next ((((s.charge 1).modMe (Group.modCtx s.cur.i (Context.setS c v))).advance 4).draw) := by
    rw [← charge_cur s 1, hv, hlag]
    rfl
  obtain ⟨honly, hpaid, -⟩ := runs_charged 1 4 (Respects.setS s.cur.i c v) (fun g => stop_modCtx g _ _ _ (stop_setS c v)) hp
  exact ⟨_, v, he, hpaid, (congrArg State.mem honly.rest :), honly.here, lag, by rw [hlag]; exact Nat.le_of_lt_succ (Nat.mod_lt _ (Nat.succ_pos _)), hv⟩

/-! ## Promotion (10 R188) -/

theorem promote_keeps {s : State} {g : SlotRef} (h : (s.grp g).waited < 1024) : s.promote g = s :=
  if_neg (fun ⟨_, hw, _⟩ => by omega)

theorem Core.countEv_totals (src n tick : Nat) (c : Core) : (Core.countEv src n tick c).totals.get 0 src = c.totals.get 0 src + n := by
  simp [Core.countEv]

theorem promote_marks {s : State} {g : SlotRef} (hg : s.hasGrp g = true) (hw : 1024 ≤ (s.grp g).waited) (hn : (s.grp g).promoted = false) :
    (s.promote g).grp g = { s.grp g with promoted := true } ∧ (∀ h : SlotRef, h.key ≠ g.key → (s.promote g).grp h = s.grp h) ∧
      ((s.promote g).core g.coreRef).totals.get 0 14 = (s.core g.coreRef).totals.get 0 14 + 1 ∧ (s.promote g).mem = s.mem := by
  have hp : s.promote g = (s.modGrp g (fun h => { h with promoted := true })).count g.coreRef 14 1 := if_pos ⟨hg, hw, hn⟩
  have hgrp : ∀ h, (s.promote g).grp h = if h.key = g.key then { s.grp g with promoted := true } else s.grp h := fun h => by
    rw [hp]
    exact State.grp_modGrp s g h _ hg
  refine ⟨by rw [hgrp, if_pos rfl], fun h hk => by rw [hgrp, if_neg hk], ?_, by rw [hp]; rfl⟩
  rw [hp, State.count, State.core_modCore, if_pos rfl, Core.countEv_totals]
  rfl

/-! ## The choice of what issues (10 R187, R188) -/

/-- The element of a list that none comes before; of equals the first. -/
def pickFirst {α : Type} (before : α → α → Prop) [DecidableRel before] (xs : List α) : Option α :=
  xs.foldl (fun b e =>
    match b with
    | none => some e
    | some x => if before e x then some e else some x) none

/-- A fold that keeps the better of two elements, however it is written. -/
theorem foldl_eq_pickFirst {α : Type} {before : α → α → Prop} [DecidableRel before] {F : Option α → α → Option α}
    (h0 : ∀ e, F none e = some e) (h1 : ∀ x e, F (some x) e = if before e x then some e else some x) (xs : List α) :
    xs.foldl F none = pickFirst before xs := by
  have hF : F = fun b e =>
      match b with
      | none => some e
      | some x => if before e x then some e else some x := by
    funext b e
    cases b with
    | none => exact h0 e
    | some x => exact h1 x e
  rw [hF]
  rfl

theorem pickFirst_fold {α : Type} {before : α → α → Prop} [DecidableRel before] (irrefl : ∀ a, ¬before a a)
    (trans : ∀ {a b c}, before a b → before b c → before a c) (xs : List α) (b : α) :
    ∃ m, xs.foldl (fun b e =>
        match b with
        | none => some e
        | some x => if before e x then some e else some x) (some b) = some m ∧
      (m = b ∨ before m b) ∧ m ∈ b :: xs ∧ ∀ f ∈ b :: xs, ¬before f m := by
  induction xs generalizing b with
  | nil =>
    refine ⟨b, rfl, .inl rfl, List.mem_cons_self .., fun f hf => ?_⟩
    rw [List.mem_singleton.mp hf]
    exact irrefl b
  | cons e r ih =>
    rw [List.foldl_cons]
    by_cases he : before e b
    · obtain ⟨m, hm, hle, hin, hall⟩ := ih e
      have hmb : before m b := hle.elim (fun h => h ▸ he) (fun h => trans h he)
      refine ⟨m, by simpa only [he, if_true] using hm, .inr hmb, List.mem_cons_of_mem _ hin, fun f hf => ?_⟩
      rcases List.mem_cons.mp hf with rfl | hf
      · exact fun hfm => irrefl f (trans hfm hmb)
      · exact hall f hf
    · obtain ⟨m, hm, hle, hin, hall⟩ := ih b
      have hem : ¬before e m := fun h => he (hle.elim (fun hmb => hmb ▸ h) (fun hmb => trans h hmb))
      refine ⟨m, by simpa only [he, if_false] using hm, hle, ?_, fun f hf => ?_⟩
      · rcases List.mem_cons.mp hin with rfl | hin
        · exact List.mem_cons_self ..
        · exact List.mem_cons_of_mem _ (List.mem_cons_of_mem _ hin)
      · rcases List.mem_cons.mp hf with rfl | hf
        · exact hall _ (List.mem_cons_self ..)
        rcases List.mem_cons.mp hf with rfl | hf
        · exact hem
        · exact hall f (List.mem_cons_of_mem _ hf)

theorem pickFirst_spec {α : Type} {before : α → α → Prop} [DecidableRel before] (irrefl : ∀ a, ¬before a a)
    (trans : ∀ {a b c}, before a b → before b c → before a c) {xs : List α} {m : α} (h : pickFirst before xs = some m) :
    m ∈ xs ∧ ∀ f ∈ xs, ¬before f m := by
  cases xs with
  | nil => cases h
  | cons e r =>
    obtain ⟨m', hm, -, hspec⟩ := pickFirst_fold irrefl trans r e
    obtain rfl : m' = m := Option.some.inj (hm.symm.trans h)
    exact hspec

theorem State.offered_eq (s : State) (e : Nat × Group) :
    s.offered e = (pickFirst (fun a b : Nat × Context => a.2.lastIssue < b.2.lastIssue)
      (e.2.ctxs.filter (fun c => s.ready ⟨slotOfKey e.1, c.1⟩))).map (fun c => ⟨slotOfKey e.1, c.1⟩) := by
  unfold State.offered
  dsimp only
  rw [foldl_eq_pickFirst (before := fun a b : Nat × Context => a.2.lastIssue < b.2.lastIssue) (fun _ => rfl) (fun x e => by congr)]

/-- What a slot offers is a ready context of its own. -/
theorem State.offered_ready {s : State} {e : Nat × Group} {c : CtxId} (h : s.offered e = some c) :
    c.g = slotOfKey e.1 ∧ s.ready c = true := by
  rw [State.offered_eq] at h
  obtain ⟨x, hx, rfl⟩ := Option.map_eq_some_iff.mp h
  obtain ⟨hin, -⟩ := pickFirst_spec (fun a => Nat.lt_irrefl a.2.lastIssue) (fun {a b c} => Nat.lt_trans (m := b.2.lastIssue)) hx
  exact ⟨rfl, (List.mem_filter.mp hin).2⟩

/-- The order of 10 R188 among the ready slots of a partition. -/
theorem State.pickedBefore_iff (s : State) (a b : Group) : s.pickedBefore a b = true ↔
    (s.issueClass a = 0 ∧ s.issueClass b ≠ 0) ∨
      ((s.issueClass a = 0 ↔ s.issueClass b = 0) ∧
        ((1024 ≤ a.waited ∧ b.waited < a.waited) ∨
          (a.waited < 1024 ∧ b.waited < 1024 ∧
            (s.issueClass a < s.issueClass b ∨ (s.issueClass a = s.issueClass b ∧ a.placed < b.placed))))) := by
  unfold State.pickedBefore
  by_cases hcl : (s.issueClass a = 0 ↔ s.issueClass b = 0)
  · by_cases hw : (1024 ≤ a.waited ↔ 1024 ≤ b.waited)
    · by_cases ha : 1024 ≤ a.waited
      · simp [hcl, hw.mp ha, ha]
      · have hb : ¬1024 ≤ b.waited := fun h => ha (hw.mpr h)
        simp [hcl, ha, hb]
        omega
    · simp [hcl, hw]
      omega
  · simp [hcl]
    omega

theorem State.picked_eq (s : State) (k : CoreRef) (p : Nat) :
    s.picked k p = if s.issuedNow ⟨k.die, k.core, p⟩ then none
      else (pickFirst (fun a b : Group × CtxId => s.pickedBefore a.1 b.1 = true)
        ((s.groups.filter (fun e => decide ((slotOfKey e.1).coreRef = k) && decide ((slotOfKey e.1).partition = p))).filterMap
          (fun e => (s.offered e).map (fun c => (e.2, c))))).map Prod.snd := by
  unfold State.picked
  rw [foldl_eq_pickFirst (before := fun a b : Group × CtxId => s.pickedBefore a.1 b.1 = true) (fun _ => rfl) (fun x e => by congr)]

/-- The context that a partition picks is one that a slot of it offers, and no other offering slot of it comes before. -/
theorem State.picked_spec {s : State} {k : CoreRef} {p : Nat} {c : CtxId} (h : s.picked k p = some c) :
    ∃ e ∈ s.groups, (slotOfKey e.1).coreRef = k ∧ (slotOfKey e.1).partition = p ∧ s.offered e = some c ∧
      ∀ f ∈ s.groups, (slotOfKey f.1).coreRef = k → (slotOfKey f.1).partition = p → (s.offered f).isSome = true →
        ¬s.pickedBefore f.2 e.2 = true := by
  rw [State.picked_eq] at h
  split at h
  · cases h
  obtain ⟨⟨g, c'⟩, hx, rfl⟩ := Option.map_eq_some_iff.mp h
  obtain ⟨hin, hall⟩ := pickFirst_spec (fun a => by rw [State.pickedBefore_iff]; omega)
    (fun {a b c} => by simp only [State.pickedBefore_iff]; omega) hx
  obtain ⟨e, he, hoff⟩ := List.mem_filterMap.mp hin
  obtain ⟨hmem, hcore⟩ := List.mem_filter.mp he
  obtain ⟨c2, hc2, hpair⟩ := Option.map_eq_some_iff.mp hoff
  obtain ⟨rfl, rfl⟩ := Prod.mk.inj hpair
  simp only [Bool.and_eq_true, decide_eq_true_eq] at hcore
  refine ⟨e, hmem, hcore.1, hcore.2, hc2, fun f hf hk hp hsome => ?_⟩
  obtain ⟨d, hd⟩ := Option.isSome_iff_exists.mp hsome
  exact hall (f.2, d) (List.mem_filterMap.mpr ⟨f, List.mem_filter.mpr ⟨hf, by simp [hk, hp]⟩, by rw [hd]; rfl⟩)

theorem State.issueClass_eq_zero (s : State) (g : Group) : s.issueClass g = 0 ↔ g.kind ≠ .group := by
  unfold State.issueClass
  split <;> rename_i h
  · split <;> simp [h]
  · simp [h]

theorem State.issueClass_group (s : State) {g : Group} (h : g.kind = .group) :
    s.issueClass g = if (s.team g.team).yieldPending = true then 2 else 1 := if_pos h

/-- Settles O39: the instructions one by one, and `picked_spec` with the order that `pickedBefore_iff` spells out. -/
theorem coreRegistersAndCounters : Obligations.CoreRegistersAndCounters := by
  unfold Obligations.CoreRegistersAndCounters
  refine ⟨fun s a b c hp => ?_, fun s c => ⟨_, rfl, ?_, ?_, rfl, rfl, rfl, rfl, rfl⟩, fun s g hg => ⟨fun hw hn => ?_, fun hw => ?_⟩,
    fun s k p c h => ?_⟩
  · intro x reserved bad
    have hres := Td.reserved_or_iff x
    have hbad := Td.bad_iff x
    have refuses : ∀ n, a ≤ 28 → x.refused = some n → Traps (.tdset a c) causeIllegal (BitVec.ofNat 64 n) 0 4 s := fun n ha hn => by
      refine congrArg Host.Outcome.next ?_
      rw [guarded_passes _ _ _ _ (decide_eq_false (by omega)), guarded_fails _ _ _ _ (by rw [show s.tdValue a = x from rfl, hn]; rfl),
        show s.tdValue a = x from rfl, hn]
      rfl
    refine ⟨runs_on 1 4 hp rfl, fun ha hr => refuses 2 ha ?_, fun ha hr hb => refuses 8 ha ?_, fun ha hr hb => tdset_writes hp ha ?_,
      fun ha => ⟨?_, ?_⟩, fun ha => tdget_runs hp ha, fun hb => ?_, fun hb => evsel_writes hp hb, evrd_writes hp⟩
    · exact if_pos (hres.mpr hr)
    · exact (if_neg (mt hres.mp hr)).trans (if_pos (hbad.mpr hb))
    · exact (if_neg (mt hres.mp hr)).trans (if_neg (mt hbad.mp hb))
    · exact congrArg Host.Outcome.next (guarded_fails _ _ _ _ (decide_eq_true ha))
    · exact congrArg Host.Outcome.next (guarded_fails _ _ _ _ (decide_eq_true ha))
    · exact congrArg Host.Outcome.next (guarded_fails _ _ _ _ (decide_eq_true hb))
  · rw [State.count, State.core_modCore, if_pos rfl, Core.countEv_totals]
  · rw [State.count, State.core_modCore, if_pos rfl]
    rfl
  · exact ⟨_, rfl, promote_marks hg hw hn⟩
  · exact congrArg Host.Outcome.next (promote_keeps hw)
  · obtain ⟨e, he, hk, hpart, hoff, hfirst⟩ := State.picked_spec h
    obtain ⟨hslot, hready⟩ := State.offered_ready hoff
    refine ⟨e, he, hslot.symm, hslot ▸ hk, hslot ▸ hpart, hready, fun f hf hfk hfp hsome => ?_⟩
    have hnot := hfirst f hf hfk hfp hsome
    rw [State.pickedBefore_iff] at hnot
    have hf0 := s.issueClass_eq_zero f.2
    have he0 := s.issueClass_eq_zero e.2
    refine ⟨fun hfs hes => ?_, fun hsame hw => ?_, fun hfg heg hw => ?_⟩
    · exact hnot (.inl ⟨hf0.mpr hfs, fun h0 => he0.mp h0 hes⟩)
    · by_contra hlt
      exact hnot (.inr ⟨by rw [hf0, he0, ne_eq, ne_eq, hsame], .inl ⟨hw, by omega⟩⟩)
    · rw [s.issueClass_group hfg, s.issueClass_group heg] at hnot
      cases hye : (s.team e.2.team).yieldPending <;> cases hyf : (s.team f.2.team).yieldPending <;>
        simp [hye, hyf] at hnot ⊢ <;> omega

end Sys2Proof.Machine


/-! # Clause headers (obligation O6) -/

namespace Sys2Proof.Machine

/-- An instruction that is charged n units and changes its group by f, before its context goes anywhere. -/
theorem charged_changes {s : State} (n : Nat) {f : Group → Group} (hf : Respects f) (hp : s.plain = true) :
    OnlyGroup s.cur.g f s ((s.charge n).modMe f) ∧ Paid n 0 s ((s.charge n).modMe f) := by
  have hg : (s.charge n).hasGrp s.cur.g = true := (charge_hasGrp s n _).trans (plain_hasGrp hp)
  refine ⟨(quiet_charge s n).only hf ?_, charge_pays s n hp⟩
  unfold State.modMe
  rw [charge_cur]
  exact only_modGrp _ _ f hg

/-! ## The flags that a header names (02 R20, R26) -/

theorem mem_waitFlags {w : BitVec 12} {f : Nat} : f ∈ waitFlags w ↔ f < 12 ∧ w.getLsbD f = true := by
  simp [waitFlags]

theorem waitFlags_sorted (w : BitVec 12) : (waitFlags w).Pairwise (· < ·) := List.pairwise_lt_range.filter _

theorem flagErr_none {g : Group} {fs : List Nat} (h : ∀ f ∈ fs, (g.flag f).err = none) : g.flagErr fs = none := by
  unfold Group.flagErr
  rw [List.filterMap_eq_nil_iff.mpr (fun f hf => by rw [h f hf]; rfl)]
  rfl

/-- The lowest flag's error comes first (02 R26). -/
theorem flagErr_lowest {g : Group} {fs : List Nat} {f : Nat} {t : Trap} (hs : fs.Pairwise (· < ·)) (hf : f ∈ fs)
    (ht : (g.flag f).err = some t) (hlow : ∀ e ∈ fs, e < f → (g.flag e).err = none) : g.flagErr fs = some (f, t) := by
  unfold Group.flagErr
  induction fs with
  | nil => simp at hf
  | cons e r ih =>
    obtain ⟨hlt, hr⟩ := List.pairwise_cons.mp hs
    rcases List.mem_cons.mp hf with rfl | hf
    · rw [List.filterMap_cons, ht]
      rfl
    · have he : (g.flag e).err = none := hlow e (List.mem_cons_self ..) (hlt f hf)
      rw [List.filterMap_cons, he]
      exact ih hr hf (fun e he => hlow e (List.mem_cons_of_mem _ he))

/-! ## What a header meets (02 R402) -/

theorem headerDelivery_inside {s : State} (h : s.inHandler = true) : s.headerDelivery = none := by
  unfold State.headerDelivery
  rw [if_pos h]

section
variable {s : State}

theorem no_fault_here (hno : s.me.handler ≠ none ∨ s.storeFault s.cur.g = none) :
    (if s.me.handler.isSome then none else s.storeFault s.cur.g) = none := by
  rcases hno with h | h
  · rw [if_pos (Option.isSome_iff_ne_none.mpr h)]
  · rw [h, ite_self]

variable (hi : s.inHandler = false)
include hi

theorem headerDelivery_fault {f : StoreFault} (hn : s.me.handler = none) (hf : s.storeFault s.cur.g = some f) :
    s.headerDelivery = some (f.trap, State.dropFault s.cur.g) := by
  unfold State.headerDelivery
  simp [hi, hn, hf]

variable (hno : s.me.handler ≠ none ∨ s.storeFault s.cur.g = none)
include hno

theorem headerDelivery_engine {t : Trap} {r : List Trap} (he : s.me.engineErrs = t :: r) :
    s.headerDelivery = some ({ t with pc := s.ctx.pc, clause := s.ctx.clause, idx := s.ctx.idx },
      State.modMe (fun g => { g with engineErrs := g.engineErrs.drop 1 })) := by
  unfold State.headerDelivery
  rw [no_fault_here hno, he]
  simp [hi]

theorem headerDelivery_mordant {t : Trap} {r : List Trap} (he : s.me.engineErrs = []) (hm : s.me.mordErrs = t :: r) :
    s.headerDelivery = some ({ t with pc := s.ctx.pc, clause := s.ctx.clause, idx := s.ctx.idx },
      State.modMe (fun g => { g with mordErrs := g.mordErrs.drop 1 })) := by
  unfold State.headerDelivery
  rw [no_fault_here hno, he, hm]
  simp [hi]

end

theorem headerDelivery_none {s : State} (hno : s.me.handler ≠ none ∨ s.storeFault s.cur.g = none) (he : s.me.engineErrs = [])
    (hm : s.me.mordErrs = []) : s.headerDelivery = none := by
  unfold State.headerDelivery
  rw [no_fault_here hno, he, hm]
  simp

theorem inHandler_iff (s : State) : s.inHandler = true ↔ ∃ h, s.me.handler = some h ∧ h.ctx = s.cur.i := by
  unfold State.inHandler
  cases s.me.handler <;> simp

theorem emptyClause_iff (s : State) :
    s.emptyClause = true ↔ ∃ h, s.fetchHalf s.cur.g (s.ctx.pc + 4) = .half h ∧ isHeader h = true := by
  unfold State.emptyClause
  cases s.fetchHalf s.cur.g (s.ctx.pc + 4) <;> simp

theorem nextMoving_iff (s : State) : s.nextMoving = true ↔ ∃ p, s.fetchHalf s.cur.g (s.ctx.pc + 4) = .moving p := by
  unfold State.nextMoving
  cases s.fetchHalf s.cur.g (s.ctx.pc + 4) <;> simp

theorem State.held_iff (s : State) : s.held = true ↔ ¬s.inHandler = true ∧ (s.me.graceDue = true ∨ s.me.evicting = true) := by
  unfold State.held
  cases s.inHandler <;> simp

theorem flagCode_iff (n : Nat) : flagCode n = true ↔ n < 12 ∨ n = 15 := by
  simp [flagCode]

theorem headerPred_eq (s : State) (pidx : Nat) (neg en : Bool) : s.headerPred pidx neg en =
    if en = true then (if neg = true then ~~~(s.me.pred s.ctx pidx) else s.me.pred s.ctx pidx) else s.me.pred s.ctx 0 := by
  unfold State.headerPred
  cases en <;> cases neg <;> rfl

/-- A header that has passed its checks: an error status of a flag that it names is delivered, or it issues (02 R22, R26). -/
def headerEffect (wait : BitVec 12) (setA setB : Nat) (pred : Word) (s : State) : State :=
  match s.me.flagErr (waitFlags wait) with
  | some (f, t) => deliverFlagErr f t s
  | none =>
    (((s.charge 1).modCtx (Context.begin_ setA setB pred s.tick)).modMe (Group.handlerFetched s.cur.i)).waitAcquire s.cur.g (waitFlags wait)

theorem headerEffect_err {wait : BitVec 12} {setA setB f : Nat} {pred : Word} {t : Trap} {s : State} (hp : s.plain = true)
    (h : s.me.flagErr (waitFlags wait) = some (f, t)) :
    headerEffect wait setA setB pred s = (s.modMe (Group.modFlag f (fun y => { y with err := none }))).deliver s.cur
      { t with pc := s.ctx.pc, clause := s.ctx.clause, idx := s.ctx.idx } := by
  have hctx : ((s.modMe (Group.modFlag f (fun y => { y with err := none }))).grp s.cur.g).ctx s.cur.i = s.ctx := by
    rw [State.modMe, State.grp_modGrp _ _ _ _ (plain_hasGrp hp), if_pos rfl]
    rfl
  unfold headerEffect
  rw [h]
  unfold deliverFlagErr State.deliverAt
  rw [← hctx]

theorem headerEffect_issues {wait : BitVec 12} {setA setB : Nat} {pred : Word} {s : State} (h : s.me.flagErr (waitFlags wait) = none) :
    headerEffect wait setA setB pred s =
      (((s.charge 1).modCtx (Context.begin_ setA setB pred s.tick)).modMe (Group.handlerFetched s.cur.i)).waitAcquire s.cur.g (waitFlags wait) := by
  unfold headerEffect
  rw [h]

/-- What a header at which nothing is to be delivered does, check by check (02 R402). -/
theorem clauseHeader_guarded {s : State} (hd : s.headerDelivery = none) (wait : BitVec 12) (setA setB pidx : Nat) (neg en : Bool) :
    execClauseHeader wait setA setB pidx neg en s = .next (guarded
        [(!en && (neg || decide (pidx ≠ 0)), fun s => s.illegalHeader s.ctx.pc 2),
         (!flagCode setA || !flagCode setB, fun s => s.illegalHeader s.ctx.pc 6),
         (s.emptyClause, fun s => s.illegalHeader (s.ctx.pc + 4) 4),
         (s.held || s.nextMoving, fun s => s),
         (!(waitFlags wait).all s.me.flagClear, fun s => s)]
        (headerEffect wait setA setB (s.headerPred pidx neg en)) s) := by
  unfold execClauseHeader
  rw [hd]
  unfold guarded headerEffect
  rfl

/-- What a header's issue makes of its context, without its time. -/
def Context.latched (setA setB : Nat) (pred : Word) (c : Context) : Context :=
  { c with clause := c.pc, idx := 0, pc := c.pc + 4, due := false, setA := setA, setB := setB, pred := pred }

/-- A header that issues (02 R15, R22). -/
theorem header_issues {s : State} {i : Instr} {setA setB : Nat} {pred : Word} {fs : List Nat} (hp : s.plain = true)
    (he : exec i s = .next ((((s.charge 1).modCtx (Context.begin_ setA setB pred s.tick)).modMe (Group.handlerFetched s.cur.i)).waitAcquire
      s.cur.g fs)) :
    RunsThen i 1 0 (fun g => (g.modCtx s.cur.i (Context.latched setA setB pred)).handlerFetched s.cur.i) (State.waitAcquire s.cur.g fs) s := by
  have hbare : ∀ c : Context, (c.latched setA setB pred).bare = c.bare.latched setA setB pred := fun _ => rfl
  have hu : ((s.charge 1).modCtx (Context.begin_ setA setB pred s.tick)).modMe (Group.handlerFetched s.cur.i) =
      (s.charge 1).modMe (fun g => (g.modCtx s.cur.i (Context.begin_ setA setB pred s.tick)).handlerFetched s.cur.i) := by
    rw [State.modCtx, State.modMe_modMe, charge_cur]
  have hfetched : ∀ g : Group, (g.handlerFetched s.cur.i).bare = g.bare.handlerFetched s.cur.i := fun _ => rfl
  have hview : ∀ g : Group, ((g.modCtx s.cur.i (Context.begin_ setA setB pred s.tick)).handlerFetched s.cur.i).bare =
      ((g.modCtx s.cur.i (Context.latched setA setB pred)).handlerFetched s.cur.i).bare := fun g => by
    rw [hfetched, hfetched]
    have hctx : ∀ c : Context, (c.begin_ setA setB pred s.tick).bare = (c.latched setA setB pred).bare := fun _ => rfl
    exact congrArg (Group.handlerFetched s.cur.i) (bare_modCtx_congr hctx g s.cur.i)
  have hresp : Respects (fun g => (g.modCtx s.cur.i (Context.latched setA setB pred)).handlerFetched s.cur.i) :=
    (Respects.modCtx (fun c d h => by rw [hbare, hbare, h])).comp (Respects.of_comm hfetched)
  obtain ⟨honly, hpaid⟩ := charged_changes 1 (f := fun g => (g.modCtx s.cur.i (Context.begin_ setA setB pred s.tick)).handlerFetched s.cur.i)
    (fun x y e => by rw [hview, hview, hresp x y e]) hp
  rw [hu] at he
  refine ⟨_, he, honly.congr (hview _), hpaid, fun hr => ?_⟩
  have hme : ∀ t : State, t.cur = s.cur → t.grp s.cur.g = t.me := fun t e => by unfold State.me; rw [e]
  rw [hme _ (by rw [State.modMe_cur, charge_cur]), State.me_modMe (by rw [charge_hasGrp, charge_cur]; exact plain_hasGrp hp)]
  show (((s.charge 1).me.modCtx s.cur.i _).ctx s.cur.i).stop = _
  rw [stop_modCtx _ _ _ (Context.begin_ setA setB pred s.tick) (fun _ => rfl), charge_me_view (fun g => g.ctx s.cur.i) (fun _ _ _ _ => rfl)]
  exact hr

/-- Settles O6: `headerDelivery` case by case, the checks in their order, and `header_issues`. -/
theorem clauseHeader : Obligations.ClauseHeader := by
  unfold Obligations.ClauseHeader
  intro s wait setA setB pidx neg en hp i x code zero empty inside mustSave moves named here illegal noFault
  have hinside : inside ↔ s.inHandler = true := (inHandler_iff s).symm
  have delivers : ∀ t take, s.headerDelivery = some (t, take) → exec i s = .next ((take s).raiseHere t) := fun t take hd => by
    show execClauseHeader wait setA setB pidx neg en s = _
    unfold execClauseHeader
    rw [hd]
  refine ⟨fun f hn hf => ?_, fun hni hno => ⟨fun t r he => ?_, fun t r he hm => ?_⟩, fun hquiet => ?_⟩
  · have hi : s.inHandler = false := by simp [State.inHandler, hn]
    exact delivers _ _ (headerDelivery_fault hi hn hf)
  · exact delivers _ _ (headerDelivery_engine (by simpa [hinside] using hni) hno he)
  · exact delivers _ _ (headerDelivery_mordant (by simpa [hinside] using hni) hno he hm)
  have hd : s.headerDelivery = none := by
    by_cases hi : s.inHandler = true
    · exact headerDelivery_inside hi
    · obtain ⟨hno, he, hm⟩ := hquiet.resolve_left (fun h => hi (hinside.mp h))
      exact headerDelivery_none hno he hm
  have hex := clauseHeader_guarded hd wait setA setB pidx neg en
  have hzero : (!en && (neg || decide (pidx ≠ 0))) = false ↔ zero := by
    show _ ↔ en = true ∨ (neg = false ∧ pidx = 0)
    cases en <;> cases neg <;> simp
  have hcode : (!flagCode setA || !flagCode setB) = false ↔ code setA ∧ code setB := by
    rw [Bool.or_eq_false_iff, Bool.not_eq_false', Bool.not_eq_false', flagCode_iff, flagCode_iff]
  have hwaits : (s.held || s.nextMoving) = true ↔ mustSave ∨ moves := by
    rw [Bool.or_eq_true, State.held_iff, nextMoving_iff, ← hinside]
  have hflags : (!(waitFlags wait).all s.me.flagClear) = false ↔ ∀ f, named f → (s.me.flag f).count = 0 := by
    simp [Group.flagClear, mem_waitFlags, named]
  refine ⟨fun hz => ?_, fun hz hc => ?_, fun hz hca hcb => ⟨fun hem => ?_, fun hem => ⟨fun hw => ?_, fun hs hm hf => ⟨fun f t hn ht hlow => ?_, fun hnone => ?_⟩⟩⟩⟩
  · refine hex.trans (congrArg Host.Outcome.next ?_)
    rw [guarded_fails _ _ _ _ (eq_true_of_ne_false (mt hzero.mp hz))]
    rfl
  · refine hex.trans (congrArg Host.Outcome.next ?_)
    rw [guarded_passes _ _ _ _ (hzero.mpr hz), guarded_fails _ _ _ _ (eq_true_of_ne_false (mt hcode.mp hc))]
    rfl
  all_goals
    rw [guarded_passes _ _ _ _ (hzero.mpr hz), guarded_passes _ _ _ _ (hcode.mpr ⟨hca, hcb⟩)] at hex
  · refine hex.trans (congrArg Host.Outcome.next ?_)
    rw [guarded_fails _ _ _ _ ((emptyClause_iff s).mpr hem)]
    rfl
  all_goals
    rw [guarded_passes _ _ _ _ (eq_false_of_ne_true (mt (emptyClause_iff s).mp hem))] at hex
  · refine hex.trans (congrArg Host.Outcome.next ?_)
    by_cases hmw : mustSave ∨ moves
    · exact guarded_fails _ _ _ _ (hwaits.mpr hmw)
    · rw [guarded_passes _ _ _ _ (eq_false_of_ne_true (mt hwaits.mp hmw))]
      obtain ⟨f, hn, hf⟩ := (or_assoc.mpr hw).resolve_left hmw
      exact guarded_fails _ _ _ _ (eq_true_of_ne_false (fun h => hf (hflags.mp h f hn)))
  all_goals
    rw [guarded_passes _ _ _ _ (eq_false_of_ne_true (mt hwaits.mp (not_or.mpr ⟨hs, hm⟩))), guarded_passes _ _ _ _ (hflags.mpr hf), guarded_nil] at hex
  · rw [headerEffect_err hp (flagErr_lowest (waitFlags_sorted wait) (mem_waitFlags.mpr hn) ht
      (fun e he hlt => hlow e hlt (mem_waitFlags.mp he)))] at hex
    exact hex
  · rw [headerEffect_issues (flagErr_none (fun f hf => hnone f (mem_waitFlags.mp hf))), headerPred_eq] at hex
    exact header_issues hp hex

end Sys2Proof.Machine


/-! # A step of the machine (obligation O1) -/

namespace Sys2Proof.Machine

/-! ## The model's own schedule takes turns (log 2) -/

/-- In a booted part the act is a turn. -/
def IsTurn (a : OwnAct) : Prop := ∀ s : State, s.io.boot.booted = true → ∃ u, a s = turn u s

/-- Each of the acts is a turn. -/
def AllTurns (as : List OwnAct) : Prop := ∀ a ∈ as, IsTurn a

theorem isTurn_issue (c : CtxId) : IsTurn (issueTurn c) := fun s hb => ⟨.issue c, by rw [turn, if_pos hb]⟩

theorem isTurn_exec (i : Instr) : IsTurn (exec i) := fun s hb => ⟨.event i, by rw [turn, hb]; rfl⟩

theorem AllTurns.nil : AllTurns [] := fun a h => by simp at h

theorem AllTurns.cons {a : OwnAct} {as : List OwnAct} (h : IsTurn a) (hs : AllTurns as) : AllTurns (a :: as) :=
  List.forall_mem_cons.mpr ⟨h, hs⟩

theorem AllTurns.append {as bs : List OwnAct} (ha : AllTurns as) (hb : AllTurns bs) : AllTurns (as ++ bs) :=
  List.forall_mem_append.mpr ⟨ha, hb⟩

theorem AllTurns.map {α : Type} {f : α → OwnAct} (h : ∀ x, IsTurn (f x)) (xs : List α) : AllTurns (xs.map f) :=
  List.forall_mem_map.mpr (fun x _ => h x)

theorem AllTurns.flatMap {α : Type} {f : α → List OwnAct} (h : ∀ x, AllTurns (f x)) (xs : List α) : AllTurns (xs.flatMap f) := by
  intro a ha
  obtain ⟨x, -, hx⟩ := List.mem_flatMap.mp ha
  exact h x a hx

/-- One event, and two. -/
theorem allTurns_exec (i : Instr) : AllTurns [exec i] := AllTurns.nil.cons (isTurn_exec i)

theorem allTurns_exec₂ (i j : Instr) : AllTurns [exec i, exec j] := (allTurns_exec j).cons (isTurn_exec i)

theorem Op.acts_turns (g : SlotRef) (team : Nat) (o : Op) : AllTurns (o.acts g team) := by
  unfold Op.acts
  split
  · exact allTurns_exec (.loadDataReturn g o.id allLanes)
  · exact allTurns_exec (.loadDataReturn g o.id allLanes)
  · exact allTurns_exec (.loadDataReturn g o.id allLanes)
  · exact allTurns_exec₂ (.storePerform g o.id allLanes) (.storeFaultRecord g o.id)
  · exact allTurns_exec₂ (.storePerform g o.id allLanes) (.storeFaultRecord g o.id)
  · exact allTurns_exec (.prefComplete g o.id)
  · exact allTurns_exec (.atomicPerform g o.id allLanes)
  · exact allTurns_exec (.barrierApply team _ [⟨g, o.id⟩])
  · exact allTurns_exec (.qmvQuarterComplete [⟨⟨g, o.id⟩, _⟩])
  · exact AllTurns.nil
  · exact allTurns_exec (.launchComplete g o.id)
  · exact allTurns_exec (.spawnComplete g o.id)
  · exact AllTurns.nil
  · exact allTurns_exec (.chsendAccept g o.id)
  · exact allTurns_exec (.chrecvDeliver g o.id)
  · exact allTurns_exec (.cfillComplete g o.id _)
  · exact allTurns_exec (.mregSliceResult g o.id)
  · exact AllTurns.map (fun l => isTurn_exec (.mreqArrive g o.id l)) _
  · exact allTurns_exec (.mldoComplete g o.id)
  · exact allTurns_exec (.mmaComplete g o.id 0 [])
  · exact allTurns_exec (.mstaComplete g o.id)
  · exact allTurns_exec (.mzaccComplete g o.id)
  · exact allTurns_exec (.attnComplete g o.id false false)
  · exact allTurns_exec (.attnfComplete g o.id)
  · exact allTurns_exec (.attnzComplete g o.id)
  · exact allTurns_exec (.copyComplete g o.id _ [])
  · exact allTurns_exec (.copyComplete g o.id _ [])
  · refine AllTurns.map (fun r => ?_) _
    exact isTurn_exec (.copyComplete g o.id r.pos [])
  · exact allTurns_exec (.cpywpResult g o.id)
  · exact AllTurns.nil
  · exact AllTurns.nil
  · exact AllTurns.nil

theorem Context.acts_turns (c : CtxId) (x : Context) : AllTurns (x.acts c) := by
  unfold Context.acts
  split
  · exact AllTurns.nil
  · exact AllTurns.nil.cons (isTurn_issue c)
  · exact allTurns_exec (.sleepEnd c)
  · exact allTurns_exec (.growGrant c)
  · exact allTurns_exec (.shrinkApply c)
  · exact allTurns_exec (.mclaimGrant c)
  · exact allTurns_exec (.stdrainResolve c)
  · exact allTurns_exec (.reorderArrive c)
  · exact allTurns_exec (.contextRestore c)
  · exact allTurns_exec (.contextRestore c)
  · exact allTurns_exec (.contextRestore c)
  all_goals exact AllTurns.nil

theorem Group.acts_turns (g : SlotRef) (x : Group) : AllTurns (x.acts g) := by
  unfold Group.acts
  refine AllTurns.cons (isTurn_exec (.groupRetire g)) ?_
  split
  · exact (allTurns_exec₂ (.graceForcedSave g) (.groupEvictSave g)).cons (isTurn_exec (.slotPromotion g))
  · exact allTurns_exec (.laneWaveLimit g)
  · exact allTurns_exec (.combinerWaveLimit g)

theorem Team.acts_turns (t : Nat) (m : Team) : AllTurns (m.acts t) := by
  unfold Team.acts
  refine AllTurns.append (AllTurns.append ?_ (AllTurns.flatMap (fun e => ?_) _)) ?_
  · exact (allTurns_exec₂ (.topupLand t true) (.topupLand t false)).append
      (allTurns_exec₂ (.reorderCollectiveStart t) (.reorderCollectiveComplete t))
  · exact allTurns_exec₂ (.laneCollectionClose t e.1) (.handlerWaveStart t e.1)
  · intro a ha
    obtain ⟨e, -, he⟩ := List.mem_filterMap.mp ha
    split at he
    · cases he
      exact isTurn_exec (.evictedGroupReturn t e.1)
    · cases he

theorem Task.acts_turns (k : Nat) (j : Task) : AllTurns (j.acts k) := by
  have hretire : IsTurn (if j.spawn then execSpawnTaskRetire k else execGridRetire k) := by
    split
    · exact isTurn_exec (.spawnTaskRetire k)
    · exact isTurn_exec (.gridRetire k)
  unfold Task.acts
  dsimp only
  split
  · exact (AllTurns.nil.cons hretire).cons (isTurn_exec (.leaseResidencyWalk k))
  · exact (AllTurns.nil.cons hretire).cons (isTurn_exec (.childGridAccept k))
  · exact AllTurns.nil.cons hretire
  · split
    · exact allTurns_exec (.spawnTaskRetire k)
    · exact AllTurns.nil

theorem dieActs_turns (d : Nat) (x : Die) : AllTurns (dieActs d x) :=
  ((AllTurns.map (fun c => isTurn_exec (.taskQueuePlace d c)) _).cons (isTurn_exec (.teamPlace d))).append
    (AllTurns.map (fun i => isTurn_exec (.expertReplicaCommit d i)) _)

theorem IoDie.acts_turns (io : IoDie) : AllTurns io.acts := by
  unfold IoDie.acts
  refine ((AllTurns.flatMap (fun e => ?_) _).append (allTurns_exec .invalidateCommand)).append (AllTurns.map (fun m => ?_) _)
  · exact allTurns_exec₂ (.launchCommandStart e.1) (.queueSwitchOutDone e.1)
  · exact isTurn_exec (.pageMigrationEnd m.id)

/-! ### The round -/

/-- Each entry's act is a turn. -/
def AllRounds (es : List (Nat × OwnAct)) : Prop := ∀ e ∈ es, IsTurn e.2

theorem AllRounds.append {as bs : List (Nat × OwnAct)} (ha : AllRounds as) (hb : AllRounds bs) : AllRounds (as ++ bs) :=
  List.forall_mem_append.mpr ⟨ha, hb⟩

theorem AllRounds.flatMap {α : Type} {f : α → List (Nat × OwnAct)} (h : ∀ x, AllRounds (f x)) (xs : List α) :
    AllRounds (xs.flatMap f) := by
  intro e he
  obtain ⟨x, -, hx⟩ := List.mem_flatMap.mp he
  exact h x e hx

theorem AllTurns.rounds {as : List OwnAct} (h : AllTurns as) (sort key : Nat) : AllRounds (rounds sort key as) := by
  intro e he
  obtain ⟨⟨a, i⟩, ha, rfl⟩ := List.mem_map.mp he
  exact h a (List.fst_mem_of_mem_zipIdx ha)

theorem State.acts_turns (s : State) : AllRounds s.acts := by
  unfold State.acts
  refine AllRounds.append (AllRounds.append ?issues ?slots) (AllRounds.append (AllRounds.append (AllRounds.append (AllRounds.append
    (AllRounds.append (AllRounds.append ?teams ?tasks) ?cores) ?dies) ?steals) ?mordant) ?io)
  case issues =>
    refine AllRounds.flatMap (fun k => AllRounds.flatMap (fun p => AllTurns.rounds ?_ _ _) _) _
    intro a ha
    obtain ⟨c, -, rfl⟩ := Option.map_eq_some_iff.mp (Option.mem_toList.mp ha)
    exact isTurn_issue c
  case slots =>
    refine AllRounds.flatMap (fun e => AllRounds.append (AllRounds.append (AllRounds.flatMap (fun c => ?_) _)
      (AllRounds.flatMap (fun o => ?_) _)) ?_) _
    · exact (Context.acts_turns _ c.2).rounds _ _
    · exact (Op.acts_turns _ _ o).rounds _ _
    · exact (Group.acts_turns _ e.2).rounds _ _
  case teams =>
    refine AllRounds.flatMap (fun e => ?_) _
    exact (Team.acts_turns _ e.2).rounds _ _
  case tasks =>
    refine AllRounds.flatMap (fun e => ?_) _
    exact (Task.acts_turns _ e.2).rounds _ _
  case cores =>
    refine AllRounds.flatMap (fun e => AllTurns.rounds ?_ _ _) _
    exact allTurns_exec (.growDeadlockFail (coreOfKey e.1))
  case dies =>
    refine AllRounds.flatMap (fun d => ?_) _
    exact (dieActs_turns d (s.die d)).rounds _ _
  case steals =>
    refine AllRounds.flatMap (fun m => AllTurns.rounds ?_ _ _) _
    exact allTurns_exec₂ (.stealMessage m.id) (.stealTeamsArrive m.id)
  case mordant =>
    refine AllRounds.flatMap (fun e => AllTurns.rounds ?_ _ _) _
    exact allTurns_exec₂ (.mordantBatchClose e.1) (.combinerWaveStart e.1)
  case io => exact ((IoDie.acts_turns s.io).append (allTurns_exec .umberReplaceComplete)).rounds _ _

/-- With an empty agenda the machine takes a turn of its own schedule. -/
theorem nextAct_turn (s : State) : ∃ u k, s.nextAct = turn u { s with cursor := k } := by
  unfold State.nextAct
  dsimp only
  rw [foldl_eq_pickFirst (before := fun a b : Nat × OwnAct => a.1 < b.1) (fun _ => rfl) (fun x e => by congr)]
  split
  · rename_i n a h
    obtain ⟨hin, -⟩ := pickFirst_spec (fun a => Nat.lt_irrefl a.1) (fun {a b c} => Nat.lt_trans (m := b.1)) h
    split at hin
    · rename_i hb
      obtain ⟨u, hu⟩ := State.acts_turns s _ (List.mem_filter.mp hin).1 { s with cursor := n + 1 } hb
      exact ⟨u, n + 1, hu⟩
    · simp at hin
  · exact ⟨.tick 1, 0, rfl⟩

/-! ## A context's turn (02 R14-R17, 10 R187, R188) -/

theorem SlotRef.partition_self (g : SlotRef) (d c : Nat) : SlotRef.partition ⟨d, c, g.partition⟩ = g.partition := by
  unfold SlotRef.partition
  dsimp only
  split <;> rename_i h
  · rw [if_neg (by omega)]
  · rw [if_neg (by omega)]
    omega

/-- A partition that has issued in this cycle picks nothing (10 R188). -/
theorem picked_none_of_issued {s : State} {g : SlotRef} (h : s.issuedNow g = true) : s.picked g.coreRef g.partition = none := by
  have hsame : s.issuedNow ⟨g.coreRef.die, g.coreRef.core, g.partition⟩ = s.issuedNow g := by
    unfold State.issuedNow
    rw [SlotRef.partition_self]
    rfl
  rw [State.picked_eq, hsame, if_pos h]

theorem ready_of_picked {s : State} {k : CoreRef} {p : Nat} {c : CtxId} (h : s.picked k p = some c) : s.ready c = true := by
  obtain ⟨e, -, -, -, hoff, -⟩ := State.picked_spec h
  exact (State.offered_ready hoff).2

/-- The next word, where its halfwords can be fetched and a header stands where one is required. -/
theorem nextWord_word {t : State} {h0 h1 : Nat} (hd : t.ctx.due = false ∨ isHeader h0 = true)
    (hf : t.fetchHalf t.cur.g t.ctx.pc = .half h0)
    (hl : if isLong h0 then t.fetchHalf t.cur.g (t.ctx.pc + 2) = .half h1 else h1 = 0) :
    t.nextWord = .word (decodeWords h0 h1) (isLong h0) (if isLong h0 then h0 / 2 % 8 else 8) := by
  have hdue : ¬(t.ctx.due = true ∧ (!isHeader h0) = true) := by
    rcases hd with h | h <;> simp [h]
  unfold State.nextWord
  rw [hf]
  dsimp only
  rw [if_neg hdue]
  cases hlong : isLong h0 with
  | true =>
    rw [hlong, if_pos rfl] at hl
    rw [hl]
    rfl
  | false =>
    rw [hlong] at hl
    rw [show h1 = 0 from hl]
    rfl

/-- A context whose word must wait is not ready. -/
theorem not_ready_of_waits {s : State} {c : CtxId} {i : Instr} {long : Bool} {cls : Nat}
    (hw : ({ s with cur := c } : State).nextWord = .word (.ok i) long cls) (h : ({ s with cur := c } : State).waits i = true) :
    s.ready c = false := by
  unfold State.ready
  dsimp only
  rw [hw]
  dsimp only
  rw [h, Bool.not_true, Bool.and_false]

/-- What the context at hand does at its next word (02 R14-R17). -/
def runWord (c : CtxId) (t : State) : Next → Host.Outcome State Fault Refusal
  | .nothing => .next t
  | .lease => .next (t.endTaskAt c causeLease 0 t.ctx.pc)
  | .handlerFault => .next (fetchFault t)
  | .noHeader => .next (t.illegalHeader t.ctx.pc 4)
  | .word (.ok i) _ _ => exec i t
  | .word (.escape e) _ _ => execEsc e t
  | .word (.illegal sub) long cls => .next (illegalWord long cls sub t)

theorem issueTurn_picked {s : State} {c : CtxId} (h : s.picked c.g.coreRef c.g.partition = some c) :
    issueTurn c s =
      if (s.grp c.g).spent = true then .next (({ s.pick c.g with cur := c } : State).waveLimit c.g)
      else runWord c { s.pick c.g with cur := c } ({ s.pick c.g with cur := c } : State).nextWord := by
  unfold issueTurn
  rw [if_pos h]
  dsimp only
  congr 1

/-- A pick leaves what makes a wave spent. -/
theorem spent_pick (s : State) (g : SlotRef) : ((s.pick g).grp g).spent = (s.grp g).spent := by
  have hmod : ∀ (u : State) (f : Group → Group), (∀ x, (f x).spent = x.spent) → ((u.modGrp g f).grp g).spent = (u.grp g).spent :=
    fun u f hf => get_upd_view u.groups Group.empty g.key g.key f Group.spent hf
  have hprom : ((s.promote g).grp g).spent = (s.grp g).spent := by
    unfold State.promote
    split
    · exact hmod s _ (fun _ => rfl)
    · rfl
  exact (hmod (s.promote g) (fun h => { h with waited := 0, promoted := false }) (fun _ => rfl)).trans hprom

/-- A group's context whose first halfword cannot begin its clause, or cannot be fetched. -/
theorem nextWord_group {t : State} (hk : t.me.kind = .group) (hh : t.me.handler = none) :
    (∀ h0, t.fetchHalf t.cur.g t.ctx.pc = .half h0 → t.ctx.due = true → isHeader h0 = false → t.nextWord = .noHeader) ∧
      (t.fetchHalf t.cur.g t.ctx.pc = .lease → t.nextWord = .lease) := by
  have hfresh : (t.me.handler.any (fun h => h.ctx = t.cur.i && h.fresh) || t.me.freshWave) = false := by
    unfold Group.freshWave
    rw [hh, hk]
    rfl
  unfold State.nextWord
  refine ⟨fun h0 hf hd hn => ?_, fun hf => ?_⟩
  · rw [hf]
    dsimp only
    rw [hfresh, if_pos (by simp [hd, hn])]
    rfl
  · rw [hf]
    dsimp only
    rw [hfresh]
    rfl

/-- Settles O1: a turn of the agenda by `turn`, a picked context's by `issueTurn_picked`, and the model's own by `nextAct_turn`. -/
theorem stepRunsDecoded : Obligations.StepRunsDecoded := by
  unfold Obligations.StepRunsDecoded
  intro s c r h0 h1 a n t booted chosen
  refine ⟨fun i hag => ?_, fun hag => ?_, fun hag => ?_⟩
  · have hstep : step s = turn (.event i) a := by rw [step, hag]
    refine ⟨fun hb => hstep.trans (if_pos ?_), fun hb hi => hstep.trans (if_neg ?_)⟩
    · rw [Bool.or_eq_true]
      exact hb
    · rw [Bool.or_eq_true, not_or]
      exact ⟨hb, by rw [hi]; exact Bool.false_ne_true⟩
  · have hown : step s = s.nextAct := by rw [step, hag]
    rw [hown]
    exact nextAct_turn s
  have hstep : step s = if s.io.boot.booted then issueTurn c a else .next a := by
    rw [step, hag]
    rfl
  have hunpicked : a.issuedNow c.g = true → ¬chosen := fun h hc => by
    rw [show chosen = (a.picked c.g.coreRef c.g.partition = some c) from rfl, picked_none_of_issued h] at hc
    cases hc
  have hwaits : ∀ i, n.waits i = true → ∀ long cls, n.nextWord = .word (.ok i) long cls → ¬chosen := fun i hw long cls hn hc => by
    have hready := ready_of_picked hc
    rw [not_ready_of_waits hn hw] at hready
    cases hready
  refine ⟨fun hb => hstep.trans (if_neg hb), fun hb hc hm => ?_, hunpicked, fun hf hl hd i hdec hw => ?_, fun hb hc => ?_⟩
  · rw [hstep, if_pos hb, issueTurn, if_neg hc, if_pos hm]
  · have hword := nextWord_word (t := n) hd hf hl
    rw [hdec] at hword
    exact hwaits i hw _ _ hword
  have hspent : t.me.spent = (a.grp c.g).spent := spent_pick a c.g
  have hturn : step s = if t.me.spent = true then .next (t.waveLimit c.g) else runWord c t t.nextWord := by
    rw [hstep, if_pos hb, issueTurn_picked hc, hspent]
  refine ⟨fun hsp => hturn.trans (if_pos hsp), fun hsp => ?_⟩
  have hrun : step s = runWord c t t.nextWord := hturn.trans (if_neg (by rw [hsp]; exact Bool.false_ne_true))
  refine ⟨fun hd hf hl => ?_, fun hk hh => ?_⟩
  · rw [nextWord_word (t := t) hd hf hl] at hrun
    refine ⟨fun i hdec => ?_, fun e hdec => ?_, fun k hdec hcls => ?_⟩
    · rw [hrun, hdec]
      rfl
    · rw [hrun, hdec]
      rfl
    · have hcls' : (if isLong h0 then h0 / 2 % 8 else 8) ≠ 2 := by
        split
        · exact hcls
        · decide
      rw [hrun, hdec]
      show Host.Outcome.next (illegalWord _ _ _ _) = _
      rw [illegalWord, if_neg hcls']
      rfl
  · obtain ⟨hnone, hlease⟩ := nextWord_group (t := t) hk hh
    refine ⟨fun hf hd hn => ?_, fun hf => ?_⟩
    · rw [hrun, hnone h0 hf hd hn]
      rfl
    · rw [hrun, hlease hf]
      rfl

end Sys2Proof.Machine


/-! # What an access leaves of the state before it issues (09 R160-R164, R174) -/

namespace Sys2Proof.Machine

/-- t is s but for what caches, translations and counters keep, and for the lines that the team of the group in slot g has paid
for. -/
structure Cached (g : SlotRef) (s t : State) : Prop where
  cur : t.cur = s.cur
  tick : t.tick = s.tick
  names : t.names = s.names
  mem : t.mem = s.mem
  io : t.io = s.io
  mordant : t.mordant = s.mordant
  here : (t.grp g).file = (s.grp g).file
  stops : ∀ i, ((t.grp g).ctx i).stop = ((s.grp g).ctx i).stop
  others : ∀ h : SlotRef, h.key ≠ g.key → (t.grp h).bare = (s.grp h).bare
  teams : ∀ k, (t.team k).bare = (s.team k).bare
  tasks : ∀ k, (t.task k).bare = (s.task k).bare

theorem Cached.refl (g : SlotRef) (s : State) : Cached g s s :=
  ⟨rfl, rfl, rfl, rfl, rfl, rfl, rfl, fun _ => rfl, fun _ _ => rfl, fun _ => rfl, fun _ => rfl⟩

theorem Cached.trans {g : SlotRef} {s t u : State} (a : Cached g s t) (b : Cached g t u) : Cached g s u :=
  ⟨b.cur.trans a.cur, b.tick.trans a.tick, b.names.trans a.names, b.mem.trans a.mem, b.io.trans a.io, b.mordant.trans a.mordant,
   b.here.trans a.here, fun i => (b.stops i).trans (a.stops i), fun h n => (b.others h n).trans (a.others h n),
   fun k => (b.teams k).trans (a.teams k), fun k => (b.tasks k).trans (a.tasks k)⟩

theorem Cached.of_quiet {g : SlotRef} {s t : State} (q : Quiet s t)
    (h : ∀ i, ((t.grp g).ctx i).stop = ((s.grp g).ctx i).stop) : Cached g s t :=
  ⟨q.cur, (congrArg State.tick q.rest :), q.names, (congrArg State.mem q.rest :), (congrArg State.io q.rest :),
   (congrArg State.mordant q.rest :), congrArg (fun x : Group => { x with pages := [] }) (q.groups g), h, fun k _ => q.groups k,
   q.teams, q.tasks⟩

/-- A step outside groups, teams, tasks and memory. -/
theorem Cached.of_same {g : SlotRef} {s t : State} (hc : t.cur = s.cur) (ht : t.tick = s.tick) (hg : t.groups = s.groups)
    (hm : t.teams = s.teams) (hk : t.tasks = s.tasks) (hmem : t.mem = s.mem) (hio : t.io = s.io) (hmor : t.mordant = s.mordant) :
    Cached g s t := by
  have hgrp : ∀ k, t.grp k = s.grp k := fun k => by unfold State.grp; rw [hg]
  exact ⟨hc, ht, by unfold State.names; rw [hg, hm, hk], hmem, hio, hmor, by rw [hgrp], fun i => by rw [hgrp], fun k _ => by rw [hgrp],
    fun k => by unfold State.team; rw [hm], fun k => by unfold State.task; rw [hk]⟩

/-- A counter that stands where counters end does not move when a step charges no instruction. -/
def Unpaid (s t : State) : Prop := ∀ k, sat64 (s.team k).ci = (s.team k).ci → (t.team k).ci = (s.team k).ci

theorem Unpaid.refl (s : State) : Unpaid s s := fun _ _ => rfl

theorem Unpaid.trans {s t u : State} (a : Unpaid s t) (b : Unpaid t u) : Unpaid s u := fun k h =>
  (b k (by rw [a k h]; exact h)).trans (a k h)

theorem Unpaid.of_teams {s t : State} (h : t.teams = s.teams) : Unpaid s t := fun k _ => by unfold State.team; rw [h]

/-- A step that a later one may rely on: what is cached and what is paid. -/
def Readies (g : SlotRef) (s t : State) : Prop := Cached g s t ∧ Unpaid s t

theorem Readies.refl (g : SlotRef) (s : State) : Readies g s s := ⟨Cached.refl g s, Unpaid.refl s⟩

theorem Readies.trans {g : SlotRef} {s t u : State} (a : Readies g s t) (b : Readies g t u) : Readies g s u :=
  ⟨a.1.trans b.1, a.2.trans b.2⟩

theorem Readies.of_same {g : SlotRef} {s t : State} (hc : t.cur = s.cur) (ht : t.tick = s.tick) (hg : t.groups = s.groups)
    (hm : t.teams = s.teams) (hk : t.tasks = s.tasks) (hmem : t.mem = s.mem) (hio : t.io = s.io) (hmor : t.mordant = s.mordant) :
    Readies g s t := ⟨Cached.of_same hc ht hg hm hk hmem hio hmor, Unpaid.of_teams hm⟩

theorem Cached.isPlain {g : SlotRef} {s t : State} (h : Cached g s t) : (t.grp g).isPlain = (s.grp g).isPlain := by
  have hk : (t.grp g).kind = (s.grp g).kind := Group.eq_of_file Group.kind (fun _ => rfl) h.here
  unfold Group.isPlain
  rw [hk]

theorem Readies.foldl {α : Type} {g : SlotRef} {f : State → α → State}
    (h : ∀ s x, s.cur.g = g → (s.grp g).isPlain = true → Readies g s (f s x)) (xs : List α) {s : State} (hs : s.cur.g = g)
    (hp : (s.grp g).isPlain = true) : Readies g s (xs.foldl f s) := by
  induction xs generalizing s with
  | nil => exact Readies.refl g s
  | cons x r ih =>
    have hx := h s x hs hp
    exact hx.trans (ih (by rw [hx.1.cur]; exact hs) (hx.1.isPlain.trans hp))

/-! ## The steps -/

theorem readies_count (g : SlotRef) (s : State) (c : CoreRef) (src n : Nat) : Readies g s (s.count c src n) :=
  Readies.of_same rfl rfl rfl rfl rfl rfl rfl rfl

theorem readies_remember (g : SlotRef) (lane : Nat) (a : DWord) (x : Xlat) (s : State) : Readies g s (s.remember g lane a x) := by
  have hpages : ∀ p, Readies g s (s.modGrp g (fun h => { h with pages := h.pages.ins lane p })) := fun p =>
    ⟨⟨rfl, rfl, by simp [State.names, State.modGrp, keys_upd], rfl, rfl, rfl,
      get_upd_view s.groups Group.empty g.key g.key _ Group.file (fun _ => rfl),
      fun i => get_upd_view s.groups Group.empty g.key g.key _ (fun x : Group => (x.ctx i).stop) (fun _ => rfl),
      fun k hne => by simp [State.grp, State.modGrp, SMap.get, SMap.look_upd_ne _ _ _ _ hne], fun _ => rfl, fun _ => rfl⟩,
     Unpaid.of_teams rfl⟩
  unfold State.remember
  dsimp only
  split
  · exact (hpages _).trans (readies_count g _ _ _ _)
  · split
    · exact (hpages _).trans (Readies.of_same rfl rfl rfl rfl rfl rfl rfl rfl)
    · exact (hpages _).trans (Readies.of_same rfl rfl rfl rfl rfl rfl rfl rfl)

theorem readies_lookup (g : SlotRef) (lane : Nat) (a : DWord) (s : State) : Readies g s (s.lookup g lane a) := by
  unfold State.lookup
  split
  · exact readies_remember g lane a _ s
  · exact Readies.refl g s

theorem readies_rememberAll {s : State} (hp : s.me.isPlain = true) (cs : List LaneCheck) :
    Readies s.cur.g s (s.rememberAll s.cur.g cs) := by
  unfold State.rememberAll
  refine Readies.foldl (fun u c _ _ => ?_) cs rfl hp
  split
  · exact readies_remember _ _ _ _ u
  · exact readies_lookup _ _ _ u
  · exact Readies.refl _ u

/-- t is s but for counts of the cores. -/
structure Counted (s t : State) : Prop where
  quiet : Quiet s t
  groups : t.groups = s.groups
  teams : t.teams = s.teams
  tasks : t.tasks = s.tasks

theorem Counted.refl (s : State) : Counted s s := ⟨Quiet.refl s, rfl, rfl, rfl⟩

theorem Counted.trans {s t u : State} (a : Counted s t) (b : Counted t u) : Counted s u :=
  ⟨a.quiet.trans b.quiet, b.groups.trans a.groups, b.teams.trans a.teams, b.tasks.trans a.tasks⟩

theorem Counted.foldl {α : Type} {f : State → α → State} (h : ∀ s x, Counted s (f s x)) (xs : List α) (s : State) :
    Counted s (xs.foldl f s) := by
  induction xs generalizing s with
  | nil => exact Counted.refl s
  | cons x r ih => exact (h s x).trans (ih _)

theorem Counted.readies {g : SlotRef} {s t : State} (h : Counted s t) : Readies g s t :=
  ⟨Cached.of_quiet h.quiet (fun i => by unfold State.grp; rw [h.groups]), Unpaid.of_teams h.teams⟩

theorem counted_countBanks (xs : List Span) (s : State) : Counted s (s.countBanks xs) := by
  unfold State.countBanks
  refine Counted.foldl (fun u k => ?_) _ s
  dsimp only
  split
  · exact Counted.refl u
  · exact ⟨quiet_count u _ _ _, rfl, rfl, rfl⟩

theorem zeroBack_same (line : Nat) (s : State) : (s.zeroBack line).tick = s.tick ∧ (s.zeroBack line).mordant = s.mordant := by
  unfold State.zeroBack
  split <;> exact ⟨rfl, rfl⟩

theorem recallLine_same (keep : Option Nat) (line : Nat) (s : State) :
    (s.recallLine keep line).tick = s.tick ∧ (s.recallLine keep line).mordant = s.mordant := by
  unfold State.recallLine
  dsimp only
  split
  · exact zeroBack_same _ _
  · exact ⟨rfl, rfl⟩

theorem readies_recallLine (g : SlotRef) (keep : Option Nat) (line : Nat) (s : State) : Readies g s (s.recallLine keep line) :=
  Readies.of_same (by simp) (recallLine_same keep line s).1 (by simp) (by simp) (by simp) (by simp) (by simp) (recallLine_same keep line s).2

/-- A line that a plain slot pays for moves no instruction counter that stands where counters end. -/
theorem readies_chargeAt {s : State} {g h : SlotRef} (hp : (s.grp h).isPlain = true) (nt : Int) : Readies g s (s.chargeAt h 0 nt) := by
  have hgroups : (s.chargeAt h 0 nt).groups = s.groups := by
    unfold State.chargeAt
    dsimp only
    split
    · split <;> rfl
    · rfl
  refine ⟨Cached.of_quiet (quiet_chargeAt s h 0 nt) (fun i => by unfold State.grp; rw [hgroups]), fun k hk => ?_⟩
  have hteam : (s.chargeAt h 0 nt).team k = (s.chargeTeam (s.grp h).team 0 nt).team k := by
    unfold State.chargeAt
    dsimp only
    split
    · rename_i hc
      exact absurd hc (Group.isPlain_kind hp _)
    · rfl
  rw [hteam]
  unfold State.chargeTeam State.modTeam State.team SMap.get
  dsimp only
  rw [SMap.look_upd]
  split
  · rename_i he
    rw [he] at hk
    unfold State.team SMap.get at hk
    cases hl : s.teams.look (s.grp h).team with
    | none => rw [he, hl]; rfl
    | some m =>
      rw [hl] at hk
      rw [he, hl]
      simpa using hk
  · rfl

theorem readies_draw (g : SlotRef) (s : State) : Readies g s s.draw := Readies.of_same rfl rfl rfl rfl rfl rfl rfl rfl

theorem readies_loadLine {s : State} (hp : s.me.isPlain = true) (line : Nat) : Readies s.cur.g s (s.loadLine line) := by
  have key : ∀ (u : State) (c : CoreRef) (f : Core → Core) (keep : Option Nat), (u.grp s.cur.g).isPlain = true →
      Readies s.cur.g u (((u.modCore c f).recallLine keep line).chargeAt s.cur.g 0 64) := fun u c f keep hu =>
    (Readies.of_same rfl rfl rfl rfl rfl rfl rfl rfl : Readies s.cur.g u (u.modCore c f)).trans
      ((readies_recallLine _ keep line _).trans
        (readies_chargeAt (by unfold State.grp at hu ⊢; rw [State.recallLine_groups]; exact hu) 64))
  unfold State.loadLine
  dsimp only
  split
  · rename_i hc
    exact absurd hc (Group.isPlain_kind hp _)
  · have hdraw : Readies s.cur.g s (if (s.core s.cur.g.coreRef).l1.elem line then s.draw else s) := by
      split
      · exact readies_draw _ s
      · exact Readies.refl _ s
    generalize (if (s.core s.cur.g.coreRef).l1.elem line then s.draw else s) = u at hdraw ⊢
    split
    · exact (hdraw.trans (readies_count s.cur.g u _ _ _)).trans (key _ _ _ _ (hdraw.1.isPlain.trans hp))
    · exact hdraw.trans (readies_count s.cur.g u _ _ _)

/-- The lines of a load, each kept or filled. -/
theorem readies_loadLines {s : State} (hp : s.me.isPlain = true) (ls : List Nat) :
    Readies s.cur.g s (ls.foldl (fun s x => s.loadLine x) s) := by
  refine Readies.foldl (fun u x hu hup => ?_) ls rfl hp
  rw [← hu] at hup ⊢
  exact readies_loadLine hup x

/-! ## The instruction that issues, behind such steps -/

theorem Cached.hasGrp {g : SlotRef} {s t : State} (h : Cached g s t) (k : SlotRef) : t.hasGrp k = s.hasGrp k := by
  unfold State.hasGrp
  rw [look_isSome, look_isSome, show t.groups.keys = s.groups.keys from congrArg Prod.fst h.names]

theorem look_ctx_of_file {x y : Group} (e : x.file = y.file) (i : Nat) : (x.ctxs.look i).isSome = (y.ctxs.look i).isSome :=
  look_ctx_of_bare (x := { x with pages := [] }) (y := { y with pages := [] }) e i

theorem ctx_bare_of_file {x y : Group} (e : x.file = y.file) (i : Nat) : (x.ctx i).bare = (y.ctx i).bare := by
  have view : ∀ g : Group, SMap.get g.file.ctxs Context.empty.bare i = (g.ctx i).bare := fun g => by
    show ((SMap.look (g.ctxs.map (fun e => (e.1, e.2.bare))) i).getD _) = _
    rw [SMap.look_mapVals g.ctxs (fun _ c => c.bare) i]
    unfold Group.ctx SMap.get
    cases g.ctxs.look i <;> rfl
  rw [← view, ← view, e]

section
variable {s t : State} (h : Cached s.cur.g s t)
include h

theorem Cached.me : t.me.file = s.me.file := by
  unfold State.me
  rw [h.cur]
  exact h.here

theorem Cached.ctx : t.ctx.bare = s.ctx.bare := by
  unfold State.ctx
  rw [h.cur]
  exact ctx_bare_of_file h.me _

theorem Cached.active : t.active = s.active := by
  have hp0 : t.ctx.p0 = s.ctx.p0 := (congrArg Context.p0 h.ctx :)
  have hpred : t.ctx.pred = s.ctx.pred := (congrArg Context.pred h.ctx :)
  unfold State.active
  rw [hp0, hpred]

theorem Cached.team_me : t.me.team = s.me.team := Group.eq_of_file Group.team (fun _ => rfl) h.me
theorem Cached.task_me : t.me.task = s.me.task := Group.eq_of_file Group.task (fun _ => rfl) h.me

theorem Cached.plain (hp : s.plain = true) : t.plain = true := by
  simp only [State.plain, State.placed, State.here, State.hasCtx, Bool.and_eq_true] at hp ⊢
  obtain ⟨⟨⟨hctx, hteam⟩, htask⟩, hplain⟩ := hp
  rw [look_isSome] at hteam htask
  rw [h.team_me, h.task_me, look_isSome t.teams, look_isSome t.tasks, show t.teams.keys = s.teams.keys from congrArg (·.2.1) h.names,
    show t.tasks.keys = s.tasks.keys from congrArg (·.2.2) h.names, h.cur]
  refine ⟨⟨⟨(look_ctx_of_file h.here _).trans hctx, hteam⟩, htask⟩, ?_⟩
  unfold State.me at hplain ⊢
  rw [h.cur]
  exact h.isPlain.trans hplain

end

end Sys2Proof.Machine


/-! # Accesses that issue, that have nothing to do, and that are held (02 R24, R25, 08 R149, R150) -/

namespace Sys2Proof.Machine

/-! ## An access that issues -/

/-- What the view shows, it shows without the last pages too. -/
theorem Respects.file {f : Group → Group} (hf : Respects f) (hpages : ∀ x : Group, f { x with pages := [] } = { f x with pages := [] })
    {x y : Group} (e : x.file = y.file) : (f x).file = (f y).file := by
  have h : (f { x with pages := [] }).bare = (f { y with pages := [] }).bare := hf _ _ e
  rw [hpages, hpages] at h
  exact h

theorem addOp_pages (o : Op) (x : Group) : ({ x with pages := [] } : Group).addOp o = { x.addOp o with pages := [] } := by
  unfold Group.addOp Group.raiseFlag
  cases o.flag <;> rfl

/-- An access that issues behind what its checks have left. -/
theorem issuesAccess_of {s s1 : State} {i : Instr} {flag : Option Nat} {obs : BitVec 7} {k : OpKind} (hp : s.plain = true)
    (h : Cached s.cur.g s s1) (hk : k.pendingLanes ≠ 0)
    (he : exec i s = .next (((s1.charge 1).issueOp (s.newOp flag obs k)).advance 4)) : IssuesAccess i flag obs k s := by
  obtain ⟨honly, -, hruns⟩ := issueOp_charged 1 (o := s.newOp flag obs k) (h.plain hp) hk
  generalize ((s1.charge 1).issueOp (s.newOp flag obs k)).advance 4 = t at he honly hruns
  rw [h.cur] at honly
  have hfile : (t.grp s.cur.g).file = ((s.me.addOp (s.newOp flag obs k)).goOn s.cur.i 4).file :=
    (congrArg (fun g : Group => { g with pages := [] }) honly.here).trans
      (((respects_addOp _).comp (Respects.goOn _ _)).file (fun x => by rw [addOp_pages]; rfl) h.here)
  refine ⟨t, he, honly.names.trans h.names, (congrArg State.mem honly.rest :).trans h.mem, (congrArg State.io honly.rest :).trans h.io,
    (congrArg State.mordant honly.rest :).trans h.mordant, fun hr => ?_, fun k hn => (honly.others k hn).trans (h.others k hn),
    fun n => (honly.teams n).trans (h.teams n), fun n => (honly.tasks n).trans (h.tasks n), hfile⟩
  unfold RunsOn State.ctx State.me at hruns
  rw [h.cur] at hruns
  exact hruns ((h.stops _).trans hr)

/-- A store, or an access of constants, that issues: only cores' counts have changed before. -/
theorem issues_counted {s s1 : State} {i : Instr} {flag : Option Nat} {obs : BitVec 7} {k : OpKind} (hp : s.plain = true)
    (h : Counted s s1) (hk : k.pendingLanes ≠ 0)
    (he : exec i s = .next (((s1.charge 1).issueOp (s.newOp flag obs k)).advance 4)) : Issues i 1 0 flag obs k s := by
  obtain ⟨honly, hpaid, hruns⟩ := issueOp_after (n := 1) (o := s.newOp flag obs k) hp h.quiet h.groups h.teams h.tasks hk
  exact ⟨_, he, honly, hpaid, hruns⟩

/-! ## An access of no lane (09 R162) -/

/-- The flag counts the operation and no longer counts it. -/
def Group.touchFlag (f : Option Nat) (g : Group) : Group := (g.raiseFlag f).clearFlag f

theorem touchFlag_flags (f : Option Nat) (g : Group) : g.touchFlag f = { g with flags := (g.touchFlag f).flags } := by
  cases f <;> rfl

theorem flag_touchFlag (f : Option Nat) (g : Group) (k : Nat) : (g.touchFlag f).flag k = g.flag k := by
  cases f with
  | none => rfl
  | some n =>
    unfold Group.touchFlag Group.clearFlag
    dsimp only
    rw [Group.flag_modFlag, Group.flag_raiseFlag, Group.flag_raiseFlag, if_pos rfl]
    split
    · rename_i hk
      rw [hk]
      rfl
    · rfl

theorem respects_touchFlag (f : Option Nat) : Respects (Group.touchFlag f) := Respects.of_comm (fun g => by cases f <;> rfl)

theorem runsEmpty_of {s s1 : State} {i : Instr} {flag : Option Nat} {obs : BitVec 7} {k : OpKind} (hp : s.plain = true)
    (h : Counted s s1) (hk : k.pendingLanes = 0)
    (he : exec i s = .next (((s1.charge 1).issueOp (s.newOp flag obs k)).advance 4)) : RunsEmpty i s := by
  have hstart : (fun g : Group => (g.raiseFlag flag).startOp (s.newOp flag obs k)) = Group.touchFlag flag :=
    funext (fun g => if_pos hk)
  have hissue : (s1.charge 1).issueOp (s.newOp flag obs k) = ((s1.charge 1).modMe (Group.touchFlag flag)).fresh := by
    rw [← hstart]
    rfl
  rw [hissue, State.advance_fresh] at he
  obtain ⟨honly, hpaid, -⟩ := runs_after 1 4 (respects_touchFlag flag) (fun g => by rw [touchFlag_flags]; rfl) hp h.quiet h.groups h.teams h.tasks
  generalize ((s1.charge 1).modMe (Group.touchFlag flag)).advance 4 = t at he honly hpaid
  have hflags : (t.grp s.cur.g).flags = (s.me.touchFlag flag).flags := (congrArg Group.flags honly.here :)
  refine ⟨t.fresh, he, hpaid, (only_quiet honly (quiet_fresh t)).congr ?_, fun f => ?_⟩
  · show ((s.me.touchFlag flag).goOn s.cur.i 4).bare = (({ s.me with flags := (t.grp s.cur.g).flags } : Group).goOn s.cur.i 4).bare
    rw [hflags, ← touchFlag_flags]
  · rw [← flag_touchFlag flag s.me f]
    unfold Group.flag
    exact congrArg (fun m => SMap.get m ⟨0, none⟩ f) hflags

/-! ## The collection of trapping lanes (08 R150) -/

/-- The lanes that a collection holds. -/
def Collect.all (k : Collect) : List Origin := k.lanes ++ k.ready.flatten

theorem insOrigin_perm (x : Origin) (l : List Origin) : (insOrigin x l).Perm (x :: l) := by
  induction l with
  | nil => exact List.Perm.refl _
  | cons y r ih =>
    unfold insOrigin
    split
    · exact List.Perm.refl _
    · exact (ih.cons y).trans (List.Perm.swap x y r)

theorem foldl_insOrigin_perm (xs l : List Origin) : (xs.foldl (fun l x => insOrigin x l) l).Perm (l ++ xs) := by
  induction xs generalizing l with
  | nil => rw [List.append_nil]; exact List.Perm.refl _
  | cons x r ih =>
    refine (ih _).trans (((insOrigin_perm x l).append_right r).trans ?_)
    exact List.perm_middle.symm

theorem Collect.settle_perm (k : Collect) (tick : Nat) : (k.settle tick).all.Perm k.all := by
  unfold Collect.settle
  split
  · show ([] ++ (k.ready ++ [k.lanes]).flatten).Perm _
    rw [List.nil_append, List.flatten_append, List.flatten_singleton]
    exact List.perm_append_comm
  · exact List.Perm.refl _

/-- A collection keeps what it holds and takes the lanes that come. -/
theorem Collect.add_perm (k : Collect) (tick : Nat) (xs : List Origin) : (k.add tick xs).all.Perm (k.all ++ xs) := by
  refine List.Perm.trans ?_ ((Collect.settle_perm k tick).append_right xs)
  unfold Collect.add
  dsimp only
  generalize k.settle tick = k1
  have hall := foldl_insOrigin_perm xs k1.lanes
  generalize xs.foldl (fun l x => insOrigin x l) k1.lanes = ls at hall
  have hgoal : (ls ++ k1.ready.flatten).Perm (k1.all ++ xs) := by
    refine (hall.append_right _).trans ?_
    unfold Collect.all
    rw [List.append_assoc, List.append_assoc]
    exact List.perm_append_comm.append_left _
  split
  · refine List.Perm.trans ?_ hgoal
    show (ls.drop 32 ++ (k1.ready ++ [ls.take 32]).flatten).Perm _
    rw [List.flatten_append, List.flatten_singleton]
    refine List.perm_append_comm.trans ?_
    rw [List.append_assoc, List.take_append_drop]
    exact List.perm_append_comm
  · exact hgoal

end Sys2Proof.Machine


/-! # An access that is held for the lane handler (08 R149, R150, 09 R160) -/

namespace Sys2Proof.Machine

/-! ## The group that holds -/

/-- A group whose operation is outstanding and waits. -/
def Group.gate (o : Op) (g : Group) : Group := { g.raiseFlag o.flag with ops := g.ops ++ [{ o with gate := true }] }

theorem gate_eq (o : Op) (g : Group) : g.gate o = { g with flags := (g.raiseFlag o.flag).flags, ops := g.ops ++ [{ o with gate := true }] } := by
  unfold Group.gate Group.raiseFlag
  cases o.flag <;> rfl

theorem State.gateOp_eq (o : Op) (s : State) : s.gateOp o = (s.modMe (Group.gate o)).fresh := rfl

/-- A group of which context i has issued an instruction of 4 bytes in cycle k and is held with h. -/
def Group.holding (i k : Nat) (o : Op) (h : Held) (g : Group) : Group :=
  let g1 := (g.gate o).modCtx i (Context.issued 4 k)
  ({ g1 with held := g1.held.ins i h } : Group).modCtx i (fun c => { c with stop := .laneTrap })

/-- Outside its handler, a group of a task with a lane handler holds (07 R128). -/
theorem State.holdLanes_held {s : State} {h : Held} (hk : s.me.kind = .group) (hh : s.me.handler = none)
    (hl : (s.task s.me.task).l.lanehnd ≠ 0) :
    s.holdLanes h = (((s.modMe (fun g => { g with held := g.held.ins s.cur.i h })).modCtx (fun c => { c with stop := .laneTrap }))).collectLanes s.cur h := by
  unfold State.holdLanes
  dsimp only
  rw [hk, hh, if_neg (by simp), if_pos hl]

theorem gate_holds_eq (s : State) (o : Op) (h : Held) :
    ((((s.gateOp o).advance 4).modMe (fun g => { g with held := g.held.ins s.cur.i h })).modCtx (fun c => { c with stop := .laneTrap })) =
      (s.modMe (Group.holding s.cur.i s.tick o h)).fresh := by
  have hfresh : ∀ (u : State) (f : Group → Group), u.fresh.modMe f = (u.modMe f).fresh := fun _ _ => rfl
  rw [State.gateOp_eq, State.advance_fresh, hfresh, State.modCtx, hfresh, State.advance_eq]
  simp only [State.modMe_modMe]
  rfl

theorem me_gateOp {s : State} (hg : s.hasGrp s.cur.g = true) (o : Op) :
    ((s.gateOp o).advance 4).me = (s.me.gate o).modCtx s.cur.i (Context.issued 4 s.tick) := by
  have hgate : (s.gateOp o).me = s.me.gate o := State.me_modMe hg (Group.gate o)
  have hhas : (s.gateOp o).hasGrp (s.gateOp o).cur.g = true := (State.hasGrp_modGrp _ _ _ _).trans hg
  rw [State.me_advance hhas, hgate]
  rfl

/-- A group that issues an operation which waits, and holds. -/
theorem gate_holdLanes {s : State} (hg : s.hasGrp s.cur.g = true) (hk : s.me.kind = .group) (hh : s.me.handler = none)
    (hl : (s.task s.me.task).l.lanehnd ≠ 0) (o : Op) (h : Held) :
    ((s.gateOp o).advance 4).holdLanes h = ((s.modMe (Group.holding s.cur.i s.tick o h)).fresh).collectLanes s.cur h := by
  have hme := me_gateOp hg o
  rw [gate_eq] at hme
  rw [State.holdLanes_held (by rw [hme]; exact hk) (by rw [hme]; exact hh) (by rw [hme]; exact hl), ← gate_holds_eq]
  rfl

/-- The trap of a lane's failed check, as the instruction holds it. -/
def laneTrapOf (l : Nat) (x : Nat × Nat × Word × Word) : LaneTrap := ⟨l, x.1, x.2.1, x.2.2.1, x.2.2.2, false, none, false⟩

/-- The traps of the lanes of a group. -/
def lanesTrapping (trap : Nat → Option (Nat × Nat × Word × Word)) : List LaneTrap :=
  (List.range 32).filterMap (fun l => (trap l).map (laneTrapOf l))

theorem mem_lanesTrapping {trap : Nat → Option (Nat × Nat × Word × Word)} {tr : LaneTrap} :
    tr ∈ lanesTrapping trap ↔ ∃ l x, l < 32 ∧ trap l = some x ∧ tr = laneTrapOf l x := by
  unfold lanesTrapping
  rw [List.mem_filterMap]
  constructor
  · rintro ⟨l, hl, ht⟩
    obtain ⟨x, hx, rfl⟩ := Option.map_eq_some_iff.mp ht
    exact ⟨l, x, List.mem_range.mp hl, hx, rfl⟩
  · rintro ⟨l, x, hl, hx, rfl⟩
    exact ⟨l, List.mem_range.mpr hl, by rw [hx]; rfl⟩

theorem lane_lanesTrapping (trap : Nat → Option (Nat × Nat × Word × Word)) (l : Nat) :
    (∃ tr ∈ lanesTrapping trap, tr.lane = l) ↔ l < 32 ∧ (trap l).isSome = true := by
  constructor
  · rintro ⟨tr, htr, rfl⟩
    obtain ⟨k, x, hk, hx, rfl⟩ := mem_lanesTrapping.mp htr
    exact ⟨hk, by show (trap k).isSome = true; rw [hx]; rfl⟩
  · rintro ⟨hl, hs⟩
    obtain ⟨x, hx⟩ := Option.isSome_iff_exists.mp hs
    exact ⟨laneTrapOf l x, mem_lanesTrapping.mpr ⟨l, x, hl, hx, rfl⟩, rfl⟩

theorem length_lanesTrapping (trap : Nat → Option (Nat × Nat × Word × Word)) :
    (lanesTrapping trap).length = ((List.range 32).filter (fun l => (trap l).isSome)).length := by
  unfold lanesTrapping
  generalize List.range 32 = ls
  induction ls with
  | nil => rfl
  | cons l r ih =>
    rw [List.filterMap_cons, List.filter_cons]
    cases trap l with
    | none => exact ih
    | some x => exact congrArg (· + 1) ih

/-! ### What the group shows then -/

section
variable (i k : Nat) (o : Op) (h : Held) (g : Group)

theorem holding_registers : (g.holding i k o h).v = g.v ∧ (g.holding i k o h).q = g.q ∧ (g.holding i k o h).o = g.o ∧
    (g.holding i k o h).p = g.p ∧ (g.holding i k o h).fpflags = g.fpflags ∧ (g.holding i k o h).team = g.team ∧
    (g.holding i k o h).gen = g.gen := by
  unfold Group.holding
  rw [gate_eq]
  exact ⟨rfl, rfl, rfl, rfl, rfl, rfl, rfl⟩

theorem holding_held : (g.holding i k o h).held.look i = some h := by
  show (SMap.ins _ i h).look i = some h
  rw [SMap.look_ins, if_pos rfl]

theorem holding_ops : (g.holding i k o h).ops = g.ops ++ [{ o with gate := true }] := rfl

theorem holding_count (f : Nat) :
    ((g.holding i k o h).flag f).count = (g.flag f).count + (if o.flag = some f then 1 else 0) := by
  show ((g.raiseFlag o.flag).flag f).count = _
  cases o.flag with
  | none => simp
  | some n =>
    rw [Group.flag_raiseFlag]
    by_cases hf : f = n
    · simp [hf]
    · simp [hf, Ne.symm hf]

theorem holding_ctx (hin : (g.ctxs.look i).isSome = true) :
    (g.holding i k o h).ctx i = { (g.ctx i).issued 4 k with stop := .laneTrap } := by
  have hctxs : (g.gate o).ctxs = g.ctxs := by rw [gate_eq]
  have hin1 : ((g.gate o).modCtx i (Context.issued 4 k)).ctxs.look i ≠ none := by
    rw [← Option.isSome_iff_ne_none, look_ctx_modCtx, hctxs]
    exact hin
  have hin0 : (g.gate o).ctxs.look i ≠ none := by
    rw [← Option.isSome_iff_ne_none, hctxs]
    exact hin
  unfold Group.holding
  dsimp only
  rw [Group.ctx_modCtx, if_neg hin1]
  show ({ ((g.gate o).modCtx i (Context.issued 4 k)).ctx i with stop := .laneTrap } : Context) = _
  rw [Group.ctx_modCtx, if_neg hin0]
  unfold Group.ctx
  rw [hctxs]

end

/-! ## What holding leaves -/

section
variable {s s1 : State} (hp : s.plain = true) (h : Cached s.cur.g s s1)
include hp h

/-- The collection of the team after the lanes of a held instruction have joined it. -/
theorem collection_collectLanes (f : Group → Group) (hd : Held) (hteam : ∀ g, (f g).team = g.team) (hgen : ∀ g, (f g).gen = g.gen) :
    (((s1.modMe f).fresh.collectLanes s1.cur hd).collection s.me.team (clusterKey s.cur.g)) =
      (s.collection s.me.team (clusterKey s.cur.g)).add s.tick
        (hd.traps.map (fun t => ⟨s.cur.g, s.me.gen, s.cur.i, t.lane, min 4 hd.width, s.tick, laneRegs s.cur.g s.me.gen hd t⟩)) := by
  have hme : (s1.modMe f).fresh.grp s1.cur.g = f s1.me := State.me_modMe (plain_hasGrp (h.plain hp)) f
  have hlook : ((s1.modMe f).fresh.teams.look s.me.team).isSome = true := by
    have hs := plain_team (h.plain hp)
    rw [h.team_me] at hs
    exact hs
  have hcol : (s1.team s.me.team).collect = s.myTeam.collect := (congrArg Team.collect (h.teams s.me.team) :)
  have hg : s1.me.gen = s.me.gen := Group.eq_of_file Group.gen (fun _ => rfl) h.me
  have htick : (s1.modMe f).fresh.tick = s.tick := h.tick
  unfold State.collection State.collectLanes
  dsimp only
  rw [htick, hme, hteam, hgen, h.team_me, State.team_modTeam _ _ _ _ hlook, if_pos rfl, h.cur, hg]
  show SMap.get (SMap.ins (s1.team s.me.team).collect _ (Collect.add (SMap.get (s1.team s.me.team).collect _ _) s.tick _)) _ _ = _
  rw [hcol]
  unfold SMap.get
  rw [SMap.look_ins, if_pos rfl]
  rfl

omit hp in
/-- What an instruction holds behind its checks is what it would have held before them. -/
theorem heldMem_cached (traps : List LaneTrap) (dest width op : Nat) (o : Op) :
    heldMem s1 traps dest width op o = heldMem s traps dest width op o := by
  have hpc : s1.ctx.pc = s.ctx.pc := (congrArg Context.pc h.ctx :)
  have hclause : s1.ctx.clause = s.ctx.clause := (congrArg Context.clause h.ctx :)
  have hidx : s1.ctx.idx = s.ctx.idx := (congrArg Context.idx h.ctx :)
  unfold heldMem
  rw [h.active, hpc, hclause, hidx]

end

/-- A cause and a class that the trap descriptor has room for. -/
def FitsDescriptor (trap : Nat → Option (Nat × Nat × Word × Word)) : Prop := ∀ l x, trap l = some x → x.1 < 256 ∧ x.2.1 < 4

theorem laneRegs_heldMem {s : State} {traps : List LaneTrap} {dest width op : Nat} {o : Op} {l : Nat} {x : Nat × Nat × Word × Word}
    (hx : x.1 < 256 ∧ x.2.1 < 4) (hop : op < 128) (hcode : widthCode width = if width = 4 then 3 else width) :
    laneRegs s.cur.g s.me.gen (heldMem s traps dest width op o) (laneTrapOf l x) =
      [(s.handle s.cur.g).setWidth 32, x.2.2.1, x.2.2.2,
        BitVec.ofNat 32 ((if width = 4 then 3 else width) * 2 ^ 21 + 4 * 2 ^ 17 + op * 2 ^ 10 + x.2.1 * 2 ^ 8 + x.1),
        BitVec.ofNat 32 (s.ctx.idx % 16 * 2 ^ 8 + l), s.ctx.clause.setWidth 32, (s.ctx.clause >>> 32).setWidth 32] := by
  have hdesc : trapDescriptor (heldMem s traps dest width op o) (laneTrapOf l x) =
      BitVec.ofNat 32 ((if width = 4 then 3 else width) * 2 ^ 21 + 4 * 2 ^ 17 + op * 2 ^ 10 + x.2.1 * 2 ^ 8 + x.1) := by
    show BitVec.ofNat 32 (widthCode width * 2 ^ 21 + 0 + 4 * 2 ^ 17 + op % 128 * 2 ^ 10 + x.2.1 % 4 * 2 ^ 8 + x.1 % 256) = _
    rw [hcode, Nat.mod_eq_of_lt hop, Nat.mod_eq_of_lt hx.1, Nat.mod_eq_of_lt hx.2, Nat.add_zero]
  unfold laneRegs
  rw [hdesc]
  rfl

/-- The lanes of a held memory instruction have joined the collection (08 R150). -/
theorem collected_of {s t : State} {trap : Nat → Option (Nat × Nat × Word × Word)} {dest width op : Nat} {o : Op}
    (hfit : FitsDescriptor trap) (hop : op < 128) (hmin : width ≤ 4) (hcode : widthCode width = if width = 4 then 3 else width)
    (hcol : t.collection s.me.team (clusterKey s.cur.g) = (s.collection s.me.team (clusterKey s.cur.g)).add s.tick
      ((lanesTrapping trap).map (fun tr => ⟨s.cur.g, s.me.gen, s.cur.i, tr.lane, min 4 width, s.tick,
        laneRegs s.cur.g s.me.gen (heldMem s (lanesTrapping trap) dest width op o) tr⟩))) :
    Collected s t width (if width = 4 then 3 else width, 4, op) trap := by
  have hperm := Collect.add_perm (s.collection s.me.team (clusterKey s.cur.g)) s.tick
    ((lanesTrapping trap).map (fun tr => ⟨s.cur.g, s.me.gen, s.cur.i, tr.lane, min 4 width, s.tick,
        laneRegs s.cur.g s.me.gen (heldMem s (lanesTrapping trap) dest width op o) tr⟩))
  rw [← hcol] at hperm
  refine ⟨fun l x hl hx => ?_, fun y hy => ?_, ?_⟩
  · refine hperm.mem_iff.mpr (List.mem_append_right _ (List.mem_map.mpr ⟨laneTrapOf l x, mem_lanesTrapping.mpr ⟨l, x, hl, hx, rfl⟩, ?_⟩))
    rw [laneRegs_heldMem (hfit l x hx) hop hcode, Nat.min_eq_right hmin]
    rfl
  · exact hperm.mem_iff.mpr (List.mem_append_left _ hy)
  · rw [← length_lanesTrapping, ← List.length_map (as := lanesTrapping trap), ← List.length_append]
    exact hperm.length_eq

/-- A memory instruction of which a lane fails its checks (08 R149, 09 R160). -/
theorem holdsAccess_of {s s1 : State} {i : Instr} {op width dest : Nat} {flag : Option Nat} {set : BitVec 7} {k : OpKind}
    {trap : Nat → Option (Nat × Nat × Word × Word)} (hp : s.plain = true) (h : Readies s.cur.g s s1) (hfit : FitsDescriptor trap)
    (hop : op < 128) (hmin : width ≤ 4) (hcode : widthCode width = if width = 4 then 3 else width)
    (he : exec i s = .next (issueOrHold (s.newOp flag set k) (lanesTrapping trap) dest width op s1)) :
    HoldsAccess i op width flag set k trap s := by
  intro hk hh hl hsome
  obtain ⟨hc1, hunpaid⟩ := h
  have hpaid : ((s1.charge 1).team s1.me.team).ci = sat64 ((s1.team s1.me.team).ci - 1) := (charge_pays s1 1 (hc1.plain hp)).1
  rw [hc1.team_me] at hpaid
  have hc : Cached s.cur.g s (s1.charge 1) :=
    hc1.trans (Cached.of_quiet (quiet_charge s1 1) (fun j => by unfold Group.ctx; rw [ctxs_charge]))
  have hnil : lanesTrapping trap ≠ [] := fun hnil => by
    obtain ⟨tr, htr, -⟩ := (lane_lanesTrapping trap _).mpr hsome.choose_spec
    rw [hnil] at htr
    cases htr
  rw [issueOrHold, if_neg hnil, heldMem_cached hc1] at he
  generalize hhd : heldMem s (lanesTrapping trap) dest width op (s.newOp flag set k) = hd at he
  generalize s1.charge 1 = s3 at hc hpaid he
  have hg3 : s3.hasGrp s3.cur.g = true := plain_hasGrp (hc.plain hp)
  have htask : (s3.task s.me.task).l = s.myTask.l := (congrArg Task.l (hc.tasks s.me.task) :)
  rw [gate_holdLanes hg3 ((Group.eq_of_file Group.kind (fun _ => rfl) hc.me).trans hk)
    ((Group.eq_of_file Group.handler (fun _ => rfl) hc.me).trans hh) (by rw [hc.task_me, htask]; exact hl)] at he
  have hgrp : ∀ g : SlotRef, (((s3.modMe (Group.holding s3.cur.i s3.tick (s.newOp flag set k) hd)).fresh).collectLanes s3.cur hd).grp g =
      if g.key = s.cur.g.key then s3.me.holding s.cur.i s.tick (s.newOp flag set k) hd else s3.grp g := fun g => by
    rw [← hc.cur, ← hc.tick]
    exact State.grp_modGrp s3 s3.cur.g g _ hg3
  have hcol := collection_collectLanes hp hc (Group.holding s3.cur.i s3.tick (s.newOp flag set k) hd) hd
    (fun g => (holding_registers _ _ _ _ g).2.2.2.2.2.1) (fun g => (holding_registers _ _ _ _ g).2.2.2.2.2.2)
  have hci : ((((s3.modMe (Group.holding s3.cur.i s3.tick (s.newOp flag set k) hd)).fresh).collectLanes s3.cur hd).team s.me.team).ci =
      (s3.team s.me.team).ci := get_upd_view s3.teams Team.empty _ s.me.team _ Team.ci (fun _ => rfl)
  have hmem : (((s3.modMe (Group.holding s3.cur.i s3.tick (s.newOp flag set k) hd)).fresh).collectLanes s3.cur hd).mem = s.mem := hc.mem
  generalize ((s3.modMe (Group.holding s3.cur.i s3.tick (s.newOp flag set k) hd)).fresh).collectLanes s3.cur hd = t at he hgrp hcol hci hmem
  have hu : t.grp s.cur.g = s3.me.holding s.cur.i s.tick (s.newOp flag set k) hd := (hgrp _).trans (if_pos rfl)
  obtain ⟨hv, hq, ho, hpr, hfp, -, -⟩ := holding_registers s.cur.i s.tick (s.newOp flag set k) hd s3.me
  have hin : (s3.me.ctxs.look s.cur.i).isSome = true := (look_ctx_of_file hc.me _).trans (plain_here hp)
  have hctx := holding_ctx s.cur.i s.tick (s.newOp flag set k) hd s3.me hin
  have hpc : (s3.me.ctx s.cur.i).pc = s.ctx.pc := (congrArg Context.pc (ctx_bare_of_file hc.me s.cur.i) :)
  refine ⟨t, hd, he, fun hsat => ?_, ?_⟩
  · rw [hci, hpaid, hunpaid _ hsat]
    rfl
  rw [← hu] at hv hq ho hpr hfp hctx
  refine ⟨by rw [hu]; exact holding_held _ _ _ _ _, by rw [← hhd]; rfl, by rw [← hhd]; rfl, by rw [← hhd]; rfl,
    by rw [← hhd]; exact lane_lanesTrapping trap, ?_, fun f => ?_, by rw [hctx], by rw [hctx, ← hpc]; rfl,
    hv.trans (Group.eq_of_file Group.v (fun _ => rfl) hc.me), hq.trans (Group.eq_of_file Group.q (fun _ => rfl) hc.me),
    ho.trans (Group.eq_of_file Group.o (fun _ => rfl) hc.me), hpr.trans (Group.eq_of_file Group.p (fun _ => rfl) hc.me),
    hfp.trans (Group.eq_of_file Group.fpflags (fun _ => rfl) hc.me), hmem,
    fun g hg => by rw [hgrp, if_neg hg]; exact hc.others g hg, ?_⟩
  · rw [hu, holding_ops, Group.eq_of_file Group.ops (fun _ => rfl) hc.me]
  · rw [hu, holding_count, Group.eq_of_file (fun g => (g.flag f).count) (fun _ => rfl) hc.me]
    rfl
  · refine collected_of hfit hop hmin hcode (dest := dest) (o := s.newOp flag set k) ?_
    rw [hhd, hcol, ← hhd]
    rfl

end Sys2Proof.Machine


/-! # The checks of the lanes of a vector access (09 R160) -/

namespace Sys2Proof.Machine

/-- The checks of the lanes of a mask: lane l's address is va l, and its checks answer r l. -/
def laneChecks (m : Word) (va : Nat → DWord) (r : Nat → AccRes) : List LaneCheck := (lanesOf m).map (fun l => ⟨l, va l, r l⟩)

/-- The traps that lanes of a mask take, by what their checks answer. -/
def maskTraps (m : Word) (va : Nat → DWord) (r : Nat → AccRes) (l : Nat) : Option (Nat × Nat × Word × Word) :=
  if inMask m l then failedCheck (va l) (r l) else none

theorem LaneCheck.trap_eq (l : Nat) (a : DWord) (r : AccRes) : LaneCheck.trap ⟨l, a, r⟩ = (failedCheck a r).map (laneTrapOf l) := by
  cases r <;> rfl

theorem failedCheck_fits {a : DWord} {r : AccRes} {x : Nat × Nat × Word × Word} (h : failedCheck a r = some x) : x.1 < 256 ∧ x.2.1 < 4 := by
  have hcause : causeAddr < 256 ∧ causeMisalign < 256 := by decide
  cases r <;> simp only [failedCheck, Option.some.injEq, reduceCtorEq] at h <;> subst h
  · exact ⟨hcause.1, Nat.zero_lt_succ 3⟩
  · exact ⟨hcause.2, Nat.zero_lt_succ 3⟩
  · exact ⟨hcause.1, Nat.zero_lt_succ 3⟩

theorem maskTraps_fits (m : Word) (va : Nat → DWord) (r : Nat → AccRes) : FitsDescriptor (maskTraps m va r) := by
  intro l x hx
  unfold maskTraps at hx
  split at hx
  · exact failedCheck_fits hx
  · cases hx

/-- The traps of the lanes of a mask. -/
theorem filterMap_lanesOf {m : Word} {f : Nat → Option (Nat × Nat × Word × Word)} :
    (lanesOf m).filterMap (fun l => (f l).map (laneTrapOf l)) = lanesTrapping (fun l => if inMask m l then f l else none) := by
  unfold lanesTrapping lanesOf
  rw [List.filterMap_filter]
  congr
  funext l
  dsimp only
  split <;> rfl

section
variable {m : Word} {va : Nat → DWord} {r : Nat → AccRes}

theorem traps_laneChecks : (laneChecks m va r).filterMap LaneCheck.trap = lanesTrapping (maskTraps m va r) := by
  unfold laneChecks maskTraps
  rw [← filterMap_lanesOf, List.filterMap_map]
  congr
  funext l
  exact LaneCheck.trap_eq l (va l) (r l)

theorem accs_laneChecks (data : Nat → List Word) : (laneChecks m va r).filterMap (fun c => c.acc (data c.lane)) =
    (lanesOf m).filterMap (fun l => LaneCheck.acc ⟨l, va l, r l⟩ (data l)) := by
  unfold laneChecks
  rw [List.filterMap_map]
  rfl

theorem leaseFail_laneChecks (h : ∀ l ∈ lanesOf m, r l ≠ .lease) : leaseFail (laneChecks m va r) = none := by
  unfold leaseFail laneChecks
  rw [List.find?_eq_none]
  intro c hc
  obtain ⟨l, hl, rfl⟩ := List.mem_map.mp hc
  simpa using h l hl

theorem migrates_laneChecks (h : ∀ l ∈ lanesOf m, ∀ p, r l ≠ .migrating p) : migrates (laneChecks m va r) = none := by
  unfold migrates laneChecks
  rw [List.head?_eq_none_iff, List.filterMap_eq_nil_iff]
  intro c hc
  obtain ⟨l, hl, rfl⟩ := List.mem_map.mp hc
  have hne := h l hl
  dsimp only
  split
  · rename_i p hp
    exact absurd hp (hne p)
  · rfl

/-- Where every lane passes, none traps, and each has its place. -/
theorem lanesTrapping_pass (h : ∀ l ∈ lanesOf m, ∃ p x, r l = .ok p x) : lanesTrapping (maskTraps m va r) = [] := by
  rw [← traps_laneChecks, laneChecks, List.filterMap_map, List.filterMap_eq_nil_iff]
  intro l hl
  obtain ⟨p, x, hr⟩ := h l hl
  show LaneCheck.trap ⟨l, va l, r l⟩ = none
  rw [hr]
  rfl

theorem filterMap_acc_pass {loc : Nat → Nat} {x : Nat → Option Xlat} (h : ∀ l ∈ lanesOf m, r l = .ok (loc l) (x l)) (data : Nat → List Word) :
    (lanesOf m).filterMap (fun l => LaneCheck.acc ⟨l, va l, r l⟩ (data l)) =
      (lanesOf m).map (fun l => ⟨l, va l, some (loc l), data l, (x l).map (fun y => (y.base, y.size))⟩) := by
  rw [← List.filterMap_eq_map]
  refine List.filterMap_congr (fun l hl => ?_)
  rw [h l hl]
  rfl

end

/-! ## The registers of a vector access (02 R40) -/

theorem vAll_pair {s : State} {t n al vx : Nat} (h1 : t % al = 0) (h2 : t + n ≤ s.me.regalloc) (h3 : t + n ≤ 256)
    (h4 : vx < s.me.regalloc) (h5 : vx < 256) : s.vAll [⟨t, n, al⟩, ⟨vx, 1, 1⟩] = true := by
  simp [State.vAll, State.vOk, h1, h2, h3, Nat.mod_one]
  omega

theorem vAll_pair_false {s : State} {t n al vx : Nat} (h : t % al ≠ 0 ∨ s.me.regalloc < t + n ∨ s.me.regalloc ≤ vx) :
    s.vAll [⟨t, n, al⟩, ⟨vx, 1, 1⟩] = false := by
  simp only [State.vAll, State.vOk, List.all_cons, List.all_nil, Bool.and_true, Bool.and_eq_false_iff, decide_eq_false_iff_not]
  omega

/-- A flag that counts 63 takes no more (02 R25). -/
theorem full_of {s : State} {f : Option Nat} (h : ¬∀ k, f = some k → (s.me.flag k).count < 63) : s.full f = true := by
  unfold State.full Group.flagFull
  cases f with
  | none => exact absurd (fun k hk => by cases hk) h
  | some k => exact decide_eq_true (by by_contra hlt; exact h (fun j hj => by cases hj; omega))

end Sys2Proof.Machine


/-! # Loads (obligation O30) -/

namespace Sys2Proof.Machine

/-- What the checks of a lane of a vector load answer. -/
def State.loadRes (s : State) (size vx b l : Nat) : AccRes := s.checkAcc s.cur.g l (s.vaddr b vx l) size size false

theorem mkOp_eq_newOp (s : State) (flag : Option Nat) (obs : BitVec 7) (k : OpKind) : s.mkOp flag obs k = s.newOp flag obs k := rfl

/-- An access without a trapping lane issues. -/
theorem issueOrHold_nil (o : Op) (dest width code : Nat) (s : State) :
    issueOrHold o [] dest width code s = ((s.charge 1).issueOp o).advance 4 := if_pos rfl

/-- A vector load no lane of which lies outside the leases or on a page that moves (09 R160, R162). -/
theorem vload_issues {s : State} {k : LoadKind} {code n t vx b obs : Nat} (hp : s.plain = true)
    (hv : s.vAll [⟨t, n, n⟩, ⟨vx, 1, 1⟩] = true) (hf : s.full s.flagA = false)
    (hr : ∀ l ∈ lanesOf s.active, s.loadRes k.size vx b l ≠ .lease ∧ ∀ p, s.loadRes k.size vx b l ≠ .migrating p) :
    ∃ s1, Readies s.cur.g s s1 ∧ (lanesOf s.active = [] → s1 = s) ∧ vload k code n t vx b obs s =
      issueOrHold (s.newOp s.flagA (s.obsSet obs) (.load k t ((lanesOf s.active).filterMap (fun l =>
        LaneCheck.acc ⟨l, s.vaddr b vx l, s.loadRes k.size vx b l⟩ []))))
        (lanesTrapping (maskTraps s.active (s.vaddr b vx) (s.loadRes k.size vx b))) t n code s1 := by
  have hplain := plain_isPlain hp
  generalize hcs : laneChecks s.active (s.vaddr b vx) (s.loadRes k.size vx b) = cs
  generalize hsp : (cs.filterMap (fun c => c.acc [])).filterMap (fun a => a.loc.map (fun l => (⟨l, k.size⟩ : Span))) = spans
  have hrem := readies_rememberAll hplain cs
  have hbank : Readies s.cur.g s ((s.rememberAll s.cur.g cs).countBanks spans) := hrem.trans (counted_countBanks spans _).readies
  have hlines := readies_loadLines (s := (s.rememberAll s.cur.g cs).countBanks spans)
    (by unfold State.me; rw [hbank.1.cur]; exact hbank.1.isPlain.trans hplain) (spanLines spans)
  rw [hbank.1.cur] at hlines
  refine ⟨_, hbank.trans hlines, fun hnil => ?_, ?_⟩
  · have hcs0 : cs = [] := by rw [← hcs, laneChecks, hnil]; rfl
    have hsp0 : spans = [] := by rw [← hsp, hcs0]; rfl
    rw [hsp0, hcs0]
    rfl
  · unfold vload
    rw [guarded_passes _ _ _ _ (by rw [hv]; rfl), guarded_passes _ _ _ _ hf, guarded_nil]
    show (match leaseFail (laneChecks s.active (s.vaddr b vx) (s.loadRes k.size vx b)) with
      | some c => _
      | none => match migrates (laneChecks s.active (s.vaddr b vx) (s.loadRes k.size vx b)) with
        | some p => _
        | none => _) = _
    rw [leaseFail_laneChecks (fun l hl => (hr l hl).1), migrates_laneChecks (fun l hl => (hr l hl).2), ← traps_laneChecks,
      ← accs_laneChecks (fun _ => [])]
    subst hsp
    subst hcs
    rfl

section
variable {s : State} {i : Instr} {k : LoadKind} {code n t vx b obs : Nat}

theorem vload_misses (h : s.vAll [⟨t, n, n⟩, ⟨vx, 1, 1⟩] = false) (he : exec i s = .next (vload k code n t vx b obs s)) :
    Traps i causeIllegal 3 0 4 s :=
  traps_illegal (k := 3) (he.trans (congrArg Host.Outcome.next (guarded_fails _ _ _ _ (by rw [h]; rfl))))

variable (hp : s.plain = true) (hv : s.vAll [⟨t, n, n⟩, ⟨vx, 1, 1⟩] = true) (he : exec i s = .next (vload k code n t vx b obs s))
include hv he

theorem vload_full (h : s.full s.flagA = true) : Traps i causeIllegal 5 0 4 s :=
  traps_illegal (k := 5) (he.trans (congrArg Host.Outcome.next
    ((guarded_passes _ _ _ _ (by rw [hv]; rfl)).trans (guarded_fails _ _ _ _ h))))

variable (hf : s.full s.flagA = false)
include hp hf

theorem vload_access {loc : Nat → Nat} {x : Nat → Option Xlat} (hne : lanesOf s.active ≠ [])
    (hr : ∀ l ∈ lanesOf s.active, s.loadRes k.size vx b l = .ok (loc l) (x l)) :
    IssuesAccess i s.flagA (s.obsSet obs) (.load k t ((lanesOf s.active).map (fun l =>
      ⟨l, s.vaddr b vx l, some (loc l), [], (x l).map (fun y => (y.base, y.size))⟩))) s := by
  obtain ⟨s1, hs1, -, hex⟩ := vload_issues (code := code) (obs := obs) (k := k) hp hv hf (fun l hl => by rw [hr l hl]; simp)
  rw [filterMap_acc_pass hr (fun _ => []), lanesTrapping_pass (fun l hl => ⟨_, _, hr l hl⟩), issueOrHold_nil] at hex
  rw [hex] at he
  exact issuesAccess_of hp hs1.1 (by simpa [OpKind.pendingLanes] using hne) he

theorem vload_empty (hnil : lanesOf s.active = []) : RunsEmpty i s := by
  obtain ⟨s1, -, hs1, hex⟩ := vload_issues (code := code) (obs := obs) (k := k) (b := b) hp hv hf (fun l hl => by rw [hnil] at hl; cases hl)
  rw [lanesTrapping_pass (fun l hl => by rw [hnil] at hl; cases hl), issueOrHold_nil, hs1 hnil, hnil] at hex
  rw [hex] at he
  exact runsEmpty_of hp (Counted.refl s) rfl he

theorem vload_holds (hop : code < 128) (hn : n ≤ 4) (hcode : widthCode n = if n = 4 then 3 else n)
    (hr : ∀ l ∈ lanesOf s.active, s.loadRes k.size vx b l ≠ .lease ∧ ∀ p, s.loadRes k.size vx b l ≠ .migrating p) :
    HoldsAccess i code n s.flagA (s.obsSet obs) (.load k t ((lanesOf s.active).filterMap (fun l =>
      LaneCheck.acc ⟨l, s.vaddr b vx l, s.loadRes k.size vx b l⟩ [])))
      (maskTraps s.active (s.vaddr b vx) (s.loadRes k.size vx b)) s := by
  obtain ⟨s1, hs1, -, hex⟩ := vload_issues (code := code) (obs := obs) (k := k) hp hv hf hr
  rw [hex] at he
  exact holdsAccess_of hp hs1 (maskTraps_fits _ _ _) hop hn hcode he

end

/-! ## Scalar loads -/

section
variable {s : State} {i : Instr} {size st imm b obs : Nat} (he : exec i s = .next (sload size st imm b obs s))
  (hf : s.full s.flagA = false)
include he hf

theorem sload_access {loc : Nat} {x : Option Xlat} (hp : s.plain = true)
    (hr : s.checkAcc s.cur.g 32 (s.saddr b imm size) size size false = .ok loc x) :
    IssuesAccess i s.flagA (s.obsSet obs)
      (.loadS size st ⟨32, s.saddr b imm size, some loc, [], x.map (fun y => (y.base, y.size))⟩) s := by
  have hplain := plain_isPlain hp
  have hrem := readies_rememberAll hplain [⟨32, s.saddr b imm size, .ok loc x⟩]
  have hlines := readies_loadLines (s := s.rememberAll s.cur.g [⟨32, s.saddr b imm size, .ok loc x⟩])
    (by unfold State.me; rw [hrem.1.cur]; exact hrem.1.isPlain.trans hplain) (spanLines [⟨loc, size⟩])
  rw [hrem.1.cur] at hlines
  refine issuesAccess_of hp (hrem.trans hlines).1 Nat.one_ne_zero (he.trans (congrArg Host.Outcome.next ?_))
  unfold sload
  rw [guarded_passes _ _ _ _ hf, guarded_nil]
  dsimp only
  rw [hr]
  rfl

theorem sload_traps {r : AccRes} (hr : s.checkAcc s.cur.g 32 (s.saddr b imm size) size size false = r) :
    (r = .misalign → Traps i causeMisalign 1 (s.saddr b imm size) 4 s) ∧ (r = .addr → Traps i causeAddr 1 (s.saddr b imm size) 4 s) := by
  have hex : r = .misalign ∨ r = .addr → exec i s = .next (scalarFail (s.saddr b imm size) r s) := fun h => by
    rw [he]
    unfold sload
    rw [guarded_passes _ _ _ _ hf, guarded_nil]
    dsimp only
    rw [hr]
    rcases h with rfl | rfl <;> rfl
  refine ⟨fun h => ?_, fun h => ?_⟩
  · rw [Traps, hex (.inl h), h]
    rfl
  · rw [Traps, hex (.inr h), h]
    rfl

end

end Sys2Proof.Machine


/-! ## Loads of constants (09 R168) -/

namespace Sys2Proof.Machine

/-- What the checks of an offset into the constant store answer, where its place is p. -/
def constRes (a : DWord) (p : Nat) : AccRes :=
  if 2 ^ 64 ≤ a.toNat + 3 ∨ !canonical a ∨ !canonical (a + 3) then .addr
  else if a.toNat % 4 ≠ 0 then .misalign
  else if Config.constBytes ≤ a.toNat then .addr
  else .ok p none

theorem constRes_cases (a : DWord) (p : Nat) : (constRes a p = .ok p none ∧ constRes a 0 = .ok 0 none) ∨
    (constRes a p = constRes a 0 ∧ (constRes a 0 = .addr ∨ constRes a 0 = .misalign)) := by
  unfold constRes
  split
  · exact .inr ⟨rfl, .inl rfl⟩
  split
  · exact .inr ⟨rfl, .inr rfl⟩
  split
  · exact .inr ⟨rfl, .inl rfl⟩
  · exact .inl ⟨rfl, rfl⟩

theorem failedCheck_constRes (a : DWord) (p : Nat) : failedCheck a (constRes a p) = failedCheck a (constRes a 0) := by
  rcases constRes_cases a p with ⟨h, h0⟩ | ⟨h, -⟩
  · rw [h, h0]
    rfl
  · rw [h]

/-- The place of an offset, where the task's grid owns the constant store. -/
def State.constPlace (s : State) (a : DWord) : Nat := if s.ownsConst s.cur.g.coreRef s.me.task then constLoc s.cur.g.coreRef a.toNat else 0

/-- The access of a lane that passes: without the store its place is none (10 R185). -/
def State.constAcc (s : State) (l : Nat) (a : DWord) : LaneAcc :=
  ⟨l, a, if (s.core s.cur.g.coreRef).owner = some (s.gridOf s.me.task) then
    some (2 ^ 61 + 2 ^ 20 * s.cur.g.coreRef.key + a.toNat) else none, [], none⟩

theorem constAcc_eq (s : State) (l : Nat) (a : DWord) :
    ((LaneCheck.acc ⟨l, a, constRes a (s.constPlace a)⟩ []).map
        (fun y => { y with loc := if s.ownsConst s.cur.g.coreRef s.me.task then y.loc else none })) =
      if constRes a 0 = .ok 0 none then some (s.constAcc l a) else none := by
  rcases constRes_cases a (s.constPlace a) with ⟨h, h0⟩ | ⟨h, h0⟩
  · rw [h, if_pos h0]
    unfold State.constPlace State.constAcc State.ownsConst constLoc LaneCheck.acc
    by_cases hown : (s.core s.cur.g.coreRef).owner = some (s.gridOf s.me.task)
    · simp [hown]
    · simp [hown]
  · rw [h, if_neg (by rcases h0 with h0 | h0 <;> rw [h0] <;> simp)]
    rcases h0 with h0 | h0 <;> rw [h0] <;> rfl

section
variable {s : State} {t vx b : Nat} (hv : s.vAll [⟨t, 1, 1⟩, ⟨vx, 1, 1⟩] = true) (hf : s.full s.flagA = false)
include hv hf

theorem execLdc_issues : exec (.ldc t vx b) s = .next (issueOrHold
      (s.newOp s.flagA 0 (.ldc t (((lanesOf s.active).filter (fun l => constRes (s.vaddr b vx l) 0 = .ok 0 none)).map
        (fun l => s.constAcc l (s.vaddr b vx l)))))
      (lanesTrapping (maskTraps s.active (s.vaddr b vx) (fun l => constRes (s.vaddr b vx l) 0))) t 1 0x10 s) := by
  have hacc : ((lanesOf s.active).filter (fun l => constRes (s.vaddr b vx l) 0 = .ok 0 none)).map
        (fun l => s.constAcc l (s.vaddr b vx l)) =
      (laneChecks s.active (s.vaddr b vx) (fun l => constRes (s.vaddr b vx l) (s.constPlace (s.vaddr b vx l)))).filterMap
        (fun x => (x.acc []).map (fun y => { y with loc := if s.ownsConst s.cur.g.coreRef s.me.task then y.loc else none })) := by
    rw [laneChecks, List.filterMap_map, ← List.filterMap_eq_map, List.filterMap_filter]
    refine List.filterMap_congr (fun l _ => ?_)
    show _ = (LaneCheck.acc ⟨l, s.vaddr b vx l, constRes (s.vaddr b vx l) (s.constPlace (s.vaddr b vx l))⟩ []).map _
    rw [constAcc_eq]
    simp
  have htraps : maskTraps s.active (s.vaddr b vx) (fun l => constRes (s.vaddr b vx l) 0) =
      maskTraps s.active (s.vaddr b vx) (fun l => constRes (s.vaddr b vx l) (s.constPlace (s.vaddr b vx l))) := by
    funext l
    unfold maskTraps
    rw [failedCheck_constRes _ (s.constPlace _)]
  rw [hacc, htraps, ← traps_laneChecks]
  refine congrArg Host.Outcome.next ?_
  rw [guarded_passes _ _ _ _ (by rw [hv]; rfl), guarded_passes _ _ _ _ hf, guarded_nil]
  rfl

variable (hp : s.plain = true)
include hp

theorem ldc_issues (hne : lanesOf s.active ≠ []) (hr : ∀ l ∈ lanesOf s.active, constRes (s.vaddr b vx l) 0 = .ok 0 none) :
    Issues (.ldc t vx b) 1 0 s.flagA 0 (.ldc t ((lanesOf s.active).map (fun l => s.constAcc l (s.vaddr b vx l)))) s := by
  have he := execLdc_issues hv hf (b := b)
  rw [List.filter_eq_self.mpr (fun l hl => decide_eq_true (hr l hl)), lanesTrapping_pass (fun l hl => ⟨0, none, hr l hl⟩), issueOrHold_nil] at he
  exact issues_counted hp (Counted.refl s) (by simpa [OpKind.pendingLanes] using hne) he

theorem ldc_empty (hnil : lanesOf s.active = []) : RunsEmpty (.ldc t vx b) s := by
  have he := execLdc_issues hv hf (b := b)
  rw [lanesTrapping_pass (fun l hl => by rw [hnil] at hl; cases hl), issueOrHold_nil, hnil] at he
  exact runsEmpty_of hp (Counted.refl s) rfl he

theorem ldc_holds : HoldsAccess (.ldc t vx b) 0x10 1 s.flagA 0
    (.ldc t (((lanesOf s.active).filter (fun l => constRes (s.vaddr b vx l) 0 = .ok 0 none)).map
        (fun l => s.constAcc l (s.vaddr b vx l))))
    (maskTraps s.active (s.vaddr b vx) (fun l => constRes (s.vaddr b vx l) 0)) s :=
  holdsAccess_of hp (Readies.refl _ s) (maskTraps_fits _ _ _) (by decide) (by decide) (by decide) (execLdc_issues hv hf)

end

/-- The canonical addresses, bound by bound (09 R160). -/
theorem canonical_eq (x : DWord) : canonical x = (decide (x.toNat < 2 ^ 55) || decide (2 ^ 64 - 2 ^ 55 ≤ x.toNat)) := by
  unfold canonical
  have hx := x.isLt
  congr 1
  · exact decide_eq_decide.mpr (by omega)
  · exact decide_eq_decide.mpr (by omega)

theorem constRes_eq {good : DWord → Bool} (hgood : ∀ x, canonical x = good x) (a : DWord) : constRes a 0 =
    if 2 ^ 64 ≤ a.toNat + 3 ∨ good a = false ∨ good (a + 3) = false then .addr
    else if a.toNat % 4 ≠ 0 then .misalign
    else if 131072 ≤ a.toNat then .addr
    else .ok 0 none := by
  unfold constRes
  simp only [hgood, Bool.not_eq_true']
  rfl

theorem constRes_pass {a : DWord} (h4 : a.toNat % 4 = 0) (hlt : a.toNat < 131072) : constRes a 0 = .ok 0 none := by
  have hc : canonical (a + 3) = true := canonical_low (by bv_omega)
  unfold constRes
  rw [canonical_low (by omega), hc, if_neg (by simp; omega), if_neg (by omega), if_neg (by unfold Config.constBytes; omega)]

/-- Settles O30: vector loads by `vload_access`, `vload_empty` and `vload_holds`, scalar ones by `sload_access`, constants by
`execLdc_issues`. -/
theorem loadsIssue : Obligations.LoadsIssue := by
  unfold Obligations.LoadsIssue
  intro s t vx k obs imm hp set b addr acts open_ lane vec sc
  have hvec : ∀ (i : Instr) (op size : Nat) (sgn : Bool) (n : Nat), exec i s = .next (vload ⟨size, sgn⟩ op n t vx k obs s) → op < 128 → n ≤ 4 →
      (widthCode n = if n = 4 then 3 else n) → vec i op size sgn n := by
    intro i op size sgn n he hop hn hcode
    refine ⟨fun h1 h2 h3 h4 h5 ho => ?_, fun loc x hne h1 h2 h3 h4 h5 ho hr => ?_, fun h => vload_misses (vAll_pair_false h) he,
      fun h1 h2 h3 h4 h5 ho => vload_full (vAll_pair h1 h2 h3 h4 h5) he (full_of ho)⟩
    · have hv := vAll_pair h1 h2 h3 h4 h5
      refine ⟨vload_empty hp hv he (not_full ho), fun hr => ?_⟩
      have hlane : acts.filterMap (fun l => lane (s.checkAcc s.cur.g l (addr l) size size false) l []) =
          (lanesOf s.active).filterMap (fun l => LaneCheck.acc ⟨l, s.vaddr k vx l, s.loadRes size vx k l⟩ []) := by
        refine List.filterMap_congr (fun l _ => ?_)
        show lane (s.loadRes size vx k l) l [] = _
        cases s.loadRes size vx k l <;> rfl
      show HoldsAccess i op n s.flagA set (.load ⟨size, sgn⟩ t _) _ s
      rw [hlane]
      exact vload_holds hp hv he (not_full ho) hop hn hcode hr
    · exact vload_access hp (vAll_pair h1 h2 h3 h4 h5) he (not_full ho) hne hr
  have hsc : ∀ (i : Instr) (size : Nat), exec i s = .next (sload size t imm k obs s) → sc i size := fun i size he =>
    ⟨fun loc x ho hr => sload_access he (not_full ho) hp hr, fun ho hr => (sload_traps he (not_full ho) hr).1 rfl,
      fun ho hr => (sload_traps he (not_full ho) hr).2 rfl⟩
  refine ⟨hvec _ _ _ _ _ rfl (by decide) (by decide) rfl, hvec _ _ _ _ _ rfl (by decide) (by decide) rfl,
    hvec _ _ _ _ _ rfl (by decide) (by decide) rfl, hvec _ _ _ _ _ rfl (by decide) (by decide) rfl,
    hvec _ _ _ _ _ rfl (by decide) (by decide) rfl, hvec _ _ _ _ _ rfl (by decide) (by decide) rfl,
    hvec _ _ _ _ _ rfl (by decide) (by decide) rfl, hsc _ _ rfl, hsc _ _ rfl, fun hne h2 h3 h4 h5 ho hr => ?_, fun h2 h3 h4 h5 ho => ?_⟩
  · exact ldc_issues (vAll_pair (n := 1) (Nat.mod_one t) h2 h3 h4 h5) (not_full ho) hp hne (fun l hl => constRes_pass (hr l hl).1 (hr l hl).2)
  · have hv := vAll_pair (n := 1) (Nat.mod_one t) h2 h3 h4 h5
    intro own good r
    refine ⟨ldc_empty hv (not_full ho) hp, ?_⟩
    have hr : r = fun l => constRes (addr l) 0 := funext (fun l => (constRes_eq canonical_eq (addr l)).symm)
    have hown : ∀ l, (⟨l, addr l, if own then some (2 ^ 61 + 2 ^ 20 * s.cur.g.coreRef.key + (addr l).toNat) else none, [], none⟩ : LaneAcc) =
        s.constAcc l (addr l) := fun l => by simp [own, State.constAcc]
    simp only [hr, hown]
    exact ldc_holds hv (not_full ho) hp

end Sys2Proof.Machine


/-! # Atomics (obligation O35) -/

namespace Sys2Proof.Machine

/-- What the checks of a lane of an atomic answer (09 R160, 10 R194). -/
def State.atomRes (s : State) (n vx b l : Nat) : AccRes := (s.atomCheck l (s.vaddr b vx l) n).res

theorem atomCheck_eq (s : State) (n vx b l : Nat) : s.atomCheck l (s.vaddr b vx l) n = ⟨l, s.vaddr b vx l, s.atomRes n vx b l⟩ := by
  unfold State.atomRes State.atomCheck
  cases s.checkAcc s.cur.g l (s.vaddr b vx l) n n true <;> rfl

theorem atomRes_eq (s : State) (n vx b l : Nat) : s.atomRes n vx b l =
    match s.checkAcc s.cur.g l (s.vaddr b vx l) n n true with
    | .ok p y => if s.hitsBarrier s.cur.g (s.vaddr b vx l) then .addr else .ok p y
    | x => x := by
  unfold State.atomRes State.atomCheck
  cases s.checkAcc s.cur.g l (s.vaddr b vx l) n n true <;> rfl

/-- An atomic no lane of which lies outside the leases or on a page that moves (20 R310). -/
theorem vatomic_issues {s : State} {k : AtomKind} {code t vx b obs : Nat} (hp : s.plain = true)
    (hv : s.vAll [⟨t, k.regs.1, k.regs.2.2⟩, ⟨vx, 1, 1⟩] = true) (hf : s.full s.flagA = false)
    (hr : ∀ l ∈ lanesOf s.active, s.atomRes k.extent vx b l ≠ .lease ∧ ∀ p, s.atomRes k.extent vx b l ≠ .migrating p) :
    ∃ s1, Readies s.cur.g s s1 ∧ (lanesOf s.active = [] → s1 = s) ∧ vatomic k code t vx b obs s =
      issueOrHold (s.newOp s.flagA (s.obsSet obs) (.atomic k t ((lanesOf s.active).filterMap (fun l =>
        LaneCheck.acc ⟨l, s.vaddr b vx l, s.atomRes k.extent vx b l⟩ (s.vdata t k.regs.1 l))) []))
        (lanesTrapping (maskTraps s.active (s.vaddr b vx) (s.atomRes k.extent vx b))) t k.regs.2.1 code s1 := by
  generalize hcs : laneChecks s.active (s.vaddr b vx) (s.atomRes k.extent vx b) = cs
  generalize hsp : (cs.filterMap (fun c => c.acc (s.vdata t k.regs.1 c.lane))).filterMap (fun a => a.loc.map (fun l => (⟨l, k.extent⟩ : Span))) = spans
  have hchecks : (lanesOf s.active).map (fun l => s.atomCheck l (s.vaddr b vx l) k.extent) = cs := by
    rw [← hcs]
    exact List.map_congr_left (fun l _ => atomCheck_eq s k.extent vx b l)
  refine ⟨_, (readies_rememberAll (plain_isPlain hp) cs).trans (counted_countBanks spans _).readies, fun hnil => ?_, ?_⟩
  · have hcs0 : cs = [] := by rw [← hcs, laneChecks, hnil]; rfl
    have hsp0 : spans = [] := by rw [← hsp, hcs0]; rfl
    rw [hsp0, hcs0]
    rfl
  · unfold vatomic
    rw [guarded_passes _ _ _ _ (by rw [hv]; rfl), guarded_passes _ _ _ _ hf, guarded_nil]
    dsimp only
    rw [hchecks, ← hcs, leaseFail_laneChecks (fun l hl => (hr l hl).1), migrates_laneChecks (fun l hl => (hr l hl).2), ← traps_laneChecks,
      ← accs_laneChecks (s.vdata t k.regs.1)]
    subst hsp
    subst hcs
    rfl

section
variable {s : State} {i : Instr} {k : AtomKind} {code t vx b obs : Nat}

theorem vatomic_misses (h : s.vAll [⟨t, k.regs.1, k.regs.2.2⟩, ⟨vx, 1, 1⟩] = false) (he : exec i s = .next (vatomic k code t vx b obs s)) :
    Traps i causeIllegal 3 0 4 s :=
  traps_illegal (k := 3) (he.trans (congrArg Host.Outcome.next (guarded_fails _ _ _ _ (by rw [h]; rfl))))

variable (hp : s.plain = true) (hv : s.vAll [⟨t, k.regs.1, k.regs.2.2⟩, ⟨vx, 1, 1⟩] = true) (hf : s.full s.flagA = false)
  (he : exec i s = .next (vatomic k code t vx b obs s))
include hp hv hf he

theorem vatomic_access {loc : Nat → Nat} {x : Nat → Option Xlat} (hne : lanesOf s.active ≠ [])
    (hr : ∀ l ∈ lanesOf s.active, s.atomRes k.extent vx b l = .ok (loc l) (x l)) :
    IssuesAccess i s.flagA (s.obsSet obs) (.atomic k t ((lanesOf s.active).map (fun l =>
      ⟨l, s.vaddr b vx l, some (loc l), s.vdata t k.regs.1 l, (x l).map (fun y => (y.base, y.size))⟩)) []) s := by
  obtain ⟨s1, hs1, -, hex⟩ := vatomic_issues (code := code) (obs := obs) (k := k) hp hv hf (fun l hl => by rw [hr l hl]; simp)
  rw [filterMap_acc_pass hr (s.vdata t k.regs.1), lanesTrapping_pass (fun l hl => ⟨_, _, hr l hl⟩), issueOrHold_nil] at hex
  rw [hex] at he
  exact issuesAccess_of hp hs1.1 (by simpa [OpKind.pendingLanes] using hne) he

theorem vatomic_empty (hnil : lanesOf s.active = []) : RunsEmpty i s := by
  obtain ⟨s1, -, hs1, hex⟩ := vatomic_issues (code := code) (obs := obs) (k := k) (b := b) hp hv hf (fun l hl => by rw [hnil] at hl; cases hl)
  rw [lanesTrapping_pass (fun l hl => by rw [hnil] at hl; cases hl), issueOrHold_nil, hs1 hnil, hnil] at hex
  rw [hex] at he
  exact runsEmpty_of hp (Counted.refl s) rfl he

theorem vatomic_holds (hop : code < 128)
    (hr : ∀ l ∈ lanesOf s.active, s.atomRes k.extent vx b l ≠ .lease ∧ ∀ p, s.atomRes k.extent vx b l ≠ .migrating p) :
    HoldsAccess i code k.regs.2.1 s.flagA (s.obsSet obs) (.atomic k t ((lanesOf s.active).filterMap (fun l =>
      LaneCheck.acc ⟨l, s.vaddr b vx l, s.atomRes k.extent vx b l⟩ (s.vdata t k.regs.1 l))) [])
      (maskTraps s.active (s.vaddr b vx) (s.atomRes k.extent vx b)) s := by
  obtain ⟨s1, hs1, -, hex⟩ := vatomic_issues (code := code) (obs := obs) (k := k) hp hv hf hr
  rw [hex] at he
  exact holdsAccess_of hp hs1 (maskTraps_fits _ _ _) hop (by cases k <;> decide) (by cases k <;> decide) he

end

/-- Settles O35: every atomic is `vatomic` of its kind, whose outcomes the lemmas above tell. -/
theorem atomicsIssue : Obligations.AtomicsIssue := by
  unfold Obligations.AtomicsIssue
  intro s t vx k obs hp set addr acts atom
  have key : ∀ (i : Instr) (op : Nat) (kind : AtomKind), exec i s = .next (vatomic kind op t vx k obs s) → op < 128 →
      kind.regs.2.1 = (if kind ∈ [AtomKind.add64, .xchg64, .cas64, .min64n] then 2 else 1) →
      atom i op kind kind.regs.1 kind.regs.2.2 kind.extent := by
    intro i op kind he hop hw
    refine ⟨?_, fun loc x hne h1 h2 h3 h4 h5 ho hr => ?_, fun h => vatomic_misses (vAll_pair_false (by tauto)) he⟩
    · intro r lane h1 h2 h3 h4 h5 ho
      have hv := vAll_pair h1 h2 h3 h4 h5
      have hres : s.atomRes kind.extent vx k = r := funext (fun l => by rw [atomRes_eq]; rfl)
      have hlane : acts.filterMap lane =
          (lanesOf s.active).filterMap (fun l => LaneCheck.acc ⟨l, s.vaddr k vx l, r l⟩ (s.vdata t kind.regs.1 l)) := by
        refine List.filterMap_congr (fun l _ => ?_)
        unfold lane
        cases r l <;> rfl
      refine ⟨vatomic_empty hp hv (not_full ho) he, fun hr => ?_⟩
      rw [hlane, ← hw]
      rw [← hres] at hr ⊢
      exact vatomic_holds hp hv (not_full ho) he hop hr
    · refine vatomic_access hp (vAll_pair h1 h2 h3 h4 h5) (not_full ho) he hne (fun l hl => ?_)
      obtain ⟨hb, hc⟩ := hr l hl
      have hc' : s.checkAcc s.cur.g l (s.vaddr k vx l) kind.extent kind.extent true = .ok (loc l) (x l) := hc
      rw [atomRes_eq, hc']
      exact if_neg (by rw [show s.hitsBarrier s.cur.g (s.vaddr k vx l) = false from hb]; exact Bool.false_ne_true)
  exact ⟨key _ _ .add rfl (by decide) rfl, key _ _ .and_ rfl (by decide) rfl, key _ _ .or_ rfl (by decide) rfl,
    key _ _ .xor_ rfl (by decide) rfl, key _ _ .min rfl (by decide) rfl, key _ _ .max rfl (by decide) rfl,
    key _ _ .minn rfl (by decide) rfl, key _ _ .maxn rfl (by decide) rfl, key _ _ .xchg rfl (by decide) rfl,
    key _ _ .cas rfl (by decide) rfl, key _ _ .fadd rfl (by decide) rfl, key _ _ .binc rfl (by decide) rfl,
    key _ _ .winc rfl (by decide) rfl, key _ _ .decp rfl (by decide) rfl, key _ _ .addl rfl (by decide) rfl,
    key _ _ .add64 rfl (by decide) rfl, key _ _ .xchg64 rfl (by decide) rfl, key _ _ .cas64 rfl (by decide) rfl,
    key _ _ .min64n rfl (by decide) rfl⟩

end Sys2Proof.Machine


/-! # Stores (obligation O32) -/

namespace Sys2Proof.Machine

/-! ## The checks of a store (09 R160, 10 R194) -/

theorem inSpw_iff (a : DWord) : inSpw a = true ↔ 0x007FFFFFFFC00000 ≤ a.toNat ∧ a.toNat < 0x0080000000000000 := by
  unfold inSpw Config.spwBase Config.spwSize
  simp

theorem hitsBarrier_iff (s : State) (a : DWord) : s.hitsBarrier s.cur.g a = true ↔
    0x007FFFFFFFC00000 ≤ a.toNat ∧ a.toNat < 0x007FFFFFFFC00000 + 8 * s.myTeam.barriers ∧ a.toNat < 0x0080000000000000 := by
  unfold State.hitsBarrier spwOffset Config.spwBase
  rw [Bool.and_eq_true, inSpw_iff, decide_eq_true_eq, show s.team (s.grp s.cur.g).team = s.myTeam from rfl]
  omega

/-- A store passes where the first three checks do and it misses the barrier words. -/
theorem storeCheck_none_iff (s : State) (a : DWord) (n : Nat) : s.storeCheck s.cur.g a n n = none ↔
    check123 (s.window s.cur.g) a n n = none ∧
      ¬(0x007FFFFFFFC00000 ≤ a.toNat ∧ a.toNat < 0x007FFFFFFFC00000 + 8 * s.myTeam.barriers ∧ a.toNat < 0x0080000000000000) := by
  rw [← hitsBarrier_iff]
  unfold State.storeCheck
  cases check123 (s.window s.cur.g) a n n with
  | some r => simp
  | none => simp

theorem check123_some {w n al : Nat} {a : DWord} {r : AccRes} (h : check123 w a n al = some r) : r = .addr ∨ r = .misalign := by
  unfold check123 at h
  split at h
  · exact .inl (Option.some.inj h).symm
  split at h
  · exact .inr (Option.some.inj h).symm
  split at h
  · exact .inl (Option.some.inj h).symm
  · cases h

/-- What a store that does not pass answers. -/
theorem storeCheck_some {s : State} {a : DWord} {n : Nat} {r : AccRes} (h : s.storeCheck s.cur.g a n n = some r) :
    r = if check123 (s.window s.cur.g) a n n = some .misalign then .misalign else .addr := by
  unfold State.storeCheck at h
  cases hc : check123 (s.window s.cur.g) a n n with
  | some r' =>
    rw [hc] at h
    obtain rfl : r' = r := Option.some.inj h
    rcases check123_some hc with rfl | rfl <;> rfl
  | none =>
    rw [hc] at h
    dsimp only at h
    split at h
    · exact (Option.some.inj h).symm
    · cases h

/-- The trap of lane l of a vector store. -/
def State.storeTrap (s : State) (size vx b l : Nat) : Option (Nat × Nat × Word × Word) :=
  if inMask s.active l then (s.storeCheck s.cur.g (s.vaddr b vx l) size size).bind (failedCheck (s.vaddr b vx l)) else none

theorem storeTrap_fits (s : State) (size vx b : Nat) : FitsDescriptor (s.storeTrap size vx b) := by
  intro l x hx
  unfold State.storeTrap at hx
  split at hx
  · obtain ⟨r, -, hr⟩ := Option.bind_eq_some_iff.mp hx
    exact failedCheck_fits hr
  · cases hx

theorem lanesTrapping_storeTrap (s : State) (size vx b : Nat) : lanesTrapping (s.storeTrap size vx b) =
    (lanesOf s.active).filterMap (fun l => (s.storeCheck s.cur.g (s.vaddr b vx l) size size).bind (fun r => LaneCheck.trap ⟨l, s.vaddr b vx l, r⟩)) := by
  unfold State.storeTrap
  rw [← filterMap_lanesOf]
  refine List.filterMap_congr (fun l _ => ?_)
  simp only [LaneCheck.trap_eq]
  cases s.storeCheck s.cur.g (s.vaddr b vx l) size size <;> rfl

/-! ## Vector stores -/

/-- The lanes of a vector store that pass. -/
def State.storeLanes (s : State) (size vx b : Nat) : List Nat :=
  (lanesOf s.active).filter (fun l => (s.storeCheck s.cur.g (s.vaddr b vx l) size size).isNone)

/-- The operation of a vector store for these lanes. -/
def State.storeOp (s : State) (size n t vx b : Nat) (ls : List Nat) : OpKind :=
  .store size (ls.map (fun l => ⟨l, s.vaddr b vx l, none, s.vdata t n l, none⟩)) [] []

/-- A vector store of which no lane traps, or no passing lane lies outside the window and the leases. -/
theorem vstore_issues {s : State} {size code n t vx b obs : Nat} (hv : s.vAll [⟨t, n, n⟩, ⟨vx, 1, 1⟩] = true) (hf : s.full s.flagA = false)
    (hout : lanesTrapping (s.storeTrap size vx b) = [] ∨
      ∀ l ∈ s.storeLanes size vx b, inSpw (s.vaddr b vx l) = true ∨ s.myTask.leased (s.vaddr b vx l).toNat size = true) :
    ∃ s1, Counted s s1 ∧ vstore size code n t vx b obs s =
      issueOrHold (s.newOp s.flagA (s.obsSet obs) (s.storeOp size n t vx b (s.storeLanes size vx b)))
        (lanesTrapping (s.storeTrap size vx b)) t 0 code s1 := by
  have hnone : (if lanesTrapping (s.storeTrap size vx b) = [] then none else
      (s.storeLanes size vx b).find? (fun l => !inSpw (s.vaddr b vx l) && !s.myTask.leased (s.vaddr b vx l).toNat size)) = none := by
    rcases hout with h | h
    · rw [if_pos h]
    · rw [List.find?_eq_none.mpr (fun l hl => by rcases h l hl with h | h <;> simp [h]), ite_self]
  rw [lanesTrapping_storeTrap] at hnone ⊢
  refine ⟨_, counted_countBanks (((s.storeLanes size vx b).filter (fun l => inSpw (s.vaddr b vx l))).map
    (fun l => ⟨s.myTeam.spad (spwOffset (s.vaddr b vx l)), size⟩)) s, ?_⟩
  unfold vstore
  rw [guarded_passes _ _ _ _ (by rw [hv]; rfl), guarded_passes _ _ _ _ hf, guarded_nil]
  dsimp only
  rw [show (lanesOf s.active).filter (fun l => (s.storeCheck s.cur.g (s.vaddr b vx l) size size).isNone) = s.storeLanes size vx b from rfl, hnone]
  rfl

section
variable {s : State} {i : Instr} {size code n t vx b obs : Nat} (hp : s.plain = true) (hv : s.vAll [⟨t, n, n⟩, ⟨vx, 1, 1⟩] = true)
  (hf : s.full s.flagA = false) (he : exec i s = .next (vstore size code n t vx b obs s))
include hp hv hf he

/-- A vector store all of whose lanes pass. -/
theorem vstore_passes (hall : ∀ l ∈ lanesOf s.active, s.storeCheck s.cur.g (s.vaddr b vx l) size size = none) :
    (lanesOf s.active ≠ [] → Issues i 1 0 s.flagA (s.obsSet obs) (s.storeOp size n t vx b (lanesOf s.active)) s) ∧
      (lanesOf s.active = [] → RunsEmpty i s) := by
  have hnil : lanesTrapping (s.storeTrap size vx b) = [] := by
    rw [lanesTrapping_storeTrap, List.filterMap_eq_nil_iff]
    intro l hl
    rw [hall l hl]
    rfl
  have hlanes : s.storeLanes size vx b = lanesOf s.active := List.filter_eq_self.mpr (fun l hl => by rw [hall l hl]; rfl)
  obtain ⟨s1, hs1, hex⟩ := vstore_issues (code := code) (obs := obs) hv hf (.inl hnil)
  rw [hnil, issueOrHold_nil, hlanes] at hex
  rw [hex] at he
  exact ⟨fun hne => issues_counted hp hs1 (by simpa [OpKind.pendingLanes, State.storeOp] using hne) he,
    fun hnil => runsEmpty_of hp hs1 (by rw [hnil]; rfl) he⟩

theorem vstore_holds (hop : code < 128)
    (hout : ∀ l ∈ s.storeLanes size vx b, inSpw (s.vaddr b vx l) = true ∨ s.myTask.leased (s.vaddr b vx l).toNat size = true) :
    HoldsAccess i code 0 s.flagA (s.obsSet obs) (s.storeOp size n t vx b (s.storeLanes size vx b)) (s.storeTrap size vx b) s := by
  obtain ⟨s1, hs1, hex⟩ := vstore_issues (code := code) (obs := obs) hv hf (.inr hout)
  rw [hex] at he
  exact holdsAccess_of hp hs1.readies (storeTrap_fits s size vx b) hop (by decide) (by decide) he

end

/-! ## Scalar stores and ZLINE -/

/-- A store of n bytes at one address, whose operation is o. -/
def storeScalar (n : Nat) (a : DWord) (o : Op) (s : State) : State :=
  guarded [(s.full s.flagA, State.illegal 4 5)]
    (fun s =>
      match s.storeCheck s.cur.g a n n with
      | some r => scalarFail a r s
      | none => ((s.charge 1).issueOp o).advance 4) s

theorem sstore_eq (size st imm b obs : Nat) (s : State) : sstore size st imm b obs s =
    storeScalar size (s.saddr b imm size) (s.newOp s.flagA (s.obsSet obs)
      (.store size [⟨32, s.saddr b imm size, none, [(s.sreg st).extractLsb' 0 32, (s.sreg st).extractLsb' 32 32], none⟩] [] [])) s := by
  have hwords : addrWords (s.sreg st) = ((s.sreg st).extractLsb' 0 32, (s.sreg st).extractLsb' 32 32) := by
    generalize s.sreg st = x
    unfold addrWords
    refine Prod.ext ?_ ?_
    · exact BitVec.eq_of_toNat_eq (by simp)
    · exact BitVec.eq_of_toNat_eq (by simp)
  have hdata : (s.sreg st).extractLsb' 0 32 = (addrWords (s.sreg st)).1 ∧ (s.sreg st).extractLsb' 32 32 = (addrWords (s.sreg st)).2 := by
    rw [hwords]
    exact ⟨rfl, rfl⟩
  rw [hdata.1, hdata.2]
  rfl

theorem zline_eq (imm k : Nat) (s : State) : exec (.zline imm k) s =
    .next (storeScalar 64 (s.saddr k imm 64) (s.newOp s.flagA 0 (.zline ⟨32, s.saddr k imm 64, none, [], none⟩ [])) s) := rfl

section
variable {s : State} {i : Instr} {n : Nat} {a : DWord} {set : BitVec 7} {k : OpKind}
  (he : exec i s = .next (storeScalar n a (s.newOp s.flagA set k) s))
include he

theorem storeScalar_full (hf : s.full s.flagA = true) : Traps i causeIllegal 5 0 4 s :=
  traps_illegal (k := 5) (he.trans (congrArg Host.Outcome.next (guarded_fails _ _ _ _ hf)))

variable (hf : s.full s.flagA = false)
include hf

theorem storeScalar_issues (hp : s.plain = true) (hk : k.pendingLanes ≠ 0) (hc : s.storeCheck s.cur.g a n n = none) :
    Issues i 1 0 s.flagA set k s := by
  refine issues_counted hp (Counted.refl s) hk (he.trans (congrArg Host.Outcome.next ?_))
  unfold storeScalar
  rw [guarded_passes _ _ _ _ hf, guarded_nil, hc]

theorem storeScalar_traps {r : AccRes} (hc : check123 (s.window s.cur.g) a n n = some r) :
    (r = .misalign → Traps i causeMisalign 1 a 4 s) ∧ (r = .addr → Traps i causeAddr 1 a 4 s) := by
  have hst : s.storeCheck s.cur.g a n n = some r := by
    unfold State.storeCheck
    rw [hc]
  have hex : exec i s = .next (scalarFail a r s) := by
    rw [he]
    unfold storeScalar
    rw [guarded_passes _ _ _ _ hf, guarded_nil, hst]
  refine ⟨fun h => ?_, fun h => ?_⟩
  · rw [Traps, hex, h]
    rfl
  · rw [Traps, hex, h]
    rfl

end

/-- Settles O32: vector stores by `vstore_passes` and `vstore_holds`, scalar ones and ZLINE as `storeScalar`. -/
theorem storesIssue : Obligations.StoresIssue := by
  unfold Obligations.StoresIssue
  intro s t vx k obs imm hp set b addr acts open_ passes vec sc word
  have hpass : ∀ a n, s.storeCheck s.cur.g a n n = none ↔ passes a n := fun a n => storeCheck_none_iff s a n
  have hvec : ∀ (i : Instr) (op size n : Nat), exec i s = .next (vstore size op n t vx k obs s) → op < 128 → vec i op size n := by
    intro i op size n he hop h1 h2 h3 h4 h5 ho
    have hv := vAll_pair h1 h2 h3 h4 h5
    refine ⟨fun hnil => ?_, fun hne hall => ?_, fun fine hfine hleased => ?_⟩
    · exact (vstore_passes hp hv (not_full ho) he (fun l hl => by rw [show lanesOf s.active = [] from hnil] at hl; cases hl)).2 hnil
    · exact (vstore_passes hp hv (not_full ho) he (fun l hl => (hpass _ _).mpr (hall l hl))).1 hne
    · have hisNone : ∀ l, fine l = (s.storeCheck s.cur.g (s.vaddr k vx l) size size).isNone := fun l => by
        rw [Bool.eq_iff_iff, hfine, Option.isNone_iff_eq_none]
        exact (hpass _ _).symm
      have hlanes : acts.filter fine = s.storeLanes size vx k := List.filter_congr (fun l _ => hisNone l)
      have htrap : (fun l => if inMask s.active l && !fine l then
            failedCheck (addr l) (if check123 (s.window s.cur.g) (addr l) size size = some .misalign then .misalign else .addr)
          else none) = s.storeTrap size vx k := by
        funext l
        unfold State.storeTrap
        rw [hisNone]
        cases hc : s.storeCheck s.cur.g (s.vaddr k vx l) size size with
        | none => simp
        | some r =>
          rw [storeCheck_some hc]
          simp
          rfl
      show HoldsAccess i op 0 s.flagA set (s.storeOp size n t vx k (acts.filter fine)) _ s
      rw [htrap, hlanes]
      refine vstore_holds hp hv (not_full ho) he hop (fun l hl => ?_)
      obtain ⟨hin, hok⟩ := List.mem_filter.mp hl
      exact (hleased l hin ((hisNone l).trans hok)).imp (inSpw_iff _).mpr id
  have hsc : ∀ (i : Instr) (size : Nat) (kind : OpKind) (st : BitVec 7),
      exec i s = .next (storeScalar size (s.saddr k imm size) (s.newOp s.flagA st kind) s) → kind.pendingLanes ≠ 0 → sc i size kind st :=
    fun i size kind st he hk => ⟨fun ho hc => storeScalar_issues he (not_full ho) hp hk ((hpass _ _).mpr hc),
      fun ho hc => (storeScalar_traps he (not_full ho) hc).1 rfl, fun ho hc => (storeScalar_traps he (not_full ho) hc).2 rfl,
      fun ho => storeScalar_full he (full_of ho)⟩
  exact ⟨hvec _ _ _ _ rfl (by decide), hvec _ _ _ _ rfl (by decide), hvec _ _ _ _ rfl (by decide), hvec _ _ _ _ rfl (by decide),
    hvec _ _ _ _ rfl (by decide), hsc _ _ _ _ (congrArg Host.Outcome.next (sstore_eq 4 t imm k obs s)) Nat.one_ne_zero,
    hsc _ _ _ _ (congrArg Host.Outcome.next (sstore_eq 8 t imm k obs s)) Nat.one_ne_zero, hsc _ _ _ _ (zline_eq imm k s) Nat.one_ne_zero⟩

end Sys2Proof.Machine


/-! # System registers (obligation O12) -/

namespace Sys2Proof.Machine

/-! ## What the group, team and task that issue show once an instruction is charged -/

/-- A group whose instructions have been counted. -/
def Group.counted (a b : Nat) (c : Bool) (g : Group) : Group := { g with executed := a, graceCount := b, graceDue := c }

theorem Group.eq_counted {g h : Group} (e : g.counted 0 0 false = h.counted 0 0 false) :
    g = h.counted g.executed g.graceCount g.graceDue :=
  (congrArg (Group.counted g.executed g.graceCount g.graceDue) e :)

/-- A charge counts an instruction of the group that issues, and leaves everything else of it. -/
theorem charge_me (s : State) (n : Nat) : ∃ a b c, (s.charge n).me = s.me.counted a b c := by
  refine ⟨_, _, _, Group.eq_counted ?_⟩
  unfold State.me
  rw [charge_cur]
  exact charge_grp_view (Group.counted 0 0 false) (fun _ _ _ _ => rfl) s n s.cur.g

/-- A team with these counters. -/
def Team.withBudgets (ci ct : Int) (m : Team) : Team := { m with ci := ci, ct := ct }

theorem Team.eq_withBudgets {m j : Team} (e : m.bare = j.bare) : m = j.withBudgets m.ci m.ct :=
  (congrArg (Team.withBudgets m.ci m.ct) e :)

/-- The team of the group that issues, once it has paid. -/
theorem charge_myTeam {s : State} (n : Nat) (hp : s.plain = true) :
    (s.charge n).team s.me.team = s.myTeam.withBudgets (sat64 (s.myTeam.ci - n)) (sat64 s.myTeam.ct) := by
  obtain ⟨hci, hct⟩ := charge_pays s n hp
  rw [sub_zero] at hct
  rw [State.myTeam, ← hci, ← hct]
  exact Team.eq_withBudgets ((quiet_charge s n).teams s.me.team)

/-- A task with these pools. -/
def Task.withPools (pi pt : Int) (k : Task) : Task := { k with pi := pi, pt := pt }

theorem Task.eq_withPools {k j : Task} (e : k.bare = j.bare) : k = j.withPools k.pi k.pt :=
  (congrArg (Task.withPools k.pi k.pt) e :)

/-- A charge leaves everything of a task but its pools. -/
theorem charge_task (s : State) (n k : Nat) : ∃ a b, (s.charge n).task k = (s.task k).withPools a b :=
  ⟨_, _, Task.eq_withPools ((quiet_charge s n).tasks k)⟩

section
variable {s : State} (hp : s.plain = true)
include hp

/-- The own charge shows in IBUD (06 R109). -/
theorem sysreg_charge_ibud :
    (s.charge 1).sysreg 0 =
      if s.me.kind = .group then
        BitVec.ofInt 64 (sat64 ((if s.me.kind = .group then s.team s.me.team else Team.empty).ci - 1)) else 0 := by
  obtain ⟨a, b, c, hme⟩ := charge_me s 1
  show BitVec.ofInt 64 (if (s.charge 1).me.kind = .group then (s.charge 1).team (s.charge 1).me.team else Team.empty).ci = _
  rw [hme]
  show BitVec.ofInt 64 (if s.me.kind = .group then (s.charge 1).team s.me.team else Team.empty).ci = _
  rw [charge_myTeam 1 hp]
  split <;> rfl

/-- The charge of an SRSR moves no bytes, so TBUD shows what it showed. -/
theorem sysreg_charge_tbud :
    (s.charge 1).sysreg 1 =
      if s.me.kind = .group then
        BitVec.ofInt 64 (sat64 (if s.me.kind = .group then s.team s.me.team else Team.empty).ct) else 0 := by
  obtain ⟨a, b, c, hme⟩ := charge_me s 1
  show BitVec.ofInt 64 (if (s.charge 1).me.kind = .group then (s.charge 1).team (s.charge 1).me.team else Team.empty).ct = _
  rw [hme]
  show BitVec.ofInt 64 (if s.me.kind = .group then (s.charge 1).team s.me.team else Team.empty).ct = _
  rw [charge_myTeam 1 hp]
  split <;> rfl

/-- Every other system register shows no charge. -/
theorem sysreg_charge {n : Nat} (hn : 2 ≤ n) : (s.charge 1).sysreg n = s.sysreg n := by
  obtain ⟨a, b, c, hme⟩ := charge_me s 1
  have hteam := charge_myTeam 1 hp
  obtain ⟨x, y, htask⟩ := charge_task s 1 s.me.task
  have hctx : (s.charge 1).ctx = s.ctx := by
    unfold State.ctx
    rw [hme, charge_cur]
    rfl
  have hhandle : (s.charge 1).handle s.cur.g = s.handle s.cur.g :=
    congrArg (handleOf s.cur.g) (charge_grp_view (fun g => g.gen) (fun _ _ _ _ => rfl) s 1 s.cur.g)
  have htick : (s.charge 1).tick = s.tick := (congrArg State.tick (quiet_charge s 1).rest :)
  have h0 : n ≠ 0 := by omega
  have h1 : n ≠ 1 := by omega
  have hmeteam : (s.me.counted a b c).team = s.me.team := rfl
  have hmetask : (s.me.counted a b c).task = s.me.task := rfl
  have hmekind : (s.me.counted a b c).kind = s.me.kind := rfl
  unfold State.sysreg
  simp only [hctx, htick, hme, charge_cur, hhandle, hmeteam, hmetask, hmekind, hteam, htask, h0, h1, if_false]
  by_cases hk : s.me.kind = .group
  · simp only [hk, if_true]
    rfl
  · simp only [hk, if_false]
    rfl

end

/-! ## SRSR and SWSR (06 R108-R110) -/

section
variable {s : State} (hp : s.plain = true)
include hp

/-- SRSR of an assigned number writes what the register holds once the SRSR is charged. -/
theorem srsr_writes {d n : Nat} {v : DWord} (hn : sysregAssigned n = true) (hq : n = 6 → ∀ o ∈ s.me.ops, o.isQmv = false)
    (hv : (s.charge 1).sysreg n = v) : WritesS 1 (.srsr d n) d v s := by
  have hwait : (decide (n = 6) && s.me.ops.any Op.isQmv) = false := by
    by_cases h : n = 6
    · rw [Bool.and_eq_false_iff, List.any_eq_false]
      exact .inr (fun o ho => by rw [hq h o ho]; decide)
    · rw [decide_eq_false h, Bool.false_and]
  refine writesS_of s _ 1 d v hp ?_
  show Host.Outcome.next (guarded _ _ s) = _
  rw [guarded_passes _ _ _ _ (by rw [hn]; rfl), guarded_passes _ _ _ _ hwait, guarded_nil, hv]

/-- SWSR of an assigned number makes of the group what `Group.setSysreg` says. -/
theorem swsr_runs {n a : Nat} {f : Group → Group} (hn : sysregAssigned n = true)
    (hf : ∀ g, Group.setSysreg n (s.sreg a) g = f g) (hbare : ∀ g, (f g).bare = f g.bare) (hctx : ∀ g, (f g).ctxs = g.ctxs) :
    Runs (.swsr n a) 1 0 (fun g => (f g).goOn s.cur.i 4) s := by
  have hex : exec (.swsr n a) s = .next (((s.charge 1).modMe f).advance 4) := by
    show Host.Outcome.next (guarded _ _ s) = _
    rw [guarded_passes _ _ _ _ (by rw [hn]; rfl), guarded_nil, funext hf]
  exact ⟨_, hex, runs_charged 1 4 (Respects.of_comm hbare) (fun g => by unfold Group.ctx; rw [hctx]) hp⟩

end

/-- An unassigned number traps ILLEGAL 8 before anything else (06 R108). -/
theorem sysreg_unassigned {s : State} {d n a : Nat} (hn : sysregAssigned n = false) :
    Traps (.srsr d n) causeIllegal 8 0 4 s ∧ Traps (.swsr n a) causeIllegal 8 0 4 s :=
  ⟨congrArg Host.Outcome.next (guarded_fails _ _ _ _ (by rw [hn]; rfl)),
    congrArg Host.Outcome.next (guarded_fails _ _ _ _ (by rw [hn]; rfl))⟩

/-- Twice an immediate, by a shift. -/
theorem add_self_eq_shiftLeft_one (x : DWord) : x + x = x <<< 1 := by
  rw [BitVec.shiftLeft_eq_mul_twoPow]
  bv_omega

/-- SADR (06 R111). -/
theorem sadr_writes {s : State} (hp : s.plain = true) (d a : Nat) (x : SSrc) :
    WritesS 1 (.sadr d a x) d
      (s.ctx.pc + s.sreg a + (match x with | .reg r => s.sreg r | .imm i => i.signExtend 64 <<< 1)) s := by
  refine writesS_of s _ 1 d _ hp ?_
  cases x with
  | reg r => rfl
  | imm i =>
    show _ = Host.Outcome.next (((s.charge 1).setS d (s.ctx.pc + s.sreg a + i.signExtend 64 <<< 1)).advance 4)
    rw [← add_self_eq_shiftLeft_one]
    rfl

/-- The registers obs1 to obs7 (06 R110). -/
theorem sysreg_obs (s : State) {j : Nat} (h1 : 1 ≤ j) (h7 : j ≤ 7) : s.sysreg (7 + j) = (s.me.obs.get 0 j).setWidth 64 := by
  interval_cases j <;> rfl

theorem setSysreg_obs {j : Nat} (h1 : 1 ≤ j) (h7 : j ≤ 7) (x : DWord) (g : Group) :
    Group.setSysreg (7 + j) x g = { g with obs := g.obs.ins j (x.setWidth 7) } := by
  interval_cases j <;> rfl

theorem sysregAssigned_obs {j : Nat} (h1 : 1 ≤ j) (h7 : j ≤ 7) : sysregAssigned (7 + j) = true := by
  interval_cases j <;> rfl

/-- A write to a read-only register changes nothing (06 R108). -/
theorem setSysreg_read_only {n : Nat} (h : ¬(4 ≤ n ∧ n ≤ 6)) (hobs : ¬(8 ≤ n ∧ n ≤ 14)) (x : DWord) (g : Group) :
    Group.setSysreg n x g = g := by
  unfold Group.setSysreg
  rw [if_neg (by omega), if_neg (by omega), if_neg (by omega), if_neg hobs]

/-- Settles O12: each read by `srsr_writes` and what a charge shows, each write by `swsr_runs`. -/
theorem systemRegisters : Obligations.SystemRegisters := by
  unfold Obligations.SystemRegisters
  intro s d n a x hp g group m k reads sets w
  have read : ∀ {j : Nat} {v : DWord}, 2 ≤ j → j ≠ 6 → sysregAssigned j = true → s.sysreg j = v → reads j v :=
    fun h2 h6 hj hv => srsr_writes hp hj (fun h => absurd h h6) ((sysreg_charge hp h2).trans hv)
  have low : ∀ {j : Nat} {v : DWord}, 2 ≤ j → j < 6 → s.sysreg j = v → reads j v :=
    fun h2 h6 hv => read h2 (by omega) (by simp [sysregAssigned]; omega) hv
  have mid : ∀ {j : Nat} {v : DWord}, 16 ≤ j → j < 30 → s.sysreg j = v → reads j v :=
    fun h2 h6 hv => read (by omega) (by omega) (by simp [sysregAssigned]; omega) hv
  have budget : ∀ {j : Nat} {v : DWord}, j < 2 → (s.charge 1).sysreg j = v → reads j v :=
    fun h2 hv => srsr_writes hp (by simp [sysregAssigned]; omega) (fun h => absurd h (by omega)) hv
  refine ⟨⟨budget (by decide) (sysreg_charge_ibud hp), budget (by decide) (sysreg_charge_tbud hp),
    low (by decide) (by decide) rfl, low (by decide) (by decide) rfl, low (by decide) (by decide) rfl, low (by decide) (by decide) rfl,
    fun hq => srsr_writes hp rfl (fun _ => hq) (sysreg_charge hp (by decide)),
    fun j h1 h7 => read (by omega) (by omega) (sysregAssigned_obs h1 h7) (sysreg_obs s h1 h7),
    mid (by decide) (by decide) rfl, mid (by decide) (by decide) rfl, mid (by decide) (by decide) rfl,
    mid (by decide) (by decide) rfl, mid (by decide) (by decide) rfl, mid (by decide) (by decide) rfl,
    mid (by decide) (by decide) rfl, mid (by decide) (by decide) rfl, mid (by decide) (by decide) rfl,
    mid (by decide) (by decide) rfl, mid (by decide) (by decide) rfl, mid (by decide) (by decide) rfl,
    mid (by decide) (by decide) rfl, mid (by decide) (by decide) rfl,
    read (by decide) (by decide) rfl rfl, read (by decide) (by decide) rfl rfl, read (by decide) (by decide) rfl rfl⟩,
    ⟨swsr_runs hp rfl (fun _ => rfl) (fun _ => rfl) (fun _ => rfl), swsr_runs hp rfl (fun _ => rfl) (fun _ => rfl) (fun _ => rfl),
      swsr_runs hp rfl (fun _ => rfl) (fun _ => rfl) (fun _ => rfl),
      fun j h1 h7 => swsr_runs hp (sysregAssigned_obs h1 h7) (setSysreg_obs h1 h7 _) (fun _ => rfl) (fun _ => rfl),
      fun hn hlow hobs => swsr_runs hp hn (setSysreg_read_only hlow hobs _) (fun _ => rfl) (fun _ => rfl)⟩,
    sysreg_unassigned, sadr_writes hp d a x⟩

end Sys2Proof.Machine


/-! # FP32, packed and conversion instructions (obligation O23) -/

namespace Sys2Proof.Machine

section
variable {s : State} {d a : Nat} {i : Instr} {op cost : Nat} (hp : s.plain = true)
include hp

/-- A V-class instruction whose two registers are allocated and of which no lane traps. -/
theorem long_writes {res : State → Nat → LaneRes} {src : State → Nat → LaneSrc} {x : Nat → Word}
    (hv : s.vOk d 1 1 = true ∧ s.vOk a 1 1 = true) (hx : ∀ l, (res s l).words = [x l])
    (hnf : ∀ l, nfClass s.me.trapnf (res s l).ev = none)
    (he : exec i s = .next (laneOp (vForm op cost d [⟨d, 1, 1⟩, ⟨a, 1, 1⟩]) res src s)) :
    WritesV cost 4 i d x (s.events (fun l => (res s l).ev)) s :=
  laneOp_writes (f := vForm op cost d [⟨d, 1, 1⟩, ⟨a, 1, 1⟩]) hp rfl (by simp [State.vAll, vForm, hv.1, hv.2]) hx hnf he

/-- One that raises no event in any lane writes whatever TRAPNF holds. -/
theorem long_writesV {res : State → Nat → LaneRes} {src : State → Nat → LaneSrc} {x : Nat → Word}
    (hv : s.vOk d 1 1 = true ∧ s.vOk a 1 1 = true) (hx : ∀ l, res s l = word1 (x l))
    (he : exec i s = .next (laneOp (vForm op cost d [⟨d, 1, 1⟩, ⟨a, 1, 1⟩]) res src s)) : WritesV cost 4 i d x 0 s := by
  have h := long_writes hp hv (fun l => by rw [hx]; rfl) (fun l => by rw [hx]; exact nfClass_zero_events _) he
  rw [show s.events (fun l => (res s l).ev) = 0 from lanesEv_const_zero (fun l => by rw [hx]; rfl)] at h
  exact h

/-- One with a floating result, where no class traps (04 R71). -/
theorem long_writesF {res : State → Nat → LaneRes} {src : State → Nat → LaneSrc} {x : Nat → FRes}
    (hv : s.vOk d 1 1 = true ∧ s.vOk a 1 1 = true) (hnf : s.me.trapnf = 0) (hx : ∀ l, res s l = fres (x l))
    (he : exec i s = .next (laneOp (vForm op cost d [⟨d, 1, 1⟩, ⟨a, 1, 1⟩]) res src s)) : WritesF cost 4 i d x s := by
  have h := long_writes hp hv (fun l => by rw [hx]; rfl) (fun l => by rw [hnf]; exact nfClass_no_class _) he
  simp only [hx] at h
  exact h

/-- One whose lanes make one word each, where no class traps. -/
theorem long_writesW {res : State → Nat → LaneRes} {src : State → Nat → LaneSrc} {x : Nat → Word} {ev : Nat → Ev}
    (hv : s.vOk d 1 1 = true ∧ s.vOk a 1 1 = true) (hnf : s.me.trapnf = 0) (hx : ∀ l, res s l = ⟨[x l], ev l⟩)
    (he : exec i s = .next (laneOp (vForm op cost d [⟨d, 1, 1⟩, ⟨a, 1, 1⟩]) res src s)) :
    WritesV cost 4 i d x (s.events ev) s := by
  have h := long_writes hp hv (fun l => by rw [hx]) (fun l => by rw [hnf]; exact nfClass_no_class _) he
  simp only [hx] at h
  exact h

end

/-- The upper half of a word (07 R140). -/
theorem half_one (x : Word) : half 1 x = x.toNat / 65536 :=
  Nat.mod_eq_of_lt (Nat.div_lt_of_lt_mul x.isLt)

/-- A lane's result of one word. -/
def LaneRes.single (r : LaneRes) : Prop := r = ⟨[r.words.headD 0], r.ev⟩

theorem LaneRes.single_ite {p : Prop} [Decidable p] {x y : LaneRes} (hx : x.single) (hy : y.single) : (if p then x else y).single := by
  split
  · exact hx
  · exact hy

/-- VCVT makes one word in each lane. -/
theorem vcvt_single (c m : Nat) (a d : Word) : (vcvt c m a d).single := by
  unfold vcvt
  repeat' apply LaneRes.single_ite
  all_goals rfl

/-- Settles O23: each instruction is `laneOp` of `vForm` with the operation of 04 that it names. -/
theorem vectorFloat : Obligations.VectorFloat := by
  unfold Obligations.VectorFloat
  intro s d a c b hp hd hd256 ha ha256 m x y z halves pack
  have hv : s.vOk d 1 1 = true ∧ s.vOk a 1 1 = true := ⟨State.vOk_one hd hd256, State.vOk_one ha ha256⟩
  refine ⟨long_writesV hp hv (fun _ => rfl) rfl, long_writesV hp hv (fun _ => rfl) rfl, fun hnf => ?_, fun hc => ?_⟩
  · have halved : ∀ {i : Instr} {op : Nat} {ty : ObTy} {f : Fmt} (k : Nat → FVal → FVal → FVal → FRes),
        exec i s = .next (vArith op 1 ty (packed f k) d a b s) → halves i ty f (k m) :=
      fun _ he => long_writesW hp hv hnf (fun _ => rfl) he
    have packs : ∀ {i : Instr} {op : Nat} {f : Fmt}, exec i s = .next (vArith op 1 .f32 (pack8 f) d a b s) → pack i f :=
      fun he => long_writesW hp hv hnf (fun l => by simp only [pack8, half_one]; rfl) he
    refine ⟨long_writesF hp hv hnf (fun _ => rfl) rfl, long_writesF hp hv hnf (fun _ => rfl) rfl,
      long_writesF hp hv hnf (fun _ => rfl) rfl, long_writesF hp hv hnf (fun _ => rfl) rfl,
      long_writesF hp hv hnf (fun _ => rfl) rfl, long_writesF hp hv hnf (fun _ => rfl) rfl,
      long_writesF hp hv hnf (fun _ => rfl) rfl, long_writesF hp hv hnf (fun _ => rfl) rfl,
      long_writesF hp hv hnf (fun _ => rfl) rfl, long_writesF hp hv hnf (fun _ => rfl) rfl,
      long_writesF hp hv hnf (fun _ => rfl) rfl, long_writesF hp hv hnf (fun _ => rfl) rfl,
      long_writesF hp hv hnf (fun _ => rfl) rfl, long_writesF hp hv hnf (fun _ => rfl) rfl,
      long_writesF hp hv hnf (fun _ => rfl) rfl,
      halved (fun m p q _ => fmt16.add m p q) rfl, halved (fun m p q _ => fmt16.mul m p q) rfl,
      halved (fun m p q r => fmt16.fma m p q (some r)) rfl, halved (fun m p q _ => fmtB16.add m p q) rfl,
      halved (fun m p q _ => fmtB16.mul m p q) rfl, halved (fun m p q r => fmtB16.fma m p q (some r)) rfl,
      packs rfl, packs rfl, fun hc => ?_⟩
    have he : exec (.vcvt d a c) s = .next (laneOp (vForm 0x50 1 d [⟨d, 1, 1⟩, ⟨a, 1, 1⟩])
        (fun s l => vcvt c s.me.frm.toNat (s.v a l) (s.v d l)) (fun s l => ⟨s.v a l, 0⟩) s) :=
      congrArg Host.Outcome.next (guarded_passes _ _ _ _ (decide_eq_false (by omega)))
    refine long_writesW hp hv hnf (fun l => ?_) he
    exact vcvt_single c m (s.v a l) (s.v d l)
  · exact congrArg Host.Outcome.next (guarded_fails _ _ _ _ (decide_eq_true hc))

end Sys2Proof.Machine


/-! # Rounding to whole numbers, and the model's rounding of m * 2^e (obligation O24) -/

namespace Sys2Proof.Machine

section
variable {K : Type} [Field K]

/-! ## Rounding to a whole number (04 R67) -/

/-- The factor of a sign. -/
def sgn (n : Bool) : Int := if n then -1 else 1

@[simp] theorem sgn_true : sgn true = -1 := rfl
@[simp] theorem sgn_false : sgn false = 1 := rfl

theorem sgn_ne_zero [CharZero K] (n : Bool) : ((sgn n : Int) : K) ≠ 0 := by cases n <;> simp

variable [LinearOrder K] [IsStrictOrderedRing K]

theorem abs_sgn (n : Bool) : |((sgn n : Int) : K)| = 1 := by cases n <;> simp

variable [FloorRing K]

theorem floor_le_toWhole (mode : Nat) (x : K) : ⌊x⌋ ≤ toWhole mode x := by
  have h := Int.floor_le_ceil x
  unfold toWhole
  split_ifs <;> omega

theorem toWhole_le_ceil (mode : Nat) (x : K) : toWhole mode x ≤ ⌈x⌉ := by
  have h := Int.floor_le_ceil x
  have hup : 0 < Int.fract x → ⌊x⌋ + 1 ≤ ⌈x⌉ := fun hf => by
    have : ⌊x⌋ < ⌈x⌉ := Int.lt_ceil.mpr (by have := Int.floor_add_fract x; linarith)
    omega
  unfold toWhole
  split_ifs with h0 hd h1 hn
  · exact h
  · refine hup (lt_of_lt_of_le (by norm_num) (not_lt.mp (fun hlt => hd (.inl hlt)) : (1 / 2 : K) ≤ _))
  · exact le_refl _
  · exact h
  · exact le_refl _
  · exact h

/-- Rounding passes no whole number below. -/
theorem le_toWhole (mode : Nat) {x : K} {k : Int} (h : (k : K) ≤ x) : k ≤ toWhole mode x :=
  (Int.le_floor.mpr h).trans (floor_le_toWhole mode x)

/-- Rounding passes no whole number above. -/
theorem toWhole_le (mode : Nat) {x : K} {k : Int} (h : x ≤ k) : toWhole mode x ≤ k :=
  (toWhole_le_ceil mode x).trans (Int.ceil_le.mpr h)

@[simp] theorem toWhole_intCast (mode : Nat) (k : Int) : toWhole mode (k : K) = k :=
  le_antisymm (toWhole_le mode (le_refl _)) (le_toWhole mode (le_refl _))

/-- Whether a mode rounds the magnitude q + t up, for a whole q and 0 ≤ t < 1. -/
def RoundsUp (mode : Nat) (n : Bool) (q : Nat) (t : K) : Prop :=
  if mode = 0 then 1 / 2 < t ∨ (t = 1 / 2 ∧ q % 2 = 1)
  else if mode = 1 then False
  else if mode = 2 then n = false ∧ t ≠ 0
  else n = true ∧ t ≠ 0

theorem floor_add_fraction {q : Nat} {t : K} (h0 : 0 ≤ t) (h1 : t < 1) : ⌊(q : K) + t⌋ = q ∧ Int.fract ((q : K) + t) = t :=
  have hfloor : ⌊(q : K) + t⌋ = q := Int.floor_eq_iff.mpr ⟨by push_cast; linarith, by push_cast; linarith⟩
  ⟨hfloor, by rw [Int.fract, hfloor]; push_cast; ring⟩

theorem floor_neg_add_fraction {q : Nat} {t : K} (h0 : 0 < t) (h1 : t < 1) :
    ⌊-((q : K) + t)⌋ = -(q : Int) - 1 ∧ Int.fract (-((q : K) + t)) = 1 - t :=
  have hfloor : ⌊-((q : K) + t)⌋ = -(q : Int) - 1 := Int.floor_eq_iff.mpr ⟨by push_cast; linarith, by push_cast; linarith⟩
  ⟨hfloor, by rw [Int.fract, hfloor]; push_cast; ring⟩

theorem ceil_add_fraction {q : Nat} {t : K} (h0 : 0 < t) (h1 : t < 1) : ⌈(q : K) + t⌉ = q + 1 :=
  Int.ceil_eq_iff.mpr ⟨by push_cast; linarith, by push_cast; linarith⟩

/-- A whole number is its own rounding, so no mode rounds it up. -/
theorem not_roundsUp_zero (mode : Nat) (n : Bool) (q : Nat) : ¬RoundsUp mode n q (0 : K) := by
  unfold RoundsUp
  have h : ¬((1 : K) / 2 < 0 ∨ ((0 : K) = 1 / 2 ∧ q % 2 = 1)) := by norm_num
  split_ifs <;> simp_all

omit [IsStrictOrderedRing K] [FloorRing K] in
/-- To nearest, what lies below a half is not rounded up, what lies above is, and a tie is where q is odd. -/
theorem roundsUp_nearest {n up : Bool} {q : Nat} {t : K} (hup : up = true ↔ RoundsUp 0 n q t) :
    (t < 1 / 2 → up = false) ∧ (1 / 2 < t → up = true) ∧
      (t = 1 / 2 → (q % 2 = 0 → up = false) ∧ (q % 2 = 1 → up = true)) := by
  have h : up = true ↔ 1 / 2 < t ∨ (t = 1 / 2 ∧ q % 2 = 1) := hup
  refine ⟨fun hlt => ?_, fun hgt => h.mpr (.inl hgt), fun heq => ⟨fun hq => ?_, fun hq => h.mpr (.inr ⟨heq, hq⟩)⟩⟩
  · exact Bool.eq_false_iff.mpr (fun hu => (h.mp hu).elim hlt.not_gt (fun e => hlt.ne e.1))
  · exact Bool.eq_false_iff.mpr (fun hu => (h.mp hu).elim (fun e => e.ne' heq) (fun e => by omega))

/-- The mode's choice for a positive number: the whole number below, or the next. -/
theorem toWhole_pos {mode q : Nat} {t : K} {up : Bool} (h0 : 0 < t) (h1 : t < 1) (hup : up = true ↔ RoundsUp mode false q t) :
    toWhole mode ((q : K) + t) = q + up.toNat := by
  obtain ⟨hfloor, hfract⟩ := floor_add_fraction (q := q) h0.le h1
  have hceil := ceil_add_fraction (q := q) h0 h1
  have hneg : ¬((q : K) + t < 0) := by have : (0 : K) ≤ q := Nat.cast_nonneg q; linarith
  match mode, hup with
  | 0, hup =>
    obtain ⟨hlow, hhigh, htie⟩ := roundsUp_nearest hup
    rw [toWhole, if_pos rfl, hfract, hfloor]
    rcases lt_trichotomy t (1 / 2) with hlt | heq | hgt
    · rw [if_pos (.inl hlt), hlow hlt, Bool.toNat_false, Nat.cast_zero, add_zero]
    · rcases Nat.mod_two_eq_zero_or_one q with hq | hq
      · rw [if_pos (.inr ⟨heq, by omega⟩), (htie heq).1 hq, Bool.toNat_false, Nat.cast_zero, add_zero]
      · rw [if_neg (by rintro (h | ⟨-, h⟩) <;> [exact h.ne heq; omega]), (htie heq).2 hq, Bool.toNat_true, Nat.cast_one]
    · rw [if_neg (by rintro (h | ⟨h, -⟩) <;> linarith), hhigh hgt, Bool.toNat_true, Nat.cast_one]
  | 1, hup =>
    have hd : up = false := by simpa [RoundsUp] using hup
    rw [toWhole, if_neg (by decide), if_pos rfl, if_neg hneg, hfloor, hd, Bool.toNat_false, Nat.cast_zero, add_zero]
  | 2, hup =>
    have hd : up = true := by simpa [RoundsUp, h0.ne'] using hup
    rw [toWhole, if_neg (by decide), if_neg (by decide), if_pos rfl, hceil, hd, Bool.toNat_true, Nat.cast_one]
  | m + 3, hup =>
    have hd : up = false := by simpa [RoundsUp] using hup
    rw [toWhole, if_neg (by omega), if_neg (by omega), if_neg (by omega), hfloor, hd, Bool.toNat_false, Nat.cast_zero, add_zero]

/-- The mode's choice for a negative number, told by its magnitude. -/
theorem toWhole_neg {mode q : Nat} {t : K} {up : Bool} (h0 : 0 < t) (h1 : t < 1) (hup : up = true ↔ RoundsUp mode true q t) :
    toWhole mode (-((q : K) + t)) = -(q + up.toNat : Int) := by
  obtain ⟨hfloor, hfract⟩ := floor_neg_add_fraction (q := q) h0 h1
  have hceil : ⌈-((q : K) + t)⌉ = -(q : Int) := by rw [Int.ceil_neg, (floor_add_fraction h0.le h1).1]
  have hneg : -((q : K) + t) < 0 := by have : (0 : K) ≤ q := Nat.cast_nonneg q; linarith
  match mode, hup with
  | 0, hup =>
    obtain ⟨hlow, hhigh, htie⟩ := roundsUp_nearest hup
    rw [toWhole, if_pos rfl, hfract, hfloor]
    rcases lt_trichotomy t (1 / 2) with hlt | heq | hgt
    · rw [if_neg (by rintro (h | ⟨h, -⟩) <;> linarith), hlow hlt, Bool.toNat_false]
      omega
    · have hhalf : 1 - t = 1 / 2 := by linarith
      rcases Nat.mod_two_eq_zero_or_one q with hq | hq
      · rw [if_neg (by rintro (h | ⟨-, h⟩) <;> [exact h.ne hhalf; omega]), (htie heq).1 hq, Bool.toNat_false]
        omega
      · rw [if_pos (.inr ⟨hhalf, by omega⟩), (htie heq).2 hq, Bool.toNat_true]
        omega
    · rw [if_pos (.inl (by linarith)), hhigh hgt, Bool.toNat_true]
      omega
  | 1, hup =>
    have hd : up = false := by simpa [RoundsUp] using hup
    rw [toWhole, if_neg (by decide), if_pos rfl, if_pos hneg, hceil, hd, Bool.toNat_false, Nat.cast_zero, add_zero]
  | 2, hup =>
    have hd : up = false := by simpa [RoundsUp] using hup
    rw [toWhole, if_neg (by decide), if_neg (by decide), if_pos rfl, hceil, hd, Bool.toNat_false, Nat.cast_zero, add_zero]
  | m + 3, hup =>
    have hd : up = true := by simpa [RoundsUp, h0.ne'] using hup
    rw [toWhole, if_neg (by omega), if_neg (by omega), if_neg (by omega), hfloor, hd, Bool.toNat_true]
    omega

/-- The rounding of ±(q + t) is ±q or ±(q + 1), as the mode says of the magnitude. -/
theorem toWhole_signed {mode : Nat} {n : Bool} {q : Nat} {t : K} {up : Bool} (h0 : 0 ≤ t) (h1 : t < 1)
    (hup : up = true ↔ RoundsUp mode n q t) : toWhole mode ((sgn n : K) * (q + t)) = sgn n * ((q + up.toNat : Nat) : Int) := by
  rcases h0.eq_or_lt with rfl | hpos
  · have hd : up = false := Bool.eq_false_iff.mpr (fun h => not_roundsUp_zero mode n q (hup.mp h))
    rw [hd, Bool.toNat_false, add_zero, add_zero]
    exact_mod_cast toWhole_intCast (K := K) mode (sgn n * q)
  · cases n with
    | false => simpa using toWhole_pos hpos h1 hup
    | true => simpa using toWhole_neg hpos h1 hup

/-! ## The model's rounding of m * 2^e to multiples of 2^k (04 R68) -/

/-- m * 2^e stands for x in a rounding to multiples of 2^k: it is x, or its odd m is a sticky bit for a number strictly between
its neighbours. -/
def Stands (k : Int) (x : K) (m : Nat) (e : Int) : Prop :=
  x = m * 2 ^ e ∨ (m % 2 = 1 ∧ e + 2 ≤ k ∧ ((m : K) - 1) * 2 ^ e < x ∧ x < ((m : K) + 1) * 2 ^ e)

omit [IsStrictOrderedRing K] [FloorRing K] in
theorem Stands.mono {k j : Int} {x : K} {m : Nat} {e : Int} (h : Stands k x m e) (hkj : k ≤ j) : Stands j x m e :=
  h.imp_right (fun ⟨hodd, hk, hlo, hhi⟩ => ⟨hodd, hk.trans hkj, hlo, hhi⟩)

omit [FloorRing K] in
theorem two_zpow_pos (e : Int) : (0 : K) < 2 ^ e := zpow_pos two_pos e

/-- A number that an integer with a sticky last bit stands for, or an integer, against a multiple of 4 or of any d. -/
theorem sticky_compare {w : K} {m c : Nat} (h : w = m ∨ (m % 2 = 1 ∧ c % 2 = 0 ∧ (m : K) - 1 < w ∧ w < (m : K) + 1)) :
    (w < c ↔ m < c) ∧ ((c : K) < w ↔ c < m) := by
  rcases h with rfl | ⟨hm, hc, hlo, hhi⟩
  · exact ⟨Nat.cast_lt, Nat.cast_lt⟩
  · rcases (show m < c ∨ c < m by omega) with hlt | hgt
    · have : (m : K) + 1 ≤ c := by exact_mod_cast hlt
      exact ⟨iff_of_true (by linarith) hlt, iff_of_false (by linarith) (by omega)⟩
    · have : (c : K) + 1 ≤ m := by exact_mod_cast hgt
      exact ⟨iff_of_false (by linarith) (by omega), iff_of_true (by linarith) hgt⟩

/-- The multiple q of 2^k below x, and the rest t: it compares with nothing and with a half as r = m - q * d does with 0 and d,
for d = 2^(k-e). -/
theorem Stands.quotient {k : Int} {x : K} {m : Nat} {e : Int} (h : Stands k x m e) (hke : e < k) :
    ∃ t : K, x / 2 ^ k = (m / 2 ^ (k - e).toNat : Nat) + t ∧ 0 ≤ t ∧ t < 1 ∧
      (0 < t ↔ 0 < m % 2 ^ (k - e).toNat) ∧ (1 / 2 < t ↔ 2 ^ (k - e).toNat < 2 * (m % 2 ^ (k - e).toNat)) ∧
      (t < 1 / 2 ↔ 2 * (m % 2 ^ (k - e).toNat) < 2 ^ (k - e).toNat) := by
  obtain ⟨j, hj⟩ : ∃ j : Nat, k - e = j + 1 := ⟨(k - e - 1).toNat, by omega⟩
  have hjn : (k - e).toNat = j + 1 := by omega
  have hk : k = e + (j + 1 : Nat) := by push_cast; omega
  rw [hjn]
  obtain ⟨half, hhalf⟩ : ∃ half, half = 2 ^ j := ⟨_, rfl⟩
  have hd : 2 ^ (j + 1) = 2 * half := by rw [hhalf, pow_succ]; ring
  have hpos : 0 < half := by rw [hhalf]; positivity
  have hposK : (0 : K) < half := by exact_mod_cast hpos
  have he : (0 : K) < 2 ^ e := two_zpow_pos e
  have hpow : (2 : K) ^ k = 2 ^ e * (2 * half : Nat) := by
    rw [hk, zpow_add₀ two_ne_zero, zpow_natCast, ← hd]
    push_cast
    rfl
  rw [hd]
  obtain ⟨w, hx⟩ : ∃ w : K, x = w * 2 ^ e := ⟨x / 2 ^ e, by field_simp⟩
  have hw : ∀ c : Nat, (c = 0 ∨ c % half = 0) → (w < c ↔ m < c) ∧ ((c : K) < w ↔ c < m) := fun c hc => by
    refine sticky_compare ?_
    rcases h with h | ⟨hodd, hkk, hlo, hhi⟩
    · exact .inl (mul_right_cancel₀ he.ne' (hx.symm.trans h))
    · refine .inr ⟨hodd, ?_, (mul_lt_mul_iff_left₀ he).mp (hx ▸ hlo), (mul_lt_mul_iff_left₀ he).mp (hx ▸ hhi)⟩
      have heven : 2 ∣ half := by rw [hhalf]; exact dvd_pow_self 2 (by omega)
      rcases hc with rfl | hc
      · rfl
      · exact Nat.mod_eq_zero_of_dvd (heven.trans (Nat.dvd_of_mod_eq_zero hc))
  set q := m / (2 * half) with hq
  set r := m % (2 * half) with hr
  have hm : m = 2 * half * q + r := (Nat.div_add_mod m _).symm
  have hrlt : r < 2 * half := Nat.mod_lt _ (by omega)
  have hbelow := hw (2 * half * q) (.inr (by rw [mul_comm 2 half, mul_assoc]; exact Nat.mul_mod_right _ _))
  have hmid := hw (2 * half * q + half) (.inr (by rw [mul_comm 2 half, mul_assoc, Nat.add_mod_right]; exact Nat.mul_mod_right _ _))
  have habove := hw (2 * half * q + 2 * half) (.inr (by rw [← Nat.mul_succ, mul_comm 2 half, mul_assoc]; exact Nat.mul_mod_right _ _))
  push_cast at hbelow hmid habove
  obtain ⟨t, ht⟩ : ∃ t : K, w = 2 * half * q + 2 * half * t := ⟨(w - 2 * half * q) / (2 * half), by field_simp; ring⟩
  have scale : ∀ a b : K, a < b ↔ 2 * half * a < 2 * half * b := fun a b =>
    (mul_lt_mul_iff_right₀ (by positivity)).symm
  refine ⟨t, ?_, ?_, ?_, ?_, ?_, ?_⟩
  · rw [hpow, hx, ht]
    push_cast
    field_simp
  · have h := (not_congr hbelow.1).mpr (by omega)
    rw [← not_lt, scale]
    intro hc
    exact h (by linarith)
  · rw [scale]
    have h := habove.1.mpr (by omega)
    linarith
  · rw [scale, show 0 < r ↔ 2 * half * q < m by omega, ← hbelow.2, ht]
    constructor <;> intro h <;> linarith
  · rw [scale, show 2 * half < 2 * r ↔ 2 * half * q + half < m by omega, ← hmid.2, ht]
    constructor <;> intro h <;> linarith
  · rw [scale, show 2 * r < 2 * half ↔ m < 2 * half * q + half by omega, ← hmid.1, ht]
    constructor <;> intro h <;> linarith

end

end Sys2Proof.Machine


namespace Sys2Proof.Machine

section
variable {K : Type} [Field K] [LinearOrder K] [IsStrictOrderedRing K]

omit [IsStrictOrderedRing K] in
/-- The model's choice from the remainder is the mode's choice from the fraction. -/
theorem roundUp_iff {mode q r d : Nat} {n : Bool} {t : K} (h0 : 0 ≤ t) (hpos : 0 < t ↔ 0 < r) (hhigh : 1 / 2 < t ↔ d < 2 * r)
    (hlow : t < 1 / 2 ↔ 2 * r < d) : roundUp mode n q r d = true ↔ RoundsUp mode n q t := by
  have htie : t = 1 / 2 ↔ 2 * r = d := by
    constructor
    · intro he
      have h1 := hhigh.not.mp he.not_gt
      have h2 := hlow.not.mp he.not_lt
      omega
    · intro he
      exact le_antisymm (not_lt.mp (hhigh.not.mpr (by omega))) (not_lt.mp (hlow.not.mpr (by omega)))
  have hzero : t ≠ 0 ↔ r ≠ 0 := by
    rw [← h0.lt_iff_ne', hpos]
    omega
  unfold roundUp RoundsUp
  split_ifs
  · rw [Bool.or_eq_true, Bool.and_eq_true, decide_eq_true_eq, decide_eq_true_eq, decide_eq_true_eq, hhigh, htie]
  · simp
  · simp [hzero]
  · simp [hzero]

variable [FloorRing K]

theorem roundTo_fine {mode : Nat} {n : Bool} {m : Nat} {e k : Int} (h : k ≤ e) :
    roundTo mode n m e k = (m * 2 ^ (e - k).toNat, false) := if_pos h

theorem roundTo_coarse {mode : Nat} {n : Bool} {m : Nat} {e k : Int} (h : e < k) :
    roundTo mode n m e k =
      (m / 2 ^ (k - e).toNat + (roundUp mode n (m / 2 ^ (k - e).toNat) (m % 2 ^ (k - e).toNat) (2 ^ (k - e).toNat)).toNat,
        decide (m % 2 ^ (k - e).toNat ≠ 0)) := if_neg (by omega)

omit [LinearOrder K] [IsStrictOrderedRing K] [FloorRing K] in
/-- An exponent that is brought down to k. -/
theorem mul_two_pow_toNat [CharZero K] (m : Nat) {e k : Int} (h : k ≤ e) : ((m * 2 ^ (e - k).toNat : Nat) : K) * 2 ^ k = m * 2 ^ e := by
  push_cast
  rw [mul_assoc, ← zpow_natCast, ← zpow_add₀ two_ne_zero, Int.toNat_of_nonneg (by omega), Int.sub_add_cancel]

omit [IsStrictOrderedRing K] [FloorRing K] in
/-- Where the model need not round, the number is exact. -/
theorem Stands.exact {k : Int} {x : K} {m : Nat} {e : Int} (h : Stands k x m e) (hke : k ≤ e) : x = m * 2 ^ e :=
  h.resolve_right (fun ⟨_, hk, _⟩ => by omega)

/-- The model's rounding is the mode's rounding of the number that m * 2^e stands for, and it tells when that is inexact. -/
theorem roundTo_spec {k : Int} {x : K} {m : Nat} {e : Int} (mode : Nat) (n : Bool) (h : Stands k x m e) :
    toUlps mode (sgn n * x) k = sgn n * ((roundTo mode n m e k).1 * 2 ^ k) ∧
      ((roundTo mode n m e k).2 = true ↔ ((roundTo mode n m e k).1 : K) * 2 ^ k ≠ x) := by
  have hk := two_zpow_pos (K := K) k
  rcases le_or_gt k e with hke | hke
  · have hx := h.exact hke
    rw [roundTo_fine hke, mul_two_pow_toNat m hke, ← hx]
    refine ⟨?_, by simp⟩
    have hwhole : (sgn n : K) * x / 2 ^ k = ((sgn n * (m * 2 ^ (e - k).toNat : Nat) : Int) : K) := by
      rw [hx, ← mul_two_pow_toNat m hke]
      push_cast
      field_simp
    rw [toUlps, hwhole, toWhole_intCast, ← hwhole]
    field_simp
  · obtain ⟨t, hx, h0, h1, hpos, hhigh, hlow⟩ := h.quotient hke
    rw [roundTo_coarse hke]
    have hup := roundUp_iff (mode := mode) (q := m / 2 ^ (k - e).toNat) (n := n) h0 hpos hhigh hlow
    generalize roundUp mode n (m / 2 ^ (k - e).toNat) (m % 2 ^ (k - e).toNat) (2 ^ (k - e).toNat) = up at hup ⊢
    generalize m / 2 ^ (k - e).toNat = q at hx hup ⊢
    generalize m % 2 ^ (k - e).toNat = r at hpos ⊢
    have hxk : x = (q + t) * 2 ^ k := by rw [← hx]; field_simp
    constructor
    · rw [toUlps, mul_div_assoc, hx, toWhole_signed h0 h1 hup]
      push_cast
      ring
    · have hsame : ((q + up.toNat : Nat) : K) * 2 ^ k ≠ x ↔ (up.toNat : K) ≠ t := by
        rw [hxk, (mul_left_injective₀ hk.ne').ne_iff, Nat.cast_add, (add_right_injective (q : K)).ne_iff]
      show decide (r ≠ 0) = true ↔ _
      rw [hsame, decide_eq_true_eq, ← Nat.pos_iff_ne_zero, ← hpos]
      rcases h0.eq_or_lt with rfl | h0
      · have hd : up = false := Bool.eq_false_iff.mpr (fun hu => not_roundsUp_zero mode n _ (hup.mp hu))
        simp [hd]
      · refine iff_of_true h0 ?_
        cases up
        · simpa using h0.ne
        · simpa using h1.ne'

/-! ## The leading bit -/

theorem Stands.pos {k : Int} {x : K} {m : Nat} {e : Int} (h : Stands k x m e) (hm : 0 < m) : 0 < x := by
  have he := two_zpow_pos (K := K) e
  have hmK : (1 : K) ≤ m := by exact_mod_cast hm
  rcases h with rfl | ⟨-, -, hlo, -⟩
  · positivity
  · exact lt_of_le_of_lt (mul_nonneg (by linarith) he.le) hlo

/-- A number stands between powers of 2 where m * 2^e does. -/
theorem Stands.lead {k : Int} {x : K} {m : Nat} {e : Int} (h : Stands k x m e) (hm : 0 < m) (hk : k ≤ e + Nat.log2 m) :
    2 ^ (e + Nat.log2 m) ≤ x ∧ x < 2 ^ (e + Nat.log2 m + 1) := by
  have he := two_zpow_pos (K := K) e
  have hlow : 2 ^ Nat.log2 m ≤ m := Nat.log2_self_le hm.ne'
  have hhigh : m < 2 ^ (Nat.log2 m + 1) := Nat.lt_log2_self
  have hp : ∀ j : Nat, (2 : K) ^ (e + j) = ((2 ^ j : Nat) : K) * 2 ^ e := fun j => by
    rw [zpow_add₀ two_ne_zero, zpow_natCast, mul_comm]
    push_cast
    rfl
  rw [add_assoc, show (Nat.log2 m : Int) + 1 = (Nat.log2 m + 1 : Nat) by push_cast; rfl, hp, hp]
  rcases h with rfl | ⟨hodd, hk2, hlo, hhi⟩
  · exact ⟨mul_le_mul_of_nonneg_right (by exact_mod_cast hlow) he.le, mul_lt_mul_of_pos_right (by exact_mod_cast hhigh) he⟩
  · have heven : 2 ∣ 2 ^ Nat.log2 m := dvd_pow_self 2 (by omega)
    have hlow' : 2 ^ Nat.log2 m + 1 ≤ m := by omega
    have h1 : ((2 ^ Nat.log2 m : Nat) : K) + 1 ≤ m := by exact_mod_cast hlow'
    have h2 : (m : K) + 1 ≤ (2 ^ (Nat.log2 m + 1) : Nat) := by exact_mod_cast hhigh
    exact ⟨(mul_le_mul_of_nonneg_right (by linarith) he.le).trans hlo.le, lt_of_lt_of_le hhi (mul_le_mul_of_nonneg_right h2 he.le)⟩

theorem log_eq_of_between {x : K} {l : Int} (h : 2 ^ l ≤ x ∧ x < 2 ^ (l + 1)) : Int.log 2 x = l := by
  have hx : 0 < x := lt_of_lt_of_le (two_zpow_pos l) h.1
  have h1 : l ≤ Int.log 2 x := (Int.zpow_le_iff_le_log (by decide) hx).mp (by exact_mod_cast h.1)
  have h2 : Int.log 2 x < l + 1 := (Int.lt_zpow_iff_log_lt (by decide) hx).mp (by exact_mod_cast h.2)
  omega

end

end Sys2Proof.Machine


namespace Sys2Proof.Machine

/-! ## Encodings: sign, magnitude and the number they stand for (04 R62, R63) -/

/-- The shapes of the five formats of 04 R62. -/
structure Fmt.Std (f : Fmt) : Prop where
  fbits : 1 ≤ f.fbits ∧ f.fbits ≤ 23
  ebits : 2 ≤ f.ebits ∧ f.ebits ≤ 8
  bias : 1 ≤ f.bias ∧ f.bias ≤ 127

theorem std_of_mem {f : Fmt} (h : f ∈ [fmt32, fmt16, fmtB16, fmtE5, fmtE4]) : f.Std := by
  simp only [List.mem_cons, List.not_mem_nil, or_false] at h
  rcases h with rfl | rfl | rfl | rfl | rfl <;> exact ⟨by decide, by decide, by decide⟩

/-- The exponent of the last place of a subnormal. -/
def Fmt.lo (f : Fmt) : Int := 1 - (f.bias : Int) - f.fbits

/-- The significand of a magnitude, with its hidden bit. -/
def Fmt.mant (f : Fmt) (mag : Nat) : Nat := if mag / 2 ^ f.fbits = 0 then mag else 2 ^ f.fbits + mag % 2 ^ f.fbits

/-- The exponent of a magnitude's last place. -/
def Fmt.expo (f : Fmt) (mag : Nat) : Int := f.lo + ((mag / 2 ^ f.fbits - 1 : Nat) : Int)

section
variable {f : Fmt}

theorem Fmt.sign_eq (f : Fmt) (n : Bool) : f.sign n = n.toNat * 2 ^ f.ebits * 2 ^ f.fbits := by
  cases n <;> simp [Fmt.sign, pow_add, mul_comm]

theorem Fmt.field_sign_add {n : Bool} {mag : Nat} (h : mag < 2 ^ (f.fbits + f.ebits)) :
    (f.sign n + mag) / 2 ^ f.fbits % 2 ^ f.ebits = mag / 2 ^ f.fbits := by
  rw [f.sign_eq, add_comm, Nat.add_mul_div_right _ _ (by positivity), Nat.add_mul_mod_self_right]
  exact Nat.mod_eq_of_lt (Nat.div_lt_of_lt_mul (by rwa [← pow_add]))

theorem Fmt.frac_sign_add {n : Bool} {mag : Nat} : (f.sign n + mag) % 2 ^ f.fbits = mag % 2 ^ f.fbits := by
  rw [f.sign_eq, add_comm, Nat.add_mul_mod_self_right]

theorem Fmt.neg_sign_add {n : Bool} {mag : Nat} (h : mag < 2 ^ (f.fbits + f.ebits)) :
    decide ((f.sign n + mag) / 2 ^ (f.fbits + f.ebits) % 2 = 1) = n := by
  have hs : f.sign n = n.toNat * 2 ^ (f.fbits + f.ebits) := by rw [f.sign_eq, pow_add]; ring
  rw [hs, add_comm, Nat.add_mul_div_right _ _ (by positivity), Nat.div_eq_of_lt h, zero_add]
  cases n <;> rfl

theorem Fmt.Std.maxBits_lt (hf : f.Std) : f.maxBits + 1 < 2 ^ (f.fbits + f.ebits) := by
  have h1 : 2 ^ 1 ≤ 2 ^ f.fbits := Nat.pow_le_pow_right (by decide) hf.fbits.1
  have h2 : 2 ^ 2 ≤ 2 ^ f.ebits := Nat.pow_le_pow_right (by decide) hf.ebits.1
  unfold Fmt.maxBits
  rw [add_comm f.ebits, pow_add, Nat.sub_mul, one_mul, mul_comm]
  generalize 2 ^ f.fbits = P at *
  generalize 2 ^ f.ebits = Q at *
  have : 2 * P ≤ P * Q := by nlinarith
  split <;> omega

/-- Which encodings are finite, infinite and NaN (04 R62, R63). -/
theorem Fmt.Std.val_sign_add (hf : f.Std) {n : Bool} {mag : Nat} (h : mag < 2 ^ (f.fbits + f.ebits)) :
    (mag ≤ f.maxBits → f.val (f.sign n + mag) = .fin n (f.mant mag) (f.expo mag)) ∧
      (f.maxBits < mag → f.val (f.sign n + mag) = if f.inf ∧ mag = f.maxBits + 1 then .inf n else .nan) := by
  have h1 : 2 ^ 1 ≤ 2 ^ f.fbits := Nat.pow_le_pow_right (by decide) hf.fbits.1
  have h2 : 2 ^ 2 ≤ 2 ^ f.ebits := Nat.pow_le_pow_right (by decide) hf.ebits.1
  unfold Fmt.val
  simp only [Fmt.field_sign_add h, Fmt.frac_sign_add, Fmt.neg_sign_add h]
  unfold Fmt.mant Fmt.expo Fmt.maxBits Fmt.lo
  rw [add_comm f.ebits, pow_add]
  rw [pow_add] at h
  have hdm := Nat.div_add_mod mag (2 ^ f.fbits)
  have hr := Nat.mod_lt mag (show 0 < 2 ^ f.fbits by omega)
  generalize mag / 2 ^ f.fbits = E at *
  generalize mag % 2 ^ f.fbits = r at *
  generalize 2 ^ f.fbits = P at *
  generalize 2 ^ f.ebits = Q at *
  obtain ⟨R, rfl⟩ : ∃ R, Q = R + 1 := ⟨Q - 1, by omega⟩
  rw [Nat.add_sub_cancel, mul_comm R P]
  rw [mul_add, mul_one] at h ⊢
  have hE : E ≤ R := by
    by_contra hc
    have := Nat.mul_le_mul_left P (show R + 1 ≤ E by omega)
    rw [mul_add, mul_one] at this
    omega
  rcases hE.lt_or_eq with hlt | rfl
  · have hbelow := Nat.mul_le_mul_left P (show E + 1 ≤ R by omega)
    rw [mul_add, mul_one] at hbelow
    refine ⟨fun _ => ?_, fun hc => absurd hc (by split <;> omega)⟩
    rw [if_neg (by omega), if_neg (by omega)]
    by_cases h0 : E = 0
    · rw [if_pos h0, if_pos h0, h0]
      congr 1
      · rw [← hdm, h0]; omega
      · simp
    · rw [if_neg h0, if_neg h0]
      congr 1
      omega
  · have hE0 : E ≠ 0 := by omega
    have hPE : P ≤ P * E := Nat.le_mul_of_pos_right _ (by omega)
    cases hinf : f.inf
    · simp only [Bool.false_eq_true, and_false, false_and, if_false, true_and]
      refine ⟨fun hle => ?_, fun hgt => if_pos (by omega)⟩
      rw [if_neg (by omega), if_neg hE0, if_neg hE0]
      congr 1
      omega
    · simp only [and_true, true_and, if_true]
      refine ⟨fun hle => absurd hle (by omega), fun _ => ?_⟩
      by_cases hr0 : r = 0
      · rw [if_pos hr0, if_pos (by omega)]
      · rw [if_neg hr0, if_neg (by omega)]

/-- Every encoding is a sign and a magnitude. -/
theorem Fmt.exists_sign_add {b : Nat} (h : b < 2 ^ (1 + f.ebits + f.fbits)) :
    ∃ n mag, mag < 2 ^ (f.fbits + f.ebits) ∧ b = f.sign n + mag := by
  have hp : 2 ^ (1 + f.ebits + f.fbits) = 2 * 2 ^ (f.fbits + f.ebits) := by rw [← pow_succ']; ring_nf
  rw [hp] at h
  by_cases hb : b < 2 ^ (f.fbits + f.ebits)
  · exact ⟨false, b, hb, by simp [Fmt.sign]⟩
  · exact ⟨true, b - 2 ^ (f.fbits + f.ebits), by omega, by simp [Fmt.sign]; omega⟩

theorem Fmt.sign_add_lt {n : Bool} {mag : Nat} (h : mag < 2 ^ (f.fbits + f.ebits)) :
    f.sign n + mag < 2 ^ (1 + f.ebits + f.fbits) := by
  have hp : 2 ^ (1 + f.ebits + f.fbits) = 2 * 2 ^ (f.fbits + f.ebits) := by rw [← pow_succ']; ring_nf
  unfold Fmt.sign
  split <;> omega

/-- A finite encoding is a sign and a magnitude that is not beyond the largest. -/
theorem Fmt.Std.of_fin (hf : f.Std) {b : Nat} (h : b < 2 ^ (1 + f.ebits + f.fbits)) {n : Bool} {m : Nat} {e : Int}
    (hv : f.val b = .fin n m e) : ∃ mag, mag ≤ f.maxBits ∧ b = f.sign n + mag ∧ m = f.mant mag ∧ e = f.expo mag := by
  obtain ⟨k, mag, hmag, rfl⟩ := Fmt.exists_sign_add h
  obtain ⟨hfin, hnot⟩ := hf.val_sign_add (n := k) hmag
  rcases le_or_gt mag f.maxBits with hle | hgt
  · rw [hfin hle] at hv
    obtain ⟨rfl, rfl, rfl⟩ := FVal.fin.inj hv
    exact ⟨mag, hle, rfl, rfl, rfl⟩
  · rw [hnot hgt] at hv
    split at hv <;> simp at hv

end

/-! ## The number of a magnitude -/

section
variable {K : Type} [Field K] [LinearOrder K] [IsStrictOrderedRing K] {f : Fmt}

/-- The number of a magnitude. -/
def Fmt.num (f : Fmt) (mag : Nat) : K := f.mant mag * 2 ^ f.expo mag

omit [LinearOrder K] [IsStrictOrderedRing K] in
/-- The number of a magnitude by its parts: E is the exponent field less the hidden bit, which q holds. -/
theorem Fmt.num_parts [CharZero K] {E q : Nat} (hq : q ≤ 2 ^ (f.fbits + 1)) (h : E = 0 ∨ 2 ^ f.fbits ≤ q) :
    (f.num (E * 2 ^ f.fbits + q) : K) = q * 2 ^ (f.lo + E) := by
  have hP : 0 < 2 ^ f.fbits := by positivity
  rw [pow_succ] at hq
  unfold Fmt.num Fmt.mant Fmt.expo
  rcases lt_trichotomy q (2 ^ f.fbits) with hlt | heq | hgt
  · obtain rfl : E = 0 := by omega
    rw [zero_mul, zero_add, Nat.div_eq_of_lt hlt, if_pos rfl]
  · have hdiv : (E * 2 ^ f.fbits + q) / 2 ^ f.fbits = E + 1 := by
      rw [heq, ← Nat.succ_mul, Nat.mul_div_cancel _ hP]
    have hmod : (E * 2 ^ f.fbits + q) % 2 ^ f.fbits = 0 := by
      rw [heq, ← Nat.succ_mul, Nat.mul_mod_left]
    rw [hdiv, hmod, if_neg (by omega), heq, Nat.add_sub_cancel, add_zero]
  · rcases hq.lt_or_eq with hq2 | hq2
    · have hdiv : (E * 2 ^ f.fbits + q) / 2 ^ f.fbits = E + 1 :=
        Nat.div_eq_of_lt_le (by rw [Nat.succ_mul]; omega) (by rw [Nat.succ_mul, Nat.succ_mul]; omega)
      have hmod : 2 ^ f.fbits + (E * 2 ^ f.fbits + q) % 2 ^ f.fbits = q := by
        have := Nat.div_add_mod (E * 2 ^ f.fbits + q) (2 ^ f.fbits)
        rw [hdiv, mul_comm, Nat.succ_mul] at this
        omega
      rw [hdiv, hmod, if_neg (by omega), Nat.add_sub_cancel]
    · have hsum : E * 2 ^ f.fbits + q = (E + 2) * 2 ^ f.fbits := by rw [hq2, Nat.add_mul, mul_comm 2]
      rw [hsum, Nat.mul_div_cancel _ hP, Nat.mul_mod_left, if_neg (by omega), hq2,
        show ((E + 2 - 1 : Nat) : Int) = E + 1 by omega, ← add_assoc, zpow_add_one₀ two_ne_zero]
      push_cast
      ring

/-- A magnitude's parts. -/
theorem Fmt.exists_parts (f : Fmt) (mag : Nat) :
    ∃ E q, mag = E * 2 ^ f.fbits + q ∧ q < 2 ^ (f.fbits + 1) ∧ (E = 0 ∨ 2 ^ f.fbits ≤ q) := by
  have hP : 0 < 2 ^ f.fbits := by positivity
  have hdm := Nat.div_add_mod mag (2 ^ f.fbits)
  have hr := Nat.mod_lt mag hP
  rw [pow_succ]
  rcases Nat.eq_zero_or_pos (mag / 2 ^ f.fbits) with h0 | h0
  · exact ⟨0, mag, by omega, by rw [h0] at hdm; omega, .inl rfl⟩
  · obtain ⟨E, hE⟩ : ∃ E, mag / 2 ^ f.fbits = E + 1 := ⟨mag / 2 ^ f.fbits - 1, by omega⟩
    refine ⟨E, 2 ^ f.fbits + mag % 2 ^ f.fbits, ?_, by omega, .inr (by omega)⟩
    rw [hE, mul_add, mul_one, mul_comm] at hdm
    omega

/-- Greater magnitudes stand for greater numbers. -/
theorem Fmt.num_strictMono (f : Fmt) : StrictMono (f.num : Nat → K) := by
  refine strictMono_nat_of_lt_succ (fun mag => ?_)
  obtain ⟨E, q, rfl, hq, h⟩ := f.exists_parts mag
  rw [add_assoc, Fmt.num_parts hq.le h, Fmt.num_parts hq (h.imp_right (by omega))]
  exact mul_lt_mul_of_pos_right (by exact_mod_cast Nat.lt_succ_self q) (two_zpow_pos _)

omit [LinearOrder K] [IsStrictOrderedRing K] in
theorem Fmt.num_zero (f : Fmt) : (f.num 0 : K) = 0 := by simp [Fmt.num, Fmt.mant]

theorem Fmt.num_nonneg (f : Fmt) (mag : Nat) : (0 : K) ≤ f.num mag := by
  rw [← f.num_zero]
  exact f.num_strictMono.monotone (Nat.zero_le mag)

omit [LinearOrder K] [IsStrictOrderedRing K] in
/-- The number of a finite value in any field. -/
theorem numOf_cast [CharZero K] (n : Bool) (m : Nat) (e : Int) : ((numOf (.fin n m e) : ℚ) : K) = sgn n * (m * 2 ^ e) := by
  cases n <;> simp [numOf]

/-- The number of a finite encoding. -/
theorem Fmt.Std.numOf_val (hf : f.Std) (n : Bool) {mag : Nat} (h : mag ≤ f.maxBits) :
    ((numOf (f.val (f.sign n + mag)) : ℚ) : K) = sgn n * f.num mag := by
  rw [(hf.val_sign_add (lt_of_le_of_lt h (by have := hf.maxBits_lt; omega))).1 h, numOf_cast]
  rfl

end

end Sys2Proof.Machine


namespace Sys2Proof.Machine

/-! ## One rounding to a format (04 R67-R69) -/

section
variable {K : Type} [Field K] [LinearOrder K] [IsStrictOrderedRing K] [FloorRing K] {f : Fmt}

/-- What the mode makes of a signed number, in the model's rounding. -/
theorem toWhole_roundTo {k : Int} {x : K} {m : Nat} {e : Int} (mode : Nat) (n : Bool) (h : Stands k x m e) :
    toWhole mode (sgn n * x / 2 ^ k) = sgn n * (roundTo mode n m e k).1 := by
  have hs := (roundTo_spec mode n h).1
  rw [toUlps, ← mul_assoc] at hs
  exact_mod_cast mul_right_cancel₀ (two_zpow_pos k).ne' hs

/-- The rounding passes no multiple above. -/
theorem roundTo_le {k : Int} {x : K} {m : Nat} {e : Int} (mode : Nat) (n : Bool) (h : Stands k x m e) {c : Nat}
    (hc : x ≤ c * 2 ^ k) : (roundTo mode n m e k).1 ≤ c := by
  have hw := toWhole_roundTo mode n h
  have hq : x / 2 ^ k ≤ c := (div_le_iff₀ (two_zpow_pos k)).mpr hc
  cases n with
  | false =>
    have := toWhole_le mode (x := (sgn false : K) * x / 2 ^ k) (k := c) (by simpa using hq)
    rw [hw, sgn_false, one_mul] at this
    omega
  | true =>
    have := le_toWhole mode (x := (sgn true : K) * x / 2 ^ k) (k := -c) (by simpa [neg_div] using hq)
    rw [hw, sgn_true, neg_one_mul] at this
    omega

/-- The rounding passes no multiple below. -/
theorem le_roundTo {k : Int} {x : K} {m : Nat} {e : Int} (mode : Nat) (n : Bool) (h : Stands k x m e) {c : Nat}
    (hc : c * 2 ^ k ≤ x) : c ≤ (roundTo mode n m e k).1 := by
  have hw := toWhole_roundTo mode n h
  have hq : c ≤ x / 2 ^ k := (le_div_iff₀ (two_zpow_pos k)).mpr hc
  cases n with
  | false =>
    have := le_toWhole mode (x := (sgn false : K) * x / 2 ^ k) (k := c) (by simpa using hq)
    rw [hw, sgn_false, one_mul] at this
    omega
  | true =>
    have := toWhole_le mode (x := (sgn true : K) * x / 2 ^ k) (k := -c) (by simpa [neg_div] using hq)
    rw [hw, sgn_true, neg_one_mul] at this
    omega

/-- The exponent of the last place of a number whose leading bit has exponent l. -/
def Fmt.place (f : Fmt) (l : Int) : Int := max l (1 - (f.bias : Int)) - f.fbits

theorem Fmt.le_place (f : Fmt) (l : Int) : l - f.fbits ≤ f.place l := by unfold Fmt.place; omega

/-- The magnitude that a significand q of last place k encodes. -/
def Fmt.magOf (f : Fmt) (k : Int) (q : Nat) : Nat := (k + f.bias + f.fbits - 1).toNat * 2 ^ f.fbits + q

/-- The model's rounding, with its parts named. -/
theorem Fmt.round_eq {mode : Nat} {n : Bool} {m : Nat} {e : Int} (hm : 0 < m) :
    f.round mode n m e =
      let l := e + Nat.log2 m
      let r := roundTo mode n m e (f.place l)
      let tiny := decide (l + (if 2 ^ (f.fbits + 1) ≤ (roundTo mode n m e (l - f.fbits)).1 then 1 else 0) < 1 - (f.bias : Int))
      if f.maxBits < f.magOf (f.place l) r.1 then ⟨f.overflow mode n, evOF ||| evNX⟩
      else ⟨f.sign n + f.magOf (f.place l) r.1, (if r.2 then evNX else 0) ||| (if r.2 && tiny then evUF else 0)⟩ :=
  if_neg hm.ne'

/-- The significand that a rounding leaves: at most one bit too many, and normalised where the number is normal. -/
theorem Fmt.significand {x : K} {m : Nat} {e l : Int} (mode : Nat) (n : Bool) (h : Stands (f.place l) x m e)
    (hl : 2 ^ l ≤ x ∧ x < 2 ^ (l + 1)) :
    (roundTo mode n m e (f.place l)).1 ≤ 2 ^ (f.fbits + 1) ∧
      (f.place l = f.lo ∨ (f.lo ≤ f.place l ∧ 2 ^ f.fbits ≤ (roundTo mode n m e (f.place l)).1)) := by
  have hpow : ∀ j : Nat, ((2 ^ j : Nat) : K) * 2 ^ f.place l = 2 ^ (f.place l + j) := fun j => by
    rw [zpow_add₀ two_ne_zero, zpow_natCast, mul_comm]
    push_cast
    rfl
  refine ⟨roundTo_le mode n h ?_, ?_⟩
  · rw [hpow]
    exact hl.2.le.trans (zpow_le_zpow_right₀ one_le_two (by unfold Fmt.place; push_cast; omega))
  · by_cases hn : l ≤ 1 - (f.bias : Int)
    · exact .inl (by unfold Fmt.place Fmt.lo; omega)
    · refine .inr ⟨by unfold Fmt.place Fmt.lo; omega, le_roundTo mode n h ?_⟩
      rw [hpow]
      exact le_trans (zpow_le_zpow_right₀ one_le_two (by unfold Fmt.place; omega)) hl.1

omit [LinearOrder K] [IsStrictOrderedRing K] [FloorRing K] in
/-- The magnitude that a rounding encodes stands for the rounded number. -/
theorem Fmt.num_magOf [CharZero K] {l : Int} {q : Nat} (hq : q ≤ 2 ^ (f.fbits + 1))
    (h : f.place l = f.lo ∨ (f.lo ≤ f.place l ∧ 2 ^ f.fbits ≤ q)) : (f.num (f.magOf (f.place l) q) : K) = q * 2 ^ f.place l := by
  have hlo : f.lo ≤ f.place l := h.elim ge_of_eq And.left
  have hE : (f.place l + f.bias + f.fbits - 1).toNat = (f.place l - f.lo).toNat := by unfold Fmt.lo; congr 1; omega
  rw [Fmt.magOf, hE, Fmt.num_parts hq (h.imp (fun e => by omega) And.right), Int.toNat_of_nonneg (by omega)]
  congr 2
  omega

/-- A number is tiny once rounded with an unbounded exponent as the model says (log 17). -/
theorem tiny_iff {x : K} {m : Nat} {e l c : Int} (mode : Nat) (n : Bool) (h : Stands (l - f.fbits) x m e)
    (hl : 2 ^ l ≤ x ∧ x < 2 ^ (l + 1)) :
    |toUlps mode (sgn n * x) (l - f.fbits)| < 2 ^ c ↔
      l + (if 2 ^ (f.fbits + 1) ≤ (roundTo mode n m e (l - f.fbits)).1 then 1 else 0) < c := by
  have hpow : ∀ j : Nat, ((2 ^ j : Nat) : K) * 2 ^ (l - f.fbits) = 2 ^ (l - f.fbits + j) := fun j => by
    rw [zpow_add₀ two_ne_zero, zpow_natCast, mul_comm]
    push_cast
    rfl
  have hlow := le_roundTo mode n h (c := 2 ^ f.fbits) (by rw [hpow, sub_add_cancel]; exact hl.1)
  have hhigh := roundTo_le mode n h (c := 2 ^ (f.fbits + 1)) (by
    rw [hpow]; push_cast; rw [← add_assoc, sub_add_cancel]; exact hl.2.le)
  rw [(roundTo_spec mode n h).1, abs_mul, abs_sgn, one_mul, abs_of_nonneg (mul_nonneg (Nat.cast_nonneg _) (two_zpow_pos _).le)]
  generalize (roundTo mode n m e (l - f.fbits)).1 = u at *
  have hpos := two_zpow_pos (K := K) (l - f.fbits)
  split
  · obtain rfl : u = 2 ^ (f.fbits + 1) := by omega
    rw [hpow, zpow_lt_zpow_iff_right₀ one_lt_two]
    push_cast
    constructor <;> intro h <;> omega
  · have h1 : (2 : K) ^ l ≤ u * 2 ^ (l - f.fbits) := by
      have := hpow f.fbits
      rw [sub_add_cancel] at this
      rw [← this]
      exact mul_le_mul_of_nonneg_right (by exact_mod_cast hlow) hpos.le
    have h2 : (u : K) * 2 ^ (l - f.fbits) < 2 ^ (l + 1) := by
      have := hpow (f.fbits + 1)
      rw [show l - f.fbits + ((f.fbits + 1 : Nat) : Int) = l + 1 by push_cast; ring] at this
      rw [← this]
      exact mul_lt_mul_of_pos_right (by exact_mod_cast (by omega : u < 2 ^ (f.fbits + 1))) hpos
    rw [add_zero]
    constructor
    · intro h
      exact (zpow_lt_zpow_iff_right₀ one_lt_two).mp (lt_of_le_of_lt h1 h)
    · intro h
      exact lt_of_lt_of_le h2 (zpow_le_zpow_right₀ one_le_two (by omega))

/-- What 04 R68 gives beyond the largest finite value, as RoundsTo writes it. -/
theorem overflow_eq (mode : Nat) (n : Bool) :
    f.overflow mode n = (if n then 2 ^ (f.ebits + f.fbits) else 0) + f.maxBits +
      (if f.inf && (mode == 0 || mode == (if n then 3 else 2)) then 1 else 0) := by
  unfold Fmt.overflow Fmt.sign
  rw [add_comm f.fbits]
  cases f.inf <;> cases n <;> simp
  all_goals split_ifs <;> simp_all

omit [FloorRing K] in
theorem decide_sgn_mul_neg {x : K} (n : Bool) (hx : 0 < x) : decide ((sgn n : K) * x < 0) = n := by
  cases n
  · simpa using hx.le
  · simpa using hx

/-- RoundsTo with its parts named, for a number ±x whose leading bit has exponent l. -/
theorem Fmt.Std.roundsTo_iff (hf : f.Std) {x : K} {l : Int} (mode : Nat) (n : Bool) (hl : 2 ^ l ≤ x ∧ x < 2 ^ (l + 1)) (r : FRes) :
    RoundsTo f mode (sgn n * x) r ↔
      let y := toUlps mode (sgn n * x) (f.place l)
      (f.num f.maxBits < |y| → r = ⟨f.overflow mode n, evOF ||| evNX⟩) ∧
      (|y| ≤ f.num f.maxBits →
        (∃ k j, f.val r.bits = .fin n k j) ∧ ((numOf (f.val r.bits) : ℚ) : K) = y ∧ r.bits < 2 ^ (1 + f.ebits + f.fbits) ∧
        r.ev = (if y = sgn n * x then 0
          else evNX ||| (if |toUlps mode (sgn n * x) (l - f.fbits)| < 2 ^ (1 - (f.bias : Int)) then evUF else 0))) := by
  have hx : 0 < x := lt_of_lt_of_le (two_zpow_pos l) hl.1
  have hlog : Int.log 2 |(sgn n : K) * x| = l := by
    rw [abs_mul, abs_sgn, one_mul, abs_of_pos hx, log_eq_of_between hl]
  have htop : ((numOf (f.val f.maxBits) : ℚ) : K) = f.num f.maxBits := by
    have := hf.numOf_val (K := K) false (le_refl f.maxBits)
    simpa [Fmt.sign] using this
  unfold RoundsTo
  simp only [hlog, decide_sgn_mul_neg n hx]
  rw [← htop, overflow_eq]
  exact Iff.rfl

/-- The model's rounding of m * 2^e is the one rounding of the number that it stands for. -/
theorem Fmt.Std.round_roundsTo (hf : f.Std) {x : K} {m : Nat} {e : Int} (mode : Nat) (n : Bool) (hm : 0 < m)
    (h : Stands (e + Nat.log2 m - f.fbits) x m e) : RoundsTo f mode (sgn n * x) (f.round mode n m e) := by
  have hx := h.pos hm
  have hl := h.lead hm (by omega)
  have hk := h.mono (f.le_place _)
  have hsig := f.significand mode n hk hl
  have hnum := Fmt.num_magOf (K := K) hsig.1 hsig.2
  obtain ⟨hy, hnx⟩ := roundTo_spec mode n hk
  have htiny := tiny_iff (f := f) (c := 1 - (f.bias : Int)) mode n h hl
  rw [hf.roundsTo_iff mode n hl, Fmt.round_eq hm]
  simp only [← htiny]
  have habs : |toUlps mode (sgn n * x) (f.place (e + Nat.log2 m))| = f.num (f.magOf (f.place (e + Nat.log2 m))
      (roundTo mode n m e (f.place (e + Nat.log2 m))).1) := by
    rw [hy, abs_mul, abs_sgn, one_mul, ← hnum, abs_of_nonneg (f.num_nonneg _)]
  rw [habs, f.num_strictMono.lt_iff_lt, f.num_strictMono.le_iff_le]
  rw [← hnum] at hy hnx
  generalize f.magOf (f.place (e + Nat.log2 m)) (roundTo mode n m e (f.place (e + Nat.log2 m))).1 = mag at *
  refine ⟨fun hgt => if_pos hgt, fun hle => ?_⟩
  rw [if_neg (by omega)]
  have hmag : mag < 2 ^ (f.fbits + f.ebits) := lt_of_le_of_lt hle (by have := hf.maxBits_lt; omega)
  refine ⟨⟨_, _, (hf.val_sign_add hmag).1 hle⟩, (hf.numOf_val n hle).trans hy.symm, Fmt.sign_add_lt hmag, ?_⟩
  have hexact : toUlps mode (sgn n * x) (f.place (e + Nat.log2 m)) = sgn n * x ↔
      ¬(roundTo mode n m e (f.place (e + Nat.log2 m))).2 = true := by
    rw [hnx, hy, (mul_right_injective₀ (sgn_ne_zero n)).eq_iff, not_not]
  simp only [hexact]
  generalize (roundTo mode n m e (f.place (e + Nat.log2 m))).2 = nx
  cases nx
  · simp
  · simp only [not_true, if_false, if_true, Bool.true_and, decide_eq_true_eq]

end

end Sys2Proof.Machine


namespace Sys2Proof.Machine

/-! ## Numbers that a format holds round to themselves (04 R65, R72) -/

section
variable {f : Fmt}

theorem Fmt.mant_lt (f : Fmt) (mag : Nat) : f.mant mag < 2 ^ (f.fbits + 1) := by
  have hr := Nat.mod_lt mag (show 0 < 2 ^ f.fbits by positivity)
  rw [pow_succ]
  unfold Fmt.mant
  split
  · rename_i h
    have := (Nat.div_eq_zero_iff_lt (by positivity)).mp h
    omega
  · omega

theorem Fmt.lo_le_expo (f : Fmt) (mag : Nat) : f.lo ≤ f.expo mag := by unfold Fmt.expo; omega

/-- Zero rounds to zero (04 R65). -/
theorem Fmt.round_zero (mode : Nat) (n : Bool) (e : Int) : f.round mode n 0 e = ⟨f.sign n, 0⟩ := rfl

/-- A number with no more bits than the format keeps, in its range, is its own rounding. -/
theorem Fmt.round_exact {n : Bool} {m : Nat} {e : Int} (mode : Nat) (hm : m < 2 ^ (f.fbits + 1)) (he : f.lo ≤ e)
    (htop : (m : ℚ) * 2 ^ e ≤ f.num f.maxBits) :
    ∃ mag, mag ≤ f.maxBits ∧ (f.num mag : ℚ) = m * 2 ^ e ∧ f.round mode n m e = ⟨f.sign n + mag, 0⟩ := by
  rcases Nat.eq_zero_or_pos m with rfl | hpos
  · exact ⟨0, Nat.zero_le _, by rw [f.num_zero]; simp, rfl⟩
  · have hlog : Nat.log2 m ≤ f.fbits := Nat.lt_succ_iff.mp ((Nat.log2_lt hpos.ne').mpr hm)
    have hplace : f.place (e + Nat.log2 m) ≤ e := by unfold Fmt.place; unfold Fmt.lo at he; omega
    have hs : Stands (e + Nat.log2 m - f.fbits) ((m : ℚ) * 2 ^ e) m e := .inl rfl
    have hsig := f.significand mode n (hs.mono (f.le_place _)) (hs.lead hpos (by omega))
    have hnum := Fmt.num_magOf (K := ℚ) hsig.1 hsig.2
    rw [roundTo_fine hplace, mul_two_pow_toNat m hplace] at hnum
    have hle : f.magOf (f.place (e + Nat.log2 m)) (m * 2 ^ (e - f.place (e + Nat.log2 m)).toNat) ≤ f.maxBits := by
      refine (f.num_strictMono (K := ℚ)).le_iff_le.mp ?_
      rw [hnum]
      exact htop
    refine ⟨_, hle, hnum, ?_⟩
    rw [Fmt.round_eq hpos]
    simp only [roundTo_fine hplace]
    rw [if_neg (by omega)]
    simp

theorem Fmt.num_eq (f : Fmt) (mag : Nat) : (f.num mag : ℚ) = f.mant mag * 2 ^ f.expo mag := rfl

/-- A finite encoding converts to itself without event. -/
theorem Fmt.Std.cvt_self (hf : f.Std) {b : Nat} (hb : b < 2 ^ (1 + f.ebits + f.fbits)) (mode : Nat) {n : Bool} {m : Nat} {e : Int}
    (hv : f.val b = .fin n m e) : f.cvt mode (f.val b) = ⟨b, 0⟩ := by
  obtain ⟨mag, hle, rfl, rfl, rfl⟩ := hf.of_fin hb hv
  obtain ⟨mag', -, hnum, hround⟩ := Fmt.round_exact (n := n) mode (f.mant_lt mag) (f.lo_le_expo mag)
    (f.num_strictMono.monotone hle)
  rw [f.num_strictMono.injective (hnum.trans (f.num_eq mag).symm)] at hround
  rw [hv]
  exact hround

/-- A finite encoding of one format converts without event to the same number of a format that holds it. -/
theorem Fmt.Std.cvt_widens {g : Fmt} (hf : f.Std) (hg : g.Std) (hbits : f.fbits ≤ g.fbits) (hlo : g.lo ≤ f.lo)
    (htop : (f.num f.maxBits : ℚ) ≤ g.num g.maxBits) {b : Nat} (hb : b < 2 ^ (1 + f.ebits + f.fbits)) (mode : Nat) {n : Bool} {m : Nat}
    {e : Int} (hv : f.val b = .fin n m e) :
    ∃ w k j, w < 2 ^ (1 + g.ebits + g.fbits) ∧ g.cvt mode (f.val b) = ⟨w, 0⟩ ∧ g.val w = .fin n k j ∧
      numOf (.fin n k j) = numOf (.fin n m e) := by
  obtain ⟨mag, hle, rfl, rfl, rfl⟩ := hf.of_fin hb hv
  obtain ⟨mag', hle', hnum, hround⟩ := Fmt.round_exact (f := g) (n := n) mode
    (lt_of_lt_of_le (f.mant_lt mag) (Nat.pow_le_pow_right (by decide) (by omega))) (hlo.trans (f.lo_le_expo mag))
    ((f.num_strictMono.monotone hle).trans htop)
  have hmag : mag' < 2 ^ (g.fbits + g.ebits) := lt_of_le_of_lt hle' (by have := hg.maxBits_lt; omega)
  have hval := (hg.val_sign_add (n := n) hmag).1 hle'
  refine ⟨_, _, _, Fmt.sign_add_lt hmag, by rw [hv]; exact hround, hval, ?_⟩
  have h1 := numOf_cast (K := ℚ) n (g.mant mag') (g.expo mag')
  have h2 := numOf_cast (K := ℚ) n (f.mant mag) (f.expo mag)
  rw [Rat.cast_id] at h1 h2
  rw [h1, h2, ← hnum]
  rfl

/-- A rounding's bits are an encoding. -/
theorem Fmt.Std.round_bits_lt (hf : f.Std) (mode : Nat) (n : Bool) (m : Nat) (e : Int) :
    (f.round mode n m e).bits < 2 ^ (1 + f.ebits + f.fbits) := by
  have hmax := hf.maxBits_lt
  rcases Nat.eq_zero_or_pos m with rfl | hpos
  · exact Fmt.sign_add_lt (mag := 0) (by positivity)
  · rw [Fmt.round_eq hpos]
    simp only
    split
    · unfold Fmt.overflow
      split_ifs
      · exact Fmt.sign_add_lt (by omega)
      · exact Fmt.sign_add_lt hmax
      · exact Fmt.sign_add_lt (by omega)
    · exact Fmt.sign_add_lt (by omega)

theorem Fmt.Std.cvt_bits_lt (hf : f.Std) (mode : Nat) (v : FVal) : (f.cvt mode v).bits < 2 ^ (1 + f.ebits + f.fbits) := by
  have hmax := hf.maxBits_lt
  have hnan : f.nan < 2 ^ (1 + f.ebits + f.fbits) := by
    have h1 : 2 ^ f.fbits = 2 * 2 ^ (f.fbits - 1) := by rw [← pow_succ', Nat.sub_add_cancel hf.fbits.1]
    have h2 : 2 ^ 2 ≤ 2 ^ f.ebits := Nat.pow_le_pow_right (by decide) hf.ebits.1
    have hpos : 0 < 2 ^ (f.fbits - 1) := by positivity
    have hp : 2 ^ (1 + f.ebits + f.fbits) = 2 * (2 ^ f.ebits * 2 ^ f.fbits) := by rw [pow_add, pow_add]; ring
    unfold Fmt.nan
    rw [hp, pow_add]
    have hle : (2 ^ f.ebits - 1) * 2 ^ f.fbits + 2 ^ f.fbits = 2 ^ f.ebits * 2 ^ f.fbits := by
      rw [← Nat.succ_mul]
      congr 1
      omega
    split <;> omega
  cases v with
  | nan => exact hnan
  | inf n =>
    unfold Fmt.cvt Fmt.infBits
    split_ifs
    · exact Fmt.sign_add_lt hmax
    · exact hnan
  | fin n m e => exact hf.round_bits_lt mode n m e

end

/-! ## Rounding an exact number (04 R68) -/

section
variable {f : Fmt}

theorem numOf_fin (n : Bool) (m : Nat) (e : Int) : numOf (.fin n m e) = sgn n * (m * 2 ^ e) := by
  have h := numOf_cast (K := ℚ) n m e
  rwa [Rat.cast_id] at h

theorem numOf_eq_zero_iff {n : Bool} {m : Nat} {e : Int} : numOf (.fin n m e) = 0 ↔ m = 0 := by
  rw [numOf_fin]
  rw [mul_eq_zero, mul_eq_zero, or_iff_right (sgn_ne_zero n), or_iff_left (two_zpow_pos e).ne', Nat.cast_eq_zero]

theorem Fmt.Std.round_numOf (hf : f.Std) (mode : Nat) (n : Bool) {m : Nat} (e : Int) (hm : 0 < m) :
    RoundsTo f mode (numOf (.fin n m e)) (f.round mode n m e) := by
  rw [numOf_fin]
  exact hf.round_roundsTo mode n hm (.inl rfl)

/-- The exact sum's number, its zero and its zero's sign (04 R65). -/
theorem exactAdd_spec (mode : Nat) (na : Bool) (ma : Nat) (ea : Int) (nb : Bool) (mb : Nat) (eb : Int) :
    let r := exactAdd mode na ma ea nb mb eb
    numOf (.fin r.1 r.2.1 r.2.2) = numOf (.fin na ma ea) + numOf (.fin nb mb eb) ∧
      (r.2.1 = 0 → r.1 = zeroSign mode na nb) ∧ (r.2.1 ≠ 0 → r.1 = decide (numOf (.fin na ma ea) + numOf (.fin nb mb eb) < 0)) := by
  obtain ⟨xa, hxa⟩ : ∃ x : Int, x = sgn na * (ma * 2 ^ (ea - min ea eb).toNat : Nat) := ⟨_, rfl⟩
  obtain ⟨xb, hxb⟩ : ∃ x : Int, x = sgn nb * (mb * 2 ^ (eb - min ea eb).toNat : Nat) := ⟨_, rfl⟩
  have he : exactAdd mode na ma ea nb mb eb =
      if xa + xb = 0 then (zeroSign mode na nb, 0, min ea eb) else (decide (xa + xb < 0), (xa + xb).natAbs, min ea eb) := by
    rw [hxa, hxb]
    rfl
  have ha : numOf (.fin na ma ea) = xa * 2 ^ min ea eb := by
    rw [numOf_fin, ← mul_two_pow_toNat ma (min_le_left ea eb), hxa]
    push_cast
    ring
  have hb : numOf (.fin nb mb eb) = xb * 2 ^ min ea eb := by
    rw [numOf_fin, ← mul_two_pow_toNat mb (min_le_right ea eb), hxb]
    push_cast
    ring
  have hp := two_zpow_pos (K := ℚ) (min ea eb)
  simp only [he, ha, hb, ← add_mul, ← Int.cast_add]
  generalize xa + xb = t
  rcases lt_trichotomy t 0 with h | rfl | h
  · have hneg : (t : ℚ) * 2 ^ min ea eb < 0 := mul_neg_of_neg_of_pos (by exact_mod_cast h) hp
    simp only [if_neg h.ne, decide_eq_true h, decide_eq_true hneg, numOf_fin, Nat.cast_natAbs, abs_of_neg h]
    refine ⟨by simp, fun h0 => ?_, fun _ => trivial⟩
    omega
  · simp [numOf]
  · have hpos : ¬((t : ℚ) * 2 ^ min ea eb < 0) := not_lt.mpr (mul_nonneg (by exact_mod_cast h.le) hp.le)
    simp only [if_neg h.ne', decide_eq_false h.not_gt, decide_eq_false hpos, numOf_fin, Nat.cast_natAbs, abs_of_pos h]
    refine ⟨by simp, fun h0 => ?_, fun _ => trivial⟩
    omega

/-- A sum rounded once; a zero sum takes the sign of 04 R65. -/
theorem Fmt.Std.round_exactAdd (hf : f.Std) (mode : Nat) (na : Bool) (ma : Nat) (ea : Int) (nb : Bool) (mb : Nat) (eb : Int) :
    let x := numOf (.fin na ma ea) + numOf (.fin nb mb eb)
    let r := exactAdd mode na ma ea nb mb eb
    (x ≠ 0 → RoundsTo f mode x (f.round mode r.1 r.2.1 r.2.2)) ∧
      (x = 0 → f.round mode r.1 r.2.1 r.2.2 = ⟨f.sign (zeroSign mode na nb), 0⟩) := by
  obtain ⟨hnum, hzero, -⟩ := exactAdd_spec mode na ma ea nb mb eb
  simp only [← hnum, ne_eq, numOf_eq_zero_iff]
  refine ⟨fun h => hf.round_numOf mode _ _ (Nat.pos_of_ne_zero h), fun h => ?_⟩
  rw [h, hzero h, Fmt.round_zero]

/-- The operation of finite operands is the rounding of the exact sum of product and addend. -/
theorem Fmt.fma_fin (mode : Nat) (na nb nc : Bool) (ma mb mc : Nat) (ea eb ec : Int) :
    f.fma mode (.fin na ma ea) (.fin nb mb eb) (some (.fin nc mc ec)) =
      f.round mode (exactAdd mode (xor na nb) (ma * mb) (ea + eb) nc mc ec).1 (exactAdd mode (xor na nb) (ma * mb) (ea + eb) nc mc ec).2.1
        (exactAdd mode (xor na nb) (ma * mb) (ea + eb) nc mc ec).2.2 := by
  cases ma <;> cases mb <;> rfl

theorem Fmt.mul_fin (mode : Nat) (na nb : Bool) (ma mb : Nat) (ea eb : Int) :
    f.mul mode (.fin na ma ea) (.fin nb mb eb) = f.round mode (xor na nb) (ma * mb) (ea + eb) := by
  cases ma <;> cases mb <;> rfl

theorem sgn_xor (n k : Bool) : sgn (xor n k) = sgn n * sgn k := by cases n <;> cases k <;> rfl

theorem numOf_mul (na nb : Bool) (ma mb : Nat) (ea eb : Int) :
    numOf (.fin (xor na nb) (ma * mb) (ea + eb)) = numOf (.fin na ma ea) * numOf (.fin nb mb eb) := by
  rw [numOf_fin, numOf_fin, numOf_fin, sgn_xor, zpow_add₀ two_ne_zero]
  push_cast
  ring

theorem numOf_one : numOf .one = 1 := by simp [numOf, FVal.one]

theorem numOf_neg (n : Bool) (m : Nat) (e : Int) : numOf (.fin (!n) m e) = -numOf (.fin n m e) := by
  cases n <;> simp [numOf]

end

end Sys2Proof.Machine


namespace Sys2Proof.Machine

/-! ## Quotients and roots: an integer with a sticky last bit (07 R135) -/

section
variable {K : Type} [Field K] [LinearOrder K] [IsStrictOrderedRing K] {f : Fmt}

/-- The integer part of y and a bit that tells whether y is it stand for y. -/
theorem stands_sticky {y : K} {T c : Nat} {j k : Int} (h0 : T ≤ y) (h1 : y < T + 1) (hc : (c = 0 ∧ y = T) ∨ (c = 1 ∧ y ≠ T))
    (hk : j + 1 ≤ k) : Stands k (y * 2 ^ j) (2 * T + c) (j - 1) := by
  have hj : (2 : K) ^ j = 2 * 2 ^ (j - 1) := by rw [← zpow_one_add₀ two_ne_zero]; congr 1; omega
  have hp : (0 : K) < 2 ^ (j - 1) := two_zpow_pos _
  rcases hc with ⟨rfl, hy⟩ | ⟨rfl, hy⟩
  · left
    rw [hy, hj]
    push_cast
    ring
  · have hlt : (T : K) < y := lt_of_le_of_ne h0 hy.symm
    refine .inr ⟨by omega, by omega, ?_, ?_⟩
    · rw [hj, ← mul_assoc]
      exact mul_lt_mul_of_pos_right (by push_cast; linarith) hp
    · rw [hj, ← mul_assoc]
      exact mul_lt_mul_of_pos_right (by push_cast; linarith) hp

/-- Such a number is rounded once to any format of 04 R62, whose significands are shorter. -/
theorem Fmt.Std.round_sticky [FloorRing K] (hf : f.Std) (mode : Nat) (n : Bool) {y : K} {T c : Nat} {j : Int}
    (h0 : T ≤ y) (h1 : y < T + 1) (hc : (c = 0 ∧ y = T) ∨ (c = 1 ∧ y ≠ T)) (hT : 2 ^ 24 ≤ T) :
    RoundsTo f mode (sgn n * (y * 2 ^ j)) (f.round mode n (2 * T + c) (j - 1)) := by
  have hlog : 25 ≤ Nat.log2 (2 * T + c) := (Nat.le_log2 (by omega)).mpr (by omega)
  exact hf.round_roundsTo mode n (by omega) (stands_sticky h0 h1 hc (by have := hf.fbits.2; omega))

end

section
variable {f : Fmt}

/-- The integer quotient and its remainder against the exact quotient. -/
theorem natDiv_sticky (a : Nat) {b : Nat} (hb : 0 < b) :
    ((a / b : Nat) : ℚ) ≤ a / b ∧ (a / b : ℚ) < (a / b : Nat) + 1 ∧
      (((if a % b = 0 then 0 else 1) = 0 ∧ (a / b : ℚ) = (a / b : Nat)) ∨
        ((if a % b = 0 then 0 else 1) = 1 ∧ (a / b : ℚ) ≠ (a / b : Nat))) := by
  have hbQ : (0 : ℚ) < b := by exact_mod_cast hb
  have heq : (a / b : ℚ) = (a / b : Nat) ↔ a % b = 0 := by
    rw [div_eq_iff hbQ.ne']
    norm_cast
    have := Nat.div_add_mod a b
    rw [mul_comm] at this
    omega
  refine ⟨Nat.cast_div_le, (div_lt_iff₀ hbQ).mpr (by rw [mul_comm]; exact_mod_cast Nat.lt_mul_div_succ a hb), ?_⟩
  split
  · exact .inl ⟨rfl, heq.mpr ‹_›⟩
  · exact .inr ⟨rfl, heq.not.mpr ‹_›⟩

theorem Fmt.div_fin (mode : Nat) (na nb : Bool) {ma mb : Nat} (ea eb : Int) (ha : ma ≠ 0) (hb : mb ≠ 0) :
    f.div mode (.fin na ma ea) (.fin nb mb eb) =
      f.round mode (xor na nb) (ratio ma mb).1 ((ratio ma mb).2 + ea - eb) := by
  simp [Fmt.div, ha, hb]

/-- A quotient of finite numbers is rounded once. -/
theorem Fmt.Std.div_roundsTo (hf : f.Std) (mode : Nat) (na nb : Bool) {ma mb : Nat} (ea eb : Int) (ha : ma ≠ 0) (hb : mb ≠ 0) :
    RoundsTo f mode (numOf (.fin na ma ea) / numOf (.fin nb mb eb)) (f.div mode (.fin na ma ea) (.fin nb mb eb)) := by
  rw [Fmt.div_fin mode na nb ea eb ha hb, ratio]
  simp only
  set k := Nat.log2 mb + 40 with hk
  obtain ⟨h0, h1, hc⟩ := natDiv_sticky (ma * 2 ^ k) (Nat.pos_of_ne_zero hb)
  have hT : 2 ^ 24 ≤ ma * 2 ^ k / mb := by
    rw [Nat.le_div_iff_mul_le (Nat.pos_of_ne_zero hb)]
    have h2 : mb ≤ 2 ^ (Nat.log2 mb + 1) := Nat.lt_log2_self.le
    calc 2 ^ 24 * mb ≤ 2 ^ 39 * 2 ^ (Nat.log2 mb + 1) := Nat.mul_le_mul (by norm_num) h2
      _ = 2 ^ k := by rw [← pow_add, hk]; congr 1; omega
      _ ≤ ma * 2 ^ k := Nat.le_mul_of_pos_left _ (Nat.pos_of_ne_zero ha)
  have h := hf.round_sticky mode (xor na nb) (j := -(k : Int) + ea - eb) h0 h1 hc hT
  have hx : (sgn (xor na nb) : ℚ) * (((ma * 2 ^ k : Nat) : ℚ) / mb * 2 ^ (-(k : Int) + ea - eb)) =
      numOf (.fin na ma ea) / numOf (.fin nb mb eb) := by
    have hbQ : (mb : ℚ) ≠ 0 := by exact_mod_cast hb
    have hs : (sgn nb : ℚ) * sgn nb = 1 := by cases nb <;> norm_num
    rw [numOf_fin, numOf_fin, sgn_xor, zpow_sub₀ two_ne_zero, zpow_add₀ two_ne_zero, zpow_neg, zpow_natCast]
    push_cast
    rw [eq_div_iff (mul_ne_zero (sgn_ne_zero nb) (mul_ne_zero hbQ (two_zpow_pos eb).ne'))]
    have hp := (two_zpow_pos (K := ℚ) eb).ne'
    field_simp
    linear_combination (sgn na : ℚ) * hs
  rw [hx] at h
  convert h using 2
  omega

/-- The integer square root against the exact one. -/
theorem natSqrt_sticky (x : Nat) (y : ℝ) (exact : Bool) (hy : ∀ c : Nat, (c : ℝ) ≤ y ↔ c * c ≤ x)
    (he : exact = true ↔ y = Nat.sqrt x) :
    (Nat.sqrt x : ℝ) ≤ y ∧ y < Nat.sqrt x + 1 ∧
      (((if exact then 0 else 1) = 0 ∧ y = Nat.sqrt x) ∨ ((if exact then 0 else 1) = 1 ∧ y ≠ Nat.sqrt x)) := by
  refine ⟨(hy _).mpr (Nat.sqrt_le x), ?_, ?_⟩
  · have h := (hy (Nat.sqrt x + 1)).not.mpr (not_le.mpr (Nat.lt_succ_sqrt x))
    push_cast at h
    exact not_le.mp h
  · cases exact
    · exact .inr ⟨rfl, by simpa using he⟩
    · exact .inl ⟨rfl, by simpa using he⟩

/-- A power of 2 under a root. -/
theorem sqrt_mul_zpow (x : ℝ) (j : Int) : Real.sqrt (x * 2 ^ (2 * j)) = Real.sqrt x * 2 ^ j := by
  have hp := two_zpow_pos (K := ℝ) j
  rw [mul_comm 2 j, zpow_mul, show ((2 : ℝ) ^ j) ^ (2 : Int) = 2 ^ j * 2 ^ j from zpow_two _, Real.sqrt_mul' x (mul_nonneg hp.le hp.le),
    Real.sqrt_mul_self hp.le]

theorem Fmt.sqrt_fin (mode : Nat) {m : Nat} (e : Int) (hm : m ≠ 0) :
    f.sqrt mode (.fin false m e) = f.round mode false (rootOf m e).1 (rootOf m e).2 := by
  simp [Fmt.sqrt, hm]

/-- The root's integer argument x, of more bits than any format needs, and its even exponent 2 * j. -/
theorem rootOf_spec {m : Nat} (hm : m ≠ 0) (e : Int) :
    ∃ (x : Nat) (j : Int), rootOf m e = (2 * Nat.sqrt x + (if decide (Nat.sqrt x * Nat.sqrt x = x) then 0 else 1), j - 1) ∧
      2 ^ 80 ≤ x ∧ (m : ℝ) * 2 ^ e = (x : ℝ) * 2 ^ (2 * j) := by
  obtain ⟨c, hc⟩ : ∃ c : Nat, c = if e % 2 = 0 then 0 else 1 := ⟨_, rfl⟩
  have hr : rootOf m e = (2 * Nat.sqrt (m * 2 ^ c * 2 ^ 80) +
      (if decide (Nat.sqrt (m * 2 ^ c * 2 ^ 80) * Nat.sqrt (m * 2 ^ c * 2 ^ 80) = m * 2 ^ c * 2 ^ 80) then 0 else 1),
        (e - c - 80) / 2 - 1) := by
    unfold rootOf
    by_cases h : e % 2 = 0
    · simp [hc, h]
    · simp [hc, h, mul_comm 2 m]
  refine ⟨_, _, hr, Nat.le_mul_of_pos_left _ (Nat.mul_pos (Nat.pos_of_ne_zero hm) (by positivity)), ?_⟩
  have hpar : e = 2 * ((e - c - 80) / 2) + (c + 80 : Nat) := by
    rw [hc]
    split <;> push_cast <;> omega
  conv_lhs => rw [hpar, zpow_add₀ two_ne_zero, zpow_natCast, pow_add]
  push_cast
  ring

/-- The root of a positive number is rounded once. -/
theorem Fmt.Std.sqrt_roundsTo (hf : f.Std) (mode : Nat) {m : Nat} (e : Int) (hm : m ≠ 0) :
    RoundsTo f mode (Real.sqrt (numOf (.fin false m e) : ℝ)) (f.sqrt mode (.fin false m e)) := by
  rw [Fmt.sqrt_fin mode e hm, numOf_cast, sgn_false, Int.cast_one, one_mul]
  obtain ⟨x, j, hr, hx, hval⟩ := rootOf_spec hm e
  rw [hr, hval, sqrt_mul_zpow]
  have hy : ∀ c : Nat, (c : ℝ) ≤ Real.sqrt x ↔ c * c ≤ x := fun c => by
    rw [Real.le_sqrt (Nat.cast_nonneg c) (Nat.cast_nonneg x), sq]
    exact_mod_cast Iff.rfl
  have he : decide (Nat.sqrt x * Nat.sqrt x = x) = true ↔ Real.sqrt x = Nat.sqrt x := by
    rw [decide_eq_true_eq, Real.sqrt_eq_iff_mul_self_eq (Nat.cast_nonneg x) (Nat.cast_nonneg _), eq_comm]
    exact_mod_cast Iff.rfl
  obtain ⟨h0, h1, hc⟩ := natSqrt_sticky x _ _ hy he
  have hT : 2 ^ 24 ≤ Nat.sqrt x := Nat.le_sqrt.mpr (le_trans (by norm_num) hx)
  have h := hf.round_sticky mode false (j := j) h0 h1 hc hT
  simpa using h

theorem Fmt.rsq_fin (mode : Nat) {m : Nat} (e : Int) (hm : m ≠ 0) :
    f.rsq mode (.fin false m e) =
      let k : Nat := 2 * (Nat.log2 m + 60) + (if e % 2 = 0 then 0 else 1)
      let r := Nat.sqrt (2 ^ k / m)
      f.round mode false (2 * r + (if decide (2 ^ k % m = 0) && decide (r * r = 2 ^ k / m) then 0 else 1)) ((-(e + k)) / 2 - 1) := by
  simp only [Fmt.rsq, if_neg hm]
  rfl

/-- One over the root of a positive number is rounded once. -/
theorem Fmt.Std.rsq_roundsTo (hf : f.Std) (mode : Nat) {m : Nat} (e : Int) (hm : m ≠ 0) :
    RoundsTo f mode (1 / Real.sqrt (numOf (.fin false m e) : ℝ)) (f.rsq mode (.fin false m e)) := by
  rw [Fmt.rsq_fin mode e hm, numOf_cast, sgn_false, Int.cast_one, one_mul]
  simp only
  obtain ⟨k, hk⟩ : ∃ k : Nat, k = 2 * (Nat.log2 m + 60) + (if e % 2 = 0 then 0 else 1) := ⟨_, rfl⟩
  rw [← hk]
  have hpos := Nat.pos_of_ne_zero hm
  have hmR : (0 : ℝ) < m := by exact_mod_cast hpos
  have hpar : 2 * ((-(e + k)) / 2) = -(e + k) := by
    rw [hk]
    split <;> push_cast <;> omega
  have hval : 1 / Real.sqrt ((m : ℝ) * 2 ^ e) = Real.sqrt ((2 ^ k : Nat) / m) * 2 ^ ((-(e + k)) / 2) := by
    rw [← sqrt_mul_zpow, hpar, one_div, ← Real.sqrt_inv]
    congr 1
    rw [neg_add, zpow_add₀ two_ne_zero, zpow_neg, zpow_neg, zpow_natCast]
    have hp := (two_zpow_pos (K := ℝ) e).ne'
    push_cast
    field_simp
  have hy : ∀ c : Nat, (c : ℝ) ≤ Real.sqrt ((2 ^ k : Nat) / m) ↔ c * c ≤ 2 ^ k / m := fun c => by
    rw [Real.le_sqrt (Nat.cast_nonneg c) (by positivity), sq, le_div_iff₀ hmR, Nat.le_div_iff_mul_le hpos]
    exact_mod_cast Iff.rfl
  have he : (decide (2 ^ k % m = 0) && decide (Nat.sqrt (2 ^ k / m) * Nat.sqrt (2 ^ k / m) = 2 ^ k / m)) = true ↔
      Real.sqrt ((2 ^ k : Nat) / m) = Nat.sqrt (2 ^ k / m) := by
    rw [Bool.and_eq_true, decide_eq_true_eq, decide_eq_true_eq,
      Real.sqrt_eq_iff_mul_self_eq (by positivity) (Nat.cast_nonneg _), div_eq_iff hmR.ne']
    have hdm := Nat.div_add_mod (2 ^ k) m
    generalize Nat.sqrt (2 ^ k / m) = r
    norm_cast
    generalize 2 ^ k = p at *
    constructor
    · rintro ⟨h0, h1⟩
      rw [h0, add_zero] at hdm
      rw [h1, mul_comm, hdm]
    · rintro rfl
      exact ⟨Nat.mul_mod_left _ _, (Nat.mul_div_cancel _ hpos).symm⟩
  obtain ⟨h0, h1, hc⟩ := natSqrt_sticky (2 ^ k / m) _ _ hy he
  have hT : 2 ^ 24 ≤ Nat.sqrt (2 ^ k / m) := by
    rw [Nat.le_sqrt, Nat.le_div_iff_mul_le hpos]
    calc 2 ^ 24 * 2 ^ 24 * m ≤ 2 ^ 48 * 2 ^ (Nat.log2 m + 1) := Nat.mul_le_mul (by norm_num) Nat.lt_log2_self.le
      _ = 2 ^ (48 + (Nat.log2 m + 1)) := (pow_add 2 48 _).symm
      _ ≤ 2 ^ k := Nat.pow_le_pow_right (by decide) (by omega)
  have h := hf.round_sticky mode false (j := (-(e + k)) / 2) h0 h1 hc hT
  rw [hval]
  simpa using h

end

end Sys2Proof.Machine


namespace Sys2Proof.Machine

/-! ## Scaling by a power of 2 (07 R138) -/

section
variable {f : Fmt}

/-- The largest finite value of each format stands below 2^256. -/
theorem Fmt.Std.num_maxBits_lt (hf : f.Std) : (f.num f.maxBits : ℚ) < 2 ^ (256 : Int) := by
  have h2 : 2 ^ f.ebits ≤ 2 ^ 8 := Nat.pow_le_pow_right (by decide) hf.ebits.2
  have hpos : 0 < 2 ^ f.ebits := by positivity
  have hsum : 2 ^ (f.fbits + f.ebits) = (2 ^ f.ebits - 1) * 2 ^ f.fbits + 2 ^ f.fbits := by
    rw [← Nat.succ_mul, pow_add, mul_comm]
    congr 1
    omega
  have hlt : (f.num f.maxBits : ℚ) < f.num (2 ^ (f.fbits + f.ebits)) :=
    f.num_strictMono (by have := hf.maxBits_lt; omega)
  rw [hsum, Fmt.num_parts (by rw [pow_succ]; omega) (.inr (le_refl _))] at hlt
  refine hlt.trans_le ?_
  rw [Nat.cast_pow, Nat.cast_ofNat, ← zpow_natCast, ← zpow_add₀ two_ne_zero]
  refine zpow_le_zpow_right₀ one_le_two ?_
  unfold Fmt.lo
  have := hf.bias.1
  omega

/-- The exponents of a format's last places span no more than its exponent field. -/
theorem Fmt.Std.expo_le (hf : f.Std) {mag : Nat} (h : mag ≤ f.maxBits) : f.expo mag ≤ f.lo + 255 := by
  have h2 : 2 ^ f.ebits ≤ 2 ^ 8 := Nat.pow_le_pow_right (by decide) hf.ebits.2
  have hdiv : mag / 2 ^ f.fbits < 2 ^ f.ebits :=
    Nat.div_lt_of_lt_mul (by rw [← pow_add]; exact lt_of_le_of_lt h (by have := hf.maxBits_lt; omega))
  unfold Fmt.expo
  omega

/-- The leading bit of m * 2^e. -/
theorem lead_exact {m : Nat} (e : Int) (hm : m ≠ 0) :
    (2 : ℚ) ^ (e + Nat.log2 m) ≤ m * 2 ^ e ∧ (m : ℚ) * 2 ^ e < 2 ^ (e + Nat.log2 m + 1) :=
  Stands.lead (k := e) (.inl rfl) (Nat.pos_of_ne_zero hm) (by omega)

/-- A number beyond every format rounds to what its sign and the mode say. -/
theorem Fmt.Std.roundsTo_huge (hf : f.Std) (mode : Nat) (n : Bool) {m : Nat} {e : Int} (hm : m ≠ 0) (h : 256 ≤ e) (r : FRes) :
    RoundsTo f mode (sgn n * (m * 2 ^ e) : ℚ) r ↔ r = ⟨f.overflow mode n, evOF ||| evNX⟩ := by
  have hl := lead_exact e hm
  have hk : ∀ k, Stands k ((m : ℚ) * 2 ^ e) m e := fun _ => .inl rfl
  have hplace : f.place (e + Nat.log2 m) = e + Nat.log2 m - f.fbits := by unfold Fmt.place; omega
  obtain ⟨-, hq⟩ := f.significand mode n (hk _) hl
  have hq := hq.resolve_left (by unfold Fmt.place Fmt.lo; have := hf.bias.1; omega)
  have hbig : (f.num f.maxBits : ℚ) < |toUlps mode (sgn n * (m * 2 ^ e) : ℚ) (f.place (e + Nat.log2 m))| := by
    rw [(roundTo_spec mode n (hk _)).1, abs_mul, abs_sgn, one_mul, abs_of_nonneg (mul_nonneg (Nat.cast_nonneg _) (two_zpow_pos _).le)]
    calc (f.num f.maxBits : ℚ) < 2 ^ (256 : Int) := hf.num_maxBits_lt
      _ ≤ 2 ^ (e + Nat.log2 m) := zpow_le_zpow_right₀ one_le_two (by omega)
      _ = (2 ^ f.fbits : Nat) * 2 ^ f.place (e + Nat.log2 m) := by
        rw [hplace, Nat.cast_pow, Nat.cast_ofNat, ← zpow_natCast, ← zpow_add₀ two_ne_zero, add_sub_cancel]
      _ ≤ _ := mul_le_mul_of_nonneg_right (by exact_mod_cast hq.2) (two_zpow_pos _).le
  rw [hf.roundsTo_iff mode n hl]
  exact ⟨fun h => h.1 hbig, fun h => ⟨fun _ => h, fun hle => absurd hle (not_le.mpr hbig)⟩⟩

/-- Below a half of the last place every number of one sign rounds alike. -/
theorem toUlps_below_half (mode : Nat) (n : Bool) {x y : ℚ} {k : Int} (hx : 0 < x ∧ x < 2 ^ (k - 1)) (hy : 0 < y ∧ y < 2 ^ (k - 1)) :
    toUlps mode (sgn n * x) k = toUlps mode (sgn n * y) k ∧ toUlps mode (sgn n * x) k ≠ sgn n * x := by
  have hp := two_zpow_pos (K := ℚ) k
  have hhalf : (2 : ℚ) ^ (k - 1) = 1 / 2 * 2 ^ k := by rw [zpow_sub_one₀ two_ne_zero]; ring
  have fraction : ∀ z : ℚ, 0 < z ∧ z < 2 ^ (k - 1) → 0 < z / 2 ^ k ∧ z / 2 ^ k < 1 / 2 := fun z hz =>
    ⟨div_pos hz.1 hp, by rw [div_lt_iff₀ hp, ← hhalf]; exact hz.2⟩
  obtain ⟨hx0, hx1⟩ := fraction x hx
  obtain ⟨hy0, hy1⟩ := fraction y hy
  obtain ⟨up, hup⟩ : ∃ up : Bool, up = true ↔ RoundsUp mode n 0 (x / 2 ^ k) := by
    by_cases h : RoundsUp mode n 0 (x / 2 ^ k)
    · exact ⟨true, iff_of_true rfl h⟩
    · exact ⟨false, iff_of_false (by decide) h⟩
  have hsame : RoundsUp mode n 0 (x / 2 ^ k) ↔ RoundsUp mode n 0 (y / 2 ^ k) := by
    unfold RoundsUp
    split_ifs
    · exact iff_of_false (by rintro (h | ⟨h, -⟩) <;> linarith) (by rintro (h | ⟨h, -⟩) <;> linarith)
    · exact Iff.rfl
    · exact and_congr_right (fun _ => iff_of_true hx0.ne' hy0.ne')
    · exact and_congr_right (fun _ => iff_of_true hx0.ne' hy0.ne')
  have hwx := toWhole_signed (q := 0) hx0.le (hx1.trans (by norm_num)) hup
  have hwy := toWhole_signed (q := 0) hy0.le (hy1.trans (by norm_num)) (hup.trans hsame)
  rw [Nat.cast_zero, zero_add, ← mul_div_assoc] at hwx hwy
  unfold toUlps
  rw [hwx, hwy]
  refine ⟨rfl, fun h => ?_⟩
  push_cast at h
  rw [mul_assoc, (mul_right_injective₀ (sgn_ne_zero n)).eq_iff, zero_add, ← eq_div_iff hp.ne'] at h
  cases up
  · exact hx0.ne (by simpa using h)
  · have : x / 2 ^ k = 1 := by simpa using h.symm
    linarith

/-- What a number below half of the last place rounds to, told by any such number of its sign. -/
theorem Fmt.Std.roundsTo_tiny (hf : f.Std) (mode : Nat) (n : Bool) {m : Nat} {e : Int} (hm : m ≠ 0)
    (h : (m : ℚ) * 2 ^ e < 2 ^ (f.lo - 1)) {y : ℚ} (hy : 0 < y ∧ y < 2 ^ (f.lo - 1)) (r : FRes) :
    RoundsTo f mode (sgn n * (m * 2 ^ e) : ℚ) r ↔
      (f.num f.maxBits < |toUlps mode (sgn n * y) f.lo| → r = ⟨f.overflow mode n, evOF ||| evNX⟩) ∧
      (|toUlps mode (sgn n * y) f.lo| ≤ f.num f.maxBits →
        (∃ k j, f.val r.bits = .fin n k j) ∧ numOf (f.val r.bits) = toUlps mode (sgn n * y) f.lo ∧
        r.bits < 2 ^ (1 + f.ebits + f.fbits) ∧ r.ev = evNX ||| evUF) := by
  have hl := lead_exact e hm
  have hlt : e + Nat.log2 m < f.lo - 1 := (zpow_lt_zpow_iff_right₀ one_lt_two).mp (hl.1.trans_lt h)
  have hplace : f.place (e + Nat.log2 m) = f.lo := by unfold Fmt.place Fmt.lo; unfold Fmt.lo at hlt; omega
  have hx : 0 < (m : ℚ) * 2 ^ e := lt_of_lt_of_le (two_zpow_pos _) hl.1
  obtain ⟨hsame, hne⟩ := toUlps_below_half mode n ⟨hx, h⟩ hy
  have htiny := (tiny_iff (f := f) (c := 1 - (f.bias : Int)) mode n (.inl rfl) hl).mpr (by
    unfold Fmt.lo at hlt
    have := hf.fbits.1
    split <;> omega)
  rw [hf.roundsTo_iff mode n hl]
  simp only [hplace, Rat.cast_id]
  rw [if_neg hne, if_pos htiny, hsame]

theorem Fmt.scale_fin (mode : Nat) {x : Nat} {n : Bool} {m : Nat} {e : Int} (i : Int) (hv : f.val x = .fin n m e) (hm : m ≠ 0) :
    f.scale mode x i = f.round mode n m (e + max (-600) (min 600 i)) := by
  simp [Fmt.scale, hv, hm]

/-- A scaled number is rounded once; beyond 600 either way it no longer depends on i. -/
theorem Fmt.Std.scale_roundsTo (hf : f.Std) (mode : Nat) {x : Nat} {n : Bool} {m : Nat} {e : Int} (i : Int)
    (hx : x < 2 ^ (1 + f.ebits + f.fbits)) (hv : f.val x = .fin n m e) (hm : m ≠ 0) :
    RoundsTo f mode (numOf (.fin n m e) * 2 ^ i) (f.scale mode x i) := by
  rw [Fmt.scale_fin mode i hv hm]
  have hround : ∀ j, RoundsTo f mode (sgn n * (m * 2 ^ j) : ℚ) (f.round mode n m j) := fun j =>
    hf.round_roundsTo mode n (Nat.pos_of_ne_zero hm) (.inl rfl)
  have hnum : numOf (.fin n m e) * 2 ^ i = sgn n * (m * 2 ^ (e + i)) := by
    rw [numOf_fin, zpow_add₀ two_ne_zero]
    ring
  obtain ⟨mag, hmag, -, rfl, rfl⟩ := hf.of_fin hx hv
  have hlo := f.lo_le_expo mag
  have hbias := hf.bias.2
  have hfb := hf.fbits.2
  rw [hnum]
  rcases lt_trichotomy (max (-600) (min 600 i)) i with hlt | heq | hgt
  · have hi : 600 < i := by omega
    have hc : max (-600) (min 600 i) = 600 := by omega
    rw [hc, hf.roundsTo_huge mode n hm (by unfold Fmt.lo at hlo; omega)]
    exact (hf.roundsTo_huge mode n hm (by unfold Fmt.lo at hlo; omega) _).mp (hround _)
  · rw [heq]
    exact hround _
  · have hi : i < -600 := by omega
    have hc : max (-600) (min 600 i) = -600 := by omega
    have hsmall : ∀ j, j ≤ -600 → (0 : ℚ) < f.mant mag * 2 ^ (f.expo mag + j) ∧
        (f.mant mag : ℚ) * 2 ^ (f.expo mag + j) < 2 ^ (f.lo - 1) := fun j hj => by
      refine ⟨mul_pos (by exact_mod_cast Nat.pos_of_ne_zero hm) (two_zpow_pos _), ?_⟩
      calc (f.mant mag : ℚ) * 2 ^ (f.expo mag + j) ≤ (2 ^ (f.fbits + 1) : Nat) * 2 ^ (f.expo mag + j) :=
            mul_le_mul_of_nonneg_right (by exact_mod_cast (f.mant_lt mag).le) (two_zpow_pos _).le
        _ = 2 ^ (((f.fbits + 1 : Nat) : Int) + (f.expo mag + j)) := by
            rw [Nat.cast_pow, Nat.cast_ofNat, ← zpow_natCast, ← zpow_add₀ two_ne_zero]
        _ < 2 ^ (f.lo - 1) := zpow_lt_zpow_right₀ one_lt_two (by have := hf.expo_le hmag; omega)
    rw [hc, hf.roundsTo_tiny mode n hm (hsmall i hi.le).2 (hsmall (-600) (le_refl _))]
    exact (hf.roundsTo_tiny mode n hm (hsmall (-600) (le_refl _)).2 (hsmall (-600) (le_refl _)) _).mp (hround _)

end

end Sys2Proof.Machine


namespace Sys2Proof.Machine

/-! ## Whole numbers: FRINT and the conversions to integers (07 R137, 04 R72) -/

/-- The model's rounding to a whole number, and when it is inexact. -/
theorem toWhole_numOf (mode : Nat) (n : Bool) (m : Nat) (e : Int) :
    toWhole mode (numOf (.fin n m e)) = sgn n * (roundTo mode n m e 0).1 ∧
      ((roundTo mode n m e 0).2 = true ↔ ((toWhole mode (numOf (.fin n m e)) : Int) : ℚ) ≠ numOf (.fin n m e)) := by
  have hs : Stands 0 ((m : ℚ) * 2 ^ e) m e := .inl rfl
  have hw := toWhole_roundTo mode n hs
  rw [zpow_zero, div_one, ← numOf_fin] at hw
  refine ⟨hw, ?_⟩
  rw [(roundTo_spec mode n hs).2, hw, zpow_zero, mul_one, numOf_fin]
  push_cast
  exact (mul_right_injective₀ (sgn_ne_zero n)).ne_iff.symm

theorem fmt32_std : fmt32.Std := std_of_mem (by simp)

theorem fmt32_lo : fmt32.lo = -149 := rfl

/-- The largest finite FP32 number. -/
theorem fmt32_num_maxBits : (fmt32.num fmt32.maxBits : ℚ) = (2 ^ 24 - 1) * 2 ^ 104 := by
  norm_num [Fmt.num, Fmt.mant, Fmt.expo, Fmt.maxBits, Fmt.lo, fmt32]

/-- A whole number of at most 24 bits is an FP32 number. -/
theorem fmt32_round_whole (mode : Nat) (n : Bool) {q : Nat} (hq : q < 2 ^ 24) :
    ∃ k j, fmt32.val (fmt32.round mode n q 0).bits = .fin n k j ∧ numOf (.fin n k j) = sgn n * q ∧
      (fmt32.round mode n q 0).bits < 2 ^ 32 := by
  have hqQ : (q : ℚ) ≤ 2 ^ 24 := by exact_mod_cast hq.le
  obtain ⟨mag, hle, hnum, hround⟩ := Fmt.round_exact (f := fmt32) (n := n) (e := 0) mode hq (by rw [fmt32_lo]; decide)
    (by rw [fmt32_num_maxBits, zpow_zero]; norm_num; linarith)
  have hmag : mag < 2 ^ (fmt32.fbits + fmt32.ebits) := lt_of_le_of_lt hle (by decide)
  refine ⟨_, _, by rw [hround]; exact (fmt32_std.val_sign_add hmag).1 hle, ?_, by rw [hround]; exact Fmt.sign_add_lt hmag⟩
  rw [numOf_fin, ← Fmt.num_eq, hnum, zpow_zero, mul_one]

/-- FRINT of a finite number (07 R137). -/
theorem rint_spec {mode b : Nat} (hb : b < 2 ^ 32) {n : Bool} {m : Nat} {e : Int} (hv : fmt32.val b = .fin n m e) :
    (∃ k j, fmt32.val (fmt32.rint mode b).bits = .fin n k j) ∧
      numOf (fmt32.val (fmt32.rint mode b).bits) = toWhole mode (numOf (.fin n m e)) ∧ (fmt32.rint mode b).bits < 2 ^ 32 ∧
      (fmt32.rint mode b).ev = (if (toWhole mode (numOf (.fin n m e)) : ℚ) = numOf (.fin n m e) then 0 else evNX) ∧
      (2 ^ 23 ≤ |numOf (.fin n m e)| → (fmt32.rint mode b).bits = b) := by
  obtain ⟨hw, hnx⟩ := toWhole_numOf mode n m e
  by_cases hwhole : 0 ≤ e ∨ m = 0
  · have hr : fmt32.rint mode b = ⟨b, 0⟩ := by simp only [Fmt.rint, hv, if_pos hwhole]
    have hx : (toWhole mode (numOf (.fin n m e)) : ℚ) = numOf (.fin n m e) := by
      refine not_not.mp (hnx.not.mp ?_)
      rcases hwhole with he | rfl
      · rw [roundTo_fine he]
        exact Bool.false_ne_true
      · unfold roundTo
        split <;> simp
    rw [hr, if_pos hx]
    exact ⟨⟨m, e, hv⟩, by rw [hv, hx], hb, rfl, fun _ => rfl⟩
  · obtain ⟨he, hm⟩ := not_or.mp hwhole
    have hr : fmt32.rint mode b =
        ⟨(fmt32.round mode n (roundTo mode n m e 0).1 0).bits, if (roundTo mode n m e 0).2 then evNX else 0⟩ := by
      simp only [Fmt.rint, hv, if_neg hwhole]
    obtain ⟨mag, -, -, hmag, -⟩ := fmt32_std.of_fin hb hv
    have hm24 : m < 2 ^ 24 := hmag ▸ fmt32.mant_lt mag
    have hhalf : (2 : ℚ) ^ e ≤ 1 / 2 := by
      have h := zpow_le_zpow_right₀ (one_le_two (α := ℚ)) (show e ≤ -1 by omega)
      rwa [zpow_neg_one, ← one_div] at h
    have hmQ : (0 : ℚ) ≤ m := Nat.cast_nonneg m
    have hq : (roundTo mode n m e 0).1 ≤ m := roundTo_le mode n (x := (m : ℚ) * 2 ^ e) (.inl rfl) (by
      rw [zpow_zero]
      exact mul_le_mul_of_nonneg_left (hhalf.trans (by norm_num)) hmQ)
    obtain ⟨k, j, hval, hnum, hlt⟩ := fmt32_round_whole mode n (lt_of_le_of_lt hq hm24)
    rw [hr]
    refine ⟨⟨k, j, hval⟩, by rw [hval, hnum, hw]; push_cast; rfl, hlt, ?_, fun hbig => ?_⟩
    · generalize (roundTo mode n m e 0).2 = nx at hnx
      cases nx
      · rw [if_pos (not_not.mp (hnx.not.mp (by decide)))]
        rfl
      · rw [if_neg (hnx.mp rfl)]
        rfl
    · have hm' : (m : ℚ) < 2 ^ 24 := by exact_mod_cast hm24
      rw [numOf_fin, abs_mul, abs_sgn, one_mul, abs_of_nonneg (mul_nonneg hmQ (two_zpow_pos e).le)] at hbig
      have := mul_le_mul_of_nonneg_left hhalf hmQ
      exfalso
      linarith

theorem toInt_fin (mode : Nat) (lo hi : Int) (n : Bool) (m : Nat) (e : Int) :
    toInt mode lo hi (.fin n m e) =
      let x := numOf (.fin n m e)
      let k := toWhole mode x
      if k < lo then (lo, evNV) else if hi < k then (hi, evNV) else (k, if (k : ℚ) = x then 0 else evNX) := by
  obtain ⟨hw, hnx⟩ := toWhole_numOf mode n m e
  have hk : (if n then -((roundTo mode n m e 0).1 : Int) else (roundTo mode n m e 0).1) = toWhole mode (numOf (.fin n m e)) := by
    rw [hw]
    cases n <;> simp
  have hev : (if (roundTo mode n m e 0).2 = true then evNX else 0) =
      if ((toWhole mode (numOf (.fin n m e)) : Int) : ℚ) = numOf (.fin n m e) then 0 else evNX := by
    simp only [hnx, ne_eq, ite_not]
  simp only [toInt, hk, hev]

/-! ## Comparisons of finite numbers (08 R144) -/

theorem lt_fin_iff (na nb : Bool) (ma mb : Nat) (ea eb : Int) :
    (FVal.fin na ma ea).lt false (.fin nb mb eb) = true ↔ numOf (.fin na ma ea) < numOf (.fin nb mb eb) := by
  obtain ⟨hnum, -, hneg⟩ := exactAdd_spec 0 na ma ea (!nb) mb eb
  rw [numOf_neg, ← sub_eq_add_neg] at hnum hneg
  simp only [FVal.lt, Bool.false_and]
  rw [← sub_neg]
  split
  · rename_i h
    rw [← hnum, numOf_eq_zero_iff.mpr h]
    simp
  · rename_i h
    rw [hneg h, decide_eq_true_eq]

theorem eq_fin_iff (na nb : Bool) (ma mb : Nat) (ea eb : Int) :
    (FVal.fin na ma ea).eq (.fin nb mb eb) = true ↔ numOf (.fin na ma ea) = numOf (.fin nb mb eb) := by
  show (!(FVal.fin na ma ea).lt false (.fin nb mb eb) && !(FVal.fin nb mb eb).lt false (.fin na ma ea)) = true ↔ _
  rw [Bool.and_eq_true, Bool.not_eq_true', Bool.not_eq_true', ← Bool.not_eq_true, ← Bool.not_eq_true, lt_fin_iff, lt_fin_iff,
    not_lt, not_lt]
  exact ⟨fun h => le_antisymm h.2 h.1, fun h => ⟨h.ge, h.le⟩⟩

end Sys2Proof.Machine


namespace Sys2Proof.Machine

/-! ## FEXP2C (04 R77) -/

/-- The whole part of ±m * 2^e as FEXP2C takes it. -/
def floorOf (n : Bool) (m : Nat) (e : Int) : Int :=
  if 0 ≤ e then (if n then -((m * 2 ^ e.toNat : Nat) : Int) else (m * 2 ^ e.toNat : Nat))
  else (if n then -(((m + 2 ^ (-e).toNat - 1) / 2 ^ (-e).toNat : Nat) : Int) else (m / 2 ^ (-e).toNat : Nat))

theorem floor_natDiv (m : Nat) {d : Nat} (hd : 0 < d) : ⌊(m / d : ℚ)⌋ = (m / d : Nat) := by
  rw [Int.floor_eq_iff]
  obtain ⟨h0, h1, -⟩ := natDiv_sticky m hd
  exact ⟨by exact_mod_cast h0, by exact_mod_cast h1⟩

theorem floor_neg_natDiv (m : Nat) {d : Nat} (hd : 0 < d) : ⌊-(m / d : ℚ)⌋ = -((m + d - 1) / d : Nat) := by
  have hdQ : (0 : ℚ) < d := by exact_mod_cast hd
  have hlow : m ≤ (m + d - 1) / d * d := by
    have := Nat.lt_mul_div_succ (m + d - 1) hd
    rw [Nat.mul_succ, mul_comm] at this
    omega
  have hhigh : (m + d - 1) / d * d < m + d := by
    have := Nat.div_mul_le_self (m + d - 1) d
    omega
  generalize (m + d - 1) / d = c at *
  have hl : (m : ℚ) ≤ c * d := by exact_mod_cast hlow
  have hh : (c : ℚ) * d < m + d := by exact_mod_cast hhigh
  rw [Int.floor_eq_iff]
  push_cast
  constructor
  · rw [neg_le_neg_iff, div_le_iff₀ hdQ]
    exact hl
  · rw [neg_lt_iff_pos_add, ← sub_pos]
    have : 0 < (m + d - c * d) / (d : ℚ) := div_pos (by linarith) hdQ
    have h2 : (m + d - c * d) / (d : ℚ) = m / d + (-c + 1) - 0 := by field_simp; ring
    linarith

theorem floorOf_eq (n : Bool) (m : Nat) (e : Int) : floorOf n m e = ⌊numOf (.fin n m e)⌋ := by
  rw [numOf_fin]
  unfold floorOf
  split
  · rename_i he
    have hx : (sgn n : ℚ) * (m * 2 ^ e) = ((sgn n * (m * 2 ^ e.toNat : Nat) : Int) : ℚ) := by
      have h := mul_two_pow_toNat (K := ℚ) m he
      rw [sub_zero, zpow_zero, mul_one] at h
      rw [← h]
      push_cast
      ring
    rw [hx, Int.floor_intCast]
    cases n <;> simp
  · rename_i he
    have hd : 0 < 2 ^ (-e).toNat := by positivity
    have hx : (m : ℚ) * 2 ^ e = m / (2 ^ (-e).toNat : Nat) := by
      rw [Nat.cast_pow, Nat.cast_ofNat, ← zpow_natCast, Int.toNat_of_nonneg (by omega), zpow_neg, div_inv_eq_mul]
    rw [hx]
    cases n
    · simpa using (floor_natDiv m hd).symm
    · rw [sgn_true, Int.cast_neg, Int.cast_one, neg_one_mul, floor_neg_natDiv m hd]
      rfl

/-- The fraction that FEXP2C takes is exact and not negative. -/
theorem exp2_fraction (n : Bool) (m : Nat) (e : Int) :
    let r := exactAdd 0 n m e (decide (0 < floorOf n m e)) (floorOf n m e).natAbs 0
    r.1 = false ∧ numOf (.fin false r.2.1 r.2.2) = Int.fract (numOf (.fin n m e)) := by
  obtain ⟨hnum, hzero, hneg⟩ := exactAdd_spec 0 n m e (decide (0 < floorOf n m e)) (floorOf n m e).natAbs 0
  have hfl := floorOf_eq n m e
  have hminus : numOf (.fin (decide (0 < floorOf n m e)) (floorOf n m e).natAbs 0) = -(floorOf n m e : ℚ) := by
    rw [numOf_fin, zpow_zero, mul_one, Nat.cast_natAbs]
    by_cases h : 0 < floorOf n m e
    · simp [h, abs_of_pos h]
    · simp [h, abs_of_nonpos (not_lt.mp h)]
  have hsub : numOf (.fin n m e) + -(floorOf n m e : ℚ) = Int.fract (numOf (.fin n m e)) := by
    rw [hfl, ← sub_eq_add_neg]
    rfl
  rw [hminus, hsub] at hnum hneg
  have hfalse : (exactAdd 0 n m e (decide (0 < floorOf n m e)) (floorOf n m e).natAbs 0).1 = false := by
    by_cases h : (exactAdd 0 n m e (decide (0 < floorOf n m e)) (floorOf n m e).natAbs 0).2.1 = 0
    · rw [hzero h]
      cases n
      · unfold zeroSign
        split <;> rfl
      · have hneg : floorOf true m e ≤ 0 := by
          rw [hfl]
          refine Int.floor_nonpos ?_
          rw [numOf_fin]
          have := two_zpow_pos (K := ℚ) e
          simp
          positivity
        simp [zeroSign, not_lt.mpr hneg]
    · rw [hneg h]
      exact decide_eq_false (not_lt.mpr (Int.fract_nonneg _))
  refine ⟨hfalse, ?_⟩
  rw [← hfalse, hnum]

/-- What FEXP2C makes of its four roundings. -/
def exp2Result (r1 r2 r3 r4 : FRes) : FRes :=
  let nx := (r1.ev ||| r2.ev ||| r3.ev ||| r4.ev) &&& evNX
  ⟨r4.bits, nx ||| (r4.ev &&& evOF) ||| (if decide (r4.bits < 0x00800000) && decide (nx ≠ 0) then evUF else 0)⟩

/-- FEXP2C of a finite number (04 R77). -/
theorem exp2c_fin {b : Nat} {n : Bool} {m : Nat} {e : Int} (hv : fmt32.val b = .fin n m e) :
    exp2c b =
      if 128 ≤ numOf (.fin n m e) then ⟨0x7F800000, evOF ||| evNX⟩
      else if numOf (.fin n m e) < -150 then ⟨0, evUF ||| evNX⟩
      else
        let fr := exactAdd 0 n m e (decide (0 < floorOf n m e)) (floorOf n m e).natAbs 0
        let x : FVal := .fin fr.1 fr.2.1 fr.2.2
        let r1 := fmt32.fma 0 (fmt32.val 0x3DA2B190) x (some (fmt32.val 0x3E65E1D8))
        let r2 := fmt32.fma 0 (fmt32.val r1.bits) x (some (fmt32.val 0x3F32315C))
        let r3 := fmt32.fma 0 (fmt32.val r2.bits) x (some (fmt32.val 0x3F800000))
        exp2Result r1 r2 r3 (fmt32.scale 0 r3.bits (floorOf n m e)) := by
  have h128 : numOf (.fin false 128 0) = 128 := by norm_num [numOf]
  have h150 : numOf (.fin true 150 0) = -150 := by norm_num [numOf]
  have hbig : ((FVal.fin false 128 0).lt false (.fin n m e) = true ∨ (FVal.fin n m e).eq (.fin false 128 0) = true) ↔
      128 ≤ numOf (.fin n m e) := by
    rw [lt_fin_iff, eq_fin_iff, h128, le_iff_lt_or_eq, eq_comm]
  have hsmall : (FVal.fin n m e).lt false (.fin true 150 0) = true ↔ numOf (.fin n m e) < -150 := by
    rw [lt_fin_iff, h150]
  simp only [exp2c, hv, hbig, hsmall]
  rfl

/-- The inexact event alone, by whether it is raised. -/
theorem and_evNX (ev : Ev) : ev &&& evNX = if ev &&& evNX ≠ 0 then evNX else 0 := by
  revert ev
  decide

theorem exp2Result_eq (r1 r2 r3 r4 : FRes) :
    exp2Result r1 r2 r3 r4 =
      let inexact := (r1.ev ||| r2.ev ||| r3.ev ||| r4.ev) &&& evNX ≠ 0
      ⟨r4.bits, (if inexact then evNX else 0) ||| (r4.ev &&& evOF) ||| (if inexact ∧ r4.bits < 0x00800000 then evUF else 0)⟩ := by
  simp only [exp2Result, ← and_evNX, Bool.and_eq_true, decide_eq_true_eq, and_comm]

/-- FEXP2C within its range: the procedure of 04 R77 on the fraction of x. -/
theorem exp2c_mid {b : Nat} {n : Bool} {m : Nat} {e : Int} (hv : fmt32.val b = .fin n m e) (hlow : -150 ≤ numOf (.fin n m e))
    (hhigh : numOf (.fin n m e) < 128) :
    ∃ k j, numOf (.fin false k j) = Int.fract (numOf (.fin n m e)) ∧
      let f : FVal := .fin false k j
      let p1 := fmt32.fma 0 (fmt32.val 0x3DA2B190) f (some (fmt32.val 0x3E65E1D8))
      let p2 := fmt32.fma 0 (fmt32.val p1.bits) f (some (fmt32.val 0x3F32315C))
      let p3 := fmt32.fma 0 (fmt32.val p2.bits) f (some (fmt32.val 0x3F800000))
      exp2c b = exp2Result p1 p2 p3 (fmt32.scale 0 p3.bits ⌊numOf (.fin n m e)⌋) := by
  obtain ⟨hfalse, hfract⟩ := exp2_fraction n m e
  refine ⟨_, _, hfract, ?_⟩
  rw [exp2c_fin hv, if_neg (not_le.mpr hhigh), if_neg (not_lt.mpr hlow), ← floorOf_eq]
  simp only [hfalse]

end Sys2Proof.Machine


namespace Sys2Proof.Machine

/-! ## VCVT (07 R141, 04 R72) -/

theorem half_eq_extract (h : Nat) (a : Word) : half h a = (a.extractLsb' (16 * h) 16).toNat := by
  rw [BitVec.extractLsb'_toNat, Nat.shiftRight_eq_div_pow]
  rfl

theorem byteAt_eq_extract (a : Word) (k : Nat) : byteAt a k = a.extractLsb' (8 * k) 8 := by
  apply BitVec.eq_of_toNat_eq
  simp [byteAt, BitVec.extractLsb'_toNat, BitVec.toNat_setWidth, BitVec.toNat_ushiftRight]

theorem setWidth_eq_extract (a : Word) : a.setWidth 16 = a.extractLsb' 0 16 := by
  apply BitVec.eq_of_toNat_eq
  simp [BitVec.extractLsb'_toNat, BitVec.toNat_setWidth]

/-- A word of two halves. -/
theorem ofNat_halves {x y : Nat} (hx : x < 2 ^ 16) (hy : y < 2 ^ 16) :
    BitVec.ofNat 32 (x * 65536 + y) = (BitVec.ofNat 16 x ++ BitVec.ofNat 16 y : Word) := by
  apply BitVec.eq_of_toNat_eq
  rw [BitVec.toNat_append, BitVec.toNat_ofNat, BitVec.toNat_ofNat, BitVec.toNat_ofNat, Nat.mod_eq_of_lt hx, Nat.mod_eq_of_lt hy,
    ← Nat.shiftLeft_add_eq_or_of_lt hy, Nat.shiftLeft_eq, Nat.mod_eq_of_lt (by omega)]

section
variable {c mode : Nat} {a d : Word}

/-- A widening conversion keeps the sign and the number (04 R72). -/
theorem vcvt_widens {f : Fmt} {part : Nat} (hf : f ∈ [fmt16, fmtB16, fmtE5, fmtE4]) (hp : part < 2 ^ (1 + f.ebits + f.fbits))
    (he : vcvt c mode a d = fres (fmt32.cvt 0 (f.val part))) :
    (f.val part = .nan → vcvt c mode a d = ⟨[BitVec.ofNat 32 0x7FC00000], evNO⟩) ∧
      (∀ n, f.val part = .inf n → vcvt c mode a d = ⟨[BitVec.ofNat 32 (if n then 0xFF800000 else 0x7F800000)], 0⟩) ∧
      (∀ n m e, f.val part = .fin n m e → ∃ w k j, w < 2 ^ 32 ∧ vcvt c mode a d = ⟨[BitVec.ofNat 32 w], 0⟩ ∧
        fmt32.val w = .fin n k j ∧ numOf (.fin n k j) = numOf (.fin n m e)) := by
  refine ⟨fun hv => by rw [he, hv]; rfl, fun n hv => by rw [he, hv]; cases n <;> rfl, fun n m e hv => ?_⟩
  have hstd : f.Std := std_of_mem (List.mem_cons_of_mem _ hf)
  have hfits : f.fbits ≤ fmt32.fbits ∧ fmt32.lo ≤ f.lo ∧ (f.num f.maxBits : ℚ) ≤ fmt32.num fmt32.maxBits := by
    rw [fmt32_num_maxBits]
    simp only [List.mem_cons, List.not_mem_nil, or_false] at hf
    rcases hf with rfl | rfl | rfl | rfl <;>
      exact ⟨by decide, by decide, by norm_num [Fmt.num, Fmt.mant, Fmt.expo, Fmt.maxBits, Fmt.lo, fmt16, fmtB16, fmtE5, fmtE4]⟩
  obtain ⟨w, k, j, hw, hcvt, hval, hnum⟩ := hstd.cvt_widens fmt32_std hfits.1 hfits.2.1 hfits.2.2 hp 0 hv
  exact ⟨w, k, j, hw, by rw [he, hcvt]; rfl, hval, hnum⟩

/-- A conversion to an integer (04 R72). -/
theorem vcvt_whole {rm : Nat} {lo hi : Int} (he : vcvt c mode a d = intRes (toInt rm lo hi (v32 a))) :
    (fmt32.val a.toNat = .nan → vcvt c mode a d = ⟨[BitVec.ofNat 32 0], evNO ||| evNV⟩) ∧
      (∀ n, fmt32.val a.toNat = .inf n → vcvt c mode a d = ⟨[BitVec.ofInt 32 (if n then lo else hi)], evNV⟩) ∧
      (∀ n m e, fmt32.val a.toNat = .fin n m e →
        let x := numOf (.fin n m e)
        let k := toWhole rm x
        vcvt c mode a d =
          if k < lo then ⟨[BitVec.ofInt 32 lo], evNV⟩
          else if hi < k then ⟨[BitVec.ofInt 32 hi], evNV⟩
          else ⟨[BitVec.ofInt 32 k], if (k : ℚ) = x then 0 else evNX⟩) := by
  refine ⟨fun hv => ?_, fun n hv => ?_, fun n m e hv => ?_⟩
  · rw [he, v32, hv]
    rfl
  · rw [he, v32, hv]
    rfl
  · rw [he, v32, hv, toInt_fin]
    simp only [intRes]
    split_ifs <;> rfl

/-- A narrowing conversion writes one half and leaves the other (04 R72). -/
theorem vcvt_inserts {f : Fmt} (hf : f.Std) (hbits : 1 + f.ebits + f.fbits = 16) {h : Nat} (low : Bool) (hh : h = 0 ↔ low = true)
    (he : vcvt c mode a d = insertHalf h (f.cvt mode (v32 a)) d) :
    let r := f.cvt mode (fmt32.val a.toNat)
    vcvt c mode a d = ⟨[if low then d.extractLsb' 16 16 ++ BitVec.ofNat 16 r.bits
      else BitVec.ofNat 16 r.bits ++ d.extractLsb' 0 16], r.ev⟩ := by
  have hr := hf.cvt_bits_lt mode (v32 a)
  rw [hbits] at hr
  have hx : ∀ k, half k d < 2 ^ 16 := fun k => Nat.mod_lt _ (by decide)
  have hpart : ∀ k, BitVec.ofNat 16 (half k d) = d.extractLsb' (16 * k) 16 := fun k => by
    rw [half_eq_extract, BitVec.ofNat_toNat, BitVec.setWidth_eq]
  rw [he]
  simp only [insertHalf, hh]
  cases low
  · rw [if_neg (by decide), if_neg (by decide), ofNat_halves hr (hx 0), hpart]
    rfl
  · rw [if_pos rfl, if_pos rfl, ofNat_halves (hx 1) hr, hpart]
    rfl

end

/-! ## Special operands (04 R64, R65, R69) -/

/-- Zero times infinity. -/
def zeroTimesInf (a b : FVal) : Bool :=
  match a, b with
  | .inf _, .fin _ 0 _ => true
  | .fin _ 0 _, .inf _ => true
  | _, _ => false

theorem zeroTimesInf_eq_false {a b : FVal} (hinf : ∀ n, b ≠ .inf n) (hzero : ∀ n e, b ≠ .fin n 0 e) : zeroTimesInf a b = false := by
  unfold zeroTimesInf
  split
  · exact absurd rfl (hzero _ _)
  · exact absurd rfl (hinf _)
  · rfl

theorem Fmt.fma_nan {f : Fmt} {mode : Nat} {a b : FVal} {c : Option FVal} (h : FVal.nan ∈ [a, b] ++ c.toList) :
    f.fma mode a b c = f.invalid (evNO ||| (if zeroTimesInf a b then evNV else 0)) := by
  have hno : nanOperand ([a, b] ++ c.toList) = evNO := if_pos (List.elem_eq_true_of_mem h)
  unfold Fmt.fma
  simp only [hno]
  rw [if_pos (by decide)]
  rfl

section
variable {m : Nat} {a b : FVal}

theorem add_nan (h : a = .nan ∨ b = .nan) : fmt32.add m a b = ⟨0x7FC00000, evNO⟩ := by
  have hz : zeroTimesInf a .one = false := zeroTimesInf_eq_false (fun n => by simp [FVal.one]) (by simp [FVal.one])
  rw [Fmt.add, Fmt.fma_nan (by rcases h with rfl | rfl <;> simp), hz]
  rfl

theorem sub_nan (h : a = .nan ∨ b = .nan) : fmt32.sub m a b = ⟨0x7FC00000, evNO⟩ :=
  add_nan (h.imp_right (fun e => by rw [e]; rfl))

theorem mul_nan (h : a = .nan ∨ b = .nan) : fmt32.mul m a b = ⟨0x7FC00000, evNO⟩ := by
  have hz : zeroTimesInf a b = false := by
    rcases h with rfl | rfl
    · rfl
    · exact zeroTimesInf_eq_false (by simp) (by simp)
  rw [Fmt.mul, Fmt.fma_nan (by rcases h with rfl | rfl <;> simp), hz]
  rfl

theorem div_nan (h : a = .nan ∨ b = .nan) : fmt32.div m a b = ⟨0x7FC00000, evNO⟩ := by
  rcases h with rfl | rfl
  · rfl
  · cases a <;> rfl

/-- The root of a negative number, and one over it. -/
theorem root_of_negative {x : Nat} {e : Int} (h : 0 < x) :
    fmt32.sqrt m (.fin true x e) = ⟨0x7FC00000, evNV⟩ ∧ fmt32.rsq m (.fin true x e) = ⟨0x7FC00000, evNV⟩ := by
  simp only [Fmt.sqrt, Fmt.rsq, h.ne', if_false]
  exact ⟨rfl, rfl⟩

theorem div_by_zero {k k' : Bool} {x : Nat} {e e' : Int} (h : 0 < x) :
    fmt32.div m (.fin k x e) (.fin k' 0 e') = ⟨if k != k' then 0xFF800000 else 0x7F800000, evDZ⟩ := by
  simp only [Fmt.div, h.ne', if_false, if_true]
  cases k <;> cases k' <;> rfl

/-- FMIN and FMAX prefer the number (07 R133). -/
theorem minmax_nan {n : Bool} {x : Nat} (h : fmt32.val x ≠ .nan) :
    fmt32.minmax n 0x7FC00000 x = ⟨x, evNO⟩ ∧ fmt32.minmax n x 0x7FC00000 = ⟨x, evNO⟩ := by
  have hc : fmt32.val 0x7FC00000 = .nan := rfl
  simp only [Fmt.minmax, hc, h, if_true, true_and, false_and, if_false, and_self]

theorem scale_of_special (i : Int) {x : Nat} (hx : x ∈ [0, 0x80000000, 0x7F800000, 0xFF800000]) : fmt32.scale m x i = ⟨x, 0⟩ := by
  simp only [List.mem_cons, List.not_mem_nil, or_false] at hx
  rcases hx with rfl | rfl | rfl | rfl <;> rfl

end

/-! ## The rounded operations of finite operands (07 R132, R135) -/

section
variable {f : Fmt} (hf : f.Std) (mode : Nat) (na nb nc : Bool) (ma mb mc : Nat) (ea eb ec : Int)
include hf

theorem Fmt.Std.fma_spec :
    let x := numOf (.fin na ma ea) * numOf (.fin nb mb eb) + numOf (.fin nc mc ec)
    let r := f.fma mode (.fin na ma ea) (.fin nb mb eb) (some (.fin nc mc ec))
    (x ≠ 0 → RoundsTo f mode x r) ∧ (x = 0 → r = ⟨f.sign (zeroSign mode (xor na nb) nc), 0⟩) := by
  simp only [← numOf_mul, Fmt.fma_fin]
  exact hf.round_exactAdd mode (xor na nb) (ma * mb) (ea + eb) nc mc ec

theorem Fmt.Std.add_spec :
    let x := numOf (.fin na ma ea) + numOf (.fin nb mb eb)
    let r := f.add mode (.fin na ma ea) (.fin nb mb eb)
    (x ≠ 0 → RoundsTo f mode x r) ∧ (x = 0 → r = ⟨f.sign (zeroSign mode na nb), 0⟩) := by
  have h := hf.fma_spec mode na false nb ma 1 mb ea 0 eb
  rw [show numOf (.fin false 1 0) = 1 from numOf_one, mul_one, Bool.xor_false] at h
  exact h

theorem Fmt.Std.sub_spec :
    let x := numOf (.fin na ma ea) - numOf (.fin nb mb eb)
    let r := f.sub mode (.fin na ma ea) (.fin nb mb eb)
    (x ≠ 0 → RoundsTo f mode x r) ∧ (x = 0 → r = ⟨f.sign (zeroSign mode na (!nb)), 0⟩) := by
  have h := hf.add_spec mode na (!nb) ma mb ea eb
  rw [numOf_neg, ← sub_eq_add_neg] at h
  exact h

theorem Fmt.Std.mul_spec :
    let r := f.mul mode (.fin na ma ea) (.fin nb mb eb)
    (ma * mb ≠ 0 → RoundsTo f mode (numOf (.fin na ma ea) * numOf (.fin nb mb eb)) r) ∧
      (ma * mb = 0 → r = ⟨f.sign (xor na nb), 0⟩) := by
  simp only [← numOf_mul, Fmt.mul_fin]
  refine ⟨fun h => hf.round_numOf mode _ _ (Nat.pos_of_ne_zero h), fun h => ?_⟩
  rw [h, Fmt.round_zero]

end

theorem Fmt.zero_eq (f : Fmt) (n : Bool) : (⟨if n then 2 ^ (f.ebits + f.fbits) else 0, 0⟩ : FRes) = ⟨f.sign n, 0⟩ := by
  rw [Fmt.sign, add_comm]

/-- Settles O24: one rounding by `Fmt.Std.round_roundsTo`, which the operations reach through an exact sum, a sticky quotient or
root, or a scaled number; FRINT, FEXP2C and VCVT by `rint_spec`, `exp2c_mid` and `vcvt_widens`, `vcvt_whole`, `vcvt_inserts`. -/
theorem floatSpecials : Obligations.FloatSpecials := by
  unfold Obligations.FloatSpecials
  refine ⟨fun m a b n i => ?_, fun f hf mode b hb => ?_, fun f hf mode n m e hm _ => (std_of_mem hf).round_numOf mode n e hm,
    fun f hf mode na nb nc ma mb mc ea eb ec i _ => ?_, fun mode b hb => ?_, fun b hb => ?_, fun mode a d => ?_⟩
  · intro nan inf
    refine ⟨fun h => ⟨add_nan h, sub_nan h, mul_nan h, div_nan h⟩, rfl, rfl, by cases n <;> rfl, by cases n <;> rfl,
      fun k e => ⟨rfl, rfl⟩, fun k e k' e' => rfl, fun k => rfl, fun x e h => root_of_negative h,
      fun k x e k' e' h => div_by_zero h, fun k x e h => ?_, fun x h => minmax_nan h, by decide, by decide,
      fun x hx => scale_of_special i hx⟩
    rw [(fmt32_std.sub_spec m k k x x e e).2 (sub_self _)]
    by_cases hm : m = 3 <;> cases k <;> simp [zeroSign, hm, Fmt.sign, fmt32]
  · refine ⟨fun n m e hv => (std_of_mem hf).cvt_self hb mode hv, fun hv => ?_⟩
    rw [hv]
    rfl
  · intro a b c zero sum
    have hstd := std_of_mem hf
    have hzero : ∀ n, zero n = ⟨f.sign n, 0⟩ := f.zero_eq
    have hxor : (na != nb) = xor na nb := by cases na <;> cases nb <;> rfl
    simp only [sum, hzero, hxor]
    refine ⟨hstd.add_spec mode na nb ma mb ea eb, hstd.sub_spec mode na nb ma mb ea eb, hstd.fma_spec mode na nb nc ma mb mc ea eb ec,
      (hstd.mul_spec mode na nb ma mb ea eb).1, (hstd.mul_spec mode na nb ma mb ea eb).2,
      fun hb => ⟨fun ha => hstd.div_roundsTo mode na nb ea eb ha hb, fun ha => ?_⟩, fun ha hn => ?_, ?_,
      fun x n m e hx hv hm => hstd.scale_roundsTo mode i hx hv hm⟩
    · simp [a, b, Fmt.div, ha, hb]
    · subst hn
      exact ⟨hstd.sqrt_roundsTo mode ea ha, hstd.rsq_roundsTo mode ea ha⟩
    · simp [Fmt.sqrt]
  · refine ⟨fun hv => by rw [Fmt.rint, hv]; rfl, fun n hv => by rw [Fmt.rint, hv], fun n m e hv => rint_spec hb hv⟩
  · refine ⟨fun hv => by rw [exp2c, hv]; rfl, fun hv => by rw [exp2c, hv]; rfl, fun hv => by rw [exp2c, hv]; rfl,
      fun n m e hv => ⟨fun h => ?_, fun h => ?_, fun hlow hhigh => ?_⟩⟩
    · rw [exp2c_fin hv, if_pos h]
    · rw [exp2c_fin hv, if_neg (by linarith), if_pos h]
    · obtain ⟨k, j, hfract, he⟩ := exp2c_mid hv hlow hhigh
      exact ⟨k, j, hfract, he.trans (exp2Result_eq _ _ _ _)⟩
  · intro conv whole number widens inserts
    have hpart : ∀ {f : Fmt} (i j : Nat), 1 + f.ebits + f.fbits = j → (a.extractLsb' i j).toNat < 2 ^ (1 + f.ebits + f.fbits) :=
      fun i j h => h ▸ (a.extractLsb' i j).isLt
    have hhalf : ∀ {c : Nat} {f : Fmt} (h : Nat), f ∈ [fmt16, fmtB16, fmtE5, fmtE4] → 1 + f.ebits + f.fbits = 16 →
        vcvt c mode a d = fres (fmt32.cvt 0 (f.val (half h a))) → widens c f (a.extractLsb' (16 * h) 16).toNat :=
      fun h hf hbits he => vcvt_widens hf (hpart _ _ hbits) (by rw [he, half_eq_extract])
    have hbyte : ∀ {c : Nat} {f : Fmt} (k : Nat), f ∈ [fmt16, fmtB16, fmtE5, fmtE4] → 1 + f.ebits + f.fbits = 8 →
        vcvt c mode a d = fres (fmt32.cvt 0 (f.val (byteAt a k).toNat)) → widens c f (a.extractLsb' (8 * k) 8).toNat :=
      fun k hf hbits he => vcvt_widens hf (hpart _ _ hbits) (by rw [he, byteAt_eq_extract])
    have hwhole : ∀ {c rm : Nat} {lo hi : Int}, vcvt c mode a d = intRes (toInt rm lo hi (v32 a)) →
        vcvt c rm a d = intRes (toInt rm lo hi (v32 a)) → whole c rm lo hi :=
      fun he hrm => ⟨(vcvt_whole he).1, (vcvt_whole hrm).2⟩
    refine ⟨fun _ => rfl, fun _ => rfl, fun h => by subst h; exact ⟨rfl, rfl⟩, hwhole rfl rfl, hwhole rfl rfl, hwhole rfl rfl,
      hhalf 0 (by simp) rfl rfl, hhalf 1 (by simp) rfl rfl, hhalf 0 (by simp) rfl rfl, hhalf 1 (by simp) rfl rfl,
      vcvt_inserts (std_of_mem (by simp)) rfl (h := 0) true (by decide) rfl,
      vcvt_inserts (std_of_mem (by simp)) rfl (h := 1) false (by decide) rfl,
      vcvt_inserts (std_of_mem (by simp)) rfl (h := 0) true (by decide) rfl,
      vcvt_inserts (std_of_mem (by simp)) rfl (h := 1) false (by decide) rfl,
      fun k hk => ⟨hbyte k (by simp) rfl ?_, hbyte k (by simp) rfl ?_⟩,
      congrArg (fun x : BitVec 8 => word1 (x.signExtend 32)) (byteAt_eq_extract a 0),
      congrArg (fun x : BitVec 16 => word1 (x.signExtend 32)) (setWidth_eq_extract a),
      congrArg (fun x : BitVec 8 => word1 (x.setWidth 32)) (byteAt_eq_extract a 0),
      congrArg (fun x : BitVec 16 => word1 (x.setWidth 32)) (setWidth_eq_extract a)⟩
    · interval_cases k <;> rfl
    · interval_cases k <;> rfl

end Sys2Proof.Machine

/-! # Cross-lane moves, prefixes and reductions (obligation O27) -/

namespace Sys2Proof.Machine

-- One proof after another: the whole text is compiled at once, within a bound on its memory.
set_option Elab.async false

/-! ## The lanes that a cross-lane instruction reads (08 R146) -/

theorem exec_vsr (d c : Nat) (s : State) : exec (.vsr d c) s = execVsr d c s := rfl
theorem exec_vsetl (d a : Nat) (b : Ob) (s : State) : exec (.vsetl d a b) s = execVsetl d a b s := rfl
theorem exec_vredfadd (d a : Nat) (s : State) : exec (.vredfadd d a) s = execVredfadd d a s := rfl

theorem State.fromLane_nat (s : State) (a j : Nat) (w : Word) :
    s.fromLane a (j : Int) w = if (decide (j < 32) && inMask s.laneSet j) = true then s.v a j else w := by
  simp [State.fromLane]

/-- A source lane below lane 0 lies in no lane set. -/
theorem State.fromLane_sub (s : State) (a l n : Nat) (w : Word) :
    s.fromLane a ((l : Int) - n) w =
      if n ≤ l ∧ (decide (l - n < 32) && inMask s.laneSet (l - n)) = true then s.v a (l - n) else w := by
  by_cases h : n ≤ l
  · rw [← Int.ofNat_sub h, State.fromLane_nat]
    simp [h]
  · rw [State.fromLane, if_neg (by omega), if_neg (by omega)]

theorem State.sumOver_eq_foldr (s : State) (a : Nat) (ls : List Nat) : s.sumOver a ls = ls.foldr (fun l t => s.v a l + t) 0 := by
  have key : ∀ (t : Word), ls.foldl (fun t k => t + s.v a k) t = t + ls.foldr (fun l t => s.v a l + t) 0 := by
    induction ls with
    | nil => simp
    | cons l ls ih => intro t; rw [List.foldl_cons, ih, List.foldr_cons, BitVec.add_assoc]
  exact (key 0).trans (BitVec.zero_add _)

/-- The signed maximum over lanes is the value of one of them, and none lies above it. -/
theorem State.maxOver_spec (s : State) (a : Nat) {ls : List Nat} (h : ls ≠ []) :
    (∀ k ∈ ls, (s.v a k).toInt ≤ (s.maxOver a ls).toInt) ∧ ∃ k ∈ ls, s.maxOver a ls = s.v a k := by
  have key : ∀ (r : List Nat) (j : Nat), let m := r.foldl (fun m j => if m.toInt < (s.v a j).toInt then s.v a j else m) (s.v a j)
      (∀ k ∈ j :: r, (s.v a k).toInt ≤ m.toInt) ∧ ∃ k ∈ j :: r, m = s.v a k := by
    intro r
    induction r with
    | nil => intro j; simp
    | cons i r ih =>
      intro j
      rw [List.foldl_cons]
      split
      · rename_i hlt
        obtain ⟨hge, k, hk, he⟩ := ih i
        refine ⟨fun k hk => ?_, k, List.mem_cons_of_mem _ hk, he⟩
        rcases List.mem_cons.mp hk with rfl | hk
        · exact hlt.le.trans (hge i (List.mem_cons_self ..))
        · exact hge k hk
      · rename_i hle
        obtain ⟨hge, k, hk, he⟩ := ih j
        have hj := hge j (List.mem_cons_self ..)
        refine ⟨fun k hk => ?_, k, ?_, he⟩
        · simp only [List.mem_cons] at hk hge
          rcases hk with rfl | rfl | hk
          · exact hj
          · exact (not_lt.mp hle).trans hj
          · exact hge k (.inr hk)
        · simp only [List.mem_cons] at hk ⊢
          tauto
  cases ls with
  | nil => exact absurd rfl h
  | cons j r => exact key r j

theorem State.mem_upTo {s : State} {l k : Nat} : k ∈ s.upTo l ↔ k ∈ lanesOf s.active ∧ k ≤ l := by
  simp [State.upTo]

/-! ## The tree of VREDFADD (08 R147) -/

/-- A node of the tree over its two children. -/
def treeNode (mode : Nat) (a b : Option FRes) : Option FRes :=
  match a, b with
  | some x, some y =>
    let z := fmt32.add mode (fmt32.val x.bits) (fmt32.val y.bits)
    some ⟨z.bits, x.ev ||| y.ev ||| z.ev⟩
  | some x, none => some x
  | none, y => y

theorem treeNode_none_right (mode : Nat) (a : Option FRes) : treeNode mode a none = a := by cases a <;> rfl

theorem treeNode_none_left (mode : Nat) (b : Option FRes) : treeNode mode none b = b := rfl

theorem treeNode_isSome (mode : Nat) (a b : Option FRes) : (treeNode mode a b).isSome = (a.isSome || b.isSome) := by
  cases a <;> cases b <;> rfl

theorem treeLevel_cons (mode : Nat) (a b : Option FRes) (r : List (Option FRes)) :
    treeLevel mode (a :: b :: r) = treeNode mode a b :: treeLevel mode r := by
  cases a <;> cases b <;> rfl

/-- One level of the tree joins the neighbours of the level below. -/
theorem treeLevel_map (mode : Nat) (f : Nat → Option FRes) (n : Nat) :
    treeLevel mode ((List.range (2 * n)).map f) = (List.range n).map (fun i => treeNode mode (f (2 * i)) (f (2 * i + 1))) := by
  induction n generalizing f with
  | zero => rfl
  | succ n ih =>
    rw [show 2 * (n + 1) = 2 * n + 1 + 1 by omega, List.range_succ_eq_map, List.range_succ_eq_map, List.range_succ_eq_map (n := n)]
    simp only [List.map_cons, List.map_map, treeLevel_cons]
    exact congrArg (List.cons _) (ih (f ∘ Nat.succ ∘ Nat.succ))

/-- Node i of level k of the tree over the active lanes. -/
def State.treeAt (s : State) (a : Nat) : Nat → Nat → Option FRes
  | 0, l => if inMask s.active l then some ⟨(s.v a l).toNat, 0⟩ else none
  | k + 1, i => treeNode s.me.frm.toNat (s.treeAt a k (2 * i)) (s.treeAt a k (2 * i + 1))

theorem State.tree_eq (s : State) (a : Nat) : s.tree a = (s.treeAt a 5 0).getD ⟨0, 0⟩ := by
  have level : ∀ k n, treeLevel s.me.frm.toNat ((List.range (2 * n)).map (s.treeAt a k)) = (List.range n).map (s.treeAt a (k + 1)) :=
    fun k n => treeLevel_map _ _ n
  show ((treeLevel _ (treeLevel _ (treeLevel _ (treeLevel _ (treeLevel _ ((List.range (2 * 16)).map (s.treeAt a 0))))))).headD none).getD _ = _
  rw [level, level 1 8, level 2 4, level 3 2, level 4 1]
  rfl

/-- Over one active lane every node above it holds that lane's value. -/
theorem State.treeAt_single {s : State} {a j : Nat} (h : lanesOf s.active = [j]) (k i : Nat) (hi : i < 2 ^ (5 - k)) (hk : k ≤ 5) :
    s.treeAt a k i = if j / 2 ^ k = i then some ⟨(s.v a j).toNat, 0⟩ else none := by
  induction k generalizing i with
  | zero =>
    have hin : inMask s.active i = true ↔ j = i := by
      have hm : i ∈ lanesOf s.active ↔ i = j := by rw [h, List.mem_singleton]
      rw [mem_lanesOf] at hm
      rw [eq_comm (a := j), ← hm]
      exact (and_iff_right hi).symm
    simp only [State.treeAt, hin, pow_zero, Nat.div_one]
    by_cases he : j = i
    · rw [if_pos he, if_pos he, he]
    · rw [if_neg he, if_neg he]
  | succ k ih =>
    have hpow : 2 ^ (5 - k) = 2 * 2 ^ (5 - (k + 1)) := by rw [← pow_succ', show 5 - k = 5 - (k + 1) + 1 by omega]
    rw [State.treeAt, ih (2 * i) (by omega) (by omega), ih (2 * i + 1) (by omega) (by omega), pow_succ, ← Nat.div_div_eq_div_mul]
    by_cases h0 : j / 2 ^ k = 2 * i
    · rw [if_pos h0, if_neg (by omega), treeNode_none_right, if_pos (by omega)]
    · rw [if_neg h0, treeNode_none_left]
      by_cases h1 : j / 2 ^ k = 2 * i + 1
      · rw [if_pos h1, if_pos (by omega)]
      · rw [if_neg h1, if_neg (by omega)]

/-- Above an active lane no node is empty. -/
theorem State.treeAt_isSome {s : State} (a : Nat) {l : Nat} (h : inMask s.active l = true) (k : Nat) :
    (s.treeAt a k (l / 2 ^ k)).isSome = true := by
  induction k with
  | zero => simp [State.treeAt, h]
  | succ k ih =>
    rw [State.treeAt, treeNode_isSome, Bool.or_eq_true, pow_succ, ← Nat.div_div_eq_div_mul]
    rcases Nat.mod_two_eq_zero_or_one (l / 2 ^ k) with hm | hm
    · exact .inl (by rwa [show 2 * (l / 2 ^ k / 2) = l / 2 ^ k by omega])
    · exact .inr (by rwa [show 2 * (l / 2 ^ k / 2) + 1 = l / 2 ^ k by omega])

/-- The events of VREDFADD fall to one of its lanes. -/
theorem lanesEv_one {act : Word} {res : Nat → LaneRes} {k : Nat} {x : Ev} (hk : k ∈ lanesOf act)
    (h : ∀ l, (res l).ev = if l = k then x else 0) : lanesEv act res = x := by
  have key : ∀ (ls : List Nat) (e : Ev), ls.foldl (fun e l => e ||| (res l).ev) e = e ||| if k ∈ ls then x else 0 := by
    intro ls
    induction ls with
    | nil => simp
    | cons l ls ih =>
      intro e
      rw [List.foldl_cons, ih, h, BitVec.or_assoc]
      by_cases hl : l = k
      · subst hl
        by_cases hm : l ∈ ls <;> simp [hm]
      · by_cases hm : k ∈ ls <;> simp [hm, hl, eq_comm (a := k)]
  rw [lanesEv, key, if_pos hk]
  exact BitVec.zero_or

/-! ## What they write -/

theorem bare_rotateLane (d l : Nat) (g : Group) : (g.rotateLane d l).bare = g.bare.rotateLane d l := by
  obtain ⟨x, hx⟩ := onlyQ_rotateLane d l g
  obtain ⟨y, hy⟩ := onlyQ_rotateLane d l g.bare
  have hq : (g.rotateLane d l).q = (g.bare.rotateLane d l).q := rfl
  rw [hx, hy] at hq ⊢
  exact congrArg (fun q => ({ g.bare with q := q } : Group)) hq

theorem bare_rotate (d : Nat) (m : Word) (g : Group) : (g.rotate d m).bare = g.bare.rotate d m :=
  (List.foldl_hom Group.bare (g₂ := fun g l => g.rotateLane d l) (fun g l => (bare_rotateLane d l g).symm)).symm

section
variable {s : State} {d a : Nat} (hp : s.plain = true) (hd : d < s.me.regalloc) (hd' : d < 256)
include hp hd hd'

/-- An instruction without va that names one word for each lane. -/
theorem vWord_writes {i : Instr} {op : Nat} {f : State → Nat → Word} {x : Nat → Word} (hx : ∀ l, f s l = x l)
    (he : exec i s = .next (vWord op f d s)) : WritesV 1 4 i d x 0 s := by
  have h := laneOp_writes (f := vForm op 1 d [⟨d, 1, 1⟩]) hp rfl (by simp [State.vAll, vForm, State.vOk_one hd hd'])
    (res := fun s l => word1 (f s l)) (fun l => congrArg (fun w => [w]) (hx l)) (fun _ => nfClass_zero_events s.me.trapnf) he
  rw [lanesEv_const_zero (fun _ => rfl)] at h
  exact h

variable (ha : a < s.me.regalloc) (ha' : a < 256)
include ha ha'

/-- A cross-lane instruction whose result in lane l is x l. -/
theorem crossOp_writes {i : Instr} {op : Nat} {f : State → Nat → Word} {x : Nat → Word} (hx : ∀ l, f s l = x l)
    (he : exec i s = .next (crossOp op f d a s)) : WritesV 1 4 i d x 0 s :=
  long_writesV hp ⟨State.vOk_one hd hd', State.vOk_one ha ha'⟩ (fun l => congrArg word1 (hx l)) he

/-- VREDFADD writes the root of its tree to every active lane, and raises the events of all its additions. -/
theorem vredfadd_writes (hnf : s.me.trapnf = 0) : ∃ ev,
    WritesV 1 4 (.vredfadd d a) d (fun _ => BitVec.ofNat 32 (s.tree a).bits) ev s ∧ (lanesOf s.active ≠ [] → ev = (s.tree a).ev) := by
  refine ⟨_, laneOp_writes (f := { vForm 0x67 1 d [⟨d, 1, 1⟩, ⟨a, 1, 1⟩] with whole := true }) hp rfl
    (by simp [State.vAll, vForm, State.vOk_one hd hd', State.vOk_one ha ha']) (fun _ => rfl)
    (fun _ => by rw [hnf]; exact nfClass_no_class _) (exec_vredfadd d a s), fun hact => ?_⟩
  obtain ⟨k, r, hl⟩ := List.exists_cons_of_ne_nil hact
  have hlow : lowest s.active = k := by rw [lowest, hl, List.headD_cons]
  exact lanesEv_one (k := lowest s.active) (by rw [hlow, hl]; exact List.mem_cons_self ..) (fun _ => rfl)

/-- VSETL writes one lane, and every lane of the lane set pushes its vd into q (08 R146). -/
theorem vsetl_writes (b : Ob) : ∃ t, exec (.vsetl d a b) s = .next t ∧ Paid 1 0 s t ∧
    let u := t.grp s.cur.g
    OnlyGroup s.cur.g (fun g => ({ g with v := u.v, q := u.q } : Group).goOn s.cur.i 4) s t ∧
    (∀ r l, l < 32 → u.vreg r l =
      if r = d ∧ lanesOf s.active ≠ [] ∧ l = s.laneIndex b ∧ inMask s.laneSet l = true then s.v a (lowest s.active) else s.me.vreg r l) ∧
    ∀ k l, l < 32 → u.qreg k l = if inMask s.laneSet l = true ∧ k < 4 then (if k = 0 then u.vreg d l else s.me.qreg (k - 1) l) else s.me.qreg k l := by
  have hj : s.laneIndex b < 32 := Nat.mod_lt _ (by decide)
  have hact : (s.active ≠ 0) ↔ lanesOf s.active ≠ [] := by
    rw [ne_eq, ne_eq, not_iff_not, List.eq_nil_iff_forall_not_mem]
    refine ⟨fun h l hl => ?_, fun h => BitVec.eq_of_getLsbD_eq fun l hl => ?_⟩
    · rw [h, mem_lanesOf] at hl
      simp [inMask] at hl
    · have := h l
      rw [mem_lanesOf] at this
      simpa [inMask, hl] using this
  have hw : (decide (s.active ≠ 0) && inMask s.laneSet (s.laneIndex b)) = true ↔
      lanesOf s.active ≠ [] ∧ inMask s.laneSet (s.laneIndex b) = true := by
    rw [Bool.and_eq_true, decide_eq_true_iff, hact]
  generalize hW : (decide (s.active ≠ 0) && inMask s.laneSet (s.laneIndex b)) = w at hw
  generalize hF : (fun g : Group => if w then g.setV d (s.laneIndex b) (s.v a (lowest s.active)) else g) = F
  have he : exec (.vsetl d a b) s = .next (((s.charge 1).modMe (fun g => (F g).rotate d s.laneSet)).advance 4) := by
    rw [exec_vsetl, execVsetl, guarded_passes _ _ _ _ (by simp [State.vAll, State.vOk_one hd hd', State.vOk_one ha ha']), ← hF, ← hW]
    rfl
  have hV : ∀ g, OnlyV g (F g) := fun g => by
    rw [← hF]
    dsimp only
    split
    · exact ⟨_, rfl⟩
    · exact OnlyV.refl g
  have honlyF : ∀ g, (F g).rotate d s.laneSet = { g with v := (F g).v, q := ((F g).rotate d s.laneSet).q } := fun g => by
    obtain ⟨v, hv⟩ := hV g
    obtain ⟨q, hq⟩ := onlyQ_rotate d s.laneSet (F g)
    rw [hq, hv]
  have hbare : ∀ g : Group, ((F g).rotate d s.laneSet).bare = (F g.bare).rotate d s.laneSet := fun g => by
    rw [bare_rotate, ← hF]
    dsimp only
    split <;> rfl
  obtain ⟨honly, hpaid, -⟩ := runs_charged 1 4 (Respects.of_comm hbare) (fun g => by rw [honlyF]; rfl) hp
  refine ⟨_, he, hpaid, ?_⟩
  generalize ((s.charge 1).modMe (fun g => (F g).rotate d s.laneSet)).advance 4 = t at honly
  have hv : (t.grp s.cur.g).v = (F s.me).v := ((congrArg Group.v honly.here :).trans (onlyQ_rotate d s.laneSet (F s.me)).v :)
  have hq : (t.grp s.cur.g).q = ((F s.me).rotate d s.laneSet).q := (congrArg Group.q honly.here :)
  have hvr : ∀ r l, (t.grp s.cur.g).vreg r l = (F s.me).vreg r l := fun r l => by unfold Group.vreg; rw [hv]
  have hqr : ∀ r l, (t.grp s.cur.g).qreg r l = ((F s.me).rotate d s.laneSet).qreg r l := fun r l => by unfold Group.qreg; rw [hq]
  refine ⟨honly.congr ?_, fun r l hl => ?_, fun k l hl => ?_⟩
  · show (Group.goOn s.cur.i 4 ((F s.me).rotate d s.laneSet)).bare = _
    rw [hv, hq, honlyF]
    rfl
  · rw [hvr, ← hF]
    dsimp only
    by_cases h : w = true
    · rw [if_pos h, Group.vreg_setV _ _ _ _ _ _ hj hl]
      have := hw.mp h
      by_cases hc : r = d ∧ l = s.laneIndex b
      · obtain ⟨rfl, rfl⟩ := hc
        rw [if_pos ⟨rfl, rfl⟩, if_pos ⟨rfl, this.1, rfl, this.2⟩]
      · rw [if_neg hc, if_neg (fun x => hc ⟨x.1, x.2.2.1⟩)]
    · rw [if_neg h, if_neg]
      rintro ⟨-, h1, rfl, h2⟩
      exact h (hw.mpr ⟨h1, h2⟩)
  · obtain ⟨v, hF'⟩ := hV s.me
    rw [hqr, Group.qreg_rotate d s.laneSet _ k l hl, ← hvr, show (F s.me).qreg = s.me.qreg by rw [hF']; rfl]

end

theorem Group.oreg_foldl_setO (k : Nat) (x : Nat → Word) (ls : List Nat) (g : Group) (r m : Nat) (hl : ∀ l ∈ ls, l < 32) (hm : m < 32) :
    (ls.foldl (fun g l => g.setO k l (x l)) g).oreg r m = if r = k ∧ m ∈ ls then x m else g.oreg r m := by
  induction ls generalizing g with
  | nil => simp
  | cons l ls ih =>
    have hset : (g.setO k l (x l)).oreg r m = if r = k ∧ m = l then x l else g.oreg r m := by
      unfold Group.oreg Group.setO
      simp only [SMap.get_put, laneKey_inj hm (hl l (List.mem_cons_self ..))]
    rw [List.foldl_cons, ih _ (fun k hk => hl k (List.mem_cons_of_mem _ hk)), hset]
    by_cases hr : r = k <;> by_cases hml : m = l <;> by_cases hmem : m ∈ ls <;> simp [hr, hml, hmem]

/-- VMOVO writes o in the active lanes and rotates nothing (05 R87). -/
theorem vmovo_writes {s : State} {a : Nat} (hp : s.plain = true) (ha : a < s.me.regalloc) (ha' : a < 256) (c : Nat) :
    ∃ t, exec (.vmovo c a) s = .next t ∧ Paid 1 0 s t ∧
      let u := t.grp s.cur.g
      OnlyGroup s.cur.g (fun g => ({ g with o := u.o } : Group).goOn s.cur.i 4) s t ∧
      (∀ k l, l < 32 → u.oreg k l = if k = c ∧ inMask s.active l = true then s.v a l else s.me.oreg k l) := by
  generalize hF : (fun g : Group => (lanesOf s.active).foldl (fun h l => h.setO c l (g.vreg a l)) g) = F
  have he : exec (.vmovo c a) s = .next (((s.charge 1).modMe F).advance 4) := by
    rw [exec_vmovo, execVmovo, guarded_passes _ _ _ _ (by rw [State.vOk_one ha ha']; rfl), ← hF]
    rfl
  have honlyF : ∀ g, F g = { g with o := (F g).o } := fun g => by
    rw [← hF]
    dsimp only
    generalize lanesOf s.active = ls
    have key : ∀ h : Group, ∃ o, ls.foldl (fun h l => h.setO c l (g.vreg a l)) h = { h with o := o } := by
      induction ls with
      | nil => exact fun h => ⟨h.o, rfl⟩
      | cons l ls ih => exact fun h => (ih (h.setO c l (g.vreg a l))).imp fun o e => e
    obtain ⟨o, ho⟩ := key g
    rw [ho]
  have hbare : ∀ g : Group, (F g).bare = F g.bare := fun g => by
    rw [← hF]
    exact (List.foldl_hom Group.bare (g₂ := fun h l => h.setO c l (g.vreg a l)) (fun _ _ => rfl)).symm
  obtain ⟨honly, hpaid, -⟩ := runs_charged 1 4 (Respects.of_comm hbare) (fun g => by rw [honlyF]; rfl) hp
  refine ⟨_, he, hpaid, ?_⟩
  generalize ((s.charge 1).modMe F).advance 4 = t at honly
  have ho : (t.grp s.cur.g).o = (F s.me).o := (congrArg Group.o honly.here :)
  refine ⟨honly.congr ?_, fun k l hl => ?_⟩
  · show (Group.goOn s.cur.i 4 (F s.me)).bare = _
    rw [ho, honlyF]
    rfl
  · have hor : (t.grp s.cur.g).oreg k l = (F s.me).oreg k l := by unfold Group.oreg; rw [ho]
    rw [hor, ← hF]
    dsimp only
    rw [Group.oreg_foldl_setO c _ _ _ _ _ (fun _ h => (mem_lanesOf.mp h).1) hl]
    simp only [mem_lanesOf, hl, true_and]
    rfl

/-- Settles O27: the moves, prefixes and sums are `laneOp` of the lanes that they name, VREDFADD's tree is `State.treeAt`, and VSETL
and VMOVO change the registers that `vsetl_writes` and `vmovo_writes` tell. -/
theorem crossLane : Obligations.CrossLane := by
  unfold Obligations.CrossLane
  intro s d a c b hp hd hd' ha ha' ob within acts first sum W
  have move : ∀ {i : Instr} {op : Nat} {f : State → Nat → Word} {x : Nat → Word}, exec i s = .next (crossOp op f d a s) →
      (∀ l, f s l = x l) → W i x := fun he hx => crossOp_writes hp hd hd' ha ha' hx he
  have word : ∀ {i : Instr} {op : Nat} {f : State → Nat → Word} {x : Nat → Word}, exec i s = .next (vWord op f d s) →
      (∀ l, f s l = x l) → W i x := fun he hx => vWord_writes hp hd hd' hx he
  have upTo_ne : ∀ {l}, l ∈ acts → s.upTo l ≠ [] := fun hl => List.ne_nil_of_mem (State.mem_upTo.mpr ⟨hl, le_rfl⟩)
  refine ⟨move rfl (fun l => s.fromLane_nat a _ _), move rfl (fun l => s.fromLane_nat a _ _), move rfl (fun l => s.fromLane_sub a _ _ _),
    move rfl (fun l => s.fromLane_nat a (l + ob l) _), move rfl (fun l => s.sumOver_eq_foldr a _),
    move rfl (fun l => s.sumOver_eq_foldr a _), ⟨_, move rfl (fun _ => rfl), fun l hl => ⟨fun k hk hkl => ?_, ?_⟩⟩,
    ⟨_, move rfl (fun _ => rfl), fun l hl => ⟨?_, ?_⟩⟩, vredfadd_writes hp hd hd' ha ha', fun k hk => ?_, fun N h0 hN hact => ?_,
    word rfl (fun _ => rfl), move rfl (fun l => s.fromLane_nat a _ _), word rfl (fun _ => rfl), move rfl (fun _ => rfl),
    fun hc => word (op := 0x6D) (f := fun s l => s.identity c l) ?_ (fun _ => rfl), fun hc => ?_, ?_, vmovo_writes hp ha ha' c⟩
  · exact (s.maxOver_spec a (upTo_ne hl)).1 k (State.mem_upTo.mpr ⟨hk, hkl⟩)
  · obtain ⟨k, hk, he⟩ := (s.maxOver_spec a (upTo_ne hl)).2
    exact ⟨k, (State.mem_upTo.mp hk).1, (State.mem_upTo.mp hk).2, he⟩
  · exact (s.maxOver_spec a (List.ne_nil_of_mem hl)).1 l hl
  · exact (s.maxOver_spec a (List.ne_nil_of_mem hl)).2
  · have hk32 : k < 32 := (mem_lanesOf.mp (by rw [show lanesOf s.active = [k] from hk]; exact List.mem_cons_self ..)).1
    rw [s.tree_eq, State.treeAt_single hk 5 0 (by decide) le_rfl, if_pos (by omega)]
    rfl
  · have hnode : ∀ k i, k ≤ 5 → i < 2 ^ (5 - k) → N k i = s.treeAt a k i := by
      intro k
      induction k with
      | zero => exact fun i _ hi => h0 i hi
      | succ k ih =>
        intro i hk hi
        have hpow : 2 ^ (5 - k) = 2 * 2 ^ (5 - (k + 1)) := by rw [← pow_succ', show 5 - k = 5 - (k + 1) + 1 by omega]
        rw [hN k i (by omega) (by rwa [show 4 - k = 5 - (k + 1) by omega]), ih (2 * i) (by omega) (by omega),
          ih (2 * i + 1) (by omega) (by omega), State.treeAt]
        cases s.treeAt a k (2 * i) <;> cases s.treeAt a k (2 * i + 1) <;> rfl
    obtain ⟨l, hl⟩ := List.exists_mem_of_ne_nil acts hact
    obtain ⟨hl32, hin⟩ := mem_lanesOf.mp (show l ∈ lanesOf s.active from hl)
    have hsome := State.treeAt_isSome a hin 5
    rw [show l / 2 ^ 5 = 0 by omega] at hsome
    obtain ⟨x, hx⟩ := Option.isSome_iff_exists.mp hsome
    rw [hnode 5 0 le_rfl (by decide), s.tree_eq, hx, Option.getD_some]
  · rw [exec_vsr, execVsr, guarded_passes _ _ _ _ (decide_eq_false (by omega))]
    rfl
  · exact congrArg Host.Outcome.next (guarded_fails _ _ _ _ (decide_eq_true hc))
  · obtain ⟨t, he, hpaid, honly, hv, hq⟩ := vsetl_writes hp hd hd' ha ha' b
    refine ⟨t, he, hpaid, honly, fun r l hl => ?_, fun l hl hin => ?_, fun k l hl hk => ?_⟩
    · rw [hv r l hl]
      simp only [within, hl, decide_true, Bool.true_and]
      rfl
    · simp [hq _ l hl, hin]
    · rw [hq k l hl, if_neg]
      rcases hk with h | h
      · omega
      · simp [h]

/-! # What a group becomes in its slot, step by step -/

/-- t is s but for the group in slot g and for what budgets have paid. -/
def OnlySlot (g : SlotRef) (s t : State) : Prop := OnlyGroup g (fun _ => t.grp g) s t

theorem OnlySlot.trans {g : SlotRef} {s t u : State} (a : OnlySlot g s t) (b : OnlySlot g t u) : OnlySlot g s u :=
  ⟨b.names.trans a.names, rfl, fun k n => (b.others k n).trans (a.others k n), fun k => (b.teams k).trans (a.teams k),
   fun k => (b.tasks k).trans (a.tasks k), fun c => (b.cores c).trans (a.cores c), b.rest.trans a.rest⟩

theorem Quiet.onlySlot {s t : State} (q : Quiet s t) (g : SlotRef) : OnlySlot g s t :=
  ⟨q.names, rfl, fun k _ => q.groups k, q.teams, q.tasks, q.cores, q.rest⟩

theorem onlySlot_modGrp (s : State) (g : SlotRef) (f : Group → Group) : OnlySlot g s (s.modGrp g f) :=
  ⟨State.names_modGrp s g f, rfl, fun k n => by simp [State.grp, State.modGrp, SMap.get, SMap.look_upd_ne _ _ _ _ n], fun _ => rfl,
   fun _ => rfl, fun _ => rfl, rfl⟩

theorem OnlySlot.onlyGroup {g : SlotRef} {s t : State} (a : OnlySlot g s t) {f : Group → Group}
    (e : (t.grp g).bare = (f (s.grp g)).bare) : OnlyGroup g f s t := { a with here := e }

section
variable {g : SlotRef} {s t : State} (a : OnlySlot g s t)
include a

theorem OnlySlot.cur : t.cur = s.cur := (congrArg State.cur a.rest :)
theorem OnlySlot.tick : t.tick = s.tick := (congrArg State.tick a.rest :)
theorem OnlySlot.mem : t.mem = s.mem := (congrArg State.mem a.rest :)
theorem OnlySlot.io : t.io = s.io := (congrArg State.io a.rest :)

theorem OnlySlot.hasGrp (k : SlotRef) : t.hasGrp k = s.hasGrp k := by
  unfold State.hasGrp
  rw [look_isSome, look_isSome, show t.groups.keys = s.groups.keys from congrArg Prod.fst a.names]

theorem OnlySlot.hasTeam (k : Nat) : (t.teams.look k).isSome = (s.teams.look k).isSome := by
  rw [look_isSome, look_isSome, show t.teams.keys = s.teams.keys from congrArg (·.2.1) a.names]

theorem OnlySlot.yieldPending (k : Nat) : (t.team k).yieldPending = (s.team k).yieldPending := (congrArg Team.yieldPending (a.teams k) :)

end

/-- A charge of a plain slot is its team's (19 R296). -/
theorem chargeAt_pays {s : State} {g : SlotRef} (ni nt : Int) (hp : (s.grp g).isPlain = true)
    (ht : (s.teams.look (s.grp g).team).isSome = true) :
    ((s.chargeAt g ni nt).team (s.grp g).team).ci = sat64 ((s.team (s.grp g).team).ci - ni) ∧
      ((s.chargeAt g ni nt).team (s.grp g).team).ct = sat64 ((s.team (s.grp g).team).ct - nt) := by
  have hteam : (s.chargeAt g ni nt).team (s.grp g).team = (s.chargeTeam (s.grp g).team ni nt).team (s.grp g).team := by
    unfold State.chargeAt
    dsimp only
    split
    · rename_i hc
      exact absurd hc (Group.isPlain_kind hp _)
    · rfl
  rw [hteam]
  exact chargeTeam_pays s _ ni nt ht

theorem sat64_sat64 (x : Int) : sat64 (sat64 x) = sat64 x := by unfold sat64; omega

/-- What a group is, wherever it stands in its instruction stream: its kind, its team and its place there. -/
def Group.seat (g : Group) : GroupKind × Nat × Nat := (g.kind, g.team, g.gi)

/-- The group that issues in s has become h in t, where its team's counters stand at ci and ct; nothing else changed. -/
structure Became (s t : State) (h : Group) (ci ct : Int) : Prop where
  plain : s.plain = true
  only : OnlySlot s.cur.g s t
  grp : t.grp s.cur.g = h
  seat : h.seat = s.me.seat
  ci : (t.team s.me.team).ci = ci
  ct : (t.team s.me.team).ct = ct

namespace Became

variable {s t : State} {h : Group} {ci ct : Int} (b : Became s t h ci ct)
include b

theorem hasGrp : t.hasGrp s.cur.g = true := (b.only.hasGrp _).trans (plain_hasGrp b.plain)

theorem cur : t.cur = s.cur := b.only.cur

theorem me : t.me = h := by
  unfold State.me
  rw [b.cur, b.grp]

theorem kind : h.kind = s.me.kind := (Prod.ext_iff.mp b.seat).1

theorem team : h.team = s.me.team := (Prod.ext_iff.mp (Prod.ext_iff.mp b.seat).2).1

theorem isPlain : h.isPlain = true := by
  unfold Group.isPlain
  rw [b.kind]
  exact plain_isPlain b.plain

theorem modGrp {F : Group → Group} (hF : (F h).seat = h.seat) : Became s (t.modGrp s.cur.g F) (F h) ci ct where
  plain := b.plain
  only := b.only.trans (onlySlot_modGrp t _ F)
  grp := by rw [State.grp_modGrp t _ _ _ b.hasGrp, if_pos rfl, b.grp]
  seat := hF.trans b.seat
  ci := b.ci
  ct := b.ct

theorem modMe {F : Group → Group} (hF : (F h).seat = h.seat) : Became s (t.modMe F) (F h) ci ct := by
  unfold State.modMe
  rw [b.cur]
  exact b.modGrp hF

theorem modCtx (F : Context → Context) : Became s (t.modCtx F) (h.modCtx s.cur.i F) ci ct := by
  unfold State.modCtx
  rw [b.cur]
  exact b.modMe rfl

theorem chargeAt (ni nt : Int) : Became s (t.chargeAt s.cur.g ni nt) h (sat64 (ci - ni)) (sat64 (ct - nt)) := by
  have hteam : (t.grp s.cur.g).team = s.me.team := by rw [b.grp, b.team]
  have hpays := chargeAt_pays (s := t) (g := s.cur.g) ni nt (by rw [b.grp]; exact b.isPlain)
    (by rw [hteam, b.only.hasTeam]; exact plain_team b.plain)
  rw [hteam, b.ci, b.ct] at hpays
  exact ⟨b.plain, b.only.trans ((quiet_chargeAt _ _ _ _).onlySlot _), by unfold State.grp; rw [State.chargeAt_groups]; exact b.grp, b.seat,
    hpays.1, hpays.2⟩

/-- What an instruction that has become so does. -/
theorem runs {i : Instr} {ni nt : Int} {f : Group → Group} (he : exec i s = .next t) (hf : h.bare = (f s.me).bare)
    (hi : ci = sat64 ((s.team s.me.team).ci - ni)) (ht : ct = sat64 ((s.team s.me.team).ct - nt))
    (hr : s.ctx.stop = .running → (h.ctx s.cur.i).stop = .running) : Runs i ni nt f s :=
  ⟨t, he, b.only.onlyGroup (by rw [b.grp]; exact hf), ⟨b.ci.trans hi, b.ct.trans ht⟩, fun h => by rw [b.grp]; exact hr h⟩

theorem runsInto {i : Instr} {ni nt : Int} {f : Group → Group} {w : Stop} (he : exec i s = .next t) (hf : h.bare = (f s.me).bare)
    (hi : ci = sat64 ((s.team s.me.team).ci - ni)) (ht : ct = sat64 ((s.team s.me.team).ct - nt))
    (hr : (h.ctx s.cur.i).stop = w) : RunsInto w i ni nt f s :=
  ⟨t, he, b.only.onlyGroup (by rw [b.grp]; exact hf), ⟨b.ci.trans hi, b.ct.trans ht⟩, by rw [b.grp]; exact hr⟩

end Became

/-- The group that issues, once its instruction of n units is charged: an instruction has been counted. -/
theorem became_charge {s : State} (hp : s.plain = true) (n : Nat) : ∃ a b c, Became s (s.charge n) (s.me.counted a b c)
    (sat64 ((s.team s.me.team).ci - n)) (sat64 (s.team s.me.team).ct) := by
  obtain ⟨a, b, c, hme⟩ := charge_me s n
  obtain ⟨hci, hct⟩ := charge_pays s n hp
  rw [sub_zero] at hct
  refine ⟨a, b, c, hp, (quiet_charge s n).onlySlot _, ?_, rfl, hci, hct⟩
  rw [← hme, State.me, charge_cur]

/-- The group that issues an instruction of one unit, once that is charged. -/
theorem became_issue {s : State} (hp : s.plain = true) : ∃ a b c, Became s (s.charge 1) (s.me.counted a b c)
    (sat64 ((s.team s.me.team).ci - 1)) (sat64 ((s.team s.me.team).ct - 0)) := by
  obtain ⟨a, b, c, h⟩ := became_charge hp 1
  exact ⟨a, b, c, by rw [sub_zero]; exact h⟩

/-! ## Contexts of a group -/

theorem SMap.map_ins {α β : Type} (m : SMap α) (i : Nat) (x : α) (v : α → β) :
    (m.ins i x).map (fun e => (e.1, v e.2)) = SMap.ins (m.map (fun e => (e.1, v e.2))) i (v x) := by
  induction m with
  | nil => rfl
  | cons e r ih =>
    simp only [SMap.ins, List.map_cons]
    split
    · rfl
    · split
      · rfl
      · simp [ih]

/-- Another context joins a group. -/
def Group.joins (j : Nat) (x : Context) (g : Group) : Group := { g with ctxs := g.ctxs.ins j x }

theorem bare_joins {g h : Group} (e : g.bare = h.bare) (j : Nat) {x y : Context} (hxy : x.bare = y.bare) :
    (g.joins j x).bare = (h.joins j y).bare := by
  have key : ∀ (k : Group) (z : Context), (k.joins j z).bare = k.bare.joins j z.bare := fun k z => by
    simp [Group.bare, Group.joins, SMap.map_ins k.ctxs j z Context.bare]
  rw [key, key, e, hxy]

theorem Group.ctx_joins (g : Group) {i j : Nat} (h : i ≠ j) (x : Context) : (g.joins j x).ctx i = g.ctx i := by
  simp [Group.ctx, Group.joins, SMap.get, h]

/-- A group has other records. -/
def Group.keeping (rs : List Record) (g : Group) : Group := { g with records := rs }

@[simp] theorem Group.records_keeping (rs : List Record) (g : Group) : (g.keeping rs).records = rs := rfl

theorem Group.keeping_keeping (rs rs' : List Record) (g : Group) : (g.keeping rs).keeping rs' = g.keeping rs' := rfl

theorem Group.modCtx_keeping (rs : List Record) (g : Group) (i : Nat) (f : Context → Context) :
    (g.keeping rs).modCtx i f = (g.modCtx i f).keeping rs := rfl

theorem bare_keeping {g h : Group} (e : g.bare = h.bare) (rs : List Record) : (g.keeping rs).bare = (h.keeping rs).bare :=
  congrArg (Group.keeping rs) e

/-! # The records of a group in its save area (05 R91, 24 R369) -/

/-! ## Cells written one after another -/

theorem State.writeCells_keeps {β : Type} (v : State → β) (h : ∀ s a n x, v (State.store none a n x s) = v s) (cs : List ImageCell)
    (s : State) : v (s.writeCells cs) = v s :=
  foldl_keeps v (fun s (c : ImageCell) => s.store none c.a c.n c.x) (fun s c => h s c.a c.n c.x) cs s

@[simp] theorem State.writeCells_groups (cs : List ImageCell) (s : State) : (s.writeCells cs).groups = s.groups :=
  State.writeCells_keeps State.groups (fun s _ _ _ => State.store_groups s _ _ _ _) cs s
@[simp] theorem State.writeCells_teams (cs : List ImageCell) (s : State) : (s.writeCells cs).teams = s.teams :=
  State.writeCells_keeps State.teams (fun s _ _ _ => State.store_teams s _ _ _ _) cs s
@[simp] theorem State.writeCells_tasks (cs : List ImageCell) (s : State) : (s.writeCells cs).tasks = s.tasks :=
  State.writeCells_keeps State.tasks (fun s _ _ _ => State.store_tasks s _ _ _ _) cs s

/-- A line that leaves other caches leaves a core its lines alone. -/
theorem State.core_touchLine (s : State) (b : Option CoreRef) (l : Nat) (c : CoreRef) :
    { ((s.touchLine b l).core c).bare with l1 := [] } = { (s.core c).bare with l1 := [] } := by
  have hmap : s.cores.map (fun e => if b.map CoreRef.key = some e.1 then e else (e.1, { e.2 with l1 := e.2.l1.filter (fun x => x != l) })) =
      s.cores.map (fun e => (e.1, if b.map CoreRef.key = some e.1 then e.2 else { e.2 with l1 := e.2.l1.filter (fun x => x != l) })) :=
    List.map_congr_left (fun e _ => by split <;> rfl)
  unfold State.core State.touchLine SMap.get
  dsimp only
  rw [hmap, SMap.look_mapVals s.cores (fun k w => if b.map CoreRef.key = some k then w else { w with l1 := w.l1.filter (fun x => x != l) })]
  cases s.cores.look c.key with
  | none => rfl
  | some w =>
    rw [Option.map_some, Option.getD_some, Option.getD_some]
    split <;> rfl

theorem State.rest_touchLine (s : State) (b : Option CoreRef) (l : Nat) : (s.touchLine b l).bare.noMemory = s.bare.noMemory := by
  unfold State.touchLine State.recallLine State.zeroBack State.zeroLine
  dsimp only
  split
  · split <;> rfl
  · rfl

theorem State.byte_writeCells_ne {cs : List ImageCell} {p : Nat} (h : ∀ c ∈ cs, p < c.a ∨ c.a + c.n ≤ p) (s : State) :
    (s.writeCells cs).byte p = s.byte p := by
  induction cs generalizing s with
  | nil => rfl
  | cons c r ih =>
    refine (ih (fun d hd => h d (List.mem_cons_of_mem _ hd)) _).trans ?_
    have := h c (List.mem_cons_self ..)
    rw [State.byte_store, if_neg (by omega)]

/-- Cells that rise: each ends where the next begins or before. -/
def Rise (cs : List ImageCell) : Prop := cs.Pairwise (fun c d => c.a + c.n ≤ d.a)

/-- Of cells that rise, each reads as what it was given. -/
theorem State.readN_writeCells {cs : List ImageCell} (hr : Rise cs) {c : ImageCell} (hc : c ∈ cs) (s : State) :
    (s.writeCells cs).readN c.a c.n = c.x % 256 ^ c.n := by
  induction cs generalizing s with
  | nil => exact absurd hc (by simp)
  | cons d r ih =>
    obtain ⟨hd, hr⟩ := List.pairwise_cons.mp hr
    rcases List.mem_cons.mp hc with rfl | hc
    · refine (State.readN_congr (s.store none c.a c.n c.x) _ _ _ (fun p _ hp => State.byte_writeCells_ne (fun e he => ?_) _)).trans
        (State.readN_store s none c.a c.n c.x)
      have := hd e he
      omega
    · exact ih hr hc _

/-- Cells within n bytes from a change memory there, and nothing else but what caches hold of it. -/
theorem OnlyGroup.writeCells {g : SlotRef} {f : Group → Group} {s t : State} (o : OnlyGroup g f s t) {cs : List ImageCell} {a n : Nat}
    (h : ∀ c ∈ cs, a ≤ c.a ∧ c.a + c.n ≤ a + n) : OnlyGroupAnd g f a n s (t.writeCells cs) where
  names := by
    unfold State.names
    rw [State.writeCells_groups, State.writeCells_teams, State.writeCells_tasks]
    exact o.names
  here := by unfold State.grp; rw [State.writeCells_groups]; exact o.here
  others := fun k hk => by unfold State.grp; rw [State.writeCells_groups]; exact o.others k hk
  teams := fun k => by unfold State.team; rw [State.writeCells_teams]; exact o.teams k
  tasks := fun k => by unfold State.task; rw [State.writeCells_tasks]; exact o.tasks k
  cores := fun c => (State.writeCells_keeps (fun s => ({ (s.core c).bare with l1 := [] } : Core)) (fun s _ _ _ =>
    State.store_keeps (fun s => ({ (s.core c).bare with l1 := [] } : Core)) (fun _ _ _ => rfl) (fun _ _ => rfl)
      (fun s b l => State.core_touchLine s b l c) s _ _ _ _) cs t).trans (congrArg (fun x : Core => { x with l1 := [] }) (o.cores c))
  bytes := fun p hp => (State.byte_writeCells_ne (fun c hc => by have := h c hc; omega) t).trans (State.byte_of_mem (congrArg State.mem o.rest :) p)
  rest := (State.writeCells_keeps (fun s => s.bare.noMemory) (fun s _ _ _ =>
    State.store_keeps (fun s => s.bare.noMemory) (fun _ _ _ => rfl) (fun _ _ => rfl) State.rest_touchLine s _ _ _ _) cs t).trans
      (congrArg State.noMemory o.rest)

/-! ## The place of a record -/

theorem rise_sregCells (a : Nat) (f : Nat → DWord) : Rise (sregCells a f) :=
  List.pairwise_map.mpr (List.pairwise_lt_range.imp (fun h => by dsimp only; omega))

theorem mem_sregCells {a : Nat} {f : Nat → DWord} {c : ImageCell} : c ∈ sregCells a f ↔ ∃ r < 64, c = ⟨a + 8 * r, 8, (f r).toNat⟩ := by
  simp [sregCells, eq_comm]

theorem rise_recordCells (a : Nat) (r : Record) : Rise (r.cells a) := by
  refine List.pairwise_append.mpr ⟨rise_sregCells a _, by simp, fun c hc d hd => ?_⟩
  obtain ⟨k, hk, rfl⟩ := mem_sregCells.mp hc
  simp only [List.mem_cons, List.not_mem_nil, or_false] at hd
  rcases hd with rfl | rfl | rfl | rfl | rfl | rfl | rfl <;> dsimp only <;> omega

theorem recordCells_within {a : Nat} {r : Record} {c : ImageCell} (hc : c ∈ r.cells a) : a ≤ c.a ∧ c.a + c.n ≤ a + 544 := by
  rcases List.mem_append.mp hc with hc | hc
  · obtain ⟨k, hk, rfl⟩ := mem_sregCells.mp hc
    dsimp only
    omega
  · simp only [List.mem_cons, List.not_mem_nil, or_false] at hc
    rcases hc with rfl | rfl | rfl | rfl | rfl | rfl | rfl <;> dsimp only <;> omega

/-- The records of a group stand one behind the other. -/
theorem Group.recordCells_within {g : Group} {b : Nat} {c : ImageCell} (hc : c ∈ g.recordCells b) :
    b + 0x1500 ≤ c.a ∧ c.a + c.n ≤ b + 0x1500 + 544 * g.records.length := by
  obtain ⟨⟨r, j⟩, hx, hc⟩ := List.mem_flatMap.mp hc
  have hj : j < g.records.length := by simpa using List.snd_lt_of_mem_zipIdx hx
  have hw := Machine.recordCells_within hc
  simp only [recordAt] at hw
  omega

/-- What the newest record of a group reads as where it stands. -/
theorem State.readN_newest {g : Group} {rs : List Record} {r : Record} (h : g.records = rs ++ [r]) {b : Nat} {c : ImageCell}
    (hc : c ∈ r.cells (recordAt b rs.length)) (s : State) : (s.writeCells (g.recordCells b)).readN c.a c.n = c.x % 256 ^ c.n := by
  have hcells : g.recordCells b = (rs.zipIdx.flatMap (fun x => x.1.cells (recordAt b x.2))) ++ r.cells (recordAt b rs.length) := by
    unfold Group.recordCells
    rw [h, List.zipIdx_append]
    simp
  rw [hcells, State.writeCells, List.foldl_append]
  exact State.readN_writeCells (rise_recordCells _ r) hc _

/-! ## Records read back -/

theorem State.readN_of_mem {s t : State} (h : t.mem = s.mem) (a n : Nat) : t.readN a n = s.readN a n :=
  State.readN_congr s t a n (fun p _ _ => State.byte_of_mem h p)

theorem State.readRecord_of_mem {s t : State} (h : t.mem = s.mem) (a owner : Nat) : t.readRecord a owner = s.readRecord a owner := by
  simp only [State.readRecord, State.readSregs, State.readBits, State.readN_of_mem h]

/-- The records of the group in a slot, where its save area holds them (05 R91). -/
def State.savedRecords (s : State) (g : SlotRef) : List Record :=
  match s.ownBlock g with
  | none => (s.grp g).records
  | some a => (s.grp g).records.zipIdx.map (fun x => s.readRecord (recordAt a x.2) x.1.owner)

section
variable {s : State} {g : SlotRef}

theorem State.savedRecords_unsaved (h : s.ownBlock g = none) : s.savedRecords g = (s.grp g).records := by
  unfold State.savedRecords
  rw [h]

theorem State.savedRecords_saved {a : Nat} (h : s.ownBlock g = some a) :
    s.savedRecords g = (s.grp g).records.zipIdx.map (fun x => s.readRecord (recordAt a x.2) x.1.owner) := by
  unfold State.savedRecords
  rw [h]

theorem State.length_savedRecords : (s.savedRecords g).length = (s.grp g).records.length := by
  cases h : s.ownBlock g with
  | none => rw [State.savedRecords_unsaved h]
  | some a => simp [State.savedRecords_saved h]

theorem State.savedRecords_eq_nil : s.savedRecords g = [] ↔ (s.grp g).records = [] := by
  rw [← List.length_eq_zero_iff, ← List.length_eq_zero_iff, State.length_savedRecords]

theorem State.grp_fetchRecords (hg : s.hasGrp g = true) : (s.fetchRecords g).grp g = (s.grp g).keeping (s.savedRecords g) := by
  unfold State.fetchRecords
  cases h : s.ownBlock g with
  | none =>
    rw [State.savedRecords_unsaved h]
    rfl
  | some a =>
    rw [State.savedRecords_saved h]
    exact (State.grp_modGrp s g g _ hg).trans (if_pos rfl)

/-- A group of one seat has its block at one place. -/
theorem State.ownBlock_congr {t : State} (hio : t.io = s.io) (hseat : (t.grp g).seat = (s.grp g).seat) : t.ownBlock g = s.ownBlock g := by
  simp only [Group.seat, Prod.mk.injEq] at hseat
  obtain ⟨hk, ht, hgi⟩ := hseat
  unfold State.ownBlock State.groupBlock State.blockAddr
  rw [hk, ht, hgi, hio]

theorem State.savedRecords_congr {t : State} (hm : t.mem = s.mem) (hio : t.io = s.io) (hseat : (t.grp g).seat = (s.grp g).seat)
    (hr : (t.grp g).records = (s.grp g).records) : t.savedRecords g = s.savedRecords g := by
  unfold State.savedRecords
  rw [State.ownBlock_congr hio hseat, hr]
  simp only [State.readRecord_of_mem hm]

end

theorem onlySlot_fetchRecords (s : State) (g : SlotRef) : OnlySlot g s (s.fetchRecords g) := by
  unfold State.fetchRecords
  split
  · exact (Quiet.refl s).onlySlot g
  · exact onlySlot_modGrp s g _

@[simp] theorem State.teams_fetchRecords (s : State) (g : SlotRef) : (s.fetchRecords g).teams = s.teams := by
  unfold State.fetchRecords
  split <;> rfl

section
variable {s t : State} {h : Group} {ci ct : Int} (b : Became s t h ci ct)
include b

theorem Became.ownBlock : t.ownBlock s.cur.g = s.ownBlock s.cur.g :=
  State.ownBlock_congr b.only.io (by rw [b.grp]; exact b.seat)

theorem Became.savedRecords (hr : h.records = s.me.records) : t.savedRecords s.cur.g = s.savedRecords s.cur.g :=
  State.savedRecords_congr b.only.mem b.only.io (by rw [b.grp]; exact b.seat) (by rw [b.grp]; exact hr)

/-- The group with the records of its save area. -/
theorem Became.fetchRecords (hr : h.records = s.me.records) :
    Became s (t.fetchRecords s.cur.g) (h.keeping (s.savedRecords s.cur.g)) ci ct where
  plain := b.plain
  only := b.only.trans (onlySlot_fetchRecords t _)
  grp := by rw [State.grp_fetchRecords b.hasGrp, b.grp, b.savedRecords hr]
  seat := b.seat
  ci := by unfold State.team; rw [State.teams_fetchRecords]; exact b.ci
  ct := by unfold State.team; rw [State.teams_fetchRecords]; exact b.ct

end

theorem withRecords_groups (g : SlotRef) (eff : State → State) (s : State) : (withRecords g eff s).groups = (eff (s.fetchRecords g)).groups := by
  unfold withRecords State.storeRecords
  dsimp only
  split
  · rfl
  · split
    · rfl
    · exact State.writeCells_groups _ _

theorem withRecords_teams (g : SlotRef) (eff : State → State) (s : State) : (withRecords g eff s).teams = (eff (s.fetchRecords g)).teams := by
  unfold withRecords State.storeRecords
  dsimp only
  split
  · rfl
  · split
    · rfl
    · exact State.writeCells_teams _ _

/-- Records that stand as they stood are not written again. -/
theorem withRecords_same {g : SlotRef} {eff : State → State} {s : State} (hg : s.hasGrp g = true)
    (h : ((eff (s.fetchRecords g)).grp g).records = s.savedRecords g) : withRecords g eff s = eff (s.fetchRecords g) := by
  unfold withRecords
  rw [if_pos (by rw [h, State.grp_fetchRecords hg, Group.records_keeping])]

theorem withRecords_changed {g : SlotRef} {eff : State → State} {s : State} (hg : s.hasGrp g = true)
    (h : ((eff (s.fetchRecords g)).grp g).records ≠ s.savedRecords g) : withRecords g eff s = (eff (s.fetchRecords g)).storeRecords g := by
  unfold withRecords
  rw [if_neg (by rw [State.grp_fetchRecords hg]; exact h)]

/-! # SPLIT (obligation O15) -/

theorem State.target_eq (s : State) (t : BitVec 16) : s.target t = s.ctx.pc + (t.signExtend 64 <<< 1) := by
  rw [State.target, add_self_eq_shiftLeft_one]

theorem checkTarget_good {s : State} {a : DWord} (h : s.goodTarget a = true) : s.checkTarget a = .ok := by
  unfold State.goodTarget at h
  unfold State.checkTarget
  rw [Bool.and_eq_true, decide_eq_true_iff] at h
  obtain ⟨heven, hword⟩ := h
  rw [if_neg (by omega)]
  cases hf : s.fetchFirst s.cur.g a <;> rw [hf] at hword
  case half w => simp only at hword ⊢; rw [if_pos hword]
  all_goals exact absurd hword (by simp)

theorem toTarget_good {s : State} {a : DWord} (eff : Act) (h : s.goodTarget a = true) : toTarget a eff s = eff s := by
  unfold toTarget
  rw [checkTarget_good h]

/-- SPLIT with lanes in its predicate goes to its effect where its target is good (06 R117). -/
theorem exec_split_good {s : State} {p : Nat} {t : BitVec 16} (hgood : s.goodTarget (s.target t) = true) (ht : s.predIn p ≠ 0) :
    exec (.split p t) s = .next (splitAt p (s.target t) s) :=
  congrArg Host.Outcome.next ((if_neg ht).trans (toTarget_good _ hgood))

/-- The context goes on behind a class-010 word that issued before tick k. -/
def Context.behind (k : Nat) (c : Context) : Context := { c.advance 4 true with lastIssue := k }

namespace Became

variable {s t : State} {h : Group} {ci ct : Int} (b : Became s t h ci ct)
include b

theorem goto (a : DWord) : Became s (t.goto a) (h.modCtx s.cur.i (Context.goto a s.tick)) ci ct := by
  unfold State.goto
  rw [b.only.tick]
  exact b.modCtx _

theorem advanceB : Became s t.advanceB (h.modCtx s.cur.i (Context.behind (s.tick + 1))) ci ct := by
  unfold State.advanceB
  rw [b.only.tick]
  exact b.modCtx _

end Became

theorem bare_goto (a : DWord) (k : Nat) (c : Context) : (c.goto a k).bare = ({ c with pc := a, due := true } : Context).bare := rfl

theorem freeCtx_eq {g : Group} {i : Nat} (hi : i < 4) (hfree : g.ctxs.look i = none) (hlow : ∀ j, j < i → g.ctxs.look j ≠ none) :
    g.freeCtx = i := by
  unfold Group.freeCtx
  rw [List.find?_range_eq_some.mpr ⟨by simp [hfree], List.mem_range.mpr hi, fun j hj => ?_⟩]
  · rfl
  · simpa [Option.isSome_iff_ne_none] using hlow j hj

theorem freeCtx_none {g : Group} (h : ∀ j, j < 4 → g.ctxs.look j ≠ none) : g.freeCtx = 4 := by
  unfold Group.freeCtx
  rw [List.find?_eq_none.mpr (fun j hj => by simpa using h j (List.mem_range.mp hj))]
  rfl

/-- The context that issues goes on at an address with some of its lanes (05 R90). -/
def Group.stays (i : Nat) (m : Word) (pc : DWord) (g : Group) : Group := (g.modCtx i (fun c => { c with p0 := m })).goTo i pc

theorem bare_stays (g : Group) (x y : Nat) (z : Bool) (i k : Nat) (m : Word) (a : DWord) :
    (((g.counted x y z).modCtx i (fun c => { c with p0 := m })).modCtx i (Context.goto a k)).bare = (g.stays i m a).bare :=
  bare_modCtx_congr (bare_goto a k) ((g.counted x y z).modCtx i (fun c => { c with p0 := m })) i

theorem stop_stays (g : Group) (x y : Nat) (z : Bool) (i k : Nat) (m : Word) (a : DWord) :
    ((((g.counted x y z).modCtx i (fun c => { c with p0 := m })).modCtx i (Context.goto a k)).ctx i).stop = (g.ctx i).stop :=
  (stop_modCtx ((g.counted x y z).modCtx i (fun c => { c with p0 := m })) i i (Context.goto a k) (fun _ => rfl)).trans
    (stop_modCtx (g.counted x y z) i i (fun c => { c with p0 := m }) (fun _ => rfl))

section
variable {s : State} (hp : s.plain = true) {p : Nat} {a : DWord}
include hp

/-- SPLIT with every lane in its predicate goes to its target. -/
theorem splitAt_all {i : Instr} (hff : s.laneSet &&& ~~~s.predIn p = 0) (he : exec i s = .next (splitAt p a s)) :
    Runs i 1 0 (Group.goTo s.cur.i a) s := by
  obtain ⟨x, y, z, b⟩ := became_issue hp
  rw [show splitAt p a s = (s.charge 1).goto a from if_pos hff] at he
  exact (b.goto a).runs he (bare_modCtx_congr (bare_goto a s.tick) (s.me.counted x y z) s.cur.i) rfl rfl
    (fun h => (stop_modCtx _ _ _ (Context.goto a s.tick) (fun _ => rfl)).trans h)

/-- SPLIT into two contexts: the larger part stays, a tie keeps F, and the other part is the new context j (05 R90). -/
theorem splitAt_fragment {i : Instr} {j : Nat} {keepT : Bool} (hff : s.laneSet &&& ~~~s.predIn p ≠ 0) (hj : s.me.freeCtx = j) (h4 : j < 4)
    (hfree : s.me.ctxs.look j = none) (hkeep : decide (countMask (s.laneSet &&& ~~~s.predIn p) < countMask (s.predIn p)) = keepT)
    (he : exec i s = .next (splitAt p a s)) :
    let stays := Group.stays s.cur.i (if keepT then s.predIn p else s.laneSet &&& ~~~s.predIn p) (if keepT then a else s.ctx.pc + 4)
    let frag : Context := { s.ctx with
      p0 := if keepT then s.laneSet &&& ~~~s.predIn p else s.predIn p, pc := if keepT then s.ctx.pc + 4 else a, due := true, lastIssue := 0 }
    Runs i 1 0 (fun g => (stays g).joins j frag) s := by
  subst hj hkeep
  intro stays frag
  obtain ⟨x, y, z, b⟩ := became_issue hp
  rw [show splitAt p a s = _ from (if_neg hff).trans (if_pos h4)] at he
  have hne : s.cur.i ≠ s.me.freeCtx := fun h => by
    have hhere : (s.me.ctxs.look s.cur.i).isSome = true := plain_here hp
    rw [h, hfree] at hhere
    exact absurd hhere (by decide)
  refine (((b.modCtx _).goto _).modMe (F := Group.joins _ _) rfl).runs he ?_ rfl rfl (fun h => ?_)
  · exact bare_joins (bare_stays s.me x y z s.cur.i s.tick _ _) _ rfl
  · exact (congrArg Context.stop (Group.ctx_joins _ hne _)).trans ((stop_stays s.me x y z s.cur.i s.tick _ _).trans h)

/-- SPLIT with four contexts: T goes on at the target, and F stays as a dormant record (05 R90). -/
theorem splitAt_record {i : Instr} (hff : s.laneSet &&& ~~~s.predIn p ≠ 0) (h4 : s.me.freeCtx = 4) {r : Record}
    (hr : r = ⟨s.ctx.s, s.ctx.pc + 4, s.ctx.contpc, s.ctx.map, s.laneSet &&& ~~~s.predIn p, none, s.cur.i⟩)
    (he : exec i s = .next (splitAt p a s)) : ∃ (u : State) (h : Group),
      exec i s = .next (u.storeRecords s.cur.g) ∧
      Became s u h (sat64 ((s.team s.me.team).ci - 1)) (sat64 (sat64 (s.team s.me.team).ct - 576)) ∧
      h.records = s.savedRecords s.cur.g ++ [r] ∧
      h.bare = ((s.me.stays s.cur.i (s.predIn p) a).keeping (s.savedRecords s.cur.g ++ [r])).bare ∧
      (h.ctx s.cur.i).stop = s.ctx.stop := by
  obtain ⟨x, y, z, b⟩ := became_issue hp
  generalize heff : (fun s1 : State => ((((s1.modMe (fun g => g.keeping (g.records ++ [r]))).modCtx
    (fun c => { c with p0 := s.predIn p })).goto a).chargeAt s.cur.g 0 recordBytes)) = eff
  have hsplit : splitAt p a s = withRecords s.cur.g eff (s.charge 1) := by
    unfold splitAt
    dsimp only
    rw [h4]
    exact (if_neg hff).trans ((if_neg (by decide)).trans (by rw [← heff, hr]; rfl))
  have bu := ((((b.fetchRecords rfl).modMe (F := fun g => g.keeping (g.records ++ [r])) rfl).modCtx
    (fun c => { c with p0 := s.predIn p })).goto a).chargeAt 0 recordBytes
  rw [sub_zero, sub_zero, sat64_sat64] at bu
  simp only [Group.records_keeping, Group.keeping_keeping, Group.modCtx_keeping] at bu
  have heu := (congrFun heff ((s.charge 1).fetchRecords s.cur.g)).symm
  rw [← heu] at bu
  refine ⟨_, _, ?_, bu, rfl, ?_, ?_⟩
  · rw [he, hsplit, withRecords_changed b.hasGrp]
    rw [bu.grp, b.savedRecords rfl, Group.records_keeping]
    simp
  · exact bare_keeping (bare_stays s.me x y z s.cur.i s.tick (s.predIn p) a) _
  · exact stop_stays s.me x y z s.cur.i s.tick (s.predIn p) a

end

/-- Settles O15: with no lane SPLIT is a class-010 word that goes on, and otherwise it is `splitAt`, whose cases `splitAt_all`,
`splitAt_fragment` and `splitAt_record` tell. -/
theorem splitDividesLanes : Obligations.SplitDividesLanes := by
  unfold Obligations.SplitDividesLanes
  intro s p t hp a fall c tt ff small stays
  have hsplit : s.goodTarget a = true → tt ≠ 0 → exec (.split p t) s = .next (splitAt p a s) := fun hgood ht => by
    rw [exec_split_good (by rw [s.target_eq]; exact hgood) ht, s.target_eq]
  refine ⟨fun h0 => ?_, fun hgood ht hff => splitAt_all hp hff (hsplit hgood ht), fun hgood ht hff i hi hfree hlow => ⟨fun hlt => ?_, fun hle => ?_⟩,
    fun hgood ht hff hfull hct => ?_⟩
  · obtain ⟨x, y, z, b⟩ := became_issue hp
    have he : exec (.split p t) s = .next (s.charge 1).advanceB := congrArg Host.Outcome.next (if_pos h0)
    refine b.advanceB.runs he ?_ rfl rfl (fun h => ?_)
    · exact bare_modCtx_congr (F := Context.behind (s.tick + 1)) (F' := Context.advance 4 true) (fun _ => rfl) (s.me.counted x y z) s.cur.i
    · exact (stop_modCtx (s.me.counted x y z) s.cur.i s.cur.i (Context.behind (s.tick + 1)) (fun _ => rfl)).trans h
  · have h := splitAt_fragment (keepT := true) hp hff (freeCtx_eq hi hfree hlow) hi hfree (decide_eq_true hlt) (hsplit hgood ht)
    exact h
  · have h := splitAt_fragment (keepT := false) hp hff (freeCtx_eq hi hfree hlow) hi hfree (decide_eq_false (not_lt.mpr hle)) (hsplit hgood ht)
    exact h
  · intro new n
    obtain ⟨u, h, he, b, hrec, hbare, hstop⟩ := splitAt_record hp hff (freeCtx_none hfull) (r := new) rfl (hsplit hgood ht)
    rw [hct] at b
    refine ⟨fun hb => ?_, fun blk hb => ?_⟩
    · have hstore : u.storeRecords s.cur.g = u := by
        unfold State.storeRecords
        rw [b.ownBlock, hb]
      rw [hstore] at he
      rw [State.savedRecords_unsaved hb] at hbare
      exact b.runs he hbare rfl rfl (fun hr => hstop.trans hr)
    · have hstore : u.storeRecords s.cur.g = u.writeCells (h.recordCells blk) := by
        unfold State.storeRecords
        rw [b.ownBlock, hb, b.grp]
      rw [hstore] at he
      rw [State.savedRecords_saved hb] at hbare
      have hlen : (s.savedRecords s.cur.g).length = n := State.length_savedRecords
      have hnew : ∀ c ∈ new.cells (recordAt blk n), (u.writeCells (h.recordCells blk)).readN c.a c.n = c.x % 256 ^ c.n := fun c hc =>
        State.readN_newest hrec (by rw [hlen]; exact hc) u
      have hcells : ∀ c ∈ h.recordCells blk, blk + 0x1500 ≤ c.a ∧ c.a + c.n ≤ blk + 0x1500 + 544 * (n + 1) := fun c hc => by
        have := Group.recordCells_within hc
        rw [hrec, List.length_append, hlen] at this
        exact this
      have hword : ∀ (o : Nat) (x : DWord), ⟨recordAt blk n + o, 8, x.toNat⟩ ∈ new.cells (recordAt blk n) →
          (u.writeCells (h.recordCells blk)).readN (recordAt blk n + o) 8 = x.toNat := fun o x hc =>
        (hnew _ hc).trans (Nat.mod_eq_of_lt x.isLt)
      refine ⟨_, he, ?_, (b.only.onlyGroup (by rw [b.grp]; exact hbare)).writeCells hcells, fun r hr => ?_, ?_, ?_, ?_, ?_⟩
      · unfold Paid State.team
        rw [State.writeCells_teams]
        exact ⟨b.ci, b.ct⟩
      · exact hword (8 * r) _ (List.mem_append_left _ (mem_sregCells.mpr ⟨r, hr, rfl⟩))
      · exact hword 512 fall (List.mem_append_right _ (by simp [new]))
      · exact hword 520 c.contpc (List.mem_append_right _ (by simp [new]))
      · exact hword 528 c.map (List.mem_append_right _ (by simp [new]))
      · have hc : (⟨recordAt blk n + 536, 4, ff.toNat⟩ : ImageCell) ∈ new.cells (recordAt blk n) := List.mem_append_right _ (by simp [new])
        exact (hnew _ hc).trans (Nat.mod_eq_of_lt ff.isLt)

/-! # Merges of a group (05 R92-R94) -/

/-! ## Lists without repetition and maps by key -/

theorem nodup_eraseDups (xs : List Nat) : xs.eraseDups.Nodup := by
  induction h : xs.length using Nat.strong_induction_on generalizing xs with
  | _ n ih =>
    cases xs with
    | nil => exact List.nodup_nil
    | cons a r =>
      rw [List.eraseDups_cons]
      refine List.nodup_cons.mpr ⟨fun ha => ?_, ih _ ?_ _ rfl⟩
      · simp [List.mem_eraseDups] at ha
      · have := List.length_filter_le (fun b => !b == a) r
        rw [← h, List.length_cons]
        omega

theorem SMap.mem_of_look {α : Type} {m : SMap α} {i : Nat} {x : α} (h : m.look i = some x) : (i, x) ∈ m := by
  induction m with
  | nil => exact absurd h (by simp [SMap.look])
  | cons e r ih =>
    obtain ⟨k, w⟩ := e
    unfold SMap.look at h
    split at h
    case isTrue hk =>
      rw [hk, Option.some.inj h]
      exact List.mem_cons_self ..
    case isFalse => exact List.mem_cons_of_mem _ (ih h)

/-- Where keys rise each entry is found under its key. -/
theorem SMap.look_of_mem {α : Type} {m : SMap α} (hr : m.rising = true) {e : Nat × α} (he : e ∈ m) : m.look e.1 = some e.2 := by
  induction m with
  | nil => exact absurd he (by simp)
  | cons d r ih =>
    obtain ⟨k, w⟩ := d
    unfold SMap.look
    rcases List.mem_cons.mp he with rfl | he
    · exact if_pos rfl
    · rw [if_neg (Nat.ne_of_lt (SMap.rising_lt hr e he))]
      exact ih (SMap.rising_tail hr) he

theorem SMap.mem_iff_look {α : Type} {m : SMap α} (hr : m.rising = true) {e : Nat × α} : e ∈ m ↔ m.look e.1 = some e.2 :=
  ⟨SMap.look_of_mem hr, fun h => SMap.mem_of_look h⟩

theorem SMap.rising_of_sorted {α : Type} {m : SMap α} (h : m.keys.Pairwise (· < ·)) : m.rising = true := by
  induction m with
  | nil => rfl
  | cons e r ih =>
    obtain ⟨hlt, hr⟩ := List.pairwise_cons.mp h
    exact SMap.rising_cons (ih hr) (fun d hd => hlt d.1 (List.mem_map_of_mem hd))

theorem SMap.look_keep {α : Type} (m : SMap α) (f : Nat → Bool) (i : Nat) : (m.keep f).look i = if f i = true then m.look i else none :=
  SMap.look_filter_key m f i

theorem SMap.rising_keep {α : Type} {m : SMap α} (f : Nat → Bool) (h : m.rising = true) : (m.keep f).rising = true :=
  SMap.rising_filter m _ h

/-! ## The lowest lane of a mask -/

theorem lowest_cases (m : Word) : (lowest m = 32 ∧ m = 0) ∨ (lowest m < 32 ∧ inMask m (lowest m) = true) := by
  cases hl : lanesOf m with
  | nil =>
    refine .inl ⟨by unfold lowest; rw [hl]; rfl, BitVec.eq_of_getLsbD_eq fun i hi => ?_⟩
    have hno : i ∉ lanesOf m := by rw [hl]; exact List.not_mem_nil
    rw [mem_lanesOf] at hno
    exact (Bool.eq_false_iff.mpr fun h => hno ⟨hi, h⟩ : inMask m i = false).trans (by simp)
  | cons a r =>
    have ha : lowest m = a := by unfold lowest; rw [hl]; rfl
    rw [ha]
    exact .inr (mem_lanesOf.mp (by rw [hl]; exact List.mem_cons_self ..))

/-- No lane below the lowest is in the mask. -/
theorem inMask_below {m : Word} {i : Nat} (h : i < lowest m) : inMask m i = false := by
  have hle : lowest m ≤ 32 := by rcases lowest_cases m with ⟨h, _⟩ | ⟨h, _⟩ <;> omega
  refine Bool.eq_false_iff.mpr fun hin => ?_
  have hmem : i ∈ lanesOf m := mem_lanesOf.mpr ⟨by omega, hin⟩
  have hsorted : (lanesOf m).Pairwise (· < ·) := List.pairwise_lt_range.filter _
  unfold lowest at h
  cases hl : lanesOf m with
  | nil => rw [hl] at hmem; exact absurd hmem List.not_mem_nil
  | cons a r =>
    rw [hl] at hmem h hsorted
    rcases List.mem_cons.mp hmem with rfl | hr
    · exact absurd h (lt_irrefl _)
    · have : a < i := (List.pairwise_cons.mp hsorted).1 i hr
      have h : i < a := h
      omega

/-! ## What reuniting makes of its holders (05 R94) -/

/-- y is what contexts ws become when they are reunited: the union of their lanes, and else the one that holds the lowest lane. -/
structure Reunion (ws : List Context) (y : Context) : Prop where
  lanes : ∀ l, inMask y.p0 l = true ↔ ∃ c ∈ ws, inMask c.p0 l = true
  lead : ∃ c ∈ ws, (∃ l, l < 32 ∧ inMask c.p0 l = true ∧ ∀ d ∈ ws, ∀ i, i < l → inMask d.p0 i = false) ∧
    y.bare = ({ c with p0 := y.p0, due := true } : Context).bare

theorem Reunion.reunited {ws : List Context} {y : Context} (h : Reunion ws y) : Reunited ws y := by
  obtain ⟨c, hc, hl, e⟩ := h.lead
  exact ⟨fun l _ => h.lanes l, (congrArg Context.due e :), c, hc, hl, (congrArg Context.s e :), (congrArg Context.pc e :),
    (congrArg Context.contpc e :), (congrArg Context.map e :)⟩

/-- Of two holders the one whose lowest lane is lower leads; of equals the first. -/
def leads (b : Option (Option Nat × Context)) (w : Option Nat × Context) : Option (Option Nat × Context) :=
  match b with
  | none => some w
  | some x => if lowest w.2.p0 < lowest x.2.p0 then some w else some x

theorem foldl_leads (ws : List (Option Nat × Context)) (x : Option Nat × Context) :
    ∃ l ∈ x :: ws, ws.foldl leads (some x) = some l ∧ ∀ z ∈ x :: ws, lowest l.2.p0 ≤ lowest z.2.p0 := by
  induction ws generalizing x with
  | nil => exact ⟨x, by simp, rfl, by simp⟩
  | cons w r ih =>
    rw [List.foldl_cons]
    by_cases h : lowest w.2.p0 < lowest x.2.p0
    · obtain ⟨l, hl, e, hmin⟩ := ih w
      refine ⟨l, List.mem_cons_of_mem _ hl, by rw [← e]; exact congrArg (List.foldl leads · r) (if_pos h), fun z hz => ?_⟩
      rcases List.mem_cons.mp hz with rfl | hz
      · exact (hmin w (by simp)).trans h.le
      · exact hmin z hz
    · obtain ⟨l, hl, e, hmin⟩ := ih x
      refine ⟨l, ?_, by rw [← e]; exact congrArg (List.foldl leads · r) (if_neg h), fun z hz => ?_⟩
      · rcases List.mem_cons.mp hl with rfl | hl <;> simp [*]
      · have hx := hmin x (by simp)
        simp only [List.mem_cons] at hz
        rcases hz with rfl | rfl | hz
        · exact hx
        · omega
        · exact hmin z (by simp [hz])

theorem exists_lead {ws : List (Option Nat × Context)} (h : ws ≠ []) :
    ∃ l ∈ ws, ws.foldl leads none = some l ∧ ∀ z ∈ ws, lowest l.2.p0 ≤ lowest z.2.p0 := by
  cases ws with
  | nil => exact absurd rfl h
  | cons w r => exact foldl_leads r w

theorem inMask_union (ws : List (Option Nat × Context)) (m : Word) (l : Nat) :
    inMask (ws.foldl (fun m w => m ||| w.2.p0) m) l = true ↔ inMask m l = true ∨ ∃ w ∈ ws, inMask w.2.p0 l = true := by
  induction ws generalizing m with
  | nil => simp
  | cons w r ih =>
    have hor : inMask (m ||| w.2.p0) l = true ↔ inMask m l = true ∨ inMask w.2.p0 l = true := by
      unfold inMask
      rw [BitVec.getLsbD_or, Bool.or_eq_true]
    rw [List.foldl_cons, ih, hor]
    simp [or_assoc]

theorem reunion_of_lead {ws : List (Option Nat × Context)} {l : Option Nat × Context} (hl : l ∈ ws)
    (hmin : ∀ z ∈ ws, lowest l.2.p0 ≤ lowest z.2.p0) (hsome : ∃ z ∈ ws, z.2.p0 ≠ 0) {y : Context}
    (hy : y.bare = ({ l.2 with p0 := ws.foldl (fun m w => m ||| w.2.p0) 0, due := true } : Context).bare) :
    Reunion (ws.map Prod.snd) y := by
  have hp0 : y.p0 = ws.foldl (fun m w => m ||| w.2.p0) 0 := (congrArg Context.p0 hy :)
  refine ⟨fun i => ?_, l.2, List.mem_map_of_mem hl, ⟨lowest l.2.p0, ?_⟩, by rw [hp0]; exact hy⟩
  · rw [hp0, inMask_union]
    have hzero : inMask 0 i = false := by simp [inMask]
    rw [hzero]
    exact ⟨fun h => h.elim (fun h => absurd h Bool.false_ne_true) fun ⟨w, hw, h⟩ => ⟨w.2, List.mem_map_of_mem hw, h⟩,
      fun ⟨c, hc, h⟩ => by obtain ⟨w, hw, rfl⟩ := List.mem_map.mp hc; exact .inr ⟨w, hw, h⟩⟩
  · obtain ⟨z, hz, hz0⟩ := hsome
    have hlt : lowest l.2.p0 < 32 := by
      have := hmin z hz
      rcases lowest_cases z.2.p0 with ⟨_, h0⟩ | ⟨h, _⟩
      · exact absurd h0 hz0
      · omega
    refine ⟨hlt, ?_, fun d hd i hi => ?_⟩
    · rcases lowest_cases l.2.p0 with ⟨h, _⟩ | ⟨_, h⟩
      · omega
      · exact h
    · obtain ⟨z, hz, rfl⟩ := List.mem_map.mp hd
      exact inMask_below (lt_of_lt_of_le hi (hmin z hz))

/-! ## The holders of a token -/

theorem token_eq_some {c : Context} {q : Nat} : c.token = some q ↔ c.stop = .merge q := by
  unfold Context.token
  cases c.stop <;> simp

/-- A record waits at MERGE q. -/
def Record.waitsAt (q : Nat) (r : Record) : Bool := decide (r.token = some q)

/-- What waits at MERGE q in a group: contexts, and parked records as the contexts that they become. -/
def Group.gathered (g : Group) (q : Nat) : List Context :=
  (g.waitAt q).map Prod.snd ++ (g.records.filter (Record.waitsAt q)).map Record.toContext

/-- The numbers of the contexts that wait at MERGE q. -/
def Group.waitNos (g : Group) (q : Nat) : List Nat := (g.waitAt q).map Prod.fst

theorem Group.waiters_eq (g : Group) (q : Nat) : g.waiters q =
    (g.waitAt q).map (fun e => (some e.1, e.2)) ++ (g.records.filter (Record.waitsAt q)).map (fun r => (none, r.toContext)) := by
  have hctxs : ∀ m : SMap Context, m.filterMap (fun e => if e.2.token = some q ∧ e.2.p0 ≠ 0 then some (some e.1, e.2) else none) =
      (m.filter (fun e => decide (e.2.p0 ≠ 0) && decide (e.2.stop = .merge q))).map (fun e => (some e.1, e.2)) := fun m => by
    rw [← List.filterMap_eq_map, List.filterMap_filter]
    refine List.filterMap_congr fun e _ => ?_
    simp only [token_eq_some, Function.comp_apply, ne_eq, Bool.and_eq_true, decide_eq_true_eq, and_comm]
  exact congrArg (· ++ _) (hctxs g.ctxs)

theorem Group.snd_waiters (g : Group) (q : Nat) : (g.waiters q).map Prod.snd = g.gathered q := by
  rw [Group.waiters_eq, List.map_append, List.map_map, List.map_map]
  rfl

theorem Group.own_waiters (g : Group) (q : Nat) : (g.waiters q).filterMap (fun w => w.1) = g.waitNos q := by
  rw [Group.waiters_eq, List.filterMap_append, List.filterMap_map, List.filterMap_map]
  simp [Group.waitNos]

theorem mem_waitAt {g : Group} (hr : g.ctxs.rising = true) {q : Nat} {e : Nat × Context} :
    e ∈ g.waitAt q ↔ g.ctxs.look e.1 = some e.2 ∧ e.2.p0 ≠ 0 ∧ e.2.stop = .merge q := by
  unfold Group.waitAt
  rw [List.mem_filter, SMap.mem_iff_look hr]
  simp

theorem mem_waitNos {g : Group} (hr : g.ctxs.rising = true) {q j : Nat} :
    j ∈ g.waitNos q ↔ ∃ c, g.ctxs.look j = some c ∧ c.p0 ≠ 0 ∧ c.stop = .merge q := by
  unfold Group.waitNos
  rw [List.mem_map]
  constructor
  · rintro ⟨e, he, rfl⟩
    exact ⟨e.2, (mem_waitAt hr).mp he⟩
  · rintro ⟨c, hc⟩
    exact ⟨(j, c), (mem_waitAt hr).mpr hc, rfl⟩

/-- A group whose holders of MERGE q have become y, in the place of the first of its contexts among them, or else of `at_`. -/
def Group.merged (at_ q : Nat) (y : Context) (g : Group) : Group :=
  { g with
    ctxs := (g.ctxs.keep (fun i => !((g.waitNos q).elem i))).ins ((g.waitNos q).headD at_) y
    records := g.records.filter (fun r => r.token ≠ some q) }

theorem records_merged (g : Group) (at_ q : Nat) (y : Context) :
    (g.merged at_ q y).records = g.records.filter (fun r => r.token ≠ some q) := rfl

/-- A group keeps the values of its lanes: V, q, o and the predicates. -/
def KeepsLanes (g h : Group) : Prop := h.v = g.v ∧ h.q = g.q ∧ h.o = g.o ∧ h.p = g.p

theorem KeepsLanes.trans {g h k : Group} (a : KeepsLanes g h) (b : KeepsLanes h k) : KeepsLanes g k :=
  ⟨b.1.trans a.1, b.2.1.trans a.2.1, b.2.2.1.trans a.2.2.1, b.2.2.2.trans a.2.2.2⟩

theorem keepsLanes_merged (g : Group) (at_ q : Nat) (y : Context) : KeepsLanes g (g.merged at_ q y) := ⟨rfl, rfl, rfl, rfl⟩

/-- The holder l of MERGE q with the lanes of all its holders, going on by w. -/
def Group.reunited (g : Group) (q : Nat) (w : Stop) (l : Context) : Context :=
  { l with
    p0 := (g.waiters q).foldl (fun m x => m ||| x.2.p0) 0, due := true, stop := w
    lastIssue := ((g.waitNos q).map (fun i => (g.ctx i).lastIssue)).foldl max l.lastIssue }

/-- Where contexts of a group wait at MERGE q, they and the records parked there are reunited (05 R94). -/
theorem State.reunite_eq {s : State} {g : SlotRef} {q : Nat} (at_ : Nat) (hw : (s.grp g).waitAt q ≠ []) :
    ∃ (F : Group → Group) (y : Context), s.reunite g at_ q =
        (s.modGrp g F).chargeAt g 0 (576 * (((s.grp g).records.filter (Record.waitsAt q)).length : Int)) ∧
      F (s.grp g) = (s.grp g).merged at_ q y ∧ Reunion ((s.grp g).gathered q) y ∧
      y.stop = if (s.grp g).records.filter (Record.waitsAt q) = [] ∧ (s.grp g).waitNos q = [at_] then .running else s.onward g := by
  have hown : (s.grp g).waitNos q ≠ [] := fun h => hw (List.map_eq_nil_iff.mp h)
  have hws : (s.grp g).waiters q ≠ [] := fun h => hown (by rw [← Group.own_waiters, h]; rfl)
  obtain ⟨l, hl, hlead, hmin⟩ := exists_lead hws
  have hsome : ∃ z ∈ (s.grp g).waiters q, z.2.p0 ≠ 0 := by
    obtain ⟨e, he⟩ := List.exists_mem_of_ne_nil _ hw
    have h0 : e.2.p0 ≠ 0 := by
      have := (List.mem_filter.mp he).2
      simp only [Bool.and_eq_true, decide_eq_true_eq] at this
      exact this.1
    exact ⟨(some e.1, e.2), by rw [Group.waiters_eq]; exact List.mem_append_left _ (List.mem_map_of_mem he), h0⟩
  unfold State.reunite
  dsimp only
  split
  case h_1 hnone => exact absurd (hnone.symm.trans hlead) (by simp)
  case h_2 l' hl' =>
    obtain rfl : l' = l := Option.some.inj (hl'.symm.trans hlead)
    simp only [Group.own_waiters, if_neg hown, List.length_nil, Nat.cast_zero, add_zero, List.append_nil, List.length_eq_zero_iff]
    exact ⟨_, (s.grp g).reunited q _ l'.2, rfl, rfl, by rw [← Group.snd_waiters]; exact reunion_of_lead hl hmin hsome rfl, rfl⟩

theorem mem_holders {g : Group} {x : Word × Option Nat} :
    x ∈ g.holders ↔ (∃ e ∈ g.ctxs, e.2.p0 ≠ 0 ∧ x = (e.2.p0, e.2.token)) ∨ ∃ r ∈ g.records, x = (r.mask, r.token) := by
  have hctx : ∀ e : Nat × Context, (if e.2.p0 = 0 then none else some (e.2.p0, e.2.token)) = some x ↔
      e.2.p0 ≠ 0 ∧ x = (e.2.p0, e.2.token) := fun e => by
    by_cases h : e.2.p0 = 0
    · rw [if_pos h]
      exact ⟨fun h => absurd h (by simp), fun h' => absurd h h'.1⟩
    · rw [if_neg h, Option.some_inj, and_iff_right h, eq_comm]
  unfold Group.holders
  rw [List.mem_append, List.mem_filterMap, List.mem_map]
  simp only [hctx, eq_comm]

theorem length_holders_at (g : Group) (q : Nat) :
    (g.holders.filter (fun x => decide (x.2 = some q))).length = (g.waitAt q).length + (g.records.filter (Record.waitsAt q)).length := by
  have hctxs : ∀ m : SMap Context,
      ((m.filterMap (fun e => if e.2.p0 = 0 then none else some (e.2.p0, e.2.token))).filter (fun x => decide (x.2 = some q))).length =
      (m.filter (fun e => decide (e.2.p0 ≠ 0) && decide (e.2.stop = .merge q))).length := fun m => by
    rw [← List.countP_eq_length_filter, ← List.countP_eq_length_filter, List.countP_filterMap]
    refine List.countP_congr fun e _ => ?_
    by_cases h0 : e.2.p0 = 0
    · rw [if_pos h0, decide_eq_false (not_not.mpr h0)]
      rfl
    · rw [if_neg h0, decide_eq_true h0, Bool.true_and, Option.map_some, Option.getD_some, decide_eq_true_iff, decide_eq_true_iff]
      exact token_eq_some
  unfold Group.holders
  rw [List.filter_append, List.length_append, hctxs, List.filter_map, List.length_map]
  rfl

section
variable {s : State} {g : SlotRef}

/-- While a holder runs nothing is resolved (05 R93). -/
theorem State.resolve_running (at_ : Nat) (h : ∃ x ∈ (s.grp g).holders, x.2 = none) : s.resolve g at_ = s := by
  obtain ⟨x, hx, hnone⟩ := h
  have hall : ¬(s.grp g).holders.all (fun e => e.2.isSome) = true := fun hall => by
    have := List.all_eq_true.mp hall x hx
    rw [hnone] at this
    exact absurd this (by decide)
  unfold State.resolve
  dsimp only
  split
  case h_1 => rfl
  case h_2 => rfl
  case h_3 m k he =>
    rw [he] at hx
    rw [List.mem_singleton.mp hx] at hnone
    exact absurd hnone (by simp)
  case h_4 => exact if_neg hall

/-- Where every holder waits and there are two or more, the tokens that two or more hold are reunited one after another. -/
theorem State.resolve_waiting (at_ : Nat) (hall : ∀ x ∈ (s.grp g).holders, ∃ q, x.2 = some q) (hlen : 2 ≤ (s.grp g).holders.length) :
    ∃ ks : List Nat, s.resolve g at_ = ks.foldl (fun s k => s.reunite g at_ k) s ∧ ks.Nodup ∧
      ∀ q, q ∈ ks ↔ 2 ≤ ((s.grp g).waitAt q).length + ((s.grp g).records.filter (Record.waitsAt q)).length := by
  refine ⟨(((s.grp g).holders.filterMap (fun e => e.2)).eraseDups).filter
    (fun k => decide (2 ≤ ((s.grp g).holders.filter (fun e => e.2 = some k)).length)), ?_, (nodup_eraseDups _).filter _, fun q => ?_⟩
  · have hsome : (s.grp g).holders.all (fun e => e.2.isSome) = true := List.all_eq_true.mpr fun x hx => by
      obtain ⟨q, hq⟩ := hall x hx
      rw [hq]
      rfl
    unfold State.resolve
    dsimp only
    split
    case h_1 he => rw [he] at hlen; exact absurd hlen (by simp)
    case h_2 he => rw [he] at hlen; exact absurd hlen (by simp)
    case h_3 he => rw [he] at hlen; exact absurd hlen (by simp)
    case h_4 => exact if_pos hsome
  · rw [List.mem_filter, decide_eq_true_iff, length_holders_at, and_iff_right_iff_imp, List.mem_eraseDups, List.mem_filterMap]
    intro h2
    rw [← length_holders_at] at h2
    obtain ⟨x, hx⟩ := List.exists_mem_of_length_pos (by omega : 0 < ((s.grp g).holders.filter (fun x => decide (x.2 = some q))).length)
    obtain ⟨hmem, hq⟩ := List.mem_filter.mp hx
    exact ⟨x, hmem, of_decide_eq_true hq⟩

/-- Where every holder waits at one MERGE they are reunited. -/
theorem State.resolve_one (at_ : Nat) {q : Nat} (hall : ∀ x ∈ (s.grp g).holders, x.2 = some q) (hne : (s.grp g).holders ≠ []) :
    s.resolve g at_ = s.reunite g at_ q := by
  by_cases hlen : 2 ≤ (s.grp g).holders.length
  · obtain ⟨ks, he, hnodup, hks⟩ := State.resolve_waiting at_ (fun x hx => ⟨q, hall x hx⟩) hlen
    have hcount : ∀ k, k ∈ ks ↔ k = q := fun k => by
      rw [hks, ← length_holders_at]
      refine ⟨fun h => ?_, fun h => ?_⟩
      · obtain ⟨x, hx⟩ := List.exists_mem_of_length_pos (by omega : 0 < ((s.grp g).holders.filter (fun x => decide (x.2 = some k))).length)
        obtain ⟨hmem, hk⟩ := List.mem_filter.mp hx
        exact Option.some.inj ((of_decide_eq_true hk).symm.trans (hall x hmem))
      · rw [h, List.filter_eq_self.mpr (fun x hx => decide_eq_true (hall x hx))]
        exact hlen
    have hone : ks = [q] := List.perm_singleton.mp ((List.perm_ext_iff_of_nodup hnodup (List.nodup_singleton q)).mpr
      (fun k => (hcount k).trans List.mem_singleton.symm))
    rw [he, hone]
    rfl
  · have hpos := List.length_pos_iff.mpr hne
    obtain ⟨x, hx⟩ := List.length_eq_one_iff.mp (by omega : (s.grp g).holders.length = 1)
    have hxq : x = (x.1, some q) := Prod.ext rfl (hall x (by rw [hx]; exact List.mem_singleton_self x))
    rw [hxq] at hx
    unfold State.resolve
    dsimp only
    rw [hx]

end

/-! ## One group after a reunion -/

/-- One of the contexts that waited has become y, the others are gone, and no other context has changed. -/
theorem look_merged {g : Group} {q : Nat} (hw : g.waitAt q ≠ []) (at_ : Nat) (y : Context) :
    ∃ e ∈ g.waitAt q, (g.merged at_ q y).ctxs.look e.1 = some y ∧
      (∀ x ∈ g.waitAt q, x.1 ≠ e.1 → (g.merged at_ q y).ctxs.look x.1 = none) ∧
      ∀ j, j ∉ g.waitNos q → (g.merged at_ q y).ctxs.look j = g.ctxs.look j := by
  obtain ⟨e, r, he⟩ := List.exists_cons_of_ne_nil hw
  have hmem : ∀ x ∈ g.waitAt q, x.1 ∈ g.waitNos q := fun x hx => List.mem_map_of_mem hx
  have hin : e ∈ g.waitAt q := by rw [he]; exact List.mem_cons_self ..
  have hlook : ∀ j, (g.merged at_ q y).ctxs.look j = if j = e.1 then some y else if j ∈ g.waitNos q then none else g.ctxs.look j := fun j => by
    have hplace : (g.waitNos q).headD at_ = e.1 := by unfold Group.waitNos; rw [he]; rfl
    unfold Group.merged
    rw [SMap.look_ins, SMap.look_keep, hplace]
    by_cases hj : j ∈ g.waitNos q <;> simp [hj]
  refine ⟨e, hin, (hlook _).trans (if_pos rfl), fun x hx hne => ?_, fun j hj => ?_⟩
  · rw [hlook, if_neg hne, if_pos (hmem x hx)]
  · rw [hlook, if_neg (fun h => hj (by rw [h]; exact hmem e hin)), if_neg hj]

theorem rising_merged {g : Group} (hr : g.ctxs.rising = true) (at_ q : Nat) (y : Context) : (g.merged at_ q y).ctxs.rising = true :=
  SMap.rising_ins _ _ _ (SMap.rising_keep _ hr)

theorem Reunited.congr {ws ws' : List Context} (h : ∀ c, c ∈ ws ↔ c ∈ ws') {y : Context} (hy : Reunited ws y) : Reunited ws' y := by
  obtain ⟨hl, hd, c, hc, ⟨l, hlt, hin, hlow⟩, e⟩ := hy
  refine ⟨fun l hlt => (hl l hlt).trans ?_, hd, c, (h c).mp hc, ⟨l, hlt, hin, fun d hd => hlow d ((h d).mpr hd)⟩, e⟩
  exact exists_congr fun c => and_congr_left fun _ => h c

/-! ## Where a context goes as its hold ends (19 R300, R301) -/

/-- A context goes on, or counts as saved while its team yields. -/
def GoesOn (s : State) (w : Stop) : Prop := (w = .running ∨ w = .entry) ∧ (s.myTeam.yieldPending = false → w = .running)

theorem goesOn_onward (s : State) : GoesOn s (s.onward s.cur.g) := by
  unfold State.onward
  split
  case isTrue h => exact ⟨.inr rfl, fun hy => absurd (h.2.symm.trans hy) (by decide)⟩
  case isFalse => exact ⟨.inl rfl, fun _ => rfl⟩

theorem goesOn_running (s : State) : GoesOn s .running := ⟨.inl rfl, fun _ => rfl⟩

theorem GoesOn.not_merge {s : State} {w : Stop} (h : GoesOn s w) (q : Nat) : w ≠ .merge q := by
  rcases h.1 with rfl | rfl <;> simp

section
variable {s t : State} {h : Group} {ci ct : Int} (b : Became s t h ci ct)
include b

theorem Became.onward : t.onward s.cur.g = s.onward s.cur.g := by
  unfold State.onward
  rw [b.grp, b.kind, b.team, b.only.yieldPending]
  rfl

/-- The group whose waiters have been reunited: its team pays for what was parked. -/
theorem Became.reunite {q : Nat} (hw : h.waitAt q ≠ []) (at_ : Nat) :
    ∃ y, Became s (t.reunite s.cur.g at_ q) (h.merged at_ q y) (sat64 (ci - 0))
        (sat64 (ct - 576 * ((h.records.filter (Record.waitsAt q)).length : Int))) ∧ Reunion (h.gathered q) y ∧
      y.stop = if h.records.filter (Record.waitsAt q) = [] ∧ h.waitNos q = [at_] then .running else s.onward s.cur.g := by
  obtain ⟨F, y, he, hF, hy, hstop⟩ := State.reunite_eq (s := t) (g := s.cur.g) at_ (by rw [b.grp]; exact hw)
  rw [b.grp] at he hF hy hstop
  rw [b.onward] at hstop
  refine ⟨y, ?_, hy, hstop⟩
  have bF := (b.modGrp (F := F) (by rw [hF]; rfl)).chargeAt 0 (576 * ((h.records.filter (Record.waitsAt q)).length : Int))
  rw [hF, ← he] at bF
  exact bF

end

/-! ## Reunions one after another -/

/-- h' is h once the contexts that wait at each of the MERGEs ks have been reunited, by the group that issues in s. -/
structure Reunites (s : State) (ks : List Nat) (h h' : Group) : Prop where
  rising : h'.ctxs.rising = true
  records : h'.records = h.records
  lanes : KeepsLanes h h'
  others : ∀ j, (∀ q ∈ ks, j ∉ h.waitNos q) → h'.ctxs.look j = h.ctxs.look j
  reunited : ∀ q ∈ ks, ∃ e y, e ∈ h.waitAt q ∧ h'.ctxs.look e.1 = some y ∧ Reunited ((h.waitAt q).map Prod.snd) y ∧ GoesOn s y.stop ∧
    ∀ x ∈ h.waitAt q, x.1 ≠ e.1 → h'.ctxs.look x.1 = none

/-- A reunion at one MERGE leaves the contexts that wait at another. -/
theorem mem_waitAt_merged {s : State} {g : Group} (hr : g.ctxs.rising = true) {q k : Nat} (hne : k ≠ q) (hw : g.waitAt q ≠ []) (at_ : Nat)
    {y : Context} (hy : GoesOn s y.stop) (x : Nat × Context) : x ∈ (g.merged at_ q y).waitAt k ↔ x ∈ g.waitAt k := by
  obtain ⟨e, he, hplace, hgone, hkept⟩ := look_merged hw at_ y
  rw [mem_waitAt (rising_merged hr at_ q y), mem_waitAt hr]
  by_cases hx : x.1 ∈ g.waitNos q
  · obtain ⟨c, hc, _, hcq⟩ := (mem_waitNos hr).mp hx
    obtain ⟨z, hz, hz1⟩ := List.mem_map.mp hx
    refine iff_of_false (fun h => ?_) (fun h => ?_)
    · by_cases hxe : x.1 = e.1
      · rw [hxe, hplace] at h
        exact hy.not_merge k (by rw [Option.some.inj h.1]; exact h.2.2)
      · rw [← hz1, hgone z hz (by rw [hz1]; exact hxe)] at h
        exact absurd h.1 (by simp)
    · rw [hc] at h
      rw [← Option.some.inj h.1, hcq] at h
      exact hne (Stop.merge.inj h.2.2).symm
  · rw [hkept x.1 hx]

theorem Reunites.nil {s : State} {h : Group} (hr : h.ctxs.rising = true) : Reunites s [] h h :=
  ⟨hr, rfl, ⟨rfl, rfl, rfl, rfl⟩, fun _ _ => rfl, fun _ hq => absurd hq List.not_mem_nil⟩

theorem Reunites.cons {s : State} {h h' : Group} {ks : List Nat} {q at_ : Nat} {y : Context} (hr : h.ctxs.rising = true) (hrec : h.records = [])
    (hq : q ∉ ks) (hw : h.waitAt q ≠ []) (hy : Reunited ((h.waitAt q).map Prod.snd) y) (hgo : GoesOn s y.stop)
    (m : Reunites s ks (h.merged at_ q y) h') : Reunites s (q :: ks) h h' := by
  obtain ⟨e, he, hplace, hgone, hkept⟩ := look_merged hw at_ y
  have hr1 := rising_merged hr at_ q y
  have hsame : ∀ k ∈ ks, ∀ x, x ∈ (h.merged at_ q y).waitAt k ↔ x ∈ h.waitAt k := fun k hk =>
    mem_waitAt_merged hr (fun (e : k = q) => hq (e ▸ hk)) hw at_ hgo
  have hnos : ∀ k ∈ ks, ∀ j, j ∈ (h.merged at_ q y).waitNos k ↔ j ∈ h.waitNos k := fun k hk j => by
    simp only [Group.waitNos, List.mem_map, hsame k hk]
  refine ⟨m.rising, m.records.trans ?_, (keepsLanes_merged h at_ q y).trans m.lanes, fun j hj => ?_, fun k hk => ?_⟩
  · rw [hrec]
    unfold Group.merged
    rw [hrec]
    rfl
  · rw [m.others j (fun k hk => by rw [hnos k hk]; exact hj k (List.mem_cons_of_mem _ hk)), hkept j (hj q (List.mem_cons_self ..))]
  · rcases List.mem_cons.mp hk with rfl | hk
    · refine ⟨e, y, he, ?_, hy, hgo, fun x hx hne => ?_⟩
      · rw [m.others e.1 (fun q' _ hin => ?_), hplace]
        obtain ⟨c, hc, _, hcq⟩ := (mem_waitNos hr1).mp hin
        rw [hplace] at hc
        exact hgo.not_merge q' (by rw [Option.some.inj hc]; exact hcq)
      · rw [m.others x.1 (fun q' _ hin => ?_), hgone x hx hne]
        obtain ⟨c, hc, _⟩ := (mem_waitNos hr1).mp hin
        rw [hgone x hx hne] at hc
        exact absurd hc (by simp)
    · obtain ⟨d, z, hd, hz, hre, hgoz, hrest⟩ := m.reunited k hk
      refine ⟨d, z, (hsame k hk d).mp hd, hz, hre.congr (fun c => ?_), hgoz, fun x hx => hrest x ((hsame k hk x).mpr hx)⟩
      simp only [List.mem_map, hsame k hk]

theorem Became.reunites {s t : State} {h : Group} {ci ct : Int} {ks : List Nat} (b : Became s t h ci ct) (hci : sat64 ci = ci)
    (hct : sat64 ct = ct) (hr : h.ctxs.rising = true) (hrec : h.records = []) (hnodup : ks.Nodup) (hw : ∀ q ∈ ks, h.waitAt q ≠ [])
    (at_ : Nat) : ∃ h', Became s (ks.foldl (fun t q => t.reunite s.cur.g at_ q) t) h' ci ct ∧ Reunites s ks h h' := by
  induction ks generalizing t h with
  | nil => exact ⟨h, b, Reunites.nil hr⟩
  | cons q ks ih =>
    obtain ⟨hq, hnodup⟩ := List.nodup_cons.mp hnodup
    have hwq := hw q (List.mem_cons_self ..)
    obtain ⟨y, b1, hy, hstop⟩ := b.reunite hwq at_
    have hgo : GoesOn s y.stop := by
      rw [hstop]
      split
      · exact goesOn_running s
      · exact goesOn_onward s
    have hre : Reunited ((h.waitAt q).map Prod.snd) y := by
      have := hy.reunited
      rwa [Group.gathered, hrec, List.filter_nil, List.map_nil, List.append_nil] at this
    have hrec1 : (h.merged at_ q y).records = [] := by
      unfold Group.merged
      rw [hrec]
      rfl
    rw [hrec, List.filter_nil, List.length_nil, Nat.cast_zero, mul_zero, sub_zero, sub_zero, hci, hct] at b1
    have hw1 : ∀ k ∈ ks, (h.merged at_ q y).waitAt k ≠ [] := fun k hk => by
      obtain ⟨x, hx⟩ := List.exists_mem_of_ne_nil _ (hw k (List.mem_cons_of_mem _ hk))
      exact List.ne_nil_of_mem ((mem_waitAt_merged hr (fun (e : k = q) => hq (e ▸ hk)) hwq at_ hgo x).mpr hx)
    obtain ⟨h', b', m⟩ := ih b1 (rising_merged hr at_ q y) hrec1 hnodup hw1
    exact ⟨h', b', m.cons hr hrec hq hwq hre hgo⟩

/-! ## A context arrives at a MERGE (05 R92, 06 R118) -/

/-- The context as it has arrived at MERGE k, by an instruction that issued before tick n. -/
def Context.arrives (n k : Nat) (c : Context) : Context := { c.advance 4 true with lastIssue := n, stop := .merge k }

/-- What an arrival makes of a state whose records are at hand. -/
def arrival (k : Nat) (s : State) : State :=
  let s1 :=
    match s.me.dormantOf s.cur.i with
    | some r =>
      let c := s.ctx
      ((s.modMe (fun g => g.keeping (g.records ++ [c.toRecord c.p0 c.pc (some k) s.cur.i]))).takeOver s.cur r).chargeAt s.cur.g 0 recordBytes
    | none => s.modCtx (fun c => { c with stop := .merge k })
  s1.resolve s.cur.g s.cur.i

theorem exec_merge (k : Nat) (s : State) : exec (.merge k) s =
    .next (withRecords (s.charge 1).advanceB.cur.g (arrival k) (s.charge 1).advanceB) := rfl

theorem arrival_waits {s : State} (k : Nat) (h : s.me.dormantOf s.cur.i = none) :
    arrival k s = (s.modCtx (fun c => { c with stop := .merge k })).resolve s.cur.g s.cur.i := by
  unfold arrival
  rw [h]

theorem arrival_parks {s : State} (k : Nat) {r : Record} (h : s.me.dormantOf s.cur.i = some r) : arrival k s =
    (((s.modMe (fun g => g.keeping (g.records ++ [s.ctx.toRecord s.ctx.p0 s.ctx.pc (some k) s.cur.i]))).takeOver s.cur r).chargeAt
      s.cur.g 0 recordBytes).resolve s.cur.g s.cur.i := by
  unfold arrival
  rw [h]

/-- The records of a context that have not run. -/
def Record.dormantFor (i : Nat) (r : Record) : Bool := decide (r.token = none) && decide (r.owner = i)

/-- The group in which the context that issues has arrived at MERGE k. -/
def State.arrived (s : State) (k x y : Nat) (z : Bool) : Group :=
  ((s.me.counted x y z).modCtx s.cur.i (Context.arrives (s.tick + 1) k)).keeping (s.savedRecords s.cur.g)

theorem keepsLanes_arrives (g : Group) (i x y : Nat) (z : Bool) (f : Context → Context) (rs : List Record) :
    KeepsLanes g (((g.counted x y z).modCtx i f).keeping rs) := ⟨rfl, rfl, rfl, rfl⟩

theorem keepsLanes_arrived (s : State) (k x y : Nat) (z : Bool) : KeepsLanes s.me (s.arrived k x y z) :=
  keepsLanes_arrives s.me s.cur.i x y z (Context.arrives (s.tick + 1) k) (s.savedRecords s.cur.g)

section
variable {s : State} (hp : s.plain = true) (k : Nat)
include hp

/-- A context without a dormant record waits, and merges are resolved. -/
theorem merge_waits (hd : ((s.savedRecords s.cur.g).filter (Record.dormantFor s.cur.i)).getLast? = none) :
    ∃ (x y : Nat) (z : Bool) (u t : State),
      Became s u (s.arrived k x y z) (sat64 ((s.team s.me.team).ci - 1)) (sat64 ((s.team s.me.team).ct - 0)) ∧
      exec (.merge k) s = .next t ∧ t.groups = (u.resolve s.cur.g s.cur.i).groups ∧ t.teams = (u.resolve s.cur.g s.cur.i).teams ∧
      (((u.resolve s.cur.g s.cur.i).grp s.cur.g).records = s.savedRecords s.cur.g → t = u.resolve s.cur.g s.cur.i) := by
  obtain ⟨x, y, z, b⟩ := became_issue hp
  have b0 := b.advanceB
  have bf := b0.fetchRecords rfl
  have hcur := bf.cur
  have he : arrival k ((s.charge 1).advanceB.fetchRecords s.cur.g) = _ := arrival_waits k (by rw [bf.me, hcur]; exact hd)
  rw [hcur] at he
  have bu := bf.modCtx (fun c => { c with stop := .merge k })
  rw [Group.modCtx_keeping, show ((s.me.counted x y z).modCtx s.cur.i (Context.behind (s.tick + 1))).modCtx s.cur.i
    (fun c => { c with stop := .merge k }) = _ from congrArg (fun m => { s.me.counted x y z with ctxs := m }) (SMap.upd_upd _ _ _ _)] at bu
  refine ⟨x, y, z, _, _, bu, exec_merge k s, ?_, ?_, fun hsame => ?_⟩
  · rw [withRecords_groups, b0.cur, he]
  · rw [withRecords_teams, b0.cur, he]
  · rw [b0.cur, withRecords_same b0.hasGrp, he]
    rw [he, hsame]
    exact (b0.savedRecords rfl).symm

end

theorem plain_look {s : State} (hp : s.plain = true) : s.me.ctxs.look s.cur.i = some s.ctx := by
  have h : (s.me.ctxs.look s.cur.i).isSome = true := plain_here hp
  obtain ⟨c, hc⟩ := Option.isSome_iff_exists.mp h
  rw [hc]
  exact congrArg some (by unfold State.ctx Group.ctx SMap.get; rw [hc]; rfl)

section
variable (s : State) (k x y : Nat) (z : Bool)

theorem ctxs_arrived : (s.arrived k x y z).ctxs = s.me.ctxs.upd s.cur.i (Context.arrives (s.tick + 1) k) := rfl

theorem records_arrived : (s.arrived k x y z).records = s.savedRecords s.cur.g := rfl

theorem look_arrived_ne {j : Nat} (h : j ≠ s.cur.i) : (s.arrived k x y z).ctxs.look j = s.me.ctxs.look j := by
  rw [ctxs_arrived, SMap.look_upd_ne _ _ _ _ h]

variable (hp : s.plain = true)
include hp

theorem look_arrived : (s.arrived k x y z).ctxs.look s.cur.i = some (s.ctx.arrives (s.tick + 1) k) := by
  rw [ctxs_arrived, SMap.look_upd_self, plain_look hp]
  rfl

theorem stop_arrived : ((s.arrived k x y z).ctx s.cur.i).stop = .merge k := by
  unfold Group.ctx SMap.get
  rw [look_arrived s k x y z hp]
  rfl

omit hp in
theorem bare_arrived (hrec : s.me.records = []) : (s.arrived k x y z).bare = (Group.goBehind s.cur.i s.me).bare := by
  unfold State.arrived
  rw [State.savedRecords_eq_nil.mpr hrec, ← hrec]
  exact bare_modCtx_congr (F := Context.arrives (s.tick + 1) k) (F' := Context.advance 4 true) (fun _ => rfl) (s.me.counted x y z) s.cur.i

end

/-- Where all contexts with lanes and all records wait at one MERGE, every holder holds its token. -/
theorem holders_at {g : Group} {q : Nat} (hc : ∀ e ∈ g.ctxs, e.2.p0 ≠ 0 → e.2.stop = .merge q) (hr : ∀ r ∈ g.records, r.token = some q)
    (x : Word × Option Nat) (hx : x ∈ g.holders) : x.2 = some q := by
  rcases mem_holders.mp hx with ⟨e, he, h0, rfl⟩ | ⟨r, h, rfl⟩
  · exact token_eq_some.mpr (hc e he h0)
  · exact hr r h

theorem holders_ne_nil {g : Group} {e : Nat × Context} (he : e ∈ g.ctxs) (h0 : e.2.p0 ≠ 0) : g.holders ≠ [] :=
  List.ne_nil_of_mem (mem_holders.mpr (.inl ⟨e, he, h0, rfl⟩))

/-- A group has other contexts. -/
def Group.withCtxs (m : SMap Context) (g : Group) : Group := { g with ctxs := m }

theorem bare_withCtxs (g : Group) {m : SMap Context} (h : m.map (fun e => (e.1, e.2.bare)) = g.ctxs.map (fun e => (e.1, e.2.bare))) :
    (g.withCtxs m).bare = g.bare := (congrArg (fun c => g.bare.withCtxs c) h :)

theorem merged_of_none {g : Group} {at_ q : Nat} {y : Context} (h : g.records = []) :
    g.merged at_ q y = g.withCtxs (g.merged at_ q y).ctxs := by
  unfold Group.merged Group.withCtxs
  rw [h]
  rfl

/-- A lone context that is reunited stands as it stood. -/
theorem Reunion.bare_lone {c y : Context} (h : Reunion [c] y) (hdue : c.due = true) : y.bare = c.bare := by
  obtain ⟨d, hd, _, e⟩ := h.lead
  obtain rfl := List.mem_singleton.mp hd
  have hp0 : y.p0 = d.p0 := BitVec.eq_of_getLsbD_eq fun i _ => by
    have := h.lanes i
    simp only [List.mem_singleton, exists_eq_left] at this
    exact Bool.eq_iff_iff.mpr this
  rw [e, hp0, ← hdue]

theorem dormant_nil {s : State} (hrec : s.me.records = []) :
    ((s.savedRecords s.cur.g).filter (Record.dormantFor s.cur.i)).getLast? = none := by
  rw [State.savedRecords_eq_nil.mpr hrec]
  rfl

section
variable {s : State} (hp : s.plain = true) (k : Nat)
include hp

/-- MERGE waits while another context runs (05 R93). -/
theorem merge_among_running (hrec : s.me.records = [])
    (hrun : ∃ j c, j ≠ s.cur.i ∧ s.me.ctxs.look j = some c ∧ c.p0 ≠ 0 ∧ c.stop = .running) :
    RunsInto (.merge k) (.merge k) 1 0 (Group.goBehind s.cur.i) s := by
  obtain ⟨x, y, z, u, t, b, he, _, _, hsame⟩ := merge_waits hp k (dormant_nil hrec)
  obtain ⟨j, c, hj, hc, h0, hstop⟩ := hrun
  have hres : u.resolve s.cur.g s.cur.i = u := State.resolve_running _ ⟨(c.p0, c.token), by
    rw [b.grp]
    exact mem_holders.mpr (.inl ⟨(j, c), SMap.mem_of_look ((look_arrived_ne s k x y z hj).trans hc), h0, rfl⟩), by
    unfold Context.token
    rw [hstop]⟩
  have ht : t = u := by
    rw [← hres]
    exact hsame (by rw [hres, b.grp]; rfl)
  rw [ht] at he
  exact b.runsInto he (bare_arrived s k x y z hrec) rfl rfl (stop_arrived s k x y z hp)

/-- MERGE passes for a lone context (06 R118). -/
theorem merge_alone (hctx : s.me.ctxs = [(s.cur.i, s.ctx)]) (h0 : s.ctx.p0 ≠ 0) (hrec : s.me.records = []) :
    RunsInto .running (.merge k) 1 0 (Group.goBehind s.cur.i) s := by
  obtain ⟨x, y, z, u, t, b, he, _, _, hsame⟩ := merge_waits hp k (dormant_nil hrec)
  have hctxs : (s.arrived k x y z).ctxs = [(s.cur.i, s.ctx.arrives (s.tick + 1) k)] := by
    rw [ctxs_arrived, hctx]
    simp [SMap.upd]
  have hrecs : (s.arrived k x y z).records = [] := State.savedRecords_eq_nil.mpr hrec
  have hwait : (s.arrived k x y z).waitAt k = [(s.cur.i, s.ctx.arrives (s.tick + 1) k)] := by
    unfold Group.waitAt
    rw [hctxs, List.filter_cons_of_pos, List.filter_nil]
    rw [Bool.and_eq_true]
    exact ⟨decide_eq_true h0, decide_eq_true rfl⟩
  have hnos : (s.arrived k x y z).waitNos k = [s.cur.i] := by
    unfold Group.waitNos
    rw [hwait]
    rfl
  have hres : u.resolve s.cur.g s.cur.i = u.reunite s.cur.g s.cur.i k := by
    refine State.resolve_one _ (fun x hx => ?_) ?_
    · rw [b.grp] at hx
      refine holders_at (fun e he _ => ?_) (fun r hr => ?_) x hx
      · rw [hctxs, List.mem_singleton] at he
        rw [he]
        rfl
      · rw [hrecs] at hr
        exact absurd hr List.not_mem_nil
    · rw [b.grp]
      exact holders_ne_nil (by rw [hctxs]; exact List.mem_singleton_self _) h0
  obtain ⟨w, bw, hw, hstop⟩ := b.reunite (q := k) (by rw [hwait]; simp) s.cur.i
  rw [hrecs, hnos] at hstop
  have hkeys : ((s.arrived k x y z).merged s.cur.i k w).ctxs = [(s.cur.i, w)] := by
    unfold Group.merged
    rw [hnos, hctxs]
    simp [SMap.keep, SMap.ins]
  have hgath : (s.arrived k x y z).gathered k = [s.ctx.arrives (s.tick + 1) k] := by
    unfold Group.gathered
    rw [hwait, hrecs]
    rfl
  rw [hgath] at hw
  have hbare : w.bare = (s.ctx.arrives (s.tick + 1) k).bare := hw.bare_lone rfl
  have hsplit : (s.arrived k x y z).merged s.cur.i k w = (s.arrived k x y z).withCtxs [(s.cur.i, w)] := by
    rw [← hkeys]
    exact merged_of_none hrecs
  have ht : t = u.reunite s.cur.g s.cur.i k := by
    rw [← hres]
    refine hsame ?_
    rw [hres, bw.grp, hsplit]
    rfl
  rw [ht] at he
  rw [hsplit] at bw
  refine bw.runsInto he ((bare_withCtxs _ ?_).trans (bare_arrived s k x y z hrec)) ?_ ?_ ?_
  · rw [hctxs, List.map_singleton, List.map_singleton, hbare]
  · rw [sub_zero, sat64_sat64]
  · rw [hrecs]
    simp [sat64_sat64]
  · have hw1 : (((s.arrived k x y z).withCtxs [(s.cur.i, w)]).ctx s.cur.i) = w := by simp [Group.ctx, Group.withCtxs, SMap.get, SMap.look]
    rw [hw1, hstop]
    exact if_pos ⟨rfl, rfl⟩

end

/-! ## When a context last issued does not matter to a reunion -/

/-- A context, whenever it last issued. -/
def Context.unissued (c : Context) : Context := { c with lastIssue := 0 }

/-- An entry of a group's contexts, whenever its context last issued. -/
def unissuedAt (e : Nat × Context) : Nat × Context := (e.1, e.2.unissued)

theorem bare_of_unissued {c d : Context} (h : c.unissued = d.unissued) : c.bare = d.bare := (congrArg Context.bare h :)

theorem Reunited.unissued {ws : List Context} {y : Context} : Reunited (ws.map Context.unissued) y ↔ Reunited ws y := by
  unfold Reunited
  simp only [List.mem_map, exists_exists_and_eq_and, forall_exists_index, and_imp, forall_apply_eq_imp_iff₂]
  rfl

theorem Reunited.of_unissued {ws ws' : List Context} {y : Context} (h : ws.map Context.unissued = ws'.map Context.unissued)
    (hy : Reunited ws y) : Reunited ws' y :=
  Reunited.unissued.mp (h ▸ Reunited.unissued.mpr hy)

theorem SMap.upd_of_above {α : Type} {m : SMap α} {i : Nat} (f : α → α) (h : ∀ e ∈ m, i < e.1) : m.upd i f = m := by
  induction m with
  | nil => rfl
  | cons e r ih =>
    obtain ⟨k, w⟩ := e
    unfold SMap.upd
    rw [if_neg (Nat.ne_of_gt (h (k, w) (List.mem_cons_self ..))), ih (fun e he => h e (List.mem_cons_of_mem _ he))]

/-- Where keys rise a change of an entry is a new entry in its place. -/
theorem SMap.upd_eq_ins {α : Type} {m : SMap α} (hr : m.rising = true) {i : Nat} {x : α} (hx : m.look i = some x) (f : α → α) :
    m.upd i f = m.ins i (f x) := by
  induction m with
  | nil => exact absurd hx (by simp [SMap.look])
  | cons e r ih =>
    obtain ⟨k, w⟩ := e
    unfold SMap.look at hx
    unfold SMap.upd SMap.ins
    by_cases hk : k = i
    · subst hk
      rw [if_pos rfl] at hx
      rw [if_pos rfl, if_neg (lt_irrefl k), if_pos rfl, SMap.upd_of_above f (SMap.rising_lt hr), Option.some.inj hx]
    · rw [if_neg hk] at hx
      have hlt : k < i := SMap.rising_lt hr (i, x) (SMap.mem_of_look hx)
      rw [if_neg hk, if_neg (by omega), if_neg (Ne.symm hk), ih (SMap.rising_tail hr) hx]

theorem waitAt_congr {g h : Group} (e : g.ctxs = h.ctxs) (q : Nat) : g.waitAt q = h.waitAt q := by
  unfold Group.waitAt
  rw [e]

theorem map_waitAt (g : Group) (q : Nat) : (g.waitAt q).map unissuedAt = (g.withCtxs (g.ctxs.map unissuedAt)).waitAt q :=
  (List.filter_map (f := unissuedAt) (l := g.ctxs) (p := fun e => decide (e.2.p0 ≠ 0) && decide (e.2.stop = .merge q))).symm

/-- The group in which the context that issues has arrived at MERGE k, as if it had not issued there: `State.arrived` but for counts. -/
def State.arrivedAt (s : State) (k : Nat) : Group :=
  { s.me with ctxs := s.me.ctxs.ins s.cur.i { s.ctx.advance 4 true with stop := .merge k } }

section
variable {s : State} (hp : s.plain = true) (hr : s.me.ctxs.rising = true) (k x y : Nat) (z : Bool)
include hp hr

theorem ctxs_arrived_sorted : (s.arrived k x y z).ctxs = s.me.ctxs.ins s.cur.i (s.ctx.arrives (s.tick + 1) k) :=
  SMap.upd_eq_ins hr (plain_look hp) _

theorem rising_arrived : (s.arrived k x y z).ctxs.rising = true := by
  rw [ctxs_arrived_sorted hp hr]
  exact SMap.rising_ins _ _ _ hr

theorem map_ctxs_arrived : (s.arrived k x y z).ctxs.map unissuedAt = (s.arrivedAt k).ctxs.map unissuedAt :=
  (congrArg (List.map unissuedAt) (ctxs_arrived_sorted hp hr k x y z)).trans ((SMap.map_ins _ _ _ Context.unissued).trans
    (SMap.map_ins s.me.ctxs s.cur.i { s.ctx.advance 4 true with stop := .merge k } Context.unissued).symm)

theorem map_waitAt_arrived (q : Nat) : ((s.arrived k x y z).waitAt q).map unissuedAt = ((s.arrivedAt k).waitAt q).map unissuedAt := by
  rw [map_waitAt, map_waitAt]
  exact waitAt_congr (map_ctxs_arrived hp hr k x y z) q

end

/-! ## Every context waits (05 R93, R94) -/

theorem two_le_length {α : Type} {l : List α} {a b : α} (ha : a ∈ l) (hb : b ∈ l) (hne : a ≠ b) : 2 ≤ l.length := by
  match l with
  | [] => exact absurd ha List.not_mem_nil
  | [c] => exact absurd ((List.mem_singleton.mp ha).trans (List.mem_singleton.mp hb).symm) hne
  | _ :: _ :: _ => exact Nat.le_add_left 2 _

theorem length_holders (g : Group) : g.holders.length = (g.ctxs.filter (fun e => decide (e.2.p0 ≠ 0))).length + g.records.length := by
  unfold Group.holders
  rw [List.length_append, List.length_map, List.length_filterMap_eq_countP, List.countP_eq_length_filter]
  congr 3
  funext e
  by_cases h0 : e.2.p0 = 0
  · rw [if_pos h0, decide_eq_false (not_not.mpr h0)]
    rfl
  · rw [if_neg h0, decide_eq_true h0]
    rfl

section
variable {s : State} (hp : s.plain = true) (hr : s.me.ctxs.rising = true) (k x y : Nat) (z : Bool)
include hp hr

/-- Where the other contexts wait, so do all once this one has arrived. -/
theorem waits_arrived {w : Context → Prop} (hk : w (s.ctx.arrives (s.tick + 1) k))
    (hothers : ∀ j c, j ≠ s.cur.i → s.me.ctxs.look j = some c → c.p0 ≠ 0 → w c) (e : Nat × Context)
    (he : e ∈ (s.arrived k x y z).ctxs) (h0 : e.2.p0 ≠ 0) : w e.2 := by
  have hl := SMap.look_of_mem (rising_arrived hp hr k x y z) he
  by_cases hi : e.1 = s.cur.i
  · rw [hi, look_arrived s k x y z hp] at hl
    rw [← Option.some.inj hl]
    exact hk
  · rw [look_arrived_ne s k x y z hi] at hl
    exact hothers e.1 e.2 hi hl h0

omit hr in
theorem mem_arrived : (s.cur.i, s.ctx.arrives (s.tick + 1) k) ∈ (s.arrived k x y z).ctxs := SMap.mem_of_look (look_arrived s k x y z hp)

/-- Where every context waits and nothing is parked, the tokens that two or more contexts hold are resolved. -/
theorem merge_all_wait (hrec : s.me.records = []) (h0 : s.ctx.p0 ≠ 0) (hanother : ∃ j c, j ≠ s.cur.i ∧ s.me.ctxs.look j = some c ∧ c.p0 ≠ 0)
    (hothers : ∀ j c, j ≠ s.cur.i → s.me.ctxs.look j = some c → c.p0 ≠ 0 → ∃ q, c.stop = .merge q) :
    ∃ t ks x y z, exec (.merge k) s = .next t ∧ Paid 1 0 s t ∧ t.mem = s.mem ∧ Reunites s ks (s.arrived k x y z) (t.grp s.cur.g) ∧
      ∀ q, q ∈ ks ↔ 2 ≤ ((s.arrived k x y z).waitAt q).length := by
  obtain ⟨x, y, z, u, t, b, he, _, _, hsame⟩ := merge_waits hp k (dormant_nil hrec)
  have hrecs : (s.arrived k x y z).records = [] := State.savedRecords_eq_nil.mpr hrec
  have hall : ∀ w ∈ (s.arrived k x y z).holders, ∃ q, w.2 = some q := fun w hw => by
    rcases mem_holders.mp hw with ⟨e, hmem, h0, rfl⟩ | ⟨r, hmem, rfl⟩
    · obtain ⟨q, hq⟩ := waits_arrived hp hr k x y z (w := fun c => ∃ q, c.stop = .merge q) ⟨k, rfl⟩ hothers e hmem h0
      exact ⟨q, token_eq_some.mpr hq⟩
    · rw [hrecs] at hmem
      exact absurd hmem List.not_mem_nil
  have hlen : 2 ≤ (s.arrived k x y z).holders.length := by
    obtain ⟨j, c, hj, hc, hc0⟩ := hanother
    rw [length_holders]
    refine le_trans (two_le_length (a := (s.cur.i, s.ctx.arrives (s.tick + 1) k)) (b := (j, c)) ?_ ?_ (fun h => hj (Prod.ext_iff.mp h).1.symm))
      (Nat.le_add_right _ _)
    · exact List.mem_filter.mpr ⟨mem_arrived hp k x y z, decide_eq_true h0⟩
    · exact List.mem_filter.mpr ⟨SMap.mem_of_look ((look_arrived_ne s k x y z hj).trans hc), decide_eq_true hc0⟩
  obtain ⟨ks, hres, hnodup, hks⟩ := State.resolve_waiting (s := u) (g := s.cur.g) s.cur.i (by rw [b.grp]; exact hall) (by rw [b.grp]; exact hlen)
  have hks : ∀ q, q ∈ ks ↔ 2 ≤ ((s.arrived k x y z).waitAt q).length := fun q => by
    rw [hks q, b.grp, hrecs]
    rfl
  obtain ⟨h', b', m⟩ := b.reunites (sat64_sat64 _) (sat64_sat64 _) (rising_arrived hp hr k x y z) hrecs hnodup
    (fun q hq h => by have := (hks q).mp hq; rw [h] at this; exact absurd this (by decide)) s.cur.i
  rw [← hres] at b'
  have ht := hsame (by rw [b'.grp, m.records, records_arrived])
  rw [← ht] at b'
  exact ⟨t, ks, x, y, z, he, ⟨b'.ci, b'.ct⟩, b'.only.mem, by rw [b'.grp]; exact m, hks⟩

end

section
variable {s : State} (hp : s.plain = true) (hr : s.me.ctxs.rising = true) (k : Nat)
include hp hr

/-- What has waited at a MERGE that fewer than two hold still waits there, and what two or more hold is reunited (05 R93, R94). -/
theorem merge_reunites (hrec : s.me.records = []) (h0 : s.ctx.p0 ≠ 0) (hanother : ∃ j c, j ≠ s.cur.i ∧ s.me.ctxs.look j = some c ∧ c.p0 ≠ 0)
    (hothers : ∀ j c, j ≠ s.cur.i → s.me.ctxs.look j = some c → c.p0 ≠ 0 → ∃ q, c.stop = .merge q) :
    ∃ t, exec (.merge k) s = .next t ∧ Paid 1 0 s t ∧ t.mem = s.mem ∧ KeepsLanes s.me (t.grp s.cur.g) ∧
      ∀ q, let ws := (s.arrivedAt k).waitAt q
        (∀ e, ws = [e] → ((t.grp s.cur.g).ctxs.look e.1).map Context.bare = some e.2.bare ∧ ((t.grp s.cur.g).ctx e.1).stop = .merge q) ∧
        (2 ≤ ws.length → ∃ e y, e ∈ ws ∧ (t.grp s.cur.g).ctxs.look e.1 = some y ∧ Reunited (ws.map Prod.snd) y ∧
          (s.myTeam.yieldPending = false → y.stop = .running) ∧ ∀ x ∈ ws, x.1 ≠ e.1 → (t.grp s.cur.g).ctxs.look x.1 = none) := by
  obtain ⟨t, ks, x, y, z, he, hpaid, hmem, m, hks⟩ := merge_all_wait hp hr k hrec h0 hanother hothers
  have hrising := rising_arrived hp hr k x y z
  refine ⟨t, he, hpaid, hmem, (keepsLanes_arrived s k x y z).trans m.lanes, fun q => ?_⟩
  have hws := map_waitAt_arrived hp hr k x y z q
  have hlen : ((s.arrived k x y z).waitAt q).length = ((s.arrivedAt k).waitAt q).length := by
    rw [← List.length_map (f := unissuedAt), hws, List.length_map]
  refine ⟨fun e hone => ?_, fun h2 => ?_⟩
  · rw [hone] at hws hlen
    obtain ⟨d, hd, hde⟩ := List.map_eq_singleton_iff.mp hws
    obtain ⟨hkey, hctx⟩ := Prod.ext_iff.mp hde
    have hmem : d ∈ (s.arrived k x y z).waitAt q := by rw [hd]; exact List.mem_singleton_self d
    obtain ⟨hlook, _, hstop⟩ := (mem_waitAt hrising).mp hmem
    have hstays : (t.grp s.cur.g).ctxs.look e.1 = some d.2 := by
      rw [← hlook, show e.1 = d.1 from hkey.symm]
      refine m.others d.1 (fun q' hq' hin => ?_)
      obtain ⟨c, hc, _, hcq⟩ := (mem_waitNos hrising).mp hin
      rw [hlook] at hc
      rw [← Option.some.inj hc, hstop] at hcq
      have := (hks q').mp hq'
      rw [← Stop.merge.inj hcq, hlen] at this
      exact absurd this (by simp)
    refine ⟨by rw [hstays]; exact congrArg some (bare_of_unissued hctx), ?_⟩
    unfold Group.ctx SMap.get
    rw [hstays]
    exact hstop
  · obtain ⟨d, y', hd, hlook, hre, hgo, hgone⟩ := m.reunited q ((hks q).mpr (by rw [hlen]; exact h2))
    have hin : unissuedAt d ∈ ((s.arrivedAt k).waitAt q).map unissuedAt := hws ▸ List.mem_map_of_mem hd
    obtain ⟨e, he', hed⟩ := List.mem_map.mp hin
    obtain ⟨hkey, _⟩ := Prod.ext_iff.mp hed
    have hkey : e.1 = d.1 := hkey
    refine ⟨e, y', he', by rw [hkey]; exact hlook, ?_, hgo.2, fun w hw hne => ?_⟩
    · refine Reunited.of_unissued ?_ hre
      have := congrArg (List.map Prod.snd) hws
      rw [List.map_map, List.map_map] at this
      rw [List.map_map, List.map_map]
      exact this
    · have hin : unissuedAt w ∈ ((s.arrived k x y z).waitAt q).map unissuedAt := hws ▸ List.mem_map_of_mem hw
      obtain ⟨w', hw', hww⟩ := List.mem_map.mp hin
      have hwkey : w'.1 = w.1 := (Prod.ext_iff.mp hww).1
      rw [← hwkey]
      exact hgone w' hw' (by rw [hwkey, ← hkey]; exact hne)

/-- Records parked at the one MERGE at which every context waits are reunited with them (05 R93). -/
theorem merge_parked (hne : s.savedRecords s.cur.g ≠ []) (h0 : s.ctx.p0 ≠ 0)
    (hrecs : ∀ r ∈ s.savedRecords s.cur.g, r.token = some k) (hothers : ∀ j c, j ≠ s.cur.i → s.me.ctxs.look j = some c → c.p0 ≠ 0 → c.stop = .merge k) :
    ∃ t j y, exec (.merge k) s = .next t ∧ KeepsLanes s.me (t.grp s.cur.g) ∧
      (t.grp s.cur.g).records = [] ∧ (t.grp s.cur.g).ctxs.look j = some y ∧ (∀ l c, l ≠ j → (t.grp s.cur.g).ctxs.look l = some c → c.p0 = 0) ∧
      Reunited (((s.arrivedAt k).waitAt k).map Prod.snd ++ (s.savedRecords s.cur.g).map Record.toContext) y ∧
      (s.myTeam.yieldPending = false → y.stop = .running) ∧
      (t.team s.me.team).ct = sat64 (sat64 s.myTeam.ct - 576 * ((s.savedRecords s.cur.g).length : Int)) := by
  have hdorm : ((s.savedRecords s.cur.g).filter (Record.dormantFor s.cur.i)).getLast? = none := by
    rw [List.filter_eq_nil_iff.mpr (fun r hr => by simp [Record.dormantFor, hrecs r hr])]
    rfl
  obtain ⟨x, y, z, u, t, b, he, hgroups, hteams, _⟩ := merge_waits hp k hdorm
  have hwaits := waits_arrived hp hr k x y z (w := fun c => c.stop = .merge k) rfl hothers
  have hres : u.resolve s.cur.g s.cur.i = u.reunite s.cur.g s.cur.i k := State.resolve_one _
    (by rw [b.grp]; exact holders_at hwaits hrecs) (by rw [b.grp]; exact holders_ne_nil (mem_arrived hp k x y z) h0)
  have hrising := rising_arrived hp hr k x y z
  have hin : (s.cur.i, s.ctx.arrives (s.tick + 1) k) ∈ (s.arrived k x y z).waitAt k :=
    (mem_waitAt hrising).mpr ⟨look_arrived s k x y z hp, h0, rfl⟩
  have hw : (s.arrived k x y z).waitAt k ≠ [] := List.ne_nil_of_mem hin
  have hparked : (s.arrived k x y z).records.filter (Record.waitsAt k) = s.savedRecords s.cur.g :=
    List.filter_eq_self.mpr (fun r hr => decide_eq_true (hrecs r hr))
  obtain ⟨w, bw, hre, hstop⟩ := b.reunite hw s.cur.i
  rw [hparked] at bw hstop
  rw [← hres] at bw
  have hgrp : t.grp s.cur.g = (s.arrived k x y z).merged s.cur.i k w := by
    rw [← bw.grp]
    unfold State.grp
    rw [hgroups]
  obtain ⟨e, hmem, hplace, hgone, hkept⟩ := look_merged hw s.cur.i w
  refine ⟨t, e.1, w, he, ?_, ?_, by rw [hgrp]; exact hplace, fun l c hl hc => ?_, ?_, ?_, ?_⟩
  · rw [hgrp]
    exact (keepsLanes_arrived s k x y z).trans (keepsLanes_merged _ s.cur.i k w)
  · rw [hgrp, records_merged, records_arrived]
    exact List.filter_eq_nil_iff.mpr (fun r hr => by simp [hrecs r hr])
  · rw [hgrp] at hc
    by_contra hc0
    by_cases hl2 : l ∈ (s.arrived k x y z).waitNos k
    · obtain ⟨d, hd, rfl⟩ := List.mem_map.mp hl2
      rw [hgone d hd hl] at hc
      exact absurd hc (by simp)
    · rw [hkept l hl2] at hc
      exact hl2 ((mem_waitNos hrising).mpr ⟨c, hc, hc0, hwaits (l, c) (SMap.mem_of_look hc) hc0⟩)
  · refine Reunited.of_unissued ?_ hre.reunited
    have hws := congrArg (List.map Prod.snd) (map_waitAt_arrived hp hr k x y z k)
    rw [List.map_map, List.map_map] at hws
    unfold Group.gathered
    rw [hparked, List.map_append, List.map_append, List.map_map, List.map_map, List.map_map]
    exact congrArg (· ++ _) hws
  · rw [hstop, if_neg (fun h => hne h.1)]
    exact (goesOn_onward s).2
  · unfold State.team
    rw [hteams]
    have := bw.ct
    rw [sub_zero] at this
    exact this

end

/-! ## A context with a dormant record is parked (05 R92) -/

/-- Record r takes context i of a group over. -/
def Group.takes (i : Nat) (r : Record) (g : Group) : Group :=
  { g with
    records := g.records.filter (fun x => x != r)
    ctxs := g.ctxs.ins i { r.toContext with lastIssue := (g.ctx i).lastIssue } }

theorem look_takes (i : Nat) (r : Record) (g : Group) :
    ∃ n, (g.takes i r).ctxs.look i = some { r.toContext with lastIssue := n } := ⟨_, SMap.look_ins_self _ _ _⟩

theorem look_takes_ne {i j : Nat} (h : j ≠ i) (r : Record) (g : Group) : (g.takes i r).ctxs.look j = g.ctxs.look j :=
  SMap.look_ins_ne _ _ _ _ h

theorem Became.takeOver {s t : State} {h : Group} {ci ct : Int} (b : Became s t h ci ct) (r : Record) :
    Became s (t.takeOver s.cur r) (h.takes s.cur.i r) (sat64 (ci - 0)) (sat64 (ct - 576)) :=
  (b.modGrp (F := Group.takes s.cur.i r) rfl).chargeAt 0 576

/-- The record that the context which issues leaves at MERGE k. -/
def State.leaves (s : State) (k : Nat) : Record := ⟨s.ctx.s, s.ctx.pc + 4, s.ctx.contpc, s.ctx.map, s.ctx.p0, some k, s.cur.i⟩

/-- The group in which the context that issues has left its record and r has taken it over. -/
def State.parked (s : State) (k x y : Nat) (z : Bool) (r : Record) : Group :=
  (((s.me.counted x y z).modCtx s.cur.i (Context.behind (s.tick + 1))).keeping (s.savedRecords s.cur.g ++ [s.leaves k])).takes s.cur.i r

theorem keepsLanes_takes (g : Group) (i : Nat) (r : Record) : KeepsLanes g (g.takes i r) := ⟨rfl, rfl, rfl, rfl⟩

theorem keepsLanes_parked (s : State) (k x y : Nat) (z : Bool) (r : Record) : KeepsLanes s.me (s.parked k x y z r) :=
  (keepsLanes_arrives s.me s.cur.i x y z (Context.behind (s.tick + 1)) (s.savedRecords s.cur.g ++ [s.leaves k])).trans
    (keepsLanes_takes _ s.cur.i r)

theorem records_parked (s : State) (k x y : Nat) (z : Bool) (r : Record) :
    (s.parked k x y z r).records = (s.savedRecords s.cur.g ++ [s.leaves k]).filter (fun x => x != r) := rfl

theorem ctx_parked (s : State) (k x y : Nat) (z : Bool) (r : Record) :
    ∃ n, (s.parked k x y z r).ctx s.cur.i = { r.toContext with lastIssue := n } := by
  obtain ⟨n, hn⟩ := look_takes s.cur.i r
    (((s.me.counted x y z).modCtx s.cur.i (Context.behind (s.tick + 1))).keeping (s.savedRecords s.cur.g ++ [s.leaves k]))
  exact ⟨n, congrArg (fun o : Option Context => o.getD Context.empty) hn⟩

theorem look_parked_ne (s : State) (k x y : Nat) (z : Bool) (r : Record) {j : Nat} (h : j ≠ s.cur.i) :
    (s.parked k x y z r).ctxs.look j = s.me.ctxs.look j :=
  (look_takes_ne h r _).trans (SMap.look_upd_ne s.me.ctxs s.cur.i j (Context.behind (s.tick + 1)) h)

/-- A context with a dormant record leaves one of its own, and that record runs in its place. -/
theorem merge_parks {s : State} (hp : s.plain = true) (k : Nat) {r : Record}
    (hd : ((s.savedRecords s.cur.g).filter (Record.dormantFor s.cur.i)).getLast? = some r) (hm : r.mask ≠ 0) :
    ∃ (x y : Nat) (z : Bool) (t : State), exec (.merge k) s = .next t ∧ t.grp s.cur.g = s.parked k x y z r ∧
      (t.team s.me.team).ci = sat64 (s.myTeam.ci - 1) ∧ (t.team s.me.team).ct = sat64 (sat64 (sat64 s.myTeam.ct - 576) - 576) := by
  obtain ⟨x, y, z, b⟩ := became_issue hp
  have b0 := b.advanceB
  have bf := b0.fetchRecords rfl
  have hcur := bf.cur
  have he : arrival k ((s.charge 1).advanceB.fetchRecords s.cur.g) = _ := arrival_parks k (r := r) (by rw [bf.me, hcur]; exact hd)
  have hctx : ((s.charge 1).advanceB.fetchRecords s.cur.g).ctx = s.ctx.behind (s.tick + 1) := by
    have hlook : (s.me.ctxs.upd s.cur.i (Context.behind (s.tick + 1))).look s.cur.i = some (s.ctx.behind (s.tick + 1)) := by
      rw [SMap.look_upd_self, plain_look hp]
      rfl
    unfold State.ctx Group.ctx SMap.get
    rw [bf.me, hcur]
    exact congrArg (Option.getD · Context.empty) hlook
  have hleaves : ((s.charge 1).advanceB.fetchRecords s.cur.g).ctx.toRecord ((s.charge 1).advanceB.fetchRecords s.cur.g).ctx.p0
      ((s.charge 1).advanceB.fetchRecords s.cur.g).ctx.pc (some k) s.cur.i = s.leaves k := by
    rw [hctx]
    rfl
  rw [hcur, hleaves] at he
  have bu := ((bf.modMe (F := fun g => g.keeping (g.records ++ [s.leaves k])) rfl).takeOver r).chargeAt 0 recordBytes
  rw [Group.keeping_keeping, Group.records_keeping] at bu
  rw [State.resolve_running] at he
  · rw [← he] at bu
    refine ⟨x, y, z, _, exec_merge k s, ?_, ?_, ?_⟩
    · unfold State.grp
      rw [withRecords_groups, b0.cur]
      exact bu.grp
    · unfold State.team
      rw [withRecords_teams, b0.cur]
      exact bu.ci.trans (by rw [sub_zero, sub_zero, sat64_sat64, sat64_sat64]; rfl)
    · unfold State.team
      rw [withRecords_teams, b0.cur]
      exact bu.ct.trans (by rw [sub_zero]; rfl)
  · refine ⟨(r.mask, none), ?_, rfl⟩
    obtain ⟨n, hn⟩ := look_takes s.cur.i r
      (((s.me.counted x y z).modCtx s.cur.i (Context.behind (s.tick + 1))).keeping (s.savedRecords s.cur.g ++ [s.leaves k]))
    rw [bu.grp]
    exact mem_holders.mpr (.inl ⟨_, SMap.mem_of_look hn, hm, rfl⟩)

/-! ## EXIT (05 R95, 06 R122) -/

/-- With nothing outstanding and nothing to deliver a drain point takes its effect (02 R27). -/
theorem drainPoint_passes {s : State} (save : Bool) (eff : Act) (hops : s.me.ops = []) (hfault : s.storeFault s.cur.g = none)
    (herr : s.me.engineErrs = []) (hflags : ∀ f, (s.me.flag f).err = none) : drainPoint save eff s = eff s := by
  have hdrained : s.me.drained s.cur.i save = true := by
    unfold Group.drained
    rw [hops]
    rfl
  have h1 : (if s.me.handler.isSome then none else s.storeFault s.cur.g) = none := by rw [hfault, ite_self]
  have h2 : (if s.inHandler then none else s.me.engineErrs.head?) = none := by rw [herr, List.head?_nil, ite_self]
  unfold drainPoint State.atDrain
  rw [if_pos hdrained, h1, h2, flagErr_none (fun f _ => hflags f)]

/-- What the bookkeeping of a retirement leaves of a group. -/
def Group.roster (g : Group) : SMap Context × List Record × List (Nat × Trap) × GroupKind × Nat × Nat := (g.ctxs, g.records, g.waiting, g.seat)

theorem roster_dropHandler (i : Nat) (g : Group) : (g.dropHandler i).roster = g.roster := by
  unfold Group.dropHandler
  split
  · split <;> rfl
  · rfl

@[simp] theorem Group.records_modCtx (g : Group) (i : Nat) (f : Context → Context) : (g.modCtx i f).records = g.records := rfl
@[simp] theorem Group.records_counted (g : Group) (x y : Nat) (z : Bool) : (g.counted x y z).records = g.records := rfl
@[simp] theorem Group.waiting_modCtx (g : Group) (i : Nat) (f : Context → Context) : (g.modCtx i f).waiting = g.waiting := rfl
@[simp] theorem Group.waiting_counted (g : Group) (x y : Nat) (z : Bool) : (g.counted x y z).waiting = g.waiting := rfl

theorem roster_finishOp (o : Op) (g : Group) : (g.finishOp o).roster = g.roster := by
  unfold Group.finishOp Group.clearFlag
  cases o.flag <;> rfl

theorem roster_dropHeld (i : Nat) (g : Group) : (g.dropHeld i).roster = g.roster := by
  unfold Group.dropHeld
  split
  · rfl
  · dsimp only
    split
    · exact roster_finishOp _ _
    · rfl

/-- The end of a retirement: merges are resolved, and the context that has no lanes is gone, and with the last its group. -/
def State.closes (c : CtxId) (s : State) : State :=
  let s4 := (s.resolve c.g c.i).modGrp c.g (fun g => if (g.ctx c.i).p0 = 0 then { g with ctxs := g.ctxs.del c.i } else g)
  if (s4.grp c.g).live = 0 then s4.modGrp c.g (fun g => { g with ended := true }) else s4

/-- The end of a retirement, or where the context has a dormant record, that record's. -/
def closing (c : CtxId) (s : State) : State :=
  match (s.grp c.g).dormantOf c.i with
  | some r => (s.takeOver c r).resolve c.g c.i
  | none => s.closes c

theorem closing_none {c : CtxId} {s : State} (h : (s.grp c.g).records = []) : closing c s = s.closes c := by
  unfold closing Group.dormantOf
  rw [h]
  rfl

/-- The context that issues has no lanes any more. -/
def State.emptied (s : State) : SMap Context := (s.me.ctxs.upd s.cur.i (Context.behind (s.tick + 1))).upd s.cur.i (fun x => { x with p0 := 0 })

/-- The threads of a context in some lanes. -/
def State.threadsIn (s : State) (c : CtxId) (lanes : Word) : List (Nat × Nat) :=
  (lanesOf (((s.grp c.g).ctx c.i).p0 &&& lanes)).map (fun l => ((s.grp c.g).gi, l))

/-- What happens as a context retires, before merges are resolved: its threads drop, and its handler and held instruction end. -/
def State.retiring (c : CtxId) (m : Nat) (ts : List (Nat × Nat)) (s : State) : State :=
  (s.dropThreads c.g m ts).modGrp c.g (fun g => (g.dropHandler c.i).dropHeld c.i)

/-- A group's context retires with its whole lane set. -/
theorem retire_all {s : State} {c : CtxId} {lanes : Word} (hleft : ((s.grp c.g).ctx c.i).p0 &&& ~~~lanes = 0) (hk : (s.grp c.g).kind = .group) :
    s.retire c lanes =
      let s4 := withRecords c.g (closing c)
        ((s.modCtxAt c (fun x => { x with p0 := 0 })).retiring c (s.grp c.g).team (s.threadsIn c lanes))
      if (s.grp c.g).handler.any (fun h => h.ctx = c.i) then s4.nextWaiting c.g else s4 := by
  unfold State.retire
  dsimp only
  rw [hleft, if_pos hk, if_neg (not_not.mpr rfl)]
  rfl

theorem yieldPending_dropThreads (s : State) (g : SlotRef) (m : Nat) (ts : List (Nat × Nat)) (k : Nat) :
    ((s.dropThreads g m ts).team k).yieldPending = (s.team k).yieldPending :=
  get_upd_view s.teams Team.empty m k _ Team.yieldPending (fun _ => rfl)

theorem Became.grp_retiring {s t : State} {h : Group} {ci ct : Int} (b : Became s t h ci ct) (m : Nat) (ts : List (Nat × Nat)) :
    (t.retiring s.cur m ts).grp s.cur.g = (h.dropHandler s.cur.i).dropHeld s.cur.i := by
  have hg : (t.dropThreads s.cur.g m ts).hasGrp s.cur.g = true := b.hasGrp
  refine (State.grp_modGrp _ _ _ _ hg).trans ((if_pos rfl).trans ?_)
  rw [← b.grp]
  rfl

/-- A group without records, once they are at hand. -/
theorem grp_fetch_nil {s : State} {g : SlotRef} (hg : s.hasGrp g = true) (hrec : (s.grp g).records = []) : (s.fetchRecords g).grp g = s.grp g := by
  rw [State.grp_fetchRecords hg, State.savedRecords_eq_nil.mpr hrec, ← hrec]
  rfl

theorem onward_congr {s t : State} {g : SlotRef} (hk : (t.grp g).seat = (s.grp g).seat)
    (hy : ∀ k, (t.team k).yieldPending = (s.team k).yieldPending) : t.onward g = s.onward g := by
  simp only [Group.seat, Prod.mk.injEq] at hk
  unfold State.onward
  rw [hk.1, hk.2.1, hy]

/-- The group without lanes in its issuing context, its records at hand. -/
theorem Became.fetch_retiring {s t : State} {h : Group} {ci ct : Int} (b : Became s t h ci ct) (hrec : h.records = []) (m : Nat)
    (ts : List (Nat × Nat)) : ∃ u, u = (t.retiring s.cur m ts).fetchRecords s.cur.g ∧ u.hasGrp s.cur.g = true ∧
      (u.grp s.cur.g).roster = h.roster ∧ u.onward s.cur.g = s.onward s.cur.g := by
  have hg : (t.retiring s.cur m ts).hasGrp s.cur.g = true :=
    (State.hasGrp_modGrp (t.dropThreads s.cur.g m ts) s.cur.g s.cur.g _).trans b.hasGrp
  have hroster : ((t.retiring s.cur m ts).grp s.cur.g).roster = h.roster := by
    rw [b.grp_retiring, roster_dropHeld, roster_dropHandler]
  have hrecs : ((t.retiring s.cur m ts).grp s.cur.g).records = [] := (congrArg (fun r => r.2.1) hroster).trans hrec
  refine ⟨_, rfl, ((onlySlot_fetchRecords _ _).hasGrp _).trans hg, by rw [grp_fetch_nil hg hrecs, hroster], onward_congr ?_ (fun k => ?_)⟩
  · rw [grp_fetch_nil hg hrecs]
    exact (congrArg (fun r => r.2.2.2) hroster).trans b.seat
  · refine (congrArg Team.yieldPending (?_ : State.team _ k = (t.retiring s.cur m ts).team k)).trans
      ((yieldPending_dropThreads t s.cur.g m ts k).trans (b.only.yieldPending k))
    unfold State.team
    rw [State.teams_fetchRecords]

theorem withRecords_grp (g : SlotRef) (eff : Act) (s : State) : (withRecords g eff s).grp g = (eff (s.fetchRecords g)).grp g := by
  unfold State.grp
  rw [withRecords_groups]

theorem nextWaiting_none {g : SlotRef} {s : State} (h : (s.grp g).waiting = []) : s.nextWaiting g = s := by
  unfold State.nextWaiting
  rw [h]

/-- EXIT as its context has lost its lanes, where merges are then resolved. -/
theorem exit_closes {s : State} (hp : s.plain = true) (hk : s.me.kind = .group) (hops : s.me.ops = []) (hfault : s.storeFault s.cur.g = none)
    (herr : s.me.engineErrs = []) (hflags : ∀ f, (s.me.flag f).err = none) (hrec : s.me.records = []) (hwait : s.me.waiting = []) :
    ∃ u t : State, exec .exit s = .next t ∧ u.hasGrp s.cur.g = true ∧ (u.grp s.cur.g).ctxs = s.emptied ∧ (u.grp s.cur.g).records = [] ∧
      (u.grp s.cur.g).waiting = [] ∧ u.onward s.cur.g = s.onward s.cur.g ∧
      (((u.closes s.cur).grp s.cur.g).waiting = [] → t.grp s.cur.g = (u.closes s.cur).grp s.cur.g) := by
  obtain ⟨x, y, z, b⟩ := became_issue hp
  have b0 := b.advanceB
  have hlook : (s.me.ctxs.upd s.cur.i (Context.behind (s.tick + 1))).look s.cur.i = some (s.ctx.behind (s.tick + 1)) := by
    rw [SMap.look_upd_self, plain_look hp]
    rfl
  have hp0 : (((s.charge 1).advanceB.grp s.cur.g).ctx s.cur.i).p0 = s.laneSet := by
    rw [b0.grp]
    have hp0 := congrArg (fun o : Option Context => (o.getD Context.empty).p0) hlook
    exact hp0
  have he : exec .exit s = .next ((s.charge 1).advanceB.retire s.cur s.laneSet) := by
    refine congrArg Host.Outcome.next ((guarded_passes _ _ _ _ (decide_eq_false (not_not.mpr hk))).trans ?_)
    exact drainPoint_passes false _ hops hfault herr hflags
  have b1 : Became s ((s.charge 1).advanceB.modCtxAt s.cur (fun x => { x with p0 := 0 })) _ _ _ := b0.modGrp rfl
  rw [retire_all (by rw [hp0]; simp) (by rw [b0.grp]; exact hk)] at he
  obtain ⟨u, hu, hg, hroster, hon⟩ := b1.fetch_retiring (by simpa using hrec) ((s.charge 1).advanceB.grp s.cur.g).team
    ((s.charge 1).advanceB.threadsIn s.cur s.laneSet)
  simp only [Group.roster, Prod.mk.injEq, Group.records_modCtx, Group.records_counted, Group.waiting_modCtx, Group.waiting_counted, hrec,
    hwait] at hroster
  obtain ⟨hctxs, hrecs, hwaits, _⟩ := hroster
  refine ⟨u, _, he, hg, hctxs, hrecs, hwaits, hon, fun hw => ?_⟩
  have hs4 := withRecords_grp s.cur.g (closing s.cur) (((s.charge 1).advanceB.modCtxAt s.cur (fun x => { x with p0 := 0 })).retiring s.cur
    ((s.charge 1).advanceB.grp s.cur.g).team ((s.charge 1).advanceB.threadsIn s.cur s.laneSet))
  rw [← hu, closing_none hrecs] at hs4
  dsimp only
  split
  · rw [nextWaiting_none ((congrArg Group.waiting hs4).trans hw)]
    exact hs4
  · exact hs4

/-! ## What EXIT leaves of its group -/

section
variable {s : State} (hp : s.plain = true)

theorem emptied_eq (s : State) : s.emptied = s.me.ctxs.upd s.cur.i (fun c => { c.behind (s.tick + 1) with p0 := 0 }) := SMap.upd_upd _ _ _ _

theorem look_emptied_ne (s : State) {j : Nat} (h : j ≠ s.cur.i) : s.emptied.look j = s.me.ctxs.look j := by
  rw [emptied_eq, SMap.look_upd_ne _ _ _ _ h]

include hp in
theorem look_emptied : s.emptied.look s.cur.i = some { s.ctx.behind (s.tick + 1) with p0 := 0 } := by
  rw [emptied_eq, SMap.look_upd_self, plain_look hp]
  rfl

include hp in
theorem rising_emptied (hr : s.me.ctxs.rising = true) : s.emptied.rising = true := by
  rw [emptied_eq, SMap.upd_eq_ins hr (plain_look hp)]
  exact SMap.rising_ins _ _ _ hr

end

/-- The context without lanes is gone from its group, and with the last of its contexts the group. -/
theorem grp_closes {c : CtxId} {s r : State} (hres : s.resolve c.g c.i = r) (hg : r.hasGrp c.g = true) (h0 : ((r.grp c.g).ctx c.i).p0 = 0) :
    ((s.closes c).grp c.g).ctxs = (r.grp c.g).ctxs.del c.i ∧ ((s.closes c).grp c.g).waiting = (r.grp c.g).waiting ∧
      ((r.grp c.g).records = [] → (r.grp c.g).ctxs.del c.i = [] → ((s.closes c).grp c.g).ended = true) := by
  have hdel := State.grp_modGrp r c.g c.g (fun g => if (g.ctx c.i).p0 = 0 then { g with ctxs := g.ctxs.del c.i } else g) hg
  rw [if_pos rfl, if_pos h0] at hdel
  unfold State.closes
  rw [hres]
  dsimp only
  rw [hdel]
  split
  case isTrue =>
    rw [State.grp_modGrp _ _ _ _ ((State.hasGrp_modGrp _ _ _ _).trans hg), if_pos rfl, hdel]
    exact ⟨rfl, rfl, fun _ _ => rfl⟩
  case isFalse hlive =>
    rw [hdel]
    refine ⟨rfl, rfl, fun hrec hctxs => absurd ?_ hlive⟩
    unfold Group.live
    dsimp only
    rw [hrec, hctxs]
    rfl

section
variable {s u : State} (hp : s.plain = true) (hg : u.hasGrp s.cur.g = true) (hctxs : (u.grp s.cur.g).ctxs = s.emptied)
  (hrec : (u.grp s.cur.g).records = [])
include hp hctxs

theorem ctx_emptied : ((u.grp s.cur.g).ctx s.cur.i).p0 = 0 := by
  unfold Group.ctx SMap.get
  rw [hctxs, look_emptied hp]
  rfl

include hg hrec

/-- The last context of a group ends it (05 R95). -/
theorem closes_lone (hlone : s.me.ctxs = [(s.cur.i, s.ctx)]) : ((u.closes s.cur).grp s.cur.g).ctxs = [] ∧
    ((u.closes s.cur).grp s.cur.g).waiting = (u.grp s.cur.g).waiting ∧ ((u.closes s.cur).grp s.cur.g).ended = true := by
  have hone : s.emptied = [(s.cur.i, { s.ctx.behind (s.tick + 1) with p0 := 0 })] := by
    rw [emptied_eq, hlone]
    simp [SMap.upd]
  have hholders : (u.grp s.cur.g).holders = [] := by
    unfold Group.holders
    rw [hctxs, hrec, hone]
    rfl
  have hres : u.resolve s.cur.g s.cur.i = u := by
    unfold State.resolve
    dsimp only
    rw [hholders]
  have hdel : (u.grp s.cur.g).ctxs.del s.cur.i = [] := by
    rw [hctxs, hone]
    simp [SMap.del]
  obtain ⟨h1, h2, h3⟩ := grp_closes hres hg (ctx_emptied hp hctxs)
  exact ⟨h1.trans hdel, h2, h3 hrec hdel⟩

omit hrec in
/-- Among running contexts only the one that ends goes. -/
theorem closes_among_running (hrun : ∃ j c, j ≠ s.cur.i ∧ s.me.ctxs.look j = some c ∧ c.p0 ≠ 0 ∧ c.stop = .running) :
    ((u.closes s.cur).grp s.cur.g).ctxs = s.emptied.del s.cur.i ∧ ((u.closes s.cur).grp s.cur.g).waiting = (u.grp s.cur.g).waiting := by
  obtain ⟨j, c, hj, hc, h0, hstop⟩ := hrun
  have hres : u.resolve s.cur.g s.cur.i = u := State.resolve_running _ ⟨(c.p0, c.token), mem_holders.mpr (.inl ⟨(j, c), by
    rw [hctxs]
    exact SMap.mem_of_look ((look_emptied_ne s hj).trans hc), h0, rfl⟩), by
    unfold Context.token
    rw [hstop]⟩
  obtain ⟨h1, h2, _⟩ := grp_closes hres hg (ctx_emptied hp hctxs)
  exact ⟨by rw [h1, hctxs], h2⟩

omit hg hrec in
/-- What waits at a MERGE once the context has lost its lanes is what waits there without it. -/
theorem mem_waitAt_emptied (hr : s.me.ctxs.rising = true) (q : Nat) (x : Nat × Context) :
    x ∈ (u.grp s.cur.g).waitAt q ↔ x ∈ (s.me.withCtxs (s.me.ctxs.del s.cur.i)).waitAt q := by
  rw [mem_waitAt (by rw [hctxs]; exact rising_emptied hp hr), mem_waitAt (SMap.rising_del _ _ hr), hctxs]
  change _ ↔ (s.me.ctxs.del s.cur.i).look x.1 = _ ∧ _
  by_cases hx : x.1 = s.cur.i
  · rw [hx, look_emptied hp, SMap.look_del_self]
    exact iff_of_false (fun h => h.2.1 (by rw [← Option.some.inj h.1])) (fun h => absurd h.1 (by simp))
  · rw [look_emptied_ne s hx, SMap.look_del_ne _ _ _ hx]

omit hg hrec in
/-- A context that has lanes still is another than the one that ends. -/
theorem other_of_lanes (hr : s.me.ctxs.rising = true) {e : Nat × Context} (he : e ∈ (u.grp s.cur.g).ctxs) (h0 : e.2.p0 ≠ 0) :
    e.1 ≠ s.cur.i ∧ s.me.ctxs.look e.1 = some e.2 := by
  rw [hctxs] at he
  have hl := SMap.look_of_mem (rising_emptied hp hr) he
  by_cases hi : e.1 = s.cur.i
  · rw [hi, look_emptied hp] at hl
    exact absurd (by rw [← Option.some.inj hl]) h0
  · rw [look_emptied_ne s hi] at hl
    exact ⟨hi, hl⟩

/-- The contexts that then all wait at one MERGE are reunited (05 R95). -/
theorem closes_reunites {q : Nat} (hr : s.me.ctxs.rising = true) (hon : u.onward s.cur.g = s.onward s.cur.g)
    (hanother : ∃ j c, j ≠ s.cur.i ∧ s.me.ctxs.look j = some c ∧ c.p0 ≠ 0)
    (hothers : ∀ j c, j ≠ s.cur.i → s.me.ctxs.look j = some c → c.p0 ≠ 0 → c.stop = .merge q) :
    ((u.closes s.cur).grp s.cur.g).waiting = (u.grp s.cur.g).waiting ∧ ((u.closes s.cur).grp s.cur.g).ctxs.look s.cur.i = none ∧
      ∃ e y, e ∈ (s.me.withCtxs (s.me.ctxs.del s.cur.i)).waitAt q ∧ ((u.closes s.cur).grp s.cur.g).ctxs.look e.1 = some y ∧
        Reunited (((s.me.withCtxs (s.me.ctxs.del s.cur.i)).waitAt q).map Prod.snd) y ∧ (s.myTeam.yieldPending = false → y.stop = .running) ∧
        ∀ x ∈ (s.me.withCtxs (s.me.ctxs.del s.cur.i)).waitAt q, x.1 ≠ e.1 → ((u.closes s.cur).grp s.cur.g).ctxs.look x.1 = none := by
  have hrising : (u.grp s.cur.g).ctxs.rising = true := by rw [hctxs]; exact rising_emptied hp hr
  have hmem := mem_waitAt_emptied hp hctxs hr q
  have hwaits : ∀ e ∈ (u.grp s.cur.g).ctxs, e.2.p0 ≠ 0 → e.2.stop = .merge q := fun e he h0 => by
    obtain ⟨hi, hl⟩ := other_of_lanes hp hctxs hr he h0
    exact hothers e.1 e.2 hi hl h0
  obtain ⟨j, c, hj, hc, hc0⟩ := hanother
  have hjin : (j, c) ∈ (u.grp s.cur.g).ctxs := by rw [hctxs]; exact SMap.mem_of_look ((look_emptied_ne s hj).trans hc)
  have hw : (u.grp s.cur.g).waitAt q ≠ [] :=
    List.ne_nil_of_mem ((mem_waitAt hrising (e := (j, c))).mpr ⟨SMap.look_of_mem hrising hjin, hc0, hothers j c hj hc hc0⟩)
  have hres := State.resolve_one (s := u) (g := s.cur.g) s.cur.i
    (holders_at hwaits (fun r hr => absurd (hrec ▸ hr) List.not_mem_nil)) (holders_ne_nil hjin hc0)
  obtain ⟨F, y, he, hF, hy, hstop⟩ := State.reunite_eq (s := u) (g := s.cur.g) s.cur.i hw
  rw [he] at hres
  have hgrp : ((u.modGrp s.cur.g F).chargeAt s.cur.g 0 (576 * (((u.grp s.cur.g).records.filter (Record.waitsAt q)).length : Int))).grp s.cur.g =
      (u.grp s.cur.g).merged s.cur.i q y := by
    unfold State.grp
    rw [State.chargeAt_groups]
    exact (State.grp_modGrp u _ _ F hg).trans ((if_pos rfl).trans hF)
  obtain ⟨e, hein, hplace, hgone, hkept⟩ := look_merged hw s.cur.i y
  have hno : ∀ x ∈ (u.grp s.cur.g).waitAt q, x.1 ≠ s.cur.i := fun x hx => by
    obtain ⟨hl, hx0, _⟩ := (mem_waitAt hrising).mp hx
    exact (other_of_lanes hp hctxs hr (SMap.mem_of_look hl) hx0).1
  have hnotin : s.cur.i ∉ (u.grp s.cur.g).waitNos q := fun h => by
    obtain ⟨x, hx, hxi⟩ := List.mem_map.mp h
    exact hno x hx hxi
  have hzero : (((u.grp s.cur.g).merged s.cur.i q y).ctx s.cur.i).p0 = 0 := by
    unfold Group.ctx SMap.get
    rw [hkept _ hnotin]
    exact ctx_emptied hp hctxs
  obtain ⟨h1, h2, _⟩ := grp_closes hres (by
    unfold State.hasGrp
    rw [State.chargeAt_groups]
    exact (State.hasGrp_modGrp u s.cur.g s.cur.g F).trans hg) (by rw [hgrp]; exact hzero)
  rw [hgrp] at h1 h2
  refine ⟨h2, by rw [h1, SMap.look_del_self], e, y, (hmem e).mp hein, ?_, ?_, ?_, fun x hx hne => ?_⟩
  · rw [h1, SMap.look_del_ne _ _ _ (hno e hein), hplace]
  · have hre := hy.reunited
    rw [Group.gathered, hrec, List.filter_nil, List.map_nil, List.append_nil] at hre
    exact hre.congr (fun c => by simp only [List.mem_map, hmem])
  · rw [hstop, hon]
    intro hyp
    rw [(goesOn_onward s).2 hyp, ite_self]
  · rw [h1, SMap.look_del_ne _ _ _ (hno x ((hmem x).mpr hx))]
    exact hgone x ((hmem x).mpr hx) hne

end

theorem fetched_records {s : State} (hp : s.plain = true) : (s.fetchRecords s.cur.g).me.records = s.savedRecords s.cur.g := by
  unfold State.me
  rw [(onlySlot_fetchRecords s s.cur.g).cur, State.grp_fetchRecords (plain_hasGrp hp), Group.records_keeping]

/-- EXIT waits for what is outstanding, but for an instruction that the group's handler is to complete (02 R27; log 99). -/
theorem exit_waits {s : State} (hk : s.me.kind = .group) (ho : ∃ o ∈ s.me.ops, ¬(o.gate = true ∧ o.ctx = s.cur.i)) : exec .exit s = .next s := by
  obtain ⟨o, hmem, hno⟩ := ho
  have hdrained : ¬s.me.drained s.cur.i false = true := fun h => hno (by
    have := List.all_eq_true.mp h o hmem
    simpa using this)
  exact congrArg Host.Outcome.next ((guarded_passes _ _ _ _ (decide_eq_false (not_not.mpr hk))).trans (if_neg hdrained))

/-- EXIT with nothing outstanding and nothing to deliver ends its context (06 R122). -/
theorem exit_ends {s : State} (hp : s.plain = true) (hk : s.me.kind = .group) (hops : s.me.ops = []) (hfault : s.storeFault s.cur.g = none)
    (herr : s.me.engineErrs = []) (hflags : ∀ f, (s.me.flag f).err = none) (hrec : s.me.records = []) (hwait : s.me.waiting = []) :
    ∃ t, exec .exit s = .next t ∧
      (s.me.ctxs = [(s.cur.i, s.ctx)] → (t.grp s.cur.g).ctxs = [] ∧ (t.grp s.cur.g).ended = true) ∧
      ((∃ j c, j ≠ s.cur.i ∧ s.me.ctxs.look j = some c ∧ c.p0 ≠ 0 ∧ c.stop = .running) →
        (t.grp s.cur.g).ctxs.look s.cur.i = none ∧
        ∀ j, j ≠ s.cur.i → ((t.grp s.cur.g).ctxs.look j).map Context.bare = (s.me.ctxs.look j).map Context.bare) ∧
      ∀ q, s.me.ctxs.rising = true → (∃ j c, j ≠ s.cur.i ∧ s.me.ctxs.look j = some c ∧ c.p0 ≠ 0) →
        (∀ j c, j ≠ s.cur.i → s.me.ctxs.look j = some c → c.p0 ≠ 0 → c.stop = .merge q) →
        (t.grp s.cur.g).ctxs.look s.cur.i = none ∧
        let ws := (s.me.withCtxs (s.me.ctxs.del s.cur.i)).waitAt q
        ∃ e y, e ∈ ws ∧ (t.grp s.cur.g).ctxs.look e.1 = some y ∧ Reunited (ws.map Prod.snd) y ∧
          (s.myTeam.yieldPending = false → y.stop = .running) ∧ ∀ x ∈ ws, x.1 ≠ e.1 → (t.grp s.cur.g).ctxs.look x.1 = none := by
  obtain ⟨u, t, he, hg, hctxs, hrecs, hwaits, hon, ht⟩ := exit_closes hp hk hops hfault herr hflags hrec hwait
  refine ⟨t, he, fun hlone => ?_, fun hrun => ?_, fun q hr hanother hothers => ?_⟩
  · obtain ⟨hnone, hw, hended⟩ := closes_lone hp hg hctxs hrecs hlone
    rw [ht (hw.trans hwaits)]
    exact ⟨hnone, hended⟩
  · obtain ⟨hdel, hw⟩ := closes_among_running hp hg hctxs hrun
    rw [ht (hw.trans hwaits), hdel]
    exact ⟨SMap.look_del_self _ _, fun j hj => by rw [SMap.look_del_ne _ _ _ hj, look_emptied_ne s hj]⟩
  · obtain ⟨hw, hnone, hre⟩ := closes_reunites hp hg hctxs hrecs hr hon hanother hothers
    rw [ht (hw.trans hwaits)]
    exact ⟨hnone, hre⟩

/-- Settles O16: MERGE by `merge_alone`, `merge_among_running`, `merge_parks`, `merge_reunites` and `merge_parked`, which tell what an
arrival resolves, and EXIT by `exit_ends` and `exit_waits`. -/
theorem mergeAndExit : Obligations.MergeAndExit := by
  unfold Obligations.MergeAndExit
  intro s k hp i recs others another sorted all keeps
  have hrecs : recs = s.savedRecords s.cur.g := fetched_records hp
  clear_value recs
  subst hrecs
  refine ⟨merge_alone hp k, merge_among_running hp k, fun r hd hm => ?_, fun hs hrec h0 hanother hothers => ?_,
    fun hs hne h0 htok hothers => ?_, fun hk hops hfault herr hflags hrec hwait => ?_, exit_waits, fun hk => ?_⟩
  · obtain ⟨x, y, z, t, he, hgrp, hci, hct⟩ := merge_parks hp k hd hm
    obtain ⟨n, hy⟩ := ctx_parked s k x y z r
    refine ⟨t, he, ?_⟩
    rw [hgrp]
    dsimp only
    rw [hy]
    exact ⟨records_parked s k x y z r, rfl, rfl, rfl, rfl, rfl, rfl, rfl, fun j => look_parked_ne s k x y z r, keepsLanes_parked s k x y z r, hci, hct⟩
  · exact merge_reunites hp (SMap.rising_of_sorted hs) k (State.savedRecords_eq_nil.mp hrec) h0 hanother hothers
  · exact merge_parked hp (SMap.rising_of_sorted hs) k hne h0 (fun r hr => (htok r hr).1) hothers
  · obtain ⟨t, he, hlone, hrun, hre⟩ := exit_ends hp hk hops hfault herr hflags hrec hwait
    exact ⟨t, he, hlone, hrun, fun q hs => hre q (SMap.rising_of_sorted hs)⟩
  · exact congrArg Host.Outcome.next (guarded_fails _ _ _ _ (decide_eq_true hk))

end Sys2Proof.Machine
